-- ==== Sys2Proof/Word.lean ====
section
/-!
DEFINITION. The word types of the module: registers are 32 bits wide (R9), memory is addressed by the byte, and a
multi-byte value is little-endian wherever the module defines it (R8).
-/
namespace Sys2Proof

/-- One byte of any memory. -/
abbrev Byte := BitVec 8

/-- A register, or one lane of a vector register. -/
abbrev Word := BitVec 32

/-- A doubleword: a scalar register of the control core, a page-table entry. -/
abbrev DWord := BitVec 64

/-- An engine command, 32 bytes as eight 32-bit words, word 0 in the low bits (R219). -/
abbrev Command := BitVec 256

end Sys2Proof
end

