-- ==== Sys2Proof/Syntax.lean ====
section
/-!
DEFINITION. The commands of the module: one constructor for each row of the opcode table, in the table's order, named by the
row's mnemonic. Operands are what the step needs from outside: which core, partition, port or function, a value a host
writes, a frame or packet that arrives, a condition the outside world decides. What the device already holds (the command at
the head of a queue, the instruction at a PC, a descriptor in memory) is read from the state.
-/
namespace Sys2Proof

/-- A logical core, 0-127 (R16). -/
abbrev CoreId := Fin 128

/-- A partition, 0-15. -/
abbrev PartId := Fin 16

/-- A PCI Express function: 0 the PF, 1-16 the VFs (R492). -/
abbrev FnId := Fin 17

/-- An Ethernet port, 0-7. -/
abbrev PortId := Fin 8

/-- The commands, one per row of the opcode table. -/
inductive Instr where
  /-- REGISTER_WRITE (R10): A host write to a register or field with no row of its own takes effect by its access code, host write first under R12. offset is that in the BAR0 of the function. -/
  | registerWrite (fn : FnId) (offset : Fin 67108864) (value : Word)
  /-- SLOT_FAILURE (R20): A physical core slot fails; the logical core is spared, or is left with no slot and its cluster is marked DEGRADED. readable says whether what the slot holds can still be read. -/
  | slotFailure (core : CoreId) (readable : Bool)
  /-- LINK_CHECK_FAIL (R27): A die-to-die transfer fails its check code and is retried at link level; the link error counter and the threshold event move. -/
  | linkCheckFail (link : Fin 10)
  /-- MX_MM (R92): Matrix product command: checks, prescan, passes, glaze and output, or a prescan table, or partial window records. -/
  | mxMm (core : CoreId)
  /-- MX_EARLY_START (R86): The array starts the prescan and first load of the next mx.mm while the last pass of the current command streams. -/
  | mxEarlyStart (core : CoreId)
  /-- MX_GANG_RELEASE (R88): An mx.mm with GANG = 1 is released in the first cycle in which every member of its set has arrived. -/
  | mxGangRelease
  /-- MX_WSUM (R96): Adds two arrays of window records into a destination array. -/
  | mxWsum (core : CoreId)
  /-- MX_WFIN (R98): Rounds an array of window records through the glaze stage to the output format. -/
  | mxWfin (core : CoreId)
  /-- SP_MV (R109): Thin matrix product on the siphon path, in exact or FP32 accumulation. -/
  | spMv (core : CoreId)
  /-- SP_GANG_RELEASE (R110): An sp.mv with GANG = 1 is released when every member of its set has arrived. -/
  | spGangRelease
  /-- SIPHON_TAKE_COMMAND (R106): At a command boundary the siphon path takes its next command from MXQ or SPQ under rotating priority. -/
  | siphonTakeCommand (core : CoreId)
  /-- SIPHON_EARLY_START (R118): The siphon path begins the next command's prescan during the 16-cycle drain of the current one. -/
  | siphonEarlyStart (core : CoreId)
  /-- ENGINE_COMMAND_RETIRE (R228): A command retires once all its effects are complete; its counts are added and its gate signal is applied. Queue: 0 MXQ, 1 SPQ, 2 VXQ, 3 CPQ0, 4 CPQ1, 5 SYQ. -/
  | engineCommandRetire (core : CoreId) (queue : Fin 6)
  /-- GATE_RELEASE (R226): A gated command at its queue head is granted its semaphore wait, consumes a unit and is released to its engine. -/
  | gateRelease (core : CoreId) (sem : Fin 64)
  /-- VX_SETVL (R140): Sets VL from IMM. -/
  | vxSetvl (core : CoreId)
  /-- VX_LD (R132): Loads memory elements into a vector register. -/
  | vxLd (core : CoreId)
  /-- VX_ST (R132): Stores the elements of a vector register to memory. -/
  | vxSt (core : CoreId)
  /-- VX_LDCVT (R148): Loads memory elements of any format and converts them to a register format. -/
  | vxLdcvt (core : CoreId)
  /-- VX_STCVT (R138): Converts register elements and stores them in any memory format, whole blocks included. -/
  | vxStcvt (core : CoreId)
  /-- VX_LDM (R140): Loads a mask register from 256 bytes of memory. -/
  | vxLdm (core : CoreId)
  /-- VX_STM (R140): Stores a mask register to 256 bytes of memory. -/
  | vxStm (core : CoreId)
  /-- VX_ADD (R142): Floating addition. -/
  | vxAdd (core : CoreId)
  /-- VX_SUB (R142): Floating subtraction. -/
  | vxSub (core : CoreId)
  /-- VX_MUL (R142): Floating multiplication. -/
  | vxMul (core : CoreId)
  /-- VX_FMA (R142): Fused VA × VB + VC. -/
  | vxFma (core : CoreId)
  /-- VX_FMS (R142): Fused VA × VB − VC. -/
  | vxFms (core : CoreId)
  /-- VX_FNMA (R142): Fused −(VA × VB) + VC. -/
  | vxFnma (core : CoreId)
  /-- VX_MIN (R143): Floating minimum. -/
  | vxMin (core : CoreId)
  /-- VX_MAX (R143): Floating maximum. -/
  | vxMax (core : CoreId)
  /-- VX_ABS (R143): Clears the sign bit. -/
  | vxAbs (core : CoreId)
  /-- VX_NEG (R143): Inverts the sign bit. -/
  | vxNeg (core : CoreId)
  /-- VX_COPYSIGN (R143): Magnitude of VA with the sign of VB. -/
  | vxCopysign (core : CoreId)
  /-- VX_IADD (R144): Wrapping integer addition. -/
  | vxIadd (core : CoreId)
  /-- VX_ISUB (R144): Wrapping integer subtraction. -/
  | vxIsub (core : CoreId)
  /-- VX_IMUL (R144): Low half of an integer product. -/
  | vxImul (core : CoreId)
  /-- VX_IADDS (R144): Saturating integer addition. -/
  | vxIadds (core : CoreId)
  /-- VX_ISUBS (R144): Saturating integer subtraction. -/
  | vxIsubs (core : CoreId)
  /-- VX_IMIN (R144): Signed integer minimum. -/
  | vxImin (core : CoreId)
  /-- VX_IMAX (R144): Signed integer maximum. -/
  | vxImax (core : CoreId)
  /-- VX_IABS (R144): Saturating integer absolute value. -/
  | vxIabs (core : CoreId)
  /-- VX_AND (R140): Bitwise and. -/
  | vxAnd (core : CoreId)
  /-- VX_OR (R140): Bitwise or. -/
  | vxOr (core : CoreId)
  /-- VX_XOR (R140): Bitwise exclusive or. -/
  | vxXor (core : CoreId)
  /-- VX_SHL (R144): Left shift by VB modulo the element width. -/
  | vxShl (core : CoreId)
  /-- VX_SHRA (R144): Arithmetic right shift. -/
  | vxShra (core : CoreId)
  /-- VX_SHRL (R144): Logical right shift. -/
  | vxShrl (core : CoreId)
  /-- VX_IOTA (R140): Writes each element's index, wrapping at the element width. -/
  | vxIota (core : CoreId)
  /-- VX_CMP_EQ (R145): Equality comparison into a mask register. -/
  | vxCmpEq (core : CoreId)
  /-- VX_CMP_NE (R145): Inequality comparison into a mask register. -/
  | vxCmpNe (core : CoreId)
  /-- VX_CMP_LT (R145): Less-than comparison into a mask register. -/
  | vxCmpLt (core : CoreId)
  /-- VX_CMP_LE (R145): Less-or-equal comparison into a mask register. -/
  | vxCmpLe (core : CoreId)
  /-- VX_CMP_GT (R145): Greater-than comparison into a mask register. -/
  | vxCmpGt (core : CoreId)
  /-- VX_CMP_GE (R145): Greater-or-equal comparison into a mask register. -/
  | vxCmpGe (core : CoreId)
  /-- VX_CMP_UNO (R145): Unordered comparison into a mask register. -/
  | vxCmpUno (core : CoreId)
  /-- VX_SEL (R140): Selects VA or VB per element under mask MSEL. -/
  | vxSel (core : CoreId)
  /-- VX_CVT (R146): Converts between register formats with the lane mapping of R146. -/
  | vxCvt (core : CoreId)
  /-- VX_RSUM (R147): Sum reduction over the fixed tree. -/
  | vxRsum (core : CoreId)
  /-- VX_RMAX (R147): Maximum reduction over the fixed tree. -/
  | vxRmax (core : CoreId)
  /-- VX_RMIN (R147): Minimum reduction over the fixed tree. -/
  | vxRmin (core : CoreId)
  /-- VX_MAND (R141): Mask and. -/
  | vxMand (core : CoreId)
  /-- VX_MOR (R141): Mask or. -/
  | vxMor (core : CoreId)
  /-- VX_MXOR (R141): Mask exclusive or. -/
  | vxMxor (core : CoreId)
  /-- VX_MANDN (R141): Mask and-not. -/
  | vxMandn (core : CoreId)
  /-- VX_MNOT (R141): Mask not. -/
  | vxMnot (core : CoreId)
  /-- VX_MSET (R141): Sets mask bits below E. -/
  | vxMset (core : CoreId)
  /-- VX_MCLR (R141): Clears a mask. -/
  | vxMclr (core : CoreId)
  /-- VX_MCNT (R140): Counts the set mask bits below E. -/
  | vxMcnt (core : CoreId)
  /-- VX_MFIRST (R140): Index of the first set mask bit, or E when none is set. -/
  | vxMfirst (core : CoreId)
  /-- VX_MOV (R146): Copies register bits unchanged. -/
  | vxMov (core : CoreId)
  /-- SF_EXP (R164): sf.eval of e^x. -/
  | sfExp (core : CoreId)
  /-- SF_EXP2 (R164): sf.eval of 2^x. -/
  | sfExp2 (core : CoreId)
  /-- SF_LOG (R164): sf.eval of ln x. -/
  | sfLog (core : CoreId)
  /-- SF_LOG2 (R164): sf.eval of log2 x. -/
  | sfLog2 (core : CoreId)
  /-- SF_RECIP (R164): sf.eval of 1/x, correctly rounded. -/
  | sfRecip (core : CoreId)
  /-- SF_SQRT (R164): sf.eval of √x, correctly rounded. -/
  | sfSqrt (core : CoreId)
  /-- SF_RSQRT (R164): sf.eval of 1/√x. -/
  | sfRsqrt (core : CoreId)
  /-- SF_TANH (R164): sf.eval of tanh x. -/
  | sfTanh (core : CoreId)
  /-- SF_SIGMOID (R164): sf.eval of the sigmoid. -/
  | sfSigmoid (core : CoreId)
  /-- SF_ERF (R164): sf.eval of erf x. -/
  | sfErf (core : CoreId)
  /-- SF_GELU (R164): sf.eval of GELU. -/
  | sfGelu (core : CoreId)
  /-- SF_GELU_TANH (R164): sf.eval of the tanh form of GELU. -/
  | sfGeluTanh (core : CoreId)
  /-- SF_SILU (R164): sf.eval of SiLU. -/
  | sfSilu (core : CoreId)
  /-- SF_SOFTPLUS (R164): sf.eval of softplus. -/
  | sfSoftplus (core : CoreId)
  /-- SF_SIN (R164): sf.eval of sin x. -/
  | sfSin (core : CoreId)
  /-- SF_COS (R164): sf.eval of cos x. -/
  | sfCos (core : CoreId)
  /-- SF_TAB (R167): sf.eval through the published half of a user table slot. -/
  | sfTab (core : CoreId)
  /-- VX_SCAN_ADD (R185): Lane-direction sum scan. -/
  | vxScanAdd (core : CoreId)
  /-- VX_SCAN_MAX (R185): Lane-direction maximum scan. -/
  | vxScanMax (core : CoreId)
  /-- VX_SCAN_MIN (R185): Lane-direction minimum scan. -/
  | vxScanMin (core : CoreId)
  /-- VX_SCAN_PROD (R185): Lane-direction product scan. -/
  | vxScanProd (core : CoreId)
  /-- VX_SCAN_LSE (R187): Lane-direction log-sum-exp scan. -/
  | vxScanLse (core : CoreId)
  /-- VX_SCAN_AFFINE (R188): Lane-direction affine recurrence that writes h. -/
  | vxScanAffine (core : CoreId)
  /-- VX_SCAN_AFFINE_PAIR (R188): Lane-direction affine composition that writes (B, A). -/
  | vxScanAffinePair (core : CoreId)
  /-- VX_BSCAN_ADD (R184): Beat-direction sum scan. -/
  | vxBscanAdd (core : CoreId)
  /-- VX_BSCAN_MAX (R184): Beat-direction maximum scan. -/
  | vxBscanMax (core : CoreId)
  /-- VX_BSCAN_MIN (R184): Beat-direction minimum scan. -/
  | vxBscanMin (core : CoreId)
  /-- VX_BSCAN_PROD (R184): Beat-direction product scan. -/
  | vxBscanProd (core : CoreId)
  /-- VX_BSCAN_LSE (R187): Beat-direction log-sum-exp scan. -/
  | vxBscanLse (core : CoreId)
  /-- VX_BSCAN_AFFINE (R188): Beat-direction affine recurrence. -/
  | vxBscanAffine (core : CoreId)
  /-- VX_BSCAN_AFFINE_PAIR (R188): Beat-direction affine composition. -/
  | vxBscanAffinePair (core : CoreId)
  /-- VX_CGET (R191): Copies a carry register into a vector register. -/
  | vxCget (core : CoreId)
  /-- VX_CSET (R191): Copies a vector register into a carry register. -/
  | vxCset (core : CoreId)
  /-- VX_RSTAT (R198): Builds (n, μ, M2) row-statistics triples over the fixed tree. -/
  | vxRstat (core : CoreId)
  /-- VX_RSTATC (R199): Combines two sets of row-statistics triples. -/
  | vxRstatc (core : CoreId)
  /-- VX_SMX_MAX (R202): Soft-maximum running maximum and rescale factor. -/
  | vxSmxMax (core : CoreId)
  /-- VX_SMX_SUM (R203): Soft-maximum weights and running sum. -/
  | vxSmxSum (core : CoreId)
  /-- ADD (R212): Scalar addition. -/
  | add (core : CoreId)
  /-- SUB (R212): Scalar subtraction. -/
  | sub (core : CoreId)
  /-- MUL (R212): Low 64 bits of a scalar product. -/
  | mul (core : CoreId)
  /-- MLA (R212): Scalar multiply-accumulate. -/
  | mla (core : CoreId)
  /-- AND (R212): Scalar bitwise and. -/
  | and (core : CoreId)
  /-- OR (R212): Scalar bitwise or. -/
  | or (core : CoreId)
  /-- XOR (R212): Scalar bitwise exclusive or. -/
  | xor (core : CoreId)
  /-- SHL (R212): Scalar left shift. -/
  | shl (core : CoreId)
  /-- SHR (R212): Scalar logical right shift. -/
  | shr (core : CoreId)
  /-- SRA (R212): Scalar arithmetic right shift. -/
  | sra (core : CoreId)
  /-- MIN (R212): Signed scalar minimum. -/
  | min (core : CoreId)
  /-- MAX (R212): Signed scalar maximum. -/
  | max (core : CoreId)
  /-- MINU (R212): Unsigned scalar minimum. -/
  | minu (core : CoreId)
  /-- MAXU (R212): Unsigned scalar maximum. -/
  | maxu (core : CoreId)
  /-- SLT (R212): Signed less-than test. -/
  | slt (core : CoreId)
  /-- SLTU (R212): Unsigned less-than test. -/
  | sltu (core : CoreId)
  /-- SEQ (R212): Equality test. -/
  | seq (core : CoreId)
  /-- ADDI (R212): Addition of an immediate. -/
  | addi (core : CoreId)
  /-- ANDI (R212): And with a zero-extended immediate. -/
  | andi (core : CoreId)
  /-- ORI (R212): Or with a zero-extended immediate. -/
  | ori (core : CoreId)
  /-- XORI (R212): Exclusive or with a zero-extended immediate. -/
  | xori (core : CoreId)
  /-- SHLI (R212): Left shift by an immediate. -/
  | shli (core : CoreId)
  /-- SHRI (R212): Logical right shift by an immediate. -/
  | shri (core : CoreId)
  /-- SRAI (R212): Arithmetic right shift by an immediate. -/
  | srai (core : CoreId)
  /-- SLTI (R212): Signed less-than test against an immediate. -/
  | slti (core : CoreId)
  /-- MOVK (R212): Inserts an immediate into one halfword of D. -/
  | movk (core : CoreId)
  /-- LUI (R212): Loads a shifted upper immediate. -/
  | lui (core : CoreId)
  /-- LD8U (R212): Zero-extending byte load from scratch memory. -/
  | ld8u (core : CoreId)
  /-- LD16U (R212): Zero-extending halfword load from scratch memory. -/
  | ld16u (core : CoreId)
  /-- LD32U (R212): Zero-extending word load from scratch memory. -/
  | ld32u (core : CoreId)
  /-- LD32S (R212): Sign-extending word load from scratch memory. -/
  | ld32s (core : CoreId)
  /-- LD64 (R212): Doubleword load from scratch memory. -/
  | ld64 (core : CoreId)
  /-- ST8 (R212): Byte store to scratch memory. -/
  | st8 (core : CoreId)
  /-- ST16 (R212): Halfword store to scratch memory. -/
  | st16 (core : CoreId)
  /-- ST32 (R212): Word store to scratch memory. -/
  | st32 (core : CoreId)
  /-- ST64 (R212): Doubleword store to scratch memory. -/
  | st64 (core : CoreId)
  /-- LSLD (R212): Loads a 64-bit word from local SRAM. -/
  | lsld (core : CoreId)
  /-- LSST (R212): Stores a 64-bit word to local SRAM. -/
  | lsst (core : CoreId)
  /-- LSCP (R212): Copies 32 bytes from local SRAM to scratch memory. -/
  | lscp (core : CoreId)
  /-- BEQ (R212): Branches when equal. -/
  | beq (core : CoreId)
  /-- BNE (R212): Branches when not equal. -/
  | bne (core : CoreId)
  /-- BLT (R212): Branches when less, signed. -/
  | blt (core : CoreId)
  /-- BGE (R212): Branches when greater or equal, signed. -/
  | bge (core : CoreId)
  /-- BLTU (R212): Branches when less, unsigned. -/
  | bltu (core : CoreId)
  /-- BGEU (R212): Branches when greater or equal, unsigned. -/
  | bgeu (core : CoreId)
  /-- JAL (R212): Jumps and links. -/
  | jal (core : CoreId)
  /-- JR (R212): Jumps to a register. -/
  | jr (core : CoreId)
  /-- DBNZ (R212): Decrements and branches when the result is not zero. -/
  | dbnz (core : CoreId)
  /-- PGET (R242): Reads a live parameter register. -/
  | pget (core : CoreId)
  /-- PSET (R242): Writes a staged parameter and sets its dirty bit. -/
  | pset (core : CoreId)
  /-- RDSR (R214): Reads a control-core state item. -/
  | rdsr (core : CoreId)
  /-- FINS (R218): Inserts a field into a scratch command record. -/
  | fins (core : CoreId)
  /-- PUSH (R219): Patches, tags, gates and stamps a scratch record and appends it to an engine queue. -/
  | push (core : CoreId)
  /-- GATE (R225): Sets the one-shot gate for the next push. -/
  | gate (core : CoreId)
  /-- SEMSIG (R212): Adds 1 to a semaphore of this core. -/
  | semsig (core : CoreId)
  /-- SEMWAIT (R212): Requests to take 1 from a semaphore once it is at least 1. -/
  | semwait (core : CoreId)
  /-- SEMWAIT_GRANT (R230): A pending semwait is granted and subtracts 1. -/
  | semwaitGrant (core : CoreId)
  /-- SEMRD (R212): Reads a semaphore's value. -/
  | semrd (core : CoreId)
  /-- NOP (R212): No effect. -/
  | nop (core : CoreId)
  /-- REND (R239): Ends the replay; a boundary is taken and AUTOREPEAT may start the next replay. -/
  | rend (core : CoreId)
  /-- HALT (R239): Halts the control core after a boundary. -/
  | halt (core : CoreId)
  /-- SY_SIG (R236): Sends an increment to a semaphore of a core of the partition. -/
  | sySig (core : CoreId)
  /-- SEM_INCREMENT_ARRIVAL (R236): A remote increment reaches its target semaphore and is applied, or discarded as stale. index counts the increments in flight, oldest first. -/
  | semIncrementArrival (index : Nat)
  /-- SY_WAIT (R233): Waits until a semaphore reaches VALUE, then subtracts VALUE. -/
  | syWait (core : CoreId)
  /-- SY_WAIT_GRANT (R230): A waiting sy.wait is granted and retires. -/
  | syWaitGrant (core : CoreId)
  /-- SY_BAR (R237): Arrives at a cluster or partition barrier. -/
  | syBar (core : CoreId)
  /-- BARRIER_RELEASE (R237): When COUNT arrivals have been made, every arrival of the episode completes in one cycle. barrier is 16 g + b for barrier b of cluster g, 256 + 16 p + b of partition p. -/
  | barrierRelease (barrier : Fin 512)
  /-- SY_TIME (R238): Waits until device time reaches a target. -/
  | syTime (core : CoreId)
  /-- SY_TIME_REACHED (R238): Device time reaches a sy.time target and the command completes. -/
  | syTimeReached (core : CoreId)
  /-- CORE_CTL_SWITCH (R245): Requests an instruction-memory bank switch, at once or at the next boundary. -/
  | coreCtlSwitch (core : CoreId)
  /-- CORE_CTL_START (R239): A host replay start. -/
  | coreCtlStart (core : CoreId)
  /-- CORE_CTL_RESUME (R239): Moves a HALTED control core to IDLE. -/
  | coreCtlResume (core : CoreId)
  /-- CORE_CTL_HALT (R239): Halts the control core after the instruction in issue. -/
  | coreCtlHalt (core : CoreId)
  /-- REPLAY_START (R240): Phase action that starts replays on a core set; the start actions set PC and TC and count the replay. entry is the phase entry that fires. -/
  | replayStart (part : PartId) (entry : Fin 256)
  /-- CORE_SEM_WRITE (R230): A host write sets a semaphore's count first in its cycle. The host writes value to CORE_SEM_n, n = sem. -/
  | coreSemWrite (core : CoreId) (sem : Fin 64) (value : Word)
  /-- CORE_PSTAGE_WRITE (R242): A host write of a staged parameter word sets its dirty bit. The host writes value to the high or low word of CORE_PSTAGE_n, n = param. -/
  | corePstageWrite (core : CoreId) (param : Fin 64) (high : Bool) (value : Word)
  /-- CORE_PDIRTY_WITHDRAW (R248): Writing 1 to a dirty bit withdraws the patch. The host writes value to CORE_PDIRTY_LO or _HI. -/
  | corePdirtyWithdraw (core : CoreId) (high : Bool) (value : Word)
  /-- CP_RELEASE (R279): Writes back the dirty bytes of every cached line in the range. -/
  | cpRelease (core : CoreId) (engine : Fin 2)
  /-- CP_ACQUIRE (R279): Writes back and then invalidates every cached line in the range. -/
  | cpAcquire (core : CoreId) (engine : Fin 2)
  /-- REQUEST_RESPONSE (R294): A memory response returns and frees its outstanding request slot. slot counts the held slots of the core, oldest first. -/
  | requestResponse (core : CoreId) (slot : Nat)
  /-- REQUEST_WITHDRAWAL_CONFIRM (R298): A controller confirms a withdrawn request, and its slot is freed. slot counts the held slots of the core, oldest first. -/
  | requestWithdrawalConfirm (core : CoreId) (slot : Nat)
  /-- PATROL_SCRUB (R289): A controller reads and corrects codewords on its own account. codeword is a physical address / 64. -/
  | patrolScrub (codeword : Nat)
  /-- CP_LIN (R304): Linear byte copy. -/
  | cpLin (core : CoreId) (engine : Fin 2)
  /-- CP_ND (R307): Tensor copy with stride, slice, pad, permutation and conversion. -/
  | cpNd (core : CoreId) (engine : Fin 2)
  /-- CP_GATHER (R321): Copies rows selected by an index tensor. -/
  | cpGather (core : CoreId) (engine : Fin 2)
  /-- CP_SCATTER_WRITE (R321): Writes rows to places given by an index tensor. -/
  | cpScatterWrite (core : CoreId) (engine : Fin 2)
  /-- CP_SCATTER_ADD (R322): Adds rows into FP32 rows given by an index tensor, in index order. -/
  | cpScatterAdd (core : CoreId) (engine : Fin 2)
  /-- CP_TABLE (R325): Loads a function table image into a slot of this core. -/
  | cpTable (core : CoreId) (engine : Fin 2)
  /-- TABLE_LOAD_START (R174): A held table load begins writing once its slot's unpublished half is free. -/
  | tableLoadStart (core : CoreId) (engine : Fin 2)
  /-- TABLE_PUBLISH (R173): The load checker publishes the new half, or refuses the load, after the last record. -/
  | tablePublish (core : CoreId) (slot : Fin 16)
  /-- TIM_STEP (R336): Write of STEP: device time is set to TIM_SET, or the step is refused. -/
  | timStep
  /-- TIM_SRC_WRITE (R342): Selects the time source and moves the lock state. src is the value written to TIM_CTL.SRC. -/
  | timSrcWrite (src : Fin 8)
  /-- TIM_PTP_CFG_WRITE (R361): PTP configuration that applies at the next Sync interval, with a lock change on DOMAIN or TRANSPORT. -/
  | timPtpCfgWrite (value : Word)
  /-- TIM_NOW_READ (R361): A read of TIM_NOW_0 latches all three words of device time for the function. -/
  | timNowRead (fn : FnId)
  /-- PTP_SYNC (R339): A received Sync is timestamped and disciplines device time. sender is the source port identity; stamp and corr are the origin time and correction in units of 2^-16 ns. -/
  | ptpSync (port : PortId) (domain : Fin 128) (transport : Fin 3) (sender : Nat) (seq : Fin 65536) (stamp : Nat) (corr : Int) (twoStep : Bool)
  /-- PTP_FOLLOW_UP (R339): A received two-step Follow_Up is taken. -/
  | ptpFollowUp (port : PortId) (domain : Fin 128) (transport : Fin 3) (sender : Nat) (seq : Fin 65536) (stamp : Nat) (corr : Int)
  /-- PTP_ANNOUNCE (R339): A received Announce takes part in master selection. The operands are the fields of the Announce that the dataset comparison reads. -/
  | ptpAnnounce (port : PortId) (domain : Fin 128) (transport : Fin 3) (sender : Nat) (priority1 : Nat) (clockClass : Nat) (accuracy : Nat) (variance : Nat) (priority2 : Nat) (identity : Nat) (steps : Nat)
  /-- PTP_DELAY_REQ (R339): The module sends a timestamped Delay_Req. -/
  | ptpDelayReq
  /-- PTP_DELAY_RESP (R339): A received Delay_Resp completes the delay measurement. -/
  | ptpDelayResp (port : PortId) (domain : Fin 128) (transport : Fin 3) (sender : Nat) (seq : Fin 65536) (stamp : Nat) (corr : Int)
  /-- PPS_EDGE (R343): A rising edge of TIME_PPS marks a second and disciplines device time. ref: TIME_REF10M is present. -/
  | ppsEdge (ref : Bool)
  /-- TIME_SOURCE_TIMEOUT (R341): Missing Sync or PPS input moves a LOCKED clock to HOLDOVER. -/
  | timeSourceTimeout
  /-- STK_ARM (R349): Makes the shadow schedule active and chooses the first stroke. -/
  | stkArm (part : PartId)
  /-- STK_STOP (R349): Stops a schedule, through STOPPING or at once from ARMED. -/
  | stkStop (part : PartId)
  /-- STK_COMMIT (R351): Requests that the shadow schedule apply at the next stroke start. -/
  | stkCommit (part : PartId)
  /-- STK_START_WRITE (R352): A write of STK_START or STK_FIRST, refused unless the schedule is FREE. word is 0 to 2 for STK_START_0 to STK_START_2, 3 for STK_FIRST. -/
  | stkStartWrite (part : PartId) (word : Fin 4) (value : Word)
  /-- STROKE_START (R358): At T_start the stroke number advances and the stroke begins, or is skipped. -/
  | strokeStart (part : PartId)
  /-- GANG_START (R347): Phase action that starts the replays of every core of the partition in one cycle. entry is the phase entry that fires. -/
  | gangStart (part : PartId) (entry : Fin 256)
  /-- BUCKET_OPEN (R367): Phase action that opens a bucket window, tag by tag. entry is the phase entry that fires. -/
  | bucketOpen (part : PartId) (entry : Fin 256)
  /-- BUCKET_CLOSE (R370): Phase action that closes a window; leaves not yet full send ABSENT pieces. entry is the phase entry that fires. -/
  | bucketClose (part : PartId) (entry : Fin 256)
  /-- CHECKPOINT (R347): Phase action that requests a checkpoint slice at the end of the stroke. entry is the phase entry that fires. -/
  | checkpoint (part : PartId) (entry : Fin 256)
  /-- EVENT (R545): Phase action that raises an event source. entry is the phase entry that fires. -/
  | event (part : PartId) (entry : Fin 256)
  /-- SLUICE (R353): At T_sluice the partition stops issuing, cancels every queued command and settles its buckets. -/
  | sluice (part : PartId)
  /-- DRAIN_COMPLETE (R354): The last engine is empty; semaphores clear and DRAINED becomes 1. -/
  | drainComplete (part : PartId)
  /-- FILL_RECORD_WRITE (R368): A write of a fill record reaches HBM; the leaf becomes full and sends, or the write is stale. -/
  | fillRecordWrite
  /-- PIECE_ARRIVAL (R376): A reduction piece reaches a pair slot or owner and is summed, forwarded or written. index counts the reduction messages on the die links, oldest first. -/
  | pieceArrival (index : Nat)
  /-- SETTLE_RECORD (R389): A settle record reaches a slot or owner; it is forwarded or clears mask bits. index counts the reduction messages on the die links, oldest first. -/
  | settleRecord (index : Nat)
  /-- SLOT_SETTLE (R386): A slot's height deadline passes and missing sides are declared. downRank names a child whose rank is marked DOWN and whether it is the right one; none is the deadline of the slot itself. -/
  | slotSettle (part : PartId) (tag : Fin 65536) (slot : Fin 65536) (downRank : Option (Nat × Bool))
  /-- OWNER_FINISH (R395): The owner's final deadline finishes an incomplete bucket. height is D, the height of the tree (R395). -/
  | ownerFinish (part : PartId) (tag : Fin 65536) (height : Fin 65)
  /-- RED_SETTLE (R392): Write of RED_CTL.SETTLE: settles one bucket in a free-running partition. -/
  | redSettle (part : PartId)
  /-- RED_WIN_OPEN (R392): Write of RED_WIN_CMD.OPEN: opens a window in a free-running partition. -/
  | redWinOpen (part : PartId) (window : Fin 256)
  /-- RED_WIN_CLOSE (R392): Write of RED_WIN_CMD.CLOSE: closes a window in a free-running partition. -/
  | redWinClose (part : PartId) (window : Fin 256)
  /-- FRAME_RECEIVE (R406): A received Ethernet frame is sorted and handled, or discarded. frame is the whole frame with its FCS. -/
  | frameReceive (port : PortId) (frame : List Byte)
  /-- ARP_REQUEST (R406): An ARP request for a partition address is answered by the management cores. mac and ip are the sender's; target is the address asked for. -/
  | arpRequest (port : PortId) (mac : Nat) (ip : Nat) (target : Nat)
  /-- NEIGHBOR_SOLICITATION (R406): An IPv6 Neighbor Solicitation is answered. mac and ip are the sender's; target is the address asked for. -/
  | neighborSolicitation (port : PortId) (mac : Nat) (ip : Nat) (target : Nat)
  /-- PFC_FRAME (R407): A received PFC frame pauses or releases a priority on the port. enable has a bit per priority; times are in quanta. -/
  | pfcFrame (port : PortId) (enable : Fin 256) (times : List Nat)
  /-- WRITE (R427): A received WRITE packet is placed at its address. flow is the number of the flow context. -/
  | write (flow : Fin 262144)
  /-- READ (R427): A received READ is answered with READ_RESP packets. flow is the number of the flow context. -/
  | read (flow : Fin 262144)
  /-- READ_RESP (R426): Returned READ data is written at LADDR. flow is the number of the flow context. -/
  | readResp (flow : Fin 262144)
  /-- RACC_SLOT (R427): A remote accumulate handed to a pair slot as one side of a piece. flow is the number of the flow context. -/
  | raccSlot (flow : Fin 262144)
  /-- RACC_ADDRESS (R427): A remote accumulate of FP32 elements at an address. flow is the number of the flow context. -/
  | raccAddress (flow : Fin 262144)
  /-- ATOMIC_FADD (R427): A 64-bit wrapping fetch-add. flow is the number of the flow context. -/
  | atomicFadd (flow : Fin 262144)
  /-- ATOMIC_SWAP (R427): A 64-bit swap. flow is the number of the flow context. -/
  | atomicSwap (flow : Fin 262144)
  /-- ATOMIC_CSWP (R427): A 64-bit compare-and-swap. flow is the number of the flow context. -/
  | atomicCswp (flow : Fin 262144)
  /-- ATOMIC_RESP (R426): A returned old value is written at LADDR. flow is the number of the flow context. -/
  | atomicResp (flow : Fin 262144)
  /-- SEND_RING (R513): A CLASS 0 SEND is written into a receive ring. flow is the number of the flow context. -/
  | sendRing (flow : Fin 262144)
  /-- SEND_REDUCTION (R427): A CLASS 1 SEND hands a settle record to the reduction sequencer. flow is the number of the flow context. -/
  | sendReduction (flow : Fin 262144)
  /-- FENCE (R428): A FENCE orders a flow's later messages behind every earlier one. flow is the number of the flow context. -/
  | fence (flow : Fin 262144)
  /-- ACK (R413): A received ACK acknowledges PSNs, completes messages and may trigger retransmission. flow is the number of the flow context. -/
  | ack (flow : Fin 262144)
  /-- MSTAT (R414): A received MSTAT completes a message with a non-OK status. flow is the number of the flow context. -/
  | mstat (flow : Fin 262144)
  /-- HELLO (R419): A received HELLO records the peer's initial values and is answered. flow is the number of the flow context. -/
  | hello (flow : Fin 262144)
  /-- HELLO_ACK (R419): A received HELLO_ACK may make the context OPEN. flow is the number of the flow context. -/
  | helloAck (flow : Fin 262144)
  /-- CLOSE (R420): A received CLOSE is answered with CLOSE_ACK. flow is the number of the flow context. -/
  | close (flow : Fin 262144)
  /-- CLOSE_ACK (R420): A received CLOSE_ACK frees a CLOSING context. flow is the number of the flow context. -/
  | closeAck (flow : Fin 262144)
  /-- SKIP (R438): A received SKIP marks a range of PSNs received and discards them. flow is the number of the flow context. -/
  | skip (flow : Fin 262144)
  /-- WQ_DOORBELL (R424): A doorbell write reaches HBM; descriptors are taken or the write is ignored. -/
  | wqDoorbell
  /-- AQ_DESC_WRITE (R425): A taken WRITE descriptor becomes an outgoing message. -/
  | aqDescWrite
  /-- AQ_DESC_READ (R425): A taken READ descriptor becomes an outgoing message. -/
  | aqDescRead
  /-- AQ_DESC_RACC (R425): A taken RACC descriptor becomes an outgoing message. -/
  | aqDescRacc
  /-- AQ_DESC_ATOMIC (R425): A taken ATOMIC descriptor becomes an outgoing message. -/
  | aqDescAtomic
  /-- AQ_DESC_SEND (R425): A taken SEND descriptor becomes an outgoing message. -/
  | aqDescSend
  /-- AQ_DESC_FENCE (R425): A taken FENCE descriptor becomes an outgoing message. -/
  | aqDescFence
  /-- RETRANSMIT_TIMEOUT (R434): AQ_RTO passes for a PSN, which is retransmitted or breaks its flow; SKIPs are resent. flow is the number of the flow context. -/
  | retransmitTimeout (flow : Fin 262144)
  /-- ACK_TIMER (R433): 2 µs after the first unacknowledged data packet, the receiver sends an ACK. flow is the number of the flow context. -/
  | ackTimer (flow : Fin 262144)
  /-- HELLO_RETRY (R419): An OPENING context resends HELLO every 100 µs. flow is the number of the flow context. -/
  | helloRetry (flow : Fin 262144)
  /-- FLOW_OPEN_TIMEOUT (R419): A context not OPEN within 1 s returns to FREE. flow is the number of the flow context. -/
  | flowOpenTimeout (flow : Fin 262144)
  /-- FLOW_CLOSE_TIMEOUT (R420): A CLOSING context becomes FREE after 1 s. flow is the number of the flow context. -/
  | flowCloseTimeout (flow : Fin 262144)
  /-- RATE_PERIOD (R435): Each period without CE raises a flow's rate. flow is the number of the flow context. -/
  | ratePeriod (flow : Fin 262144)
  /-- AQ_PEN_ENABLE (R422): PEN bit set: reads the work-queue table and arms doorbells, or holds the write while draining. -/
  | aqPenEnable (part : PartId)
  /-- AQ_PEN_DISABLE (R422): PEN bit cleared: stops taking descriptors and drains. -/
  | aqPenDisable (part : PartId)
  /-- AQ_PDRAIN_END (R422): A partition's transport drain ends and a held enable is carried out. -/
  | aqPdrainEnd (part : PartId)
  /-- PORT_REMOVE (R441): Clearing SPRAY removes a port from the spray set. -/
  | portRemove (port : PortId)
  /-- PORT_READMIT (R442): Setting SPRAY readmits a port, or holds the readmission. -/
  | portReadmit (port : PortId)
  /-- PORT_RECAL (R443): Removes a port, recalibrates its SerDes and readmits it. -/
  | portRecal (port : PortId)
  /-- PORT_DRAIN_END (R441): A removed port's transmit queue empties; a held readmission proceeds. -/
  | portDrainEnd (port : PortId)
  /-- RECAL_END (R443): A SerDes recalibration ends. -/
  | recalEnd (port : PortId)
  /-- PORT_LINK_DOWN (R442): A port's link goes down and leaves the spray set; PTP may move. -/
  | portLinkDown (port : PortId)
  /-- PORT_LINK_UP (R442): A link up with all lanes locked for 10 ms rejoins the spray set. -/
  | portLinkUp (port : PortId)
  /-- AQ_PORT_IFACE_WRITE (R444): A change of IFACE restarts the link. iface is the value written to IFACE. -/
  | aqPortIfaceWrite (port : PortId) (iface : Fin 3)
  /-- UPD_DOORBELL (R456): An update-queue doorbell write makes descriptors available. -/
  | updDoorbell
  /-- UPD_DESC_CISTERN (R463): A CISTERN descriptor is checked and handed to its chiplet's engine. -/
  | updDescCistern (part : PartId)
  /-- UPD_DESC_VECTOR (R464): A VECTOR descriptor is checked and its resolved record written to the core. -/
  | updDescVector (part : PartId)
  /-- UPD_NORMPASS (R466): A norm-pass descriptor forms SQG and SQW. -/
  | updNormpass (part : PartId)
  /-- CISTERN_ENGINE_START (R463): A waiting descriptor starts on its free chiplet engine. -/
  | cisternEngineStart (chiplet : Fin 2)
  /-- CISTERN_DESC_COMPLETE (R459): A cistern descriptor finishes, writes its completion record and may advance or tear its group. -/
  | cisternDescComplete (chiplet : Fin 2)
  /-- UPD_ENABLE (R456): EN set: the sequencer takes descriptors, or the enable is held during a drain. -/
  | updEnable (part : PartId)
  /-- UPD_DISABLE (R456): EN cleared: the sequencer stops taking descriptors and drains. -/
  | updDisable (part : PartId)
  /-- UPD_DRAIN_END (R456): The last taken descriptor completes and a held enable is carried out. -/
  | updDrainEnd (part : PartId)
  /-- CKPT_SLICE_START (R474): A requested slice checks its plan, releases caches, takes its capture point and begins copying. -/
  | ckptSliceStart (part : PartId)
  /-- CKPT_COPY_AHEAD (R475): A write to a held page makes the slice copy it first, then the write applies. page is the number of the 64 KiB page that a write is about to reach. -/
  | ckptCopyAhead (page : Nat)
  /-- CKPT_VALIDATE (R478): The slice's last copy completes and the slot is made VALID. -/
  | ckptValidate (part : PartId)
  /-- CORE_SPARE_MOVE (R485): Once quiescent, a logical core's state moves into slot 8 and the slot map is rewritten. -/
  | coreSpareMove (core : CoreId)
  /-- PAGE_RETIRE (R486): A physical page is copied to a spare and redirected, or its granule is retired. address is a physical address in the page. -/
  | pageRetire (address : Nat)
  /-- CIS_SCRUB_END (R487): A chiplet finishes SCRUBBING and returns to service. -/
  | cisScrubEnd (chiplet : Fin 2)
  /-- SHUTDOWN_COMPLETE (R490): A function finishes STOPPING or SCRUBBING and a held enable is carried out. kind is 0 for a compute die, 1 for a cistern chiplet, 2 for a partition. -/
  | shutdownComplete (kind : Fin 3) (index : Fin 16)
  /-- SQ_TAIL_WRITE (R501): A submission doorbell write makes packets available. ring is the local ring of the page; entries is what a ring in host memory holds from the old tail on. -/
  | sqTailWrite (fn : FnId) (ring : Fin 32768) (value : Word) (entries : List Byte)
  /-- CQ_HEAD_WRITE (R503): A completion doorbell write frees completion entries. ring is the local ring of the page. -/
  | cqHeadWrite (fn : FnId) (ring : Fin 32768) (value : Word)
  /-- ZN_NOP (R510): No operation. -/
  | znNop
  /-- ZN_IDENTIFY (R511): Writes the identify page. -/
  | znIdentify
  /-- ZN_RING_CREATE (R504): Allocates a ring pair. -/
  | znRingCreate
  /-- ZN_RING_DELETE (R504): Removes a ring pair. -/
  | znRingDelete
  /-- ZN_VF_CONFIG (R493): Binds a VF to a partition and sets its ring quota. -/
  | znVfConfig
  /-- ZN_PREPARE_REMOVE (R520): Takes the module out of service for removal. -/
  | znPrepareRemove
  /-- ZN_OP_QUERY (R514): Reports the state of a long operation. -/
  | znOpQuery
  /-- ZN_OP_SUSPEND (R516): Suspends a long operation. -/
  | znOpSuspend
  /-- ZN_OP_RESUME (R516): Resumes a long operation. -/
  | znOpResume
  /-- ZN_OP_CANCEL (R516): Cancels a command or long operation. -/
  | znOpCancel
  /-- LONG_OP_SAFE_POINT (R514): A suspending operation reaches a safe point and becomes SUSPENDED. op is the number that the device gave the command when it read it. -/
  | longOpSafePoint (op : Nat)
  /-- LONG_OP_DONE (R514): A long operation finishes and its completion entry is written. op is the number that the device gave the command when it read it. -/
  | longOpDone (op : Nat)
  /-- ZN_PART_CONFIG (R571): Assigns clusters to a partition. -/
  | znPartConfig
  /-- ZN_PART_ENABLE (R490): Enables a partition, or holds the enable. -/
  | znPartEnable
  /-- ZN_PART_DISABLE (R489): Shuts a partition down through STOPPING and SCRUBBING. -/
  | znPartDisable
  /-- ZN_GRANULE_ASSIGN (R262): Assigns 2 MiB granules to a partition. -/
  | znGranuleAssign
  /-- ZN_GRANULE_RELEASE (R510): Zeroes granules and returns them to the pool. -/
  | znGranuleRelease
  /-- ZN_PT_WRITE (R510): Writes page-table entries. -/
  | znPtWrite
  /-- ZN_PT_ROOT (R510): Sets or clears a partition's page-table root. -/
  | znPtRoot
  /-- ZN_XLATE_INVAL (R264): Invalidates translation caches over a range. -/
  | znXlateInval
  /-- ZN_SCRUB (R510): Scrubs a partition's granules. -/
  | znScrub
  /-- ZN_IMEM_LOAD (R244): Writes 32 bytes of instruction memory, at once or held. -/
  | znImemLoad
  /-- ZN_CORE_RESET (R247): Resets a set of logical cores. -/
  | znCoreReset
  /-- ZN_TABLE_LOAD (R510): Appends a cp.table to a core's CPQ1. -/
  | znTableLoad
  /-- ZN_TABLE_BUILD (R510): Builds a user table image from samples. -/
  | znTableBuild
  /-- ZN_CORE_SPARE (R484): Moves a logical core to the spare slot. -/
  | znCoreSpare
  /-- ZN_FLOW_OPEN (R418): Allocates and opens a flow context. -/
  | znFlowOpen
  /-- ZN_FLOW_CLOSE (R420): Closes a flow. -/
  | znFlowClose
  /-- ZN_FLOW_QUERY (R510): Reports a flow's state. -/
  | znFlowQuery
  /-- ZN_KEY_INSTALL (R439): Installs a key in a flow's key slot. -/
  | znKeyInstall
  /-- ZN_KEY_SWITCH (R440): Switches the key slot used for transmission. -/
  | znKeySwitch
  /-- ZN_KEY_CLEAR (R510): Clears a key slot. -/
  | znKeyClear
  /-- ZN_PORT_ADMIT (R442): Removes or readmits a port. -/
  | znPortAdmit
  /-- ZN_PORT_RECAL (R443): Recalibrates a port. -/
  | znPortRecal
  /-- ZN_RXRING_SET (R513): Defines or removes a receive ring. -/
  | znRxringSet
  /-- ZN_AQ_ENABLE (R422): Sets a partition's transport enable. -/
  | znAqEnable
  /-- ZN_GROUP_SET (R453): Sets a group's STEP or clears TORN. -/
  | znGroupSet
  /-- ZN_UPD_ENABLE (R456): Sets the update enable. -/
  | znUpdEnable
  /-- ZN_CKPT (R473): Requests a checkpoint slice. -/
  | znCkpt
  /-- ZN_RESTORE (R481): Restores a plan's pages from the newest valid copy. -/
  | znRestore
  /-- ZN_DIE_ENABLE (R490): Enables a compute die. -/
  | znDieEnable
  /-- ZN_DIE_DISABLE (R489): Shuts a compute die down. -/
  | znDieDisable
  /-- ZN_CIS_ENABLE (R487): Brings a cistern chiplet back into service through SCRUBBING. -/
  | znCisEnable
  /-- ZN_CIS_DISABLE (R487): Takes a cistern chiplet out of service. -/
  | znCisDisable
  /-- ZN_FW_STAGE (R581): Writes and verifies an image in the inactive slot. image is what the module fetches from the bus address of the command. -/
  | znFwStage (image : List Byte)
  /-- ZN_FW_ACTIVATE (R582): Makes the verified inactive slot active on trial. -/
  | znFwActivate
  /-- ZN_FW_ROLLBACK (R561): Activates a lower version after presence. -/
  | znFwRollback
  /-- FW_FIRST_START_RESULT (R582): A trial image reports ready within 2 s, or fails and falls back. ok says that the image reported itself ready in time. -/
  | fwFirstStartResult (subsystem : Fin 7) (ok : Bool)
  /-- ZN_PAGE_RETIRE (R486): Retires a physical page. -/
  | znPageRetire
  /-- ZN_CALIBRATE (R510): Calibrates SerDes, HBM PHYs or die-to-die links. -/
  | znCalibrate
  /-- LIFECYCLE_SECURED (R551): ZN_LIFECYCLE into SECURED. -/
  | lifecycleSecured
  /-- LIFECYCLE_SERVICE (R551): ZN_LIFECYCLE into SERVICE, with presence, zeroisation and scrub. -/
  | lifecycleService
  /-- LIFECYCLE_RETIRED (R552): ZN_LIFECYCLE into RETIRED, with the retirement actions. -/
  | lifecycleRetired
  /-- ZN_DEBUG_OPEN (R563): Opens or changes a debug session. -/
  | znDebugOpen
  /-- ZN_DEBUG_CLOSE (R563): Closes the debug session. -/
  | znDebugClose
  /-- ZN_ZEROISE (R553): Zeroises tenant keys after presence. -/
  | znZeroise
  /-- ZN_CFG_FACTORY (R595): Removes owner keys after presence. -/
  | znCfgFactory
  /-- ZN_POWER_LIMIT (R569): Sets the input power limit. -/
  | znPowerLimit
  /-- ZN_POWER_STATE (R567): Sets the P-state ceiling. -/
  | znPowerState
  /-- IDLE_ENTRY (R568): ZN_POWER_STATE 4: the cores are clock-gated. -/
  | idleEntry
  /-- STANDBY_ENTRY (R568): ZN_POWER_STATE 5: caches released, dies off, DRAM in self-refresh. -/
  | standbyEntry
  /-- ACTIVE_RETURN (R568): ZN_POWER_STATE 6: returns to Active. -/
  | activeReturn
  /-- ZN_CFG_READ (R594): Returns a configuration record. -/
  | znCfgRead
  /-- ZN_CFG_WRITE (R594): Writes or removes an owner configuration record. -/
  | znCfgWrite
  /-- CFG_STORE_WRITE_DONE (R590): A bank write and read-back finish and the new copy is in force, or the bank fails. ok says that the read-back matched. -/
  | cfgStoreWriteDone (ok : Bool)
  /-- ZN_CTL_ENABLE (R525): EN from 0 to 1 reads the admin ring registers and makes the admin ring live. -/
  | znCtlEnable (fn : FnId)
  /-- ZN_CTL_DISABLE (R525): Clearing EN cancels outstanding admin commands. -/
  | znCtlDisable (fn : FnId)
  /-- BAR4_READ (R497): A host BAR4 read of device memory. offset is that in the BAR4 of the function. -/
  | bar4Read (fn : FnId) (offset : Nat) (len : Nat)
  /-- BAR4_WRITE (R497): A host BAR4 write of device memory. offset is that in the BAR4 of the function. -/
  | bar4Write (fn : FnId) (offset : Nat) (data : List Byte)
  /-- SURPRISE_REMOVAL (R521): The link leaves L0 or REFCLK disappears while not prepared; every partition is stopped. -/
  | surpriseRemoval
  /-- FUNCTION_LEVEL_RESET (R522): An FLR of a VF or the PF cancels its commands and resets its partition. -/
  | functionLevelReset (fn : FnId)
  /-- MCTP_CONTROL_MESSAGE (R523): An MCTP control message is answered. endpoint is what Set Endpoint ID gives. -/
  | mctpControlMessage (endpoint : Option (Fin 256)) (request : List Byte)
  /-- PLDM_TYPE0 (R523): A PLDM Type 0 request is answered. -/
  | pldmType0 (request : List Byte)
  /-- PLDM_SENSOR_READ (R523): A PLDM Type 2 sensor or PDR request is answered. -/
  | pldmSensorRead (request : List Byte)
  /-- PLDM_FW_UPDATE (R523): A PLDM Type 5 firmware-update message is handled. activate asks for ActivateFirmware; otherwise image is the component transferred. -/
  | pldmFwUpdate (subsystem : Fin 7) (activate : Bool) (image : List Byte)
  /-- MCTP_ZENNUS (R524): A Zennus packet over MCTP runs on the private ring. -/
  | mctpZennus (packet : List Byte)
  /-- EVT_RAISE (R545): Fires an event source from software. -/
  | evtRaise (fn : FnId) (source : Fin 4096)
  /-- EVT_COMPLETE (R535): Completes an event source's service. -/
  | evtComplete (fn : FnId) (source : Fin 4096)
  /-- EVENT_DELIVERY (R540): The controller delivers one eligible pending source to a member of its set. -/
  | eventDelivery
  /-- MGMT_EVENT_HANDLED (R542): The management firmware journals a delivered event and completes its source. -/
  | mgmtEventHandled
  /-- EVT_FN_WIN_WRITE (R531): Sets a VF's event window, or is refused. -/
  | evtFnWinWrite (vf : FnId) (base : Fin 4096) (count : Fin 512)
  /-- EVT_ENABLE (R541): EVT_CTL.EN enables or stops deliveries. -/
  | evtEnable (enable : Bool)
  /-- PRESENCE_PRESS (R557): A press of PRES_BTN_N held for 50 ms satisfies an open window, or is stray. fell is the device time at which PRES_BTN_N went low. -/
  | presencePress (fell : Nat)
  /-- PRESENCE_TIMEOUT (R557): A presence window runs out without a counted press. -/
  | presenceTimeout
  /-- SEAL_OPEN (R558): The seal loop is open; TAMPER latches and the module retires. -/
  | sealOpen
  /-- SVC_JUMPER_CHANGE (R575): The SVC jumper is fitted or removed; a level 3 session closes on removal. -/
  | svcJumperChange (fitted : Bool)
  /-- DEBUG_ACCESS (R564): SEC_DBG_CTL.GO performs a debug read or write. -/
  | debugAccess
  /-- DEBUG_STEP (R564): SEC_DBG_CTL.STEP makes a halted control core issue one instruction. -/
  | debugStep
  /-- IDCODE (R565): JTAG IDCODE instruction. -/
  | idcode
  /-- BYPASS (R565): JTAG BYPASS instruction. -/
  | bypass
  /-- SAMPLE_PRELOAD (R565): JTAG SAMPLE/PRELOAD, where the lifecycle allows it. pins is what the boundary cells capture, data what is shifted in. -/
  | samplePreload (pins : List Bool) (data : List Bool)
  /-- EXTEST (R565): JTAG EXTEST, where the lifecycle allows it. pins is what the boundary cells capture, data what is shifted in. -/
  | extest (pins : List Bool) (data : List Bool)
  /-- DBGPORT (R565): JTAG access to the debug registers, under the open session. ctl, address and data are shifted into SEC_DBG_CTL, ADDR and DATA. -/
  | dbgport (ctl : Word) (address : Nat) (data : Nat)
  /-- THERMAL_SAMPLE (R612): The 19 sensors are sampled every 100 µs, with warning events. temps is what the sensors of R612 measure, in sixteenths of a degree. -/
  | thermalSample (temps : List Int)
  /-- THERMAL_HOLD_STEP (R613): Each ms of a thermal hold lowers the governor level by one, or ends the hold. -/
  | thermalHoldStep
  /-- THERMAL_SHUTDOWN (R614): A sensor held 1 ms at its shutdown point powers the module down. -/
  | thermalShutdown
  /-- THERMAL_RESTART (R614): After the hold-off the module restarts by itself. temp is what sensor 18 measures, in sixteenths of a degree. -/
  | thermalRestart (temp : Int)
  /-- GOVERNOR_DECISION (R615): Every 100 µs the governor moves its level from the power averages. -/
  | governorDecision
  /-- POWER_SAMPLE (R615): Input power is measured every 10 µs into the averages. The operands are the input measured. -/
  | powerSample (mv : Nat) (ca : Nat) (watts : Nat)
  /-- PWR_EN_RISE (R608): PWR_EN high starts power-up and the cold start. -/
  | pwrEnRise
  /-- PWR_EN_FALL (R608): PWR_EN low for 1 ms powers the module down. -/
  | pwrEnFall
  /-- INPUT_EXCURSION (R606): The input leaves 11.0–13.2 V for over 100 µs but stays in service. -/
  | inputExcursion
  /-- INPUT_LOSS (R606): The input stays below 10.8 V, or the bulk falls below 10.0 V; cold reset. -/
  | inputLoss
  /-- INPUT_OVERVOLTAGE (R606): The input exceeds 13.8 V; the hot-swap stage opens. -/
  | inputOvervoltage
  /-- INPUT_OVERCURRENT (R606): The input current exceeds its limit; the hot-swap stage opens. -/
  | inputOvercurrent
  /-- INPUT_RESTORED (R606): After a cause-2 reset the input is steady for 10 ms and the module restarts. -/
  | inputRestored
  /-- RAIL_FAULT (R607): A rail stays out of regulation for 50 µs; all rails go down. -/
  | railFault (rail : Nat)
  /-- PERST_ASSERT (R609): PERST_N asserted with PG_OUT high starts a warm reset. -/
  | perstAssert
  /-- PERST_RELEASE (R519): PERST_N released; the link trains and answers under retry status until READY. -/
  | perstRelease
  /-- CFG_WARM_WRITE (R596): CFG_CTL.WARM with the key requests a warm reset. -/
  | cfgWarmWrite (value : Word)
  /-- WARM_RESET (R596): Caches are written back and stages MGMT to READY run again. -/
  | warmReset
  /-- COLD_START (R583): The boot stages run from ROM to READY. -/
  | coldStart
  /-- BOOT_STAGE_COMPLETE (R583): A boot stage that took time ends and the next begins. hbmMask and chiplets are masks of what trained. -/
  | bootStageComplete (hbmMask : Fin 256) (chiplets : Fin 4)
  /-- FAULT_RECORD_DELIVERY (R625): The hub takes one queued fault record, writes it to the fault rings and fires its source. -/
  | faultRecordDelivery
  /-- FAULT_RING_ENABLE (R639): EN from 0 to 1 reads the fault ring address and resets HEAD and TAIL. -/
  | faultRingEnable (fn : FnId)
  /-- TRACE_ENABLE (R640): EN from 0 to 1 resets the trace tail. -/
  | traceEnable
  /-- STALL_CLEAR (R637): CORE_STALL_CTL.CLEAR zeroes every stall counter of the core. -/
  | stallClear (core : CoreId)
  /-- CORE_STALL_LO_READ (R637): A read of a low counter word latches its high word. row and counter name the stall counter. -/
  | coreStallLoRead (core : CoreId) (row : Fin 7) (counter : Fin 12)
  /-- RETIRE_WINDOW_EXPIRE (R629): Every HOURS hours the page error table is cleared and a new window starts. -/
  | retireWindowExpire
  /-- PFC_PAUSE_EXPIRY (R407): A PFC pause on a priority runs out, and the port resumes sending that priority. -/
  | pfcPauseExpiry (port : PortId) (prio : Fin 8)
  /-- ILLEGAL_INSTRUCTION (R212): The control core fetches an illegal instruction word, or reaches an index past 8,191 without a branch, and faults and halts. -/
  | illegalInstruction (core : CoreId)
  /-- CONFIGURATION_REQUEST (R519): A host PCIe configuration read or write is answered with Retry Status before READY, and otherwise sets function state such as Bus Master Enable, MSI-X Enable, Function Mask and Resizable BAR sizes. field is 0 for a read, 1 Bus Master Enable, 2 MSI-X Enable, 3 Function Mask, 4 and 5 the log2 size of BAR4 of the PF and of the VFs. -/
  | configurationRequest (fn : FnId) (field : Fin 6) (value : Nat)
  /-- LINK_RETRAIN (R521): The PCIe link retrains without leaving L0 for Detect or Disabled, and completions held while it does so are then written. -/
  | linkRetrain
  deriving DecidableEq, Repr

end Sys2Proof
end

