-- ==== Sys2Proof/Machine/Bits.lean ====
section
/-!
DEFINITION. Bit-field, sign and byte-order helpers. Fields are written as the manual writes them, high bit first.
-/
namespace Sys2Proof
namespace Machine

/-- Field hi:lo of a number. -/
def bits (x hi lo : Nat) : Nat := (x >>> lo) % 2 ^ (hi + 1 - lo)

/-- Bit i of a number. -/
def bit (x i : Nat) : Bool := x.testBit i

/-- The number with field hi:lo replaced by v. -/
def setBits (x hi lo v : Nat) : Nat :=
  x - (bits x hi lo <<< lo) + ((v % 2 ^ (hi + 1 - lo)) <<< lo)

/-- The two's-complement value of the low n bits. -/
def sext (n x : Nat) : Int :=
  let y := x % 2 ^ n
  if y < 2 ^ (n - 1) then (y : Int) else (y : Int) - (2 ^ n : Nat)

/-- The n-bit two's-complement pattern of an integer. -/
def wrap (n : Nat) (x : Int) : Nat := (x % ((2 ^ n : Nat) : Int)).toNat

/-- The value of little-endian bytes (R8). -/
def leNat : List Byte → Nat
  | [] => 0
  | b :: bs => b.toNat + 256 * leNat bs

/-- The n little-endian bytes of a number (R8). -/
def toLe : Nat → Nat → List Byte
  | 0, _ => []
  | n + 1, x => BitVec.ofNat 8 x :: toLe n (x / 256)

/-- The value of big-endian bytes, for the headers of outside protocols (R8). -/
def beNat (bs : List Byte) : Nat := leNat bs.reverse

/-- The n big-endian bytes of a number. -/
def toBe (n x : Nat) : List Byte := (toLe n x).reverse

/-- Little-endian 32-bit words as bytes. -/
def wordsToBytes : List Word → List Byte
  | [] => []
  | w :: ws => toLe 4 w.toNat ++ wordsToBytes ws

/-- Bytes as little-endian 32-bit words; a last partial word is padded with zero. -/
def bytesToWords (n : Nat) (bs : List Byte) : List Word :=
  match n with
  | 0 => []
  | k + 1 => BitVec.ofNat 32 (leNat (bs.take 4)) :: bytesToWords k (bs.drop 4)

/-- ⌈a / b⌉. -/
def ceilDiv (a b : Nat) : Nat := (a + b - 1) / b

/-- The number of set bits among the low n. -/
def popCount (x : Nat) : Nat → Nat
  | 0 => 0
  | n + 1 => popCount x n + (if x.testBit n then 1 else 0)

/-- Splits a list into pieces of n. -/
def chunks {α : Type} (n : Nat) : Nat → List α → List (List α)
  | 0, _ => []
  | k + 1, xs => xs.take n :: chunks n k (xs.drop n)

/-- The lowest element of a list of numbers that satisfies a test, counting up from lo, within n tries. -/
def firstFrom (p : Nat → Bool) (lo : Nat) : Nat → Option Nat
  | 0 => none
  | n + 1 => if p lo then some lo else firstFrom p (lo + 1) n

/-- Rotating priority (R29): the first requester at or after the pointer, of n, that requests. -/
def rotate (n ptr : Nat) (req : Nat → Bool) : Option Nat :=
  match firstFrom (fun i => req (i % n)) ptr n with
  | some i => some (i % n)
  | none => none

end Machine
end Sys2Proof
end

