-- ==== Sys2Proof/Machine/Net.lean ====
section
/-!
DEFINITION. What the Ethernet ports compute over bytes: the FCS of IEEE 802.3, CRC-32C, the IPv4 and UDP checksums, AES-256-GCM
(R439), and the building and reading of frames (R405, R408, R409).
-/
namespace Sys2Proof
namespace Machine

/-! ## Cyclic redundancy checks -/

/-- n bits of a reflected CRC. -/
def crcBits (poly c : Nat) : Nat → Nat
  | 0 => c
  | n + 1 => crcBits poly (if c % 2 = 1 then (c / 2) ^^^ poly else c / 2) n

/-- A reflected 32-bit CRC that starts from all ones and is inverted at the end. -/
def crc32 (poly : Nat) (bs : List Byte) : Nat := bs.foldl (fun c b => crcBits poly (c ^^^ b.toNat) 8) 0xFFFFFFFF ^^^ 0xFFFFFFFF

/-- CRC-32C (R416, R472). -/
def crc32c (bs : List Byte) : Nat := crc32 0x82F63B78 bs

/-- The frame check sequence of IEEE 802.3. -/
def fcs (bs : List Byte) : Nat := crc32 0xEDB88320 bs

/-! ## The checksum of IPv4 and UDP -/

/-- The ones' complement sum of big-endian 16-bit words, a last odd byte padded with zero. -/
def sum16 : Nat → List Byte → Nat
  | acc, [] => acc
  | acc, [b] => acc + b.toNat * 256
  | acc, a :: b :: rest => sum16 (acc + a.toNat * 256 + b.toNat) rest

/-- The Internet checksum of bytes. -/
def inetChecksum (bs : List Byte) : Nat :=
  let s := sum16 0 bs
  let s := s % 0x10000 + s / 0x10000
  let s := s % 0x10000 + s / 0x10000
  0xFFFF - (s % 0x10000 + s / 0x10000)

/-! ## AES-256 (R439) -/

/-- Multiplication by x in GF(2^8). -/
def aesX (a : Nat) : Nat := if a < 128 then 2 * a else (2 * a - 256) ^^^ 0x1B

/-- The product of a and the low n bits of b in GF(2^8). -/
def aesMul (a b : Nat) : Nat → Nat
  | 0 => 0
  | n + 1 => (if b % 2 = 1 then a else 0) ^^^ aesMul (aesX a) (b / 2) n

/-- a^254, the inverse of a, and 0 of 0: the product of the squares a^2, a^4 ... a^128. -/
def aesInvAux (sq acc : Nat) : Nat → Nat
  | 0 => acc
  | n + 1 => let s := aesMul sq sq 8; aesInvAux s (aesMul acc s 8) n

def rotl8 (b n : Nat) : Nat := (b * 2 ^ n) % 256 + b / 2 ^ (8 - n)

/-- The AES S-box. -/
def aesSbox (a : Nat) : Nat :=
  let b := aesInvAux a 1 7
  b ^^^ rotl8 b 1 ^^^ rotl8 b 2 ^^^ rotl8 b 3 ^^^ rotl8 b 4 ^^^ 0x63

def xorList (a b : List Nat) : List Nat := List.zipWith (· ^^^ ·) a b

/-- The next round-key word i from the word before it and the word eight before. -/
def aesWord (i : Nat) (prev back : List Nat) : List Nat :=
  let t :=
    if i % 8 = 0 then xorList ((prev.drop 1 ++ prev.take 1).map aesSbox) [2 ^ (i / 8 - 1), 0, 0, 0]
    else if i % 8 = 4 then prev.map aesSbox
    else prev
  xorList back t

/-- n more round-key words, newest first. -/
def aesExpand (i : Nat) (ws : List (List Nat)) : Nat → List (List Nat)
  | 0 => ws
  | n + 1 => aesExpand (i + 1) (aesWord i (ws.headD []) (ws.getD 7 []) :: ws) n

/-- The 15 round keys of a 256-bit key, 16 bytes each. -/
def aesKeys (key : List Byte) : List (List Nat) :=
  let k := key.map BitVec.toNat
  let ws := (aesExpand 8 ((chunks 4 8 k).reverse) 52).reverse
  (List.range 15).map (fun r => ((ws.drop (4 * r)).take 4).flatten)

/-- SubBytes and ShiftRows; byte r + 4c of the state is row r, column c. -/
def aesSubShift (s : List Nat) : List Nat :=
  (List.range 16).map (fun i => aesSbox (s.getD (i % 4 + 4 * ((i / 4 + i % 4) % 4)) 0))

/-- MixColumns. -/
def aesMix (s : List Nat) : List Nat :=
  (List.range 16).map (fun i =>
    let b := fun j => s.getD (4 * (i / 4) + (i + j) % 4) 0
    aesX (b 0) ^^^ aesX (b 1) ^^^ b 1 ^^^ b 2 ^^^ b 3)

/-- The middle rounds, then the last one. -/
def aesRounds (s : List Nat) : List (List Nat) → List Nat
  | [] => s
  | [k] => xorList (aesSubShift s) k
  | k :: ks => aesRounds (xorList (aesMix (aesSubShift s)) k) ks

/-- One block encrypted under AES-256. -/
def aesBlock (key block : List Byte) : List Byte :=
  match aesKeys key with
  | [] => block
  | k :: ks => (aesRounds (xorList (block.map BitVec.toNat) k) ks).map (BitVec.ofNat 8)

/-! ## Galois/counter mode -/

/-- The product in GF(2^128): bit 127 of a number is the first bit of its block. -/
def gcmMul (x v z : Nat) : Nat → Nat
  | 0 => z
  | n + 1 => gcmMul x (if v % 2 = 1 then (v / 2) ^^^ (0xE1 * 2 ^ 120) else v / 2) (if x.testBit n then z ^^^ v else z) n

/-- GHASH of whole 16-byte blocks. -/
def ghash (h : Nat) (bs : List Byte) : Nat :=
  (chunks 16 (ceilDiv bs.length 16) bs).foldl (fun y b => gcmMul (y ^^^ beNat (b ++ List.replicate (16 - b.length) 0#8)) h 0 128) 0

/-- n blocks of key stream from a counter. -/
def gcmStream (key nonce : List Byte) (ctr : Nat) : Nat → List Byte
  | 0 => []
  | n + 1 => aesBlock key (nonce ++ toBe 4 ctr) ++ gcmStream key nonce (ctr + 1) n

/-- Encryption, which is also decryption, of the payload. -/
def gcmCrypt (key nonce bs : List Byte) : List Byte :=
  List.zipWith (· ^^^ ·) bs (gcmStream key nonce 2 (ceilDiv bs.length 16))

def pad16 (bs : List Byte) : List Byte := bs ++ List.replicate ((16 - bs.length % 16) % 16) 0#8

/-- The tag over additional data and ciphertext. -/
def gcmTag (key nonce aad ct : List Byte) : List Byte :=
  let h := beNat (aesBlock key (List.replicate 16 0#8))
  let s := ghash h (pad16 aad ++ pad16 ct ++ toBe 8 (8 * aad.length) ++ toBe 8 (8 * ct.length))
  List.zipWith (· ^^^ ·) (toBe 16 s) (aesBlock key (nonce ++ toBe 4 1))

/-! ## Frames (R405, R409) -/

/-- The addressing of an outgoing datagram. -/
structure Wire where
  nhMac : Nat
  mac : Nat
  prio : Nat
  vid : Nat
  v6 : Bool
  src : Nat
  dst : Nat
  dscp : Nat
  sport : Nat
  dport : Nat

/-- An IPv4 or IPv6 address as octets. -/
def ipBytes (v6 : Bool) (a : Nat) : List Byte := if v6 then toBe 16 a else toBe 4 a

/-- The pseudo-header under the UDP checksum. -/
def pseudo (v6 : Bool) (src dst len : Nat) : List Byte :=
  if v6 then toBe 16 src ++ toBe 16 dst ++ toBe 4 len ++ toBe 4 17 else toBe 4 src ++ toBe 4 dst ++ toBe 2 17 ++ toBe 2 len

/-- A frame with its 802.1Q tag and its FCS. -/
def ethFrame (dst src prio vid type : Nat) (body : List Byte) : List Byte :=
  let f := toBe 6 dst ++ toBe 6 src ++ toBe 2 0x8100 ++ toBe 2 (prio * 0x2000 + vid) ++ toBe 2 type ++ body
  let f := f ++ List.replicate (60 - f.length) 0#8
  f ++ toLe 4 (fcs f)

/-- A UDP datagram in its frame (R409). -/
def udpFrame (w : Wire) (data : List Byte) : List Byte :=
  let len := 8 + data.length
  let head := toBe 2 w.sport ++ toBe 2 w.dport ++ toBe 2 len
  let c := inetChecksum (pseudo w.v6 w.src w.dst len ++ head ++ toBe 2 0 ++ data)
  let udp := head ++ toBe 2 (if c = 0 then 0xFFFF else c) ++ data
  let ecn := w.dscp * 4 + 2
  let ip :=
    if w.v6 then
      toBe 4 (6 * 2 ^ 28 + ecn * 2 ^ 20) ++ toBe 2 len ++ toBe 1 17 ++ toBe 1 64 ++ toBe 16 w.src ++ toBe 16 w.dst
    else
      let a := toBe 1 0x45 ++ toBe 1 ecn ++ toBe 2 (20 + len) ++ toBe 2 0 ++ toBe 2 0x4000 ++ toBe 1 64 ++ toBe 1 17
      let b := toBe 4 w.src ++ toBe 4 w.dst
      a ++ toBe 2 (inetChecksum (a ++ toBe 2 0 ++ b)) ++ b
  ethFrame w.nhMac w.mac w.prio w.vid (if w.v6 then 0x86DD else 0x0800) (ip ++ udp)

/-- n big-endian octets of a frame from an offset. -/
def beAt (bs : List Byte) (off n : Nat) : Nat := beNat ((bs.drop off).take n)

/-- A received UDP datagram. -/
structure Datagram where
  v6 : Bool
  src : Nat
  dst : Nat
  ecn : Nat
  dport : Nat
  data : List Byte
  deriving DecidableEq, Repr

/-- The UDP part of a packet: lengths that fit, and a checksum that is right where it is not zero. -/
def readUdp (v6 : Bool) (src dst ecn : Nat) (u : List Byte) : Option Datagram :=
  let len := beAt u 4 2
  if u.length < 8 ∨ len < 8 ∨ u.length < len then none
  else
    let u := u.take len
    if beAt u 6 2 ≠ 0 ∧ inetChecksum (pseudo v6 src dst len ++ u) ≠ 0 then none
    else some { v6 := v6, src := src, dst := dst, ecn := ecn, dport := beAt u 2 2, data := u.drop 8 }

/-- An IPv4 or IPv6 packet that carries UDP: no options, no extension headers, no fragment (R405). -/
def readIp (type : Nat) (p : List Byte) : Option Datagram :=
  if type = 0x0800 then
    let len := beAt p 2 2
    if p.length < 20 ∨ beAt p 0 1 ≠ 0x45 ∨ len < 20 ∨ p.length < len ∨ beAt p 6 2 % 0x4000 ≠ 0 ∨ beAt p 9 1 ≠ 17
        ∨ inetChecksum (p.take 20) ≠ 0 then none
    else readUdp false (beAt p 12 4) (beAt p 16 4) (beAt p 1 1 % 4) ((p.take len).drop 20)
  else if type = 0x86DD then
    let len := beAt p 4 2
    if p.length < 40 ∨ beAt p 0 1 / 16 ≠ 6 ∨ p.length < 40 + len ∨ beAt p 6 1 ≠ 17 then none
    else readUdp true (beAt p 8 16) (beAt p 24 16) (beAt p 0 4 / 2 ^ 20 % 4) ((p.take (40 + len)).drop 40)
  else none

/-- The type and body of a frame, with one 802.1Q tag or none, its FCS taken off. -/
def frameBody (f : List Byte) : Nat × List Byte :=
  let f := f.take (f.length - 4)
  if beAt f 12 2 = 0x8100 then (beAt f 16 2, f.drop 18) else (beAt f 12 2, f.drop 14)

end Machine
end Sys2Proof
end

