-- ==== Sys2Proof/Config.lean ====
section
/-!
DEFINITION. The free values: what the manual leaves open and the machine goes on with. Each is a constant without a body, so
nothing proved of the model rests on a number. Those that choose afresh are applied to Device.free, a plain counter.
-/
namespace Sys2Proof
namespace Config

/-- R264: until a translation invalidate completes, a requester may translate through the old entry (true) or the new. -/
opaque staleEntry : Nat → Bool

/-- R264 states no replacement in the translation caches: which entry a full one drops (log 15). -/
opaque tlbVictim : Nat → Nat

/-- R333: TIM_SET whose nanoseconds exceed 999,999,999 names no time; what a step to it sets. -/
opaque timeOfBadSet : Nat → Nat

/-- R361: TIM_OFFSET for an offset that 32 bits of nanoseconds do not hold. -/
opaque offsetShown : Nat → Nat

/-- R335: the rate adjustment the time unit chooses, in parts per billion; the model limits it to 100 ppm. -/
opaque servoRate : Nat → Int

/-- R162, R163: for a built-in function whose exact result no value of the format equals, whether the neighbour away from zero
(true) or toward it is returned: fixed by the store's version, the function, the format and the FP32 input. -/
opaque faithful : (version fn fmt input : Nat) → Bool

/-- R197, R199: a count of row statistics below the least INT32, from the two counts, which the manual does not state. -/
opaque countBelow : Int → Int → Int

/-- R415: the first PSN and MSN of a flow, which the manual does not fix. -/
opaque initialSeq : Nat → Nat

/-- R445: the scale gsc of a mean rule for a COUNT of 0, from GSCALE, CLIP and NORM, as an FP32 pattern. -/
opaque gscNoCount : (gscale clip norm : Nat) → Nat

/-- R559: whether both signatures of a firmware image verify against the keys that the fuses name; a fact of the image and of the fuses,
which the manual does not give. -/
opaque imageSigned : List Byte → Bool

/-- R158: the version, MAJOR and MINOR, of the built-in tables inside a firmware image. -/
opaque builtinVersion : List Byte → Word

/-- R510: the progress in thousandths that a running long operation reports. -/
opaque opProgress : Nat → Nat

/-- R510: the table image that ZN_TABLE_BUILD finds for samples, INTERP, MONO, TOL and most segments; the manual states what it must satisfy. -/
opaque tableImage : (samples : List (Nat × Nat)) → (interp : Bool) → (mono tol most : Nat) → Option (List Byte)

/-- R511: the module's serial number. -/
opaque serialNumber : List Byte

/-- R523: the identifiers, version words and the sensor records that the module returns over MCTP and PLDM, which the manual leaves to
the outside standards: by message kind and request. -/
opaque mgmtAnswer : (kind : Nat) → (request : List Byte) → List Byte

/-- R564: what a debug read of an uncorrectable word returns beside ST_UNCORRECTABLE. -/
opaque uncorrectableData : Nat → Nat

/-- R622, R631, R588, R612: the STATUS of a fault record for which the manual names none, by the record's SOURCE. -/
opaque recordStatus : (source : Nat) → Nat

end Config
end Sys2Proof
end

