-- ==== Sys2Proof/Machine/Cells.lean ====
section
/-!
DEFINITION. Sparse storage: a list of (key, value) pairs in ONE canonical form, keys strictly rising and no value equal
to what an unlisted key reads as. Every memory of the module and the register file are held so, which makes equal
memories equal data. `put` is the same list without the second condition, for the tables of records.
-/
namespace Sys2Proof

/-- A sparse store. For bytes this is a list of `Host.Cell`. -/
abbrev Cells (α : Type) := List (Nat × α)

namespace Machine

/-- The value at a key: the listed one, or what an unlisted key reads as. -/
def Cells.get {α : Type} (dflt : α) : Cells α → Nat → α
  | [], _ => dflt
  | (k, v) :: rest, key =>
    if key < k then dflt
    else if key = k then v
    else Cells.get dflt rest key

/-- The listed value at a key, if there is one. -/
def Cells.find? {α : Type} : Cells α → Nat → Option α
  | [], _ => none
  | (k, v) :: rest, key =>
    if key < k then none
    else if key = k then some v
    else Cells.find? rest key

/-- The list without a key. -/
def Cells.erase {α : Type} : Cells α → Nat → Cells α
  | [], _ => []
  | (k, v) :: rest, key =>
    if key < k then (k, v) :: rest
    else if key = k then rest
    else (k, v) :: Cells.erase rest key

/-- Inserts or replaces the entry of a key, in key order. -/
def Cells.put {α : Type} : Cells α → Nat → α → Cells α
  | [], key, v => [(key, v)]
  | (k, w) :: rest, key, v =>
    if key < k then (key, v) :: (k, w) :: rest
    else if key = k then (key, v) :: rest
    else (k, w) :: Cells.put rest key v

/-- A write that keeps the canonical form: writing what an unlisted key reads as removes the entry. -/
def Cells.set {α : Type} [DecidableEq α] (dflt : α) (m : Cells α) (key : Nat) (v : α) : Cells α :=
  if v = dflt then Cells.erase m key else Cells.put m key v

/-- The keys of a list stand strictly above a bound and strictly rise. -/
def Cells.rising {α : Type} : Nat → Cells α → Bool
  | _, [] => true
  | lo, (k, _) :: rest => decide (lo ≤ k) && Cells.rising (k + 1) rest

/-- The canonical form, where `dflt k` is what the unlisted key `k` reads as. -/
def Cells.wf {α : Type} [DecidableEq α] (dflt : Nat → α) (m : Cells α) : Bool :=
  Cells.rising 0 m && m.all (fun e => decide (e.2 ≠ dflt e.1))

/-- The entries a run of values starting at a key would list: those that differ from the default. -/
def Cells.run {α : Type} [DecidableEq α] (dflt : α) : Nat → List α → Cells α
  | _, [] => []
  | k, v :: vs => if v = dflt then Cells.run dflt (k + 1) vs else (k, v) :: Cells.run dflt (k + 1) vs

/-- Writes consecutive values from key `lo` on, keeping the canonical form. -/
def Cells.setRange {α : Type} [DecidableEq α] (dflt : α) (m : Cells α) (lo : Nat) (vs : List α) : Cells α :=
  m.filter (fun e => decide (e.1 < lo)) ++ Cells.run dflt lo vs
    ++ m.filter (fun e => decide (lo + vs.length ≤ e.1))

/-- Reads `n` consecutive values. -/
def Cells.getRange {α : Type} (dflt : α) (m : Cells α) (lo : Nat) : Nat → List α
  | 0 => []
  | n + 1 => Cells.get dflt m lo :: Cells.getRange dflt m (lo + 1) n

/-- The entries whose keys lie in `[lo, lo + len)`. -/
def Cells.slice {α : Type} (m : Cells α) (lo len : Nat) : Cells α :=
  m.filter (fun e => decide (lo ≤ e.1) && decide (e.1 < lo + len))

/-- The list without the keys of `[lo, lo + len)`: all of them read as unlisted again. -/
def Cells.clear {α : Type} (m : Cells α) (lo len : Nat) : Cells α :=
  m.filter (fun e => decide (e.1 < lo) || decide (lo + len ≤ e.1))

end Machine
end Sys2Proof
end

