-- ==== Sys2Proof/Machine/CoreState.lean ====
section
/-!
DEFINITION. The state of one logical core: control core (R207), engine queues and semaphores (R220-R230), vector,
mask and carry registers (R125, R189), table slots (R172), local SRAM (R249-R254) and request slots (R294-R296).
-/
namespace Sys2Proof
namespace Machine

/-- The gate that travels with a command (R225): wait on WSEM, signal SSEM. -/
structure Gate where
  wen : Bool := false
  wsem : Nat := 0
  sen : Bool := false
  ssem : Nat := 0
  deriving DecidableEq, Repr

/-- One fault an engine met inside a command (R623): its status, address and how often. -/
structure CmdFault where
  status : Nat
  akind : Nat := 0
  addr : Nat := 0
  detail : Nat := 0
  count : Nat := 1
  deriving DecidableEq, Repr

/-- What a command in execution will show when it retires (R228): its completion status, its faults, the counters it adds
to (register key and amount, 32-bit and 64-bit) and the counts of its trace record (R636). -/
structure CmdResult where
  status : Nat := 0
  faults : List CmdFault := []
  add32 : List (Nat × Nat) := []
  add64 : List (Nat × Nat) := []
  lastTags : List Nat := []
  lost : Nat := 0
  sat : Nat := 0
  poison : Nat := 0
  deriving DecidableEq, Repr

/-- One entry of an engine queue: the 32-byte command, its gate and stroke number (R219, R220), and how far it has come. -/
structure QEntry where
  cmd : Command
  gate : Gate := {}
  stroke : Nat := 0
  /-- Its gate is granted (R226). -/
  granted : Bool := false
  /-- The gang set it latched when it arrived at the head of its queue, a mask of logical cores, and its release (R88, R103). -/
  gang : Option Nat := none
  released : Bool := false
  /-- Taken by its engine or unit, and the core cycle of that (R636). -/
  started : Bool := false
  since : Nat := 0
  /-- The glaze descriptor an early start has read (R86, R180). -/
  desc : Option (List Byte) := none
  /-- The table half it uses while in flight, or loads, as 2 * slot + half (R173, R174). -/
  uses : Option Nat := none
  /-- Device time a sy.time waits for (R238). -/
  target : Nat := 0
  /-- Executed: what retirement will show (R228). -/
  result : Option CmdResult := none
  /-- The Zennus command that waits for this one (ZN_TABLE_LOAD, R510): its id in the command table. -/
  owner : Option Nat := none
  deriving DecidableEq, Repr

/-- HALTED, IDLE or RUNNING (R239). -/
inductive RunState where
  | halted
  | idle
  | running
  deriving DecidableEq, Repr

/-- A held instruction-memory write (R244): bank, word index, eight words, and the Zennus command that waits for it. -/
structure HeldWrite where
  bank : Nat
  index : Nat
  words : List Word
  owner : Option Nat
  deriving DecidableEq, Repr

/-- A request that holds one of the core's 512 slots (R294): the copy engine behind it, its DRAM bank where it waits on one
(R295), and whether its command was cancelled and it awaits its withdrawal (R298). -/
structure Slot where
  engine : Nat
  bank : Option Nat
  withdrawn : Bool := false
  deriving DecidableEq, Repr

/-- One leaf of a translation cache (R264): page address shifted by its size, page-table entry. -/
structure TlbEntry where
  vpage : Nat
  log2 : Nat
  pte : DWord
  deriving DecidableEq, Repr

/-- A semaphore increment of sy.sig on its way to its target (R236): the signalling core and what it carries. -/
structure Increment where
  source : Nat
  core : Nat
  sem : Nat
  amount : Nat
  stroke : Nat
  tag : Nat
  deriving DecidableEq, Repr

/-- A barrier (R237): COUNT and arrivals of the episode that collects, and the full episodes that await their release. -/
structure Barrier where
  count : Nat := 0
  arrived : List Nat := []
  full : List (List Nat) := []
  deriving DecidableEq, Repr

/-- The state of one logical core. -/
structure Core where
  /-- S1-S31; S0 reads as zero and is never stored (R207). -/
  sreg : Cells DWord := []
  live : Cells DWord := []
  staged : Cells DWord := []
  dirty : DWord := 0#64
  scratch : Cells Byte := []
  /-- Scratch, and instruction memory, doublewords whose SECDED code is broken (R217). -/
  scratchBad : List Nat := []
  imemBad : List Nat := []
  pc : Nat := 0
  tc : Nat := 0
  gate : Option Gate := none
  run : RunState := .halted
  bank : Nat := 0
  faulted : Bool := false
  switchPending : Bool := false
  /-- The semaphore a semwait is waiting on (R212, R230). -/
  semWait : Option Nat := none
  /-- Instruction words of both banks, keyed 8192 * bank + index (R209). -/
  imem : Cells Word := []
  held : List HeldWrite := []
  /-- Semaphore values (R224) and the rotating pointer of each semaphore's grants (R230). -/
  sem : Cells Nat := []
  semPtr : Cells Nat := []
  /-- The value of the device's cycle count at the last core reset (R214 item 7). -/
  resetCycle : Nat := 0
  mxq : List QEntry := []
  spq : List QEntry := []
  vxq : List QEntry := []
  cpq0 : List QEntry := []
  cpq1 : List QEntry := []
  syq : List QEntry := []
  /-- The siphon path's arbiter pointer: MXQ 0, SPQ 1 (R106), and the queue whose command it holds. -/
  siphonPtr : Nat := 0
  siphonBusy : Option Nat := none
  /-- V0-V63, 512 lanes each, keyed by register (R125); unlisted registers hold zero. -/
  vreg : Cells (List Word) := []
  /-- Lanes of V0-V63, and of SC0-SC7 as registers 64-71, whose SECDED word is broken (R153, R204): (register, lane). -/
  vregBad : List (Nat × Nat) := []
  /-- M0-M7, 2,048 bits each (R125). -/
  mask : Cells (BitVec 2048) := []
  vl : Nat := 0
  /-- SC0-SC7, 512 lanes each (R189). -/
  carry : Cells (List Word) := []
  /-- The images of the table slots' halves, as words, keyed 2 * slot + half (R166, R172); SF_SLOT_s holds their state. -/
  table : Cells (List Word) := []
  sram : Cells Byte := []
  /-- Doublewords of local SRAM that read uncorrectable (R253). -/
  sramBad : List Nat := []
  /-- Doublewords of local SRAM with a single-bit error that the next read corrects (R253). -/
  sramCe : List Nat := []
  slots : List Slot := []
  /-- Requests of the running copies that have not taken a slot yet, in issue order (R296). -/
  toIssue : List Slot := []
  slotPtr : Nat := 0
  tlb : List TlbEntry := []
  /-- The high words that CORE_STALL_*_LO reads have latched (R637), by register key. -/
  stallLatch : Cells Word := []
  deriving DecidableEq, Repr

/-- A core as a cold reset leaves it (R247, R254, R597). -/
def Core.reset : Core := {}

end Machine
end Sys2Proof
end

