-- ==== Sys2Proof/Machine/Num.lean ====
section
/-!
DEFINITION. Numbers: exact values, the floating formats, and the one rounding of every operation and conversion (R56, R60, R61,
R142). A value that floating arithmetic forms is a `Num`; operations on it are exact, and rounding happens once, at the end.
-/
namespace Sys2Proof
namespace Machine

/-- An exact value: NaN, an infinity, a zero with its sign, or m * 2^e with m ≠ 0. -/
inductive Num where
  | nan
  | inf (neg : Bool)
  | zero (neg : Bool)
  | fin (m : Int) (e : Int)
  deriving DecidableEq, Repr

/-- m * 2^e; zero is +0. -/
def Num.of (m e : Int) : Num := if m = 0 then .zero false else .fin m e

def Num.isNan : Num → Bool
  | .nan => true
  | _ => false

def Num.isInf : Num → Bool
  | .inf _ => true
  | _ => false

/-- Neither NaN nor infinite. -/
def Num.finite (x : Num) : Bool := !x.isNan && !x.isInf

def Num.isZero : Num → Bool
  | .zero _ => true
  | _ => false

/-- The sign of a value that is not NaN. -/
def Num.sign : Num → Bool
  | .nan => false
  | .inf s => s
  | .zero s => s
  | .fin m _ => decide (m < 0)

def Num.neg : Num → Num
  | .nan => .nan
  | .inf s => .inf (!s)
  | .zero s => .zero (!s)
  | .fin m e => .fin (-m) e

def Num.abs (x : Num) : Num := if x.sign then x.neg else x

/-- The exact sum, with the signs of zero of IEEE 754-2019 under round to nearest. -/
def Num.add : Num → Num → Num
  | .nan, _ => .nan
  | _, .nan => .nan
  | .inf s, .inf t => if s = t then .inf s else .nan
  | .inf s, _ => .inf s
  | _, .inf t => .inf t
  | .zero s, .zero t => .zero (s && t)
  | .zero _, y => y
  | x, .zero _ => x
  | .fin m e, .fin n f =>
    let g := min e f
    Num.of (m * 2 ^ (e - g).toNat + n * 2 ^ (f - g).toNat) g

/-- The exact product. -/
def Num.mul : Num → Num → Num
  | .nan, _ => .nan
  | _, .nan => .nan
  | .inf s, y => if y.isZero then .nan else .inf (s != y.sign)
  | x, .inf t => if x.isZero then .nan else .inf (x.sign != t)
  | .zero s, y => .zero (s != y.sign)
  | x, .zero t => .zero (x.sign != t)
  | .fin m e, .fin n f => .fin (m * n) (e + f)

def Num.sub (x y : Num) : Num := x.add y.neg

/-- Multiplies by 2^k. -/
def Num.scale (k : Int) : Num → Num
  | .fin m e => .fin m (e + k)
  | x => x

/-- A natural number as a value. -/
def Num.ofNat (n : Nat) : Num := Num.of n 0

/-- The comparison of two values that are not NaN: −0 equals +0. -/
def Num.lt (x y : Num) : Bool :=
  match x, y with
  | .nan, _ => false
  | _, .nan => false
  | .inf s, .inf t => s && !t
  | .inf s, _ => s
  | _, .inf t => !t
  | x, y =>
    match x.sub y with
    | .fin m _ => decide (m < 0)
    | _ => false

/-- Equality of values: −0 equals +0, NaN equals nothing. -/
def Num.eq (x y : Num) : Bool := !x.isNan && !y.isNan && !x.lt y && !y.lt x

/-- The bit length of a number: the position above its highest set bit. -/
def bitLen (n : Nat) : Nat := if n = 0 then 0 else Nat.log2 n + 1

/-- The quotient of two values as far as one rounding to at most 64 bits can tell: floor with a sticky bit below (R161, R197,
R445: exact division, rounded once afterwards). -/
def Num.div : Num → Num → Num
  | .nan, _ => .nan
  | _, .nan => .nan
  | .inf s, y => if y.isInf then .nan else .inf (s != y.sign)
  | x, .inf t => .zero (x.sign != t)
  | .zero s, y => if y.isZero then .nan else .zero (s != y.sign)
  | x, .zero t => .inf (x.sign != t)
  | .fin m e, .fin n f =>
    let k := 128 + bitLen n.natAbs
    let q := m.natAbs * 2 ^ k / n.natAbs
    let r := m.natAbs * 2 ^ k % n.natAbs
    let v : Int := ((2 * q + (if r = 0 then 0 else 1) : Nat) : Int)
    .fin (if decide (m < 0) != decide (n < 0) then -v else v) (e - f - (k : Int) - 1)

/-- The integer square root of a number below 4^fuel, bit by bit. -/
def isqrtAux (x : Nat) : Nat → Nat → Nat
  | 0, r => r
  | k + 1, r => if (r + 2 ^ k) * (r + 2 ^ k) ≤ x then isqrtAux x k (r + 2 ^ k) else isqrtAux x k r

def isqrt (x : Nat) : Nat := isqrtAux x (bitLen x / 2 + 1) 0

/-- The square root of a positive value, as far as one rounding can tell. -/
def Num.sqrt : Num → Num
  | .nan => .nan
  | .inf s => if s then .nan else .inf false
  | .zero s => .zero s
  | .fin m e =>
    if m < 0 then .nan
    else
      let odd := e % 2
      let x := m.toNat * 2 ^ odd.toNat * 2 ^ 256
      let q := isqrt x
      .fin ((2 * q + (if q * q = x then 0 else 1) : Nat) : Int) ((e - odd) / 2 - 129)

/-! ## Rounding -/

/-- m * 2^k rounded to an integer, to nearest with ties to even, for a magnitude m. -/
def roundNat (m : Nat) (k : Int) : Nat :=
  if 0 ≤ k then m * 2 ^ k.toNat
  else
    let d := 2 ^ (-k).toNat
    let q := m / d
    let r := m % d
    if 2 * r < d then q else if d < 2 * r then q + 1 else if q % 2 = 0 then q else q + 1

/-- A finite value rounded to a multiple of 2^w, as the count of that weight; and whether the rounding changed it. -/
def Num.roundAt (w : Int) : Num → Int × Bool
  | .fin m e =>
    let q := roundNat m.natAbs (e - w)
    let changed := !(decide (w ≤ e) || decide (m.natAbs % 2 ^ (w - e).toNat = 0))
    (if m < 0 then -(q : Int) else (q : Int), changed)
  | _ => (0, false)

/-- A floating format: exponent bits, fraction bits (R47). -/
structure FloatFmt where
  ebits : Nat
  mbits : Nat
  deriving DecidableEq, Repr

def fp32 : FloatFmt := ⟨8, 23⟩
def bf16 : FloatFmt := ⟨8, 7⟩
def fp16 : FloatFmt := ⟨5, 10⟩

def FloatFmt.bias (f : FloatFmt) : Nat := 2 ^ (f.ebits - 1) - 1

/-- All ones in the exponent, zero fraction: the pattern of +∞. -/
def FloatFmt.infBits (f : FloatFmt) : Nat := (2 ^ f.ebits - 1) * 2 ^ f.mbits

/-- The sign bit. -/
def FloatFmt.signBit (f : FloatFmt) : Nat := 2 ^ (f.ebits + f.mbits)

/-- The canonical NaN (R56). -/
def FloatFmt.nanBits (f : FloatFmt) : Nat := f.infBits + 2 ^ (f.mbits - 1)

/-- The finite value of a bit pattern, its top exponent an ordinary one (R47). -/
def FloatFmt.finiteValue (f : FloatFmt) (x : Nat) : Num :=
  let s := x.testBit (f.ebits + f.mbits)
  let e := x / 2 ^ f.mbits % 2 ^ f.ebits
  let m := x % 2 ^ f.mbits
  if e = 0 ∧ m = 0 then .zero s
  else
    let mag : Nat := if e = 0 then m else m + 2 ^ f.mbits
    let ex : Int := (if e = 0 then 1 else (e : Int)) - (f.bias : Int) - (f.mbits : Int)
    .fin (if s then -(mag : Int) else (mag : Int)) ex

/-- The value of a bit pattern of a format with infinities and NaN. -/
def FloatFmt.decode (f : FloatFmt) (x : Nat) : Num :=
  if x / 2 ^ f.mbits % 2 ^ f.ebits = 2 ^ f.ebits - 1 then
    (if x % 2 ^ f.mbits = 0 then .inf (x.testBit (f.ebits + f.mbits)) else .nan)
  else f.finiteValue x

/-- A rounded result: its bits, whether the rounded magnitude exceeds the largest finite value, and whether the rounding
changed the value. -/
structure Rounded where
  bits : Nat
  beyond : Bool := false
  lost : Bool := false
  deriving DecidableEq, Repr

/-- A magnitude m * 2^e rounded to nearest, ties to even, on the grid of a format whose exponents have no upper end: the
pattern of the result, and whether rounding changed the value. -/
def FloatFmt.roundMag (f : FloatFmt) (m : Nat) (e : Int) : Nat × Bool :=
  let emin : Int := 1 - (f.bias : Int) - (f.mbits : Int)
  let q := max (e + (bitLen m : Int) - 1 - (f.mbits : Int)) emin
  let r := roundNat m (e - q)
  (if r < 2 ^ f.mbits then r else (q - emin).toNat * 2 ^ f.mbits + r,
    !(decide (q ≤ e) || decide (m % 2 ^ (q - e).toNat = 0)))

/-- One rounding into a floating format, to nearest with ties to even, subnormals kept; past the largest finite value it becomes
an infinity (R142), or with `sat` the largest finite value (R56). -/
def FloatFmt.round (f : FloatFmt) (sat : Bool) : Num → Rounded
  | .nan => { bits := f.nanBits }
  | .inf s => { bits := f.infBits + (if s then f.signBit else 0) }
  | .zero s => { bits := if s then f.signBit else 0 }
  | .fin m e =>
    let sg := if m < 0 then f.signBit else 0
    let r := f.roundMag m.natAbs e
    if f.infBits ≤ r.1 then { bits := sg + (if sat then f.infBits - 1 else f.infBits), beyond := true, lost := r.2 }
    else { bits := sg + r.1, lost := r.2 }

/-- The FP32 pattern of an arithmetic result (R142). -/
def Num.toFp32 (x : Num) : Nat := (fp32.round false x).bits

/-- The value of an FP32 pattern. -/
def Num.ofFp32 (x : Nat) : Num := fp32.decode x

/-- A value rounded once to FP32, as a value again (R142). -/
def Num.rnd (x : Num) : Num := fp32.decode (fp32.round false x).bits

/-! ## Minimum, maximum, bit patterns in order -/

/-- vx.min and vx.max on values: NaN if either is; −0 orders below +0 (R143). -/
def Num.minimum (x y : Num) : Num :=
  if x.isNan || y.isNan then .nan
  else if x.lt y then x else if y.lt x then y else if x.sign then x else y

def Num.maximum (x y : Num) : Num :=
  if x.isNan || y.isNan then .nan
  else if x.lt y then y else if y.lt x then x else if x.sign then y else x

/-- The place of a finite pattern in the ordered sequence of its format, −0 and +0 taken as one (R169). -/
def FloatFmt.place (f : FloatFmt) (x : Nat) : Int :=
  let m : Int := ((x % f.signBit : Nat) : Int)
  if x.testBit (f.ebits + f.mbits) then -m else m

/-- The pattern at a place of the ordered sequence; place 0 is +0. -/
def FloatFmt.ofPlace (f : FloatFmt) (p : Int) : Nat := if p < 0 then f.signBit + p.natAbs else p.toNat

end Machine
end Sys2Proof
end

