-- ==== Sys2Proof/Machine/Regs.lean ====
section
/-!
DEFINITION. The register file: the address of every register of the manual, its write mask and its reset value. A
register is keyed by its byte offset in BAR0 of the physical function (R495); the instance of virtual function f of a
register that every function has its own of (ZN_, the MSI-X table, the TIM_NOW latch) lies at f * 64 MiB + offset.
The block and register offsets, access codes and reset values are the register tables of the chapters; a field whose
write is a command with a row of its own is not in the write mask.
-/
namespace Sys2Proof
namespace Machine

/-- Register blocks in BAR0 (R495). -/
def Reg.HUB : Nat := 0x0000000
def Reg.TIM : Nat := 0x0010000
def Reg.AQ : Nat := 0x0020000
def Reg.CIS : Nat := 0x0030000
def Reg.EVT : Nat := 0x0040000
def Reg.SEC : Nat := 0x0080000
def Reg.PWR : Nat := 0x0090000
def Reg.CFG : Nat := 0x00A0000
/-- The ZN_ block of function f, its own instance (R525). -/
def Reg.ZN (f : Nat) : Nat := f * 0x4000000 + 0x00B0000
/-- The STK_ block of partition p. -/
def Reg.STK (p : Nat) : Nat := 0x0100000 + 0x2000 * p
/-- The RED_ block of partition p. -/
def Reg.RED (p : Nat) : Nat := 0x0140000 + 0x1000 * p
/-- The UPD_ block of partition p. -/
def Reg.UPD (p : Nat) : Nat := 0x0150000 + 0x1000 * p
/-- The CORE_ block of logical core c; MX_, VX_, SF_ and CP_ follow it. -/
def Reg.CORE (c : Nat) : Nat := 0x1000000 + 0x20000 * c
def Reg.MX (c : Nat) : Nat := Reg.CORE c + 0x1000
def Reg.VX (c : Nat) : Nat := Reg.CORE c + 0x2000
def Reg.SF (c : Nat) : Nat := Reg.CORE c + 0x3000
def Reg.CP (c : Nat) : Nat := Reg.CORE c + 0x4000


/-! Registers of chapter 01. -/
def Reg.HUB_IDENT : Nat := Reg.HUB + 0x0
def Reg.HUB_CAPS : Nat := Reg.HUB + 0x4
def Reg.HUB_SLOTMAP (g : Nat) : Nat := Reg.HUB + 0x100 + 4 * g
def Reg.HUB_SLOTSTAT (g : Nat) : Nat := Reg.HUB + 0x140 + 4 * g

/-! Registers of chapter 02. -/
def Reg.CORE_CONV_LOST (k : Nat) : Nat := Reg.CORE k + 0x400
def Reg.CORE_CONV_SAT (k : Nat) : Nat := Reg.CORE k + 0x404
def Reg.CORE_CONV_POISON (k : Nat) : Nat := Reg.CORE k + 0x408
def Reg.CORE_CONV_LASTTAG (k : Nat) : Nat := Reg.CORE k + 0x40C

/-! Registers of chapter 03. -/
def Reg.MX_STATUS (k : Nat) : Nat := Reg.MX k + 0x0
def Reg.MX_GANG_SET (k : Nat) (j : Nat) : Nat := Reg.MX k + 0x10 + 4 * j
def Reg.MX_PASSES_LO (k : Nat) : Nat := Reg.MX k + 0x40
def Reg.MX_PASSES_HI (k : Nat) : Nat := Reg.MX k + 0x44
def Reg.MX_TRUNC (k : Nat) : Nat := Reg.MX k + 0x48
def Reg.MX_STICKY_OUT (k : Nat) : Nat := Reg.MX k + 0x4C
def Reg.MX_EMPTY (k : Nat) : Nat := Reg.MX k + 0x50
def Reg.MX_NAN_OUT (k : Nat) : Nat := Reg.MX k + 0x54
def Reg.MX_LASTTAG (k : Nat) : Nat := Reg.MX k + 0x58
def Reg.MX_STREAM_LO (k : Nat) : Nat := Reg.MX k + 0x60
def Reg.MX_STREAM_HI (k : Nat) : Nat := Reg.MX k + 0x64
def Reg.MX_FILL_LO (k : Nat) : Nat := Reg.MX k + 0x68
def Reg.MX_FILL_HI (k : Nat) : Nat := Reg.MX k + 0x6C

/-! Registers of chapter 04. -/
def Reg.MX_SP_STATUS (k : Nat) : Nat := Reg.MX k + 0x80
def Reg.MX_SP_TILES_LO (k : Nat) : Nat := Reg.MX k + 0x88
def Reg.MX_SP_TILES_HI (k : Nat) : Nat := Reg.MX k + 0x8C
def Reg.MX_SP_ROUTED (k : Nat) : Nat := Reg.MX k + 0x90
def Reg.MX_SP_CMDS (k : Nat) : Nat := Reg.MX k + 0x94

/-! Registers of chapter 05. -/
def Reg.VX_STATUS (k : Nat) : Nat := Reg.VX k + 0x0
def Reg.VX_VL (k : Nat) : Nat := Reg.VX k + 0x4
def Reg.VX_RETIRED_LO (k : Nat) : Nat := Reg.VX k + 0x10
def Reg.VX_RETIRED_HI (k : Nat) : Nat := Reg.VX k + 0x14
def Reg.VX_ARITH_BUSY_LO (k : Nat) : Nat := Reg.VX k + 0x18
def Reg.VX_ARITH_BUSY_HI (k : Nat) : Nat := Reg.VX k + 0x1C
def Reg.VX_SF_BUSY_LO (k : Nat) : Nat := Reg.VX k + 0x20
def Reg.VX_SF_BUSY_HI (k : Nat) : Nat := Reg.VX k + 0x24
def Reg.VX_RD_BUSY_LO (k : Nat) : Nat := Reg.VX k + 0x28
def Reg.VX_RD_BUSY_HI (k : Nat) : Nat := Reg.VX k + 0x2C
def Reg.VX_WR_BUSY_LO (k : Nat) : Nat := Reg.VX k + 0x30
def Reg.VX_WR_BUSY_HI (k : Nat) : Nat := Reg.VX k + 0x34
def Reg.VX_NAN_GEN (k : Nat) : Nat := Reg.VX k + 0x40
def Reg.VX_OVF (k : Nat) : Nat := Reg.VX k + 0x44
def Reg.VX_ISAT (k : Nat) : Nat := Reg.VX k + 0x48
def Reg.VX_LASTTAG (k : Nat) : Nat := Reg.VX k + 0x4C

/-! Registers of chapter 06. -/
def Reg.SF_BUILTIN (k : Nat) : Nat := Reg.SF k + 0x0
def Reg.SF_LOADS (k : Nat) : Nat := Reg.SF k + 0x10
def Reg.SF_REFUSED (k : Nat) : Nat := Reg.SF k + 0x14
def Reg.SF_REFUSE_INFO (k : Nat) : Nat := Reg.SF k + 0x18
def Reg.SF_REFUSE_TAG (k : Nat) : Nat := Reg.SF k + 0x1C
def Reg.SF_MONO_CLAMP (k : Nat) : Nat := Reg.SF k + 0x20
def Reg.SF_OOR (k : Nat) : Nat := Reg.SF k + 0x24
def Reg.SF_SAT (k : Nat) : Nat := Reg.SF k + 0x28
def Reg.SF_SLOT (k : Nat) (s : Nat) : Nat := Reg.SF k + 0x100 + 4 * s

/-! Registers of chapter 07. -/
def Reg.VX_SCAN_BUSY_LO (k : Nat) : Nat := Reg.VX k + 0x38
def Reg.VX_SCAN_BUSY_HI (k : Nat) : Nat := Reg.VX k + 0x3C

/-! Registers of chapter 08. -/
def Reg.CORE_CTL (k : Nat) : Nat := Reg.CORE k + 0x0
def Reg.CORE_STATE (k : Nat) : Nat := Reg.CORE k + 0x4
def Reg.CORE_ENTRY (k : Nat) : Nat := Reg.CORE k + 0x8
def Reg.CORE_TAG_BASE (k : Nat) : Nat := Reg.CORE k + 0xC
def Reg.CORE_REPLAYS_LO (k : Nat) : Nat := Reg.CORE k + 0x10
def Reg.CORE_REPLAYS_HI (k : Nat) : Nat := Reg.CORE k + 0x14
def Reg.CORE_QOCC0 (k : Nat) : Nat := Reg.CORE k + 0x18
def Reg.CORE_QOCC1 (k : Nat) : Nat := Reg.CORE k + 0x1C
def Reg.CORE_FAULT (k : Nat) : Nat := Reg.CORE k + 0x20
def Reg.CORE_MISSED (k : Nat) : Nat := Reg.CORE k + 0x24
def Reg.CORE_PDIRTY_LO (k : Nat) : Nat := Reg.CORE k + 0x28
def Reg.CORE_PDIRTY_HI (k : Nat) : Nat := Reg.CORE k + 0x2C
def Reg.CORE_SEM (k : Nat) (n : Nat) : Nat := Reg.CORE k + 0x100 + 4 * n
def Reg.CORE_PSTAGE_LO (k : Nat) (n : Nat) : Nat := Reg.CORE k + 0x200 + 8 * n
def Reg.CORE_PSTAGE_HI (k : Nat) (n : Nat) : Nat := Reg.CORE k + 0x204 + 8 * n
def Reg.CORE_PLIVE_LO (k : Nat) (n : Nat) : Nat := Reg.CORE k + 0x500 + 8 * n
def Reg.CORE_PLIVE_HI (k : Nat) (n : Nat) : Nat := Reg.CORE k + 0x504 + 8 * n

/-! Registers of chapter 09. -/
def Reg.HUB_PT_ROOT_LO (p : Nat) : Nat := Reg.HUB + 0x400 + 8 * p
def Reg.HUB_PT_ROOT_HI (p : Nat) : Nat := Reg.HUB + 0x404 + 8 * p
def Reg.HUB_CC_HITS_LO (g : Nat) : Nat := Reg.HUB + 0x500 + 32 * g
def Reg.HUB_CC_HITS_HI (g : Nat) : Nat := Reg.HUB + 0x504 + 32 * g
def Reg.HUB_CC_MISSES_LO (g : Nat) : Nat := Reg.HUB + 0x508 + 32 * g
def Reg.HUB_CC_MISSES_HI (g : Nat) : Nat := Reg.HUB + 0x50C + 32 * g
def Reg.HUB_CC_WBACK_LO (g : Nat) : Nat := Reg.HUB + 0x510 + 32 * g
def Reg.HUB_CC_WBACK_HI (g : Nat) : Nat := Reg.HUB + 0x514 + 32 * g
def Reg.HUB_CC_MAINT (g : Nat) : Nat := Reg.HUB + 0x518 + 32 * g
def Reg.CORE_MEM_SLOTS (k : Nat) : Nat := Reg.CORE k + 0x700
def Reg.CORE_MEM_WALKS (k : Nat) : Nat := Reg.CORE k + 0x704
def Reg.CORE_MEM_XMISS (k : Nat) : Nat := Reg.CORE k + 0x708

/-! Registers of chapter 10. -/
def Reg.CP_STATUS_0 (k : Nat) : Nat := Reg.CP k + 0x0
def Reg.CP_STATUS_1 (k : Nat) : Nat := Reg.CP k + 0x4
def Reg.CP_BYTES_0_LO (k : Nat) : Nat := Reg.CP k + 0x10
def Reg.CP_BYTES_0_HI (k : Nat) : Nat := Reg.CP k + 0x14
def Reg.CP_BYTES_1_LO (k : Nat) : Nat := Reg.CP k + 0x18
def Reg.CP_BYTES_1_HI (k : Nat) : Nat := Reg.CP k + 0x1C
def Reg.CP_CMDS_0 (k : Nat) : Nat := Reg.CP k + 0x20
def Reg.CP_CMDS_1 (k : Nat) : Nat := Reg.CP k + 0x24
def Reg.CP_OOB_READ (k : Nat) : Nat := Reg.CP k + 0x30
def Reg.CP_OOB_DROP (k : Nat) : Nat := Reg.CP k + 0x34
def Reg.CP_ADD_EXC (k : Nat) : Nat := Reg.CP k + 0x38
def Reg.CP_OVERLAP (k : Nat) : Nat := Reg.CP k + 0x3C
def Reg.CP_LASTTAG (k : Nat) : Nat := Reg.CP k + 0x40

/-! Registers of chapter 11. -/
def Reg.STK_CTL (p : Nat) : Nat := Reg.STK p + 0x0
def Reg.STK_STATUS (p : Nat) : Nat := Reg.STK p + 0x4
def Reg.STK_NUM (p : Nat) : Nat := Reg.STK p + 0x8
def Reg.STK_START_0 (p : Nat) : Nat := Reg.STK p + 0x10
def Reg.STK_START_1 (p : Nat) : Nat := Reg.STK p + 0x14
def Reg.STK_START_2 (p : Nat) : Nat := Reg.STK p + 0x18
def Reg.STK_FIRST (p : Nat) : Nat := Reg.STK p + 0x1C
def Reg.STK_PERIOD_LO (p : Nat) : Nat := Reg.STK p + 0x20
def Reg.STK_PERIOD_HI (p : Nat) : Nat := Reg.STK p + 0x24
def Reg.STK_GUARD (p : Nat) : Nat := Reg.STK p + 0x28
def Reg.STK_NENT (p : Nat) : Nat := Reg.STK p + 0x2C
def Reg.STK_STROKES_LO (p : Nat) : Nat := Reg.STK p + 0x30
def Reg.STK_STROKES_HI (p : Nat) : Nat := Reg.STK p + 0x34
def Reg.STK_SKIPPED (p : Nat) : Nat := Reg.STK p + 0x38
def Reg.STK_CANCELLED (p : Nat) : Nat := Reg.STK p + 0x3C
def Reg.STK_DRAIN_MAX (p : Nat) : Nat := Reg.STK p + 0x40
def Reg.STK_FIRED (p : Nat) : Nat := Reg.STK p + 0x44
def Reg.STK_CSET (p : Nat) (j : Nat) (w : Nat) : Nat := Reg.STK p + 0x100 + 16 * j + 4 * w
def Reg.STK_PHASE (p : Nat) (i : Nat) (w : Nat) : Nat := Reg.STK p + 0x1000 + 16 * i + 4 * w
def Reg.TIM_CTL : Nat := Reg.TIM + 0x0
def Reg.TIM_STATUS : Nat := Reg.TIM + 0x4
def Reg.TIM_NOW_0 : Nat := Reg.TIM + 0x8
def Reg.TIM_NOW_1 : Nat := Reg.TIM + 0xC
def Reg.TIM_NOW_2 : Nat := Reg.TIM + 0x10
def Reg.TIM_SET_0 : Nat := Reg.TIM + 0x18
def Reg.TIM_SET_1 : Nat := Reg.TIM + 0x1C
def Reg.TIM_SET_2 : Nat := Reg.TIM + 0x20
def Reg.TIM_OFFSET : Nat := Reg.TIM + 0x24
def Reg.TIM_PTP_CFG : Nat := Reg.TIM + 0x28
def Reg.TIM_STEPS : Nat := Reg.TIM + 0x2C
def Reg.TIM_SLEW : Nat := Reg.TIM + 0x30

/-! Registers of chapter 12. -/
def Reg.RED_CTL (p : Nat) : Nat := Reg.RED p + 0x0
def Reg.RED_STATUS (p : Nat) : Nat := Reg.RED p + 0x4
def Reg.RED_WIN_CMD (p : Nat) : Nat := Reg.RED p + 0x8
def Reg.RED_SETTLE_TAG (p : Nat) : Nat := Reg.RED p + 0xC
def Reg.RED_BDT_LO (p : Nat) : Nat := Reg.RED p + 0x10
def Reg.RED_BDT_HI (p : Nat) : Nat := Reg.RED p + 0x14
def Reg.RED_RANK_LO (p : Nat) : Nat := Reg.RED p + 0x18
def Reg.RED_RANK_HI (p : Nat) : Nat := Reg.RED p + 0x1C
def Reg.RED_WTAB_LO (p : Nat) : Nat := Reg.RED p + 0x20
def Reg.RED_WTAB_HI (p : Nat) : Nat := Reg.RED p + 0x24
def Reg.RED_NRANK (p : Nat) : Nat := Reg.RED p + 0x28
def Reg.RED_LEVEL_NS (p : Nat) : Nat := Reg.RED p + 0x2C
def Reg.RED_ERR_TAG (p : Nat) : Nat := Reg.RED p + 0x30
def Reg.RED_SENT_LO (p : Nat) : Nat := Reg.RED p + 0x40
def Reg.RED_SENT_HI (p : Nat) : Nat := Reg.RED p + 0x44
def Reg.RED_SUMMED_LO (p : Nat) : Nat := Reg.RED p + 0x48
def Reg.RED_SUMMED_HI (p : Nat) : Nat := Reg.RED p + 0x4C
def Reg.RED_DONE (p : Nat) : Nat := Reg.RED p + 0x50
def Reg.RED_SETTLED (p : Nat) : Nat := Reg.RED p + 0x54
def Reg.RED_ABSENT (p : Nat) : Nat := Reg.RED p + 0x58
def Reg.RED_LATE (p : Nat) : Nat := Reg.RED p + 0x5C
def Reg.RED_STALE (p : Nat) : Nat := Reg.RED p + 0x60
def Reg.RED_NOCTX (p : Nat) : Nat := Reg.RED p + 0x64
def Reg.RED_DUP (p : Nat) : Nat := Reg.RED p + 0x68
def Reg.RED_RESCALED (p : Nat) : Nat := Reg.RED p + 0x6C
def Reg.RED_LOST (p : Nat) : Nat := Reg.RED p + 0x70
def Reg.RED_SAT (p : Nat) : Nat := Reg.RED p + 0x74
def Reg.RED_EXC (p : Nat) : Nat := Reg.RED p + 0x78
def Reg.RED_INCOMPLETE (p : Nat) : Nat := Reg.RED p + 0x7C

/-! Registers of chapter 13. -/
def Reg.AQ_CTL : Nat := Reg.AQ + 0x0
def Reg.AQ_STATUS : Nat := Reg.AQ + 0x4
def Reg.AQ_FLOWS_OPEN : Nat := Reg.AQ + 0x8
def Reg.AQ_UDP : Nat := Reg.AQ + 0xC
def Reg.AQ_RTO : Nat := Reg.AQ + 0x10
def Reg.AQ_RETRY : Nat := Reg.AQ + 0x14
def Reg.AQ_CC : Nat := Reg.AQ + 0x18
def Reg.AQ_PORT_CTL (i : Nat) : Nat := Reg.AQ + 0x20 + 8 * i
def Reg.AQ_PORT_STATUS (i : Nat) : Nat := Reg.AQ + 0x24 + 8 * i
def Reg.AQ_NHMAC_LO (i : Nat) : Nat := Reg.AQ + 0x80 + 8 * i
def Reg.AQ_NHMAC_HI (i : Nat) : Nat := Reg.AQ + 0x84 + 8 * i
def Reg.AQ_PORTMAC_LO (i : Nat) : Nat := Reg.AQ + 0xC0 + 8 * i
def Reg.AQ_PORTMAC_HI (i : Nat) : Nat := Reg.AQ + 0xC4 + 8 * i
def Reg.AQ_IP4 (p : Nat) : Nat := Reg.AQ + 0x100 + 32 * p
def Reg.AQ_IP6 (p : Nat) (w : Nat) : Nat := Reg.AQ + 0x104 + 32 * p + 4 * w
def Reg.AQ_QUOTA (p : Nat) : Nat := Reg.AQ + 0x114 + 32 * p
def Reg.AQ_WQT_LO (p : Nat) : Nat := Reg.AQ + 0x118 + 32 * p
def Reg.AQ_WQT_HI (p : Nat) : Nat := Reg.AQ + 0x11C + 32 * p
def Reg.AQ_TX_PKTS_LO : Nat := Reg.AQ + 0x300
def Reg.AQ_TX_PKTS_HI : Nat := Reg.AQ + 0x304
def Reg.AQ_RX_PKTS_LO : Nat := Reg.AQ + 0x308
def Reg.AQ_RX_PKTS_HI : Nat := Reg.AQ + 0x30C
def Reg.AQ_RETX : Nat := Reg.AQ + 0x310
def Reg.AQ_CRC_ERR : Nat := Reg.AQ + 0x314
def Reg.AQ_AUTH_ERR : Nat := Reg.AQ + 0x318
def Reg.AQ_STALE : Nat := Reg.AQ + 0x31C
def Reg.AQ_NOFLOW : Nat := Reg.AQ + 0x320
def Reg.AQ_CE : Nat := Reg.AQ + 0x324
def Reg.AQ_FLOW_REFUSED : Nat := Reg.AQ + 0x328
def Reg.AQ_BROKEN : Nat := Reg.AQ + 0x32C
def Reg.AQ_DISCARD : Nat := Reg.AQ + 0x330
def Reg.AQ_RXDROP : Nat := Reg.AQ + 0x334

/-! Registers of chapter 14. -/
def Reg.UPD_CTL (p : Nat) : Nat := Reg.UPD p + 0x0
def Reg.UPD_STATUS (p : Nat) : Nat := Reg.UPD p + 0x4
def Reg.UPD_NGROUP (p : Nat) : Nat := Reg.UPD p + 0x8
def Reg.UPD_COEF_LO (p : Nat) : Nat := Reg.UPD p + 0x10
def Reg.UPD_COEF_HI (p : Nat) : Nat := Reg.UPD p + 0x14
def Reg.UPD_GREC_LO (p : Nat) : Nat := Reg.UPD p + 0x18
def Reg.UPD_GREC_HI (p : Nat) : Nat := Reg.UPD p + 0x1C
def Reg.UPD_QT_LO (p : Nat) : Nat := Reg.UPD p + 0x20
def Reg.UPD_QT_HI (p : Nat) : Nat := Reg.UPD p + 0x24
def Reg.UPD_ERR_GROUP (p : Nat) : Nat := Reg.UPD p + 0x28
def Reg.UPD_ELEMS_LO (p : Nat) : Nat := Reg.UPD p + 0x40
def Reg.UPD_ELEMS_HI (p : Nat) : Nat := Reg.UPD p + 0x44
def Reg.UPD_DONE (p : Nat) : Nat := Reg.UPD p + 0x48
def Reg.UPD_FROZEN (p : Nat) : Nat := Reg.UPD p + 0x4C
def Reg.UPD_SKEW (p : Nat) : Nat := Reg.UPD p + 0x50
def Reg.UPD_TORN (p : Nat) : Nat := Reg.UPD p + 0x54
def Reg.UPD_CANCELLED (p : Nat) : Nat := Reg.UPD p + 0x58
def Reg.UPD_GUARDED (p : Nat) : Nat := Reg.UPD p + 0x5C
def Reg.UPD_NONFINITE (p : Nat) : Nat := Reg.UPD p + 0x60
def Reg.UPD_ABSENT (p : Nat) : Nat := Reg.UPD p + 0x64
def Reg.UPD_ROWSKIP (p : Nat) : Nat := Reg.UPD p + 0x68

/-! Registers of chapter 15. -/
def Reg.CIS_CKPT_RATE : Nat := Reg.CIS + 0x0
def Reg.CIS_CKPT_PLAN_LO (p : Nat) : Nat := Reg.CIS + 0x400 + 64 * p
def Reg.CIS_CKPT_PLAN_HI (p : Nat) : Nat := Reg.CIS + 0x404 + 64 * p
def Reg.CIS_CKPT_CTL (p : Nat) : Nat := Reg.CIS + 0x408 + 64 * p
def Reg.CIS_CKPT_STATUS (p : Nat) : Nat := Reg.CIS + 0x40C + 64 * p
def Reg.CIS_CKPT_SLICES (p : Nat) : Nat := Reg.CIS + 0x410 + 64 * p
def Reg.CIS_CKPT_MISSED (p : Nat) : Nat := Reg.CIS + 0x414 + 64 * p
def Reg.CIS_CKPT_PAGES_LO (p : Nat) : Nat := Reg.CIS + 0x418 + 64 * p
def Reg.CIS_CKPT_PAGES_HI (p : Nat) : Nat := Reg.CIS + 0x41C + 64 * p
def Reg.CIS_CKPT_COW (p : Nat) : Nat := Reg.CIS + 0x420 + 64 * p
def Reg.CIS_CKPT_PROMOTED (p : Nat) : Nat := Reg.CIS + 0x424 + 64 * p
def Reg.HUB_SVC : Nat := Reg.HUB + 0x800
def Reg.HUB_SVC_PART : Nat := Reg.HUB + 0x804
def Reg.HUB_SVC_PDEFER : Nat := Reg.HUB + 0x808
def Reg.HUB_REMAP_0 : Nat := Reg.HUB + 0x810
def Reg.HUB_REMAP_1 : Nat := Reg.HUB + 0x814
def Reg.HUB_REMAP_CIS : Nat := Reg.HUB + 0x818

/-! Registers of chapter 16. -/
def Reg.ZN_VERSION (f : Nat) : Nat := Reg.ZN f + 0x0
def Reg.ZN_CTL (f : Nat) : Nat := Reg.ZN f + 0x4
def Reg.ZN_STATUS (f : Nat) : Nat := Reg.ZN f + 0x8
def Reg.ZN_ASQ_LO (f : Nat) : Nat := Reg.ZN f + 0x10
def Reg.ZN_ASQ_HI (f : Nat) : Nat := Reg.ZN f + 0x14
def Reg.ZN_ACQ_LO (f : Nat) : Nat := Reg.ZN f + 0x18
def Reg.ZN_ACQ_HI (f : Nat) : Nat := Reg.ZN f + 0x1C
def Reg.ZN_AQ_CFG (f : Nat) : Nat := Reg.ZN f + 0x20
def Reg.ZN_BAR4_BASE_LO (f : Nat) : Nat := Reg.ZN f + 0x24
def Reg.ZN_BAR4_BASE_HI (f : Nat) : Nat := Reg.ZN f + 0x28
def Reg.ZN_RINGS (f : Nat) : Nat := Reg.ZN f + 0x30
def Reg.ZN_POOL_FREE (f : Nat) : Nat := Reg.ZN f + 0x34
def Reg.ZN_CMDS_LO (f : Nat) : Nat := Reg.ZN f + 0x40
def Reg.ZN_CMDS_HI (f : Nat) : Nat := Reg.ZN f + 0x44
def Reg.ZN_ERRS (f : Nat) : Nat := Reg.ZN f + 0x48
def Reg.ZN_DB_ERR (f : Nat) : Nat := Reg.ZN f + 0x4C
def Reg.ZN_CQ_STALL (f : Nat) : Nat := Reg.ZN f + 0x50
def Reg.ZN_BAR_DENY (f : Nat) : Nat := Reg.ZN f + 0x54

/-! Registers of chapter 17. -/
def Reg.EVT_CTL : Nat := Reg.EVT + 0x0
def Reg.EVT_STATUS : Nat := Reg.EVT + 0x4
def Reg.EVT_DELIVERED_LO : Nat := Reg.EVT + 0x10
def Reg.EVT_DELIVERED_HI : Nat := Reg.EVT + 0x14
def Reg.EVT_COALESCED : Nat := Reg.EVT + 0x18
def Reg.EVT_STRAY : Nat := Reg.EVT + 0x1C
def Reg.EVT_HELD : Nat := Reg.EVT + 0x20
def Reg.EVT_RAISE : Nat := Reg.EVT + 0x24
def Reg.EVT_COMPLETE : Nat := Reg.EVT + 0x28
def Reg.EVT_FN_WIN (v : Nat) : Nat := Reg.EVT + 0x100 + 4 * v
def Reg.EVT_ACTV (w : Nat) : Nat := Reg.EVT + 0x1000 + 4 * w
def Reg.EVT_PEND (w : Nat) : Nat := Reg.EVT + 0x1200 + 4 * w
def Reg.EVT_SRC (n : Nat) : Nat := Reg.EVT + 0x10000 + 4 * n
def Reg.EVT_SET (s : Nat) (i : Nat) : Nat := Reg.EVT + 0x20000 + 32 * s + 4 * i
def Reg.EVT_JRNL_HEAD : Nat := Reg.EVT + 0x30000
def Reg.EVT_JRNL (j : Nat) : Nat := Reg.EVT + 0x30100 + 4 * j

/-! Registers of chapter 18. -/
def Reg.SEC_STATE : Nat := Reg.SEC + 0x0
def Reg.SEC_PRES_CFG : Nat := Reg.SEC + 0x4
def Reg.SEC_PRES_STATUS : Nat := Reg.SEC + 0x8
def Reg.SEC_PRES_STRAY : Nat := Reg.SEC + 0xC
def Reg.SEC_PRES_TIMEOUT : Nat := Reg.SEC + 0x10
def Reg.SEC_ARB (s : Nat) : Nat := Reg.SEC + 0x20 + 4 * s
def Reg.SEC_DBG_CTL : Nat := Reg.SEC + 0x100
def Reg.SEC_DBG_STATUS : Nat := Reg.SEC + 0x104
def Reg.SEC_DBG_ADDR_LO : Nat := Reg.SEC + 0x108
def Reg.SEC_DBG_ADDR_HI : Nat := Reg.SEC + 0x10C
def Reg.SEC_DBG_DATA_LO : Nat := Reg.SEC + 0x110
def Reg.SEC_DBG_DATA_HI : Nat := Reg.SEC + 0x114
def Reg.PWR_STATE : Nat := Reg.PWR + 0x0
def Reg.PWR_LIMIT : Nat := Reg.PWR + 0x4

/-! Registers of chapter 19. -/
def Reg.CFG_CTL : Nat := Reg.CFG + 0x0
def Reg.CFG_STATUS : Nat := Reg.CFG + 0x4
def Reg.CFG_SEQ : Nat := Reg.CFG + 0x8
def Reg.CFG_USED : Nat := Reg.CFG + 0xC
def Reg.CFG_BOOT : Nat := Reg.CFG + 0x10
def Reg.CFG_BOOT_MS : Nat := Reg.CFG + 0x14
def Reg.CFG_WRITES : Nat := Reg.CFG + 0x18
def Reg.CFG_FW (s : Nat) : Nat := Reg.CFG + 0x20 + 4 * s

/-! Registers of chapter 20. -/
def Reg.PWR_VIN : Nat := Reg.PWR + 0x10
def Reg.PWR_IIN : Nat := Reg.PWR + 0x14
def Reg.PWR_PIN : Nat := Reg.PWR + 0x18
def Reg.PWR_PIN_PEAK : Nat := Reg.PWR + 0x1C
def Reg.PWR_GOV : Nat := Reg.PWR + 0x20
def Reg.PWR_THERM : Nat := Reg.PWR + 0x24
def Reg.PWR_INPUT_EXC : Nat := Reg.PWR + 0x28
def Reg.PWR_THROTTLES : Nat := Reg.PWR + 0x2C
def Reg.PWR_PACED_LO : Nat := Reg.PWR + 0x30
def Reg.PWR_PACED_HI : Nat := Reg.PWR + 0x34
def Reg.PWR_TEMP (n : Nat) : Nat := Reg.PWR + 0x100 + 4 * n

/-! Registers of chapter 21. -/
def Reg.CORE_STALL_LO (k : Nat) (e : Nat) (c : Nat) : Nat := Reg.CORE k + 0x800 + 128 * e + 8 * c
def Reg.CORE_STALL_HI (k : Nat) (e : Nat) (c : Nat) : Nat := Reg.CORE k + 0x804 + 128 * e + 8 * c
def Reg.CORE_STALL_CTL (k : Nat) : Nat := Reg.CORE k + 0xC00
def Reg.CORE_SRAM_ECC (k : Nat) : Nat := Reg.CORE k + 0xC04
def Reg.HUB_CC_ECC (g : Nat) : Nat := Reg.HUB + 0x51C + 32 * g
def Reg.HUB_RETIRE_CFG : Nat := Reg.HUB + 0x820
def Reg.HUB_FAULTS : Nat := Reg.HUB + 0x824
def Reg.HUB_FAULT_LOST : Nat := Reg.HUB + 0x828
def Reg.HUB_LINK_CFG : Nat := Reg.HUB + 0x82C
def Reg.HUB_LINK_ERR (l : Nat) : Nat := Reg.HUB + 0x840 + 4 * l
def Reg.HUB_MEMERR (b : Nat) : Nat := Reg.HUB + 0x8000 + 4 * b
def Reg.CIS_MEMERR (c : Nat) (b : Nat) : Nat := Reg.CIS + 0x1000 + 2048 * c + 4 * b
def Reg.AQ_FEC_CORR (i : Nat) : Nat := Reg.AQ + 0x400 + 16 * i
def Reg.AQ_FEC_UNCORR (i : Nat) : Nat := Reg.AQ + 0x404 + 16 * i
def Reg.AQ_FCS_ERR (i : Nat) : Nat := Reg.AQ + 0x408 + 16 * i
def Reg.AQ_LINK_DOWN (i : Nat) : Nat := Reg.AQ + 0x40C + 16 * i
def Reg.AQ_NETWAIT_LO (p : Nat) : Nat := Reg.AQ + 0x500 + 8 * p
def Reg.AQ_NETWAIT_HI (p : Nat) : Nat := Reg.AQ + 0x504 + 8 * p
def Reg.ZN_FAULT_LO (f : Nat) : Nat := Reg.ZN f + 0x60
def Reg.ZN_FAULT_HI (f : Nat) : Nat := Reg.ZN f + 0x64
def Reg.ZN_FAULT_CFG (f : Nat) : Nat := Reg.ZN f + 0x68
def Reg.ZN_FAULT_IDX (f : Nat) : Nat := Reg.ZN f + 0x6C
def Reg.ZN_FAULT_LOST (f : Nat) : Nat := Reg.ZN f + 0x70
def Reg.SEC_TRACE_LO : Nat := Reg.SEC + 0x200
def Reg.SEC_TRACE_HI : Nat := Reg.SEC + 0x204
def Reg.SEC_TRACE_CFG : Nat := Reg.SEC + 0x208
def Reg.SEC_TRACE_TAIL : Nat := Reg.SEC + 0x20C
def Reg.SEC_TRACE_LOST : Nat := Reg.SEC + 0x210

/-! Registers of chapter 14. -/
def Reg.CIS_UPD_STATUS (c : Nat) : Nat := Reg.CIS + 0x100 + 32 * c
def Reg.CIS_BUILTIN (c : Nat) : Nat := Reg.CIS + 0x104 + 32 * c

/-- The MSI-X table entry of vector `vec` of function f, 16 bytes as PCI Express 6.0 defines (R548): address low and high,
data, vector control. -/
def Reg.MSIX (f vec : Nat) : Nat := f * 0x4000000 + Reg.EVT + 0x34000 + 16 * vec

/-- One row of a block's register table: registers at `off + s1 * a + s2 * b` for a below `n1` and b below `n2`, the bits a
host write sets, the reset value, and the reserved bits (R11). -/
structure RegRow where
  name : String
  off : Nat
  n1 : Nat
  s1 : Nat
  n2 : Nat
  s2 : Nat
  rw : Word
  reset : Word
  resv : Word
  deriving DecidableEq, Repr

/-- Whether a block offset is a register of the row. -/
def RegRow.covers (r : RegRow) (o : Nat) : Bool :=
  decide (r.off ≤ o) && decide ((o - r.off) / r.s1 < r.n1) && decide ((o - r.off) % r.s1 / r.s2 < r.n2)
    && decide ((o - r.off) % r.s1 % r.s2 = 0)

/-- The register table of the HUB_ block. -/
def Reg.tableHub : List RegRow := [
  ⟨"HUB_IDENT", 0x0, 1, 4, 1, 4, 0x00000000#32, 0x24000100#32, 0x000000FF#32⟩,
  ⟨"HUB_CAPS", 0x4, 1, 4, 1, 4, 0x00000000#32, 0x4498FF00#32, 0x000000FF#32⟩,
  ⟨"HUB_SLOTMAP", 0x100, 16, 4, 1, 4, 0x00000000#32, 0x76543210#32, 0x00000000#32⟩,
  ⟨"HUB_SLOTSTAT", 0x140, 16, 4, 1, 4, 0x00000000#32, 0x00000000#32, 0xFFFF3E00#32⟩,
  ⟨"HUB_PT_ROOT_LO", 0x400, 16, 8, 1, 4, 0x00000000#32, 0x00000000#32, 0x00000FFE#32⟩,
  ⟨"HUB_PT_ROOT_HI", 0x404, 16, 8, 1, 4, 0x00000000#32, 0x00000000#32, 0xFFFF0000#32⟩,
  ⟨"HUB_CC_HITS_LO", 0x500, 16, 32, 1, 4, 0xFFFFFFFF#32, 0x00000000#32, 0x00000000#32⟩,
  ⟨"HUB_CC_HITS_HI", 0x504, 16, 32, 1, 4, 0xFFFFFFFF#32, 0x00000000#32, 0x00000000#32⟩,
  ⟨"HUB_CC_MISSES_LO", 0x508, 16, 32, 1, 4, 0xFFFFFFFF#32, 0x00000000#32, 0x00000000#32⟩,
  ⟨"HUB_CC_MISSES_HI", 0x50C, 16, 32, 1, 4, 0xFFFFFFFF#32, 0x00000000#32, 0x00000000#32⟩,
  ⟨"HUB_CC_WBACK_LO", 0x510, 16, 32, 1, 4, 0xFFFFFFFF#32, 0x00000000#32, 0x00000000#32⟩,
  ⟨"HUB_CC_WBACK_HI", 0x514, 16, 32, 1, 4, 0xFFFFFFFF#32, 0x00000000#32, 0x00000000#32⟩,
  ⟨"HUB_CC_MAINT", 0x518, 16, 32, 1, 4, 0xFFFFFFFF#32, 0x00000000#32, 0x00000000#32⟩,
  ⟨"HUB_SVC", 0x800, 1, 4, 1, 4, 0x00000000#32, 0x00000000#32, 0xFFFC0000#32⟩,
  ⟨"HUB_SVC_PART", 0x804, 1, 4, 1, 4, 0x00000000#32, 0xFFFFFFFF#32, 0x00000000#32⟩,
  ⟨"HUB_SVC_PDEFER", 0x808, 1, 4, 1, 4, 0x00000000#32, 0x00000000#32, 0xFFFF0000#32⟩,
  ⟨"HUB_REMAP_0", 0x810, 1, 4, 1, 4, 0x00000000#32, 0x00000000#32, 0x00000000#32⟩,
  ⟨"HUB_REMAP_1", 0x814, 1, 4, 1, 4, 0x00000000#32, 0x00000000#32, 0x00000000#32⟩,
  ⟨"HUB_REMAP_CIS", 0x818, 1, 4, 1, 4, 0x00000000#32, 0x00000000#32, 0xFFFF0000#32⟩,
  ⟨"HUB_CC_ECC", 0x51C, 16, 32, 1, 4, 0xFFFFFFFF#32, 0x00000000#32, 0x00000000#32⟩,
  ⟨"HUB_RETIRE_CFG", 0x820, 1, 4, 1, 4, 0xFFFFFFFF#32, 0xF1000818#32, 0x00000000#32⟩,
  ⟨"HUB_FAULTS", 0x824, 1, 4, 1, 4, 0xFFFFFFFF#32, 0x00000000#32, 0x00000000#32⟩,
  ⟨"HUB_FAULT_LOST", 0x828, 1, 4, 1, 4, 0xFFFFFFFF#32, 0x00000000#32, 0x00000000#32⟩,
  ⟨"HUB_LINK_CFG", 0x82C, 1, 4, 1, 4, 0xFFFFFFFF#32, 0x000003E8#32, 0x00000000#32⟩] ++ [
  ⟨"HUB_LINK_ERR", 0x840, 10, 4, 1, 4, 0xFFFFFFFF#32, 0x00000000#32, 0x00000000#32⟩,
  ⟨"HUB_MEMERR", 0x8000, 8192, 4, 1, 4, 0xFFFFFFFF#32, 0x00000000#32, 0x00000000#32⟩]

/-- The register table of the TIM_ block. -/
def Reg.tableTim : List RegRow := [
  ⟨"TIM_CTL", 0x0, 1, 4, 1, 4, 0x00000000#32, 0x00000000#32, 0xFFFFFEF8#32⟩,
  ⟨"TIM_STATUS", 0x4, 1, 4, 1, 4, 0x00800000#32, 0x0F000000#32, 0x007FFFFF#32⟩,
  ⟨"TIM_NOW_0", 0x8, 1, 4, 1, 4, 0x00000000#32, 0x00000000#32, 0x00000000#32⟩,
  ⟨"TIM_NOW_1", 0xC, 1, 4, 1, 4, 0x00000000#32, 0x00000000#32, 0x00000000#32⟩,
  ⟨"TIM_NOW_2", 0x10, 1, 4, 1, 4, 0x00000000#32, 0x00000000#32, 0x00000000#32⟩,
  ⟨"TIM_SET_0", 0x18, 1, 4, 1, 4, 0xFFFFFFFF#32, 0x00000000#32, 0x00000000#32⟩,
  ⟨"TIM_SET_1", 0x1C, 1, 4, 1, 4, 0xFFFFFFFF#32, 0x00000000#32, 0x00000000#32⟩,
  ⟨"TIM_SET_2", 0x20, 1, 4, 1, 4, 0xFFFFFFFF#32, 0x00000000#32, 0x00000000#32⟩,
  ⟨"TIM_OFFSET", 0x24, 1, 4, 1, 4, 0x00000000#32, 0x00000000#32, 0x00000000#32⟩,
  ⟨"TIM_PTP_CFG", 0x28, 1, 4, 1, 4, 0x00000000#32, 0x0000FF00#32, 0xFFFC0080#32⟩,
  ⟨"TIM_STEPS", 0x2C, 1, 4, 1, 4, 0xFFFFFFFF#32, 0x00000000#32, 0x00000000#32⟩,
  ⟨"TIM_SLEW", 0x30, 1, 4, 1, 4, 0x00000000#32, 0x00000000#32, 0x00000000#32⟩]

/-- The register table of the AQ_ block. -/
def Reg.tableAq : List RegRow := [
  ⟨"AQ_CTL", 0x0, 1, 4, 1, 4, 0x00000003#32, 0x00000002#32, 0x0000FFFC#32⟩,
  ⟨"AQ_STATUS", 0x4, 1, 4, 1, 4, 0x00000000#32, 0x00000000#32, 0x00000000#32⟩,
  ⟨"AQ_FLOWS_OPEN", 0x8, 1, 4, 1, 4, 0x00000000#32, 0x00000000#32, 0xFFFC0000#32⟩,
  ⟨"AQ_UDP", 0xC, 1, 4, 1, 4, 0xFFF0FFFF#32, 0x6B004751#32, 0x000F0000#32⟩,
  ⟨"AQ_RTO", 0x10, 1, 4, 1, 4, 0xFFFFFFFF#32, 0x0000C350#32, 0x00000000#32⟩,
  ⟨"AQ_RETRY", 0x14, 1, 4, 1, 4, 0x00FF00FF#32, 0x00100020#32, 0xFF00FF00#32⟩,
  ⟨"AQ_CC", 0x18, 1, 4, 1, 4, 0xFFFFFFFF#32, 0x40050014#32, 0x00000000#32⟩,
  ⟨"AQ_PORT_CTL", 0x20, 8, 8, 1, 4, 0x0FFF0770#32, 0x80000630#32, 0x3000F88C#32⟩,
  ⟨"AQ_PORT_STATUS", 0x24, 8, 8, 1, 4, 0x00000000#32, 0x00000000#32, 0x07FFFF00#32⟩,
  ⟨"AQ_NHMAC_LO", 0x80, 8, 8, 1, 4, 0xFFFFFFFF#32, 0x00000000#32, 0x00000000#32⟩,
  ⟨"AQ_NHMAC_HI", 0x84, 8, 8, 1, 4, 0x0000FFFF#32, 0x00000000#32, 0xFFFF0000#32⟩,
  ⟨"AQ_PORTMAC_LO", 0xC0, 8, 8, 1, 4, 0x00000000#32, 0x00000000#32, 0x00000000#32⟩,
  ⟨"AQ_PORTMAC_HI", 0xC4, 8, 8, 1, 4, 0x00000000#32, 0x00000000#32, 0xFFFF0000#32⟩,
  ⟨"AQ_IP4", 0x100, 16, 32, 1, 4, 0xFFFFFFFF#32, 0x00000000#32, 0x00000000#32⟩,
  ⟨"AQ_IP6", 0x104, 16, 32, 4, 4, 0xFFFFFFFF#32, 0x00000000#32, 0x00000000#32⟩,
  ⟨"AQ_QUOTA", 0x114, 16, 32, 1, 4, 0x0003FFFF#32, 0x00000000#32, 0xFFFC0000#32⟩,
  ⟨"AQ_WQT_LO", 0x118, 16, 32, 1, 4, 0xFFFFE000#32, 0x00000000#32, 0x00001FFF#32⟩,
  ⟨"AQ_WQT_HI", 0x11C, 16, 32, 1, 4, 0x0000FFFF#32, 0x00000000#32, 0xFFFF0000#32⟩,
  ⟨"AQ_TX_PKTS_LO", 0x300, 1, 4, 1, 4, 0xFFFFFFFF#32, 0x00000000#32, 0x00000000#32⟩,
  ⟨"AQ_TX_PKTS_HI", 0x304, 1, 4, 1, 4, 0xFFFFFFFF#32, 0x00000000#32, 0x00000000#32⟩,
  ⟨"AQ_RX_PKTS_LO", 0x308, 1, 4, 1, 4, 0xFFFFFFFF#32, 0x00000000#32, 0x00000000#32⟩,
  ⟨"AQ_RX_PKTS_HI", 0x30C, 1, 4, 1, 4, 0xFFFFFFFF#32, 0x00000000#32, 0x00000000#32⟩,
  ⟨"AQ_RETX", 0x310, 1, 4, 1, 4, 0xFFFFFFFF#32, 0x00000000#32, 0x00000000#32⟩,
  ⟨"AQ_CRC_ERR", 0x314, 1, 4, 1, 4, 0xFFFFFFFF#32, 0x00000000#32, 0x00000000#32⟩] ++ [
  ⟨"AQ_AUTH_ERR", 0x318, 1, 4, 1, 4, 0xFFFFFFFF#32, 0x00000000#32, 0x00000000#32⟩,
  ⟨"AQ_STALE", 0x31C, 1, 4, 1, 4, 0xFFFFFFFF#32, 0x00000000#32, 0x00000000#32⟩,
  ⟨"AQ_NOFLOW", 0x320, 1, 4, 1, 4, 0xFFFFFFFF#32, 0x00000000#32, 0x00000000#32⟩,
  ⟨"AQ_CE", 0x324, 1, 4, 1, 4, 0xFFFFFFFF#32, 0x00000000#32, 0x00000000#32⟩,
  ⟨"AQ_FLOW_REFUSED", 0x328, 1, 4, 1, 4, 0xFFFFFFFF#32, 0x00000000#32, 0x00000000#32⟩,
  ⟨"AQ_BROKEN", 0x32C, 1, 4, 1, 4, 0xFFFFFFFF#32, 0x00000000#32, 0x00000000#32⟩,
  ⟨"AQ_DISCARD", 0x330, 1, 4, 1, 4, 0xFFFFFFFF#32, 0x00000000#32, 0x00000000#32⟩,
  ⟨"AQ_RXDROP", 0x334, 1, 4, 1, 4, 0xFFFFFFFF#32, 0x00000000#32, 0x00000000#32⟩,
  ⟨"AQ_FEC_CORR", 0x400, 8, 16, 1, 4, 0xFFFFFFFF#32, 0x00000000#32, 0x00000000#32⟩,
  ⟨"AQ_FEC_UNCORR", 0x404, 8, 16, 1, 4, 0xFFFFFFFF#32, 0x00000000#32, 0x00000000#32⟩,
  ⟨"AQ_FCS_ERR", 0x408, 8, 16, 1, 4, 0xFFFFFFFF#32, 0x00000000#32, 0x00000000#32⟩,
  ⟨"AQ_LINK_DOWN", 0x40C, 8, 16, 1, 4, 0xFFFFFFFF#32, 0x00000000#32, 0x00000000#32⟩,
  ⟨"AQ_NETWAIT_LO", 0x500, 16, 8, 1, 4, 0xFFFFFFFF#32, 0x00000000#32, 0x00000000#32⟩,
  ⟨"AQ_NETWAIT_HI", 0x504, 16, 8, 1, 4, 0xFFFFFFFF#32, 0x00000000#32, 0x00000000#32⟩]

/-- The register table of the CIS_ block. -/
def Reg.tableCis : List RegRow := [
  ⟨"CIS_CKPT_RATE", 0x0, 1, 4, 1, 4, 0x0000FFFF#32, 0x00000190#32, 0xFFFF0000#32⟩,
  ⟨"CIS_CKPT_PLAN_LO", 0x400, 16, 64, 1, 4, 0xFFFFFFC0#32, 0x00000000#32, 0x0000003F#32⟩,
  ⟨"CIS_CKPT_PLAN_HI", 0x404, 16, 64, 1, 4, 0x0000FFFF#32, 0x00000000#32, 0xFFFF0000#32⟩,
  ⟨"CIS_CKPT_CTL", 0x408, 16, 64, 1, 4, 0x000001FF#32, 0x00000000#32, 0xFFFFFE00#32⟩,
  ⟨"CIS_CKPT_STATUS", 0x40C, 16, 64, 1, 4, 0x20000000#32, 0x00000000#32, 0x0F000000#32⟩,
  ⟨"CIS_CKPT_SLICES", 0x410, 16, 64, 1, 4, 0xFFFFFFFF#32, 0x00000000#32, 0x00000000#32⟩,
  ⟨"CIS_CKPT_MISSED", 0x414, 16, 64, 1, 4, 0xFFFFFFFF#32, 0x00000000#32, 0x00000000#32⟩,
  ⟨"CIS_CKPT_PAGES_LO", 0x418, 16, 64, 1, 4, 0xFFFFFFFF#32, 0x00000000#32, 0x00000000#32⟩,
  ⟨"CIS_CKPT_PAGES_HI", 0x41C, 16, 64, 1, 4, 0xFFFFFFFF#32, 0x00000000#32, 0x00000000#32⟩,
  ⟨"CIS_CKPT_COW", 0x420, 16, 64, 1, 4, 0xFFFFFFFF#32, 0x00000000#32, 0x00000000#32⟩,
  ⟨"CIS_CKPT_PROMOTED", 0x424, 16, 64, 1, 4, 0xFFFFFFFF#32, 0x00000000#32, 0x00000000#32⟩,
  ⟨"CIS_MEMERR", 0x1000, 2, 2048, 512, 4, 0xFFFFFFFF#32, 0x00000000#32, 0x00000000#32⟩,
  ⟨"CIS_UPD_STATUS", 0x100, 2, 32, 1, 4, 0x00000000#32, 0x00000000#32, 0x00000000#32⟩,
  ⟨"CIS_BUILTIN", 0x104, 2, 32, 1, 4, 0x00000000#32, 0x00000000#32, 0x00000000#32⟩]

/-- The register table of the EVT_ block. -/
def Reg.tableEvt : List RegRow := [
  ⟨"EVT_CTL", 0x0, 1, 4, 1, 4, 0x00000000#32, 0x00000000#32, 0xFFFFFFFE#32⟩,
  ⟨"EVT_STATUS", 0x4, 1, 4, 1, 4, 0x40000000#32, 0x00000000#32, 0x3FFFFFFF#32⟩,
  ⟨"EVT_DELIVERED_LO", 0x10, 1, 4, 1, 4, 0xFFFFFFFF#32, 0x00000000#32, 0x00000000#32⟩,
  ⟨"EVT_DELIVERED_HI", 0x14, 1, 4, 1, 4, 0xFFFFFFFF#32, 0x00000000#32, 0x00000000#32⟩,
  ⟨"EVT_COALESCED", 0x18, 1, 4, 1, 4, 0xFFFFFFFF#32, 0x00000000#32, 0x00000000#32⟩,
  ⟨"EVT_STRAY", 0x1C, 1, 4, 1, 4, 0xFFFFFFFF#32, 0x00000000#32, 0x00000000#32⟩,
  ⟨"EVT_HELD", 0x20, 1, 4, 1, 4, 0xFFFFFFFF#32, 0x00000000#32, 0x00000000#32⟩,
  ⟨"EVT_RAISE", 0x24, 1, 4, 1, 4, 0x00000000#32, 0x00000000#32, 0xFFFFF000#32⟩,
  ⟨"EVT_COMPLETE", 0x28, 1, 4, 1, 4, 0x00000000#32, 0x00000000#32, 0xFFFFF000#32⟩,
  ⟨"EVT_FN_WIN", 0x104, 16, 4, 1, 4, 0x00000000#32, 0x00000000#32, 0xFE00F000#32⟩,
  ⟨"EVT_ACTV", 0x1000, 128, 4, 1, 4, 0x00000000#32, 0x00000000#32, 0x00000000#32⟩,
  ⟨"EVT_PEND", 0x1200, 128, 4, 1, 4, 0x00000000#32, 0x00000000#32, 0x00000000#32⟩,
  ⟨"EVT_SRC", 0x10000, 4096, 4, 1, 4, 0x91FF0000#32, 0x00000000#32, 0x0E00F8FF#32⟩,
  ⟨"EVT_SET", 0x20000, 512, 32, 8, 4, 0xFFFFFFFF#32, 0x00000000#32, 0x00000000#32⟩,
  ⟨"EVT_JRNL_HEAD", 0x30000, 1, 4, 1, 4, 0x00000000#32, 0x00000000#32, 0xFFFFFFC0#32⟩,
  ⟨"EVT_JRNL", 0x30100, 64, 4, 1, 4, 0x00000000#32, 0x00000000#32, 0x70000000#32⟩,
  ⟨"MSIX_ADDR_LO", 0x34000, 2048, 16, 1, 4, 0xFFFFFFFC#32, 0x00000000#32, 0x00000003#32⟩,
  ⟨"MSIX_ADDR_HI", 0x34004, 2048, 16, 1, 4, 0xFFFFFFFF#32, 0x00000000#32, 0x00000000#32⟩,
  ⟨"MSIX_DATA", 0x34008, 2048, 16, 1, 4, 0xFFFFFFFF#32, 0x00000000#32, 0x00000000#32⟩,
  ⟨"MSIX_CTL", 0x3400C, 2048, 16, 1, 4, 0x00000001#32, 0x00000001#32, 0xFFFFFFFE#32⟩]

/-- The register table of the SEC_ block. -/
def Reg.tableSec : List RegRow := [
  ⟨"SEC_STATE", 0x0, 1, 4, 1, 4, 0x00000000#32, 0x10000000#32, 0x0730FFFF#32⟩,
  ⟨"SEC_PRES_CFG", 0x4, 1, 4, 1, 4, 0x000001FF#32, 0x0000003C#32, 0xFFFFFE00#32⟩,
  ⟨"SEC_PRES_STATUS", 0x8, 1, 4, 1, 4, 0x00000000#32, 0x00000000#32, 0x3E000000#32⟩,
  ⟨"SEC_PRES_STRAY", 0xC, 1, 4, 1, 4, 0xFFFFFFFF#32, 0x00000000#32, 0x00000000#32⟩,
  ⟨"SEC_PRES_TIMEOUT", 0x10, 1, 4, 1, 4, 0xFFFFFFFF#32, 0x00000000#32, 0x00000000#32⟩,
  ⟨"SEC_ARB", 0x20, 7, 4, 1, 4, 0x00000000#32, 0x00000000#32, 0xFFFFFF80#32⟩,
  ⟨"SEC_DBG_CTL", 0x100, 1, 4, 1, 4, 0x38FE0000#32, 0x00000000#32, 0x0701FFFF#32⟩,
  ⟨"SEC_DBG_STATUS", 0x104, 1, 4, 1, 4, 0x00000000#32, 0x00000000#32, 0x7FFF0000#32⟩,
  ⟨"SEC_DBG_ADDR_LO", 0x108, 1, 4, 1, 4, 0xFFFFFFFF#32, 0x00000000#32, 0x00000000#32⟩,
  ⟨"SEC_DBG_ADDR_HI", 0x10C, 1, 4, 1, 4, 0x0000FFFF#32, 0x00000000#32, 0xFFFF0000#32⟩,
  ⟨"SEC_DBG_DATA_LO", 0x110, 1, 4, 1, 4, 0xFFFFFFFF#32, 0x00000000#32, 0x00000000#32⟩,
  ⟨"SEC_DBG_DATA_HI", 0x114, 1, 4, 1, 4, 0xFFFFFFFF#32, 0x00000000#32, 0x00000000#32⟩,
  ⟨"SEC_TRACE_LO", 0x200, 1, 4, 1, 4, 0xFFFFF000#32, 0x00000000#32, 0x00000FFF#32⟩,
  ⟨"SEC_TRACE_HI", 0x204, 1, 4, 1, 4, 0xFFFFFFFF#32, 0x00000000#32, 0x00000000#32⟩,
  ⟨"SEC_TRACE_CFG", 0x208, 1, 4, 1, 4, 0x003F001F#32, 0x003F000C#32, 0x7FC0FFE0#32⟩,
  ⟨"SEC_TRACE_TAIL", 0x20C, 1, 4, 1, 4, 0x00000000#32, 0x00000000#32, 0xFFE00000#32⟩,
  ⟨"SEC_TRACE_LOST", 0x210, 1, 4, 1, 4, 0xFFFFFFFF#32, 0x00000000#32, 0x00000000#32⟩]

/-- The register table of the PWR_ block. -/
def Reg.tablePwr : List RegRow := [
  ⟨"PWR_STATE", 0x0, 1, 4, 1, 4, 0x00000000#32, 0x00000000#32, 0x0CFFFFFF#32⟩,
  ⟨"PWR_LIMIT", 0x4, 1, 4, 1, 4, 0x00000000#32, 0x00000384#32, 0xFFFF0000#32⟩,
  ⟨"PWR_VIN", 0x10, 1, 4, 1, 4, 0x00000000#32, 0x00000000#32, 0xFFFF0000#32⟩,
  ⟨"PWR_IIN", 0x14, 1, 4, 1, 4, 0x00000000#32, 0x00000000#32, 0xFFFF0000#32⟩,
  ⟨"PWR_PIN", 0x18, 1, 4, 1, 4, 0x00000000#32, 0x00000000#32, 0xFFFF0000#32⟩,
  ⟨"PWR_PIN_PEAK", 0x1C, 1, 4, 1, 4, 0x0000FFFF#32, 0x00000000#32, 0xFFFF0000#32⟩,
  ⟨"PWR_GOV", 0x20, 1, 4, 1, 4, 0x10000000#32, 0x00000000#32, 0x07FFFFFC#32⟩,
  ⟨"PWR_THERM", 0x24, 1, 4, 1, 4, 0x00000000#32, 0x00000000#32, 0x3FE00000#32⟩,
  ⟨"PWR_INPUT_EXC", 0x28, 1, 4, 1, 4, 0xFFFFFFFF#32, 0x00000000#32, 0x00000000#32⟩,
  ⟨"PWR_THROTTLES", 0x2C, 1, 4, 1, 4, 0xFFFFFFFF#32, 0x00000000#32, 0x00000000#32⟩,
  ⟨"PWR_PACED_LO", 0x30, 1, 4, 1, 4, 0xFFFFFFFF#32, 0x00000000#32, 0x00000000#32⟩,
  ⟨"PWR_PACED_HI", 0x34, 1, 4, 1, 4, 0xFFFFFFFF#32, 0x00000000#32, 0x00000000#32⟩,
  ⟨"PWR_TEMP", 0x100, 19, 4, 1, 4, 0x00000000#32, 0x00000000#32, 0x7FFF0000#32⟩]

/-- The register table of the CFG_ block. -/
def Reg.tableCfg : List RegRow := [
  ⟨"CFG_CTL", 0x0, 1, 4, 1, 4, 0x00000000#32, 0x00000000#32, 0x7FFF0000#32⟩,
  ⟨"CFG_STATUS", 0x4, 1, 4, 1, 4, 0x00000000#32, 0x00000000#32, 0x00FFFFFF#32⟩,
  ⟨"CFG_SEQ", 0x8, 1, 4, 1, 4, 0x00000000#32, 0x00000000#32, 0x00000000#32⟩,
  ⟨"CFG_USED", 0xC, 1, 4, 1, 4, 0x00000000#32, 0x00000000#32, 0xFFFC0000#32⟩,
  ⟨"CFG_BOOT", 0x10, 1, 4, 1, 4, 0x00000000#32, 0x00000000#32, 0x00808080#32⟩,
  ⟨"CFG_BOOT_MS", 0x14, 1, 4, 1, 4, 0x00000000#32, 0x00000000#32, 0xFFFF0000#32⟩,
  ⟨"CFG_WRITES", 0x18, 1, 4, 1, 4, 0xFFFFFFFF#32, 0x00000000#32, 0x00000000#32⟩,
  ⟨"CFG_FW", 0x20, 7, 4, 1, 4, 0x00000000#32, 0x00000000#32, 0x03FF0000#32⟩]

/-- The register table of the ZN_ block. -/
def Reg.tableZn : List RegRow := [
  ⟨"ZN_VERSION", 0x0, 1, 4, 1, 4, 0x00000000#32, 0x00010000#32, 0x000000FF#32⟩,
  ⟨"ZN_CTL", 0x4, 1, 4, 1, 4, 0x00000000#32, 0x00000000#32, 0xFFFFFFFE#32⟩,
  ⟨"ZN_STATUS", 0x8, 1, 4, 1, 4, 0x00000000#32, 0x00000000#32, 0x0FFF70E0#32⟩,
  ⟨"ZN_ASQ_LO", 0x10, 1, 4, 1, 4, 0xFFFFF000#32, 0x00000000#32, 0x00000FFF#32⟩,
  ⟨"ZN_ASQ_HI", 0x14, 1, 4, 1, 4, 0xFFFFFFFF#32, 0x00000000#32, 0x00000000#32⟩,
  ⟨"ZN_ACQ_LO", 0x18, 1, 4, 1, 4, 0xFFFFF000#32, 0x00000000#32, 0x00000FFF#32⟩,
  ⟨"ZN_ACQ_HI", 0x1C, 1, 4, 1, 4, 0xFFFFFFFF#32, 0x00000000#32, 0x00000000#32⟩,
  ⟨"ZN_AQ_CFG", 0x20, 1, 4, 1, 4, 0x0000001F#32, 0x00000004#32, 0xFFFFFFE0#32⟩,
  ⟨"ZN_BAR4_BASE_LO", 0x24, 1, 4, 1, 4, 0xFFFFFFFF#32, 0x00000000#32, 0x00000000#32⟩,
  ⟨"ZN_BAR4_BASE_HI", 0x28, 1, 4, 1, 4, 0x0000FFFF#32, 0x00000000#32, 0xFFFF0000#32⟩,
  ⟨"ZN_RINGS", 0x30, 1, 4, 1, 4, 0x00000000#32, 0x00000000#32, 0x00000000#32⟩,
  ⟨"ZN_POOL_FREE", 0x34, 1, 4, 1, 4, 0x00000000#32, 0x00007FEF#32, 0xFFFF0000#32⟩,
  ⟨"ZN_CMDS_LO", 0x40, 1, 4, 1, 4, 0xFFFFFFFF#32, 0x00000000#32, 0x00000000#32⟩,
  ⟨"ZN_CMDS_HI", 0x44, 1, 4, 1, 4, 0xFFFFFFFF#32, 0x00000000#32, 0x00000000#32⟩,
  ⟨"ZN_ERRS", 0x48, 1, 4, 1, 4, 0xFFFFFFFF#32, 0x00000000#32, 0x00000000#32⟩,
  ⟨"ZN_DB_ERR", 0x4C, 1, 4, 1, 4, 0xFFFFFFFF#32, 0x00000000#32, 0x00000000#32⟩,
  ⟨"ZN_CQ_STALL", 0x50, 1, 4, 1, 4, 0xFFFFFFFF#32, 0x00000000#32, 0x00000000#32⟩,
  ⟨"ZN_BAR_DENY", 0x54, 1, 4, 1, 4, 0xFFFFFFFF#32, 0x00000000#32, 0x00000000#32⟩,
  ⟨"ZN_FAULT_LO", 0x60, 1, 4, 1, 4, 0xFFFFF000#32, 0x00000000#32, 0x00000FFF#32⟩,
  ⟨"ZN_FAULT_HI", 0x64, 1, 4, 1, 4, 0xFFFFFFFF#32, 0x00000000#32, 0x00000000#32⟩,
  ⟨"ZN_FAULT_CFG", 0x68, 1, 4, 1, 4, 0x0000001F#32, 0x00000006#32, 0x7FFFFFE0#32⟩,
  ⟨"ZN_FAULT_IDX", 0x6C, 1, 4, 1, 4, 0x0000FFFF#32, 0x00000000#32, 0x00000000#32⟩,
  ⟨"ZN_FAULT_LOST", 0x70, 1, 4, 1, 4, 0xFFFFFFFF#32, 0x00000000#32, 0x00000000#32⟩]

/-- The register table of the STK_ block. -/
def Reg.tableStk : List RegRow := [
  ⟨"STK_CTL", 0x0, 1, 4, 1, 4, 0x80000000#32, 0x00000000#32, 0x7FFFFFF1#32⟩,
  ⟨"STK_STATUS", 0x4, 1, 4, 1, 4, 0x08000000#32, 0x10000000#32, 0x06000000#32⟩,
  ⟨"STK_NUM", 0x8, 1, 4, 1, 4, 0x00000000#32, 0x00000000#32, 0x00000000#32⟩,
  ⟨"STK_START_0", 0x10, 1, 4, 1, 4, 0x00000000#32, 0x00000000#32, 0x00000000#32⟩,
  ⟨"STK_START_1", 0x14, 1, 4, 1, 4, 0x00000000#32, 0x00000000#32, 0x00000000#32⟩,
  ⟨"STK_START_2", 0x18, 1, 4, 1, 4, 0x00000000#32, 0x00000000#32, 0x00000000#32⟩,
  ⟨"STK_FIRST", 0x1C, 1, 4, 1, 4, 0x00000000#32, 0x00000000#32, 0x00000000#32⟩,
  ⟨"STK_PERIOD_LO", 0x20, 1, 4, 1, 4, 0xFFFFFFFF#32, 0x00000000#32, 0x00000000#32⟩,
  ⟨"STK_PERIOD_HI", 0x24, 1, 4, 1, 4, 0x000000FF#32, 0x00000000#32, 0xFFFFFF00#32⟩,
  ⟨"STK_GUARD", 0x28, 1, 4, 1, 4, 0xFFFFFFFF#32, 0x00000000#32, 0x00000000#32⟩,
  ⟨"STK_NENT", 0x2C, 1, 4, 1, 4, 0x000001FF#32, 0x00000000#32, 0xFFFFFE00#32⟩,
  ⟨"STK_STROKES_LO", 0x30, 1, 4, 1, 4, 0xFFFFFFFF#32, 0x00000000#32, 0x00000000#32⟩,
  ⟨"STK_STROKES_HI", 0x34, 1, 4, 1, 4, 0xFFFFFFFF#32, 0x00000000#32, 0x00000000#32⟩,
  ⟨"STK_SKIPPED", 0x38, 1, 4, 1, 4, 0xFFFFFFFF#32, 0x00000000#32, 0x00000000#32⟩,
  ⟨"STK_CANCELLED", 0x3C, 1, 4, 1, 4, 0xFFFFFFFF#32, 0x00000000#32, 0x00000000#32⟩,
  ⟨"STK_DRAIN_MAX", 0x40, 1, 4, 1, 4, 0xFFFFFFFF#32, 0x00000000#32, 0x00000000#32⟩,
  ⟨"STK_FIRED", 0x44, 1, 4, 1, 4, 0xFFFFFFFF#32, 0x00000000#32, 0x00000000#32⟩,
  ⟨"STK_CSET", 0x100, 16, 16, 4, 4, 0xFFFFFFFF#32, 0x00000000#32, 0x00000000#32⟩,
  ⟨"STK_PHASE", 0x1000, 256, 16, 1, 4, 0xFFFFFFFF#32, 0x00000000#32, 0x00000000#32⟩,
  ⟨"STK_PHASE", 0x1004, 256, 16, 1, 4, 0xFF0000FF#32, 0x00000000#32, 0x00FFFF00#32⟩,
  ⟨"STK_PHASE", 0x1008, 256, 16, 1, 4, 0xFFFFFFFF#32, 0x00000000#32, 0x00000000#32⟩,
  ⟨"STK_PHASE", 0x100C, 256, 16, 1, 4, 0x00000000#32, 0x00000000#32, 0xFFFFFFFF#32⟩]

/-- The register table of the RED_ block. -/
def Reg.tableRed : List RegRow := [
  ⟨"RED_CTL", 0x0, 1, 4, 1, 4, 0x00000001#32, 0x00000000#32, 0xFFFFFFFC#32⟩,
  ⟨"RED_STATUS", 0x4, 1, 4, 1, 4, 0x80000000#32, 0x00000000#32, 0x60000000#32⟩,
  ⟨"RED_WIN_CMD", 0x8, 1, 4, 1, 4, 0x00000000#32, 0x00000000#32, 0x3FFFFF00#32⟩,
  ⟨"RED_SETTLE_TAG", 0xC, 1, 4, 1, 4, 0x0000FFFF#32, 0x00000000#32, 0x7FFF0000#32⟩,
  ⟨"RED_BDT_LO", 0x10, 1, 4, 1, 4, 0xFFFFFFE0#32, 0x00000000#32, 0x0000001F#32⟩,
  ⟨"RED_BDT_HI", 0x14, 1, 4, 1, 4, 0x0000FFFF#32, 0x00000000#32, 0xFFFF0000#32⟩,
  ⟨"RED_RANK_LO", 0x18, 1, 4, 1, 4, 0xFFFFFFE0#32, 0x00000000#32, 0x0000001F#32⟩,
  ⟨"RED_RANK_HI", 0x1C, 1, 4, 1, 4, 0x0000FFFF#32, 0x00000000#32, 0xFFFF0000#32⟩,
  ⟨"RED_WTAB_LO", 0x20, 1, 4, 1, 4, 0xFFFFFFE0#32, 0x00000000#32, 0x0000001F#32⟩,
  ⟨"RED_WTAB_HI", 0x24, 1, 4, 1, 4, 0x0000FFFF#32, 0x00000000#32, 0xFFFF0000#32⟩,
  ⟨"RED_NRANK", 0x28, 1, 4, 1, 4, 0x0001FFFF#32, 0x00000000#32, 0xFFFE0000#32⟩,
  ⟨"RED_LEVEL_NS", 0x2C, 1, 4, 1, 4, 0xFFFFFFFF#32, 0x00009C40#32, 0x00000000#32⟩,
  ⟨"RED_ERR_TAG", 0x30, 1, 4, 1, 4, 0x80000000#32, 0x00000000#32, 0x7FFF0000#32⟩,
  ⟨"RED_SENT_LO", 0x40, 1, 4, 1, 4, 0xFFFFFFFF#32, 0x00000000#32, 0x00000000#32⟩,
  ⟨"RED_SENT_HI", 0x44, 1, 4, 1, 4, 0xFFFFFFFF#32, 0x00000000#32, 0x00000000#32⟩,
  ⟨"RED_SUMMED_LO", 0x48, 1, 4, 1, 4, 0xFFFFFFFF#32, 0x00000000#32, 0x00000000#32⟩,
  ⟨"RED_SUMMED_HI", 0x4C, 1, 4, 1, 4, 0xFFFFFFFF#32, 0x00000000#32, 0x00000000#32⟩,
  ⟨"RED_DONE", 0x50, 1, 4, 1, 4, 0xFFFFFFFF#32, 0x00000000#32, 0x00000000#32⟩,
  ⟨"RED_SETTLED", 0x54, 1, 4, 1, 4, 0xFFFFFFFF#32, 0x00000000#32, 0x00000000#32⟩,
  ⟨"RED_ABSENT", 0x58, 1, 4, 1, 4, 0xFFFFFFFF#32, 0x00000000#32, 0x00000000#32⟩,
  ⟨"RED_LATE", 0x5C, 1, 4, 1, 4, 0xFFFFFFFF#32, 0x00000000#32, 0x00000000#32⟩,
  ⟨"RED_STALE", 0x60, 1, 4, 1, 4, 0xFFFFFFFF#32, 0x00000000#32, 0x00000000#32⟩,
  ⟨"RED_NOCTX", 0x64, 1, 4, 1, 4, 0xFFFFFFFF#32, 0x00000000#32, 0x00000000#32⟩,
  ⟨"RED_DUP", 0x68, 1, 4, 1, 4, 0xFFFFFFFF#32, 0x00000000#32, 0x00000000#32⟩] ++ [
  ⟨"RED_RESCALED", 0x6C, 1, 4, 1, 4, 0xFFFFFFFF#32, 0x00000000#32, 0x00000000#32⟩,
  ⟨"RED_LOST", 0x70, 1, 4, 1, 4, 0xFFFFFFFF#32, 0x00000000#32, 0x00000000#32⟩,
  ⟨"RED_SAT", 0x74, 1, 4, 1, 4, 0xFFFFFFFF#32, 0x00000000#32, 0x00000000#32⟩,
  ⟨"RED_EXC", 0x78, 1, 4, 1, 4, 0xFFFFFFFF#32, 0x00000000#32, 0x00000000#32⟩,
  ⟨"RED_INCOMPLETE", 0x7C, 1, 4, 1, 4, 0xFFFFFFFF#32, 0x00000000#32, 0x00000000#32⟩]

/-- The register table of the UPD_ block. -/
def Reg.tableUpd : List RegRow := [
  ⟨"UPD_CTL", 0x0, 1, 4, 1, 4, 0x00000000#32, 0x00000000#32, 0xFFFFFFFE#32⟩,
  ⟨"UPD_STATUS", 0x4, 1, 4, 1, 4, 0x80000000#32, 0x00000000#32, 0x1FFF0000#32⟩,
  ⟨"UPD_NGROUP", 0x8, 1, 4, 1, 4, 0x0001FFFF#32, 0x00000000#32, 0xFFFE0000#32⟩,
  ⟨"UPD_COEF_LO", 0x10, 1, 4, 1, 4, 0xFFFFFFE0#32, 0x00000000#32, 0x0000001F#32⟩,
  ⟨"UPD_COEF_HI", 0x14, 1, 4, 1, 4, 0x0000FFFF#32, 0x00000000#32, 0xFFFF0000#32⟩,
  ⟨"UPD_GREC_LO", 0x18, 1, 4, 1, 4, 0xFFFFFFE0#32, 0x00000000#32, 0x0000001F#32⟩,
  ⟨"UPD_GREC_HI", 0x1C, 1, 4, 1, 4, 0x0000FFFF#32, 0x00000000#32, 0xFFFF0000#32⟩,
  ⟨"UPD_QT_LO", 0x20, 1, 4, 1, 4, 0xFFFFFFE0#32, 0x00000000#32, 0x0000001F#32⟩,
  ⟨"UPD_QT_HI", 0x24, 1, 4, 1, 4, 0x0000FFFF#32, 0x00000000#32, 0xFFFF0000#32⟩,
  ⟨"UPD_ERR_GROUP", 0x28, 1, 4, 1, 4, 0x80000000#32, 0x00000000#32, 0x7FFF0000#32⟩,
  ⟨"UPD_ELEMS_LO", 0x40, 1, 4, 1, 4, 0xFFFFFFFF#32, 0x00000000#32, 0x00000000#32⟩,
  ⟨"UPD_ELEMS_HI", 0x44, 1, 4, 1, 4, 0xFFFFFFFF#32, 0x00000000#32, 0x00000000#32⟩,
  ⟨"UPD_DONE", 0x48, 1, 4, 1, 4, 0xFFFFFFFF#32, 0x00000000#32, 0x00000000#32⟩,
  ⟨"UPD_FROZEN", 0x4C, 1, 4, 1, 4, 0xFFFFFFFF#32, 0x00000000#32, 0x00000000#32⟩,
  ⟨"UPD_SKEW", 0x50, 1, 4, 1, 4, 0xFFFFFFFF#32, 0x00000000#32, 0x00000000#32⟩,
  ⟨"UPD_TORN", 0x54, 1, 4, 1, 4, 0xFFFFFFFF#32, 0x00000000#32, 0x00000000#32⟩,
  ⟨"UPD_CANCELLED", 0x58, 1, 4, 1, 4, 0xFFFFFFFF#32, 0x00000000#32, 0x00000000#32⟩,
  ⟨"UPD_GUARDED", 0x5C, 1, 4, 1, 4, 0xFFFFFFFF#32, 0x00000000#32, 0x00000000#32⟩,
  ⟨"UPD_NONFINITE", 0x60, 1, 4, 1, 4, 0xFFFFFFFF#32, 0x00000000#32, 0x00000000#32⟩,
  ⟨"UPD_ABSENT", 0x64, 1, 4, 1, 4, 0xFFFFFFFF#32, 0x00000000#32, 0x00000000#32⟩,
  ⟨"UPD_ROWSKIP", 0x68, 1, 4, 1, 4, 0xFFFFFFFF#32, 0x00000000#32, 0x00000000#32⟩]

/-- The register table of the CORE_ block. -/
def Reg.tableCore : List RegRow := [
  ⟨"CORE_CONV_LOST", 0x400, 1, 4, 1, 4, 0xFFFFFFFF#32, 0x00000000#32, 0x00000000#32⟩,
  ⟨"CORE_CONV_SAT", 0x404, 1, 4, 1, 4, 0xFFFFFFFF#32, 0x00000000#32, 0x00000000#32⟩,
  ⟨"CORE_CONV_POISON", 0x408, 1, 4, 1, 4, 0xFFFFFFFF#32, 0x00000000#32, 0x00000000#32⟩,
  ⟨"CORE_CONV_LASTTAG", 0x40C, 1, 4, 1, 4, 0x80000000#32, 0x00000000#32, 0x7F000000#32⟩,
  ⟨"CORE_CTL", 0x0, 1, 4, 1, 4, 0x000000C0#32, 0x00000000#32, 0xFFFFFF30#32⟩,
  ⟨"CORE_STATE", 0x4, 1, 4, 1, 4, 0x00000000#32, 0x00000000#32, 0x080FE000#32⟩,
  ⟨"CORE_ENTRY", 0x8, 1, 4, 1, 4, 0x00001FFF#32, 0x00000000#32, 0xFFFFE000#32⟩,
  ⟨"CORE_TAG_BASE", 0xC, 1, 4, 1, 4, 0x00FFFFFF#32, 0x00000000#32, 0xFF000000#32⟩,
  ⟨"CORE_REPLAYS_LO", 0x10, 1, 4, 1, 4, 0xFFFFFFFF#32, 0x00000000#32, 0x00000000#32⟩,
  ⟨"CORE_REPLAYS_HI", 0x14, 1, 4, 1, 4, 0xFFFFFFFF#32, 0x00000000#32, 0x00000000#32⟩,
  ⟨"CORE_QOCC0", 0x18, 1, 4, 1, 4, 0x00000000#32, 0x00000000#32, 0x80808080#32⟩,
  ⟨"CORE_QOCC1", 0x1C, 1, 4, 1, 4, 0x00000000#32, 0x00000000#32, 0xFFFF8080#32⟩,
  ⟨"CORE_FAULT", 0x20, 1, 4, 1, 4, 0x80000000#32, 0x00000000#32, 0x60000000#32⟩,
  ⟨"CORE_MISSED", 0x24, 1, 4, 1, 4, 0xFFFFFFFF#32, 0x00000000#32, 0x00000000#32⟩,
  ⟨"CORE_PDIRTY_LO", 0x28, 1, 4, 1, 4, 0x00000000#32, 0x00000000#32, 0x00000000#32⟩,
  ⟨"CORE_PDIRTY_HI", 0x2C, 1, 4, 1, 4, 0x00000000#32, 0x00000000#32, 0x00000000#32⟩,
  ⟨"CORE_SEM", 0x100, 64, 4, 1, 4, 0x00000000#32, 0x00000000#32, 0xFFFF0000#32⟩,
  ⟨"CORE_PSTAGE_LO", 0x200, 64, 8, 1, 4, 0x00000000#32, 0x00000000#32, 0x00000000#32⟩,
  ⟨"CORE_PSTAGE_HI", 0x204, 64, 8, 1, 4, 0x00000000#32, 0x00000000#32, 0x00000000#32⟩,
  ⟨"CORE_PLIVE_LO", 0x500, 64, 8, 1, 4, 0x00000000#32, 0x00000000#32, 0x00000000#32⟩,
  ⟨"CORE_PLIVE_HI", 0x504, 64, 8, 1, 4, 0x00000000#32, 0x00000000#32, 0x00000000#32⟩,
  ⟨"CORE_MEM_SLOTS", 0x700, 1, 4, 1, 4, 0xFFFF0000#32, 0x00000000#32, 0x0000FC00#32⟩,
  ⟨"CORE_MEM_WALKS", 0x704, 1, 4, 1, 4, 0xFFFFFFFF#32, 0x00000000#32, 0x00000000#32⟩,
  ⟨"CORE_MEM_XMISS", 0x708, 1, 4, 1, 4, 0xFFFFFFFF#32, 0x00000000#32, 0x00000000#32⟩] ++ [
  ⟨"CORE_STALL_LO", 0x800, 7, 128, 12, 8, 0xFFFFFFFF#32, 0x00000000#32, 0x00000000#32⟩,
  ⟨"CORE_STALL_HI", 0x804, 7, 128, 12, 8, 0xFFFFFFFF#32, 0x00000000#32, 0x00000000#32⟩,
  ⟨"CORE_STALL_CTL", 0xC00, 1, 4, 1, 4, 0x80000000#32, 0x00000000#32, 0x3FFFFFFF#32⟩,
  ⟨"CORE_SRAM_ECC", 0xC04, 1, 4, 1, 4, 0xFFFFFFFF#32, 0x00000000#32, 0x00000000#32⟩]

/-- The register table of the MX_ block. -/
def Reg.tableMx : List RegRow := [
  ⟨"MX_STATUS", 0x0, 1, 4, 1, 4, 0x00000000#32, 0x00000000#32, 0x1F000000#32⟩,
  ⟨"MX_GANG_SET", 0x10, 4, 4, 1, 4, 0xFFFFFFFF#32, 0x00000000#32, 0x00000000#32⟩,
  ⟨"MX_PASSES_LO", 0x40, 1, 4, 1, 4, 0xFFFFFFFF#32, 0x00000000#32, 0x00000000#32⟩,
  ⟨"MX_PASSES_HI", 0x44, 1, 4, 1, 4, 0xFFFFFFFF#32, 0x00000000#32, 0x00000000#32⟩,
  ⟨"MX_TRUNC", 0x48, 1, 4, 1, 4, 0xFFFFFFFF#32, 0x00000000#32, 0x00000000#32⟩,
  ⟨"MX_STICKY_OUT", 0x4C, 1, 4, 1, 4, 0xFFFFFFFF#32, 0x00000000#32, 0x00000000#32⟩,
  ⟨"MX_EMPTY", 0x50, 1, 4, 1, 4, 0xFFFFFFFF#32, 0x00000000#32, 0x00000000#32⟩,
  ⟨"MX_NAN_OUT", 0x54, 1, 4, 1, 4, 0xFFFFFFFF#32, 0x00000000#32, 0x00000000#32⟩,
  ⟨"MX_LASTTAG", 0x58, 1, 4, 1, 4, 0x80000000#32, 0x00000000#32, 0x7F000000#32⟩,
  ⟨"MX_STREAM_LO", 0x60, 1, 4, 1, 4, 0xFFFFFFFF#32, 0x00000000#32, 0x00000000#32⟩,
  ⟨"MX_STREAM_HI", 0x64, 1, 4, 1, 4, 0xFFFFFFFF#32, 0x00000000#32, 0x00000000#32⟩,
  ⟨"MX_FILL_LO", 0x68, 1, 4, 1, 4, 0xFFFFFFFF#32, 0x00000000#32, 0x00000000#32⟩,
  ⟨"MX_FILL_HI", 0x6C, 1, 4, 1, 4, 0xFFFFFFFF#32, 0x00000000#32, 0x00000000#32⟩,
  ⟨"MX_SP_STATUS", 0x80, 1, 4, 1, 4, 0x00000000#32, 0x00000000#32, 0x07000000#32⟩,
  ⟨"MX_SP_TILES_LO", 0x88, 1, 4, 1, 4, 0xFFFFFFFF#32, 0x00000000#32, 0x00000000#32⟩,
  ⟨"MX_SP_TILES_HI", 0x8C, 1, 4, 1, 4, 0xFFFFFFFF#32, 0x00000000#32, 0x00000000#32⟩,
  ⟨"MX_SP_ROUTED", 0x90, 1, 4, 1, 4, 0xFFFFFFFF#32, 0x00000000#32, 0x00000000#32⟩,
  ⟨"MX_SP_CMDS", 0x94, 1, 4, 1, 4, 0xFFFFFFFF#32, 0x00000000#32, 0x00000000#32⟩]

/-- The register table of the VX_ block. -/
def Reg.tableVx : List RegRow := [
  ⟨"VX_STATUS", 0x0, 1, 4, 1, 4, 0x00000000#32, 0x00000000#32, 0x03000000#32⟩,
  ⟨"VX_VL", 0x4, 1, 4, 1, 4, 0x00000000#32, 0x00000000#32, 0xFFFFFC00#32⟩,
  ⟨"VX_RETIRED_LO", 0x10, 1, 4, 1, 4, 0xFFFFFFFF#32, 0x00000000#32, 0x00000000#32⟩,
  ⟨"VX_RETIRED_HI", 0x14, 1, 4, 1, 4, 0xFFFFFFFF#32, 0x00000000#32, 0x00000000#32⟩,
  ⟨"VX_ARITH_BUSY_LO", 0x18, 1, 4, 1, 4, 0xFFFFFFFF#32, 0x00000000#32, 0x00000000#32⟩,
  ⟨"VX_ARITH_BUSY_HI", 0x1C, 1, 4, 1, 4, 0xFFFFFFFF#32, 0x00000000#32, 0x00000000#32⟩,
  ⟨"VX_SF_BUSY_LO", 0x20, 1, 4, 1, 4, 0xFFFFFFFF#32, 0x00000000#32, 0x00000000#32⟩,
  ⟨"VX_SF_BUSY_HI", 0x24, 1, 4, 1, 4, 0xFFFFFFFF#32, 0x00000000#32, 0x00000000#32⟩,
  ⟨"VX_RD_BUSY_LO", 0x28, 1, 4, 1, 4, 0xFFFFFFFF#32, 0x00000000#32, 0x00000000#32⟩,
  ⟨"VX_RD_BUSY_HI", 0x2C, 1, 4, 1, 4, 0xFFFFFFFF#32, 0x00000000#32, 0x00000000#32⟩,
  ⟨"VX_WR_BUSY_LO", 0x30, 1, 4, 1, 4, 0xFFFFFFFF#32, 0x00000000#32, 0x00000000#32⟩,
  ⟨"VX_WR_BUSY_HI", 0x34, 1, 4, 1, 4, 0xFFFFFFFF#32, 0x00000000#32, 0x00000000#32⟩,
  ⟨"VX_NAN_GEN", 0x40, 1, 4, 1, 4, 0xFFFFFFFF#32, 0x00000000#32, 0x00000000#32⟩,
  ⟨"VX_OVF", 0x44, 1, 4, 1, 4, 0xFFFFFFFF#32, 0x00000000#32, 0x00000000#32⟩,
  ⟨"VX_ISAT", 0x48, 1, 4, 1, 4, 0xFFFFFFFF#32, 0x00000000#32, 0x00000000#32⟩,
  ⟨"VX_LASTTAG", 0x4C, 1, 4, 1, 4, 0x80000000#32, 0x00000000#32, 0x7F000000#32⟩,
  ⟨"VX_SCAN_BUSY_LO", 0x38, 1, 4, 1, 4, 0xFFFFFFFF#32, 0x00000000#32, 0x00000000#32⟩,
  ⟨"VX_SCAN_BUSY_HI", 0x3C, 1, 4, 1, 4, 0xFFFFFFFF#32, 0x00000000#32, 0x00000000#32⟩]

/-- The register table of the SF_ block. -/
def Reg.tableSf : List RegRow := [
  ⟨"SF_BUILTIN", 0x0, 1, 4, 1, 4, 0x00000000#32, 0x00000000#32, 0x00000000#32⟩,
  ⟨"SF_LOADS", 0x10, 1, 4, 1, 4, 0xFFFFFFFF#32, 0x00000000#32, 0x00000000#32⟩,
  ⟨"SF_REFUSED", 0x14, 1, 4, 1, 4, 0xFFFFFFFF#32, 0x00000000#32, 0x00000000#32⟩,
  ⟨"SF_REFUSE_INFO", 0x18, 1, 4, 1, 4, 0x80000000#32, 0x00000000#32, 0x00FFFC00#32⟩,
  ⟨"SF_REFUSE_TAG", 0x1C, 1, 4, 1, 4, 0x80000000#32, 0x00000000#32, 0x7F000000#32⟩,
  ⟨"SF_MONO_CLAMP", 0x20, 1, 4, 1, 4, 0xFFFFFFFF#32, 0x00000000#32, 0x00000000#32⟩,
  ⟨"SF_OOR", 0x24, 1, 4, 1, 4, 0xFFFFFFFF#32, 0x00000000#32, 0x00000000#32⟩,
  ⟨"SF_SAT", 0x28, 1, 4, 1, 4, 0xFFFFFFFF#32, 0x00000000#32, 0x00000000#32⟩,
  ⟨"SF_SLOT", 0x100, 16, 4, 1, 4, 0x00000000#32, 0x00000000#32, 0x0000F800#32⟩]

/-- The register table of the CP_ block. -/
def Reg.tableCp : List RegRow := [
  ⟨"CP_STATUS_0", 0x0, 1, 4, 1, 4, 0x00000000#32, 0x00000000#32, 0x1F000000#32⟩,
  ⟨"CP_STATUS_1", 0x4, 1, 4, 1, 4, 0x00000000#32, 0x00000000#32, 0x1F000000#32⟩,
  ⟨"CP_BYTES_0_LO", 0x10, 1, 4, 1, 4, 0xFFFFFFFF#32, 0x00000000#32, 0x00000000#32⟩,
  ⟨"CP_BYTES_0_HI", 0x14, 1, 4, 1, 4, 0xFFFFFFFF#32, 0x00000000#32, 0x00000000#32⟩,
  ⟨"CP_BYTES_1_LO", 0x18, 1, 4, 1, 4, 0xFFFFFFFF#32, 0x00000000#32, 0x00000000#32⟩,
  ⟨"CP_BYTES_1_HI", 0x1C, 1, 4, 1, 4, 0xFFFFFFFF#32, 0x00000000#32, 0x00000000#32⟩,
  ⟨"CP_CMDS_0", 0x20, 1, 4, 1, 4, 0xFFFFFFFF#32, 0x00000000#32, 0x00000000#32⟩,
  ⟨"CP_CMDS_1", 0x24, 1, 4, 1, 4, 0xFFFFFFFF#32, 0x00000000#32, 0x00000000#32⟩,
  ⟨"CP_OOB_READ", 0x30, 1, 4, 1, 4, 0xFFFFFFFF#32, 0x00000000#32, 0x00000000#32⟩,
  ⟨"CP_OOB_DROP", 0x34, 1, 4, 1, 4, 0xFFFFFFFF#32, 0x00000000#32, 0x00000000#32⟩,
  ⟨"CP_ADD_EXC", 0x38, 1, 4, 1, 4, 0xFFFFFFFF#32, 0x00000000#32, 0x00000000#32⟩,
  ⟨"CP_OVERLAP", 0x3C, 1, 4, 1, 4, 0xFFFFFFFF#32, 0x00000000#32, 0x00000000#32⟩,
  ⟨"CP_LASTTAG", 0x40, 1, 4, 1, 4, 0x80000000#32, 0x00000000#32, 0x7F000000#32⟩]

/-- The block's table and the offset inside it of an offset in BAR0 (R495). -/
def Reg.blockOf (o : Nat) : List RegRow × Nat :=
  if o < 0x10000 then (Reg.tableHub, o)
  else if o < 0x20000 then (Reg.tableTim, o - 0x10000)
  else if o < 0x30000 then (Reg.tableAq, o - 0x20000)
  else if o < 0x40000 then (Reg.tableCis, o - 0x30000)
  else if o < 0x80000 then (Reg.tableEvt, o - 0x40000)
  else if o < 0x90000 then (Reg.tableSec, o - 0x80000)
  else if o < 0xA0000 then (Reg.tablePwr, o - 0x90000)
  else if o < 0xB0000 then (Reg.tableCfg, o - 0xA0000)
  else if o < 0xC0000 then (Reg.tableZn, o - 0xB0000)
  else if o < 0x100000 then ([], 0)
  else if o < 0x120000 then (Reg.tableStk, (o - 0x100000) % 0x2000)
  else if o < 0x140000 then ([], 0)
  else if o < 0x150000 then (Reg.tableRed, (o - 0x140000) % 0x1000)
  else if o < 0x160000 then (Reg.tableUpd, (o - 0x150000) % 0x1000)
  else if o < 0x1000000 then ([], 0)
  else if o < 0x2000000 then
    let x := (o - 0x1000000) % 0x20000
    if x < 0x1000 then (Reg.tableCore, x)
    else if x < 0x2000 then (Reg.tableMx, x - 0x1000)
    else if x < 0x3000 then (Reg.tableVx, x - 0x2000)
    else if x < 0x4000 then (Reg.tableSf, x - 0x3000)
    else if x < 0x5000 then (Reg.tableCp, x - 0x4000)
    else ([], 0)
  else ([], 0)

/-- The table row of a register, by its offset in BAR0; none where no register lies (R495). -/
def Reg.row (o : Nat) : Option RegRow :=
  let b := Reg.blockOf o
  b.1.find? (fun r => r.covers b.2)

/-- The reset value of the register with a key: the tables' values, and for a function's own instances the values that name
the function (R525): ZN_STATUS carries FUNC and, on the PF, BOUND; ZN_RINGS.QUOTA is 0x8000 on the PF and 1 on a VF. -/
def Reg.reset (key : Nat) : Word :=
  let f := key / 0x4000000
  let o := key % 0x4000000
  if o = Reg.ZN_STATUS 0 then (if f = 0 then 0x00008000#32 else BitVec.ofNat 32 f)
  else if o = Reg.ZN_RINGS 0 then (if f = 0 then 0x80000000#32 else 0x00010000#32)
  else match Reg.row o with
    | some r => r.reset
    | none => 0#32

/-- The bits of a register that a host write with no row of its own sets (R10). -/
def Reg.writable (key : Nat) : Word :=
  match Reg.row (key % 0x4000000) with
  | some r => r.rw
  | none => 0#32

/-- The reserved bits of a register, which a host must write as zero (R11). -/
def Reg.reserved (key : Nat) : Word :=
  match Reg.row (key % 0x4000000) with
  | some r => r.resv
  | none => 0#32

end Machine
end Sys2Proof
end

