-- ==== Sys2Proof/Machine/Formats.lean ====
section
/-!
DEFINITION. Formats in memory and the conversions between them (R37-R62): how an element of each format code lies in bytes and
what it is worth, the choice of a block's scale, rounding and saturation, and the three counts of a conversion.
-/
namespace Sys2Proof
namespace Machine

/-! ## Format codes (R44) -/

def Fmt.isLadder (c : Nat) : Bool := decide (1 ≤ c) && decide (c ≤ 0x10)
def Fmt.isMx (c : Nat) : Bool := decide (0x11 ≤ c) && decide (c ≤ 0x16)
def Fmt.isBlock (c : Nat) : Bool := Fmt.isLadder c || Fmt.isMx c
def Fmt.isFloat (c : Nat) : Bool := decide (0x18 ≤ c) && decide (c ≤ 0x1A)
def Fmt.isInt (c : Nat) : Bool := c == 0x1C || c == 0x1D

/-- Not a reserved code. -/
def Fmt.legal (c : Nat) : Bool := Fmt.isBlock c || Fmt.isFloat c || Fmt.isInt c

def Fmt.FP32 : Nat := 0x18
def Fmt.BF16 : Nat := 0x19
def Fmt.FP16 : Nat := 0x1A
def Fmt.INT32 : Nat := 0x1C
def Fmt.INT8 : Nat := 0x1D

/-- Sign, exponent and mantissa of the floating codes. -/
def Fmt.float (c : Nat) : FloatFmt := if c = 0x19 then bf16 else if c = 0x1A then fp16 else fp32

/-- Exponent and mantissa bits of the MX floating codes (R47). -/
def Fmt.mxFloat (c : Nat) : FloatFmt :=
  match c with
  | 0x12 => ⟨4, 3⟩
  | 0x13 => ⟨5, 2⟩
  | 0x14 => ⟨2, 3⟩
  | 0x15 => ⟨3, 2⟩
  | _ => ⟨2, 1⟩

/-- The pattern of the largest finite magnitude of an MX floating code (R47). -/
def Fmt.mxMax (c : Nat) : Nat :=
  match c with
  | 0x12 => 0x7E
  | 0x13 => 0x7B
  | 0x14 => 0x1F
  | 0x15 => 0x1F
  | _ => 0x7

/-- The largest exponent of an MX element type (R58). -/
def Fmt.emax (c : Nat) : Nat :=
  match c with
  | 0x12 => 8
  | 0x13 => 15
  | 0x14 => 2
  | 0x15 => 4
  | 0x16 => 2
  | _ => 0

/-- Bits of one element in memory: in slice layout a ladder element takes one or two bytes (R41, R48). -/
def Fmt.elemBits (c : Nat) (slice : Bool) : Nat :=
  if Fmt.isLadder c then (if slice then (if c ≤ 8 then 8 else 16) else c)
  else
    match c with
    | 0x14 => 6
    | 0x15 => 6
    | 0x16 => 4
    | 0x18 => 32
    | 0x19 => 16
    | 0x1A => 16
    | 0x1C => 32
    | _ => 8

/-- Bytes of 32 elements of a block format, or of one line of 32 of another. -/
def Fmt.blockBytes (c : Nat) (slice : Bool) : Nat := 4 * Fmt.elemBits c slice

/-- Bytes of n elements along a row: whole blocks of a block format, densely packed (R39, R48). -/
def Fmt.rowBytes (c : Nat) (slice : Bool) (n : Nat) : Nat :=
  if Fmt.isLadder c && !slice then ceilDiv n 32 * (4 * c)
  else ceilDiv (n * Fmt.elemBits c slice) 8

/-! ## Elements in bytes -/

/-- The value of byte i of a list. -/
def byteAt (bs : List Byte) (i : Nat) : Nat := (bs.getD i 0#8).toNat

/-- The raw code of bits [pos, pos + n) of little-endian bytes. -/
def bitsAt (bs : List Byte) (pos n : Nat) : Nat :=
  leNat ((bs.drop (pos / 8)).take ((pos % 8 + n + 7) / 8)) / 2 ^ (pos % 8) % 2 ^ n

/-- Element i of a plane-layout block at width a: bit i of each plane word (R40). -/
def planeElem (a : Nat) (bs : List Byte) (i : Nat) : Nat :=
  (List.range a).foldl (fun acc j => acc + (if (byteAt bs (4 * j + i / 8)).testBit (i % 8) then 2 ^ j else 0)) 0

/-- The raw code of element i of a row of bytes in a format. -/
def rawElem (c : Nat) (slice : Bool) (bs : List Byte) (i : Nat) : Nat :=
  if Fmt.isLadder c && !slice then planeElem c (bs.drop (i / 32 * (4 * c))) (i % 32)
  else bitsAt bs (i * Fmt.elemBits c slice) (Fmt.elemBits c slice)

/-- The value of a raw element of a block whose scale byte is S, or of an unscaled element (R37, R47). -/
def elemValue (c : Nat) (slice : Bool) (S raw : Nat) : Num :=
  if Fmt.isBlock c && S == 0xFF then .nan
  else if Fmt.isLadder c then Num.of (sext (if slice then Fmt.elemBits c true else c) raw) ((S : Int) - 127)
  else if c = 0x11 then Num.of (sext 8 raw) ((S : Int) - 127 - 6)
  else if c = 0x12 then (if raw % 128 = 0x7F then .nan else ((⟨4, 3⟩ : FloatFmt).finiteValue raw).scale ((S : Int) - 127))
  else if c = 0x13 then ((⟨5, 2⟩ : FloatFmt).decode raw).scale ((S : Int) - 127)
  else if Fmt.isMx c then ((Fmt.mxFloat c).finiteValue raw).scale ((S : Int) - 127)
  else if Fmt.isFloat c then (Fmt.float c).decode raw
  else Num.of (sext (Fmt.elemBits c false) raw) 0

/-- Packs raw codes of n bits each into bytes, first element lowest. -/
def packBits (n : Nat) (xs : List Nat) : List Byte :=
  toLe (ceilDiv (n * xs.length) 8) (xs.foldr (fun x acc => x % 2 ^ n + 2 ^ n * acc) 0)

/-- A block of 32 two's-complement mantissas in plane layout (R40). -/
def packPlanes (a : Nat) (ms : List Nat) : List Byte :=
  (List.range a).foldr (fun j acc => toLe 4 (ms.foldr (fun m acc => (if m.testBit j then 1 else 0) + 2 * acc) 0) ++ acc) []

/-- Raw codes of one block, or of a line of other elements, as bytes. -/
def packElems (c : Nat) (slice : Bool) (xs : List Nat) : List Byte :=
  if Fmt.isLadder c && !slice then packPlanes c xs else packBits (Fmt.elemBits c slice) xs

/-! ## Counts (R54) -/

/-- Elements that lost bits, elements saturated, blocks poisoned. -/
structure Counts where
  lost : Nat := 0
  sat : Nat := 0
  poison : Nat := 0
  deriving DecidableEq, Repr

def Counts.add (a b : Counts) : Counts := { lost := a.lost + b.lost, sat := a.sat + b.sat, poison := a.poison + b.poison }

/-- An element counts once: saturated, or else lost. -/
def Counts.elem (sat lost : Bool) : Counts := if sat then { sat := 1 } else if lost then { lost := 1 } else {}

/-! ## Into a ladder block (R49-R53) -/

/-- Whether an element, rounded to a multiple of 2^(S - 127), lies in the range of width a. -/
def fitsLadder (a : Nat) (x : Num) (S : Nat) : Bool :=
  let q := (x.roundAt ((S : Int) - 127)).1
  decide (-(2 ^ (a - 1) : Int) ≤ q) && decide (q ≤ 2 ^ (a - 1) - 1)

/-- The smallest scale that holds one element, 255 where none up to 254 does. Below e + bitLen - a + 127 the rounded element
keeps more than a bits, and three steps above it fits, so four tries find it. -/
def elemScale (a : Nat) (x : Num) : Nat :=
  match x with
  | .fin m e =>
    let lo := (e + (bitLen m.natAbs : Int) - (a : Int) + 127).toNat
    if lo > 254 then 255 else min 255 ((firstFrom (fitsLadder a x) lo 4).getD 255)
  | _ => 0

/-- The scale of a block (R49, R51): the smallest that holds every element, no more than 254. -/
def ladderScale (a : Nat) (xs : List Num) : Nat := min 254 (xs.foldl (fun s x => max s (elemScale a x)) 0)

/-- A block after conversion: its scale byte, its elements' raw codes, what it counted. -/
structure BlockOut where
  scale : Nat
  codes : List Nat
  counts : Counts := {}
  deriving DecidableEq, Repr

/-- A poisoned block of n elements (R53). -/
def poisonBlock (n : Nat) : BlockOut := { scale := 0xFF, codes := List.replicate n 0, counts := { poison := 1 } }

/-- A mantissa at a scale: rounded, saturated to the range of width a, with its count (R50, R51). -/
def ladderElem (a S : Nat) (x : Num) : Int × Counts :=
  let r := x.roundAt ((S : Int) - 127)
  let lo : Int := -(2 ^ (a - 1) : Int)
  let hi : Int := 2 ^ (a - 1) - 1
  if r.1 < lo then (lo, { sat := 1 }) else if hi < r.1 then (hi, { sat := 1 }) else (r.1, Counts.elem false r.2)

/-- The elements of a block at a given scale, as codes of n bits. -/
def ladderAt (a n S : Nat) (xs : List Num) : BlockOut :=
  let rs := xs.map (ladderElem a S)
  { scale := S, codes := rs.map (fun r => wrap n r.1), counts := rs.foldl (fun c r => c.add r.2) {} }

/-- Converts a block into width a, its codes n bits wide (R49-R53). A square tile is converted as one list of 1,024. -/
def toLadder (a n : Nat) (xs : List Num) : BlockOut :=
  if xs.any (fun x => !x.finite) then poisonBlock xs.length else ladderAt a n (ladderScale a xs) xs

/-! ## Into an MX block (R58) -/

/-- ⌊log2 of the largest magnitude⌋ of a block's elements, where one is not zero. -/
def topExponent (xs : List Num) : Option Int :=
  xs.foldl (fun acc x =>
    match x with
    | .fin m e =>
      let t := e + (bitLen m.natAbs : Int) - 1
      some (match acc with | some u => max t u | none => t)
    | _ => acc) none

/-- One element of an MX block with its scale taken off: its code and its count. -/
def mxElem (c : Nat) (x : Num) : Nat × Counts :=
  if c = 0x11 then
    let r := x.roundAt (-6)
    if 127 < r.1 then (127, { sat := 1 }) else if r.1 < -127 then (0x81, { sat := 1 })
    else (wrap 8 r.1, Counts.elem false r.2)
  else
    let f := Fmt.mxFloat c
    match x with
    | .fin m e =>
      let sg := if m < 0 then f.signBit else 0
      let r := f.roundMag m.natAbs e
      if Fmt.mxMax c < r.1 then (sg + Fmt.mxMax c, { sat := 1 }) else (sg + r.1, Counts.elem false r.2)
    | x => (if x.sign then f.signBit else 0, {})

/-- Converts a block into an MX format (R58). -/
def toMx (c : Nat) (xs : List Num) : BlockOut :=
  if xs.any (fun x => !x.finite) then poisonBlock xs.length
  else
    let S : Nat := match topExponent xs with
      | some t => (max 0 (min 254 (t - (Fmt.emax c : Int) + 127))).toNat
      | none => 0x7F
    let rs := xs.map (fun x => mxElem c (x.scale (127 - (S : Int))))
    { scale := S, codes := rs.map (·.1), counts := rs.foldl (fun c r => c.add r.2) {} }

/-- Converts a block into a block format. -/
def toBlock (c : Nat) (slice : Bool) (xs : List Num) : BlockOut :=
  if Fmt.isLadder c then toLadder c (Fmt.elemBits c slice) xs else toMx c xs

/-! ## Into a format without blocks (R56, R60) -/

/-- An integer of n bits from a value: nearest, ties to even, saturated; NaN gives 0. -/
def toInt (n : Nat) (x : Num) : Nat × Counts :=
  let hi : Int := 2 ^ (n - 1) - 1
  let lo : Int := -(2 ^ (n - 1) : Int)
  match x with
  | .nan => (0, { sat := 1 })
  | .inf s => (wrap n (if s then lo else hi), { sat := 1 })
  | x =>
    let r := x.roundAt 0
    if hi < r.1 then (wrap n hi, { sat := 1 }) else if r.1 < lo then (wrap n lo, { sat := 1 })
    else (wrap n r.1, Counts.elem false r.2)

/-- One element converted to FP32, BF16, FP16, INT32 or INT8. -/
def toElem (c : Nat) (x : Num) : Nat × Counts :=
  if Fmt.isInt c then toInt (Fmt.elemBits c false) x
  else
    let r := (Fmt.float c).round true x
    (r.bits, Counts.elem r.beyond r.lost)

/-- The elements of a block converted one by one; a block whose scale is 0xFF counts once as poisoned (R53, R54, R56). -/
def toElems (c : Nat) (poisoned : Bool) (xs : List Num) : List Nat × Counts :=
  let rs := xs.map (toElem c)
  (rs.map (·.1), if poisoned then { poison := 1 } else rs.foldl (fun k r => k.add r.2) {})

/-! ## Counters of a command (R54, R62) -/

/-- A result with its conversion counts: they show in the trace record, and go to the core's counters when it retires. -/
def CmdResult.withCounts (core : Nat) (k : Counts) (r : CmdResult) : CmdResult :=
  if k.lost + k.sat + k.poison = 0 then r
  else { r with
    lost := r.lost + k.lost, sat := r.sat + k.sat, poison := r.poison + k.poison
    add32 := r.add32 ++ [(Reg.CORE_CONV_LOST core, k.lost), (Reg.CORE_CONV_SAT core, k.sat), (Reg.CORE_CONV_POISON core, k.poison)]
    lastTags := r.lastTags ++ [Reg.CORE_CONV_LASTTAG core] }

end Machine
end Sys2Proof
end

