-- ==== Sys2Proof/Machine/Functions.lean ====
section
/-!
DEFINITION. The function evaluator of the special-function unit and both glaze stages (R157-R171): the built-in functions, which
are faithful and not published bit by bit, and the user tables, which are exact.

The exact result of a built-in function is bracketed by fixed-point series with 1,024 fraction bits. Their error stays below
2^-1000, far finer than the distance of any result that is not exactly representable from a value of a format, so the two
neighbours of R162 are the right ones. Which of the two is returned is a free value.
-/
namespace Sys2Proof
namespace Machine

/-! ## Counts -/

/-- What the elements of a vector or glaze operation count (R54, R142, R144, R183). -/
structure Tally where
  conv : Counts := {}
  nanGen : Nat := 0
  ovf : Nat := 0
  isat : Nat := 0
  sfSat : Nat := 0
  oor : Nat := 0
  mono : Nat := 0
  deriving DecidableEq, Repr

def Tally.add (a b : Tally) : Tally :=
  { conv := a.conv.add b.conv, nanGen := a.nanGen + b.nanGen, ovf := a.ovf + b.ovf, isat := a.isat + b.isat,
    sfSat := a.sfSat + b.sfSat, oor := a.oor + b.oor, mono := a.mono + b.mono }

/-- The sum of a list of tallies. -/
def Tally.sum (ts : List Tally) : Tally := ts.foldl Tally.add {}

/-! ## Fixed-point series, 1,024 fraction bits -/

/-- One in fixed point. -/
def fxOne : Int := 2 ^ 1024

def fxMul (a b : Int) : Int := a * b / fxOne

def fxDiv (a b : Int) : Int := a * fxOne / b

/-- Σ z^(2k+1) / (2k+1) with signs s^k, from term k on: t is z^(2k+1), q is z². -/
def fxArc (s q : Int) : Nat → Int → Int → Int → Int
  | 0, _, _, acc => acc
  | n + 1, k, t, acc => fxArc s q n (k + 2) (s * fxMul t q) (acc + t / k)

/-- atanh z = Σ z^(2k+1) / (2k+1), for |z| ≤ 1/3. -/
def fxAtanh (z : Int) : Int := fxArc 1 (fxMul z z) 340 1 z 0

/-- arctan z, for |z| ≤ 1/5. -/
def fxAtan (z : Int) : Int := fxArc (-1) (fxMul z z) 240 1 z 0

/-- ln 2 = 2 atanh (1/3). -/
def fxLn2 : Int := 2 * fxAtanh (fxOne / 3)

/-- π = 16 arctan (1/5) − 4 arctan (1/239). -/
def fxPi : Int := 16 * fxAtan (fxOne / 5) - 4 * fxAtan (fxOne / 239)

/-- Σ x^k / k! from term k on. -/
def fxExpSum (x : Int) : Nat → Int → Int → Int → Int
  | 0, _, _, acc => acc
  | n + 1, k, t, acc => fxExpSum x n (k + 1) (fxMul t x / k) (acc + t)

/-- e^r for 0 ≤ r < 1. -/
def fxExp (r : Int) : Int := fxExpSum r 200 1 fxOne 0

/-- Σ (−1)^k x^(2k+c) / (2k+c)! with term k's factor t, q = x². -/
def fxTrig (q : Int) : Nat → Int → Int → Int → Int
  | 0, _, _, acc => acc
  | n + 1, k, t, acc => fxTrig q n (k + 2) (-(fxMul t q / ((k + 1) * (k + 2)))) (acc + t)

def fxSin (r : Int) : Int := fxTrig (fxMul r r) 110 1 r 0
def fxCos (r : Int) : Int := fxTrig (fxMul r r) 110 0 fxOne 0

/-- Σ (−1)^k q^k / (k! (2k+1)), the series of erf without its factors: t is (−1)^k q^k / k!. -/
def fxErfSum (q : Int) : Nat → Int → Int → Int → Int
  | 0, _, _, acc => acc
  | n + 1, k, t, acc => fxErfSum q n (k + 1) (-(fxMul t q / (k + 1))) (acc + t / (2 * k + 1))

/-- √a in fixed point. -/
def fxSqrt (a : Int) : Int := (isqrt (a * fxOne).toNat : Nat)

/-- A finite value in fixed point, as far as its bits reach 2^-1024. -/
def Num.toFx : Num → Int
  | .fin m e => if 0 ≤ e + 1024 then m * 2 ^ (e + 1024).toNat else m / 2 ^ (-(e + 1024)).toNat
  | _ => 0

/-- A fixed-point number as a value. -/
def fxNum (a : Int) : Num := Num.of a (-1024)

/-- e^x, |x| < 512, as a value with its exponent. -/
def expNum (x : Int) : Num :=
  let n := x / fxLn2
  Num.of (fxExp (x - n * fxLn2)) (n - 1024)

/-- A value held between −512 and 512: every function has reached its limit well inside. -/
def clampArg (x : Num) : Num :=
  if Num.lt (.ofNat 512) x then .ofNat 512 else if Num.lt x (Num.of (-512) 0) then Num.of (-512) 0 else x

/-- a / b of two positive values to 1,024 bits. -/
def ratio (a b : Num) : Num :=
  match a, b with
  | .fin m e, .fin n f =>
    let k := 1024 + bitLen n.natAbs
    Num.of (m * 2 ^ k / n) (e - f - (k : Int))
  | _, _ => .zero false

/-- 1 / (1 + e^−x), x in fixed point. -/
def sigmoidNum (x : Int) : Num :=
  let one := Num.ofNat 1
  if 0 ≤ x then ratio one (one.add (expNum (-x)))
  else
    let y := expNum x
    ratio y (one.add y)

/-- ln of a positive value. -/
def lnNum (x : Num) : Int :=
  match x with
  | .fin m e =>
    let l := bitLen m.natAbs
    let f := (m * 2 ^ 1024 * 2 ^ 24) / 2 ^ (l + 23)
    (e + (l : Int) - 1) * fxLn2 + 2 * fxAtanh (fxDiv (f - fxOne) (f + fxOne))
  | _ => 0

/-- erf (x / √d) with d = 1 or 2, |x| ≤ 16. -/
def erfFx (d : Int) (x : Int) : Int :=
  let q := fxMul x x / d
  let c := fxDiv (2 * fxOne) (fxSqrt (d * fxPi))
  fxMul (fxMul c x) (fxErfSum q 1100 0 fxOne 0)

/-- ½ (1 + tanh u) = 1 / (1 + e^(−2u)) of the inner polynomial of GELU_TANH. -/
def geluInner (x : Int) : Int :=
  let p := x + fxMul (fxMul x x) x * 44715 / 1000000
  fxMul (fxSqrt (fxDiv (2 * fxOne) fxPi)) p

/-! ## Built-in functions (R157, R162, R164) -/

def Fn.IDENT : Nat := 0x00
def Fn.EXP : Nat := 0x01
def Fn.EXP2 : Nat := 0x02
def Fn.LOG : Nat := 0x03
def Fn.LOG2 : Nat := 0x04
def Fn.RECIP : Nat := 0x05
def Fn.SQRT : Nat := 0x06
def Fn.RSQRT : Nat := 0x07
def Fn.TANH : Nat := 0x08
def Fn.SIGMOID : Nat := 0x09
def Fn.ERF : Nat := 0x0A
def Fn.GELU : Nat := 0x0B
def Fn.GELU_TANH : Nat := 0x0C
def Fn.SILU : Nat := 0x0D
def Fn.SOFTPLUS : Nat := 0x0E
def Fn.SIN : Nat := 0x0F
def Fn.COS : Nat := 0x10

/-- A function code that R157 defines, IDENT apart. -/
def Fn.legal (fn : Nat) : Bool := (decide (1 ≤ fn) && decide (fn ≤ 0x10)) || (decide (0x20 ≤ fn) && decide (fn ≤ 0x2F))

/-- The result of a built-in function before its rounding: a value rounded to nearest (special inputs, exact results, RECIP and
SQRT), or one that either neighbour may stand for, with the finite limit of its argument's side. -/
inductive FnVal where
  | exact (v : Num)
  | near (v : Num) (limit : Option Num)
  deriving DecidableEq, Repr

/-- The finite limits of R164 on the side of an argument: for a magnitude of at least 1. -/
def fnLimit (fn : Nat) (x : Num) : Option Num :=
  let neg := x.sign
  if x.abs.lt (.ofNat 1) then none
  else if fn = Fn.EXP ∨ fn = Fn.EXP2 then (if neg then some (.zero false) else none)
  else if fn = Fn.TANH ∨ fn = Fn.ERF then some (if neg then Num.of (-1) 0 else .ofNat 1)
  else if fn = Fn.SIGMOID then some (if neg then .zero false else .ofNat 1)
  else if fn = Fn.GELU ∨ fn = Fn.GELU_TANH ∨ fn = Fn.SILU then some (if neg then .zero true else x)
  else if fn = Fn.SOFTPLUS then some (if neg then .zero false else x)
  else none

/-- Special inputs of R164: infinities. -/
def fnAtInf (fn : Nat) (neg : Bool) : Num :=
  if fn = Fn.EXP ∨ fn = Fn.EXP2 ∨ fn = Fn.SOFTPLUS then (if neg then .zero false else .inf false)
  else if fn = Fn.LOG ∨ fn = Fn.LOG2 ∨ fn = Fn.SQRT then (if neg then .nan else .inf false)
  else if fn = Fn.RECIP then .zero neg
  else if fn = Fn.RSQRT then (if neg then .nan else .zero false)
  else if fn = Fn.TANH ∨ fn = Fn.ERF then (if neg then Num.of (-1) 0 else .ofNat 1)
  else if fn = Fn.SIGMOID then (if neg then .zero false else .ofNat 1)
  else if fn = Fn.GELU ∨ fn = Fn.GELU_TANH ∨ fn = Fn.SILU then (if neg then .zero true else .inf false)
  else .nan

/-- Results at a zero of either sign. -/
def fnAtZero (fn : Nat) (neg : Bool) : FnVal :=
  if fn = Fn.EXP ∨ fn = Fn.EXP2 ∨ fn = Fn.COS then .exact (.ofNat 1)
  else if fn = Fn.LOG ∨ fn = Fn.LOG2 then .exact (.inf true)
  else if fn = Fn.RECIP ∨ fn = Fn.RSQRT then .exact (.inf neg)
  else if fn = Fn.SIGMOID then .exact (Num.of 1 (-1))
  else if fn = Fn.SOFTPLUS then .near (fxNum fxLn2) none
  else .exact (.zero neg)

/-- Whether a positive value is a power of two. -/
def isPow2 (m : Int) : Bool := m.natAbs == 2 ^ (bitLen m.natAbs - 1)

/-- sin and cos of a finite argument: x = kπ/2 + r with |r| ≤ π/4, the residue taken with fixed-point π. -/
def trigFx (cos : Bool) (x : Int) : Int :=
  let h := fxPi / 2
  let k := (x + h / 2) / h
  let r := x - k * h
  let j := (k + (if cos then 1 else 0)) % 4
  if j = 0 then fxSin r else if j = 1 then fxCos r else if j = 2 then -fxSin r else -fxCos r

/-- A built-in function at a finite value m * 2^e, m ≠ 0. -/
def fnAtFinite (fn : Nat) (m e : Int) : FnVal :=
  let x : Num := .fin m e
  let neg := decide (m < 0)
  let a := (clampArg x).toFx
  let lim := fnLimit fn x
  if fn = Fn.EXP then .near (expNum a) lim
  else if fn = Fn.EXP2 then
    let n := a / fxOne
    .near (if a % fxOne = 0 then Num.of 1 n else (expNum (fxMul (a - n * fxOne) fxLn2)).scale n) lim
  else if fn = Fn.LOG then
    if neg then .exact .nan else if x.eq (.ofNat 1) then .exact (.zero false) else .near (fxNum (lnNum x)) none
  else if fn = Fn.LOG2 then
    if neg then .exact .nan
    else if isPow2 m then .exact (Num.of (e + (bitLen m.natAbs : Int) - 1) 0)
    else .near (fxNum (fxDiv (lnNum x) fxLn2)) none
  else if fn = Fn.RECIP then .exact ((Num.ofNat 1).div x)
  else if fn = Fn.SQRT then .exact x.sqrt
  else if fn = Fn.RSQRT then
    if neg then .exact .nan
    else if isPow2 m && decide ((e + (bitLen m.natAbs : Int) - 1) % 2 = 0) then .exact ((Num.ofNat 1).div x.sqrt)
    else .near ((Num.ofNat 1).div x.sqrt) none
  else if fn = Fn.TANH then
    if x.abs.lt (Num.of 1 (-12)) then .exact x
    else
      let y := expNum (-2 * a.natAbs)
      let t := ratio ((Num.ofNat 1).sub y) ((Num.ofNat 1).add y)
      .near (if neg then t.neg else t) lim
  else if fn = Fn.SIGMOID then .near (sigmoidNum a) lim
  else if fn = Fn.ERF then
    let b := if a.natAbs < 16 * 2 ^ 1024 then erfFx 1 a else if neg then -fxOne + 1 else fxOne - 1
    .near (fxNum b) lim
  else if fn = Fn.GELU then
    let p := if a.natAbs < 16 * 2 ^ 1024 then (fxOne + erfFx 2 a) / 2 else if neg then 1 else fxOne - 1
    .near (x.mul (fxNum p)) lim
  else if fn = Fn.GELU_TANH then
    let u := (clampArg (fxNum (2 * geluInner a))).toFx
    .near (x.mul (sigmoidNum u)) lim
  else if fn = Fn.SILU then .near (x.mul (sigmoidNum a)) lim
  else if fn = Fn.SOFTPLUS then
    let y := expNum (-(a.natAbs : Int))
    let l := (fxNum (2 * fxAtanh ((ratio y (y.add (.ofNat 2))).toFx)))
    .near (if neg then l else x.add l) lim
  else if fn = Fn.SIN then .near (fxNum (trigFx false x.toFx)) none
  else .near (fxNum (trigFx true x.toFx)) none

/-- A built-in function at any value. -/
def fnValue (fn : Nat) : Num → FnVal
  | .nan => .exact .nan
  | .inf s => .exact (fnAtInf fn s)
  | .zero s => fnAtZero fn s
  | .fin m e => fnAtFinite fn m e

/-- The pattern of the neighbour toward zero of a positive magnitude. -/
def FloatFmt.floorMag (f : FloatFmt) (m : Nat) (e : Int) : Nat :=
  let emin : Int := 1 - (f.bias : Int) - (f.mbits : Int)
  let q := max (e + (bitLen m : Int) - 1 - (f.mbits : Int)) emin
  let r := if q ≤ e then m * 2 ^ (e - q).toNat else m / 2 ^ (q - e).toNat
  if r < 2 ^ f.mbits then r else (q - emin).toNat * 2 ^ f.mbits + r

/-- The two neighbours of a finite value that is not exactly representable, nearest first and chosen by the free value: the one
toward zero, or the one beyond. -/
def faithfulBits (f : FloatFmt) (away : Bool) : Num → Nat
  | .fin m e => (if m < 0 then f.signBit else 0) + f.floorMag m.natAbs e + (if away then 1 else 0)
  | x => (f.round false x).bits

/-- The result of a built-in function in a format (R161-R165): its bits, and what it counts. `src` is the FP32 pattern of the
input, `ver` the version of the built-in store, `code` the format code. -/
def builtin (ver fn code src : Nat) : Nat × Tally :=
  let f := Fmt.float code
  let x := Num.ofFp32 src
  match fnValue fn x with
  | .exact v =>
    let r := f.round false v
    (r.bits, { nanGen := if v.isNan && !x.isNan then 1 else 0, ovf := if r.beyond then 1 else 0 })
  | .near v lim =>
    let r := f.round false v
    let limit := lim.map (fun l => (f.round false l).bits)
    let b := if r.beyond || limit == some r.bits || !r.lost then r.bits
      else faithfulBits f (Config.faithful ver fn code src) v
    (b, { ovf := if b % f.signBit = f.infBits then 1 else 0, sfSat := if limit == some b then 1 else 0 })

/-! ## User tables (R166-R171) -/

/-- A table image as 32-bit words: eight of header, then the records. -/
abbrev Table := List Word

def Table.word (t : Table) (i : Nat) : Nat := (t.getD i 0#32).toNat
def Table.nseg (t : Table) : Nat := bits (t.word 0) 15 0
def Table.octave (t : Table) : Bool := bits (t.word 0) 17 16 == 1
def Table.quadratic (t : Table) : Bool := (t.word 0).testBit 18
def Table.mono (t : Table) : Nat := bits (t.word 0) 20 19
def Table.tol (t : Table) : Nat := bits (t.word 0) 27 24
def Table.below (t : Table) : Nat := bits (t.word 1) 1 0
def Table.above (t : Table) : Nat := bits (t.word 1) 3 2
def Table.wexp (t : Table) : Int := sext 8 (bits (t.word 1) 15 8)
def Table.sub (t : Table) : Nat := bits (t.word 1) 10 8
def Table.emin (t : Table) : Int := sext 8 (bits (t.word 1) 23 16)
def Table.lo (t : Table) : Num := Num.ofFp32 (t.word 2)
def Table.lowVal (t : Table) : Nat := t.word 3
def Table.highVal (t : Table) : Nat := t.word 4

/-- Coefficient j of segment i as an FP32 pattern; c2 is 0 in a linear table. -/
def Table.coefBits (t : Table) (i j : Nat) : Nat :=
  if t.quadratic then t.word (8 + 4 * i + j) else if j < 2 then t.word (8 + 2 * i + j) else 0

def Table.coef (t : Table) (i j : Nat) : Num := Num.ofFp32 (t.coefBits i j)

/-- The start value of segment i, and the end value c0 + c1 + c2 rounded once to FP32, as patterns. -/
def Table.startBits (t : Table) (i : Nat) : Nat := t.coefBits i 0
def Table.endBits (t : Table) (i : Nat) : Nat := (((t.coef i 0).add (t.coef i 1)).add (t.coef i 2)).toFp32

/-- The seam value σ_(i-1) of a monotone table, for i = 0 to NSEG (R170). -/
def Table.seam (t : Table) (i : Nat) : Nat :=
  if i < t.nseg then t.startBits i else t.endBits (t.nseg - 1)

/-- Where an input falls: below, in segment i at coordinate n / 2^24, or above (R167). -/
inductive TablePlace where
  | below
  | inside (seg n : Nat)
  | above
  deriving DecidableEq, Repr

/-- ⌊m * 2^e⌋ of a value that is not negative. -/
def Num.floorNat : Num → Nat
  | .fin m e => if 0 ≤ e then m.toNat * 2 ^ e.toNat else m.toNat / 2 ^ (-e).toNat
  | _ => 0

/-- The place of an FP32 input that is not NaN. -/
def Table.place (t : Table) (src : Nat) : TablePlace :=
  let x := Num.ofFp32 src
  match x with
  | .inf s => if s then .below else .above
  | x =>
    if t.octave then
      let e := bits src 30 23
      let k : Int := (e : Int) - 127
      if src.testBit 31 || e = 0 || decide (k < t.emin) then .below
      else
        let i := (k - t.emin).toNat * 2 ^ t.sub + bits src 22 0 / 2 ^ (23 - t.sub)
        if i < t.nseg then .inside i (bits src 22 0 % 2 ^ (23 - t.sub) * 2 ^ (1 + t.sub)) else .above
    else
      let y := (x.sub t.lo).scale (-t.wexp)
      if y.sign && !y.isZero then .below
      else
        let i := y.floorNat
        if i < t.nseg then .inside i ((y.scale 24).floorNat % 2 ^ 24) else .above

/-- c0 + c1 t + c2 t² exactly, t = n / 2^24 (R168). -/
def Table.poly (t : Table) (i n : Nat) : Num :=
  let v := Num.of (n : Int) (-24)
  ((t.coef i 0).add ((t.coef i 1).mul v)).add (((t.coef i 2).mul v).mul v)

/-- The value of a table at an FP32 input that is not NaN, rounded into a format: the value before clamping and its bits, the
count of a clamp, of an input out of range, and whether it is the NaN of the NAN policy (R168, R170, R171). -/
def Table.eval (t : Table) (code src : Nat) : Nat × Tally :=
  let f := Fmt.float code
  let into := fun (b : Nat) => (f.round false (Num.ofFp32 b))
  let const := fun (b : Nat) => let r := into b; (r.bits, ({ oor := 1, ovf := if r.beyond then 1 else 0 } : Tally))
  match t.place src with
  | .below =>
    if t.below = 2 then (f.nanBits, { oor := 1, nanGen := 1 })
    else if t.below = 1 then const t.lowVal
    else const (t.startBits 0)
  | .above =>
    if t.above = 2 then (f.nanBits, { oor := 1, nanGen := 1 })
    else if t.above = 1 then const t.highVal
    else const (t.endBits (t.nseg - 1))
  | .inside i n =>
    let r := f.round false (t.poly i n)
    let v := f.decode r.bits
    let a := Num.ofFp32 (t.seam i)
    let b := Num.ofFp32 (t.seam (i + 1))
    let c := if t.mono = 0 then v
      else if t.mono = 1 then (if v.lt a then a else if b.lt v then b else v)
      else (if a.lt v then a else if v.lt b then b else v)
    let w := f.round false c
    if t.mono = 0 then (r.bits, { ovf := if r.beyond then 1 else 0 })
    else if w.bits = r.bits then (r.bits, { ovf := if r.beyond then 1 else 0 })
    else (w.bits, { mono := 1 })

/-- Any function at an FP32 input, in a format: a table's NaN input gives the canonical NaN and counts nothing (R164, R167). -/
def fnEval (ver fn code src : Nat) (t : Table) : Nat × Tally :=
  if fn ≥ 0x20 then
    if (Num.ofFp32 src).isNan then ((Fmt.float code).nanBits, {}) else t.eval code src
  else builtin ver fn code src

/-! ## The load check (R169) -/

/-- Why a table is refused: 1 header, 2 seam, 3 monotone order, with the segment that SF_REFUSE_INFO names. -/
structure TableRefusal where
  reason : Nat
  seg : Nat
  deriving DecidableEq, Repr

/-- An FP32 pattern is NaN or infinite. -/
def fp32Special (b : Nat) : Bool := bits b 30 23 == 0xFF

/-- A bad header (R169 items 1 and 2): a reserved, inconsistent or out-of-range field, LO or a used CONST value not finite. -/
def Table.badHeader (t : Table) : Bool :=
  let w0 := t.word 0
  let w1 := t.word 1
  t.nseg == 0 || decide (t.nseg > 1024) || decide (bits w0 17 16 > 1) || t.mono == 3 || bits w0 23 21 != 0 || bits w0 31 28 != 0
    || t.below == 3 || t.above == 3 || bits w1 7 4 != 0 || bits w1 31 24 != 0
    || t.word 5 != 0 || t.word 6 != 0 || t.word 7 != 0
    || (if t.octave then decide (t.sub > 6) || bits w1 15 11 != 0 || t.word 2 != 0 || decide (t.nseg % 2 ^ t.sub ≠ 0)
        else bits w1 23 16 != 0 || fp32Special (t.word 2))
    || (t.below == 1 && fp32Special t.lowVal) || (t.above == 1 && fp32Special t.highVal)

/-- A record with a coefficient that is not finite, or with nonzero padding. -/
def Table.badRecord (t : Table) (i : Nat) : Bool :=
  fp32Special (t.coefBits i 0) || fp32Special (t.coefBits i 1) || fp32Special (t.coefBits i 2)
    || (t.quadratic && t.word (8 + 4 * i + 3) != 0)

/-- The distance of two FP32 patterns in the ordered sequence. -/
def seamDistance (a b : Nat) : Nat := (fp32.place a - fp32.place b).natAbs

/-- Whether b follows a in the order of MONO. -/
def Table.inOrder (t : Table) (a b : Nat) : Bool :=
  if t.mono = 1 then !(Num.ofFp32 b).lt (Num.ofFp32 a) else if t.mono = 2 then !(Num.ofFp32 a).lt (Num.ofFp32 b) else true

/-- The checks as record i arrives, then those of the records after it. -/
def Table.checkFrom (t : Table) : Nat → Nat → Option TableRefusal
  | 0, _ =>
    let n := t.nseg
    if !t.inOrder (t.seam (n - 1)) (t.seam n) || (t.above == 1 && !t.inOrder (t.seam n) t.highVal) then some ⟨3, n - 1⟩ else none
  | k + 1, i =>
    if t.badRecord i then some ⟨1, 0⟩
    else if i > 0 ∧ seamDistance (t.endBits (i - 1)) (t.startBits i) > t.tol then some ⟨2, i - 1⟩
    else if i > 0 && !t.inOrder (t.seam (i - 1)) (t.seam i) then some ⟨3, i - 1⟩
    else if i = 0 && t.below == 1 && !t.inOrder t.lowVal (t.seam 0) then some ⟨3, 0⟩
    else t.checkFrom k (i + 1)

/-- The load check of a whole image: its first failure in segment order (R169, R170). -/
def Table.check (t : Table) : Option TableRefusal := if t.badHeader then some ⟨1, 0⟩ else t.checkFrom t.nseg 0

end Machine
end Sys2Proof
end

