-- ==== Sys2Proof/Machine/HubState.lean ====
section
/-!
DEFINITION. The state of the hub's units: fault records (R621-R631), event controller (R533-R547), Zennus interface
(R498-R517, R523), security (R549-R565), power and temperature (R566, R606-R617), start-up and configuration store
(R578-R598). What their registers show stands in the register file.
-/
namespace Sys2Proof
namespace Machine

/-- A fault record (R621). `core` 0xFF names no core; `part` 0xFF is device scope. Times are in units of 2^-16 ns. -/
structure FaultRec where
  status : Nat
  source : Nat
  akind : Nat := 0
  tagValid : Bool := false
  core : Nat := 0xFF
  part : Nat := 0xFF
  index : Nat := 0
  tag : Nat := 0
  stroke : Nat := 0
  addr : Nat := 0
  time : Nat := 0
  seq : Nat := 0
  count : Nat := 1
  detail : Nat := 0
  deriving DecidableEq, Repr

/-- Fault records waiting in the hub and the counts behind the retirement policy. -/
structure FaultState where
  /-- The hub queue of 1,024 records, oldest first (R625). -/
  queue : List FaultRec := []
  /-- The next sequence number of scope p, 16 for the device scope (R624). -/
  seq : Cells Nat := []
  /-- The phase and address each function's fault ring runs with (R626). -/
  ringPhase : Cells Bool := []
  ringBase : Cells Nat := []
  /-- Correctable counts by 64 KiB page and controller (pageKey): key, count, device time of the last event (R629). -/
  pages : List (Nat × Nat × Nat) := []
  /-- Correctable counts by bank since the window start, and the banks that have fired MEM_CE in it (R629). -/
  bankCe : Cells Nat := []
  bankFired : List Nat := []
  /-- Start of the policy window, device time (R629). -/
  windowStart : Nat := 0
  /-- Uncorrectable words by logical core: core, word, device time (R630). -/
  badWords : List (Nat × Nat × Nat) := []
  /-- Links whose threshold has been reported since their counter was cleared (R631). -/
  linkReported : List Nat := []
  /-- Pages (pageKey), and cores, that policy has asked the firmware to retire or spare (R629, R630). -/
  retireAsked : List Nat := []
  spareAsked : List Nat := []
  deriving DecidableEq, Repr

/-- The event controller beside its registers (R533-R547). -/
structure EvtState where
  setPtr : Cells Nat := []
  arb : Nat := 0
  /-- The target of each source's last delivery: KIND in bits 9:8, function in bits 7:0. -/
  lastTarget : Cells Nat := []
  /-- Sources counted in EVT_HELD and still held (R541). -/
  held : List Nat := []
  jrnlSeq : Nat := 0
  /-- Sources delivered to management cores that the firmware has not handled yet (R542). -/
  mgmt : List Nat := []
  deriving DecidableEq, Repr

/-- A ring pair (R498-R503): its function, its number there, its bases, sizes, indices and phase. -/
structure Ring where
  fn : Nat
  loc : Nat
  /-- The partition whose virtual addresses a ring in device memory uses (R499). -/
  part : Nat := 0
  sqBase : Nat
  cqBase : Nat
  log2 : Nat
  sqDev : Bool := false
  cqDev : Bool := false
  /-- Event source of the function's numbering, none for none (R506, R531). -/
  event : Option Nat := none
  head : Nat := 0
  tail : Nat := 0
  cqTail : Nat := 0
  cqHead : Nat := 0
  phase : Bool := true
  /-- Entries the device has read past the head of a packet that is not whole yet (R501). -/
  partialPkt : List Byte := []
  deriving DecidableEq, Repr

/-- The states of a command: read and not started; started; a long operation's states (R514). -/
inductive CmdState where
  | waiting
  | started
  | queued
  | running
  | suspending
  | suspended
  | resuming
  | cancelling
  | done
  deriving DecidableEq, Repr

/-- A Zennus command from its reading to its completion (R507). -/
structure ZCmd where
  fn : Nat
  /-- Global ring; 0x10000 for the private ring pair of MCTP (R524). -/
  ring : Nat
  opcode : Nat
  quiet : Bool := false
  fence : Bool := false
  part : Nat := 0
  dev : Bool := false
  cmdId : Nat := 0
  utag : Nat := 0
  /-- Its CMD_ID was that of an outstanding command of its function when it was read (R507). -/
  dup : Bool := false
  /-- The whole packet with its extension entries, as bytes. -/
  pkt : List Byte := []
  state : CmdState := .waiting
  /-- Suspended on the module's own account (R517), by the host, and whether it has begun its work. -/
  sys : Bool := false
  hostSusp : Bool := false
  ran : Bool := false
  /-- Counted in ZN_CQ_STALL while held for completion space (R503). -/
  stalled : Bool := false
  progress : Nat := 0
  /-- For a control command that waits: its target (R516). For other waits: what it waits for. -/
  target : Option Nat := none
  /-- Data the command's DMA has fetched (an image to stage, R581). -/
  data : List Byte := []
  /-- The result its work has reached, applied when it is done. -/
  result : Nat := 0
  deriving DecidableEq, Repr

/-- A receive ring of a partition (R513). -/
structure RxRing where
  base : Nat
  log2 : Nat
  entryLog2 : Nat
  prod : Nat
  cons : Nat
  deriving DecidableEq, Repr

/-- The PCI Express configuration state of a function that the manual reads (R494, R539). -/
structure PciFn where
  busMaster : Bool := false
  msixEnable : Bool := false
  msixMask : Bool := false
  deriving DecidableEq, Repr

/-- The Zennus interface beside its registers. -/
structure ZnState where
  rings : Cells Ring := []
  cmds : Cells ZCmd := []
  nextCmd : Nat := 0
  /-- Commands that have started and not completed, in the order in which they started (R502, R515, R516). -/
  order : List Nat := []
  rx : Cells RxRing := []
  pci : Cells PciFn := []
  /-- Log2 of the BAR4 size of the PF and of all VFs, 30 (1 GiB) to 41 (2 TiB) (R494). -/
  bar4Pf : Nat := 30
  bar4Vf : Nat := 30
  /-- Next ring of the start arbiter (R502, R29). -/
  arb : Nat := 0
  /-- MCTP endpoint id and PLDM terminus id; responses sent over MCTP, newest last (R523). -/
  eid : Nat := 0
  tid : Nat := 0
  mctpOut : List (List Byte) := []
  /-- Data of the last BAR4 read (R497); the last configuration request was answered with Retry Status (R519). -/
  bar4Data : List Byte := []
  cfgRetry : Bool := false
  /-- ZN_PREPARE_REMOVE has started and packets of other rings are fenced (R520). -/
  preparing : Bool := false
  linkUp : Bool := false
  deriving DecidableEq, Repr

/-- An open presence window (R557): the waiting command, when it runs out, and its opcode. -/
structure PresWindow where
  cmd : Nat
  opened : Nat
  deadline : Nat
  opcode : Nat
  deriving DecidableEq, Repr

/-- The JTAG instructions of R565. -/
inductive JtagInstr where
  | idcode
  | bypass
  | samplePreload
  | extest
  | dbgport
  deriving DecidableEq, Repr

/-- The security block beside its registers. -/
structure SecState where
  window : Option PresWindow := none
  /-- Revoked key indices, bit per index (R559). -/
  revoked : BitVec 4 := 0#4
  /-- Lifecycle fuses: SECURED reached, RETIRED reached (R550); TAMPER (R558). -/
  fuseSecured : Bool := false
  fuseRetired : Bool := false
  fuseTamper : Bool := false
  /-- A lifecycle scrub has begun and cannot be cancelled (R551). -/
  scrubbing : Bool := false
  jtagInstr : JtagInstr := .idcode
  /-- The data register last shifted out of TDO, and the boundary values driven by EXTEST. -/
  jtagOut : List Bool := []
  boundary : List Bool := []
  extestDriving : Bool := false
  deriving DecidableEq, Repr

/-- Power input, sequencing, temperature and governor beside their registers. -/
structure PwrState where
  pwrEn : Bool := true
  pgOut : Bool := true
  perstLow : Bool := true
  /-- The hot-swap stage conducts (R605, R606). -/
  hotSwap : Bool := true
  /-- Off until PWR_EN goes low and high again (R606, R607). -/
  latchedOff : Bool := false
  /-- Waiting for the input to stand in range for 10 ms (R606, R608). -/
  inputWait : Bool := false
  /-- Held off after a thermal shutdown, since when (R614). -/
  thermalOff : Option Nat := none
  /-- The failing rail that the management firmware has not journalled yet (R607). -/
  rail : Option Nat := none
  /-- Cause that the next cold start records (R596). -/
  nextCause : Nat := 0
  /-- The last 1,000 measurements of the input, newest first: millivolts, units of 10 mA, watts (R615). -/
  samples : List (Nat × Nat × Nat) := []
  /-- Device times of the last measurement, governor decision, temperature sample and step of a thermal hold. -/
  sampleAt : Nat := 0
  govAt : Nat := 0
  thermAt : Nat := 0
  holdAt : Nat := 0
  /-- Since when A10 has stayed below 95 % of the limit, and above the limit at level 5, and whether that has been told (R615, R617). -/
  lowSince : Option Nat := none
  overSince : Option Nat := none
  overTold : Bool := false
  /-- The highest point each sensor has crossed and not fallen 5 degrees below since: 0 none, 1 warning, 2 throttle (R612). -/
  crossed : Cells Nat := []
  /-- Since when every sensor has stood 5 degrees below its throttle point (R613). -/
  coolSince : Option Nat := none
  /-- Since when a sensor has stood at its shutdown point (R614). -/
  hotSince : Option Nat := none
  /-- Compute dies powered (R552, R568). -/
  diesOn : Bool := false
  deriving DecidableEq, Repr

/-- A copy of the configuration store: its sequence number and its records in key order (R589). -/
structure StoreCopy where
  seq : Nat
  records : List (Nat × List Byte)
  deriving DecidableEq, Repr

/-- A change of the store waiting its turn (R590): the records it sets (none removes), and who waits for it. -/
structure StoreChange where
  sets : List (Nat × Option (List Byte))
  owner : Option Nat := none
  /-- Set all owner keys away first (ZN_CFG_FACTORY, R595). -/
  dropOwner : Bool := false
  deriving DecidableEq, Repr

/-- Start-up, flash and configuration store beside the CFG_ registers. -/
structure BootState where
  bank0 : Option StoreCopy := none
  bank1 : Option StoreCopy := none
  /-- Changes in order of arrival, the first one being written (R590). -/
  changes : List StoreChange := []
  /-- Read-backs of the change in progress that failed in a row (R592). -/
  fails : Nat := 0
  /-- Records kept in the firmware's memory while the store is read-only (R592). -/
  volatileRecs : List (Nat × List Byte) := []
  /-- Image bytes of slot 2 * s + (0 A, 1 B) (R578, R579). -/
  image : Cells (List Byte) := []
  /-- Subsystems whose activation waits for its first start, with the waiting command (R582, R488). -/
  firstStart : List (Nat × Option Nat) := []
  /-- The version of the built-in tables that the next core reset loads (R158); none before a VECTOR image runs. -/
  tableStore : Option Word := none
  /-- A warm reset has been asked for, with its cause (R596). -/
  warmAsked : Option Nat := none
  /-- DEVICE_FAULT is to fire once READY is set (R585). -/
  faultAtReady : Bool := false
  /-- Subsystems that run an image. -/
  runningFw : List Nat := []
  /-- A cold or warm start is in progress; whether it is a warm one (R583, R596). -/
  starting : Bool := true
  warm : Bool := false
  startedAt : Nat := 0
  /-- Chiplets still zeroing after READY (R583). -/
  zeroing : List Nat := []
  /-- Service journal of the management cores (R578, R607): codes, newest last. -/
  journal : List Nat := []
  deriving DecidableEq, Repr

end Machine
end Sys2Proof
end

