-- ==== Sys2Proof/Machine/NetState.lean ====
section
/-!
DEFINITION. The state of the reduction sequencer (R362-R404), of the Aqueduct transport (R405-R444), of the update sequencer (R453-R467), and of what the memory
controllers watch for the hub: doorbell codewords (R368, R423, R456), held and dirty pages (R475, R476).
-/
namespace Sys2Proof
namespace Machine

/-! ## At the memory controllers -/

/-- A codeword that a unit of the hub watches: 0 reduction (fill records), 1 transport, 2 update sequencer. -/
structure Watch where
  unit : Nat
  cw : Nat
  deriving DecidableEq, Repr

/-- A write of a watched codeword that has reached its controller, with the codeword as it then stood. -/
structure Seen where
  unit : Nat
  cw : Nat
  bytes : List Byte
  deriving DecidableEq, Repr

/-- A page that a slice has still to copy (R475): its 64 KiB page number, the page it goes to, and whose slice it is. -/
structure HeldPage where
  page : Nat
  dst : Nat
  part : Nat
  deriving DecidableEq, Repr

/-! ## Checkpoint slices, sparing and service (R471-R492) -/

/-- A running slice (R473-R478): its plan, stroke and capture time, its target slot with the physical page of that slot's header, what its
header says, the plan indices of its page set, its dirty maps, its mirror (flow and buddy slot), and the command behind it. -/
structure Slice where
  plan : Nat
  stroke : Nat
  time : Nat
  target : Nat
  head : Nat
  seq : Nat
  np : Nat
  info : Nat
  pages : List Nat
  incr : Bool
  dmap : Nat
  mirror : Option (Nat × Nat)
  owner : Nat
  /-- The mirror's last WRITE, the VALID header, has been handed to the transport. -/
  sent : Bool := false
  deriving DecidableEq, Repr

/-- A sparing move that waits for its core to be quiescent (R484, R485): the command behind it, whether the old slot can be read, the strokes
without enough room, and the stroke counted last. -/
structure SpareMove where
  core : Nat
  owner : Option Nat := none
  readable : Bool := true
  waits : Nat := 0
  lastStroke : Option Nat := none
  deriving DecidableEq, Repr

/-- The service units beside their registers. -/
structure SvcState where
  /-- The slice of each partition that has one. -/
  ckpt : Cells Slice := []
  /-- Headers that a restore has fetched from a buddy: 2 * partition + slot. -/
  headers : Cells (List Byte) := []
  spare : List SpareMove := []
  /-- Commands whose enable is held (R490), or that wait for an enable or a disable to finish: kind (0 die, 1 chiplet, 2 partition), index,
  whether it is a held enable, the command. -/
  waiters : List (Nat × Nat × Bool × Nat) := []
  /-- Retired pages, by 64 KiB page number, and the spare each uses (R486); retired granules. -/
  remap : Cells Nat := []
  granules : List Nat := []
  deriving DecidableEq, Repr

/-! ## Reduction -/

/-- What one side of a slot holds for a piece (R376): arrived ABSENT, declared missing, or arrived, its header kept. -/
inductive Side where
  | absent
  | missing
  | present (hdr : List Byte)
  deriving DecidableEq, Repr

/-- A leaf waits for its fill record, has sent its pieces, or has sent them as ABSENT (R368, R370, R641). -/
inductive LeafState where
  | armed
  | sent
  | absent
  deriving DecidableEq, Repr

/-- A leaf of a bucket on this device (R401); `parent` is the rank-table entry of its parent, `cw` the codeword of its fill
record where that lies in DRAM. -/
structure RedLeaf where
  num : Nat
  src : Nat
  fill : Nat
  parent : Nat
  pslot : Nat
  cw : Option Nat
  state : LeafState := .armed
  deriving DecidableEq, Repr

/-- A pair slot of a bucket on this device (R401), its sides by piece, and the pieces it has forwarded. -/
structure RedSlot where
  num : Nat
  height : Nat
  buf : Nat
  llo : Nat
  mid : Nat
  rhi : Nat
  parent : Nat
  pslot : Nat
  left : Cells Side := []
  right : Cells Side := []
  sent : Nat := 0
  deriving DecidableEq, Repr

/-- The owner of a bucket (R393): its areas, the contributor mask, and the headers that have arrived by piece. -/
structure RedOwner where
  core : Nat
  sem : Nat
  res : Nat
  hdr : Nat
  maskAt : Nat
  mask : Nat
  got : Cells (List Byte) := []
  done : Bool := false
  deriving DecidableEq, Repr

/-- An open bucket (R366, R367): one of the 4,096 contexts. -/
structure Bucket where
  part : Nat
  tag : Nat
  stroke : Nat
  window : Nat
  elems : Nat
  xfmt : Nat
  sfmt : Nat
  agreed : Nat
  scales : List Byte := []
  nleaf : Nat
  leaves : List RedLeaf := []
  slots : List RedSlot := []
  owner : Option RedOwner := none
  /-- The ranks that the rank table marked DOWN when the bucket opened (R399). -/
  down : List Nat := []
  /-- Physical 64 KiB page by virtual 64 KiB page, as translated at the open (R367). -/
  pages : Cells Nat := []
  /-- When its sluice came, or RED_CTL.SETTLE took its place (R385, R392). -/
  settledAt : Option Nat := none
  deriving DecidableEq, Repr

/-- A reduction message on its way over the die links of this device (R383, R384): a piece or a settle record, the node that sent
it (0x10000 + slot number, or the leaf number), and the DEST it goes to. -/
structure RedMsg where
  part : Nat
  sender : Nat
  dest : Nat
  piece : Bool
  bytes : List Byte
  deriving DecidableEq, Repr

structure RedState where
  buckets : List Bucket := []
  net : List RedMsg := []
  /-- Fill records disarmed in this stroke by ABSENT pieces: partition and codeword (R641). -/
  stale : List (Nat × Nat) := []
  deriving DecidableEq, Repr

/-! ## Aqueduct -/

/-- A key slot (R439, R440): key, salt, the next TSN, and the last TSN of a CTRL packet accepted under it. -/
structure AqKey where
  key : Nat
  salt : Nat
  tsn : Nat := 1
  ctrlTsn : Nat := 0
  deriving DecidableEq, Repr

/-- A data packet beside its PSN (R412). -/
structure AqData where
  op : Nat
  flags : Nat
  stroke : Nat
  msn : Nat
  addr : Nat
  moff : Nat
  oparg : Nat
  payload : List Byte := []
  deriving DecidableEq, Repr

/-- A data packet that has been sent and is not acknowledged: when it was last sent, none while a retransmission waits for a port;
how often it has been sent. -/
structure TxPkt where
  psn : Nat
  data : AqData
  sentAt : Option Nat
  sends : Nat := 1
  /-- Later PSNs acknowledged since it was last sent (R434). -/
  passed : Nat := 0
  deriving DecidableEq, Repr

/-- Whose message it is (R422, R426, R478, R481): a work descriptor's, with its completion record and signal; the
reduction sequencer's; a checkpoint mirror's of a partition; a restore's, for a page or for the header of a slot. -/
inductive AqOwner where
  | desc (comp : Nat) (signal : Option (Nat × Nat))
  | reduction
  | mirror (part : Nat)
  | restore (part : Nat)
  | header (part slot : Nat)
  | response
  deriving DecidableEq, Repr

/-- A message that is not complete: the packets still to be sent as (offset, bytes). -/
structure TxMsg where
  owner : AqOwner
  op : Nat
  untimed : Bool
  stroke : Nat
  addr : Nat
  oparg : Nat
  msn : Option Nat := none
  rest : List (Nat × List Byte) := []
  /-- Where the response of a READ or an ATOMIC goes, its length, and the bytes of it that have come. -/
  laddr : Nat := 0
  want : Nat := 0
  got : Nat := 0
  deriving DecidableEq, Repr

/-- A range of abandoned PSNs that the receiver is still to be told of, and when it was last told (R438). -/
structure AqSkip where
  lo : Nat
  hi : Nat
  sentAt : Option Nat
  deriving DecidableEq, Repr

/-- OPENING, OPEN, CLOSING, BROKEN (R417); a FREE context has no record. -/
inductive FlowPhase where
  | opening
  | live
  | closing
  | broken
  deriving DecidableEq, Repr

/-- A packet accepted and not yet handled (R428): its kind, the fields of bytes 8-39, and its payload. -/
structure RxPkt where
  kind : Nat
  op : Nat
  flags : Nat
  mid : List Byte
  payload : List Byte := []
  deriving DecidableEq, Repr

/-- A flow context (R417-R440). -/
structure Flow where
  part : Nat
  gen : Nat
  phase : FlowPhase := .opening
  ipv6 : Bool := false
  src : Nat
  remote : Nat
  rflow : Nat
  enc : Bool := false
  key0 : Option AqKey := none
  key1 : Option AqKey := none
  keyid : Bool := false
  /-- When it was allocated, or began to close; its last HELLO. -/
  since : Nat := 0
  helloAt : Nat := 0
  owner : Option Nat := none
  /-- The values its HELLO carries. -/
  iniPsn : Nat := 0
  iniMsn : Nat := 0
  peer : Bool := false
  acked : Bool := false
  closeSent : Bool := false
  lastPort : Nat := 7
  path : Nat := 0
  nextPsn : Nat := 0
  nextMsn : Nat := 0
  msgs : List TxMsg := []
  inflight : List TxPkt := []
  skips : List AqSkip := []
  /-- Bits per second, and when an ACK with CE last cut it and came (R435). -/
  rate : Nat := 0
  cutAt : Option Nat := none
  ceAt : Option Nat := none
  /-- Receiver: CUM, the PSNs received above it, MCUM, the LAST packets not yet accounted as (PSN, MSN), what waits to be handled. -/
  cum : Nat := 0
  above : List Nat := []
  mcum : Nat := 0
  lasts : List (Nat × Nat) := []
  inbox : List RxPkt := []
  ce : Nat := 0
  unacked : Nat := 0
  firstUnacked : Option Nat := none
  mstats : List (Nat × Nat × Nat) := []
  deriving DecidableEq, Repr

/-- An armed work queue of a partition (R422-R424): entry, ring base, log2 size, doorbell codeword, C and L. `unit` is 1 for the
transport and 2 for the update sequencer. -/
structure WorkQueue where
  unit : Nat
  part : Nat
  entry : Nat
  ring : Nat
  log2 : Nat
  cw : Nat
  cons : Nat := 0
  last : Nat := 0
  deriving DecidableEq, Repr

/-- A descriptor that has been taken: its queue's entry, the stroke of its doorbell, its bytes. -/
structure Taken where
  part : Nat
  entry : Nat
  stroke : Nat
  bytes : List Byte
  deriving DecidableEq, Repr

/-- A frame waiting in a port's transmit queue, with its priority. -/
structure TxFrame where
  port : Nat
  prio : Nat
  bytes : List Byte
  deriving DecidableEq, Repr

/-- An Ethernet port beside its registers (R407, R441-R443). -/
structure Port where
  /-- Until when each priority is paused. -/
  paused : Cells Nat := []
  /-- The Zennus commands that wait: for a readmission, for a recalibration. -/
  waiters : List Nat := []
  recalWaiters : List Nat := []
  /-- Answers to ARP requests and Neighbor Solicitations in a second of device time (R406). -/
  answered : Nat := 0
  answeredIn : Nat := 0
  deriving DecidableEq, Repr

structure AqState where
  flows : Cells Flow := []
  /-- The generation of every number that has ever been allocated (R417). -/
  gens : Cells Nat := []
  /-- Armed queues, of the transport and of the update sequencer. -/
  queues : List WorkQueue := []
  taken : List Taken := []
  /-- Partitions whose PEN write is held until their drain ends, and the commands that wait for it (R422). -/
  heldEnable : List Nat := []
  enableWaiters : List (Nat × Nat) := []
  ports : List Port := List.replicate 8 {}
  /-- Frames in the transmit queues, oldest first. -/
  txq : List TxFrame := []
  /-- Partitions whose mirror or restore messages have failed, with the status (R478). -/
  failed : Cells Nat := []
  /-- PFC has paused the senders of data (R407). -/
  xoff : Bool := false
  deriving DecidableEq, Repr

/-! ## The update sequencer -/

/-- A descriptor that the update sequencer has taken (R456): its place in the order of taking, its partition and queue, the stroke
of its doorbell, its bytes; once begun its coefficient row, its t1, and the chiplet whose engine it is handed to. -/
structure UpdDesc where
  id : Nat
  part : Nat
  queue : Nat
  stroke : Nat
  bytes : List Byte
  row : Option (List Byte) := none
  t1 : Nat := 0
  chiplet : Option Nat := none
  running : Bool := false
  deriving DecidableEq, Repr

/-- A group-set command that waits for a descriptor of its group (R467). -/
structure UpdSet where
  part : Nat
  group : Nat
  setStep : Bool
  clearTorn : Bool
  step : Nat
  owner : Option Nat
  deriving DecidableEq, Repr

structure UpdState where
  next : Nat := 0
  /-- Descriptors taken and not completed, in the order they were taken. -/
  taken : List UpdDesc := []
  /-- Those handed to a cistern engine, in that order. -/
  handed : List Nat := []
  /-- The rotating pointer of each partition's queues (R29). -/
  ptr : Cells Nat := []
  /-- Groups whose OPEN is set: partition, group, OSTROKE (R454); and those to be judged when their last descriptor completes (R455). -/
  opened : List (Nat × Nat × Nat) := []
  judge : List (Nat × Nat) := []
  sets : List UpdSet := []
  /-- Zennus commands that wait for a held enable: partition, command. -/
  waiters : List (Nat × Nat) := []
  deriving DecidableEq, Repr

end Machine
end Sys2Proof
end

