-- ==== Sys2Proof/Machine/TimeState.lean ====
section
/-!
DEFINITION. The state of the device time unit (R333-R343) and of the stroke schedules (R344-R359) beside their registers.
-/
namespace Sys2Proof
namespace Machine

/-- The dataset of an Announce message that the best master clock algorithm compares (R339), and who sent it. -/
structure PtpMaster where
  priority1 : Nat
  clockClass : Nat
  accuracy : Nat
  variance : Nat
  priority2 : Nat
  identity : Nat
  steps : Nat
  sender : Nat
  deriving DecidableEq, Repr

/-- A two-step Sync that waits for its Follow_Up: sequence, time of reception, correction (R339). -/
structure PtpPending where
  seq : Nat
  rx : Nat
  corr : Int
  deriving DecidableEq, Repr

/-- The device time unit beside its registers. Times and offsets are in units of 2^-16 ns. -/
structure TimState where
  /-- The PTP configuration in force; the register may hold one that waits for the next Sync interval (R361). -/
  cfg : Word := 0x0000FF00#32
  /-- Device time has been locked to a source since the cold reset (R336). -/
  lockedOnce : Bool := false
  /-- Consecutive measurements within 40 ns (R341). -/
  inBound : Nat := 0
  /-- When the last valid Sync or PPS edge came. -/
  lastEdge : Nat := 0
  master : Option PtpMaster := none
  sync : Option PtpPending := none
  /-- Departure at the master, and arrival here, of the last Sync with its correction taken off. -/
  t1 : Int := 0
  t2 : Int := 0
  /-- The outstanding Delay_Req: sequence and time of departure. -/
  delayReq : Option (Nat × Nat) := none
  delaySeq : Nat := 0
  pathDelay : Int := 0
  /-- Remainder of the rate adjustment, in units of 2^-16 ns / 10^9. -/
  rest : Nat := 0
  /-- Remainder of the length of a core cycle, in 1/21 of 2^-16 ns (R566). -/
  rest21 : Nat := 0
  deriving DecidableEq, Repr

/-- A stroke schedule beside its STK_ registers, which hold its shadow, T0, FIRST, state and counts. -/
structure Stroke where
  /-- The active copy of the registers that VIEW selects, by block offset (R360). -/
  active : Cells Word := []
  /-- Strokes from FIRST to the next stroke start, and to the current stroke, not reduced (R346). -/
  next : Nat := 0
  cur : Nat := 0
  /-- The current stroke was begun, not skipped (R358). -/
  begun : Bool := false
  /-- Phase entries of the current stroke that have fired. -/
  fired : List Nat := []
  /-- The slice plan a CHECKPOINT entry of this stroke has asked for (R347, R355). -/
  ckpt : Option Nat := none
  /-- When the sluice closed, while its drain lasts (R354). -/
  draining : Option Nat := none
  /-- A sparing move that found no room has gone on: the next stroke is skipped (R485). -/
  blocked : Bool := false
  deriving DecidableEq, Repr

end Machine
end Sys2Proof
end

