-- ==== Sys2Proof/Machine/Device.lean ====
section
/-!
DEFINITION. The whole device as plain data: device time and cycle count, the register file, the 128 logical cores, the
memories behind the device addresses with their check state, cluster caches, granule ownership, host memory as the device
has written it, and the units of the hub.
-/
namespace Sys2Proof
namespace Machine

/-- A line of a cluster cache (R272-R274): its line number (address / 128), the bytes it holds and their mask, the bytes
written since (dirty), and whether its fill was uncorrectable (R285). By 64-byte half, `bad` tells which codewords the fill found
uncorrectable, and `mark` which hold the poison mark of R331. -/
structure CacheLine where
  line : Nat
  held : BitVec 128 := 0#128
  dirty : BitVec 128 := 0#128
  data : Cells Byte := []
  poisoned : Bool := false
  bad : BitVec 2 := 0#2
  mark : BitVec 2 := 0#2
  deriving DecidableEq, Repr

/-- A cluster cache, most recently used line first (R275), and the second-level translation cache of the cluster (R264). -/
structure Cluster where
  lines : List CacheLine := []
  tlb : List TlbEntry := []
  deriving DecidableEq, Repr

/-- The device. -/
structure Device where
  /-- Device time in units of 2^-16 ns (R333): ((SEC * 10^9) + NS) * 2^16 + FRAC. -/
  now : Nat := 0
  /-- Core cycles since the cold reset (R14, R334). -/
  cycles : Nat := 0
  regs : Cells Word := []
  cores : List Core := List.replicate 128 Core.reset
  /-- HBM and cistern bytes by physical address (R257). -/
  mem : Cells Byte := []
  /-- Poisoned 64-byte codewords of HBM and cistern, by address / 64 (R287, R288). -/
  poison : Cells Bool := []
  /-- Codewords with 1 to 4 erroneous symbols that the next read corrects (R287). -/
  symErr : Cells Nat := []
  /-- Owner partition of each 2 MiB granule of HBM and cistern, by address / 2 MiB (R262). -/
  granules : Cells Nat := []
  clusters : List Cluster := List.replicate 16 {}
  /-- Global clusters of partition p as a mask (R571). -/
  partMask : Cells (BitVec 16) := []
  /-- Remote semaphore increments in flight, oldest first (R236). -/
  increments : List Increment := []
  /-- Barriers: 16 * g + b of cluster g, 256 + 16 * p + b of partition p (R237). -/
  barriers : Cells Barrier := []
  /-- Host memory as the device has written it: completions, fault and trace records, messages, buffers. -/
  hostMem : Cells Byte := []
  /-- Codewords watched for the hub, and the writes of them that have arrived, oldest first (R368, R423, R456). -/
  watches : List Watch := []
  seen : List Seen := []
  /-- Pages whose writes a slice holds, and the dirty bit of each 64 KiB page (R475, R476). -/
  heldPages : List HeldPage := []
  dirty : Cells Bool := []
  red : RedState := {}
  aq : AqState := {}
  upd : UpdState := {}
  svc : SvcState := {}
  tim : TimState := {}
  /-- Schedules by partition. -/
  strokes : Cells Stroke := []
  fault : FaultState := {}
  evt : EvtState := {}
  zn : ZnState := {}
  sec : SecState := {}
  pwr : PwrState := {}
  boot : BootState := {}
  /-- THE MODEL'S OWN field, not the manual's: how many free values have been used; each use takes the opaque constants of
  Config at this count and advances it. -/
  free : Nat := 0
  deriving DecidableEq, Repr

end Machine
end Sys2Proof
end

