-- ==== Sys2Proof/Machine/Ops.lean ====
section
/-!
DEFINITION. The named operations over the device: registers and counters, cores and partitions, the physical address map
and its memories, fault records, the firing of event sources, semaphores, and the free values.
-/
namespace Sys2Proof
namespace Machine

/-! ## Registers (R9-R12) -/

/-- The value of a register: the listed one, or its reset value. -/
def Device.reg (d : Device) (k : Nat) : Word := Cells.get (Reg.reset k) d.regs k

/-- Sets a register. -/
def Device.setReg (d : Device) (k : Nat) (v : Word) : Device :=
  { d with regs := Cells.set (Reg.reset k) d.regs k v }

/-- Field hi:lo of a register. -/
def Device.fld (d : Device) (k hi lo : Nat) : Nat := bits (d.reg k).toNat hi lo

/-- Bit i of a register. -/
def Device.flag (d : Device) (k i : Nat) : Bool := (d.reg k).toNat.testBit i

/-- Sets field hi:lo of a register. -/
def Device.setFld (d : Device) (k hi lo v : Nat) : Device :=
  d.setReg k (BitVec.ofNat 32 (setBits (d.reg k).toNat hi lo v))

/-- Sets or clears bit i of a register. -/
def Device.setFlag (d : Device) (k i : Nat) (b : Bool) : Device := d.setFld k i i (if b then 1 else 0)

/-- A running count that stops at all ones and does not wrap. -/
def Device.bump (d : Device) (k n : Nat) : Device :=
  if n = 0 then d else d.setReg k (BitVec.ofNat 32 (min 0xFFFFFFFF ((d.reg k).toNat + n)))

/-- The 64-bit quantity in two adjacent registers, least significant word first (R9). -/
def Device.reg64 (d : Device) (lo : Nat) : Nat := (d.reg lo).toNat + 0x100000000 * (d.reg (lo + 4)).toNat

/-- Sets a 64-bit quantity in two adjacent registers. -/
def Device.setReg64 (d : Device) (lo v : Nat) : Device :=
  (d.setReg lo (BitVec.ofNat 32 v)).setReg (lo + 4) (BitVec.ofNat 32 (v / 0x100000000))

/-- A 64-bit running count that stops at all ones and does not wrap. -/
def Device.bump64 (d : Device) (lo n : Nat) : Device :=
  if n = 0 then d else d.setReg64 lo (min 0xFFFFFFFFFFFFFFFF (d.reg64 lo + n))

/-- A LASTTAG register: VALID and the command's tag. -/
def Device.noteTag (d : Device) (k tag : Nat) : Device := d.setReg k (BitVec.ofNat 32 (0x80000000 + tag % 0x1000000))

/-- A 16-bit error count in the high (UE) or low (CE) half of a register, stopping at 0xFFFF (R628). -/
def Device.bump16 (d : Device) (k : Nat) (high : Bool) (n : Nat) : Device :=
  if high then d.setFld k 31 16 (min 0xFFFF (d.fld k 31 16 + n)) else d.setFld k 15 0 (min 0xFFFF (d.fld k 15 0 + n))

/-! ## Free values -/

/-- Counts one use of a free value. -/
def Device.useFree (d : Device) : Device := { d with free := d.free + 1 }

/-! ## Cores, clusters and partitions -/

/-- The state of logical core c (R16). -/
def Device.core (d : Device) (c : Nat) : Core := d.cores.getD c Core.reset

/-- Replaces the state of logical core c. -/
def Device.setCore (d : Device) (c : Nat) (k : Core) : Device := { d with cores := d.cores.set c k }

/-- Changes the state of logical core c. -/
def Device.modCore (d : Device) (c : Nat) (f : Core → Core) : Device := d.setCore c (f (d.core c))

/-- Cluster state. -/
def Device.cluster (d : Device) (g : Nat) : Cluster := d.clusters.getD g {}

def Device.setCluster (d : Device) (g : Nat) (k : Cluster) : Device := { d with clusters := d.clusters.set g k }

/-- The global clusters of partition p (R571). -/
def Device.clustersOf (d : Device) (p : Nat) : BitVec 16 := Cells.get 0#16 d.partMask p

/-- The partition a global cluster belongs to. -/
def Device.partOfCluster (d : Device) (g : Nat) : Option Nat :=
  (List.range 16).find? (fun p => (d.clustersOf p).toNat.testBit g)

/-- The partition of a logical core. -/
def Device.partOf (d : Device) (c : Nat) : Option Nat := d.partOfCluster (c / 8)

/-- The partition number a record names: 0xFF for none. -/
def Device.partNum (d : Device) (c : Nat) : Nat := (d.partOf c).getD 0xFF

/-- The partition a function is bound to, none for the PF or an unbound VF (R493, R525). -/
def Device.boundPart (d : Device) (fn : Nat) : Option Nat :=
  if fn ≠ 0 ∧ d.flag (Reg.ZN_STATUS fn) 15 then some (d.fld (Reg.ZN_STATUS fn) 11 8) else none

/-- The logical cores of partition p, ascending. -/
def Device.coresOf (d : Device) (p : Nat) : List Nat :=
  (List.range 128).filter (fun c => (d.clustersOf p).toNat.testBit (c / 8))

/-- Whether logical core c has a physical slot (R20): its HUB_SLOTMAP nibble is not 0xF. -/
def Device.hasSlot (d : Device) (c : Nat) : Bool :=
  decide (d.fld (Reg.HUB_SLOTMAP (c / 8)) (4 * (c % 8) + 3) (4 * (c % 8)) ≠ 0xF)

/-- The number of the stroke partition p is in (R220, R346). -/
def Device.strokeOf (d : Device) (p : Nat) : Nat := (d.reg (Reg.STK_NUM p)).toNat

/-- The stroke number a push of core c stamps (R220); 0 in no partition. -/
def Device.coreStroke (d : Device) (c : Nat) : Nat :=
  match d.partOf c with
  | some p => d.strokeOf p
  | none => 0

/-! ## Device time (R333) -/

/-- Units of device time in a nanosecond and in a second. -/
def nsUnit : Nat := 0x10000
def secUnit : Nat := 1000000000 * 0x10000

/-- The 96-bit layout of a device time (R333): SEC, NS, FRAC. -/
def timeLayout (t : Nat) : Nat :=
  (t / secUnit % 2 ^ 48) * 2 ^ 48 + (t / nsUnit % 1000000000) * 0x10000 + t % 0x10000

/-- The device time a 96-bit layout names. -/
def timeOfLayout (x : Nat) : Nat := (x / 2 ^ 48) * secUnit + (x / 0x10000 % 0x100000000) * nsUnit + x % 0x10000

/-- Seconds mod 2^32 in bits 63:32 and nanoseconds in bits 31:0 (R214, R636). -/
def timeShort (t : Nat) : Nat := (t / secUnit % 0x100000000) * 0x100000000 + t / nsUnit % 1000000000

/-! ## The event controller: firing a source (R534) -/

/-- The state of source n: 0 INACTIVE, 1 PENDING, 2 ACTIVE, 3 ACTIVE_PENDING. -/
def Device.evtState (d : Device) (n : Nat) : Nat := d.fld (Reg.EVT_SRC n) 30 29

/-- A source fires (R534). -/
def Device.fire (d : Device) (n : Nat) : Device :=
  match d.evtState n with
  | 0 => d.setFld (Reg.EVT_SRC n) 30 29 1
  | 2 => d.setFld (Reg.EVT_SRC n) 30 29 3
  | _ => d.bump Reg.EVT_COALESCED 1

/-- A completion reaches a source (R534). -/
def Device.evtComplete (d : Device) (n : Nat) : Device :=
  match d.evtState n with
  | 2 => d.setFld (Reg.EVT_SRC n) 30 29 0
  | 3 => d.setFld (Reg.EVT_SRC n) 30 29 1
  | _ => d.bump Reg.EVT_STRAY 1

/-- Fires source j of partition p (R528). -/
def Device.firePart (d : Device) (p j : Nat) : Device := d.fire (0x100 + 16 * p + j)

/-- The device sources by name (R527). -/
def Evt.ADMIN_CQ : Nat := 0x000
def Evt.TIME_STATE : Nat := 0x001
def Evt.THERMAL : Nat := 0x002
def Evt.POWER : Nat := 0x003
def Evt.SECURITY : Nat := 0x004
def Evt.TAMPER : Nat := 0x005
def Evt.PRESENCE : Nat := 0x006
def Evt.LIFECYCLE : Nat := 0x007
def Evt.FIRMWARE : Nat := 0x008
def Evt.GRANULE : Nat := 0x009
def Evt.PAGE_RETIRED : Nat := 0x00A
def Evt.MEM_CE : Nat := 0x00B
def Evt.MEM_UE : Nat := 0x00C
def Evt.CORE_SPARED : Nat := 0x00D
def Evt.SERVICE : Nat := 0x00E
def Evt.LINK : Nat := 0x00F
def Evt.PORT (i : Nat) : Nat := 0x010 + i
def Evt.DEVICE_FAULT : Nat := 0x018

/-! ## Status codes (R518) -/

def St.OK : Nat := 0x0000
def St.BAD_OPCODE : Nat := 0x0001
def St.BAD_FIELD : Nat := 0x0010
def St.BAD_FORMAT : Nat := 0x0011
def St.BAD_RANGE : Nat := 0x0012
def St.OVERLAP : Nat := 0x0013
def St.ACCESS_DENIED : Nat := 0x0014
def St.PAGE_FAULT : Nat := 0x0015
def St.NOT_PERMITTED : Nat := 0x0016
def St.DUP_ID : Nat := 0x0017
def St.NOT_FOUND : Nat := 0x0018
def St.BAD_STATE : Nat := 0x0019
def St.OP_FINISHED : Nat := 0x001A
def St.CANCELLED : Nat := 0x0020
def St.UNCORRECTABLE : Nat := 0x0021
def St.CORE_UNAVAILABLE : Nat := 0x0022
def St.REPLAY_MISSED : Nat := 0x0023
def St.BUSY_ACTIVE_BANK : Nat := 0x0024
def St.SEM_OVERFLOW : Nat := 0x0025
def St.BARRIER_MISMATCH : Nat := 0x0026
def St.STROKE_SKIPPED : Nat := 0x0027
def St.ANCHOR_MISMATCH : Nat := 0x0030
def St.WINDOW_OVERFLOW : Nat := 0x0031
def St.TABLE_EMPTY : Nat := 0x0032
def St.TABLE_SEAM : Nat := 0x0033
def St.TIER_OFFLINE : Nat := 0x0040
def St.TIER_IN_USE : Nat := 0x0041
def St.PLAN_CONFLICT : Nat := 0x0050
def St.BUCKET_TABLE_FULL : Nat := 0x0051
def St.STEP_SKEW : Nat := 0x0052
def St.FROZEN_SKIPPED : Nat := 0x0053
def St.FLOW_TABLE_FULL : Nat := 0x0060
def St.FLOW_BROKEN : Nat := 0x0061
def St.FLOW_CLOSED : Nat := 0x0062
def St.RING_FULL : Nat := 0x0063
def St.RING_TABLE_FULL : Nat := 0x0070
def St.RING_QUOTA : Nat := 0x0071
def St.FENCED : Nat := 0x0072
def St.ENABLE_DEFERRED : Nat := 0x0080
def St.NO_SPARE : Nat := 0x0081
def St.CKPT_BUSY : Nat := 0x0082
def St.NO_CHECKPOINT : Nat := 0x0083
def St.FW_FALLBACK : Nat := 0x0084
def St.FW_AUTH : Nat := 0x0085
def St.FW_ROLLBACK : Nat := 0x0086
def St.PRESENCE_TIMEOUT : Nat := 0x0090
def St.RETIRED : Nat := 0x0091

/-! ## Fault records (R620-R625) -/

/-- Whether two records merge (R623). -/
def FaultRec.sameAs (a b : FaultRec) : Bool :=
  a.source == b.source && a.core == b.core && a.part == b.part && a.status == b.status && a.stroke == b.stroke

/-- Adds a record's occurrences to the first waiting record it merges into (R623). -/
def mergeFault (r : FaultRec) : List FaultRec → Option (List FaultRec)
  | [] => none
  | q :: qs =>
    if q.sameAs r then some ({ q with count := q.count + r.count } :: qs)
    else (mergeFault r qs).map (q :: ·)

/-- The scope that numbers a record: its partition, or 16 for the device (R624). -/
def FaultRec.scope (r : FaultRec) : Nat := if r.part < 16 then r.part else 16

/-- A unit writes a fault record: stamped with device time, merged under R623, numbered under R624, queued or lost under
R625. A lost record takes no number. -/
def Device.raise (d : Device) (r : FaultRec) : Device :=
  match mergeFault r d.fault.queue with
  | some q => { d with fault := { d.fault with queue := q } }
  | none =>
    if d.fault.queue.length ≥ 1024 then d.bump Reg.HUB_FAULT_LOST r.count
    else
      let n := Cells.get 0 d.fault.seq r.scope
      { d with fault := { d.fault with
          queue := d.fault.queue ++ [{ r with time := d.now, seq := n }]
          seq := Cells.put d.fault.seq r.scope ((n + 1) % 0x100000000) } }

/-- A record of a partition, or of device scope where there is none: STROKE is the partition's (R621). -/
def Device.raisePart (d : Device) (p : Option Nat) (r : FaultRec) : Device :=
  match p with
  | some p => d.raise { r with part := p, stroke := d.strokeOf p }
  | none => d.raise { r with part := 0xFF, stroke := 0 }

/-! ## Semaphores (R224-R231) -/

/-- The value of semaphore n of core c. -/
def Core.semVal (k : Core) (n : Nat) : Nat := Cells.get 0 k.sem n

def Core.setSem (k : Core) (n v : Nat) : Core := { k with sem := Cells.set 0 k.sem n v }

/-- An increment of semaphore n of core c: clipped at 65,535 with a record of R231 that names the semaphore's core, the
signaller (core, or 0xFF for the event controller) and the port. -/
def Device.semAdd (d : Device) (c n amount : Nat) (tag : Option Nat) (signaller port : Nat) : Device :=
  let v := (d.core c).semVal n + amount
  if v ≤ 65535 then d.modCore c (fun k => k.setSem n v)
  else
    (d.modCore c (fun k => k.setSem n 65535)).raise
      { status := St.SEM_OVERFLOW, source := 6, core := c, part := d.partNum c, index := n, tag := tag.getD 0,
        tagValid := tag.isSome, stroke := d.coreStroke c, detail := signaller * 256 + port }

/-! ## The physical address map (R257-R259) -/

/-- What a physical address reaches. -/
inductive Region where
  | hbm
  | cistern (chiplet : Nat)
  | window (core off : Nat)
  | hole
  deriving DecidableEq, Repr

/-- The map of R257, with the windows of R255: the upper 8 MiB of a window are a hole. -/
def regionOf (a : Nat) : Region :=
  if a < 0x006000000000 then .hbm
  else if a < 0x010000000000 then .hole
  else if a < 0x018000000000 then .cistern 0
  else if a < 0x020000000000 then .cistern 1
  else if a < 0x080000000000 then .hole
  else if a < 0x080080000000 then
    let o := (a - 0x080000000000) % 0x1000000
    if o < 0x800000 then .window ((a - 0x080000000000) / 0x1000000) o else .hole
  else .hole

/-- The HBM bank of an address (R258, R628): 1,024 * stack + 32 * channel + 16 * pseudo-channel + bank. -/
def hbmBank (a : Nat) : Nat :=
  let die := a / 0x1800000000
  let o := a % 0x1800000000
  let stack := 2 * die + bits o 12 12
  1024 * stack + 32 * (bits o 11 7 ^^^ bits o 24 20) + 16 * bits o 6 6 + (bits o 16 13 ^^^ bits o 28 25)

/-- The cistern bank of an address within its chiplet (R643): 16 * channel + bank. -/
def cisBank (a : Nat) : Nat :=
  let o := a % 0x8000000000
  16 * (bits o 13 9 ^^^ bits o 27 23) + (bits o 17 14 ^^^ bits o 31 28)

/-- The DRAM bank a request to an address waits on, HBM banks first, then 512 per chiplet (R295). -/
def dramBank (a : Nat) : Option Nat :=
  match regionOf a with
  | .hbm => some (hbmBank a)
  | .cistern c => some (8192 + 512 * c + cisBank a)
  | _ => none

/-- The 2 MiB granule of an address (R262). -/
def granule (a : Nat) : Nat := a / 0x200000

/-- A cistern chiplet is in service (R259). -/
def Device.cisOnline (d : Device) (c : Nat) : Bool := d.flag Reg.HUB_CAPS (12 + c)

/-! ## HBM and cistern DRAM (R287-R291) -/

/-- Whether the 64-byte codeword of an address reads uncorrectable. -/
def Device.isPoisoned (d : Device) (a : Nat) : Bool := Cells.get false d.poison (a / 64)

/-- Marks or clears the codeword with a number. -/
def Device.setPoison (d : Device) (cw : Nat) (b : Bool) : Device := { d with poison := Cells.set false d.poison cw b }

/-- n bytes of DRAM from an address. -/
def Device.memBytes (d : Device) (a n : Nat) : List Byte := Cells.getRange 0#8 d.mem a n

/-- Whether any of n codewords from cw on is poisoned. -/
def Device.anyPoison (d : Device) (cw : Nat) : Nat → Bool
  | 0 => false
  | n + 1 => Cells.get false d.poison cw || d.anyPoison (cw + 1) n

/-- The codewords a range of bytes touches: the first, and how many. -/
def codewords (a n : Nat) : Nat × Nat := if n = 0 then (a / 64, 0) else (a / 64, (a + n - 1) / 64 - a / 64 + 1)

/-- Whether reading a range meets an uncorrectable codeword. -/
def Device.rangePoisoned (d : Device) (a n : Nat) : Bool := d.anyPoison (codewords a n).1 (codewords a n).2

/-- Clears the poison of the codewords, of n from cw on, that [a, e) covers whole; the others keep theirs (R288). -/
def Device.coverPoison (d : Device) (a e cw : Nat) : Nat → Device
  | 0 => d
  | n + 1 =>
    let d' := if a ≤ 64 * cw ∧ 64 * cw + 64 ≤ e then
        { d with poison := Cells.set false d.poison cw false, symErr := Cells.set 0 d.symErr cw 0 } else d
    d'.coverPoison a e (cw + 1) n

/-- HUB_MEMERR or CIS_MEMERR of the bank of an address (R628). -/
def memErrReg (a : Nat) : Nat :=
  match regionOf a with
  | .cistern c => Reg.CIS_MEMERR c (cisBank a)
  | _ => Reg.HUB_MEMERR (hbmBank a)

/-- The bank number of R628 counted over both kinds of memory. -/
def memBank (a : Nat) : Nat := (dramBank a).getD 0

/-- A window of HUB_RETIRE_CFG with 0 acting as 1 (R638). -/
def atLeast1 (n : Nat) : Nat := if n = 0 then 1 else n

/-- INDEX of a memory controller in a record (R622): stack, or 8 + chiplet. -/
def memIndex (a : Nat) : Nat :=
  match regionOf a with
  | .cistern c => 8 + c
  | _ => hbmBank a / 1024

/-- The part of a 64 KiB page that one controller holds, as a number: a page of HBM lies in both stacks of its die (R258). -/
def pageKey (a : Nat) : Nat :=
  a / 0x10000 * 2 + (match regionOf a with | .hbm => bits a 12 12 | _ => 0)

/-- The controller of a page key. -/
def keyIndex (k : Nat) : Nat := memIndex (k / 2 * 0x10000 + k % 2 * 0x1000)

/-- The policy asks for the retirement of a page, once (R629). -/
def Device.askRetire (d : Device) (key : Nat) : Device :=
  if d.fault.retireAsked.contains key then d
  else { d with fault := { d.fault with retireAsked := d.fault.retireAsked ++ [key] } }

/-- The page table of correctable counts after one more event on a page: up to 1,024 pages for each controller, the one whose last event is
oldest replaced (R629). -/
def notePage (key now : Nat) (t : List (Nat × Nat × Nat)) : List (Nat × Nat × Nat) :=
  let old := t.find? (fun e => e.1 == key)
  let rest := t.filter (fun e => e.1 != key)
  let mine := rest.filter (fun e => keyIndex e.1 == keyIndex key)
  let rest := if mine.length ≥ 1024 then rest.erase (mine.headD (key, 0, 0)) else rest
  rest ++ [(key, (match old with | some e => e.2.1 + 1 | none => 1), now)]

/-- A codeword was corrected: counted, and put to the retirement policy (R628, R629). -/
def Device.memCe (d : Device) (a symbols : Nat) : Device :=
  let d := d.bump16 (memErrReg a) false 1
  let b := memBank a
  let n := Cells.get 0 d.fault.bankCe b + 1
  let d := { d with fault := { d.fault with bankCe := Cells.put d.fault.bankCe b n } }
  let d :=
    if n ≥ atLeast1 (d.fld Reg.HUB_RETIRE_CFG 27 16) && !d.fault.bankFired.contains b then
      { d with fault := { d.fault with bankFired := d.fault.bankFired ++ [b] } }.fire Evt.MEM_CE
    else d
  if d.flag Reg.HUB_RETIRE_CFG 31 then
    let page := pageKey a
    let t := notePage page d.now d.fault.pages
    let d := { d with fault := { d.fault with pages := t } }
    let cnt := match t.find? (fun e => e.1 == page) with | some e => e.2.1 | none => 0
    if cnt ≥ atLeast1 (d.fld Reg.HUB_RETIRE_CFG 15 8) || (d.flag Reg.HUB_RETIRE_CFG 29 && decide (symbols ≥ 3)) then
      d.askRetire page
    else d
  else d

/-- DETAIL of a memory controller's record (R622). -/
def memDetail (a : Nat) : Nat :=
  match regionOf a with
  | .cistern _ => (cisBank a / 16) * 256 + cisBank a % 16
  | _ => (hbmBank a / 32 % 32) * 256 + hbmBank a % 32

/-- The partition that owns the granule of an address (R262). -/
def Device.granuleOwner (d : Device) (a : Nat) : Option Nat := Cells.find? d.granules (granule a)

/-- A read met an uncorrectable codeword: counted, MEM_UE fired, a record written to the owner's scope, and the page put to
the retirement policy (R628, R629). -/
def Device.memUe (d : Device) (a : Nat) : Device :=
  let d := (d.bump16 (memErrReg a) true 1).fire Evt.MEM_UE
  let d := d.raisePart (d.granuleOwner a)
    { status := St.UNCORRECTABLE, source := 12, akind := 3, index := memIndex a, addr := a, detail := memDetail a }
  if d.flag Reg.HUB_RETIRE_CFG 31 && d.flag Reg.HUB_RETIRE_CFG 30 then d.askRetire (pageKey a) else d

/-- The controller reads n codewords from cw on: corrects and counts, or counts and reports what it cannot correct (R287).
The Bool says that one of them is uncorrectable. -/
def Device.readCodewords (d : Device) (cw : Nat) : Nat → Device × Bool
  | 0 => (d, false)
  | n + 1 =>
    if Cells.get false d.poison cw then
      (((d.memUe (64 * cw)).readCodewords (cw + 1) n).1, true)
    else
      let e := Cells.get 0 d.symErr cw
      let d' := if e = 0 then d else { d with symErr := Cells.set 0 d.symErr cw 0 }.memCe (64 * cw) e
      d'.readCodewords (cw + 1) n

/-- Copies 64 KiB page p to page q of DRAM, poisoned codewords as poisoned (R475, R285). -/
def Device.copyPage (d : Device) (p q : Nat) : Device :=
  let move : Nat → Cells Byte → Cells Byte := fun sz m =>
    m.filter (fun e => decide (e.1 < q * sz)) ++ (Cells.slice m (p * sz) sz).map (fun e => (e.1 - p * sz + q * sz, e.2))
      ++ m.filter (fun e => decide (q * sz + sz ≤ e.1))
  let moveB : Nat → Cells Bool → Cells Bool := fun sz m =>
    m.filter (fun e => decide (e.1 < q * sz)) ++ (Cells.slice m (p * sz) sz).map (fun e => (e.1 - p * sz + q * sz, e.2))
      ++ m.filter (fun e => decide (q * sz + sz ≤ e.1))
  if p = q then d
  else
    let d := (d.readCodewords (p * 0x400) 0x400).1
    { d with
      mem := move 0x10000 d.mem, poison := moveB 0x400 d.poison, symErr := Cells.clear d.symErr (q * 0x400) 0x400,
      dirty := Cells.set false d.dirty q true }

/-- Copies a held page ahead of its turn, for every slice entry that holds it, before a write reaches it (R475); the page it goes to may be
held too. -/
def Device.copyAhead (d : Device) (page : Nat) : Nat → Device
  | 0 => d
  | n + 1 =>
    match d.heldPages.find? (fun h => h.page == page) with
    | none => d
    | some h =>
      let d := { d with heldPages := d.heldPages.filter (fun x => x != h) }
      let d := (d.copyAhead h.dst n).copyPage page h.dst
      ((d.bump (Reg.CIS_CKPT_COW h.part) 1).bump64 (Reg.CIS_CKPT_PAGES_LO h.part) 1).copyAhead page n

/-- The controllers ready n pages from a page on for a write: held pages are copied, dirty bits set (R475, R476). -/
def Device.openPages (d : Device) (page : Nat) : Nat → Device
  | 0 => d
  | n + 1 =>
    let d := if d.heldPages.isEmpty then d else d.copyAhead page (d.heldPages.length + 1)
    { d with dirty := Cells.set false d.dirty page true }.openPages (page + 1) n

/-- Tells the hub of a write of the watched codewords among n from cw on. -/
def Device.notify (d : Device) (cw n : Nat) : Device :=
  let hit := d.watches.filter (fun w => decide (cw ≤ w.cw) && decide (w.cw < cw + n))
  if hit.isEmpty then d
  else { d with seen := d.seen ++ hit.map (fun w => { unit := w.unit, cw := w.cw, bytes := d.memBytes (64 * w.cw) 64 }) }

/-- A write of bytes to DRAM: whole codewords get new check bytes; a partly written poisoned codeword takes the bytes and
stays poisoned (R288). The Bool says that such a codeword was met: the write completes with ST_UNCORRECTABLE. -/
def Device.memWrite (d : Device) (a : Nat) (bs : List Byte) : Device × Bool :=
  if bs.isEmpty then (d, false)
  else
    let cw := codewords a bs.length
    let d := d.openPages (a / 0x10000) ((a + bs.length - 1) / 0x10000 - a / 0x10000 + 1)
    let d := { d with mem := Cells.setRange 0#8 d.mem a bs }
    let d := d.coverPoison a (a + bs.length) cw.1 cw.2
    (d.notify cw.1 cw.2, d.anyPoison cw.1 cw.2)

/-- A read of n bytes of DRAM at a controller: the device after its corrections and counts, the bytes, and whether a
codeword was uncorrectable. -/
def Device.dramRead (d : Device) (a n : Nat) : Device × List Byte × Bool :=
  let cw := codewords a n
  let r := d.readCodewords cw.1 cw.2
  (r.1, d.memBytes a n, r.2)

/-! ## Local SRAM (R249-R254) -/

/-- n bytes of the local SRAM of a core. -/
def Core.sramBytes (k : Core) (off n : Nat) : List Byte := Cells.getRange 0#8 k.sram off n

/-- Whether a range of local SRAM meets an uncorrectable doubleword (R253). -/
def Core.sramBadAt (k : Core) (off n : Nat) : Bool :=
  k.sramBad.any (fun w => decide (8 * w < off + n) && decide (off < 8 * w + 8))

/-- The first uncorrectable doubleword of a range, as a byte offset. -/
def Core.sramBadFirst (k : Core) (off n : Nat) : Option Nat :=
  (k.sramBad.filter (fun w => decide (8 * w < off + n) && decide (off < 8 * w + 8))).head?.map (8 * ·)

/-- A write of bytes to local SRAM: a doubleword written whole loses its error, a partly written bad one stays bad (R253). -/
def Core.sramWrite (k : Core) (off : Nat) (bs : List Byte) : Core :=
  { k with
    sram := Cells.setRange 0#8 k.sram off bs
    sramBad := k.sramBad.filter (fun w => !(decide (off ≤ 8 * w) && decide (8 * w + 8 ≤ off + bs.length)))
    sramCe := k.sramCe.filter (fun w => !(decide (off ≤ 8 * w) && decide (8 * w + 8 ≤ off + bs.length))) }

/-- Whether writing a range writes part of an uncorrectable doubleword, so that the write completes with
ST_UNCORRECTABLE (R253). -/
def Core.sramWriteBad (k : Core) (off n : Nat) : Bool :=
  k.sramBad.any (fun w => decide (8 * w < off + n) && decide (off < 8 * w + 8) && !(decide (off ≤ 8 * w) && decide (8 * w + 8 ≤ off + n)))

/-- A slot reported an uncorrectable word: noted with its time, and the core put to the sparing policy once 4 distinct words
have been seen within an hour (R630). -/
def Device.noteBadWord (d : Device) (c w : Nat) : Device :=
  let recent := d.fault.badWords.filter (fun e => decide (d.now < e.2.2 + 3600 * secUnit) && !(e.1 == c && e.2.1 == w))
  let all := recent ++ [(c, w, d.now)]
  let d := { d with fault := { d.fault with badWords := all } }
  if d.flag Reg.HUB_RETIRE_CFG 28 && decide ((all.filter (fun e => e.1 == c)).length ≥ 4) && !d.fault.spareAsked.contains c then
    { d with fault := { d.fault with spareAsked := d.fault.spareAsked ++ [c] } }
  else d

/-- The doublewords of a list that a byte range touches. -/
def touched (ws : List Nat) (off n : Nat) : List Nat :=
  ws.filter (fun w => decide (8 * w < off + n) && decide (off < 8 * w + 8))

/-- An engine reads n bytes of its local SRAM: single-bit errors are corrected in the bank and counted, uncorrectable words
counted once for each read and put to the sparing policy (R253, R628, R630). Answers the bytes and the first bad byte offset. -/
def Device.sramRead (d : Device) (c off n : Nat) : Device × List Byte × Option Nat :=
  let k := d.core c
  let ce := touched k.sramCe off n
  let ue := touched k.sramBad off n
  let d1 := if ce.isEmpty then d
    else (d.modCore c (fun k => { k with sramCe := k.sramCe.filter (fun w => !ce.contains w) })).bump16 (Reg.CORE_SRAM_ECC c) false ce.length
  let d2 := if ue.isEmpty then d1 else ue.foldl (fun d w => d.noteBadWord c w) (d1.bump16 (Reg.CORE_SRAM_ECC c) true ue.length)
  (d2, k.sramBytes off n, ue.head?.map (8 * ·))

/-- An engine writes its local SRAM. The Bool says that part of an uncorrectable doubleword was written (R253). -/
def Device.sramStore (d : Device) (c off : Nat) (bs : List Byte) : Device × Bool :=
  (d.modCore c (fun k => k.sramWrite off bs), (d.core c).sramWriteBad off bs.length)

/-- The size of a local SRAM. -/
def sramSize : Nat := 0x800000

/-! ## Power states (R566-R568) -/

/-- The P-state the governor and the ceiling leave: the slower of the two (R567, R615). -/
def Device.pState (d : Device) : Nat := max (d.fld Reg.PWR_STATE 25 24) (min (d.fld Reg.PWR_GOV 31 29) 3)

/-- An action that needs a core clock leaves Idle (R568). -/
def Device.exitIdle (d : Device) : Device :=
  if d.fld Reg.PWR_STATE 31 29 = 4 then d.setFld Reg.PWR_STATE 31 29 d.pState else d

/-- Whether subsystem s was left at the start with no image that may run (R585). -/
def Device.noImage (d : Device) (s : Nat) : Bool := d.flag Reg.CFG_BOOT (8 + s)

/-- In Standby the compute dies are off, and actions that need a core do nothing (R568, R573). -/
def Device.standby (d : Device) : Bool := d.fld Reg.PWR_STATE 31 29 == 5

end Machine
end Sys2Proof
end

