-- ==== Sys2Proof/Machine/Memory.lean ====
section
/-!
DEFINITION. Device addresses: page walks and translation caches (R260-R264), cluster caches (R272-R285), and the accesses of
requesters through and around them.
-/
namespace Sys2Proof
namespace Machine

/-! ## Page tables (R260-R262) -/

/-- What an access asks of a leaf: R, W or ACC; a cache command asks nothing (R280). -/
inductive Access where
  | read
  | write
  | acc
  | maint
  deriving DecidableEq, Repr

/-- Whether a leaf's permission bits allow an access. -/
def Access.allowed (a : Access) (pte : Nat) : Bool :=
  match a with
  | .read => pte.testBit 2
  | .write => pte.testBit 3
  | .acc => pte.testBit 4
  | .maint => true

/-- The entry's next table or page address, bits 47:8. -/
def pteAddr (e : Nat) : Nat := bits e 47 8 * 256

/-- Whether partition p may reach the page at a physical address: not a hole, a window of one of its cores, or a granule it
owns (R262). -/
def Device.pageReachable (d : Device) (p a : Nat) : Bool :=
  match regionOf a with
  | .hole => false
  | .window c _ => d.partOf c == some p
  | _ => d.granuleOwner a == some p

/-- The outcome of a walk: a leaf with its page size, or the status that ended it. -/
inductive Walk where
  | leaf (pte log2 : Nat)
  | fail (status : Nat)
  deriving DecidableEq, Repr

/-- Whether the reserved bits of an entry are clear. -/
def pteReserved (e : Nat) : Bool := bits e 63 48 == 0 && bits e 7 5 == 0

/-- One entry handled at a level (R262): `none` goes on to the table of the entry. -/
def Device.pteStep (d : Device) (p level e : Nat) : Option Walk :=
  let leaf := e.testBit 1
  if !e.testBit 0 then some (.fail St.PAGE_FAULT)
  else if !pteReserved e || (leaf && decide (level ≤ 2)) || (!leaf && decide (level = 4)) then some (.fail St.ACCESS_DENIED)
  else if leaf then
    let low := if level = 3 then bits e 20 8 else bits e 15 8
    if low ≠ 0 then some (.fail St.ACCESS_DENIED)
    else if !d.pageReachable p (pteAddr e) then some (.fail St.ACCESS_DENIED)
    else some (.leaf e (if level = 3 then 21 else 16))
  else if level = 3 then none
  else if bits e 11 8 ≠ 0 then some (.fail St.ACCESS_DENIED)
  else none

/-- The index of a virtual address at a level (R260). -/
def vaIndex (va level : Nat) : Nat :=
  if level = 1 then bits va 47 39 else if level = 2 then bits va 38 30 else if level = 3 then bits va 29 21 else bits va 20 16

/-- The walk from the table of a level on, with the HBM reads it makes (R262, R263). -/
def Device.walkFrom (d : Device) (p va table level : Nat) : Nat → Device × Walk
  | 0 => (d, .fail St.ACCESS_DENIED)
  | fuel + 1 =>
    let r := d.dramRead (table + 8 * vaIndex va level) 8
    if r.2.2 then (r.1, .fail St.UNCORRECTABLE)
    else
      let e := leNat r.2.1
      match d.pteStep p level e with
      | some w => (r.1, w)
      | none => r.1.walkFrom p va (pteAddr e) (level + 1) fuel

/-- The page walk of a virtual address in partition p (R260-R262). -/
def Device.walk (d : Device) (p va : Nat) : Device × Walk :=
  if d.flag (Reg.HUB_PT_ROOT_LO p) 0 then
    let root := d.fld (Reg.HUB_PT_ROOT_LO p) 31 12 * 0x1000 + d.fld (Reg.HUB_PT_ROOT_HI p) 15 0 * 0x100000000
    d.walkFrom p va root 1 4
  else (d, .fail St.PAGE_FAULT)

/-- A translated address, or the status that ends the access. -/
abbrev Xlate := Except Nat Nat

/-- The physical address a leaf gives, once its permissions and the chiplet's service state allow the access (R259, R262). -/
def Device.leafAccess (d : Device) (acc : Access) (va pte log2 : Nat) : Xlate :=
  if !acc.allowed pte then .error St.ACCESS_DENIED
  else
    let pa := pteAddr pte + va % 2 ^ log2
    match regionOf pa with
    | .cistern c => if d.cisOnline c then .ok pa else .error St.TIER_OFFLINE
    | _ => .ok pa

/-- Translation by a requester outside the cores: a walk each time (R263). -/
def Device.translate (d : Device) (p : Nat) (acc : Access) (va : Nat) : Device × Xlate :=
  match d.walk p va with
  | (d', .leaf pte log2) => (d', d'.leafAccess acc va pte log2)
  | (d', .fail st) => (d', .error st)

/-- The entry of a translation cache that covers an address. -/
def tlbFind (t : List TlbEntry) (va : Nat) : Option TlbEntry := t.find? (fun e => decide (va / 2 ^ e.log2 = e.vpage))

/-- Adds an entry to a translation cache of n entries; which one a full cache drops is a free value (R264). -/
def tlbAdd (n free : Nat) (t : List TlbEntry) (e : TlbEntry) : List TlbEntry :=
  if t.length < n then e :: t else e :: t.eraseIdx (Config.tlbVictim free % t.length)

/-- Translation for a copy engine of core c of partition p through its translation caches (R264): a hit may use the cached
entry or what the tables hold now; a miss of the core counts, and a walk where the cluster misses too (R300). -/
def Device.coreXlate (d : Device) (c p : Nat) (acc : Access) (va : Nat) : Device × Xlate :=
  match tlbFind (d.core c).tlb va with
  | some e =>
    if Config.staleEntry d.free then (d.useFree, d.leafAccess acc va e.pte.toNat e.log2)
    else d.useFree.translate p acc va
  | none =>
    let d := d.bump (Reg.CORE_MEM_XMISS c) 1
    match tlbFind (d.cluster (c / 8)).tlb va with
    | some e =>
      ((d.modCore c (fun k => { k with tlb := tlbAdd 128 d.free k.tlb e })).useFree, d.leafAccess acc va e.pte.toNat e.log2)
    | none =>
      match (d.bump (Reg.CORE_MEM_WALKS c) 1).walk p va with
      | (d, .fail st) => (d, .error st)
      | (d, .leaf pte log2) =>
        let e : TlbEntry := { vpage := va / 2 ^ log2, log2 := log2, pte := BitVec.ofNat 64 pte }
        let d := d.modCore c (fun k => { k with tlb := tlbAdd 128 d.free k.tlb e })
        let g := d.cluster (c / 8)
        let d := (d.setCluster (c / 8) { g with tlb := tlbAdd 2048 d.free g.tlb e }).useFree
        (d, d.leafAccess acc va pte log2)

/-! ## Cluster caches (R272-R285) -/

/-- The slice of a line (R272): the XOR of the 4-bit fields of its address from bit 7 up, bit 47 into bit 0. -/
def cacheSlice (a : Nat) : Nat :=
  bits a 10 7 ^^^ bits a 14 11 ^^^ bits a 18 15 ^^^ bits a 22 19 ^^^ bits a 26 23 ^^^ bits a 30 27 ^^^ bits a 34 31
    ^^^ bits a 38 35 ^^^ bits a 42 39 ^^^ bits a 46 43 ^^^ bits a 47 47

/-- The set of a line: slice * 1,024 + bits 16:7 (R272). -/
def cacheSet (line : Nat) : Nat := cacheSlice (128 * line) * 1024 + bits (128 * line) 16 7

/-- n bytes of a line from offset o, those its mask does not select as DRAM holds them. -/
def CacheLine.overlay (l : CacheLine) (o : Nat) : List Byte → List Byte
  | [] => []
  | b :: bs => (if l.dirty.toNat.testBit o then Cells.get 0#8 l.data o else b) :: l.overlay (o + 1) bs

/-- Writes back the masked bytes of one 64-byte half of a line; a poisoned line, and a poison mark, poison the codeword that
receives a byte (R274, R285, R331). A codeword that takes a part of its bytes and was poisoned stays so (R288). -/
def Device.writeBackHalf (d : Device) (l : CacheLine) (h : Nat) : Device :=
  let m := l.dirty.toNat / 2 ^ (64 * h) % 2 ^ 64
  if m = 0 then d
  else
    let a := 128 * l.line + 64 * h
    let keep := m ≠ 2 ^ 64 - 1 && d.isPoisoned a
    let e := if m = 2 ^ 64 - 1 then 0 else Cells.get 0 d.symErr (a / 64)
    let d := (d.memWrite a (l.overlay (64 * h) (d.memBytes a 64))).1
    let d := { d with symErr := Cells.set 0 d.symErr (a / 64) e }
    if keep || l.poisoned || l.mark.toNat.testBit h then d.setPoison (2 * l.line + h) true else d

/-- A write-back of a line's dirty bytes, counted where there are any (R274, R299). -/
def Device.writeBack (d : Device) (g : Nat) (l : CacheLine) : Device :=
  if l.dirty = 0#128 then d
  else ((d.writeBackHalf l 0).writeBackHalf l 1).bump64 (Reg.HUB_CC_WBACK_LO g) 1

/-- The line after its write-back: clean. -/
def CacheLine.clean (l : CacheLine) : CacheLine := { l with dirty := 0#128, mark := 0#2 }

/-- The cached line with a number, if present. -/
def Cluster.findLine (k : Cluster) (line : Nat) : Option CacheLine := k.lines.find? (fun l => l.line == line)

/-- The cluster with a line made its most recently used one, in place of any earlier copy of it. -/
def Cluster.touch (k : Cluster) (l : CacheLine) : Cluster :=
  { k with lines := l :: k.lines.filter (fun x => x.line != l.line) }

/-- Makes room for a line in its set: with 16 ways in use the least recently used line is written back and dropped
(R272, R275). -/
def Device.makeRoom (d : Device) (g line : Nat) : Device :=
  let k := d.cluster g
  let inSet := k.lines.filter (fun l => cacheSet l.line == cacheSet line)
  if inSet.length < 16 then d
  else
    match inSet.getLast? with
    | none => d
    | some v =>
      let d := d.writeBack g v
      d.setCluster g { d.cluster g with lines := (d.cluster g).lines.filter (fun l => l.line != v.line) }

/-- The line, allocated without reading DRAM where it is absent (R274). -/
def Device.allocLine (d : Device) (g line : Nat) : Device × CacheLine :=
  match (d.cluster g).findLine line with
  | some l => (d, l)
  | none =>
    let d := d.makeRoom g line
    let l : CacheLine := { line := line }
    (d.setCluster g ((d.cluster g).touch l), l)

/-- The mask of n bytes from offset o on. -/
def byteMask (o n : Nat) : BitVec 128 := BitVec.ofNat 128 ((2 ^ n - 1) * 2 ^ o)

/-- The line's data after a fetch: bytes it holds stay, the others come from DRAM (R274). -/
def mergeFill (l : CacheLine) (fetched : List Byte) (o : Nat) : Cells Byte :=
  match fetched with
  | [] => l.data
  | b :: bs => Cells.set 0#8 (mergeFill l bs (o + 1)) o (if l.held.toNat.testBit o then Cells.get 0#8 l.data o else b)

/-- A line fill: reads the line from DRAM under the mask; an uncorrectable fill leaves the line poisoned (R274, R285). -/
def Device.fillLine (d : Device) (g : Nat) (l : CacheLine) : Device × CacheLine :=
  let r := d.dramRead (128 * l.line) 128
  let bad : Nat := (if Cells.get false d.poison (2 * l.line) then 1 else 0) + (if Cells.get false d.poison (2 * l.line + 1) then 2 else 0)
  let l' := { l with
    data := mergeFill l r.2.1 0, held := BitVec.allOnes 128, poisoned := l.poisoned || r.2.2
    bad := if r.2.2 then l.bad ||| BitVec.ofNat 2 bad else l.bad }
  (r.1.bump64 (Reg.HUB_CC_MISSES_LO g) 1, l')

/-- Whether the half of a line that an offset lies in is bad or marked, so that bytes copied from it are affected (R331). -/
def CacheLine.affected (l : CacheLine) (o : Nat) : Bool := (l.bad ||| l.mark).toNat.testBit (o / 64)

/-- n bytes of a line from offset o, each with whether it is affected. -/
def CacheLine.read (l : CacheLine) (o : Nat) : Nat → List (Byte × Bool)
  | 0 => []
  | n + 1 => (Cells.get 0#8 l.data o, l.affected o) :: l.read (o + 1) n

/-- A read of n bytes inside one line through the cluster cache: the device, the bytes with whether each is affected, whether the
read is uncorrectable, and whether a fill was needed (R274, R285). A hit of the request that read the line just before (`more`)
is not counted again. -/
def Device.cacheRead (d : Device) (g pa n : Nat) (more : Bool) : Device × List (Byte × Bool) × Bool × Bool :=
  let o := pa % 128
  let a := d.allocLine g (pa / 128)
  let fill := !(a.2.held &&& byteMask o n == byteMask o n)
  let f := if fill then a.1.fillLine g a.2 else (if more then a.1 else a.1.bump64 (Reg.HUB_CC_HITS_LO g) 1, a.2)
  let bs := f.2.read o n
  (f.1.setCluster g ((f.1.cluster g).touch f.2), bs, f.2.poisoned || bs.any (·.2), fill)

/-- The halves of a line that n bytes from offset o touch. -/
def halvesOf (o n : Nat) : BitVec 2 := BitVec.ofNat 2 ((if o < 64 then 1 else 0) + (if o + n > 64 then 2 else 0))

/-- The halves that a byte mask covers whole. -/
def wholeHalves (m : BitVec 128) : BitVec 2 :=
  BitVec.ofNat 2 ((if m.extractLsb' 0 64 = BitVec.allOnes 64 then 1 else 0) + (if m.extractLsb' 64 64 = BitVec.allOnes 64 then 2 else 0))

/-- A write of bytes inside one line through the cluster cache (R274): it allocates without reading. `run` and `marks` hold the
bytes and the poison marks of the whole request, this write included: a request that covers all 128 bytes clears the poison
(R285), and a half written whole holds only the marks of the request (R331). -/
def Device.cacheWrite (d : Device) (g pa : Nat) (bs : List Byte) (run : BitVec 128) (marks : BitVec 2) (more : Bool) : Device :=
  let o := pa % 128
  let hit := ((d.cluster g).findLine (pa / 128)).isSome
  let a := d.allocLine g (pa / 128)
  let m := byteMask o bs.length
  let whole := run == BitVec.allOnes 128
  let l := { a.2 with
    data := Cells.setRange 0#8 a.2.data o bs
    held := a.2.held ||| m
    dirty := a.2.dirty ||| m
    poisoned := a.2.poisoned && !whole
    bad := if whole then 0#2 else a.2.bad
    mark := (a.2.mark &&& ~~~(wholeHalves run)) ||| marks }
  let d := a.1.setCluster g ((a.1.cluster g).touch l)
  if hit && !more then d.bump64 (Reg.HUB_CC_HITS_LO g) 1 else d

/-- Writes back every dirty line of a cluster (cp.release with ALL, R278). -/
def Device.releaseAll (d : Device) (g : Nat) : Device :=
  let ls := (d.cluster g).lines
  let d := ls.foldl (fun d l => d.writeBack g l) d
  d.setCluster g { d.cluster g with lines := ls.map CacheLine.clean }

/-- Writes back and drops every line of a cluster (R277, R278). -/
def Device.acquireAll (d : Device) (g : Nat) : Device :=
  let d := d.releaseAll g
  d.setCluster g { d.cluster g with lines := [] }

/-- Drops every line of a cluster without writing any back. -/
def Device.dropCache (d : Device) (g : Nat) : Device := d.setCluster g { d.cluster g with lines := [] }

/-! ## Accesses by physical address -/

/-- Splits a range at multiples of a power of two: pieces (address, length), at most `fuel` of them. -/
def splitAt (unit : Nat) : Nat → Nat → Nat → List (Nat × Nat)
  | 0, _, _ => []
  | fuel + 1, a, n =>
    if n = 0 then []
    else
      let m := min n (unit - a % unit)
      (a, m) :: splitAt unit fuel (a + m) (n - m)

/-- The pieces of a range that lie in one unit each. -/
def pieces (unit a n : Nat) : List (Nat × Nat) := splitAt unit (n / unit + 2) a n

/-- A read of a range that lies in one page, around the cluster caches (R276): DRAM at its controller, a window in its core.
Answers whether it met an uncorrectable word. -/
def Device.physRead (d : Device) (pa n : Nat) : Device × List Byte × Bool :=
  match regionOf pa with
  | .window c o =>
    let r := d.sramRead c o n
    (r.1, r.2.1, r.2.2.isSome)
  | .hole => (d, List.replicate n 0#8, false)
  | _ => d.dramRead pa n

/-- A write of bytes that lie in one page, around the cluster caches (R276). -/
def Device.physWrite (d : Device) (pa : Nat) (bs : List Byte) : Device × Bool :=
  match regionOf pa with
  | .window c o => d.sramStore c o bs
  | .hole => (d, false)
  | _ => d.memWrite pa bs

/-- A read of a virtual range by a requester that by-passes the cluster caches: page by page, stopping at the first page that
fails. Answers the bytes read, and the status with the address of the page that failed, or ST_UNCORRECTABLE. -/
def Device.vread (d : Device) (p : Nat) : List (Nat × Nat) → Device × List Byte × Nat × Nat
  | [] => (d, [], St.OK, 0)
  | (va, n) :: rest =>
    match d.translate p .read va with
    | (d, .error st) => (d, [], st, va)
    | (d, .ok pa) =>
      let r := d.physRead pa n
      let q := r.1.vread p rest
      (q.1, r.2.1 ++ q.2.1, (if r.2.2 then St.UNCORRECTABLE else q.2.2.1), (if r.2.2 then va else q.2.2.2))

/-- A read of n bytes at a virtual address of partition p, by-passing the caches. -/
def Device.readVa (d : Device) (p va n : Nat) : Device × List Byte × Nat × Nat := d.vread p (pieces 0x10000 va n)

/-- A write of bytes at a virtual range, by-passing the caches, page by page. -/
def Device.vwrite (d : Device) (p : Nat) : List (Nat × Nat) → List Byte → Device × Nat × Nat
  | [], _ => (d, St.OK, 0)
  | (va, n) :: rest, bs =>
    match d.translate p .write va with
    | (d, .error st) => (d, st, va)
    | (d, .ok pa) =>
      let r := d.physWrite pa (bs.take n)
      let q := r.1.vwrite p rest (bs.drop n)
      (q.1, (if r.2 then St.UNCORRECTABLE else q.2.1), (if r.2 then va else q.2.2))

/-- A write of bytes at a virtual address of partition p, by-passing the caches. -/
def Device.writeVa (d : Device) (p va : Nat) (bs : List Byte) : Device × Nat × Nat :=
  d.vwrite p (pieces 0x10000 va bs.length) bs

/-- A controller scrubs one codeword on its own account: HBM, or the cistern of a chiplet in service (R289, R292). -/
def Device.patrol (d : Device) (cw : Nat) : Device :=
  match regionOf (64 * cw) with
  | .hbm => (d.readCodewords cw 1).1
  | .cistern c => if d.cisOnline c then (d.readCodewords cw 1).1 else d
  | _ => d

/-- A write to host memory over PCIe; nothing is written while the interface is FENCED (R521). -/
def Device.hostWrite (d : Device) (a : Nat) (bs : List Byte) : Device :=
  if d.flag (Reg.ZN_STATUS 0) 30 then d else { d with hostMem := Cells.setRange 0#8 d.hostMem a bs }

end Machine
end Sys2Proof
end

