-- ==== Sys2Proof/Machine/Completion.lean ====
section
/-!
DEFINITION. Completions of Zennus commands: the entry written to the completion ring, the counters and the event it raises
(R503, R506, R525, R530, R531).
-/
namespace Sys2Proof
namespace Machine

/-- The private ring pair of Zennus over MCTP, outside the pool (R524). -/
def mctpRing : Nat := 0x10000

/-- Whether a status reports success (R518). -/
def stSuccess (st : Nat) : Bool := st == St.OK || st == St.ENABLE_DEFERRED || st == St.FROZEN_SKIPPED

/-- The global source that local source i of a function names: the PF's are global, a VF's lie in its window, and a number at
or above COUNT names nothing (R530, R531). -/
def Device.fnSource (d : Device) (fn i : Nat) : Option Nat :=
  if fn = 0 then some i
  else if i < d.fld (Reg.EVT_FN_WIN fn) 24 16 then some (d.fld (Reg.EVT_FN_WIN fn) 11 0 + i)
  else none

/-- Fires local source i of a function, if it names a source. -/
def Device.fireFn (d : Device) (fn i : Nat) : Device :=
  match d.fnSource fn i with
  | some n => d.fire n
  | none => d

/-- The 16 bytes of a completion entry (R506). -/
def completionEntry (c : ZCmd) (r : Ring) (status result : Nat) : List Byte :=
  toLe 4 c.cmdId ++ toLe 2 status ++ toLe 2 c.utag ++ toLe 4 result ++ toLe 2 r.head ++ toLe 1 (if r.phase then 1 else 0)
    ++ toLe 1 0

/-- The ring after one completion: the index advances, and PHASE inverts on each later pass (R503). -/
def Ring.advanceCq (r : Ring) : Ring :=
  if r.cqTail + 1 = 2 ^ r.log2 then { r with cqTail := 0, phase := !r.phase } else { r with cqTail := r.cqTail + 1 }

/-- Writes one completion entry where its ring lies: host memory, or device memory at a virtual address of the function's
partition (R499). -/
def Device.writeCompletion (d : Device) (r : Ring) (part : Nat) (bs : List Byte) : Device :=
  if r.cqDev then (d.writeVa part (r.cqBase + 16 * r.cqTail) bs).1 else d.hostWrite (r.cqBase + 16 * r.cqTail) bs

/-- The counters a completion adds to (R525). -/
def Device.countCompletion (d : Device) (fn status : Nat) : Device :=
  let d := d.bump64 (Reg.ZN_CMDS_LO fn) 1
  if stSuccess status then d else d.bump (Reg.ZN_ERRS fn) 1

/-- Completes one command: its entry, its counters, its completion event unless QUIET, and it is outstanding no more. A fenced
interface writes no completion (R521); a command of the MCTP ring answers in an MCTP message (R524). -/
def Device.completeOne (d : Device) (id status result : Nat) : Device :=
  match Cells.find? d.zn.cmds id with
  | none => d
  | some c =>
    if c.ring = mctpRing then
      let bs := toLe 4 c.cmdId ++ toLe 2 status ++ toLe 2 c.utag ++ toLe 4 result ++ toLe 4 0
      { d with zn := { d.zn with cmds := Cells.erase d.zn.cmds id, mctpOut := d.zn.mctpOut ++ [bs ++ c.data] } }
    else if d.flag (Reg.ZN_STATUS 0) 30 then d
    else
      match Cells.find? d.zn.rings c.ring with
      | none => { d with zn := { d.zn with cmds := Cells.erase d.zn.cmds id } }
      | some r =>
        let d := d.writeCompletion r r.part (completionEntry c r status result)
        let d := { d with zn := { d.zn with
          cmds := Cells.erase d.zn.cmds id
          rings := Cells.put d.zn.rings c.ring r.advanceCq } }
        let d := d.countCompletion c.fn status
        if c.quiet then d
        else match r.event with
          | some i => d.fireFn c.fn i
          | none => d

/-- Whether a command is a control that waits for the command with a number (R516). -/
def ZCmd.waitsFor (c : ZCmd) (id : Nat) : Bool :=
  (c.opcode == 0x0101 || c.opcode == 0x0102 || c.opcode == 0x0103) && c.state == .started && c.target == some id

/-- Completes a command, and then the controls that waited for it (R516): a cancel whose target was cancelled has done what it asked, every
other one finds its target finished. -/
def Device.complete (d : Device) (id status result : Nat) : Device :=
  let d := d.completeOne id status result
  (d.zn.cmds.filter (fun e => e.2.waitsFor id)).foldl (fun d e =>
    d.completeOne e.1 (if e.2.opcode = 0x0103 ∧ status = St.CANCELLED then St.OK else St.OP_FINISHED) 0) d

end Machine
end Sys2Proof
end

