-- ==== Sys2Proof/Machine/Queues.lean ====
section
/-!
DEFINITION. Engine queues, gates and retirement (R219-R231), and what every engine command shares: taking the command at the
head of its queue, and leaving a result that shows when the command retires.
-/
namespace Sys2Proof
namespace Machine

/-! ## Queues by number: 0 MXQ, 1 SPQ, 2 VXQ, 3 CPQ0, 4 CPQ1, 5 SYQ (R219) -/

def Core.queue (k : Core) (q : Nat) : List QEntry :=
  match q with
  | 0 => k.mxq
  | 1 => k.spq
  | 2 => k.vxq
  | 3 => k.cpq0
  | 4 => k.cpq1
  | _ => k.syq

def Core.setQueue (k : Core) (q : Nat) (l : List QEntry) : Core :=
  match q with
  | 0 => { k with mxq := l }
  | 1 => { k with spq := l }
  | 2 => { k with vxq := l }
  | 3 => { k with cpq0 := l }
  | 4 => { k with cpq1 := l }
  | _ => { k with syq := l }

/-- The command as a number: bit i of the 256 is bit i of the manual's field tables. -/
def QEntry.c (e : QEntry) : Nat := e.cmd.toNat

/-- Opcode, bits 31:24, and command tag, bits 23:0 (R91). -/
def QEntry.opc (e : QEntry) : Nat := bits e.c 31 24
def QEntry.tag (e : QEntry) : Nat := bits e.c 23 0

/-- An entry its engine has taken. -/
def QEntry.taken (e : QEntry) : Bool := e.started || e.result.isSome

/-- Entries that wait in the queue; a taken command has left it for its unit (R221, R632). -/
def occupancy (l : List QEntry) : Nat := (l.filter (fun e => !e.taken)).length

/-- The entry at the front of a queue of core c. -/
def Device.front (d : Device) (c q : Nat) : Option QEntry := ((d.core c).queue q).head?

/-- Replaces the entry at the front of a queue. -/
def Device.setFront (d : Device) (c q : Nat) (e : QEntry) : Device :=
  d.modCore c (fun k => k.setQueue q (e :: (k.queue q).tail))

/-- Drops the entry at the front of a queue. -/
def Device.dropFront (d : Device) (c q : Nat) : Device :=
  d.modCore c (fun k => k.setQueue q (k.queue q).tail)

/-- A command whose gate lets it pass: no wait asked, or the wait granted (R226). -/
def QEntry.open (e : QEntry) : Bool := !e.gate.wen || e.granted

/-- The front command, when it may run: gate passed and not executed yet. -/
def Device.ready (d : Device) (c q : Nat) : Option QEntry :=
  match d.front c q with
  | some e => if e.open && e.result.isNone then some e else none
  | none => none

/-- Runs the front command of a queue of core c when it may run and its opcode is one of those given; its result waits for
retirement (R228). Where no such command stands there, nothing happens. -/
def Device.runFront (d : Device) (c q : Nat) (isOp : QEntry → Bool) (f : Device → QEntry → Device × CmdResult) : Device :=
  match d.ready c q with
  | none => d
  | some e =>
    if isOp e then
      let r := f d e
      r.1.setFront c q { e with
        started := true, since := if e.started then e.since else d.cycles, result := some r.2 }
    else d

/-- A result that only carries a status: a command refused by its checks does nothing else (R228). -/
def refused (st : Nat) : CmdResult := { status := st }

/-- Runs the front command by its checks first: a status ends it there. -/
def Device.runChecked (d : Device) (c q : Nat) (isOp : QEntry → Bool) (check : Device → QEntry → Option Nat)
    (f : Device → QEntry → Device × CmdResult) : Device :=
  d.runFront c q isOp (fun d e =>
    match check d e with
    | some st => (d, refused st)
    | none => f d e)

/-- The first status of a list of conditions in order. -/
def firstStatus : List (Bool × Nat) → Option Nat
  | [] => none
  | (b, st) :: rest => if b then some st else firstStatus rest

/-! ## Gates and grants (R226, R230) -/

/-- The queue's entry that asks for its gate: the first one its engine has not taken. -/
def gateHead (l : List QEntry) : Option QEntry := l.find? (fun e => !e.taken)

/-- The semaphore that requester r of a core asks a unit of, and how many: the gated heads of the six queues, semwait as 6,
sy.wait as 7 (R230). -/
def Core.request (k : Core) (r : Nat) : Option (Nat × Nat) :=
  if r < 6 then
    match gateHead (k.queue r) with
    | some e => if e.gate.wen && !e.granted then some (e.gate.wsem, 1) else none
    | none => none
  else if r = 6 then k.semWait.map (fun n => (n, 1))
  else
    match k.syq.head? with
    | some e =>
      if e.opc == 0x02 && e.started && e.result.isNone then some (bits e.c 37 32, bits e.c 63 48) else none
    | none => none

/-- Whether requester r asks for semaphore n and the value covers its request. -/
def Core.covered (k : Core) (n r : Nat) : Bool :=
  match k.request r with
  | some (m, v) => m == n && decide (v ≤ k.semVal n)
  | none => false

/-- The requester that the rotating priority of semaphore n grants next (R230, R29). -/
def Core.winner (k : Core) (n : Nat) : Option Nat := rotate 8 (Cells.get 0 k.semPtr n) (k.covered n)

/-- Takes v units of semaphore n and moves its pointer past the winner. -/
def Core.grant (k : Core) (n v r : Nat) : Core :=
  { (k.setSem n (k.semVal n - v)) with semPtr := Cells.put k.semPtr n ((r + 1) % 8) }

/-- Marks the first entry not taken as granted. -/
def grantHead : List QEntry → List QEntry
  | [] => []
  | e :: es => if e.taken then e :: grantHead es else { e with granted := true } :: es

/-! ## Retirement (R227, R228, R636) -/

/-- SOURCE of the records of a queue's commands (R622). -/
def queueSource (q : Nat) : Nat := q + 1

/-- Whether commands of core c leave trace records of queue q: a debug session of level 1 or more covers its partition, and
the trace is enabled for the queue (R562, R636). -/
def Device.traced (d : Device) (c q : Nat) : Bool :=
  let lvl := d.fld Reg.SEC_STATE 23 22
  d.flag Reg.SEC_TRACE_CFG 31 && d.flag Reg.SEC_TRACE_CFG (16 + q) &&
    (lvl == 3 || (decide (lvl ≥ 1) && (d.partOf c == some (d.fld Reg.SEC_STATE 19 16))))

/-- A LOG2 register field held between its limits (R525, R639, R640). -/
def clampLog2 (lo hi x : Nat) : Nat := max lo (min hi x)

/-- The 32 bytes of a trace record (R636). -/
def traceRecord (d : Device) (c q : Nat) (e : QEntry) (r : CmdResult) : List Byte :=
  toLe 4 (e.tag + 0x1000000 * e.opc) ++ toLe 1 c ++ toLe 1 q ++ toLe 2 r.status ++ toLe 4 e.stroke
    ++ toLe 4 (min (d.cycles - e.since) 0xFFFFFFFF) ++ toLe 8 (timeShort d.now) ++ toLe 2 (min r.lost 0xFFFF)
    ++ toLe 2 (min r.sat 0xFFFF) ++ toLe 2 (min r.poison 0xFFFF) ++ toLe 2 0

/-- Writes the trace record of a retiring command to the ring in the PF's host memory (R636). -/
def Device.trace (d : Device) (c q : Nat) (e : QEntry) (r : CmdResult) : Device :=
  if d.traced c q then
    let base := (d.reg Reg.SEC_TRACE_LO).toNat + 0x100000000 * (d.reg Reg.SEC_TRACE_HI).toNat
    let size := 2 ^ clampLog2 8 20 (d.fld Reg.SEC_TRACE_CFG 4 0)
    let t := d.fld Reg.SEC_TRACE_TAIL 20 0
    (d.hostWrite (base + 32 * t) (traceRecord d c q e r)).setFld Reg.SEC_TRACE_TAIL 20 0 ((t + 1) % size)
  else d

/-- INDEX of the records of a command of queue q: the slot of a cp.table, the semaphore or barrier of a sync command, else 0
(R325, R234, R622). -/
def recordIndex (q : Nat) (e : QEntry) : Nat :=
  match q with
  | 3 | 4 => if e.opc = 0x05 then bits e.c 36 33 else 0
  | 5 =>
    match e.opc with
    | 1 | 2 => bits e.c 37 32
    | 3 => bits e.c 35 32
    | _ => 0
  | _ => 0

/-- DETAIL of a fault of a command: the target core of a sy.sig, else what the fault carries (R236, R622). -/
def recordDetail (q : Nat) (e : QEntry) (f : CmdFault) : Nat := if q = 5 ∧ e.opc = 1 then bits e.c 44 38 else f.detail

/-- Writes one fault record of a command (R620, R621). -/
def Device.cmdFault (d : Device) (c q : Nat) (e : QEntry) (f : CmdFault) : Device :=
  d.raise { status := f.status, source := queueSource q, akind := f.akind, tagValid := true, core := c, part := d.partNum c,
            index := recordIndex q e, tag := e.tag, stroke := e.stroke, addr := f.addr, count := f.count, detail := recordDetail q e f }

/-- The records of a command: those it met, or one with its status where it ended other than ST_OK (R152, R329, R620). -/
def Device.cmdFaults (d : Device) (c q : Nat) (e : QEntry) (r : CmdResult) : Device :=
  let d := r.faults.foldl (fun d f => d.cmdFault c q e f) d
  if r.status ≠ St.OK && !r.faults.any (fun f => f.status == r.status) then d.cmdFault c q e { status := r.status } else d

/-- The counters of a command, added when it retires (R228). -/
def Device.cmdCounts (d : Device) (e : QEntry) (r : CmdResult) : Device :=
  let d := r.add32.foldl (fun d x => d.bump x.1 x.2) d
  let d := r.add64.foldl (fun d x => d.bump64 x.1 x.2) d
  r.lastTags.foldl (fun d k => d.noteTag k e.tag) d

/-- A command with SEN = 1 adds 1 to semaphore SSEM when it retires, whatever its status (R227). -/
def Device.gateSignal (d : Device) (c q : Nat) (e : QEntry) : Device :=
  if e.gate.sen then d.semAdd c e.gate.ssem 1 (some e.tag) c q else d

/-- What a retirement adds to its engine's own registers, whatever its status: the commands retired (R122, R156, R332) and the tag
that STATUS shows for the last one. -/
def Device.noteRetire (d : Device) (c q : Nat) (e : QEntry) : Device :=
  match q with
  | 0 => d.setFld (Reg.MX_STATUS c) 23 0 e.tag
  | 1 => if e.opc = 0x01 then d.bump (Reg.MX_SP_CMDS c) 1 else d
  | 2 => (d.bump64 (Reg.VX_RETIRED_LO c) 1).setFld (Reg.VX_STATUS c) 23 0 e.tag
  | 3 => (d.bump (Reg.CP_CMDS_0 c) 1).setFld (Reg.CP_STATUS_0 c) 23 0 e.tag
  | 4 => (d.bump (Reg.CP_CMDS_1 c) 1).setFld (Reg.CP_STATUS_1 c) 23 0 e.tag
  | _ => d

/-- What a command leaves behind however it ends: its counters, its records and its trace record (R102, R620, R636). -/
def Device.settleEntry (d : Device) (c q : Nat) (e : QEntry) (r : CmdResult) : Device :=
  (((d.cmdCounts e r).noteRetire c q e).cmdFaults c q e r).trace c q e r

/-- The Zennus command that waits for an engine command completes with its status (R510). -/
def Device.answerOwner (d : Device) (e : QEntry) (status : Nat) : Device :=
  match e.owner with
  | some id => d.complete id status 0
  | none => d

/-- The front command retires with a result: counters, records, trace record, gate signal, and the Zennus command that waited
for it (R227, R228, R510, R636). -/
def Device.retire (d : Device) (c q : Nat) (e : QEntry) (r : CmdResult) : Device :=
  (((d.settleEntry c q e r).dropFront c q).gateSignal c q e).answerOwner e r.status

/-- Whether the slots of copy engine m (0 or 1) are all free, so that its bytes are in place (R228, R294). -/
def Core.engineIdle (k : Core) (m : Nat) : Bool :=
  !(k.slots.any (fun s => s.engine == m && !s.withdrawn)) && !(k.toIssue.any (fun s => s.engine == m))

end Machine
end Sys2Proof
end

