-- ==== Sys2Proof/Machine/Glaze.lean ====
section
/-!
DEFINITION. The glaze stage of the array and the siphon path (R177-R181): its descriptor and checks, the five steps of an output,
and the writing of output rows. Byte ranges of local SRAM, shared by the matrix commands.
-/
namespace Sys2Proof
namespace Machine

/-! ## The user slot of a glaze function (R173, R180) -/

/-- The version of the built-in store of core c (R158). -/
def Device.sfVersion (d : Device) (c : Nat) : Nat := (d.reg (Reg.SF_BUILTIN c)).toNat

/-- The published half of a user slot of core c, as 2 * slot + half, where it is valid (R172). -/
def Device.slotHalf (d : Device) (c s : Nat) : Option Nat :=
  let r := (d.reg (Reg.SF_SLOT c s)).toNat
  let h := bits r 28 28
  if r.testBit (30 - h) then some (2 * s + h) else none

/-- The words of a table half. -/
def Device.halfTable (d : Device) (c : Nat) (h : Option Nat) : Table :=
  match h with
  | some h => Cells.get [] (d.core c).table h
  | none => []

/-- The half a function code uses at this moment: none for one that is not a user table. -/
def Device.fnHalf (d : Device) (c fn : Nat) : Option Nat := if fn ≥ 0x20 then d.slotHalf c (fn - 0x20) else none

/-- Whether a command with a function code must wait for a load of its slot (R180). -/
def Device.fnWaits (d : Device) (c fn : Nat) : Bool :=
  decide (fn ≥ 0x20) && (d.slotHalf c (fn - 0x20)).isNone && d.flag (Reg.SF_SLOT c (fn - 0x20)) 31

/-- Whether its slot is empty, with no load in progress. -/
def Device.fnEmpty (d : Device) (c fn : Nat) : Bool :=
  decide (fn ≥ 0x20) && (d.slotHalf c (fn - 0x20)).isNone && !d.flag (Reg.SF_SLOT c (fn - 0x20)) 31

/-! ## Ranges of local SRAM -/

/-- A range of local SRAM: first byte and length. -/
structure Span where
  lo : Nat
  len : Nat
  deriving DecidableEq, Repr

def Span.outside (s : Span) : Bool := decide (s.len ≠ 0) && decide (s.lo + s.len > sramSize)

def Span.overlaps (a b : Span) : Bool :=
  decide (a.len ≠ 0) && decide (b.len ≠ 0) && decide (a.lo < b.lo + b.len) && decide (b.lo < a.lo + a.len)

/-- Whether any range of one list meets one of another. -/
def anyOverlap (as bs : List Span) : Bool := as.any (fun a => bs.any a.overlaps)

/-! ## The descriptor (R179) -/

/-- A glaze descriptor, addresses in bytes. -/
structure GlazeDesc where
  biasAddr : Nat
  scaleAddr : Nat
  resAddr : Nat
  oscAddr : Nat
  ldr : Nat
  scale : Nat
  resFmt : Nat
  biasFmt : Nat
  scaleFmt : Nat
  scaleMode : Nat
  biasEn : Bool
  resEn : Bool
  fn : Nat
  resv : Bool
  deriving DecidableEq, Repr

/-- The fields of the 32 bytes. -/
def GlazeDesc.ofBytes (bs : List Byte) : GlazeDesc :=
  let x := leNat (bs.take 32)
  { biasAddr := bits x 255 238 * 32, scaleAddr := bits x 237 220 * 32, resAddr := bits x 219 202 * 32
    oscAddr := bits x 201 184 * 32, ldr := bits x 183 170 * 32, scale := bits x 151 120
    resFmt := bits x 119 115, biasFmt := bits x 114 110, scaleFmt := bits x 109 105, scaleMode := bits x 104 103
    biasEn := bit x 102, resEn := bit x 101, fn := bits x 100 95
    resv := bits x 169 152 != 0 || bits x 94 0 != 0 }

/-- Reserved and inconsistent fields (R180 order 1). -/
def GlazeDesc.badField (g : GlazeDesc) : Bool :=
  g.resv || g.scaleMode == 3 || !(g.fn == 0 || Fn.legal g.fn) || (!g.biasEn && g.biasFmt != 0) || (!g.resEn && g.resFmt != 0)
    || (g.scaleMode != 2 && g.scaleFmt != 0)

/-- Formats outside R179 (order 2). -/
def GlazeDesc.badFormat (g : GlazeDesc) : Bool :=
  (g.biasEn && !(g.biasFmt == Fmt.FP32 || g.biasFmt == Fmt.BF16)) || (g.resEn && !Fmt.isFloat g.resFmt)
    || (g.scaleMode == 2 && !(g.scaleFmt == Fmt.FP32 || g.scaleFmt == Fmt.BF16))

/-- Bytes of an element of a floating format. -/
def floatSize (fmt : Nat) : Nat := if fmt = Fmt.FP32 then 4 else 2

/-- The arrays a descriptor reads for an M × N output (R180). -/
def GlazeDesc.inputs (g : GlazeDesc) (m n : Nat) : List Span :=
  (if g.biasEn then [⟨g.biasAddr, n * floatSize g.biasFmt⟩] else [])
    ++ (if g.scaleMode = 2 then [⟨g.scaleAddr, n * floatSize g.scaleFmt⟩] else [])
    ++ (if g.resEn then [⟨g.resAddr, (m - 1) * g.ldr + n * floatSize g.resFmt⟩] else [])

/-- The scale array of a ladder output (R179). -/
def GlazeDesc.outputs (g : GlazeDesc) (cfmt m n : Nat) : List Span :=
  if Fmt.isLadder cfmt then [⟨g.oscAddr, m * ceilDiv n 32⟩] else []

/-! ## An output (R177, R178) -/

/-- Element i of a floating array in local SRAM, as NaN where its word is uncorrectable (R101). -/
def Core.floatAt (k : Core) (addr fmt i : Nat) : Num :=
  let s := floatSize fmt
  if k.sramBadAt (addr + i * s) s then .nan else (Fmt.float fmt).decode (leNat (k.sramBytes (addr + i * s) s))

/-- Steps 1 to 4 for output (m, n) with accumulator value v; t is the table of a user function, ver the store's version. -/
def GlazeDesc.steps (g : GlazeDesc) (k : Core) (ver : Nat) (t : Table) (m n : Nat) (v : Num) : Num × Tally :=
  let u := if g.biasEn then v.add (k.floatAt g.biasAddr g.biasFmt n) else v
  let z : Num × Tally :=
    if g.fn = 0 then (u, {})
    else
      let x := toElem Fmt.FP32 u
      let r := fnEval ver g.fn Fmt.FP32 x.1 t
      (Num.ofFp32 r.1, { conv := x.2, sfSat := r.2.sfSat, oor := r.2.oor, mono := r.2.mono })
  let q := if g.scaleMode = 1 then z.1.mul (Num.ofFp32 g.scale)
    else if g.scaleMode = 2 then z.1.mul (k.floatAt g.scaleAddr g.scaleFmt n) else z.1
  let r := if g.resEn then q.add (k.floatAt (g.resAddr + m * g.ldr) g.resFmt n) else q
  (r, z.2)

/-- Bytes of one output row of N columns. -/
def outRowBytes (cfmt n : Nat) : Nat := if Fmt.isLadder cfmt then ceilDiv n 32 * (4 * cfmt) else n * floatSize cfmt

/-- An output row as bytes, its scale bytes where the format is a ladder width, its conversion counts, and the elements written
as NaN or in a poisoned block (step 5, R57, R178). -/
def emitRow (cfmt : Nat) (vs : List Num) : List Byte × List Byte × Counts × Nat :=
  if Fmt.isLadder cfmt then
    let bs := (chunks 32 (ceilDiv vs.length 32) vs).map (fun b =>
      (toLadder cfmt cfmt (b ++ List.replicate (32 - b.length) (Num.zero false)), b.length))
    (bs.flatMap (fun b => packPlanes cfmt b.1.codes), bs.map (fun b => BitVec.ofNat 8 b.1.scale),
      bs.foldl (fun c b => c.add b.1.counts) {}, bs.foldl (fun a b => if b.1.scale = 0xFF then a + b.2 else a) 0)
  else
    let rs := vs.map (fun v => (toElem cfmt v, v.isNan))
    (rs.flatMap (fun r => toLe (floatSize cfmt) r.1.1), [], rs.foldl (fun c r => c.add r.1.2) {},
      (rs.filter (·.2)).length)

/-- What the outputs of a matrix command count: conversions and functions, truncations, sticky outputs, NaN outputs. -/
structure MxTally where
  tally : Tally := {}
  trunc : Nat := 0
  sticky : Nat := 0
  nanOut : Nat := 0
  /-- The first write that met part of a bad word (R253), with its output index, and how many. -/
  bad : List (Nat × Nat) := []
  deriving DecidableEq, Repr

def MxTally.add (a b : MxTally) : MxTally :=
  { tally := a.tally.add b.tally, trunc := a.trunc + b.trunc, sticky := a.sticky + b.sticky, nanOut := a.nanOut + b.nanOut
    bad := a.bad ++ b.bad }

/-- Stores bytes and notes a partly written bad word with an output index. -/
def Device.storeNoting (d : Device) (c a : Nat) (bs : List Byte) (out : Nat) : Device × List (Nat × Nat) :=
  let r := d.sramStore c a bs
  (r.1, if r.2 then [(a / 8 * 8, out)] else [])

/-- Writes output row m of values v (R93, R177). -/
def Device.glazeRow (d : Device) (c : Nat) (g : GlazeDesc) (k : Core) (t : Table) (cAddr ldc cfmt n m : Nat) (vs : List Num) :
    Device × MxTally :=
  let zs := vs.zipIdx.map (fun v => g.steps k (d.sfVersion c) t m v.2 v.1)
  let e := emitRow cfmt (zs.map (·.1))
  let r := d.storeNoting c (cAddr + m * ldc) e.1 (m * n)
  let q := if Fmt.isLadder cfmt then r.1.storeNoting c (g.oscAddr + m * ceilDiv n 32) e.2.1 (m * n) else (r.1, [])
  (q.1, { tally := (Tally.sum (zs.map (·.2))).add { conv := e.2.2.1 }, nanOut := e.2.2.2, bad := r.2 ++ q.2 })

end Machine
end Sys2Proof
end

