-- ==== Sys2Proof/Machine/Vector.lean ====
section
/-!
DEFINITION. The vector engine (R125-R156): registers by element, the fields and checks of a VXQ command, and the operations that
its instructions share. An instruction acts on the command at the head of VXQ and leaves a result that shows when it retires.
-/
namespace Sys2Proof
namespace Machine

/-! ## Registers by element (R59, R125-R127) -/

/-- Elements in a 32-bit lane. -/
def perLane (fmt : Nat) : Nat := if fmt = 0x1D then 4 else if fmt = 0x19 ∨ fmt = 0x1A then 2 else 1

/-- Bits of an element. -/
def elemWidth (fmt : Nat) : Nat := 32 / perLane fmt

def zeroReg : List Word := List.replicate 512 0#32

/-- The lanes of V[r]. -/
def Core.v (k : Core) (r : Nat) : List Word := Cells.get zeroReg k.vreg r

/-- The lanes of SC[r] (R189). -/
def Core.sc (k : Core) (r : Nat) : List Word := Cells.get zeroReg k.carry r

/-- The elements of one lane, n of them, lowest bits first. -/
def laneElems (n : Nat) (w : Word) : List Nat := (List.range n).map (fun j => bits w.toNat (32 / n * (j + 1) - 1) (32 / n * j))

/-- One lane from its elements. -/
def laneOf (n : Nat) (xs : List Nat) : Word :=
  BitVec.ofNat 32 (xs.foldr (fun x acc => x % 2 ^ (32 / n) + 2 ^ (32 / n) * acc) 0)

/-- A lane with some elements replaced. -/
def laneMerge (n : Nat) (w : Word) (xs : List (Option Nat)) : Word :=
  laneOf n (List.zipWith (fun old x => Option.getD x old) (laneElems n w) (xs ++ List.replicate (n - xs.length) none))

/-- Lanes with some elements replaced, from lane 0 on; lanes beyond the list are kept. -/
def lanesMerge (n : Nat) : List Word → List (Option Nat) → List Word
  | [], _ => []
  | w :: ws, xs => if xs.isEmpty then w :: ws else laneMerge n w (xs.take n) :: lanesMerge n ws (xs.drop n)

/-- The lanes, counted from i, of which every element is replaced. -/
def wholeLanes (n : Nat) : Nat → Nat → List (Option Nat) → List Nat
  | 0, _, _ => []
  | fuel + 1, i, xs =>
    if xs.isEmpty then []
    else
      let rest := wholeLanes n fuel (i + 1) (xs.drop n)
      if (xs.take n).length = n && (xs.take n).all Option.isSome then i :: rest else rest

/-- Writes elements of V[r] from element 0 on; `none` keeps (R127). A broken lane word written whole is whole again. -/
def Core.putElems (k : Core) (r fmt : Nat) (xs : List (Option Nat)) : Core :=
  let n := perLane fmt
  let whole := wholeLanes n 512 0 xs
  { k with
    vreg := Cells.set zeroReg k.vreg r (lanesMerge n (k.v r) xs)
    vregBad := k.vregBad.filter (fun b => !(b.1 == r && whole.contains b.2)) }

/-- Writes elements of SC[r]. -/
def Core.putCarry (k : Core) (r fmt : Nat) (xs : List (Option Nat)) : Core :=
  let n := perLane fmt
  let whole := wholeLanes n 512 0 xs
  { k with
    carry := Cells.set zeroReg k.carry r (lanesMerge n (k.sc r) xs)
    vregBad := k.vregBad.filter (fun b => !(b.1 == 64 + r && whole.contains b.2)) }

/-- What an element of an uncorrectable word is taken as (R153): the canonical NaN, or integer 0. -/
def badElem (fmt : Nat) : Nat := if Fmt.isFloat fmt then (Fmt.float fmt).nanBits else 0

/-- The elements of the first vl lanes of a register number (0-63 V, 64-71 SC), broken lanes replaced (R153, R204). -/
def Core.elems (k : Core) (r fmt vl : Nat) : List Nat :=
  let n := perLane fmt
  let ls := ((if r < 64 then k.v r else k.sc (r - 64)).take vl).zipIdx
  ls.flatMap (fun w => if k.vregBad.contains (r, w.2) then List.replicate n (badElem fmt) else laneElems n w.1)

/-- The fault of an instruction that reads broken lanes of its source registers: the first one, and how many (R153, R623). -/
def Core.badSources (k : Core) (rs : List Nat) (vl n : Nat) : Option CmdFault :=
  let bad := rs.flatMap (fun r => k.vregBad.filter (fun b => b.1 == r && decide (b.2 < vl)))
  match bad with
  | [] => none
  | b :: _ => some { status := St.UNCORRECTABLE, akind := 4, addr := b.1 * 65536 + b.2, detail := b.2 * n, count := bad.length }

/-- Mask register r as bits. -/
def Core.m (k : Core) (r : Nat) : BitVec 2048 := Cells.get 0#2048 k.mask r

def Core.setM (k : Core) (r : Nat) (v : BitVec 2048) : Core := { k with mask := Cells.set 0#2048 k.mask r v }

/-! ## Fields of a VXQ command (R139) -/

def vxImm (c : Nat) : Nat := bits c 255 224
def vxStride (c : Nat) : Int := sext 24 (bits c 223 200)
def vxSaddr (c : Nat) : Nat := bits c 199 177
def vxAddr (c : Nat) : Nat := bits c 176 154
def vxMb (c : Nat) : Nat := bits c 101 99
def vxMa (c : Nat) : Nat := bits c 98 96
def vxMd (c : Nat) : Nat := bits c 95 93
def vxVc (c : Nat) : Nat := bits c 87 82
def vxVb (c : Nat) : Nat := bits c 81 76
def vxVa (c : Nat) : Nat := bits c 75 70
def vxVd (c : Nat) : Nat := bits c 69 64
def vxFmt (c : Nat) : Nat := bits c 63 59
def vxMfmt (c : Nat) : Nat := bits c 58 54
def vxLayout (c : Nat) : Bool := bit c 53
def vxMz (c : Nat) : Bool := bit c 52
def vxMen (c : Nat) : Bool := bit c 51
def vxMsel (c : Nat) : Nat := bits c 50 48
def vxFunc (c : Nat) : Nat := bits c 39 32

/-- Field positions. -/
def fImm : Nat × Nat := (255, 224)
def fStride : Nat × Nat := (223, 200)
def fSaddr : Nat × Nat := (199, 177)
def fAddr : Nat × Nat := (176, 154)
def fMb : Nat × Nat := (101, 99)
def fMa : Nat × Nat := (98, 96)
def fMd : Nat × Nat := (95, 93)
def fVc : Nat × Nat := (87, 82)
def fVb : Nat × Nat := (81, 76)
def fVa : Nat × Nat := (75, 70)
def fVd : Nat × Nat := (69, 64)
def fFmt : Nat × Nat := (63, 59)
def fMfmt : Nat × Nat := (58, 54)
def fLayout : Nat × Nat := (53, 53)
/-- MZ, MEN and MSEL together. -/
def fMask : Nat × Nat := (52, 48)
def fMsel : Nat × Nat := (50, 48)

/-- Whether a bit outside the used fields, the opcode, FUNC and TAG is set. -/
def unusedSet (used : List (Nat × Nat)) (c : Nat) : Bool :=
  let m := ((39, 0) :: used).foldl (fun (m : BitVec 256) f => m ||| BitVec.ofNat 256 (2 ^ (f.1 + 1) - 2 ^ f.2)) 0#256
  decide (BitVec.ofNat 256 c &&& ~~~m &&& ~~~(BitVec.ofNat 256 (2 ^ 48 - 2 ^ 40)) ≠ 0#256) || bits c 47 40 != 0

/-- E of a command (R126). -/
def Core.count (k : Core) (fmt : Nat) : Nat := k.vl * perLane fmt

/-- Which of the first E elements the command's mask enables (R129). -/
def Core.enabled (k : Core) (c e : Nat) : List Bool :=
  if vxMen c then (List.range e).map (fun i => (k.m (vxMsel c)).toNat.testBit i) else List.replicate e true

/-- Results merged under the mask: a disabled element keeps its contents, or is zeroed under MZ (R129). -/
def underMask (c : Nat) (en : List Bool) (xs : List Nat) : List (Option Nat) :=
  List.zipWith (fun b x => if b then some x else if vxMz c then some 0 else none) en xs

/-! ## Running a command -/

/-- What an instruction leaves beside its registers and memory: counts, its fault, and the cycles its units were occupied. -/
structure VxOut where
  tally : Tally := {}
  fault : Option CmdFault := none
  busy : List (Nat × Nat) := []
  deriving DecidableEq, Repr

/-- The counters of a tally (R142, R144, R183). -/
def CmdResult.withTally (c : Nat) (t : Tally) (r : CmdResult) : CmdResult :=
  let r := r.withCounts c t.conv
  { r with
    add32 := r.add32 ++ [(Reg.VX_NAN_GEN c, t.nanGen), (Reg.VX_OVF c, t.ovf), (Reg.VX_ISAT c, t.isat), (Reg.SF_SAT c, t.sfSat),
                         (Reg.SF_OOR c, t.oor), (Reg.SF_MONO_CLAMP c, t.mono)]
    lastTags := if t.nanGen + t.ovf + t.isat = 0 then r.lastTags else r.lastTags ++ [Reg.VX_LASTTAG c] }

/-- The result of a vector instruction. -/
def VxOut.result (c : Nat) (o : VxOut) : CmdResult :=
  CmdResult.withTally c o.tally
    { status := if o.fault.isSome then St.UNCORRECTABLE else St.OK, faults := o.fault.toList, add64 := o.busy }

/-- An instruction of VXQ as its catalogue row gives it: opcode and function, fields used, formats accepted, further
conditions of order 1, 2 and 3 of R152. -/
structure VxOp where
  opc : Nat
  func : Nat → Bool
  used : List (Nat × Nat)
  fmtOk : Nat → Bool
  field : Nat → Bool := fun _ => false
  format : Nat → Bool := fun _ => false
  range : Core → Nat → Bool := fun _ _ => false

/-- Whether an entry holds the instruction. -/
def VxOp.holds (o : VxOp) (e : QEntry) : Bool := e.opc == o.opc && o.func (vxFunc e.c)

/-- The checks of R152 in order; VL = 0 skips the third (R128). -/
def VxOp.check (o : VxOp) (k : Core) (c : Nat) : Option Nat :=
  firstStatus
    [(unusedSet o.used c || (o.used.contains fMask && !vxMen c && (vxMsel c != 0 || vxMz c)) || o.field c, St.BAD_FIELD),
     (!o.fmtOk (vxFmt c) || o.format c, St.BAD_FORMAT),
     (k.vl != 0 && o.range k c, St.BAD_RANGE)]

/-- Runs the instruction at the head of VXQ of core c: its checks, nothing at VL = 0 (R128), or its operation. -/
def Device.vx (d : Device) (c : Nat) (o : VxOp) (f : Device → Nat → Device × VxOut) : Device :=
  d.runChecked c 2 o.holds (fun d e => o.check (d.core c) e.c) (fun d e =>
    if (d.core c).vl = 0 then (d, {})
    else
      let r := f d e.c
      (r.1, r.2.result c))

/-! ## Register formats -/

def isReg (fmt : Nat) : Bool := Fmt.isFloat fmt || Fmt.isInt fmt
def anyFmt (_ : Nat) : Bool := true

/-- Occupancy of one cycle in the arithmetic unit (R150). -/
def arith (c n : Nat) : List (Nat × Nat) := [(Reg.VX_ARITH_BUSY_LO c, n)]

/-- A floating result rounded once, with what it counts (R142); `ops` are its operands. -/
def farith (f : FloatFmt) (ops : List Num) (v : Num) : Nat × Tally :=
  let r := f.round false v
  (r.bits, { nanGen := if v.isNan && !ops.any Num.isNan then 1 else 0, ovf := if r.beyond then 1 else 0 })

/-- An element-wise operation of up to three sources (R140): VA, VB, VC by number of sources. -/
def Device.vxMap (d : Device) (c w : Nat) (srcs : List Nat) (f : List Nat → Nat × Tally) : Device × VxOut :=
  let k := d.core c
  let fmt := vxFmt w
  let n := perLane fmt
  let en := k.enabled w (k.count fmt)
  let cols := srcs.map (fun r => k.elems r fmt k.vl)
  let rows := (List.range (k.count fmt)).map (fun i => cols.map (fun col => col.getD i 0))
  let rs := List.zipWith (fun b row => if b then f row else (0, {})) en rows
  (d.modCore c (fun k => k.putElems (vxVd w) fmt (underMask w en (rs.map (·.1)))),
   { tally := Tally.sum (rs.map (·.2)), fault := k.badSources srcs k.vl n, busy := arith c 1 })

/-- A floating instruction of OPC 0x30 with n sources. -/
def vxFloatOp (func n : Nat) : VxOp :=
  { opc := 0x30, func := (· == func), used := [fFmt, fMask, fVd] ++ [fVa, fVb, fVc].take n, fmtOk := Fmt.isFloat }

/-- The register numbers of the first n sources. -/
def vxSources (n w : Nat) : List Nat := [vxVa w, vxVb w, vxVc w].take n

/-- A floating operation on exact values, each result rounded once. -/
def Device.floatWork (d : Device) (c n : Nat) (f : List Num → Num) (w : Nat) : Device × VxOut :=
  let g := Fmt.float (vxFmt w)
  d.vxMap c w (vxSources n w) (fun xs => farith g (xs.map g.decode) (f (xs.map g.decode)))

def Device.vxFloat (d : Device) (c func n : Nat) (f : List Num → Num) : Device :=
  d.vx c (vxFloatOp func n) (fun d w => d.floatWork c n f w)

/-- A floating operation on bit patterns, whose result is not rounded: it counts nothing (R143). -/
def Device.signWork (d : Device) (c n : Nat) (f : FloatFmt → List Nat → Nat) (w : Nat) : Device × VxOut :=
  d.vxMap c w (vxSources n w) (fun xs => (f (Fmt.float (vxFmt w)) xs, {}))

def Device.vxSign (d : Device) (c func n : Nat) (f : FloatFmt → List Nat → Nat) : Device :=
  d.vx c (vxFloatOp func n) (fun d w => d.signWork c n f w)

/-- The first, second and third operand. -/
def nth (xs : List Num) (i : Nat) : Num := xs.getD i .nan
def nthBits (xs : List Nat) (i : Nat) : Nat := xs.getD i 0

/-- An integer instruction of OPC 0x31. -/
def vxIntOp (func n : Nat) : VxOp :=
  { opc := 0x31, func := (· == func), used := [fFmt, fMask, fVd] ++ [fVa, fVb].take n, fmtOk := Fmt.isInt }

/-- An integer operation: on the element width and the operands' patterns. -/
def Device.intWork (d : Device) (c n : Nat) (f : Nat → List Nat → Nat × Tally) (w : Nat) : Device × VxOut :=
  d.vxMap c w (vxSources n w) (f (elemWidth (vxFmt w)))

def Device.vxInt (d : Device) (c func n : Nat) (f : Nat → List Nat → Nat × Tally) : Device :=
  d.vx c (vxIntOp func n) (fun d w => d.intWork c n f w)

/-- A wrapping result (R144). -/
def wrapped (w : Nat) (v : Int) : Nat × Tally := (wrap w v, {})

/-- A saturating result (R144). -/
def saturated (w : Nat) (v : Int) : Nat × Tally :=
  let hi : Int := 2 ^ (w - 1) - 1
  let lo : Int := -(2 ^ (w - 1) : Int)
  if hi < v then (wrap w hi, { isat := 1 }) else if v < lo then (wrap w lo, { isat := 1 }) else (wrap w v, {})

/-- vx.iota (R155): element i is i, modulo the element width. -/
def Device.iotaWork (d : Device) (c w : Nat) : Device × VxOut :=
  let k := d.core c
  let fmt := vxFmt w
  let en := k.enabled w (k.count fmt)
  (d.modCore c (fun k => k.putElems (vxVd w) fmt (underMask w en ((List.range (k.count fmt)).map (· % 2 ^ elemWidth fmt)))),
   { busy := arith c 1 })

def Device.vxIota (d : Device) (c : Nat) : Device := d.vx c (vxIntOp 0x0E 0) (fun d w => d.iotaWork c w)

/-! ## Masks -/

/-- A mask value from its low bits. -/
def maskOf (bs : List Bool) : BitVec 2048 :=
  BitVec.ofNat 2048 (bs.foldr (fun b acc => (if b then 1 else 0) + 2 * acc) 0)

/-- The bits below E of a mask as a mask. -/
def lowMask (e : Nat) : BitVec 2048 := BitVec.ofNat 2048 (2 ^ e - 1)

/-- The instruction of `Device.vxCmp`: its opcode, fields and checks. -/
def cmpOp (func : Nat) : VxOp :=
  { opc := 0x32, func := (· == func), used := [fFmt, fMask, fMd, fVa, fVb], fmtOk := isReg,
    format := fun w => func == 0x06 && Fmt.isInt (vxFmt w) }

/-- What it does. -/
def Device.cmpWork (d : Device) (c : Nat) (f : Num → Num → Bool) (w : Nat) : Device × VxOut :=
  let k := d.core c
  let fmt := vxFmt w
  let en := k.enabled w (k.count fmt)
  let val := fun x => elemValue fmt false 0x7F x
  let r := List.zipWith (fun x y => f (val x) (val y)) (k.elems (vxVa w) fmt k.vl) (k.elems (vxVb w) fmt k.vl)
  let old := (k.m (vxMd w)).toNat
  let out := (List.zipWith (fun b v => (b, v)) en r).zipIdx.map
    (fun x => if x.1.1 then x.1.2 else if vxMz w then false else old.testBit x.2)
  (d.modCore c (fun k => k.setM (vxMd w) (maskOf out)),
   { fault := k.badSources (vxSources 2 w) k.vl (perLane fmt), busy := arith c 1 })

/-- vx.cmp (R141, R145): a comparison of two patterns in a format. -/
def Device.vxCmp (d : Device) (c func : Nat) (f : Num → Num → Bool) : Device :=
  d.vx c (cmpOp func) (fun d w => d.cmpWork c f w)

/-- The instruction of `Device.vxMaskOp`: its opcode, fields and checks. -/
def maskOpOp (func : Nat) (n : Nat) : VxOp :=
  { opc := 0x36, func := (· == func), used := [fFmt, fMd] ++ [fMa, fMb].take n, fmtOk := isReg }

/-- What it does. -/
def Device.maskOpWork (d : Device) (c : Nat) (f : BitVec 2048 → BitVec 2048 → BitVec 2048) (w : Nat) : Device × VxOut :=
  (d.modCore c (fun k => k.setM (vxMd w) (f (k.m (vxMa w)) (k.m (vxMb w)) &&& lowMask (k.count (vxFmt w)))),
   { busy := arith c 1 })

/-- A mask operation of OPC 0x36 with n sources (R141). -/
def Device.vxMaskOp (d : Device) (c func n : Nat) (f : BitVec 2048 → BitVec 2048 → BitVec 2048) : Device :=
  d.vx c (maskOpOp func n) (fun d w => d.maskOpWork c f w)

/-- The instruction of `Device.vxMaskQuery`: its opcode, fields and checks. -/
def maskQueryOp (func : Nat) : VxOp :=
  { opc := 0x37, func := (· == func), used := [fFmt, fVd, fMa], fmtOk := isReg }

/-- What it does. -/
def Device.maskQueryWork (d : Device) (c : Nat) (f : Nat → Nat → Nat) (w : Nat) : Device × VxOut :=
  let k := d.core c
  let v := f (k.m (vxMa w)).toNat (k.count (vxFmt w))
  (d.modCore c (fun k => k.putElems (vxVd w) Fmt.INT32 (List.replicate k.vl (some v))), { busy := arith c 1 })

/-- vx.mcnt and vx.mfirst: an INT32 in every lane below VL. -/
def Device.vxMaskQuery (d : Device) (c func : Nat) (f : Nat → Nat → Nat) : Device :=
  d.vx c (maskQueryOp func) (fun d w => d.maskQueryWork c f w)

/-- The instruction of `Device.vxSel`: its opcode, fields and checks. -/
def selOp : VxOp :=
  { opc := 0x33, func := (· == 0x00), used := [fFmt, fMsel, fVd, fVa, fVb], fmtOk := isReg }

/-- What it does. -/
def Device.selWork (d : Device) (c : Nat) (w : Nat) : Device × VxOut :=
  let k := d.core c
  let fmt := vxFmt w
  let m := (k.m (vxMsel w)).toNat
  let out := (List.zipWith (fun x y => (x, y)) (k.elems (vxVa w) fmt k.vl) (k.elems (vxVb w) fmt k.vl)).zipIdx.map
    (fun x => some (if m.testBit x.2 then x.1.1 else x.1.2))
  (d.modCore c (fun k => k.putElems (vxVd w) fmt out),
   { fault := k.badSources (vxSources 2 w) k.vl (perLane fmt), busy := arith c 1 })

/-- vx.sel: VA where the select mask has a 1, else VB. -/
def Device.vxSel (d : Device) (c : Nat) : Device :=
  d.vx c selOp (fun d w => d.selWork c w)

/-- The instruction of `Device.vxMov`: its opcode, fields and checks. -/
def movOp : VxOp :=
  { opc := 0x38, func := (· == 0x00), used := [fFmt, fMask, fVd, fVa], fmtOk := isReg }

/-- What it does. -/
def Device.movWork (d : Device) (c : Nat) (w : Nat) : Device × VxOut :=
  d.vxMap c w [vxVa w] (fun xs => (nthBits xs 0, {}))

/-- vx.mov: bits unchanged. -/
def Device.vxMov (d : Device) (c : Nat) : Device :=
  d.vx c movOp (fun d w => d.movWork c w)

/-- The instruction of `Device.vxSetvl`: its opcode, fields and checks. -/
def setvlOp : VxOp :=
  { opc := 0x20, func := (· == 0x00), used := [fImm], fmtOk := anyFmt, field := fun w => decide (vxImm w > 512) }

/-- vx.setvl (R128, R155): the one instruction that runs at VL = 0. -/
def Device.vxSetvl (d : Device) (c : Nat) : Device :=
  d.runChecked c 2 setvlOp.holds (fun d e => setvlOp.check (d.core c) e.c) (fun d e =>
    (d.modCore c (fun k => { k with vl := vxImm e.c }), {}))

/-! ## Conversion between registers (R146) -/

/-- The ratio of a conversion's elements per lane. -/
def cvtRatio (w : Nat) : Nat :=
  let ns := perLane (vxFmt w)
  let nd := perLane (vxMfmt w)
  max ns nd / min ns nd

/-- Whether vx.cvt narrows: more elements in a destination lane. -/
def cvtNarrow (w : Nat) : Bool := decide (perLane (vxFmt w) < perLane (vxMfmt w))

/-- Transposes columns of n-element groups: group i of each list in turn. -/
def interleave (n : Nat) : Nat → List (List Nat) → List Nat
  | 0, _ => []
  | k + 1, cols => cols.flatMap (·.take n) ++ interleave n k (cols.map (·.drop n))

/-- The instruction of `Device.vxCvt`: its opcode, fields and checks. -/
def cvtOp : VxOp :=
  let both := fun w => isReg (vxFmt w) && isReg (vxMfmt w)
  { opc := 0x34, func := (· == 0x00), used := [fFmt, fMfmt, fMask, fVd, fVa], fmtOk := isReg,
    field := fun w => both w && decide (cvtRatio w > 1) &&
      (vxMen w || decide ((if cvtNarrow w then vxVa w else vxVd w) + cvtRatio w > 64)),
    format := fun w => !isReg (vxMfmt w) }

/-- What it does. -/
def Device.cvtWork (d : Device) (c : Nat) (w : Nat) : Device × VxOut :=
  let k := d.core c
  let fs := vxFmt w
  let fd := vxMfmt w
  let ns := perLane fs
  let nd := perLane fd
  let r := cvtRatio w
  let conv := fun x => toElem fd (elemValue fs false 0x7F x)
  let tally := fun (rs : List (Nat × Counts)) => ({ conv := rs.foldl (fun a x => a.add x.2) {} } : Tally)
  let srcs := if cvtNarrow w then (List.range r).map (vxVa w + ·) else [vxVa w]
  let fault := k.badSources srcs k.vl ns
  if r = 1 then
    let en := k.enabled w (k.count fs)
    let rs := List.zipWith (fun b x => if b then conv x else (0, {})) en (k.elems (vxVa w) fs k.vl)
    (d.modCore c (fun k => k.putElems (vxVd w) fd (underMask w en (rs.map (·.1)))),
     { tally := tally rs, fault := fault, busy := arith c 1 })
  else if cvtNarrow w then
    let rs := (interleave ns k.vl (srcs.map (fun q => k.elems q fs k.vl))).map conv
    (d.modCore c (fun k => k.putElems (vxVd w) fd (rs.map (fun x => some x.1))),
     { tally := tally rs, fault := fault, busy := arith c (ceilDiv r 3) })
  else
    let rs := (k.elems (vxVa w) fs k.vl).map conv
    let lanes := chunks ns k.vl (rs.map (·.1))
    let out := fun q => lanes.flatMap (fun l => ((l.drop (q * nd)).take nd).map some)
    (d.modCore c (fun k => (List.range r).foldl (fun k q => k.putElems (vxVd w + q) fd (out q)) k),
     { tally := tally rs, fault := fault, busy := arith c r })

def Device.vxCvt (d : Device) (c : Nat) : Device :=
  d.vx c cvtOp (fun d w => d.cvtWork c w)

/-! ## The fixed tree (R147) -/

/-- One level of a tree over neighbours: a node with one child present forwards it; what the joins count is added. -/
def treeLevel {α : Type} (join : α → α → α × Tally) : List (Option α) → List (Option α) × Tally
  | [] => ([], {})
  | [x] => ([x], {})
  | x :: y :: rest =>
    let r := treeLevel join rest
    match x, y with
    | some u, some v => (some (join u v).1 :: r.1, (join u v).2.add r.2)
    | some u, none => (some u :: r.1, r.2)
    | none, v => (v :: r.1, r.2)

/-- n levels of the tree: the nodes of level n. -/
def treeLevels {α : Type} (join : α → α → α × Tally) : Nat → List (Option α) → List (Option α) × Tally
  | 0, xs => (xs, {})
  | n + 1, xs =>
    let r := treeLevel join xs
    let q := treeLevels join n r.1
    (q.1, r.2.add q.2)

/-- The leaves of a reduction: the enabled elements as values, the others absent. -/
def leavesOf (fmt : Nat) (en : List Bool) (xs : List Nat) : List (Option Num) :=
  List.zipWith (fun b x => if b then some (elemValue fmt false 0x7F x) else none) en xs

/-- A sum rounded to FP32 (R142), as a value. -/
def addFp32 (u v : Num) : Num × Tally :=
  let r := farith fp32 [u, v] (u.add v)
  (Num.ofFp32 r.1, r.2)

/-- A sum that wraps at 32 bits, of integer values. -/
def addInt32 (u v : Num) : Num × Tally :=
  (Num.of (sext 32 (wrap 32 ((u.add v).roundAt 0).1)) 0, {})

/-- An integer pattern of a value of an integer format. -/
def intBits (w : Nat) (v : Num) : Nat := wrap w (v.roundAt 0).1

/-- The instruction of `Device.vxReduce`: its opcode, fields and checks. -/
def reduceOp (func : Nat) : VxOp :=
  { opc := 0x35, func := (· == func), used := [fFmt, fMask, fVd, fVa], fmtOk := isReg }

/-- What it does. -/
def Device.reduceWork (d : Device) (c : Nat) (func : Nat) (w : Nat) : Device × VxOut :=
  let k := d.core c
  let fmt := vxFmt w
  let int := Fmt.isInt fmt
  let en := k.enabled w (k.count fmt)
  let join := if func = 0 then (if int then addInt32 else addFp32)
    else if func = 1 then (fun u v => (u.maximum v, {})) else (fun u v => (u.minimum v, {}))
  let r := treeLevels join 11 (leavesOf fmt en (k.elems (vxVa w) fmt k.vl))
  let out := if func = 0 then (if int then Fmt.INT32 else Fmt.FP32) else fmt
  let bw := elemWidth out
  let empty : Nat :=
    if func = 0 then 0
    else if func = 1 then (if int then 2 ^ (bw - 1) else ((Fmt.float out).round false (.inf true)).bits)
    else (if int then 2 ^ (bw - 1) - 1 else ((Fmt.float out).round false (.inf false)).bits)
  let v : Nat := match r.1.head? with
    | some (some x) => if int then intBits bw x else ((Fmt.float out).round false x).bits
    | _ => empty
  (d.modCore c (fun k => k.putElems (vxVd w) out (List.replicate (k.vl * perLane out) (some v))),
   { tally := r.2, fault := k.badSources [vxVa w] k.vl (perLane fmt), busy := arith c (if perLane fmt > 1 then 2 else 1) })

/-- vx.rsum, vx.rmax, vx.rmin: the root goes to every element, or lane, below VL. -/
def Device.vxReduce (d : Device) (c func : Nat) : Device :=
  d.vx c (reduceOp func) (fun d w => d.reduceWork c func w)

/-! ## Memory (R131-R138) -/

/-- Size of a memory element of a non-block format. -/
def elemSize (fmt : Nat) : Nat := Fmt.elemBits fmt false / 8

/-- The address of element i (R132), as it may fall below 0. -/
def vxElemAddr (w i : Nat) : Int := (vxAddr w : Int) + (i : Int) * vxStride w

/-- Whether an enabled element of size s leaves local SRAM. -/
def Core.vxOutside (k : Core) (w fmt s : Nat) : Bool :=
  (k.enabled w (k.count fmt)).zipIdx.any (fun x =>
    x.1 && (decide (vxElemAddr w x.2 < 0) || decide (vxElemAddr w x.2 + (s : Int) > (sramSize : Int))))

/-- Whether block j of 32 elements holds an enabled one (R138). -/
def blockTouched (en : List Bool) (j : Nat) : Bool := ((en.drop (32 * j)).take 32).any id

/-- The address of block j and of its scale byte (R138). -/
def vxBlockAddr (w j : Nat) : Nat := vxAddr w + j * Fmt.blockBytes (vxMfmt w) (vxLayout w)
def vxScaleAddr (w j : Nat) : Nat := vxSaddr w + j

/-- Whether a touched block or its scale byte leaves local SRAM. -/
def Core.vxBlockOutside (k : Core) (w fmt : Nat) : Bool :=
  let en := k.enabled w (k.count fmt)
  (List.range (ceilDiv (k.count fmt) 32)).any (fun j => blockTouched en j &&
    (decide (vxBlockAddr w j + Fmt.blockBytes (vxMfmt w) (vxLayout w) > sramSize) || decide (vxScaleAddr w j ≥ sramSize)))

/-- The bank of a local SRAM unit (R249). -/
def sramBank (u : Nat) : Nat := (u + u / 64) % 64

/-- The largest number of distinct lines of a list in one bank (R136). -/
def bankDepth (units : List Nat) : Nat :=
  let us := units.eraseDups
  (List.range 64).foldl (fun m b => max m (us.filter (fun u => sramBank u == b)).length) 0

/-- Port cycles of a vx.ld or vx.st (R136). -/
def Core.portCycles (k : Core) (w fmt : Nat) : Nat :=
  let s := elemSize fmt
  let e := k.count fmt
  let base := max 1 (ceilDiv (e * s) 2048)
  if vxStride w = 0 ∨ vxStride w = (s : Int) then base
  else max base (bankDepth (((k.enabled w e).zipIdx.filter (·.1)).map (fun x => (vxElemAddr w x.2).toNat / 64)))

/-- The fault of reading or writing bad words of local SRAM: first byte offset and element, and how many (R153, R253). -/
def sramFault (bad : List (Nat × Nat)) : Option CmdFault :=
  match bad with
  | [] => none
  | b :: _ => some { status := St.UNCORRECTABLE, akind := 1, addr := b.1, detail := b.2, count := bad.length }

/-- Reads elements one by one: the device, the raw codes (`none` for one that is not enabled), the bad ones. -/
def Device.vxRead (d : Device) (c w s bad : Nat) : List (Bool × Nat) → Device × List Nat × List (Nat × Nat)
  | [] => (d, [], [])
  | (en, i) :: rest =>
    if en then
      let r := d.sramRead c (vxElemAddr w i).toNat s
      let q := r.1.vxRead c w s bad rest
      match r.2.2 with
      | some a => (q.1, bad :: q.2.1, (a, i) :: q.2.2)
      | none => (q.1, leNat r.2.1 :: q.2.1, q.2.2)
    else
      let q := d.vxRead c w s bad rest
      (q.1, 0 :: q.2.1, q.2.2)

/-- Writes elements one by one, ascending (R135). -/
def Device.vxWrite (d : Device) (c w s : Nat) : List (Bool × Nat × Nat) → Device × List (Nat × Nat)
  | [] => (d, [])
  | (en, i, x) :: rest =>
    if en then
      let a := (vxElemAddr w i).toNat
      let r := d.sramStore c a (toLe s x)
      let q := r.1.vxWrite c w s rest
      (q.1, if r.2 then (a / 8 * 8, i) :: q.2 else q.2)
    else d.vxWrite c w s rest

/-- Alignment of ADDR and STRIDE to the element size (R132). -/
def vxMisaligned (w s : Nat) : Bool := decide (vxAddr w % s ≠ 0) || decide (vxStride w % (s : Int) ≠ 0)

/-- The instruction of `Device.vxLd`: its opcode, fields and checks. -/
def ldOp : VxOp :=
  { opc := 0x21, func := (· == 0x00), used := [fFmt, fMask, fVd, fAddr, fStride], fmtOk := isReg,
    field := fun w => isReg (vxFmt w) && vxMisaligned w (elemSize (vxFmt w)),
    range := fun k w => k.vxOutside w (vxFmt w) (elemSize (vxFmt w)) }

/-- What it does. -/
def Device.ldWork (d : Device) (c : Nat) (w : Nat) : Device × VxOut :=
  let k := d.core c
  let fmt := vxFmt w
  let en := k.enabled w (k.count fmt)
  let r := d.vxRead c w (elemSize fmt) (badElem fmt) en.zipIdx
  (r.1.modCore c (fun k => k.putElems (vxVd w) fmt (underMask w en r.2.1)),
   { fault := sramFault r.2.2, busy := [(Reg.VX_RD_BUSY_LO c, k.portCycles w fmt)] })

def Device.vxLd (d : Device) (c : Nat) : Device :=
  d.vx c ldOp (fun d w => d.ldWork c w)

/-- The instruction of `Device.vxSt`: its opcode, fields and checks. -/
def stOp : VxOp :=
  { opc := 0x22, func := (· == 0x00), used := [fFmt, fMask, fVa, fAddr, fStride], fmtOk := isReg,
    field := fun w => isReg (vxFmt w) && vxMisaligned w (elemSize (vxFmt w)),
    range := fun k w => k.vxOutside w (vxFmt w) (elemSize (vxFmt w)) }

/-- What it does. -/
def Device.stWork (d : Device) (c : Nat) (w : Nat) : Device × VxOut :=
  let k := d.core c
  let fmt := vxFmt w
  let en := k.enabled w (k.count fmt)
  let xs := List.zipWith (fun b x => (b.1, b.2, x)) en.zipIdx (k.elems (vxVa w) fmt k.vl)
  let r := d.vxWrite c w (elemSize fmt) xs
  let f := (k.badSources [vxVa w] k.vl (perLane fmt)).or (sramFault r.2)
  (r.1, { fault := f, busy := [(Reg.VX_WR_BUSY_LO c, k.portCycles w fmt)] })

def Device.vxSt (d : Device) (c : Nat) : Device :=
  d.vx c stOp (fun d w => d.stWork c w)

/-- The conditions of order 1 of vx.ldcvt and vx.stcvt on ADDR, STRIDE and LAYOUT (R132, R138, R152). -/
def vxCvtField (w : Nat) : Bool :=
  let m := vxMfmt w
  (vxLayout w && !Fmt.isLadder m) || (Fmt.isBlock m && decide (vxStride w ≠ 0))
    || (isReg m && vxMisaligned w (elemSize m))

def Core.vxCvtOutside (k : Core) (w : Nat) : Bool :=
  if Fmt.isBlock (vxMfmt w) then k.vxBlockOutside w (vxFmt w) else k.vxOutside w (vxFmt w) (elemSize (vxMfmt w))

/-- Bytes of memory a converting load or store covers, for its port (R150). -/
def Core.cvtBytes (k : Core) (w : Nat) : Nat :=
  if Fmt.isBlock (vxMfmt w) then ceilDiv (k.count (vxFmt w)) 32 * Fmt.blockBytes (vxMfmt w) (vxLayout w)
  else k.count (vxFmt w) * elemSize (vxMfmt w)

/-- Loads block j of a converting load: the values of its enabled elements as codes of FMT, counts, bad words (R138, R153). -/
def Device.vxLoadBlock (d : Device) (c w : Nat) (en : List Bool) (j : Nat) : Device × List Nat × Counts × List (Nat × Nat) :=
  let m := vxMfmt w
  let sl := vxLayout w
  let n := ((en.drop (32 * j)).take 32).length
  if blockTouched en j then
    let r := d.sramRead c (vxBlockAddr w j) (Fmt.blockBytes m sl)
    let q := r.1.sramRead c (vxScaleAddr w j) 1
    let bad := r.2.2.toList ++ q.2.2.toList
    let S := if bad.isEmpty then byteAt q.2.1 0 else 0xFF
    let rs := ((List.range n).zip ((en.drop (32 * j)).take 32)).map (fun i =>
      if i.2 then toElem (vxFmt w) (elemValue m sl S (rawElem m sl r.2.1 i.1)) else (0, {}))
    (q.1, rs.map (·.1), (if S = 0xFF then { poison := 1 } else rs.foldl (fun a x => a.add x.2) {}), bad.map (fun a => (a, 32 * j)))
  else (d, List.replicate n 0, {}, [])

def Device.vxLoadBlocks (d : Device) (c w : Nat) (en : List Bool) : List Nat → Device × List Nat × Counts × List (Nat × Nat)
  | [] => (d, [], {}, [])
  | j :: js =>
    let r := d.vxLoadBlock c w en j
    let q := r.1.vxLoadBlocks c w en js
    (q.1, r.2.1 ++ q.2.1, r.2.2.1.add q.2.2.1, r.2.2.2 ++ q.2.2.2)

/-- The instruction of `Device.vxLdcvt`: its opcode, fields and checks. -/
def ldcvtOp : VxOp :=
  { opc := 0x23, func := (· == 0x00), used := [fFmt, fMfmt, fMask, fVd, fAddr, fStride, fSaddr, fLayout], fmtOk := isReg,
    field := vxCvtField, format := fun w => !Fmt.legal (vxMfmt w), range := fun k w => k.vxCvtOutside w }

/-- What it does. -/
def Device.ldcvtWork (d : Device) (c : Nat) (w : Nat) : Device × VxOut :=
  let k := d.core c
  let fmt := vxFmt w
  let m := vxMfmt w
  let e := k.count fmt
  let en := k.enabled w e
  let busy := [(Reg.VX_RD_BUSY_LO c, max 1 (ceilDiv (k.cvtBytes w) 2048))]
  if Fmt.isBlock m then
    let r := d.vxLoadBlocks c w en (List.range (ceilDiv e 32))
    (r.1.modCore c (fun k => k.putElems (vxVd w) fmt (underMask w en r.2.1)),
     { tally := { conv := r.2.2.1 }, fault := sramFault r.2.2.2, busy := busy })
  else
    let r := d.vxRead c w (elemSize m) (badElem m) en.zipIdx
    let rs := List.zipWith (fun b x => if b then toElem fmt (elemValue m false 0x7F x) else (0, {})) en r.2.1
    (r.1.modCore c (fun k => k.putElems (vxVd w) fmt (underMask w en (rs.map (·.1)))),
     { tally := { conv := rs.foldl (fun a x => a.add x.2) {} }, fault := sramFault r.2.2, busy := busy })

def Device.vxLdcvt (d : Device) (c : Nat) : Device :=
  d.vx c ldcvtOp (fun d w => d.ldcvtWork c w)

/-- Stores block j of a converting store, its scale chosen over its enabled elements alone (R138). -/
def Device.vxStoreBlock (d : Device) (c w : Nat) (en : List Bool) (xs : List Nat) (j : Nat) :
    Device × Counts × List (Nat × Nat) :=
  let m := vxMfmt w
  let sl := vxLayout w
  if blockTouched en j then
    let vs := List.zipWith (fun b x => if b then elemValue (vxFmt w) false 0x7F x else Num.zero false)
      ((en.drop (32 * j)).take 32) ((xs.drop (32 * j)).take 32)
    let b := toBlock m sl (vs ++ List.replicate (32 - vs.length) (Num.zero false))
    let r := d.sramStore c (vxBlockAddr w j) (packElems m sl b.codes)
    let q := r.1.sramStore c (vxScaleAddr w j) [BitVec.ofNat 8 b.scale]
    (q.1, b.counts,
      (if r.2 then [(vxBlockAddr w j / 8 * 8, 32 * j)] else []) ++ (if q.2 then [(vxScaleAddr w j / 8 * 8, 32 * j)] else []))
  else (d, {}, [])

def Device.vxStoreBlocks (d : Device) (c w : Nat) (en : List Bool) (xs : List Nat) :
    List Nat → Device × Counts × List (Nat × Nat)
  | [] => (d, {}, [])
  | j :: js =>
    let r := d.vxStoreBlock c w en xs j
    let q := r.1.vxStoreBlocks c w en xs js
    (q.1, r.2.1.add q.2.1, r.2.2 ++ q.2.2)

/-- The instruction of `Device.vxStcvt`: its opcode, fields and checks. -/
def stcvtOp : VxOp :=
  { opc := 0x24, func := (· == 0x00), used := [fFmt, fMfmt, fMask, fVa, fAddr, fStride, fSaddr, fLayout], fmtOk := isReg,
    field := vxCvtField, format := fun w => !Fmt.legal (vxMfmt w), range := fun k w => k.vxCvtOutside w }

/-- What it does. -/
def Device.stcvtWork (d : Device) (c : Nat) (w : Nat) : Device × VxOut :=
  let k := d.core c
  let fmt := vxFmt w
  let m := vxMfmt w
  let e := k.count fmt
  let en := k.enabled w e
  let xs := k.elems (vxVa w) fmt k.vl
  let busy := [(Reg.VX_WR_BUSY_LO c, max 1 (ceilDiv (k.cvtBytes w) 2048))]
  let src := k.badSources [vxVa w] k.vl (perLane fmt)
  if Fmt.isBlock m then
    let r := d.vxStoreBlocks c w en xs (List.range (ceilDiv e 32))
    (r.1, { tally := { conv := r.2.1 }, fault := src.or (sramFault r.2.2), busy := busy })
  else
    let rs := List.zipWith (fun b x => if b then toElem m (elemValue fmt false 0x7F x) else (0, {})) en xs
    let r := d.vxWrite c w (elemSize m) (List.zipWith (fun b x => (b.1, b.2, x.1)) en.zipIdx rs)
    (r.1, { tally := { conv := rs.foldl (fun a x => a.add x.2) {} }, fault := src.or (sramFault r.2), busy := busy })

def Device.vxStcvt (d : Device) (c : Nat) : Device :=
  d.vx c stcvtOp (fun d w => d.stcvtWork c w)

/-- The instruction of `Device.vxLdm`: its opcode, fields and checks. -/
def ldmOp : VxOp :=
  { opc := 0x25, func := (· == 0x00), used := [fMd, fAddr], fmtOk := anyFmt,
    range := fun _ w => decide (vxAddr w + 256 > sramSize) }

/-- What it does. -/
def Device.ldmWork (d : Device) (c : Nat) (w : Nat) : Device × VxOut :=
  let r := d.sramRead c (vxAddr w) 256
  let bad := touched (d.core c).sramBad (vxAddr w) 256
  let clean := r.2.1.zipIdx.map (fun b => if bad.contains ((vxAddr w + b.2) / 8) then 0#8 else b.1)
  (r.1.modCore c (fun k => k.setM (vxMd w) (BitVec.ofNat 2048 (leNat clean))),
   { fault := sramFault (r.2.2.toList.map (fun a => (a, 8 * (a - vxAddr w)))), busy := [(Reg.VX_RD_BUSY_LO c, 1)] })

/-- vx.ldm and vx.stm move all 2,048 bits (R141). -/
def Device.vxLdm (d : Device) (c : Nat) : Device :=
  d.vx c ldmOp (fun d w => d.ldmWork c w)

/-- The instruction of `Device.vxStm`: its opcode, fields and checks. -/
def stmOp : VxOp :=
  { opc := 0x26, func := (· == 0x00), used := [fMa, fAddr], fmtOk := anyFmt,
    range := fun _ w => decide (vxAddr w + 256 > sramSize) }

/-- What it does. -/
def Device.stmWork (d : Device) (c : Nat) (w : Nat) : Device × VxOut :=
  let r := d.sramStore c (vxAddr w) (toLe 256 ((d.core c).m (vxMa w)).toNat)
  (r.1, { fault := sramFault (if r.2 then [(vxAddr w / 8 * 8, 0)] else []), busy := [(Reg.VX_WR_BUSY_LO c, 1)] })

def Device.vxStm (d : Device) (c : Nat) : Device :=
  d.vx c stmOp (fun d w => d.stmWork c w)

end Machine
end Sys2Proof
end

