-- ==== Sys2Proof/Machine/Matrix.lean ====
section
/-!
DEFINITION. The matrix array and the siphon path (R65-R124): operand blocks, the exponent prescan and the exact window
accumulator, window records and anchor tables, FP32 accumulation, the checks of the commands, gangs and routing.
-/
namespace Sys2Proof
namespace Machine

/-! ## Fields of mx.mm and sp.mv (R92, R109), addresses in bytes -/

structure Mm where
  cAddr : Nat
  xAddr : Nat
  /-- Stationary row stride in bytes. -/
  ldb : Nat
  /-- LDC as written: 32-byte units, or records in MODE PARTIAL. -/
  ldc : Nat
  asAddr : Nat
  bAddr : Nat
  bsAddr : Nat
  aw : Nat
  k : Nat
  afmt : Nat
  bfmt : Nat
  cfmt : Nat
  mode : Nat
  /-- AUTO of mx.mm, ACC of sp.mv. -/
  auto : Bool
  gang : Bool
  bshape : Bool
  trans : Bool
  aAddr : Nat
  sw16 : Bool
  m : Nat
  n : Nat
  resv : Bool
  deriving DecidableEq, Repr

def Mm.of (c : Nat) : Mm :=
  { cAddr := bits c 255 238 * 32, xAddr := bits c 237 220 * 32, ldb := bits c 219 206 * 32, ldc := bits c 205 192
    asAddr := bits c 191 174 * 32, bAddr := bits c 173 156 * 32, bsAddr := bits c 155 138 * 32, aw := bits c 137 134
    k := bits c 127 104, afmt := bits c 103 99, bfmt := bits c 98 94, cfmt := bits c 93 89, mode := bits c 88 87
    auto := bit c 86, gang := bit c 85, bshape := bit c 84, trans := bit c 83, aAddr := bits c 82 65 * 32, sw16 := bit c 64
    m := bits c 63 48, n := bits c 47 32, resv := bits c 133 128 != 0 }

/-- The streamed width a. -/
def Mm.a (x : Mm) : Nat := x.aw + 1

/-- The stationary width ws: 8 or 16 (R67). -/
def Mm.ws (x : Mm) : Nat := if Fmt.isLadder x.bfmt then (if x.bfmt > 8 then 16 else 8) else if x.sw16 then 16 else 8

/-- Blocks along K. -/
def Mm.nb (x : Mm) : Nat := ceilDiv x.k 32

/-- No output to form: nothing is read or written (R99). -/
def Mm.noOut (x : Mm) : Bool := x.m == 0 || x.n == 0

/-- Byte length of a streamed row, and its stride (R93). -/
def Mm.rowLen (x : Mm) : Nat :=
  if Fmt.isBlock x.afmt then x.nb * Fmt.blockBytes x.afmt false else x.k * floatSize x.afmt
def Mm.ra (x : Mm) : Nat := ceilDiv x.rowLen 32 * 32

/-- Memory rows of the stationary operand, the elements of one, and its byte length (R87). -/
def Mm.bRows (x : Mm) : Nat := if x.trans then x.n else x.k
def Mm.bCols (x : Mm) : Nat := if x.trans then x.k else x.n
def Mm.bBits (x : Mm) : Nat := Fmt.elemBits x.bfmt true
def Mm.bLen (x : Mm) : Nat := ceilDiv (x.bCols * x.bBits) 8

/-- A square scale array: a ladder operand with BSHAPE = 1 (R45, R93). -/
def Mm.squareScales (x : Mm) : Bool := x.bshape && Fmt.isLadder x.bfmt

/-- The address of the stationary scale of block b at column n (R93). -/
def Mm.bScale (x : Mm) (b n : Nat) : Nat :=
  x.bsAddr + (if x.squareScales then (if x.trans then n / 32 * x.nb + b else b * ceilDiv x.n 32 + n / 32)
    else (if x.trans then n * x.nb + b else b * x.n + n))

/-! ## Operand blocks (R39, R45-R53) -/

/-- A ladder block as the lanes see it: its scale code, 0xFF when poisoned, and its mantissas. -/
structure SBlock where
  scale : Nat
  xs : List Int
  deriving DecidableEq, Repr

/-- A converted block as mantissas of width a. -/
def SBlock.ofOut (a : Nat) (b : BlockOut) : SBlock := { scale := b.scale, xs := b.codes.map (sext a) }

/-- Block b of streamed row m, and what converting it counts. -/
def Mm.streamed (x : Mm) (k : Core) (m b : Nat) : SBlock × Counts :=
  let base := x.aAddr + m * x.ra
  let cnt := min 32 (x.k - 32 * b)
  let sAt := x.asAddr + m * x.nb + b
  if Fmt.isBlock x.afmt then
    let n := Fmt.blockBytes x.afmt false
    let bs := k.sramBytes (base + b * n) n
    let bad := k.sramBadAt (base + b * n) n || k.sramBadAt sAt 1
    let S := if bad then 0xFF else byteAt (k.sramBytes sAt 1) 0
    if Fmt.isLadder x.afmt then
      ({ scale := S, xs := (List.range 32).map (fun i => if i < cnt then sext x.a (planeElem x.a bs i) else 0) }, {})
    else
      let r := toLadder x.a x.a ((List.range 32).map (fun i =>
        if i < cnt then elemValue x.afmt false S (rawElem x.afmt false bs i) else .zero false))
      (SBlock.ofOut x.a r, r.counts)
  else
    let e := floatSize x.afmt
    let lo := base + 32 * b * e
    let bad := k.sramBadAt lo (cnt * e)
    let bs := k.sramBytes lo (cnt * e)
    let r := toLadder x.a x.a ((List.range 32).map (fun i =>
      if i < cnt then (if bad then .nan else (Fmt.float x.afmt).decode (bitsAt bs (8 * e * i) (8 * e))) else .zero false))
    (SBlock.ofOut x.a r, r.counts)

/-- First byte, byte length and bit offset of element (kk, n) of the stationary operand (R87, R93). -/
def Mm.bElem (x : Mm) (kk n : Nat) : Nat × Nat × Nat :=
  let r := if x.trans then n else kk
  let j := if x.trans then kk else n
  let lo := x.bAddr + r * x.ldb + j * x.bBits / 8
  (lo, (j * x.bBits % 8 + x.bBits + 7) / 8, j * x.bBits % 8)

/-- The raw code of an element, or none where its word is uncorrectable. -/
def Mm.bRaw (x : Mm) (k : Core) (kk n : Nat) : Option Nat :=
  let e := x.bElem kk n
  if k.sramBadAt e.1 e.2.1 then none
  else some (leNat (k.sramBytes e.1 e.2.1) / 2 ^ e.2.2 % 2 ^ x.bBits)

/-- A stationary scale byte, 0xFF where its word is uncorrectable. -/
def Mm.bScaleByte (x : Mm) (k : Core) (b n : Nat) : Nat :=
  if k.sramBadAt (x.bScale b n) 1 then 0xFF else byteAt (k.sramBytes (x.bScale b n) 1) 0

/-- Block b of the columns of one group: a single column, or the columns of a 32-column tile that share a scale (R42, R45). -/
def Mm.stationary (x : Mm) (k : Core) (b : Nat) (cols : List Nat) : List SBlock × Counts :=
  let ks := (List.range 32).map (fun i => 32 * b + i)
  if Fmt.isLadder x.bfmt then
    let raw := cols.map (fun n => ks.map (fun kk => if kk < x.k then x.bRaw k kk n else some 0))
    let S := x.bScaleByte k b (cols.headD 0)
    let bad := raw.any (·.any Option.isNone)
    (raw.map (fun col => { scale := if bad then 0xFF else S, xs := col.map (fun r => sext x.bBits (r.getD 0)) }), {})
  else
    let vals := cols.map (fun n =>
      let S := if Fmt.isMx x.bfmt then x.bScaleByte k b n else 0x7F
      let raw := ks.map (fun kk => if kk < x.k then x.bRaw k kk n else some 0)
      if raw.any Option.isNone then List.replicate 32 Num.nan
      else (ks.zip raw).map (fun p => if p.1 < x.k then elemValue x.bfmt false S (p.2.getD 0) else Num.zero false))
    let r := toLadder x.ws x.ws vals.flatten
    ((chunks 32 cols.length r.codes).map (fun cs => { scale := r.scale, xs := cs.map (sext x.ws) }), r.counts)

/-- The groups of columns that share a scale. -/
def Mm.groups (x : Mm) : List (List Nat) :=
  if x.bshape then (List.range (ceilDiv x.n 32)).map (fun t => (List.range (min 32 (x.n - 32 * t))).map (32 * t + ·))
  else (List.range x.n).map (fun n => [n])

/-- Every streamed row as its blocks. -/
def Mm.rows (x : Mm) (k : Core) : List (List (SBlock × Counts)) :=
  (List.range x.m).map (fun m => (List.range x.nb).map (x.streamed k m))

/-- Every stationary column as its blocks, and the counts. -/
def Mm.columns (x : Mm) (k : Core) : List (List SBlock) × Counts :=
  let bs := (List.range x.nb).map (fun b =>
    let gs := x.groups.map (x.stationary k b)
    (gs.flatMap (·.1), gs.foldl (fun c g => c.add g.2) {}))
  ((List.range x.n).map (fun n => bs.map (fun b => b.1.getD n { scale := 0, xs := [] })), bs.foldl (fun c b => c.add b.2) {})

/-! ## Prescan and window (R70-R74) -/

/-- The largest scale code of the unpoisoned blocks (R70). -/
def maxScale (bs : List SBlock) : Option Nat :=
  bs.foldl (fun acc b => if b.scale = 0xFF then acc else some (match acc with | some s => max s b.scale | none => b.scale)) none

/-- A window accumulator (R72); `lostN` counts truncated contributions without the stop of TRUNC. -/
structure Win where
  w : Int := 0
  sticky : Bool := false
  poison : Bool := false
  lostN : Nat := 0
  deriving DecidableEq, Repr

/-- The block sum (R69). -/
def blockSum (xs ys : List Int) : Int := (List.zipWith (· * ·) xs ys).foldl (· + ·) 0

/-- One block enters the window at its shift (R73, R74). -/
def Win.addBlock (a ws amax wmax : Nat) (win : Win) (p : SBlock × SBlock) : Win :=
  if p.1.scale = 0xFF ∨ p.2.scale = 0xFF then { win with poison := true }
  else
    let s := blockSum p.1.xs p.2.xs
    let h : Int := 196 - (a : Int) - ws - (((amax : Int) - p.1.scale) + ((wmax : Int) - p.2.scale))
    if 0 ≤ h then { win with w := win.w + s * 2 ^ h.toNat }
    else
      let q := s.natAbs / 2 ^ (-h).toNat
      let lost := decide (s.natAbs % 2 ^ (-h).toNat ≠ 0)
      { win with w := win.w + (if s < 0 then -(q : Int) else q), sticky := win.sticky || lost,
                 lostN := win.lostN + (if lost then 1 else 0) }

/-- The window of one output over its blocks; without an anchor only poisoned blocks stand there. -/
def window (a ws : Nat) (amax wmax : Option Nat) (row col : List SBlock) : Win :=
  (row.zip col).foldl (Win.addBlock a ws (amax.getD 0) (wmax.getD 0)) {}

/-- The anchor of an output (R71). -/
def anchor (a ws : Nat) (amax wmax : Option Nat) : Option Int :=
  match amax, wmax with
  | some p, some q => some ((a : Int) + ws + 3 + p + q - 254)
  | _, _ => none

/-- A window record (R79). -/
structure WinRec where
  w : Int
  anchor : Option Int
  poison : Bool
  sticky : Bool
  trunc : Nat
  deriving DecidableEq, Repr

def Win.record (win : Win) (t : Option Int) : WinRec :=
  { w := win.w, anchor := t, poison := win.poison, sticky := win.sticky, trunc := min 8191 win.lostN }

def WinRec.bytes (r : WinRec) : List Byte :=
  toLe 28 (wrap 224 r.w) ++ toLe 2 (match r.anchor with | some t => wrap 16 t | none => 0x8000)
    ++ toLe 2 ((if r.poison then 0x8000 else 0) + (if r.sticky then 0x4000 else 0) + r.trunc)

def WinRec.ofBytes (bs : List Byte) : WinRec :=
  let t := leNat ((bs.drop 28).take 2)
  let f := leNat ((bs.drop 30).take 2)
  { w := sext 224 (leNat (bs.take 28)), anchor := if t = 0x8000 then none else some (sext 16 t)
    poison := f.testBit 15, sticky := f.testBit 14, trunc := f % 0x2000 }

/-- The value of a record: W * 2^(T - 199), NaN when poisoned, zero without an anchor (R74, R98). -/
def WinRec.value (r : WinRec) : Num :=
  if r.poison then .nan
  else match r.anchor with
    | some t => Num.of r.w (t - 199)
    | none => .zero false

/-- A record of core memory; a bad word poisons it (R101). -/
def Core.winRec (k : Core) (a : Nat) : WinRec :=
  let r := WinRec.ofBytes (k.sramBytes a 32)
  { r with poison := r.poison || k.sramBadAt a 32 }

/-! ## Anchor tables (R80) -/

/-- Bytes of a table of M rows and N columns. -/
def tableLen (m n : Nat) : Nat := ceilDiv m 32 * 32 + n

def tableEntry (s : Option Nat) : Byte :=
  match s with
  | some v => BitVec.ofInt 8 ((v : Int) - 127)
  | none => 0x80#8

def tableBytes (amax wmax : List (Option Nat)) : List Byte :=
  amax.map tableEntry ++ List.replicate (ceilDiv amax.length 32 * 32 - amax.length) 0x80#8 ++ wmax.map tableEntry

/-- The maximum a table entry stands for. -/
def ofEntry (b : Byte) : Option Nat := if b = 0x80#8 then none else some (b.toInt + 127).toNat

/-- A local maximum exceeds its entry (R94 order 5). -/
def exceeds (s t : Option Nat) : Bool :=
  match s, t with
  | some v, some u => decide (v > u)
  | some _, none => true
  | none, _ => false

/-! ## Checks (R94, R111, R180) -/

def isOperand (c : Nat) : Bool := Fmt.isBlock c || Fmt.isFloat c
def isGlazeOut (c : Nat) : Bool := Fmt.isLadder c || Fmt.isFloat c

/-- The input ranges of the operands. -/
def Mm.operands (x : Mm) : List Span :=
  if x.noOut then []
  else
    [⟨x.aAddr, if x.k = 0 then 0 else (x.m - 1) * x.ra + x.rowLen⟩,
     ⟨x.asAddr, if Fmt.isBlock x.afmt then x.m * x.nb else 0⟩,
     ⟨x.bAddr, if x.k = 0 then 0 else (x.bRows - 1) * x.ldb + x.bLen⟩,
     ⟨x.bsAddr, if Fmt.isBlock x.bfmt then x.nb * (if x.squareScales then ceilDiv x.n 32 else x.n) else 0⟩]

/-- The inputs of a command with its glaze descriptor or table. -/
def Mm.inputs (x : Mm) (g : GlazeDesc) : List Span :=
  if x.noOut then []
  else x.operands ++ (if x.mode = 0 then ⟨x.xAddr, 32⟩ :: g.inputs x.m x.n else if x.mode = 2 then [⟨x.xAddr, tableLen x.m x.n⟩] else [])

/-- Its output ranges. -/
def Mm.outputs (x : Mm) (g : GlazeDesc) : List Span :=
  if x.noOut then []
  else if x.mode = 0 then ⟨x.cAddr, (x.m - 1) * (x.ldc * 32) + outRowBytes x.cfmt x.n⟩ :: g.outputs x.cfmt x.m x.n
  else if x.mode = 1 then [⟨x.xAddr, tableLen x.m x.n⟩]
  else [⟨x.cAddr, ((x.m - 1) * x.ldc + x.n) * 32⟩]

/-- Whether a descriptor is read: MODE FULL with an output to form, inside local SRAM. -/
def Mm.readsDesc (x : Mm) : Bool := x.mode == 0 && !x.noOut && decide (x.xAddr + 32 ≤ sramSize)

/-- The checks of R94, with those of R111 for sp.mv; `acc` is ACC = 1. -/
def Mm.check (x : Mm) (g : GlazeDesc) (sp acc : Bool) : Option Nat :=
  firstStatus
    [(x.mode == 3 || x.resv || (Fmt.isLadder x.afmt && x.a != x.afmt) || (x.sw16 && Fmt.isLadder x.bfmt)
        || (decide (x.bRows > 1) && decide (x.ldb < x.bLen))
        || (x.mode == 0 && decide (x.m > 1) && decide (x.ldc * 32 < outRowBytes x.cfmt x.n))
        || (x.mode == 2 && decide (x.m > 1) && decide (x.ldc < x.n))
        || (sp && decide (x.m > 8) && decide (x.n ≥ 2))
        || (acc && (x.mode != 0 || x.aw != 0 || x.sw16 || x.bshape))
        || (x.readsDesc && g.badField), St.BAD_FIELD),
     (!isOperand x.afmt || !isOperand x.bfmt || (x.mode == 0 && !isGlazeOut x.cfmt)
        || (x.trans && Fmt.isLadder x.bfmt && !x.bshape)
        || (acc && (!(x.afmt == Fmt.BF16 || x.afmt == Fmt.FP16) || !(x.bfmt == Fmt.BF16 || x.bfmt == Fmt.FP16)))
        || (x.readsDesc && g.badFormat), St.BAD_FORMAT),
     ((x.inputs g).any Span.outside || (x.outputs g).any Span.outside, St.BAD_RANGE),
     (anyOverlap (x.outputs g) (x.inputs g), St.OVERLAP)]

/-! ## Reading operands (R101, R122) -/

/-- Reads ranges of local SRAM: corrections and counts at the banks, and the bad words met, each with the output it affects. -/
def Device.readSpans (d : Device) (c : Nat) : List (Span × (Nat → Nat)) → Device × List (Nat × Nat)
  | [] => (d, [])
  | (s, f) :: rest =>
    let bad := touched (d.core c).sramBad s.lo s.len
    let r := (if s.len = 0 then d else (d.sramRead c s.lo s.len).1).readSpans c rest
    (r.1, bad.map (fun w => (max (8 * w) s.lo, f (max (8 * w) s.lo - s.lo))) ++ r.2)

/-- The operand reads of a product, with the first output each byte affects (R622): streamed row m affects row m from column 0,
a stationary element its column from row 0. -/
def Mm.reads (x : Mm) : List (Span × (Nat → Nat)) :=
  if x.k = 0 then []
  else
    (List.range x.m).map (fun m => (⟨x.aAddr + m * x.ra, x.rowLen⟩, fun _ => m * x.n))
      ++ (List.range x.m).map (fun m => (⟨x.asAddr + m * x.nb, if Fmt.isBlock x.afmt then x.nb else 0⟩, fun _ => m * x.n))
      ++ (List.range x.bRows).map (fun r =>
          (⟨x.bAddr + r * x.ldb, x.bLen⟩, fun o => if x.trans then r else o * 8 / x.bBits))
      ++ [(⟨x.bsAddr, if Fmt.isBlock x.bfmt then x.nb * (if x.squareScales then ceilDiv x.n 32 else x.n) else 0⟩,
          fun o => let w := if x.squareScales then ceilDiv x.n 32 else x.n
                   (if x.trans then o / x.nb else o % w) * (if x.squareScales then 32 else 1))]

/-- The reads of the glaze arrays: bias and scale affect their column, a residual its output. -/
def GlazeDesc.reads (g : GlazeDesc) (m n : Nat) : List (Span × (Nat → Nat)) :=
  (if g.biasEn then [(⟨g.biasAddr, n * floatSize g.biasFmt⟩, fun o => o / floatSize g.biasFmt)] else [])
    ++ (if g.scaleMode = 2 then [(⟨g.scaleAddr, n * floatSize g.scaleFmt⟩, fun o => o / floatSize g.scaleFmt)] else [])
    ++ (if g.resEn then (List.range m).map (fun r =>
          (⟨g.resAddr + r * g.ldr, n * floatSize g.resFmt⟩, fun o => r * n + o / floatSize g.resFmt)) else [])

/-- The fault of the bad words met: the first address, the first output affected, how many (R101, R622, R623). -/
def mxFault (bad : List (Nat × Nat)) : List CmdFault :=
  match bad with
  | [] => []
  | b :: _ => [{ status := St.UNCORRECTABLE, akind := 1, addr := b.1, detail := bad.foldl (fun m x => min m x.2) b.2, count := bad.length }]

/-- The result of a matrix command (R102, R103, R123). -/
def mxResult (c status : Nat) (t : MxTally) (more32 more64 : List (Nat × Nat)) : CmdResult :=
  CmdResult.withTally c t.tally
    { status := if t.bad.isEmpty then status else St.UNCORRECTABLE
      faults := mxFault t.bad
      add32 := [(Reg.MX_TRUNC c, t.trunc), (Reg.MX_STICKY_OUT c, t.sticky), (Reg.MX_NAN_OUT c, t.nanOut)] ++ more32
      add64 := more64
      lastTags := if t.trunc + t.nanOut = 0 then [] else [Reg.MX_LASTTAG c] }

/-! ## Products -/

/-- Writes the outputs of all rows through the glaze stage. -/
def Device.glazeRows (d : Device) (c : Nat) (g : GlazeDesc) (k : Core) (t : Table) (cAddr ldc cfmt n : Nat) :
    List (Nat × List Num) → Device × MxTally
  | [] => (d, {})
  | (m, vs) :: rest =>
    let r := d.glazeRow c g k t cAddr ldc cfmt n m vs
    let q := r.1.glazeRows c g k t cAddr ldc cfmt n rest
    (q.1, r.2.add q.2)

/-- Writes the window records of all rows, `stride` records from one row to the next (R93). -/
def Device.recordRows (d : Device) (c cAddr stride n : Nat) : List (Nat × List WinRec) → Device × MxTally
  | [] => (d, {})
  | (m, rs) :: rest =>
    let r := d.storeNoting c (cAddr + m * stride * 32) (rs.flatMap WinRec.bytes) (m * n)
    let q := r.1.recordRows c cAddr stride n rest
    (q.1, MxTally.add { nanOut := (rs.filter (·.poison)).length, bad := r.2 } q.2)

/-- The exact accumulation of every output: its window and its anchor. -/
def Mm.windows (x : Mm) (rows : List (List SBlock)) (cols : List (List SBlock)) (amax wmax : List (Option Nat)) :
    List (List (Win × Option Int)) :=
  (rows.zip amax).map (fun r => (cols.zip wmax).map (fun q =>
    (window x.a x.ws r.2 q.2 r.1 q.1, anchor x.a x.ws r.2 q.2)))

/-- Runs a checked product in exact accumulation, in any mode, from operands in memory (R70-R80, R112). -/
def Device.mmExact (d : Device) (c : Nat) (x : Mm) (g : GlazeDesc) (t : Table) : Device × Nat × MxTally :=
  let rd := d.readSpans c x.reads
  let k := rd.1.core c
  let rs := x.rows k
  let rows := rs.map (·.map (·.1))
  let cs := x.columns k
  let amax := rows.map maxScale
  let wmax := cs.1.map maxScale
  if x.mode = 1 then
    let s := rd.1.storeNoting c x.xAddr (tableBytes amax wmax) 0
    (s.1, St.OK, { bad := rd.2 ++ s.2 })
  else
    let conv := (rs.flatten.foldl (fun (a : Counts) b => a.add b.2) {}).add cs.2
    if x.mode = 2 then
      let tb := rd.1.readSpans c [(⟨x.xAddr, tableLen x.m x.n⟩, fun _ => 0)]
      let bytes := k.sramBytes x.xAddr (tableLen x.m x.n)
      let ta := (bytes.take x.m).map ofEntry
      let tw := (bytes.drop (ceilDiv x.m 32 * 32)).map ofEntry
      if (List.zipWith exceeds amax ta).any id || (List.zipWith exceeds wmax tw).any id then
        (tb.1, St.ANCHOR_MISMATCH, { bad := rd.2 ++ tb.2 })
      else
        let ws := x.windows rows cs.1 ta tw
        let out := tb.1.recordRows c x.cAddr x.ldc x.n ((ws.map (·.map (fun w => w.1.record w.2))).zipIdx.map (fun r => (r.2, r.1)))
        let all := ws.flatten
        (out.1, St.OK, out.2.add
          { tally := { conv := conv }, trunc := all.foldl (fun a w => a + w.1.lostN) 0
            sticky := (all.filter (·.1.sticky)).length, bad := rd.2 ++ tb.2 })
    else
      let gl := rd.1.readSpans c (g.reads x.m x.n)
      let ws := x.windows rows cs.1 amax wmax
      let vals := ws.map (·.map (fun w => (w.1.record w.2).value))
      let out := gl.1.glazeRows c g k t x.cAddr (x.ldc * 32) x.cfmt x.n (vals.zipIdx.map (fun r => (r.2, r.1)))
      let all := ws.flatten
      (out.1, St.OK, out.2.add
        { tally := { conv := conv }, trunc := all.foldl (fun a w => a + w.1.lostN) 0
          sticky := (all.filter (·.1.sticky)).length, bad := rd.2 ++ gl.2 })

/-- The elements of a streamed row and of a stationary column as values, bad words as NaN (R122), padded to whole blocks. -/
def Mm.rowValues (x : Mm) (k : Core) (m : Nat) : List Num :=
  (List.range (32 * x.nb)).map (fun i => if i < x.k then k.floatAt (x.aAddr + m * x.ra) x.afmt i else .zero false)

def Mm.colValues (x : Mm) (k : Core) (n : Nat) : List Num :=
  (List.range (32 * x.nb)).map (fun i =>
    if i < x.k then (match x.bRaw k i n with | some r => (Fmt.float x.bfmt).decode r | none => .nan) else .zero false)

/-- An exact sum rounded once to FP32, an exact zero being +0 (R113). -/
def sumFp32 (vs : List Num) : Num :=
  let s := vs.foldl Num.add (.zero false)
  if s.isZero then .zero false else s.rnd

/-- FP32 accumulation of one output (R113, R114): blocks in ascending order. -/
def fp32Dot (nb : Nat) (xs ys : List Num) : Num :=
  (chunks 32 nb (List.zipWith Num.mul xs ys)).foldl (fun acc b => (acc.add (sumFp32 b)).rnd) (.zero false)

/-- Runs a checked sp.mv with ACC = 1. -/
def Device.mmFp32 (d : Device) (c : Nat) (x : Mm) (g : GlazeDesc) (t : Table) : Device × Nat × MxTally :=
  let rd := d.readSpans c (x.reads ++ g.reads x.m x.n)
  let k := rd.1.core c
  let cols := (List.range x.n).map (x.colValues k)
  let vals := (List.range x.m).map (fun m => (m, cols.map (fp32Dot x.nb (x.rowValues k m))))
  let out := rd.1.glazeRows c g k t x.cAddr (x.ldc * 32) x.cfmt x.n vals
  (out.1, St.OK, out.2.add { bad := rd.2 })

/-! ## Cycle counts of the array that its counters keep (R81-R85, R103) -/

/-- L of R84. -/
def Mm.loadTime (x : Mm) : Nat :=
  let w16 := decide (x.ws = 16)
  if Fmt.isLadder x.bfmt then 16
  else if x.bfmt ≤ 0x13 then (if w16 then 8 else 16)
  else if x.bfmt ≤ 0x15 then (if w16 then 6 else 12)
  else if x.bfmt = 0x16 then (if w16 then 4 else 8)
  else if x.bfmt = Fmt.FP32 then (if w16 then 32 else 64)
  else (if w16 then 16 else 32)

/-- Prescan cycles of an output tile of some rows and columns (R85). -/
def Mm.prescanTime (x : Mm) (rows cols : Nat) : Nat :=
  let bytes := fun (fmt cnt : Nat) (sq : Bool) =>
    if Fmt.isLadder fmt then (if sq then ceilDiv cnt 32 else cnt) * x.nb
    else if Fmt.isMx fmt then cnt * x.nb * (Fmt.blockBytes fmt false + 1)
    else cnt * x.k * floatSize fmt
  ceilDiv (bytes x.afmt rows false + bytes x.bfmt cols x.bshape) 4096 + 8

/-- Output columns of a tile (R67). -/
def Mm.tileCols (x : Mm) : Nat := if x.ws = 16 then 128 else 256

/-- Output tiles in order: their rows and columns (R81). -/
def Mm.tiles (x : Mm) : List (Nat × Nat) :=
  (List.range (ceilDiv x.n x.tileCols)).flatMap (fun j => (List.range (ceilDiv x.m 256)).map (fun i =>
    (min 256 (x.m - 256 * i), min x.tileCols (x.n - x.tileCols * j))))

/-- Rows of each pass, in order. -/
def Mm.passes (x : Mm) : List Nat := x.tiles.flatMap (fun t => List.replicate (ceilDiv x.k 256) t.1)

/-- MX_STREAM and MX_FILL of a product on the array; an early start hides the lead-in (R85, R86). -/
def Mm.streamCycles (x : Mm) : Nat := x.passes.foldl (fun s m => s + m * x.a) 0

def Mm.fillCycles (x : Mm) (early : Bool) : Nat :=
  if x.passes.isEmpty then 0
  else
    let scans := x.tiles.map (fun t => x.prescanTime t.1 t.2)
    let lead := if early then 0 else (if x.mode = 2 then scans.foldl (· + ·) 0 else scans.headD 0) + x.loadTime
    lead + x.passes.dropLast.foldl (fun s m => s + (max (m * x.a) (256 + x.loadTime) - m * x.a)) 0 + 512

/-- Weight tiles a command reads on the siphon path (R115, R124). -/
def Mm.siphonTiles (x : Mm) : Nat := if x.mode = 1 then 0 else ceilDiv (if x.n = 1 then x.m else x.n) 32 * x.nb

/-! ## Gangs (R88-R90, R110) -/

/-- The cores of a gang set: MX_GANG_SET of core c as a mask. -/
def Device.gangSet (d : Device) (c : Nat) : Nat :=
  (List.range 4).foldl (fun acc j => acc + (d.reg (Reg.MX_GANG_SET c j)).toNat * 2 ^ (32 * j)) 0

/-- Whether the set of core c names a core outside its partition (R89). -/
def Device.gangOutside (d : Device) (c : Nat) : Bool :=
  let s := d.gangSet c
  (List.range 128).any (fun i => s.testBit i && i != c && !(d.partOf i == d.partOf c && (d.partOf i).isSome))

/-- The entry of queue q of core c that stands at its head: the first that is not executed. -/
def Device.headEntry (d : Device) (c q : Nat) : Option QEntry := ((d.core c).queue q).find? (fun e => e.result.isNone)

/-- Whether core i has arrived at a gang of queue q, or counts as arrived (R88). -/
def Device.gangArrived (d : Device) (q i : Nat) : Bool :=
  !d.hasSlot i || (match d.headEntry i q with | some e => e.gang.isSome && !e.released | none => false)

/-- Whether the command waiting at the head of queue q of core c is released: every core of its own set has arrived. -/
def Device.gangReady (d : Device) (c q : Nat) : Bool :=
  match d.headEntry c q with
  | some e =>
    match e.gang with
    | some s => !e.released && (List.range 128).all (fun i => !s.testBit i || i == c || d.gangArrived q i)
    | none => false
  | none => false

/-- Marks the first entry not executed. -/
def markHead (f : QEntry → QEntry) : List QEntry → List QEntry
  | [] => []
  | e :: es => if e.result.isNone then f e :: es else e :: markHead f es

/-- One core cycle's releases (R88, R110): every waiting command of queue q whose set has arrived. -/
def Device.gangRelease (d : Device) (q : Nat) : Device :=
  let rs := (List.range 128).filter (fun c => d.gangReady c q)
  rs.foldl (fun d c => d.modCore c (fun k => k.setQueue q (markHead (fun e => { e with released := true }) (k.queue q)))) d

/-- A GANG command that has not arrived reaches the head of queue q (R89): refused, or waiting with the set it latches; a set
with no other core releases it at once. Answers whether the command may go on now. -/
def Device.gangArrive (d : Device) (c q : Nat) (e : QEntry) : Device × Bool :=
  if e.gang.isSome then (d, e.released)
  else
    let s := d.gangSet c
    let alone := (List.range 128).all (fun i => !s.testBit i || i == c)
    (d.modCore c (fun k => k.setQueue q (markHead (fun e => { e with gang := some s, released := alone }) (k.queue q))), alone)

/-! ## mx.mm and sp.mv -/

/-- A product that R95 routes to the siphon path. -/
def Mm.routed (x : Mm) : Bool := x.auto && (x.mode == 0 || x.mode == 2) && (decide (x.m ≤ 8) || x.n == 1)

/-- The glaze descriptor of a command: the one an early start has read, or the one in memory now. -/
def Device.mmDesc (d : Device) (c : Nat) (x : Mm) (e : QEntry) : GlazeDesc :=
  GlazeDesc.ofBytes (e.desc.getD (if x.readsDesc then (d.core c).sramBytes x.xAddr 32 else []))

/-- A product whose checks pass, its gang released: the glaze function's slot, then its work (R180, R99). `acc` selects FP32. -/
def Device.mmBody (d : Device) (c : Nat) (x : Mm) (g : GlazeDesc) (half : Option Nat) (acc : Bool) : Device × Nat × MxTally :=
  if x.noOut then (d, St.OK, {})
  else
    let dsc := if x.readsDesc then d.readSpans c [(⟨x.xAddr, 32⟩, fun _ => 0)] else (d, [])
    let t := dsc.1.halfTable c half
    let r := if acc then dsc.1.mmFp32 c x g t else dsc.1.mmExact c x g t
    (r.1, r.2.1, { r.2.2 with bad := dsc.2 ++ r.2.2.bad })

/-- MX_EMPTY of a command with K = 0. -/
def Mm.emptyCount (x : Mm) (c : Nat) : List (Nat × Nat) := [(Reg.MX_EMPTY c, if x.k = 0 then 1 else 0)]

/-- Counters of a product on the array, or on the siphon path. -/
def Mm.arrayCounts (x : Mm) (c : Nat) (early : Bool) : List (Nat × Nat) :=
  if x.noOut || x.mode == 1 then []
  else [(Reg.MX_PASSES_LO c, x.passes.length), (Reg.MX_STREAM_LO c, x.streamCycles), (Reg.MX_FILL_LO c, x.fillCycles early)]

/-- The command at the front of queue q of core c, executed as a product: checks, wait for a table load, work, result. -/
def Device.mmExecute (d : Device) (c q : Nat) (e : QEntry) (acc siphon : Bool) : Device :=
  let x := Mm.of e.c
  let g := d.mmDesc c x e
  let fn := if x.readsDesc then g.fn else 0
  let done := fun (d : Device) (r : CmdResult) (half : Option Nat) =>
    d.setFront c q { e with started := true, since := if e.started then e.since else d.cycles, result := some r, uses := half }
  match x.check g (q == 1) acc with
  | some st => done d (refused st) none
  | none =>
    let half := if e.desc.isSome then e.uses else d.fnHalf c fn
    if half.isNone && d.fnWaits c fn then d
    else if half.isNone && d.fnEmpty c fn then done d (refused St.TABLE_EMPTY) none
    else
      let r := d.mmBody c x g half acc
      let cnt32 := x.emptyCount c ++ (if siphon && q == 0 then [(Reg.MX_SP_ROUTED c, 1)] else [])
      let cnt64 := if siphon then (if x.noOut then [] else [(Reg.MX_SP_TILES_LO c, x.siphonTiles)]) else x.arrayCounts c e.desc.isSome
      done r.1 (mxResult c r.2.1 r.2.2 cnt32 (if r.2.1 = St.OK then cnt64 else [])) half

/-- mx.mm: the head of MXQ arrives at its gang, or executes on the array, or, routed, once the siphon path has taken it. -/
def Device.mxMm (d : Device) (c : Nat) : Device :=
  match d.headEntry c 0 with
  | none => d
  | some e =>
    let x := Mm.of e.c
    if e.opc ≠ 0x01 ∨ !e.open then d
    else if x.gang && e.gang.isNone && d.gangOutside c then
      d.runFront c 0 (fun e => e.opc == 0x01) (fun d _ => (d, refused St.BAD_RANGE))
    else
      let r := if x.gang then d.gangArrive c 0 e else (d, true)
      if !r.2 then r.1
      else
        match r.1.ready c 0 with
        | none => r.1
        | some e =>
          if x.routed then (if (r.1.core c).siphonBusy = some 0 then r.1.mmExecute c 0 e false true else r.1)
          else r.1.mmExecute c 0 e false false

/-- sp.mv: the head of SPQ arrives at its gang, or executes once the siphon path has taken it. -/
def Device.spMv (d : Device) (c : Nat) : Device :=
  match d.headEntry c 1 with
  | none => d
  | some e =>
    let x := Mm.of e.c
    if e.opc ≠ 0x01 ∨ !e.open then d
    else if x.gang && e.gang.isNone && d.gangOutside c then
      d.runFront c 1 (fun e => e.opc == 0x01) (fun d _ => (d, refused St.BAD_RANGE))
    else
      let r := if x.gang then d.gangArrive c 1 e else (d, true)
      if !r.2 then r.1
      else
        match r.1.ready c 1 with
        | none => r.1
        | some e => if (r.1.core c).siphonBusy = some 1 then r.1.mmExecute c 1 e x.auto true else r.1

/-- The command of queue q that asks for the siphon path: a routed mx.mm, or an sp.mv, its gate passed and its gang released. -/
def Device.siphonRequest (d : Device) (c q : Nat) : Bool :=
  match d.ready c q with
  | none => false
  | some e =>
    let x := Mm.of e.c
    e.opc == 0x01 && (!x.gang || e.released) && (q == 1 || x.routed)

/-- A command boundary of the siphon path (R106): the rotating priority of MXQ and SPQ takes the next command. -/
def Device.siphonTake (d : Device) (c : Nat) : Device :=
  if (d.core c).siphonBusy.isSome then d
  else
    match rotate 2 (d.core c).siphonPtr (d.siphonRequest c) with
    | none => d
    | some q =>
      let d := d.modCore c (fun k => { k with siphonBusy := some q, siphonPtr := (q + 1) % 2 })
      match d.front c q with
      | some e => (d.setFront c q { e with started := true, since := d.cycles }).setFld (Reg.MX_SP_STATUS c) 23 0 e.tag
      | none => d

/-! ## Early starts (R86, R118) -/

/-- The second entry of a queue whose first has been executed and not retired. -/
def Device.second (d : Device) (c q : Nat) : Option (QEntry × QEntry) :=
  match (d.core c).queue q with
  | e :: f :: _ => if e.result.isSome && f.result.isNone then some (e, f) else none
  | _ => none

/-- Replaces the second entry of a queue. -/
def Device.setSecond (d : Device) (c q : Nat) (f : QEntry) : Device :=
  d.modCore c (fun k => match k.queue q with
    | e :: _ :: rest => k.setQueue q (e :: f :: rest)
    | _ => k)

/-- The next product of queue q begins while the one before it drains: it reads its descriptor and chooses its table half then
(R86, R118, R173, R180), unless one of its inputs meets an output of the command before it. -/
def Device.earlyStart (d : Device) (c q : Nat) : Device :=
  match d.second c q with
  | none => d
  | some (e, f) =>
    let xe := Mm.of e.c
    let xf := Mm.of f.c
    let ge := d.mmDesc c xe e
    let gf := d.mmDesc c xf f
    let fn := if xf.readsDesc then gf.fn else 0
    let half := d.fnHalf c fn
    if e.opc = 0x01 ∧ f.opc = 0x01 ∧ f.open ∧ f.desc.isNone ∧ (!xf.gang || f.released)
        ∧ (xf.check gf (q == 1) (q == 1 && xf.auto)).isNone ∧ !anyOverlap (xe.outputs ge) (xf.inputs gf)
        ∧ (q = 1 ∨ (!xe.routed && !xf.routed)) ∧ !(half.isNone && (d.fnWaits c fn || d.fnEmpty c fn)) then
      d.setSecond c q { f with
        started := true, since := d.cycles, uses := half
        desc := some (if xf.readsDesc then (d.core c).sramBytes xf.xAddr 32 else []) }
    else d

/-! ## mx.wsum and mx.wfin (R96-R98) -/

/-- The sum of two records and the event it meets (R96, R97). -/
def WinRec.add (p q : WinRec) : WinRec × Nat :=
  let w := p.w + q.w
  let st := if p.anchor ≠ q.anchor then St.ANCHOR_MISMATCH
    else if w < -(2 ^ 223 : Int) ∨ 2 ^ 223 ≤ w then St.WINDOW_OVERFLOW else St.OK
  if st = St.OK then
    ({ w := w, anchor := p.anchor, poison := p.poison || q.poison, sticky := p.sticky || q.sticky, trunc := min 8191 (p.trunc + q.trunc) }, st)
  else ({ p with w := 0, poison := true }, st)

/-- mx.wsum. -/
def Device.mxWsum (d : Device) (c : Nat) : Device :=
  d.runChecked c 0 (fun e => e.opc == 0x02)
    (fun _ e =>
      let x := e.c
      let n := bits x 63 45 * 32
      let p : Span := ⟨bits x 127 110 * 32, n⟩
      let q : Span := ⟨bits x 109 92 * 32, n⟩
      let t : Span := ⟨bits x 91 74 * 32, n⟩
      firstStatus
        [(bits x 255 128 != 0 || bits x 73 64 != 0 || bits x 44 32 != 0 || p.overlaps q
            || (t.lo != p.lo && t.overlaps p) || (t.lo != q.lo && t.overlaps q), St.BAD_FIELD),
         (p.outside || q.outside || t.outside, St.BAD_RANGE)])
    (fun d e =>
      let x := e.c
      let n := bits x 63 45
      let p := bits x 127 110 * 32
      let q := bits x 109 92 * 32
      let rd := d.readSpans c [(⟨p, 32 * n⟩, (· / 32)), (⟨q, 32 * n⟩, (· / 32))]
      let k := rd.1.core c
      let rs := (List.range n).map (fun i => (k.winRec (p + 32 * i)).add (k.winRec (q + 32 * i)))
      let out := rd.1.recordRows c (bits x 91 74 * 32) 0 0 [(0, rs.map (·.1))]
      let st := ((rs.map (·.2)).find? (· != St.OK)).getD St.OK
      let r := mxResult c st (out.2.add { bad := rd.2 }) [] []
      let first := ((rs.map (·.2)).takeWhile (· == St.OK)).length
      (out.1, if st = St.OK then r else { r with
        status := if rd.2.isEmpty then st else St.UNCORRECTABLE
        faults := { status := st, detail := first, count := (rs.filter (fun x => x.2 == st)).length } :: r.faults }))

/-- mx.wfin as a product with its windows in memory: the output fields of an Mm. -/
def wfinMm (x : Nat) : Mm :=
  { Mm.of 0 with
    cAddr := bits x 109 92 * 32, xAddr := bits x 91 74 * 32, ldc := bits x 177 164, cfmt := bits x 73 69, mode := 0
    m := bits x 63 48, n := bits x 47 32, resv := bits x 255 192 != 0 || bits x 163 128 != 0 || bits x 68 64 != 0 }

/-- The record array of mx.wfin. -/
def wfinSource (x : Nat) : Span :=
  let m := bits x 63 48
  let n := bits x 47 32
  ⟨bits x 127 110 * 32, if m = 0 ∨ n = 0 then 0 else ((m - 1) * bits x 191 178 + n) * 32⟩

def wfinCheck (x : Nat) (g : GlazeDesc) : Option Nat :=
  let y := wfinMm x
  let ins := if y.noOut then [] else wfinSource x :: ⟨y.xAddr, 32⟩ :: g.inputs y.m y.n
  firstStatus
    [(y.resv || (decide (y.m > 1) && (decide (y.ldc * 32 < outRowBytes y.cfmt y.n) || decide (bits x 191 178 < y.n)))
        || (y.readsDesc && g.badField), St.BAD_FIELD),
     (!isGlazeOut y.cfmt || (y.readsDesc && g.badFormat), St.BAD_FORMAT),
     (ins.any Span.outside || (y.outputs g).any Span.outside, St.BAD_RANGE),
     (anyOverlap (y.outputs g) ins, St.OVERLAP)]

/-- mx.wfin (R98). -/
def Device.mxWfin (d : Device) (c : Nat) : Device :=
  match d.ready c 0 with
  | none => d
  | some e =>
    let y := wfinMm e.c
    let g := d.mmDesc c y e
    let fn := if y.readsDesc then g.fn else 0
    if e.opc = 0x03 ∧ (wfinCheck e.c g).isNone ∧ d.fnWaits c fn then d
    else
      d.runChecked c 0 (fun e => e.opc == 0x03)
        (fun d e => (wfinCheck e.c g).or (if d.fnEmpty c fn then some St.TABLE_EMPTY else none))
        (fun d e =>
          if y.noOut then (d, {})
          else
            let src := wfinSource e.c
            let lds := bits e.c 191 178
            let rd := d.readSpans c ([(⟨y.xAddr, 32⟩, fun _ => 0)] ++ (List.range y.m).map (fun m =>
              (⟨src.lo + m * lds * 32, y.n * 32⟩, fun o => m * y.n + o / 32)) ++ g.reads y.m y.n)
            let k := rd.1.core c
            let recs := (List.range y.m).map (fun m => (List.range y.n).map (fun n => k.winRec (src.lo + (m * lds + n) * 32)))
            let out := rd.1.glazeRows c g k (rd.1.halfTable c (d.fnHalf c fn)) y.cAddr (y.ldc * 32) y.cfmt y.n
              ((recs.map (·.map WinRec.value)).zipIdx.map (fun r => (r.2, r.1)))
            (out.1, mxResult c St.OK (out.2.add { sticky := (recs.flatten.filter (·.sticky)).length, bad := rd.2 }) [] []))

end Machine
end Sys2Proof
end

