-- ==== Sys2Proof/Machine/Time.lean ====
section
/-!
DEFINITION. The device time unit: steps, sources, lock state, PTP and PPS (R333-R343, R361).
-/
namespace Sys2Proof
namespace Machine

/-- STK_STATUS.STATE of a partition: 0 FREE, 1 ARMED, 2 RUNNING, 3 STOPPING. -/
def Device.stkState (d : Device) (p : Nat) : Nat := d.fld (Reg.STK_STATUS p) 31 30

/-- Some schedule is ARMED, RUNNING or STOPPING. -/
def Device.anySchedule (d : Device) : Bool := (List.range 16).any (fun p => d.stkState p != 0)

/-- Values of TIM_STATUS.LOCK (R341). -/
def lockFreerun : Nat := 0
def lockAcquiring : Nat := 1
def lockLocked : Nat := 2
def lockHoldover : Nat := 3

def Device.lock (d : Device) : Nat := d.fld Reg.TIM_STATUS 31 30

/-- Moves the lock state; a change fires the time-state event (R341). -/
def Device.setLock (d : Device) (v : Nat) : Device :=
  if d.lock = v then d else (d.setFld Reg.TIM_STATUS 31 30 v).fire Evt.TIME_STATE

/-- TIM_CTL.SRC. -/
def Device.timeSrc (d : Device) : Nat := d.fld Reg.TIM_CTL 2 0

/-- Steps device time (R336). -/
def Device.stepTime (d : Device) (t : Nat) : Device := { d with now := t }.bump Reg.TIM_STEPS 1

/-- TIM_SET as a device time; NS beyond its range gives no time the manual names. -/
def Device.timeSet (d : Device) : Nat :=
  let x := (d.reg Reg.TIM_SET_0).toNat + 2 ^ 32 * (d.reg Reg.TIM_SET_1).toNat + 2 ^ 64 * (d.reg Reg.TIM_SET_2).toNat
  if bits x 47 16 < 1000000000 then timeOfLayout x else Config.timeOfBadSet x

/-- A write of TIM_CTL.STEP (R336). -/
def Device.timStep (d : Device) : Device :=
  if d.anySchedule then d.setFlag Reg.TIM_STATUS 23 true else d.stepTime d.timeSet

/-- The port that carries PTP: the lowest of PORTMASK whose link is up, 0xF for none (R340). -/
def Device.ptpPort (d : Device) : Nat :=
  (firstFrom (fun i => (bits d.tim.cfg.toNat 15 8).testBit i && d.flag (Reg.AQ_PORT_STATUS i) 31) 0 8).getD 0xF

/-- Shows the port that carries PTP while PTP is selected (R340). -/
def Device.showPtpPort (d : Device) : Device :=
  d.setFld Reg.TIM_STATUS 27 24 (if d.timeSrc = 1 then d.ptpPort else 0xF)

/-- A write of TIM_CTL.SRC (R338, R342). -/
def Device.timSrcWrite (d : Device) (v : Nat) : Device :=
  if v ≥ 4 ∨ v = d.timeSrc then d
  else
    let old := d.lock
    let d := { d.setFld Reg.TIM_CTL 2 0 v with tim := { d.tim with inBound := 0, sync := none, delayReq := none } }
    let d := if v = 0 then d.setLock lockFreerun
      else if old = lockLocked ∨ old = lockHoldover then d.setLock lockHoldover else d.setLock lockAcquiring
    d.showPtpPort

/-- A write of TIM_PTP_CFG (R361): in force at the next Sync interval; a change of DOMAIN or TRANSPORT unlocks PTP. -/
def Device.timPtpCfgWrite (d : Device) (v : Nat) : Device :=
  let old := (d.reg Reg.TIM_PTP_CFG).toNat
  let d := d.setReg Reg.TIM_PTP_CFG (BitVec.ofNat 32 (v &&& 0x3FF7F))
  if d.timeSrc = 1 ∧ (bits v 6 0 ≠ bits old 6 0 ∨ bits v 17 16 ≠ bits old 17 16) then
    { (if d.lock = lockLocked then d.setLock lockHoldover
       else if d.lock = lockHoldover then d else d.setLock lockAcquiring) with
      tim := { d.tim with inBound := 0 } }
  else d

/-- The key of the TIM_NOW latch word w of function f (R361). -/
def timLatch (f w : Nat) : Nat := f * 0x4000000 + Reg.TIM_NOW_0 + 4 * w

/-- A read of TIM_NOW_0 latches the three words of device time for the function that reads (R361). -/
def Device.timNowRead (d : Device) (f : Nat) : Device :=
  let x := timeLayout d.now
  ((d.setReg (timLatch f 0) (BitVec.ofNat 32 x)).setReg (timLatch f 1) (BitVec.ofNat 32 (x / 2 ^ 32))).setReg
    (timLatch f 2) (BitVec.ofNat 32 (x / 2 ^ 64))

/-- The offset as TIM_OFFSET shows it, in ns; one that does not fit is not stated. -/
def shownOffset (free : Nat) (off : Int) : Nat :=
  let ns := off / 65536
  if -(2 ^ 31 : Int) ≤ ns ∧ ns < 2 ^ 31 then wrap 32 ns else Config.offsetShown free % 2 ^ 32

/-- The rate adjustment the unit chooses, within 100 ppm (R335); the manual states no more of it. -/
def slewOf (free : Nat) : Nat :=
  wrap 32 (max (-100000) (min 100000 (Config.servoRate free)))

/-- One measurement of the offset from the source (R336, R341): the offset and the new rate show; 16 in-bound measurements in a
row lock; the first lock after a cold reset steps device time where no schedule forbids it. -/
def Device.measure (d : Device) (off : Int) : Device :=
  let inB := decide (-(40 * 65536 : Int) ≤ off ∧ off ≤ 40 * 65536)
  let n := if inB then d.tim.inBound + 1 else 0
  let d := { d with tim := { d.tim with inBound := n, lastEdge := d.now } }
  let d := (d.setReg Reg.TIM_OFFSET (BitVec.ofNat 32 (shownOffset d.free off))).useFree
  let d := (d.setReg Reg.TIM_SLEW (BitVec.ofNat 32 (slewOf d.free))).useFree
  if n ≥ 16 ∧ (d.lock = lockAcquiring ∨ d.lock = lockHoldover) then
    let d := d.setLock lockLocked
    if d.tim.lockedOnce then d
    else
      let d := { d with tim := { d.tim with lockedOnce := true } }
      if d.anySchedule then d else d.stepTime ((d.now : Int) - off).toNat
  else d

/-- A rising edge of TIME_PPS (R343): the start of a second. `ref` says whether TIME_REF10M is present. -/
def Device.ppsEdge (d : Device) (ref : Bool) : Device :=
  let d := (d.setFlag Reg.TIM_STATUS 29 true).setFlag Reg.TIM_STATUS 28 ref
  if d.timeSrc = 2 ∨ d.timeSrc = 3 then
    let r := d.now % secUnit
    d.measure (if 2 * r < secUnit then (r : Int) else (r : Int) - secUnit)
  else { d with tim := { d.tim with lastEdge := d.now } }

/-- No valid Sync for three Sync intervals, or no PPS edge for 1.5 s (R341). -/
def Device.sourceTimeout (d : Device) : Device :=
  let pps := decide (d.timeSrc = 2 ∨ d.timeSrc = 3)
  let d := if pps then
      { d with now := max d.now (d.tim.lastEdge + 3 * secUnit / 2) }.setFlag Reg.TIM_STATUS 29 false else d
  let d := { d with tim := { d.tim with inBound := 0 } }
  if d.lock = lockLocked then d.setLock lockHoldover else d

/-- A PTP message is for this clock: PTP selected, on the PTP port, in the domain and over the transport in force (R339). -/
def Device.ptpMine (d : Device) (port domain transport : Nat) : Bool :=
  d.timeSrc == 1 && port == d.ptpPort && domain == bits d.tim.cfg.toNat 6 0 && transport == bits d.tim.cfg.toNat 17 16

/-- The message comes from the master chosen among the Announce messages (R339). -/
def Device.ptpFromMaster (d : Device) (sender : Nat) : Bool :=
  match d.tim.master with
  | some m => m.sender == sender
  | none => false

/-- The offset that a Sync sent at t1 (correction added) and received at t2 shows (R339). -/
def Device.syncMeasured (d : Device) (t1 t2 : Int) : Device :=
  let d := { d with tim := { d.tim with t1 := t1, t2 := t2, sync := none } }
  d.measure (t2 - t1 - d.tim.pathDelay)

/-- A received Sync (R339, R341): a waiting configuration takes effect; a one-step Sync is measured, a two-step one waits. -/
def Device.ptpSync (d : Device) (port domain transport sender seq stamp : Nat) (corr : Int) (twoStep : Bool) : Device :=
  let d := { d with tim := { d.tim with cfg := d.reg Reg.TIM_PTP_CFG } }.showPtpPort
  if d.ptpMine port domain transport && d.ptpFromMaster sender then
    if twoStep then { d with tim := { d.tim with sync := some { seq := seq, rx := d.now, corr := corr } } }
    else d.syncMeasured ((stamp : Int) + corr) d.now
  else d

/-- A received Follow_Up completes its two-step Sync (R339). -/
def Device.ptpFollowUp (d : Device) (port domain transport sender seq stamp : Nat) (corr : Int) : Device :=
  match d.tim.sync with
  | some y =>
    if d.ptpMine port domain transport && d.ptpFromMaster sender && y.seq == seq then
      d.syncMeasured ((stamp : Int) + corr + y.corr) y.rx
    else d
  | none => d

/-- Lexicographic comparison of dataset members: some answer where they differ. -/
def lexLess : List (Nat × Nat) → Option Bool
  | [] => none
  | (a, b) :: rest => if a < b then some true else if b < a then some false else lexLess rest

/-- The dataset comparison of IEEE 1588-2019 (R339): a is better than b. -/
def PtpMaster.better (a b : PtpMaster) : Bool :=
  if a.identity = b.identity then (lexLess [(a.steps, b.steps), (a.sender, b.sender)]).getD false
  else (lexLess [(a.priority1, b.priority1), (a.clockClass, b.clockClass), (a.accuracy, b.accuracy), (a.variance, b.variance),
    (a.priority2, b.priority2), (a.identity, b.identity)]).getD false

/-- A received Announce takes part in master selection (R339). -/
def Device.ptpAnnounce (d : Device) (port domain transport : Nat) (m : PtpMaster) : Device :=
  if d.ptpMine port domain transport then
    let take := match d.tim.master with
      | none => true
      | some b => m.sender == b.sender || m.better b
    if take then { d with tim := { d.tim with master := some m } } else d
  else d

/-- The module sends a Delay_Req, timestamped at its departure (R339). -/
def Device.ptpDelayReq (d : Device) : Device :=
  if d.timeSrc = 1 ∧ d.ptpPort < 8 ∧ d.tim.master.isSome then
    { d with tim := { d.tim with delayReq := some (d.tim.delaySeq, d.now), delaySeq := (d.tim.delaySeq + 1) % 65536 } }
  else d

/-- A received Delay_Resp completes the delay measurement (R339): half of the two transit times. -/
def Device.ptpDelayResp (d : Device) (port domain transport sender seq stamp : Nat) (corr : Int) : Device :=
  match d.tim.delayReq with
  | some (q, t3) =>
    if d.ptpMine port domain transport && d.ptpFromMaster sender && q == seq then
      let delay := ((d.tim.t2 - d.tim.t1) + ((stamp : Int) - corr - t3)) / 2
      { d with tim := { d.tim with pathDelay := delay, delayReq := none } }
    else d
  | none => d

/-- Advances device time by a nominal interval under the rate adjustment in force (R335). -/
def Device.advance (d : Device) (units : Nat) : Device :=
  let x := (units : Int) * (1000000000 + sext 32 (d.reg Reg.TIM_SLEW).toNat) + d.tim.rest
  { d with now := d.now + (x / 1000000000).toNat, tim := { d.tim with rest := (x % 1000000000).toNat } }

end Machine
end Sys2Proof
end

