-- ==== Sys2Proof/Machine/Sync.lean ====
section
/-!
DEFINITION. The release of gates (R226), the retirement of engine commands (R228), and the sync unit: increments of other cores'
semaphores, waits, barriers and times (R233-R238).
-/
namespace Sys2Proof
namespace Machine

/-! ## Stroke numbers and stroke starts (R344-R346) -/

/-- Stroke number a is older than b (R344). -/
def strokeOlder (a b : Nat) : Bool :=
  let x := wrap 32 ((b : Int) - a)
  decide (1 ≤ x) && decide (x < 2 ^ 31)

/-- A partition whose schedule is FREE is free-running (R349, R359). -/
def Device.freeRunning (d : Device) (p : Nat) : Bool := d.stkState p == 0

/-- The schedule of partition p beside its registers. -/
def Device.stroke (d : Device) (p : Nat) : Stroke := (Cells.find? d.strokes p).getD {}

def Device.setStroke (d : Device) (p : Nat) (k : Stroke) : Device := { d with strokes := Cells.put d.strokes p k }

/-- A word of the active schedule of partition p, by its offset in the STK_ block (R360). -/
def Device.actWord (d : Device) (p off : Nat) : Nat := (Cells.get 0#32 (d.stroke p).active off).toNat

/-- The active period and guard of partition p, in units of device time (R346). -/
def Device.period (d : Device) (p : Nat) : Nat := (d.actWord p 0x20 + 0x100000000 * (d.actWord p 0x24 % 256)) * nsUnit
def Device.guard (d : Device) (p : Nat) : Nat := d.actWord p 0x28 * nsUnit

/-- T0 of partition p (R346, R352). -/
def Device.startTime (d : Device) (p : Nat) : Nat :=
  timeOfLayout ((d.reg (Reg.STK_START_0 p)).toNat + 2 ^ 32 * (d.reg (Reg.STK_START_1 p)).toNat
    + 2 ^ 64 * (d.reg (Reg.STK_START_2 p)).toNat)

/-- T_start of the stroke that lies k strokes after FIRST, not reduced (R346). -/
def Device.startOf (d : Device) (p : Nat) (k : Int) : Int := (d.startTime p : Int) + k * d.period p

/-- T_start(n) of stroke number n, taken serially from the current stroke (R344, R346). -/
def Device.tStart (d : Device) (p n : Nat) : Int :=
  let k := d.stroke p
  d.startOf p ((k.cur : Int) + sext 32 (wrap 32 ((n : Int) - d.strokeOf p)))

/-! ## Gates (R226, R230) -/

/-- The rotating priority of semaphore n of core c grants the gated head of an engine queue: a unit is taken and the command is
released to its engine. -/
def Device.gateRelease (d : Device) (c n : Nat) : Device :=
  match (d.core c).winner n with
  | some r =>
    if r < 6 then d.modCore c (fun k =>
      let k := k.grant n 1 r
      k.setQueue r (grantHead (k.queue r)))
    else d
  | none => d

/-! ## Retirement (R228) -/

/-- The opcodes and functions of VXQ (R140, R159, R160, R193, R194). -/
def vxKnown (opc f : Nat) : Bool :=
  match opc with
  | 0x30 => decide (f ≤ 0x0A)
  | 0x31 => decide (f ≤ 0x0E)
  | 0x32 => decide (f ≤ 0x06)
  | 0x35 => decide (f ≤ 0x02)
  | 0x36 => decide (f ≤ 0x06)
  | 0x37 => decide (f ≤ 0x01)
  | 0x33 | 0x34 | 0x38 => f == 0
  | 0x40 => (decide (1 ≤ f % 64) && decide (f % 64 ≤ 0x10)) || (decide (0x20 ≤ f % 64) && decide (f % 64 ≤ 0x2F))
  | 0x50 | 0x51 => decide (f % 8 ≤ 6)
  | _ => (decide (0x20 ≤ opc) && decide (opc ≤ 0x26) && f == 0) || (decide (0x52 ≤ opc) && decide (opc ≤ 0x56))

/-- The opcodes and functions that the engine of a queue has: R92, R109, R140, R193, R302, R233. -/
def knownOp (q : Nat) (e : QEntry) : Bool :=
  match q with
  | 0 => decide (1 ≤ e.opc) && decide (e.opc ≤ 3)
  | 1 => e.opc == 1
  | 2 => vxKnown e.opc (vxFunc e.c)
  | 3 | 4 => (decide (1 ≤ e.opc) && decide (e.opc ≤ 5)) || e.opc == 0x30 || e.opc == 0x31
  | _ => decide (1 ≤ e.opc) && decide (e.opc ≤ 4)

/-- The command in front of a queue of core c retires: one that has been executed and whose effects are complete, or one whose
opcode its engine does not have, which completes with ST_BAD_FIELD at the check. -/
def Device.engineRetire (d : Device) (c q : Nat) : Device :=
  match d.front c q with
  | none => d
  | some e =>
    match e.result with
    | some r =>
      if (q = 3 ∧ !(d.core c).engineIdle 0) ∨ (q = 4 ∧ !(d.core c).engineIdle 1) then d
      else
        let d := d.retire c q e r
        if (d.core c).siphonBusy = some q then d.modCore c (fun k => { k with siphonBusy := none }) else d
    | none =>
      if e.open && !knownOp q e then
        d.retire c q { e with started := true, since := d.cycles } { status := St.BAD_FIELD, faults := [{ status := St.BAD_FIELD }] }
      else d

/-! ## The sync unit (R233-R238) -/

/-- The fields of an SYQ command (R234). -/
def syValue (x : Nat) : Nat := bits x 63 48
def sySem (x : Nat) : Nat := bits x 37 32
def syCore (x : Nat) : Nat := bits x 44 38
def syCount (x : Nat) : Nat := bits x 55 48
def syScope (x : Nat) : Bool := bit x 40
def syBar (x : Nat) : Nat := bits x 35 32

/-- Takes the front command of SYQ when it is the one an opcode names and may run: its checks end it, or it starts. -/
def Device.sy (d : Device) (c opc : Nat) (check : Device → Nat → Option Nat) (f : Device → QEntry → Device) : Device :=
  match d.ready c 5 with
  | none => d
  | some e =>
    if e.opc ≠ opc ∨ e.started then d
    else
      let e := { e with started := true, since := d.cycles }
      match check d e.c with
      | some st => d.setFront c 5 { e with result := some (refused st) }
      | none => f (d.setFront c 5 e) e

/-- sy.sig (R236): its increment sets out for the target semaphore. -/
def Device.sySig (d : Device) (c : Nat) : Device :=
  d.sy c 0x01
    (fun d x => firstStatus
      [(bits x 255 64 != 0 || bits x 47 45 != 0 || syValue x == 0, St.BAD_FIELD),
       ((d.partOf c).isNone || d.partOf (syCore x) != d.partOf c, St.BAD_RANGE),
       (!d.hasSlot (syCore x), St.CORE_UNAVAILABLE)])
    (fun d e => { d with increments := d.increments ++
      [{ source := c, core := syCore e.c, sem := sySem e.c, amount := syValue e.c, stroke := e.stroke, tag := e.tag }] })

/-- Whether the front command of SYQ is the sy.sig that an increment came from. -/
def Increment.isFrom (n : Increment) (e : QEntry) : Bool :=
  e.opc == 0x01 && e.started && e.result.isNone && e.tag == n.tag && e.stroke == n.stroke

/-- An increment in flight reaches its target: applied on remote port 7, or discarded there where it carries an older stroke
number; the sy.sig it came from retires (R236, R344). -/
def Device.incrementArrival (d : Device) (i : Nat) : Device :=
  match d.increments[i]? with
  | none => d
  | some n =>
    let d := { d with increments := d.increments.eraseIdx i }
    let d := if strokeOlder n.stroke (d.coreStroke n.core) then d
      else d.semAdd n.core n.sem n.amount (if n.source < 128 then some n.tag else none) n.source 7
    if n.source < 128 then
      match d.front n.source 5 with
      | some e => if n.isFrom e then d.retire n.source 5 e {} else d
      | none => d
    else d

/-- sy.wait: it stands as a request of its semaphore until it is granted. -/
def Device.syWait (d : Device) (c : Nat) : Device :=
  d.sy c 0x02 (fun _ x => firstStatus [(bits x 255 64 != 0 || bits x 47 38 != 0 || syValue x == 0, St.BAD_FIELD)]) (fun d _ => d)

/-- The grant of a waiting sy.wait, when the arbiter of its semaphore chooses requester 7: VALUE is subtracted and the command
retires (R230). -/
def Device.syWaitGrant (d : Device) (c : Nat) : Device :=
  match d.front c 5, (d.core c).request 7 with
  | some e, some (n, v) =>
    if (d.core c).winner n = some 7 then (d.modCore c (fun k => k.grant n v 7)).retire c 5 e {} else d
  | _, _ => d

/-- The barrier an sy.bar names: of the core's cluster, or of its partition (R237). -/
def Device.barKey (d : Device) (c x : Nat) : Nat :=
  if syScope x then 256 + 16 * d.partNum c + syBar x else 16 * (c / 8) + syBar x

/-- The most arrivals an sy.bar may ask for: 8 in a cluster, the cores of the partition otherwise (R235). -/
def Device.barLimit (d : Device) (c x : Nat) : Nat :=
  if syScope x then (match d.partOf c with | some p => (d.coresOf p).length | none => 0) else 8

/-- sy.bar: an arrival at its barrier (R237). The first one of an episode fixes COUNT; another COUNT is a mismatch; the arrival
that completes the episode moves it to those that await release. -/
def Device.syArrive (d : Device) (c : Nat) : Device :=
  d.sy c 0x03
    (fun d x => firstStatus
      [(bits x 255 56 != 0 || bits x 47 41 != 0 || bits x 39 36 != 0 || syCount x == 0 || decide (syCount x > 128)
          || decide (syCount x > d.barLimit c x), St.BAD_FIELD)])
    (fun d e =>
      let key := d.barKey c e.c
      let b := (Cells.find? d.barriers key).getD {}
      let n := syCount e.c
      if !b.arrived.isEmpty && b.count != n then
        d.setFront c 5 { e with result := some (refused St.BARRIER_MISMATCH) }
      else
        let a := b.arrived ++ [c]
        let b := if a.length ≥ n then { b with count := n, arrived := [], full := b.full ++ [a] } else { b with count := n, arrived := a }
        { d with barriers := Cells.put d.barriers key b })

/-- Every arrival of a barrier's oldest full episode completes with ST_OK in one core cycle (R237). -/
def Device.barrierRelease (d : Device) (key : Nat) : Device :=
  match Cells.find? d.barriers key with
  | none => d
  | some b =>
    match b.full with
    | [] => d
    | l :: rest =>
      let d := { d with barriers := Cells.put d.barriers key { b with full := rest } }
      l.foldl (fun d c => match d.front c 5 with
        | some e => if e.opc == 0x03 && e.started && e.result.isNone then d.retire c 5 e {} else d
        | none => d) d

/-- The target of an sy.time: absolute, or counted from the start of the stroke the command bears (R238). -/
def Device.syTarget (d : Device) (c : Nat) (e : QEntry) : Nat :=
  let t := timeOfLayout (bits e.c 127 80 * 2 ^ 48 + bits e.c 79 48 * 0x10000 + bits e.c 47 32)
  if bit e.c 128 then (d.tStart (d.partNum c) e.stroke + t).toNat else t

/-- sy.time: it waits for its target. -/
def Device.syTime (d : Device) (c : Nat) : Device :=
  d.sy c 0x04
    (fun d x => firstStatus
      [(bits x 255 129 != 0 || decide (bits x 79 48 > 999999999) || (bit x 128 && d.freeRunning (d.partNum c)), St.BAD_FIELD)])
    (fun d e => d.setFront c 5 { e with target := d.syTarget c e })

/-- Device time is at or past the target of the sy.time of core c, and of every other one that it has reached: they complete in
the same core cycle (R238). -/
def Device.syTimeReached (d : Device) (c : Nat) : Device :=
  let waiting := fun (d : Device) (i : Nat) => match d.front i 5 with
    | some e => if e.opc == 0x04 && e.started && e.result.isNone then some e else none
    | none => none
  match waiting d c with
  | none => d
  | some e =>
    let d := { d with now := max d.now e.target }
    (List.range 128).foldl (fun d i => match waiting d i with
      | some f => if f.target ≤ d.now then d.retire i 5 f {} else d
      | none => d) d

end Machine
end Sys2Proof
end

