-- ==== Sys2Proof/Machine/AqSend.lean ====
section
/-!
DEFINITION. The sending side of the Aqueduct transport: flow contexts, the building of packets (R409-R416), spraying and the window
(R431, R432), the taking of messages, their completion (R426), and their cancellation at a stroke start (R438).
-/
namespace Sys2Proof
namespace Machine

/-! ## Ports and the spray set (R431, R432, R441) -/

def Device.port (d : Device) (i : Nat) : Port := d.aq.ports.getD i {}

def Device.setPort (d : Device) (i : Nat) (p : Port) : Device := { d with aq := { d.aq with ports := d.aq.ports.set i p } }

/-- The effective spray set, a mask of ports. -/
def Device.spraySet (d : Device) : Nat := d.fld Reg.AQ_STATUS 7 0

/-- Puts port i into the effective spray set or takes it out. -/
def Device.setSpray (d : Device) (i : Nat) (b : Bool) : Device :=
  (d.setFlag Reg.AQ_STATUS i b).setFlag (Reg.AQ_PORT_STATUS i) 30 b

/-- The port after the last one used, counting upward in the spray set (R431). -/
def Device.nextPort (d : Device) (last : Nat) : Option Nat :=
  (firstFrom (fun i => d.spraySet.testBit (i % 8)) (last + 1) 8).map (· % 8)

/-! ## Flow contexts (R417) -/

/-- The context of a flow number, unless it is FREE. -/
def Device.flow (d : Device) (f : Nat) : Option Flow := Cells.find? d.aq.flows f

def Device.setFlow (d : Device) (f : Nat) (x : Flow) : Device := { d with aq := { d.aq with flows := Cells.put d.aq.flows f x } }

/-- Changes a context, if it is allocated. -/
def Device.modFlow (d : Device) (f : Nat) (g : Flow → Flow) : Device :=
  match d.flow f with
  | some x => d.setFlow f (g x)
  | none => d

/-- The context becomes FREE. -/
def Device.freeFlow (d : Device) (f : Nat) : Device := { d with aq := { d.aq with flows := Cells.erase d.aq.flows f } }

/-- A flow number and generation in the DFLOW layout (R410). -/
def dflow (f gen : Nat) : Nat := gen % 0x4000 * 0x40000 + f % 0x40000

/-- Payload bytes per packet (AQ_CTL.MTU). -/
def Device.aqMtu (d : Device) : Nat := 1024 * 2 ^ d.fld Reg.AQ_CTL 1 0

/-- The partition's address of an IP version (R408). -/
def Device.partIp (d : Device) (p : Nat) (v6 : Bool) : Nat :=
  if v6 then
    (List.range 4).foldl (fun (a : Nat) w => a + (d.reg (Reg.AQ_IP6 p w)).toNat * 2 ^ (32 * w)) 0
  else (d.reg (Reg.AQ_IP4 p)).toNat

/-- The line rate of the spray set, in bits per second. -/
def Device.lineRate (d : Device) : Nat := 800000000000 * popCount d.spraySet 8

/-! ## Packets (R409-R416, R439) -/

def kindData : Nat := 0
def kindAck : Nat := 1
def kindMstat : Nat := 2
def kindCtrl : Nat := 3

/-- Bytes 8-39 of a data packet (R412). -/
def AqData.mid (x : AqData) (psn : Nat) : List Byte :=
  toLe 4 psn ++ toLe 4 x.stroke ++ toLe 4 x.msn ++ toLe 4 x.payload.length ++ toLe 8 x.addr ++ toLe 4 x.moff ++ toLe 4 x.oparg

/-- The 96-bit nonce of a packet (R439). -/
def aqNonce (salt tsn : Nat) : List Byte := toLe 4 salt ++ toLe 8 tsn

/-- The 48-byte header (R410). -/
def aqHeader (kind op flags dest : Nat) (mid : List Byte) (tsn : Nat) : List Byte :=
  toLe 1 (0x10 + kind) ++ toLe 1 op ++ toLe 2 flags ++ toLe 4 dest ++ mid ++ toLe 8 tsn

/-- The key slot a flow sends with. -/
def Flow.txKey (x : Flow) : Option AqKey := if x.keyid then x.key1 else x.key0

/-- The flow after one packet sent under its key. -/
def Flow.useTsn (x : Flow) : Flow :=
  if x.keyid then { x with key1 := x.key1.map (fun k => { k with tsn := k.tsn + 1 }) }
  else { x with key0 := x.key0.map (fun k => { k with tsn := k.tsn + 1 }) }

/-- The packet on the wire: header, payload, GCM tag where encrypted, CRC-32C (R409, R416, R439). -/
def Flow.packet (x : Flow) (kind op flags : Nat) (mid payload : List Byte) : List Byte :=
  let body :=
    match x.enc, x.txKey with
    | true, some k =>
      let key := toLe 32 k.key
      let h := aqHeader kind op (flags + 4 + (if x.keyid then 8 else 0)) (x.rflow) mid k.tsn
      let n := aqNonce k.salt k.tsn
      let ct := gcmCrypt key n payload
      h ++ ct ++ gcmTag key n h ct
    | _, _ => aqHeader kind op flags x.rflow mid 0 ++ payload
  body ++ toLe 4 (crc32c body)

/-- Queues a frame on a port. -/
def Device.queueFrame (d : Device) (port prio : Nat) (bs : List Byte) : Device :=
  { d with aq := { d.aq with txq := d.aq.txq ++ [{ port := port, prio := prio, bytes := bs }] } }

/-- Sends one packet of flow f on its next port; the Bool says whether it went. A flow whose transmission key is cleared, or
that finds no port, sends nothing, and nothing is sent once the module has been removed (R521). -/
def Device.sendPacket (d : Device) (f kind op flags : Nat) (mid payload : List Byte) : Device × Bool :=
  match d.flow f with
  | none => (d, false)
  | some x =>
    match d.nextPort x.lastPort with
    | none => (d, false)
    | some i =>
      if (x.enc && x.txKey.isNone) || d.flag (Reg.ZN_STATUS 0) 30 then (d, false)
      else
        let data := kind == kindData
        let prio := if data then d.fld (Reg.AQ_PORT_CTL i) 6 4 else d.fld (Reg.AQ_PORT_CTL i) 10 8
        let w : Wire := {
          nhMac := (d.reg (Reg.AQ_NHMAC_LO i)).toNat + d.fld (Reg.AQ_NHMAC_HI i) 15 0 * 0x100000000
          mac := (d.reg (Reg.AQ_PORTMAC_LO i)).toNat + d.fld (Reg.AQ_PORTMAC_HI i) 15 0 * 0x100000000
          prio := prio, vid := d.fld (Reg.AQ_PORT_CTL i) 27 16, v6 := x.ipv6, src := x.src, dst := x.remote
          dscp := if data then d.fld Reg.AQ_UDP 31 26 else d.fld Reg.AQ_UDP 25 20
          sport := 0xC000 + f % 1024 * 16 + x.path, dport := d.fld Reg.AQ_UDP 15 0 }
        let d := d.queueFrame i prio (udpFrame w (x.packet kind op flags mid payload))
        let x := { x.useTsn with lastPort := i, path := (x.path + 1) % 16 }
        ((d.setFlow f x).bump64 Reg.AQ_TX_PKTS_LO 1, true)

/-! ## Completion of messages (R426) -/

/-- A count of a semaphore that the hub sets out over the remote path of R236, with the stroke it bears. -/
def Device.hubSignal (d : Device) (core sem stroke : Nat) : Device :=
  { d with increments := d.increments ++ [{ source := 0xFF, core := core, sem := sem, amount := 1, stroke := stroke, tag := 0 }] }

/-- The signal of a descriptor of a partition; a core of another partition gets none. -/
def Device.descSignal (d : Device) (part core sem stroke : Nat) : Device :=
  if d.partOf core = some part then d.hubSignal core sem stroke else d

/-- The completion record of a descriptor, and its signal (R426). -/
def Device.aqRecord (d : Device) (part comp status stroke : Nat) (signal : Option (Nat × Nat)) : Device :=
  let d := (d.writeVa part comp (toLe 2 status ++ toLe 2 0 ++ toLe 4 stroke ++ toLe 8 (timeShort d.now))).1
  match signal with
  | some (c, s) => d.descSignal part c s stroke
  | none => d

/-- What a message that is complete leaves behind. -/
def Device.aqFinish (d : Device) (part : Nat) (m : TxMsg) (status : Nat) : Device :=
  match m.owner with
  | .desc comp signal => d.aqRecord part comp status m.stroke signal
  | .mirror p | .restore p | .header p _ =>
    if status = St.OK then d else { d with aq := { d.aq with failed := Cells.put d.aq.failed p status } }
  | _ => d

/-- Completes the i-th message of a flow. -/
def Device.aqComplete (d : Device) (f i status : Nat) : Device :=
  match d.flow f with
  | none => d
  | some x =>
    match x.msgs[i]? with
    | none => d
    | some m => (d.setFlow f { x with msgs := x.msgs.eraseIdx i }).aqFinish x.part m status

/-- Completes every message of a flow (R434, R420). -/
def Device.aqCompleteAll (d : Device) (f status : Nat) : Nat → Device
  | 0 => d
  | n + 1 => (d.aqComplete f 0 status).aqCompleteAll f status n

/-- A flow becomes BROKEN (R434). -/
def Device.breakFlow (d : Device) (f : Nat) : Device :=
  match d.flow f with
  | none => d
  | some x =>
    let d := d.setFlow f { x with phase := .broken, inflight := [], skips := [] }
    ((d.aqCompleteAll f St.FLOW_BROKEN x.msgs.length).bump Reg.AQ_BROKEN 1).firePart x.part 3

/-! ## The pump: sending what is ready (R428, R431) -/

/-- The first message with a packet to send; a FENCE that is not complete lets none after it go (R428). -/
def readyMsg : Nat → List TxMsg → Option Nat
  | _, [] => none
  | i, m :: ms => if !m.rest.isEmpty then some i else if m.op = 8 then none else readyMsg (i + 1) ms

/-- Whether a context carries data packets. -/
def Flow.carries (x : Flow) : Bool := x.phase == .live || x.phase == .closing

/-- The next packet of a message, with FIRST, LAST, UNTIMED and ACKREQ (R410, R433). -/
def TxMsg.packet (m : TxMsg) (msn moff : Nat) (bs : List Byte) (last : Bool) : AqData :=
  { op := m.op, flags := (if m.msn.isNone then 1 else 0) + (if last then 2 + 0x20 else 0) + (if m.untimed then 0x10 else 0),
    stroke := m.stroke, msn := msn, addr := m.addr, moff := moff, oparg := m.oparg, payload := bs }

/-- Sends the packets of a flow that are ready, at most n: first those whose retransmission waited for a port. -/
def Device.pumpFlow (d : Device) (f : Nat) : Nat → Device
  | 0 => d
  | n + 1 =>
    match d.flow f with
    | none => d
    | some x =>
      if !x.carries then d
      else
        match x.inflight.find? (fun p => p.sentAt.isNone) with
        | some p =>
          let r := d.sendPacket f kindData p.data.op (p.data.flags + 0x40) (p.data.mid p.psn) p.data.payload
          if !r.2 then d
          else
            let d := r.1.modFlow f (fun x => { x with inflight := x.inflight.map (fun q =>
              if q.psn = p.psn then { q with sentAt := some d.now, sends := q.sends + 1 } else q) })
            (d.bump Reg.AQ_RETX 1).pumpFlow f n
        | none =>
          if x.inflight.length ≥ 4096 then d
          else
            match readyMsg 0 x.msgs with
            | none => d
            | some i =>
              match x.msgs[i]? with
              | none => d
              | some m =>
                match m.rest with
                | [] => d
                | (moff, bs) :: rest =>
                  let msn := m.msn.getD x.nextMsn
                  let p := m.packet msn moff bs rest.isEmpty
                  let r := d.sendPacket f kindData p.op p.flags (p.mid x.nextPsn) bs
                  if !r.2 then d
                  else
                    (r.1.modFlow f (fun y => { y with
                      nextPsn := (x.nextPsn + 1) % 0x100000000
                      nextMsn := if m.msn.isNone then (x.nextMsn + 1) % 0x100000000 else x.nextMsn
                      msgs := y.msgs.set i { m with msn := some msn, rest := rest }
                      inflight := y.inflight ++ [{ psn := x.nextPsn, data := p, sentAt := some d.now }] })).pumpFlow f n

/-- Packets a flow still has to send. -/
def Flow.backlog (x : Flow) : Nat :=
  x.inflight.length + x.msgs.foldl (fun n m => n + m.rest.length) 0

/-- Sends what a flow has ready; a CLOSING context that has nothing left sends CLOSE (R420). -/
def Device.pump (d : Device) (f : Nat) : Device :=
  match d.flow f with
  | none => d
  | some x =>
    let d := d.pumpFlow f (x.backlog + 1)
    match d.flow f with
    | none => d
    | some x =>
      if x.phase == .closing && x.msgs.isEmpty && x.inflight.isEmpty && x.skips.isEmpty && !x.closeSent then
        let r := d.sendPacket f kindCtrl 3 0 (List.replicate 32 0#8) []
        if r.2 then r.1.modFlow f (fun x => { x with closeSent := true }) else d
      else d

/-- Every flow sends what it has ready, when ports have come back (R432). -/
def Device.pumpAll (d : Device) : Device := d.aq.flows.foldl (fun d e => d.pump e.1) d

/-! ## Taking messages -/

/-- The packets of a message as (offset, bytes): one packet where it has no payload. -/
def splitMsg (mtu : Nat) (bs : List Byte) : List (Nat × List Byte) :=
  if bs.isEmpty then [(0, [])]
  else (chunks mtu (ceilDiv bs.length mtu) bs).mapIdx (fun i b => (i * mtu, b))

/-- A message is handed to a flow and sent as far as it may be. -/
def Device.aqPost (d : Device) (f : Nat) (m : TxMsg) : Device :=
  (d.modFlow f (fun x => { x with msgs := x.msgs ++ [m] })).pump f

/-- The reduction sequencer sends a piece or a settle record to a slot over a flow (R412, R422, R436). A flow that is not OPEN or
OPENING, or belongs to another partition, carries nothing. -/
def Device.aqReduction (d : Device) (part f stroke : Nat) (piece : Bool) (xfmt dest : Nat) (bs : List Byte) : Device :=
  match d.flow f with
  | none => d
  | some x =>
    if x.part == part && (x.phase == .live || x.phase == .opening) then
      d.aqPost f { owner := .reduction, op := if piece then 4 else 7, untimed := false, stroke := stroke, addr := 0,
                   oparg := if piece then xfmt * 0x1000000 + dest else 0x1000000 + dest, rest := splitMsg d.aqMtu bs }
    else d

/-! ## Stroke starts (R438) -/

/-- Tells the receiver of abandoned PSNs. -/
def Device.sendSkip (d : Device) (f : Nat) (k : AqSkip) : Device :=
  let r := d.sendPacket f kindCtrl 5 0 (toLe 4 k.lo ++ toLe 4 k.hi ++ List.replicate 24 0#8) []
  if r.2 then r.1.modFlow f (fun x => { x with skips := x.skips.map (fun y => if y = k then { y with sentAt := some d.now } else y) })
  else d

/-- Consecutive PSNs of an ascending list as ranges. -/
def psnRanges : List Nat → List (Nat × Nat)
  | [] => []
  | p :: ps =>
    match psnRanges ps with
    | (a, b) :: rest => if (p + 1) % 0x100000000 = a then (p, b) :: rest else (p, (p + 1) % 0x100000000) :: (a, b) :: rest
    | [] => [(p, (p + 1) % 0x100000000)]

/-- Whether a message is timed and stamped older than a stroke. -/
def TxMsg.stale (m : TxMsg) (stroke : Nat) : Bool := !m.untimed && strokeOlder m.stroke stroke

/-- The flow's timed messages older than a stroke end with ST_CANCELLED, and their unacknowledged PSNs go out in SKIPs. -/
def Device.cancelFlow (d : Device) (f stroke : Nat) : Device :=
  match d.flow f with
  | none => d
  | some x =>
    let old := x.msgs.filter (·.stale stroke)
    let gone := x.inflight.filter (fun p => p.data.flags % 0x20 < 0x10 && strokeOlder p.data.stroke stroke)
    let ks : List AqSkip := (psnRanges (gone.map (·.psn))).map (fun r => { lo := r.1, hi := r.2, sentAt := none })
    let d := d.setFlow f { x with
      msgs := x.msgs.filter (fun m => !m.stale stroke)
      inflight := x.inflight.filter (fun p => !gone.contains p)
      skips := x.skips ++ ks }
    let d := old.foldl (fun d m => d.aqFinish x.part m St.CANCELLED) d
    (ks.foldl (fun d k => d.sendSkip f k) d).pump f

/-- The transport at T_start of partition p (R438). -/
def Device.aqStrokeStart (d : Device) (p : Nat) : Device :=
  d.aq.flows.foldl (fun d e => if e.2.part = p then d.cancelFlow e.1 (d.strokeOf p) else d) d

end Machine
end Sys2Proof
end

