-- ==== Sys2Proof/Machine/Copies.lean ====
section
/-!
DEFINITION. The copy engines: their accesses through translation, cluster cache and windows, the request slots they take (R294-R298),
how a copy ends (R271, R329, R331), cp.lin (R304, R315), the cache commands (R278-R282) and table loads (R172-R175, R325).
-/
namespace Sys2Proof
namespace Machine

/-! ## Request slots (R294-R296) -/

/-- The slots of a core that wait on a DRAM bank. -/
def Core.onBank (k : Core) (b : Nat) : Nat := (k.slots.filter (fun s => s.bank == some b)).length

/-- The next request of copy engine m that has not taken a slot. -/
def Core.nextRequest (k : Core) (m : Nat) : Option Slot := k.toIssue.find? (fun s => s.engine == m)

/-- Whether the next request of engine m can take a slot: fewer than 512 held, and fewer than 32 on its bank. -/
def Core.canIssue (k : Core) (m : Nat) : Bool :=
  match k.nextRequest m with
  | some s => decide (k.slots.length < 512) && (match s.bank with | some b => decide (k.onBank b < 32) | none => true)
  | none => false

/-- Drops the first request of engine m from a list. -/
def dropRequest (m : Nat) : List Slot → List Slot
  | [] => []
  | s :: ss => if s.engine = m then ss else s :: dropRequest m ss

/-- The requests of both engines take slots in their orders, R29 between the engines, until neither can go on. -/
def Core.issueSlots (k : Core) : Nat → Core
  | 0 => k
  | n + 1 =>
    match rotate 2 k.slotPtr k.canIssue with
    | none => k
    | some m =>
      match k.nextRequest m with
      | none => k
      | some s => ({ k with slots := k.slots ++ [s], toIssue := dropRequest m k.toIssue, slotPtr := (m + 1) % 2 }).issueSlots n

/-- The most slots held on one bank. -/
def Core.bankPeak (k : Core) : Nat :=
  k.slots.foldl (fun a s => match s.bank with | some b => max a (k.onBank b) | none => a) 0

/-- Waiting requests take slots, and CORE_MEM_SLOTS shows new peaks (R300). -/
def Device.pumpSlots (d : Device) (c : Nat) : Device :=
  let d := d.modCore c (fun k => k.issueSlots k.toIssue.length)
  let k := d.core c
  let r := Reg.CORE_MEM_SLOTS c
  (d.setFld r 25 16 (max (d.fld r 25 16) k.slots.length)).setFld r 31 26 (max (d.fld r 31 26) k.bankPeak)

/-- A response returns for slot i of core c and frees it; one that is free already is not there (R294, R298). -/
def Device.requestResponse (d : Device) (c i : Nat) : Device :=
  (d.modCore c (fun k => { k with slots := k.slots.eraseIdx i })).pumpSlots c

/-- A controller confirms the withdrawal of a cancelled request, which frees its slot (R298). -/
def Device.withdrawalConfirm (d : Device) (c i : Nat) : Device :=
  match (d.core c).slots[i]? with
  | some s => if s.withdrawn then d.requestResponse c i else d
  | none => d

/-! ## Accesses of a copy -/

/-- A copy in execution: the device, whose copy it is, the unit of each stream's last request with the bytes and poison marks it has
written (R285, R294), the requests made, bytes written, the first uncorrectable access with its element, and counts. -/
structure CopyRun where
  d : Device
  c : Nat
  p : Nat
  m : Nat
  streams : List (Nat × Nat × BitVec 128 × BitVec 2) := []
  reqs : List Slot := []
  written : Nat := 0
  at' : Nat := 0
  bad : Option CmdFault := none
  conv : Counts := {}
  oobRead : Nat := 0
  oobDrop : Nat := 0
  addExc : Nat := 0

/-- Where an address of a copy leads: the core's own SRAM, a window, a line of device memory. -/
inductive Place where
  | own (off : Nat)
  | window (core off va : Nat)
  | line (pa va : Nat)

/-- The streams of a copy: source, destination, their scale arrays, indices. -/
def sSrc : Nat := 0
def sDst : Nat := 1
def sSrcScale : Nat := 2
def sDstScale : Nat := 3
def sIdx : Nat := 4

/-- Notes an uncorrectable access (R331): the first one stays, the others are counted. -/
def CopyRun.noteBad (x : CopyRun) (akind addr : Nat) : CopyRun :=
  match x.bad with
  | some f => { x with bad := some { f with count := f.count + 1 } }
  | none => { x with bad := some { status := St.UNCORRECTABLE, akind := akind, addr := addr, detail := x.at' } }

/-- The unit of a stream's last request, with what it has written. -/
def CopyRun.last (x : CopyRun) (st : Nat) : Option (Nat × BitVec 128 × BitVec 2) :=
  (x.streams.find? (fun e => e.1 == st)).map (·.2)

/-- Whether an access is part of the stream's last request (R294). -/
def CopyRun.more (x : CopyRun) (st unit : Nat) : Bool :=
  match x.last st with
  | some u => u.1 == unit
  | none => false

/-- Sets the last request of a stream. -/
def CopyRun.setLast (x : CopyRun) (st unit : Nat) (run : BitVec 128) (marks : BitVec 2) : CopyRun :=
  { x with streams := (st, unit, run, marks) :: x.streams.filter (fun e => e.1 != st) }

/-- The next accesses start requests of their own. -/
def CopyRun.fresh (x : CopyRun) : CopyRun := { x with streams := [] }

/-- A request that takes a slot. -/
def CopyRun.take (x : CopyRun) (bank : Option Nat) : CopyRun :=
  { x with reqs := { engine := x.m, bank := bank } :: x.reqs }

/-- Translates the address of one access (R303). -/
def CopyRun.locate (x : CopyRun) (sp : Bool) (acc : Access) (a : Nat) : CopyRun × Except (Nat × Nat) Place :=
  if sp then
    match x.d.coreXlate x.c x.p acc a with
    | (d, .error st) => ({ x with d := d }, .error (st, a))
    | (d, .ok pa) =>
      ({ x with d := d }, .ok (match regionOf pa with | .window k o => .window k o a | _ => .line pa a))
  else (x, .ok (.own a))

/-- The parts of a range that one access each can carry: lines of device addresses, a whole range of local SRAM. -/
def parts (sp : Bool) (a n : Nat) : List (Nat × Nat) := if sp then pieces 128 a n else if n = 0 then [] else [(a, n)]

/-- Translates every part of a range, stopping at the first that fails. -/
def CopyRun.locateParts (x : CopyRun) (sp : Bool) (acc : Access) : List (Nat × Nat) → CopyRun × Except (Nat × Nat) (List (Place × Nat))
  | [] => (x, .ok [])
  | (a, n) :: rest =>
    match x.locate sp acc a with
    | (x, .error e) => (x, .error e)
    | (x, .ok pl) =>
      match x.locateParts sp acc rest with
      | (x, .error e) => (x, .error e)
      | (x, .ok pls) => (x, .ok ((pl, n) :: pls))

/-- Translates a range. -/
def CopyRun.locateAll (x : CopyRun) (sp : Bool) (acc : Access) (a n : Nat) : CopyRun × Except (Nat × Nat) (List (Place × Nat)) :=
  x.locateParts sp acc (parts sp a n)

/-- n bytes of a local SRAM from an offset, each with whether its 64-bit word is uncorrectable (R253, R331). -/
def Core.sramFlags (k : Core) (off n : Nat) : List (Byte × Bool) :=
  (k.sramBytes off n).zipIdx.map (fun e => (e.1, k.sramBad.contains ((off + e.2) / 8)))

/-- The requests of a window access: units of 64 bytes (R294). -/
def CopyRun.windowRequests (x : CopyRun) (st : Nat) : List (Nat × Nat) → CopyRun
  | [] => x
  | (a, _) :: rest =>
    let x := if x.more st (2 ^ 60 + a / 64) then x else (x.setLast st (2 ^ 60 + a / 64) 0#128 0#2).take none
    x.windowRequests st rest

/-- Reads n bytes at a place, each with whether it is affected by an uncorrectable error (R331). -/
def CopyRun.readPlace (x : CopyRun) (st : Nat) (pl : Place) (n : Nat) : CopyRun × List (Byte × Bool) :=
  match pl with
  | .own off =>
    let bs := (x.d.core x.c).sramFlags off n
    let r := x.d.sramRead x.c off n
    let x := { x with d := r.1 }
    (match r.2.2 with | some b => x.noteBad 1 b | none => x, bs)
  | .window k off va =>
    let bs := (x.d.core k).sramFlags off n
    let r := x.d.sramRead k off n
    let x := ({ x with d := r.1 }).windowRequests st (pieces 64 va n)
    (match r.2.2 with | some _ => x.noteBad 2 va | none => x, bs)
  | .line pa va =>
    let more := x.more st (pa / 128)
    let r := x.d.cacheRead (x.c / 8) pa n more
    let x := ({ x with d := r.1 }).setLast st (pa / 128) 0#128 0#2
    let x := if r.2.2.2 then x.take (dramBank pa) else if more then x else x.take none
    (if r.2.2.1 then x.noteBad 2 va else x, r.2.1)

/-- Reads the parts of a range. -/
def CopyRun.readParts (x : CopyRun) (st : Nat) : List (Place × Nat) → CopyRun × List (Byte × Bool)
  | [] => (x, [])
  | (pl, n) :: rest =>
    let r := x.readPlace st pl n
    let q := r.1.readParts st rest
    (q.1, r.2 ++ q.2)

/-- Marks the words of a local SRAM that received a byte marked as poisoned (R331). -/
def Core.sramMark (k : Core) (off : Nat) (bs : List (Byte × Bool)) : Core :=
  bs.zipIdx.foldl (fun k e =>
    let w := (off + e.2) / 8
    if e.1.2 && !k.sramBad.contains w then { k with sramBad := k.sramBad ++ [w] } else k) k

/-- Writes bytes, with their poison marks, to a local SRAM; the Bool says that part of an uncorrectable word was written. -/
def Device.sramPlace (d : Device) (k off : Nat) (bs : List (Byte × Bool)) : Device × Bool :=
  let r := d.sramStore k off (bs.map (·.1))
  (r.1.modCore k (fun k => k.sramMark off bs), r.2)

/-- Writes bytes with their poison marks at a place. -/
def CopyRun.writePlace (x : CopyRun) (st : Nat) (pl : Place) (bs : List (Byte × Bool)) : CopyRun :=
  let x := { x with written := x.written + bs.length }
  match pl with
  | .own off =>
    let r := x.d.sramPlace x.c off bs
    let x := { x with d := r.1 }
    if r.2 then x.noteBad 1 off else x
  | .window k off va =>
    let r := x.d.sramPlace k off bs
    let x := ({ x with d := r.1 }).windowRequests st (pieces 64 va bs.length)
    if r.2 then x.noteBad 2 va else x
  | .line pa _ =>
    let more := x.more st (pa / 128)
    let o := pa % 128
    let m := bs.zipIdx.foldl (fun (m : BitVec 2) e => if e.1.2 then m ||| halvesOf (o + e.2) 1 else m) 0#2
    let old := if more then (x.last st).getD (0, 0#128, 0#2) else (0, 0#128, 0#2)
    let run := old.2.1 ||| byteMask o bs.length
    let marks := old.2.2 ||| m
    let x := { x with d := x.d.cacheWrite (x.c / 8) pa (bs.map Prod.fst) run marks more }
    let x := x.setLast st (pa / 128) run marks
    if more then x else x.take none

/-- Writes bytes over the parts of a range. -/
def CopyRun.writeParts (x : CopyRun) (st : Nat) : List (Place × Nat) → List (Byte × Bool) → CopyRun
  | [], _ => x
  | (pl, n) :: rest, bs => (x.writePlace st pl (bs.take n)).writeParts st rest (bs.drop n)

/-! ## How a copy ends (R271, R329, R331) -/

/-- The fault point of a copy: the walk's status, the virtual address, the element (R271). -/
def faultPoint (e : Nat × Nat) (idx : Nat) : CmdFault := { status := e.1, akind := 2, addr := e.2, detail := idx }

/-- The result of a copy: the device with its requests under way, and what its retirement will show. -/
def CopyRun.finish (x : CopyRun) (f : Option CmdFault) : Device × CmdResult :=
  let k := x.c
  let status := match f with | some f => f.status | none => if x.bad.isSome then St.UNCORRECTABLE else St.OK
  let cnt := [(Reg.CP_OOB_READ k, x.oobRead), (Reg.CP_OOB_DROP k, x.oobDrop), (Reg.CP_ADD_EXC k, x.addExc)]
  let r : CmdResult :=
    { status := status
      faults := f.toList ++ x.bad.toList
      add32 := cnt
      add64 := [(if x.m = 0 then Reg.CP_BYTES_0_LO k else Reg.CP_BYTES_1_LO k, x.written)]
      lastTags := if cnt.any (fun e => e.2 != 0) then [Reg.CP_LASTTAG k] else [] }
  ((x.d.modCore k (fun c => { c with toIssue := c.toIssue ++ x.reqs.reverse })).pumpSlots k, r.withCounts k x.conv)

/-- A copy command refused by its checks (R326): an overlap counts in CP_OVERLAP (R317). -/
def copyRefused (c st : Nat) : CmdResult :=
  if st = St.OVERLAP then { status := st, add32 := [(Reg.CP_OVERLAP c, 1)], lastTags := [Reg.CP_LASTTAG c] } else refused st

/-- A copy command of engine m of core c: its checks, then its run. -/
def Device.copyCommand (d : Device) (c m : Nat) (isOp : QEntry → Bool) (check : Device → Nat → Option Nat)
    (run : CopyRun → Nat → CopyRun × Option CmdFault) : Device :=
  d.runFront c (3 + m) isOp (fun d e =>
    match check d e.c with
    | some st => (d, copyRefused c st)
    | none =>
      let r := run { d := d, c := c, p := d.partNum c, m := m } e.c
      r.1.finish r.2)

/-! ## Ranges and checks (R303, R313, R326) -/

/-- A declared range: first address and end; as strides may reach below 0, an integer. -/
abbrev Rng := Int × Int

/-- Two ranges share a byte. -/
def Rng.meets (a b : Rng) : Bool := decide (a.1 < b.2) && decide (b.1 < a.2) && decide (a.1 < a.2) && decide (b.1 < b.2)

/-- A range leaves its space: 8 MiB of local SRAM, or 48-bit addresses. -/
def rangeOut (sp : Bool) (r : Rng) : Bool := decide (r.1 < 0) || decide (r.2 > (if sp then 2 ^ 48 else 8388608 : Nat))

/-- An address field of space 0 past local SRAM (R303). -/
def fieldOut (sp : Bool) (a : Nat) : Bool := !sp && decide (a ≥ sramSize)

/-! ## cp.lin (R304) -/

/-- The pieces of a linear copy that one access on either side carries: (position, length), ascending. -/
def linPieces (ssp dsp : Bool) (src dst : Nat) : Nat → Nat → Nat → List (Nat × Nat)
  | 0, _, _ => []
  | fuel + 1, pos, len =>
    if len = 0 then []
    else
      let a := if ssp then 128 - (src + pos) % 128 else len
      let b := if dsp then 128 - (dst + pos) % 128 else len
      let n := min len (min a b)
      (pos, n) :: linPieces ssp dsp src dst fuel (pos + n) (len - n)

/-- Moves pieces of bytes in the order given. The fault point is the first byte of a piece in element order: its last byte where the
order descends. -/
def CopyRun.moveBytes (x : CopyRun) (ssp dsp : Bool) (src dst : Nat) (down : Bool) :
    List (Nat × Nat) → CopyRun × Option (Nat × Nat × Nat)
  | [] => (x, none)
  | (pos, n) :: rest =>
    let i := if down then pos + n - 1 else pos
    match x.locate ssp .read (src + pos) with
    | (x, .error e) => (x, some (e.1, src + i, i))
    | (x, .ok ps) =>
      match x.locate dsp .write (dst + pos) with
      | (x, .error e) => (x, some (e.1, dst + i, i))
      | (x, .ok pd) =>
        let r := x.readPlace sSrc ps n
        (r.1.writePlace sDst pd r.2).moveBytes ssp dsp src dst down rest

/-- The checks of cp.lin (R304, R326). -/
def linCheck (x : Nat) : Option Nat :=
  let n := bits x 159 120
  let rng := fun (a : Nat) => ((a : Int), ((a + n : Nat) : Int))
  firstStatus
    [(bits x 119 34 != 0, St.BAD_FIELD),
     (fieldOut (bit x 33) (bits x 255 208) || fieldOut (bit x 32) (bits x 207 160)
        || rangeOut (bit x 33) (rng (bits x 255 208)) || rangeOut (bit x 32) (rng (bits x 207 160)), St.BAD_RANGE)]

/-- The run of a cp.lin that has passed its checks. -/
def linRun (run : CopyRun) (x : Nat) : CopyRun × Option CmdFault :=
  let src := bits x 255 208
  let dst := bits x 207 160
  let n := bits x 159 120
  let ps := linPieces (bit x 33) (bit x 32) src dst n 0 n
  let meet := bit x 33 == bit x 32 && decide (src < dst) && decide (dst < src + n)
  let r := run.moveBytes (bit x 33) (bit x 32) src dst meet (if meet then ps.reverse else ps)
  (r.1, r.2.map (fun f => faultPoint (f.1, f.2.1) f.2.2))

def Device.cpLin (d : Device) (c m : Nat) : Device :=
  d.copyCommand c m (fun e => e.opc == 0x01) (fun _ => linCheck) linRun

/-! ## Cache commands (R278-R282) -/

/-- A cache command processes one line: written back, and dropped by an acquire; the write-back holds a request slot (R280). -/
def CopyRun.cacheLine (x : CopyRun) (drop : Bool) (l : CacheLine) : CopyRun :=
  let g := x.c / 8
  let x := if l.dirty = 0#128 then x else x.take (dramBank (128 * l.line))
  let d := (x.d.writeBack g l).bump (Reg.HUB_CC_MAINT g) 1
  let k := d.cluster g
  { x with d := d.setCluster g { k with
      lines := if drop then k.lines.filter (fun y => y.line != l.line)
        else k.lines.map (fun y => if y.line = l.line then y.clean else y) } }

/-- The cached lines whose bytes meet a physical range, in address order of lookup. -/
def Cluster.linesIn (k : Cluster) (pa n : Nat) : List CacheLine :=
  k.lines.filter (fun l => decide (128 * l.line < pa + n) && decide (pa < 128 * l.line + 128))

/-- A cache command goes over its pages in ascending order; a page that fails ends it (R271, R280). -/
def CopyRun.cachePages (x : CopyRun) (drop : Bool) (base : Nat) : List (Nat × Nat) → CopyRun × Option CmdFault
  | [] => (x, none)
  | (va, n) :: rest =>
    match x.d.coreXlate x.c x.p .maint va with
    | (d, .error st) => ({ x with d := d }, some (faultPoint (st, va) (va - base)))
    | (d, .ok pa) =>
      let x := { x with d := d }
      let x := match regionOf pa with
        | .window _ _ => x
        | _ => ((x.d.cluster (x.c / 8)).linesIn pa n).foldl (fun x l => x.cacheLine drop l) x
      x.cachePages drop base rest

/-- The checks of a cache command (R278, R326). -/
def cacheCheck (x : Nat) : Option Nat :=
  let a := bits x 255 208
  let n := bits x 207 168
  firstStatus
    [(bits x 167 33 != 0 || (bit x 32 && (a != 0 || n != 0)), St.BAD_FIELD),
     (decide (a + n > 2 ^ 48), St.BAD_RANGE)]

/-- The run of a cache command: every line of the cluster under ALL, else those of its range. -/
def cacheRun (drop : Bool) (run : CopyRun) (x : Nat) : CopyRun × Option CmdFault :=
  if bit x 32 then (((run.d.cluster (run.c / 8)).lines).foldl (fun r l => r.cacheLine drop l) run, none)
  else run.cachePages drop (bits x 255 208) (pieces 0x10000 (bits x 255 208) (bits x 207 168))

def Device.cacheCommand (d : Device) (c m opc : Nat) (drop : Bool) : Device :=
  d.copyCommand c m (fun e => e.opc == opc) (fun _ => cacheCheck) (cacheRun drop)

/-! ## Table loads (R172-R175, R325) -/

/-- SLOT of a cp.table. -/
def tabSlot (x : Nat) : Nat := bits x 36 33

/-- The unpublished half of a slot, as 2 * slot + half. -/
def Device.spareHalf (d : Device) (c s : Nat) : Nat := 2 * s + (1 - d.fld (Reg.SF_SLOT c s) 28 28)

/-- Whether a load of slot s may begin: no other load of it is in progress, and no command in flight uses its half (R174). -/
def Device.mayLoad (d : Device) (c s : Nat) : Bool :=
  let k := d.core c
  !d.flag (Reg.SF_SLOT c s) 31 && !([0, 1, 2].any (fun q => (k.queue q).any (fun e => e.uses == some (d.spareHalf c s))))

/-- Reads the pieces of an image. -/
def CopyRun.readImage (x : CopyRun) (ssp : Bool) : List (Nat × Nat) → CopyRun × List Byte × Option CmdFault
  | [] => (x, [], none)
  | (a, n) :: rest =>
    match x.locate ssp .read a with
    | (x, .error e) => (x, [], some (faultPoint e 0))
    | (x, .ok pl) =>
      let r := x.readPlace sSrc pl n
      let q := r.1.readImage ssp rest
      (q.1, r.2.map (·.1) ++ q.2.1, q.2.2)

/-- The load of the front cp.table begins: the image streams to the load checker into the unpublished half. One whose source faults
or is uncorrectable is never published: its half is invalid and it ends with that status. -/
def Device.startLoad (d : Device) (c m : Nat) (e : QEntry) : Device :=
  let s := tabSlot e.c
  let h := d.spareHalf c s
  let r := CopyRun.readImage { d := d, c := c, p := d.partNum c, m := m } (bit e.c 32) (parts (bit e.c 32) (bits e.c 255 208) (bits e.c 207 168))
  let f := r.1.finish r.2.2
  let d := f.1.modCore c (fun k => { k with table := Cells.set [] k.table h (bytesToWords (ceilDiv r.2.1.length 4) r.2.1) })
  let d := d.setFlag (Reg.SF_SLOT c s) (30 - h % 2) false
  let e := { e with started := true, uses := some h }
  if f.2.status = St.OK then (d.setFlag (Reg.SF_SLOT c s) 31 true).setFront c (3 + m) e
  else d.setFront c (3 + m) { e with result := some f.2 }

/-- The checks of cp.table (R325, R326). -/
def tableCheck (x : Nat) : Option Nat :=
  let n := bits x 207 168
  firstStatus
    [(bits x 167 37 != 0 || decide (n < 32) || decide (n > 16416), St.BAD_FIELD),
     (fieldOut (bit x 32) (bits x 255 208) || rangeOut (bit x 32) ((bits x 255 208 : Nat), ((bits x 255 208 + n : Nat) : Int)), St.BAD_RANGE)]

/-- cp.table: its checks; the load begins where R174 lets it, else the engine holds the command. -/
def Device.cpTable (d : Device) (c m : Nat) : Device :=
  match d.ready c (3 + m) with
  | none => d
  | some e =>
    if e.opc ≠ 0x05 ∨ e.started then d
    else
      let x := e.c
      let e := { e with started := true, since := d.cycles }
      match tableCheck x with
      | some st => d.setFront c (3 + m) { e with result := some (refused st) }
      | none => if d.mayLoad c (tabSlot x) then d.startLoad c m e else d.setFront c (3 + m) e

/-- A held table load begins once its slot's unpublished half is free (R174). -/
def Device.tableLoadStart (d : Device) (c m : Nat) : Device :=
  match d.ready c (3 + m) with
  | none => d
  | some e => if e.opc = 0x05 ∧ e.started ∧ e.uses.isNone ∧ d.mayLoad c (tabSlot e.c) then d.startLoad c m e else d

/-- The length in bytes that the header of an image gives (R166). -/
def Table.imageBytes (t : Table) : Nat := 32 + (if t.quadratic then 16 else 8) * t.nseg

/-- The last record has passed the checker: the half is published, or the load refused (R169, R173, R175). -/
def Device.publish (d : Device) (c m : Nat) (e : QEntry) (h : Nat) : Device :=
  let s := h / 2
  let r := Reg.SF_SLOT c s
  let t : Table := d.halfTable c (some h)
  let verdict := if t.imageBytes ≠ bits e.c 207 168 then some (TableRefusal.mk 1 0) else t.check
  let d := d.setFlag r 31 false
  match verdict with
  | none =>
    let d := (((d.setFlag r (30 - h % 2) true).setFld r 28 28 (h % 2)).setFld r 23 16 ((d.fld r 23 16 + 1) % 256)).setFld r 26 25 t.mono
    let d := ((d.setFlag r 24 t.quadratic).setFld r 10 0 t.nseg).bump (Reg.SF_LOADS c) 1
    d.setFront c (3 + m) { e with result := some {} }
  | some v =>
    let d := (d.setFlag r (30 - h % 2) false).bump (Reg.SF_REFUSED c) 1
    let d := d.setReg (Reg.SF_REFUSE_INFO c) (BitVec.ofNat 32 (0x80000000 + s * 2 ^ 27 + v.reason * 2 ^ 24 + v.seg))
    let d := d.noteTag (Reg.SF_REFUSE_TAG c) e.tag
    d.setFront c (3 + m) { e with result := some (refused (if v.reason = 1 then St.BAD_FIELD else St.TABLE_SEAM)) }

/-- The load checker finishes the load of slot s of core c. -/
def Device.tablePublish (d : Device) (c s : Nat) : Device :=
  let found := [0, 1].find? (fun m => match d.front c (3 + m) with
    | some e => e.opc == 0x05 && e.result.isNone && (match e.uses with | some h => h / 2 == s | none => false)
    | none => false)
  match found with
  | none => d
  | some m =>
    match d.front c (3 + m) with
    | some e => (match e.uses with | some h => d.publish c m e h | none => d)
    | none => d

end Machine
end Sys2Proof
end

