-- ==== Sys2Proof/Machine/Scan.lean ====
section
/-!
DEFINITION. sf.eval (R159-R165) and the scan network (R184-R206): scans over lanes and beats, carry registers, row statistics and
soft maximum.
-/
namespace Sys2Proof
namespace Machine

/-! ## sf.eval -/

/-- Occupancy of the special-function unit, and of the scan network. -/
def sfBusy (c n : Nat) : List (Nat × Nat) := [(Reg.VX_SF_BUSY_LO c, n)]
def scanBusy (c n : Nat) : List (Nat × Nat) := [(Reg.VX_SCAN_BUSY_LO c, n)]

/-- sf.eval of the function codes a test accepts; FUNC bits 7:6 must be 0 (R159, R160). -/
def sfOp (code : Nat → Bool) : VxOp :=
  { opc := 0x40, func := fun f => code (f % 64), used := [fFmt, fMask, fVd, fVa], fmtOk := Fmt.isFloat,
    field := fun w => bits (vxFunc w) 7 6 != 0 }

/-- F over the elements of VA (R159, R161): each input widened exactly to FP32. -/
def Device.sfMap (d : Device) (c w fn : Nat) (t : Table) : Device × VxOut :=
  let fmt := vxFmt w
  let r := d.vxMap c w [vxVa w] (fun xs =>
    fnEval (d.sfVersion c) fn fmt ((Fmt.float fmt).decode (nthBits xs 0)).toFp32 t)
  (r.1, { r.2 with busy := sfBusy c (ceilDiv ((d.core c).count fmt) 128) })

/-- sf.eval of a built-in function. -/
def Device.sfBuiltin (d : Device) (c fn : Nat) : Device :=
  d.vx c (sfOp (· == fn)) (fun d w => d.sfMap c w fn [])

/-- sf.eval through a user slot (R160): waits for a load, completes with ST_TABLE_EMPTY, or evaluates the published half. -/
def Device.sfTab (d : Device) (c : Nat) : Device :=
  let o := sfOp (fun f => decide (0x20 ≤ f) && decide (f ≤ 0x2F))
  match d.ready c 2 with
  | none => d
  | some e =>
    let fn := vxFunc e.c % 64
    let run := (o.check (d.core c) e.c).isNone && decide ((d.core c).vl ≠ 0)
    if o.holds e && run && d.fnWaits c fn then d
    else
      d.runChecked c 2 o.holds
        (fun d e => (o.check (d.core c) e.c).or (if run && d.fnEmpty c fn then some St.TABLE_EMPTY else none))
        (fun d e =>
          if (d.core c).vl = 0 then (d, {})
          else
            let r := d.sfMap c e.c fn (d.halfTable c (d.fnHalf c fn))
            (r.1, r.2.result c))

/-! ## The scan tree (R184-R188) -/

/-- A join of two positions, either of which may be absent. -/
def joinOpt {α : Type} (join : α → α → α × Tally) : Option α → Option α → Option α × Tally
  | some u, some v => (some (join u v).1, (join u v).2)
  | some u, none => (some u, {})
  | none, v => (v, {})

/-- One level: position p joins position p - d. -/
def scanLevel {α : Type} (join : α → α → α × Tally) (d : Nat) (xs : List (Option α)) : List (Option α) × Tally :=
  let rs := List.zipWith (joinOpt join) (List.replicate d none ++ xs) xs
  (rs.map (·.1), Tally.sum (rs.map (·.2)))

/-- Levels l to l + n - 1. -/
def scanLevels {α : Type} (join : α → α → α × Tally) : Nat → Nat → List (Option α) → List (Option α) × Tally
  | 0, _, xs => (xs, {})
  | n + 1, d, xs =>
    let r := scanLevel join d xs
    let q := scanLevels join n (2 * d) r.1
    (q.1, r.2.add q.2)

/-- The scan values of a sequence: eleven levels. -/
def scanTree {α : Type} (join : α → α → α × Tally) (xs : List (Option α)) : List (Option α) × Tally := scanLevels join 11 1 xs

/-- One rounding into a format, as a value again: floating by R142, integer wrapping at the element width (R187). -/
def roundInto (fmt : Nat) (ops : List Num) (v : Num) : Num × Tally :=
  if Fmt.isInt fmt then (Num.of (sext (elemWidth fmt) (intBits (elemWidth fmt) v)) 0, {})
  else
    let r := farith (Fmt.float fmt) ops v
    ((Fmt.float fmt).decode r.1, r.2)

/-- The bits of a value already rounded into a format. -/
def bitsOf (fmt : Nat) (v : Num) : Nat :=
  if Fmt.isInt fmt then intBits (elemWidth fmt) v else ((Fmt.float fmt).round false v).bits

/-- Log-sum-exp of two values (R187). -/
def lseJoin (ver fmt : Nat) (u v : Num) : Num × Tally :=
  if u.isNan || v.isNan then (.nan, {})
  else
    let m := u.maximum v
    if m.isInf then (m, {})
    else
      let δ := ((u.minimum v).sub m).toFp32
      roundInto fmt [u, v] (m.add (Num.ofFp32 (builtin ver Fn.SOFTPLUS Fmt.FP32 δ).1))

/-- The combine of KIND 0 to 4 (R187). -/
def scanJoin (ver kind fmt : Nat) (u v : Num) : Num × Tally :=
  match kind with
  | 0 => roundInto fmt [u, v] (u.add v)
  | 1 => (u.maximum v, {})
  | 2 => (u.minimum v, {})
  | 3 => roundInto fmt [u, v] (u.mul v)
  | _ => lseJoin ver fmt u v

/-- a * h + b rounded once (R187, R188). -/
def fusedInto (fmt : Nat) (a h b : Num) : Num × Tally := roundInto fmt [a, h, b] ((a.mul h).add b)

/-- The affine composition (R187). -/
def affineJoin (fmt : Nat) (u v : Num × Num) : (Num × Num) × Tally :=
  let a := roundInto fmt [v.1, u.1] (v.1.mul u.1)
  let b := fusedInto fmt v.1 u.2 v.2
  ((a.1, b.1), a.2.add b.2)

/-- A scan's results over one sequence: B and A of an affine kind, or the value twice; with the carry applied (R186, R188). -/
def scanSeq (ver kind fmt : Nat) (carry : Option Num) (as bs : List (Option Num)) : List (Option (Num × Num)) × Tally :=
  if kind < 5 then
    let r := scanTree (scanJoin ver kind fmt) as
    match carry with
    | none => (r.1.map (·.map (fun x => (x, x))), r.2)
    | some c =>
      let q := r.1.map (fun x => joinOpt (scanJoin ver kind fmt) (x.map (fun _ => c)) x)
      (q.map (fun x => x.1.map (fun y => (y, y))), r.2.add (Tally.sum (q.map (·.2))))
  else
    let leaves := List.zipWith (fun a b => match a, b with | some x, some y => some (x, y) | _, _ => none) as bs
    let r := scanTree (affineJoin fmt) leaves
    match carry with
    | none => (r.1.map (·.map (fun x => (x.2, x.1))), r.2)
    | some h =>
      let q := r.1.map (·.map (fun p => fusedInto fmt p.1 h p.2))
      (q.map (·.map (fun y => (y.1, y.1))), r.2.add (Tally.sum (q.filterMap (·.map (·.2)))))

/-! ## Fields of the scan opcodes (R194) -/

def scanScr (w : Nat) : Nat := bits (vxFunc w) 7 5
def scanCout (w : Nat) : Bool := bit (vxFunc w) 4
def scanCin (w : Nat) : Bool := bit (vxFunc w) 3

/-- The conditions on a scan's fields (R195): kind 6 is AFFINE_PAIR; R beats; sources and destinations within V63. -/
def scanField (kind r : Nat) (w : Nat) : Bool :=
  (kind == 6 && (scanCin w || scanCout w)) || decide (vxVd w + (if kind = 6 then 2 * r else r) > 64)
    || (decide (kind ≥ 5) && decide (vxVb w + r > 64))

/-- The formats a kind accepts. -/
def scanFmt (kind fmt : Nat) : Bool := if kind ≥ 4 then Fmt.isFloat fmt else isReg fmt

/-- Occupancy of a scan: LSE occupies the special-function unit with the network (R196). -/
def scanOccupancy (c kind n lse : Nat) : List (Nat × Nat) :=
  if kind = 4 then scanBusy c lse ++ sfBusy c lse else scanBusy c n

/-- Elements present, as values. -/
def present (fmt : Nat) (en : List Bool) (xs : List Nat) : List (Option Num) := leavesOf fmt en xs

/-- The value of the carry element of a sequence, where CIN asks for it. -/
def carryIn (fmt w : Nat) (cs : List Nat) (i : Nat) : Option Num :=
  if scanCin w then some (elemValue fmt false 0x7F (cs.getD i 0)) else none

/-- Results as elements of a destination: a present one its bits, a disabled one kept or zeroed (R186). -/
def scanOut (fmt w : Nat) (en : List Bool) (rs : List (Option Num)) : List (Option Nat) :=
  underMask w en (rs.map (fun x => match x with | some v => bitsOf fmt v | none => 0))

/-- The instruction of `Device.vxScan`: its opcode, fields and checks. -/
def scanOp (kind : Nat) : VxOp :=
  { opc := 0x50, func := fun f => f % 8 == kind,
    used := [fFmt, fMask, fVd, fVa] ++ (if kind ≥ 5 then [fVb] else []), fmtOk := isReg,
    field := scanField kind 1, format := fun w => !scanFmt kind (vxFmt w) }

/-- What it does. -/
def Device.scanWork (d : Device) (c : Nat) (kind : Nat) (w : Nat) : Device × VxOut :=
  let k := d.core c
  let fmt := vxFmt w
  let e := k.count fmt
  let en := k.enabled w e
  let scr := scanScr w
  let srcs := [vxVa w] ++ (if kind ≥ 5 then [vxVb w] else [])
  let rd := srcs ++ (if scanCin w then [64 + scr] else [])
  let r := scanSeq (d.sfVersion c) kind fmt (carryIn fmt w (k.elems (64 + scr) fmt k.vl) 0)
    (present fmt en (k.elems (vxVa w) fmt k.vl)) (present fmt en (k.elems (vxVb w) fmt k.vl))
  let last := (r.1.filterMap id).getLast?
  (d.modCore c (fun k =>
     let k := k.putElems (vxVd w) fmt (scanOut fmt w en (r.1.map (·.map (·.1))))
     let k := if kind = 6 then k.putElems (vxVd w + 1) fmt (scanOut fmt w en (r.1.map (·.map (·.2)))) else k
     if scanCout w then
       match last with
       | some v => k.putCarry scr fmt [some (bitsOf fmt v.1)]
       | none => k
     else k),
   { tally := r.2, fault := k.badSources rd k.vl (perLane fmt), busy := scanOccupancy c kind 1 (ceilDiv e 128) })

/-- vx.scan (R184-R190). -/
def Device.vxScan (d : Device) (c kind : Nat) : Device :=
  d.vx c (scanOp kind) (fun d w => d.scanWork c kind w)

/-- The elements at one position of each register of a range. -/
def beatColumn (cols : List (List Nat)) (i : Nat) : List Nat := cols.map (fun l => l.getD i 0)

/-- The instruction of `Device.vxBscan`: its opcode, fields and checks. -/
def bscanOp (kind : Nat) : VxOp :=
  let beats := fun w => vxVc w - vxVa w + 1
  { opc := 0x51, func := fun f => f % 8 == kind,
    used := [fFmt, fMask, fVd, fVa, fVc] ++ (if kind ≥ 5 then [fVb] else []), fmtOk := isReg,
    field := fun w => decide (vxVc w < vxVa w) || decide (vxVc w - vxVa w > 15) || scanField kind (beats w) w,
    format := fun w => !scanFmt kind (vxFmt w) }

/-- What it does. -/
def Device.bscanWork (d : Device) (c : Nat) (kind : Nat) (w : Nat) : Device × VxOut :=
  let beats := fun w => vxVc w - vxVa w + 1
  let k := d.core c
  let fmt := vxFmt w
  let e := k.count fmt
  let en := k.enabled w e
  let scr := scanScr w
  let n := beats w
  let regs := fun v => (List.range n).map (v + ·)
  let as := (regs (vxVa w)).map (fun q => k.elems q fmt k.vl)
  let bs := (regs (vxVb w)).map (fun q => k.elems q fmt k.vl)
  let cs := k.elems (64 + scr) fmt k.vl
  let val := fun x => elemValue fmt false 0x7F x
  let rs := en.zipIdx.map (fun x =>
    if x.1 then
      scanSeq (d.sfVersion c) kind fmt (carryIn fmt w cs x.2) ((beatColumn as x.2).map (fun a => some (val a)))
        ((beatColumn bs x.2).map (fun b => some (val b)))
    else (List.replicate n none, {}))
  let beat := fun j (f : Num × Num → Num) => scanOut fmt w en (rs.map (fun r => ((r.1.getD j none)).map f))
  let rd := regs (vxVa w) ++ (if kind ≥ 5 then regs (vxVb w) else []) ++ (if scanCin w then [64 + scr] else [])
  (d.modCore c (fun k =>
     let k := (List.range n).foldl (fun k j => k.putElems (vxVd w + j) fmt (beat j (·.1))) k
     let k := if kind = 6 then (List.range n).foldl (fun k j => k.putElems (vxVd w + n + j) fmt (beat j (·.2))) k else k
     if scanCout w then
       k.putCarry scr fmt (rs.map (fun r => (r.1.getD (n - 1) none).map (fun v => bitsOf fmt v.1)))
     else k),
   { tally := Tally.sum (rs.map (·.2)), fault := k.badSources rd k.vl (perLane fmt)
     busy := scanOccupancy c kind n (n * ceilDiv e 128) })

/-- vx.bscan over VA to VC (R184, R188, R190): each enabled element scans across the beats. -/
def Device.vxBscan (d : Device) (c kind : Nat) : Device :=
  d.vx c (bscanOp kind) (fun d w => d.bscanWork c kind w)

/-- The instruction of `Device.vxCget`: its opcode, fields and checks. -/
def cgetOp : VxOp :=
  { opc := 0x52, func := fun f => !f.testBit 0, used := [fVd], fmtOk := anyFmt,
    field := fun w => bits (vxFunc w) 4 1 != 0 }

/-- What it does. -/
def Device.cgetWork (d : Device) (c : Nat) (w : Nat) : Device × VxOut :=
  let k := d.core c
  (d.modCore c (fun k => k.putElems (vxVd w) Fmt.INT32 ((k.elems (64 + scanScr w) Fmt.INT32 512).map some)),
   { fault := k.badSources [64 + scanScr w] 512 1, busy := scanBusy c 1 })

/-- vx.cget: all 512 lanes of SCn into VD (R191). -/
def Device.vxCget (d : Device) (c : Nat) : Device :=
  d.vx c cgetOp (fun d w => d.cgetWork c w)

/-- The instruction of `Device.vxCset`: its opcode, fields and checks. -/
def csetOp : VxOp :=
  { opc := 0x52, func := fun f => f.testBit 0, used := [fVa], fmtOk := anyFmt,
    field := fun w => bits (vxFunc w) 4 1 != 0 }

/-- What it does. -/
def Device.csetWork (d : Device) (c : Nat) (w : Nat) : Device × VxOut :=
  let k := d.core c
  (d.modCore c (fun k => k.putCarry (scanScr w) Fmt.INT32 ((k.elems (vxVa w) Fmt.INT32 512).map some)),
   { fault := k.badSources [vxVa w] 512 1, busy := scanBusy c 1 })

/-- vx.cset: all 512 lanes of VA into SCn (R191). -/
def Device.vxCset (d : Device) (c : Nat) : Device :=
  d.vx c csetOp (fun d w => d.csetWork c w)

/-! ## Row statistics (R197-R201) -/

/-- A row-statistics triple: count, mean, sum of squared deviations. -/
structure Triple where
  n : Int
  mu : Num
  m2 : Num
  deriving DecidableEq, Repr

/-- The combine of R197; a count above 2^31 - 1 saturates under R199. -/
def Triple.join (a b : Triple) : Triple × Tally :=
  let n := a.n + b.n
  if n > 2 ^ 31 - 1 then ({ n := 2 ^ 31 - 1, mu := .nan, m2 := .nan }, { isat := 1 })
  else if a.n = 0 then (b, {})
  else if b.n = 0 then (a, {})
  else
    let δ := roundInto Fmt.FP32 [b.mu, a.mu] (b.mu.sub a.mu)
    let N := Num.of n 0
    let na := Num.of a.n 0
    let nb := Num.of b.n 0
    let mu := roundInto Fmt.FP32 [a.mu, δ.1] (((a.mu.mul N).add (δ.1.mul nb)).div N)
    let m2 := roundInto Fmt.FP32 [a.m2, b.m2, δ.1] ((((a.m2.add b.m2).mul N).add (((δ.1.mul δ.1).mul na).mul nb)).div N)
    ({ n := if n < -(2 ^ 31) then Config.countBelow a.n b.n else n, mu := mu.1, m2 := m2.1 }, (δ.2.add mu.2).add m2.2)

/-- A triple as the three lane words it is written as. -/
def Triple.words (t : Triple) : List Nat := [wrap 32 t.n, t.mu.toFp32, t.m2.toFp32]

/-- The triple of three lane words. -/
def Triple.ofWords (n mu m2 : Nat) : Triple := { n := sext 32 n, mu := Num.ofFp32 mu, m2 := Num.ofFp32 m2 }

/-- Segments of 2^G elements that hold an element below E (R196). -/
def segments (e g : Nat) : Nat := ceilDiv e (2 ^ g)

/-- The segment of a lane. -/
def laneSegment (n g lane : Nat) : Nat := lane * n / 2 ^ g

/-- The conditions of G (R195). -/
def badSegment (w : Nat) : Bool := decide (vxFunc w > 11) || decide (2 ^ vxFunc w < perLane (vxFmt w))

/-- The instruction of `Device.vxRstat`: its opcode, fields and checks. -/
def rstatOp : VxOp :=
  { opc := 0x53, func := fun _ => true, used := [fFmt, fMask, fVd, fVa], fmtOk := Fmt.isFloat,
    field := fun w => badSegment w || decide (vxVd w + 3 > 64) }

/-- What it does. -/
def Device.rstatWork (d : Device) (c : Nat) (w : Nat) : Device × VxOut :=
  let k := d.core c
  let fmt := vxFmt w
  let n := perLane fmt
  let g := vxFunc w
  let en := k.enabled w (k.count fmt)
  let leaves := (leavesOf fmt en (k.elems (vxVa w) fmt k.vl)).map
    (·.map (fun x => ({ n := 1, mu := x, m2 := .zero false } : Triple)))
  let r := treeLevels Triple.join g leaves
  let rows := r.1.map (fun x => (x.getD { n := 0, mu := .zero false, m2 := .zero false }).words)
  let col := fun j => (List.range k.vl).map (fun i => some ((rows.getD (laneSegment n g i) []).getD j 0))
  (d.modCore c (fun k => (List.range 3).foldl (fun k j => k.putElems (vxVd w + j) Fmt.INT32 (col j)) k),
   { tally := r.2, fault := k.badSources [vxVa w] k.vl n, busy := scanBusy c (if n > 1 then 2 else 1) })

/-- vx.rstat (R198). -/
def Device.vxRstat (d : Device) (c : Nat) : Device :=
  d.vx c rstatOp (fun d w => d.rstatWork c w)

/-- The instruction of `Device.vxRstatc`: its opcode, fields and checks. -/
def rstatcOp : VxOp :=
  { opc := 0x54, func := fun _ => true, used := [fFmt, fMask, fVd, fVa, fVb], fmtOk := (· == Fmt.INT32),
    field := fun w => vxFunc w != 0 || decide (vxVd w + 3 > 64) || decide (vxVa w + 3 > 64) || decide (vxVb w + 3 > 64) }

/-- What it does. -/
def Device.rstatcWork (d : Device) (c : Nat) (w : Nat) : Device × VxOut :=
  let k := d.core c
  let en := k.enabled w k.vl
  let lanes := fun v j => k.elems (v + j) Fmt.INT32 k.vl
  let tr := fun v i => Triple.ofWords ((lanes v 0).getD i 0) ((lanes v 1).getD i 0) ((lanes v 2).getD i 0)
  let rs := en.zipIdx.map (fun x =>
    if x.1 then
      let r := (tr (vxVa w) x.2).join (tr (vxVb w) x.2)
      (r.1.words, r.2)
    else ([0, 0, 0], {}))
  let rd := (List.range 3).flatMap (fun j => [vxVa w + j, vxVb w + j])
  (d.modCore c (fun k =>
     (List.range 3).foldl (fun k j => k.putElems (vxVd w + j) Fmt.INT32 (underMask w en (rs.map (fun r => r.1.getD j 0)))) k),
   { tally := Tally.sum (rs.map (·.2)), fault := k.badSources rd k.vl 1, busy := scanBusy c 1 })

/-- vx.rstatc (R199). -/
def Device.vxRstatc (d : Device) (c : Nat) : Device :=
  d.vx c rstatcOp (fun d w => d.rstatcWork c w)

/-! ## Soft maximum (R202, R203) -/

/-- EXP of a value rounded to FP32, in a format: its bits and counts. -/
def expInto (ver fmt : Nat) (x : Num) : Nat × Tally := builtin ver Fn.EXP fmt x.toFp32

/-- The lane that holds a segment's first element. -/
def firstLane (n g s : Nat) : Nat := s * 2 ^ g / n

/-- The new maximum and the rescale factor of one segment, as FP32 patterns. -/
def smxRow (ver : Nat) (old : Num) (xs : List (Option Num)) : List Nat :=
  let m := xs.foldl (fun m x => match x with | some v => m.maximum v | none => m) old
  let cf := if m.isNan then fp32.nanBits else if m.eq old then (Num.ofNat 1).toFp32 else (expInto ver Fmt.FP32 (old.sub m)).1
  [m.toFp32, cf]

/-- The instruction of `Device.vxSmxMax`: its opcode, fields and checks. -/
def smxMaxOp : VxOp :=
  { opc := 0x55, func := fun _ => true, used := [fFmt, fMask, fVd, fVa, fVb], fmtOk := Fmt.isFloat,
    field := fun w => badSegment w || decide (vxVd w + 2 > 64) }

/-- What it does. -/
def Device.smxMaxWork (d : Device) (c : Nat) (w : Nat) : Device × VxOut :=
  let k := d.core c
  let fmt := vxFmt w
  let n := perLane fmt
  let g := vxFunc w
  let s := segments (k.count fmt) g
  let en := k.enabled w (k.count fmt)
  let segs := chunks (2 ^ g) s (leavesOf fmt en (k.elems (vxVa w) fmt k.vl))
  let old := k.elems (vxVb w) Fmt.FP32 k.vl
  let rows := segs.zipIdx.map (fun x => smxRow (d.sfVersion c) (Num.ofFp32 (old.getD (firstLane n g x.2) 0)) x.1)
  let col := fun j => (List.range k.vl).map (fun i => some ((rows.getD (laneSegment n g i) []).getD j 0))
  let occ := max (if n > 1 then 2 else 1) (ceilDiv s 128)
  (d.modCore c (fun k => (List.range 2).foldl (fun k j => k.putElems (vxVd w + j) Fmt.FP32 (col j)) k),
   { fault := k.badSources (vxSources 2 w) k.vl n, busy := scanBusy c occ ++ sfBusy c occ })

/-- vx.smx.max (R202). -/
def Device.vxSmxMax (d : Device) (c : Nat) : Device :=
  d.vx c smxMaxOp (fun d w => d.smxMaxWork c w)

/-- The weight of a score (R203): its bits in FMT and its count. -/
def smxWeight (ver fmt : Nat) (m x : Num) : Nat × Tally :=
  let f := Fmt.float fmt
  if x.isNan || m.isNan then (f.nanBits, {})
  else if m = .inf true then (0, {})
  else if x.eq m then ((f.round false (.ofNat 1)).bits, {})
  else
    let r := expInto ver fmt (x.sub m)
    (r.1, { ovf := r.2.ovf })

/-- The instruction of `Device.vxSmxSum`: its opcode, fields and checks. -/
def smxSumOp : VxOp :=
  { opc := 0x56, func := fun _ => true, used := [fFmt, fMask, fVd, fVa, fVb, fVc], fmtOk := Fmt.isFloat,
    field := fun w => badSegment w || decide (vxVd w + 2 > 64) || decide (vxVb w + 2 > 64) }

/-- What it does. -/
def Device.smxSumWork (d : Device) (c : Nat) (w : Nat) : Device × VxOut :=
  let k := d.core c
  let fmt := vxFmt w
  let n := perLane fmt
  let g := vxFunc w
  let e := k.count fmt
  let en := k.enabled w e
  let lane := fun v i => Num.ofFp32 ((k.elems v Fmt.FP32 k.vl).getD (firstLane n g i) 0)
  let ps := (List.zipWith (fun b x => (b, x)) en (k.elems (vxVa w) fmt k.vl)).zipIdx.map (fun x =>
    if x.1.1 then smxWeight (d.sfVersion c) fmt (lane (vxVb w) (x.2 / 2 ^ g)) (elemValue fmt false 0x7F x.1.2) else (0, {}))
  let ts := treeLevels addFp32 g (leavesOf fmt en (ps.map (·.1)))
  let sums := ts.1.zipIdx.map (fun t => fusedInto Fmt.FP32 (lane (vxVc w) t.2) (lane (vxVb w + 1) t.2) (t.1.getD (.zero false)))
  let occ := ceilDiv e 128
  (d.modCore c (fun k =>
     (k.putElems (vxVd w) fmt (underMask w en (ps.map (·.1)))).putElems (vxVd w + 1) Fmt.FP32
       ((List.range k.vl).map (fun i => some ((sums.map (fun s => s.1.toFp32)).getD (laneSegment n g i) 0)))),
   { tally := ((Tally.sum (ps.map (·.2))).add ts.2).add (Tally.sum (sums.map (·.2)))
     fault := k.badSources [vxVa w, vxVb w, vxVb w + 1, vxVc w] k.vl n
     busy := scanBusy c occ ++ sfBusy c occ })

/-- vx.smx.sum (R203). -/
def Device.vxSmxSum (d : Device) (c : Nat) : Device :=
  d.vx c smxSumOp (fun d w => d.smxSumWork c w)

end Machine
end Sys2Proof
end

