-- ==== Sys2Proof/Machine/Reduction.lean ====
section
/-!
DEFINITION. Gradient reduction (R362-R404): opening buckets, the pieces of leaves, the sums of pair slots, settling, and delivery
to the owner.
-/
namespace Sys2Proof
namespace Machine

/-! ## Transfer formats (R372-R375) -/

def xFp32 : Nat := 0
def xBf16 : Nat := 1
def xL8 : Nat := 2
def xStat : Nat := 3

/-- Elements, or records, of a full piece (R372). -/
def pieceElems (xfmt : Nat) : Nat := if xfmt = xStat then 4096 else 65536

/-- Payload bytes of n elements in a transfer format (R374). -/
def payloadBytes (xfmt n : Nat) : Nat :=
  if xfmt = xFp32 then 4 * n else if xfmt = xBf16 then 2 * n else if xfmt = xL8 then n + ceilDiv n 32 + ceilDiv n 256 else 16 * n

/-- Size of a full piece with its header. -/
def fullPiece (xfmt : Nat) : Nat := 32 + payloadBytes xfmt (pieceElems xfmt)

/-- Bytes of one source element or record (R366, R375). -/
def sourceSize (xfmt sfmt : Nat) : Nat := if xfmt = xStat then 16 else if sfmt = Fmt.FP32 then 4 else 2

/-- NPIECE of a bucket, and the elements of piece i. -/
def Bucket.npiece (b : Bucket) : Nat := ceilDiv b.elems (pieceElems b.xfmt)
def Bucket.nelem (b : Bucket) (i : Nat) : Nat := min (pieceElems b.xfmt) (b.elems - i * pieceElems b.xfmt)

/-- A piece header (R373). -/
structure PieceHdr where
  tag : Nat
  piece : Nat
  stroke : Nat
  step : Nat := 0
  count : Nat := 0
  dest : Nat := 0
  xfmt : Nat := 0
  absent : Bool := false
  skew : Bool := false
  exc : Bool := false
  rescaled : Bool := false
  settled : Bool := false
  nelem : Nat := 0
  nresc : Nat := 0
  deriving DecidableEq, Repr

def bitOf (b : Bool) (i : Nat) : Nat := if b then 2 ^ i else 0

def PieceHdr.bytes (h : PieceHdr) : List Byte :=
  toLe 2 h.tag ++ toLe 2 h.piece ++ toLe 4 h.stroke ++ toLe 4 h.step ++ toLe 4 h.count ++ toLe 2 h.dest ++ toLe 1 h.xfmt
    ++ toLe 1 (bitOf h.absent 0 + bitOf h.skew 1 + bitOf h.exc 2 + bitOf h.rescaled 3 + bitOf h.settled 4)
    ++ toLe 4 h.nelem ++ toLe 4 h.nresc ++ toLe 4 0

/-- n bytes from an offset as a little-endian number. -/
def leAt (bs : List Byte) (off n : Nat) : Nat := leNat ((bs.drop off).take n)

def PieceHdr.ofBytes (bs : List Byte) : PieceHdr :=
  let f := leAt bs 19 1
  { tag := leAt bs 0 2, piece := leAt bs 2 2, stroke := leAt bs 4 4, step := leAt bs 8 4, count := leAt bs 12 4, dest := leAt bs 16 2,
    xfmt := leAt bs 18 1 % 4, absent := bit f 0, skew := bit f 1, exc := bit f 2, rescaled := bit f 3, settled := bit f 4,
    nelem := leAt bs 20 4, nresc := leAt bs 24 4 }

/-- What forming or summing a piece counts. -/
structure RedCounts where
  lost : Nat := 0
  sat : Nat := 0
  exc : Nat := 0
  rescaled : Nat := 0
  deriving DecidableEq, Repr

def RedCounts.add (a b : RedCounts) : RedCounts :=
  { lost := a.lost + b.lost, sat := a.sat + b.sat, exc := a.exc + b.exc, rescaled := a.rescaled + b.rescaled }

def Device.redCount (d : Device) (p : Nat) (k : RedCounts) : Device :=
  (((d.bump (Reg.RED_LOST p) k.lost).bump (Reg.RED_SAT p) k.sat).bump (Reg.RED_EXC p) k.exc).bump (Reg.RED_RESCALED p) k.rescaled

/-- One L8 block: scale, 32 mantissa bytes, rescaled bit. -/
structure L8Block where
  scale : Nat
  mants : List Nat
  resc : Bool
  deriving DecidableEq, Repr

/-- Bits of a list as bytes, bit j of byte i being element 8i + j. -/
def packFlags (n : Nat) (bs : List Bool) : List Byte := toLe n (bs.foldr (fun b acc => (if b then 1 else 0) + 2 * acc) 0)

/-- The payload of L8 blocks (R374). -/
def l8Payload (n : Nat) (bs : List L8Block) : List Byte :=
  (bs.map (fun b => b.mants.map (BitVec.ofNat 8))).flatten ++ bs.map (fun b => BitVec.ofNat 8 b.scale)
    ++ packFlags (ceilDiv n 256) (bs.map (·.resc))

/-- The blocks of an L8 payload of n elements. -/
def l8Blocks (n : Nat) (bs : List Byte) : List L8Block :=
  let nb := ceilDiv n 32
  let a := (chunks 32 nb bs).zip ((bs.drop n).take nb)
  let f := leNat (bs.drop (n + nb))
  a.mapIdx (fun i e => { scale := e.2.toNat, mants := e.1.map BitVec.toNat, resc := f.testBit i })

/-- The values of a block of L8. -/
def L8Block.values (b : L8Block) : List Num := b.mants.map (fun m => Num.of (sext 8 m) ((b.scale : Int) - 127))

/-! ## Uncorrectable reads (R381) -/

/-- Bytes read as canonical NaN, a poisoned block, or a record of NaN, wherever a codeword of them is uncorrectable. -/
def cleanPayload (xfmt n : Nat) (bs : List (Byte × Bool)) : List Byte :=
  let raw := bs.map (·.1)
  if !bs.any (·.2) then raw
  else if xfmt = xFp32 then
    ((chunks 4 n bs).map (fun c => if c.any (·.2) then toLe 4 fp32.nanBits else c.map (·.1))).flatten
  else if xfmt = xBf16 then
    ((chunks 2 n bs).map (fun c => if c.any (·.2) then toLe 2 bf16.nanBits else c.map (·.1))).flatten
  else if xfmt = xStat then
    ((chunks 16 n bs).map (fun c =>
      if c.any (·.2) then (c.map (·.1)).take 4 ++ toLe 4 fp32.nanBits ++ toLe 4 fp32.nanBits ++ toLe 4 0 else c.map (·.1))).flatten
  else
    let nb := ceilDiv n 32
    let bad := fun i => ((bs.drop (32 * i)).take 32).any (·.2) || (bs.getD (n + i) (0#8, false)).2 || (bs.getD (n + nb + i / 8) (0#8, false)).2
    l8Payload n ((l8Blocks n raw).mapIdx (fun i b => if bad i then { b with scale := 0xFF, mants := b.mants.map (fun _ => 0) } else b))

/-- What uncorrectable bytes of a payload count in RED_EXC: each element, or record, that NaN takes the place of. A poisoned block of L8 counts
where it is converted or summed (R375, R378, R404). -/
def badCounts (xfmt n : Nat) (bs : List (Byte × Bool)) : RedCounts :=
  if xfmt = xL8 ∨ !bs.any (·.2) then {}
  else { exc := ((chunks (if xfmt = xFp32 then 4 else if xfmt = xBf16 then 2 else 16) n bs).filter (fun c => c.any (·.2))).length }

/-! ## The pieces of a leaf (R375) -/

/-- A block of 32 elements converted to L8 with the agreed scale as its floor. -/
def leafBlock (agreed : Nat) (xs : List Num) : L8Block × RedCounts :=
  if xs.any (fun x => !x.finite) then
    ({ scale := 0xFF, mants := xs.map (fun _ => 0), resc := false }, { exc := 1 })
  else
    let s := max (ladderScale 8 xs) (min agreed 254)
    let o := ladderAt 8 8 s xs
    ({ scale := s, mants := o.codes, resc := decide (agreed < s) },
     { lost := o.counts.lost, sat := o.counts.sat, rescaled := if agreed < s then 1 else 0 })

/-- The agreed scale of block i of a bucket. -/
def Bucket.scaleAt (b : Bucket) (i : Nat) : Nat := if b.scales.isEmpty then b.agreed else (b.scales.getD i 0#8).toNat

/-- The payload of piece i of a leaf from its source bytes, with what it counts and its NRESC. -/
def Bucket.leafPayload (b : Bucket) (i : Nat) (src : List (Byte × Bool)) : List Byte × RedCounts × Nat :=
  let n := b.nelem i
  if b.xfmt = xStat then (cleanPayload xStat n src, badCounts xStat n src, 0)
  else
    let fp := b.sfmt = Fmt.FP32
    let clean := cleanPayload (if fp then xFp32 else xBf16) n src
    let hurt := badCounts (if fp then xFp32 else xBf16) n src
    if b.xfmt = xFp32 then
      (if fp then clean else ((chunks 2 n clean).map (fun c => toLe 2 0 ++ c)).flatten, hurt, 0)
    else if b.xfmt = xBf16 then
      if fp then
        let rs := (chunks 4 n clean).map (fun c => toElem Fmt.BF16 (fp32.decode (leNat c)))
        let k := rs.foldl (fun (k : Counts) r => k.add r.2) {}
        ((rs.map (fun r => toLe 2 r.1)).flatten, { lost := k.lost, sat := k.sat, exc := k.poison + hurt.exc }, 0)
      else (clean, hurt, 0)
    else
      let xs := if fp then (chunks 4 n clean).map (fun c => fp32.decode (leNat c)) else (chunks 2 n clean).map (fun c => bf16.decode (leNat c))
      let rs := (chunks 32 (n / 32) xs).mapIdx (fun j x => leafBlock (b.scaleAt (i * 2048 + j)) x)
      let k := rs.foldl (fun (k : RedCounts) r => k.add r.2) {}
      (l8Payload n (rs.map (·.1)), k, (rs.filter (fun r => r.1.resc)).length)

/-! ## The sums of a pair slot (R377-R379) -/

/-- The sum of two elements of a floating format. -/
def sumElem (f : FloatFmt) (x y : Nat) : Nat × RedCounts :=
  let a := f.decode x
  let b := f.decode y
  let s := a.add b
  let r := f.round false s
  (r.bits, { exc := if r.beyond || (s.isNan && !a.isNan && !b.isNan) then 1 else 0 })

/-- The sum of two L8 blocks. -/
def sumBlock (l r : L8Block) : L8Block × RedCounts :=
  let resc := l.resc || r.resc
  if l.scale = 0xFF ∨ r.scale = 0xFF then ({ scale := 0xFF, mants := l.mants.map (fun _ => 0), resc := resc }, { exc := 1 })
  else
    let vs := List.zipWith Num.add l.values r.values
    let top := max l.scale r.scale
    let s := max top (ladderScale 8 vs)
    let o := ladderAt 8 8 s vs
    ({ scale := s, mants := o.codes, resc := resc || decide (top < s) },
     { lost := o.counts.lost, sat := o.counts.sat, rescaled := if top < s then 1 else 0 })

/-- The sum of two payloads of n elements: the bytes, what it counts, NRESC. -/
def sumPayload (xfmt n : Nat) (l r : List Byte) : List Byte × RedCounts × Nat :=
  let total := fun (ks : List RedCounts) => ks.foldl RedCounts.add {}
  if xfmt = xL8 then
    let bs := List.zipWith sumBlock (l8Blocks n l) (l8Blocks n r)
    (l8Payload n (bs.map (·.1)), total (bs.map (·.2)), (bs.filter (fun b => b.1.resc)).length)
  else if xfmt = xStat then
    let t := fun (c : List Byte) => Triple.ofWords (leAt c 0 4) (leAt c 4 4) (leAt c 8 4)
    let rs := List.zipWith (fun a b => (t a).join (t b)) (chunks 16 n l) (chunks 16 n r)
    let rec' := fun (t : Triple) => (t.words.map (toLe 4)).flatten ++ toLe 4 0
    ((rs.map (fun x => rec' x.1)).flatten,
      total (rs.map (fun x => { sat := x.2.isat, exc := x.2.ovf + x.2.nanGen : RedCounts })), 0)
  else
    let w := if xfmt = xFp32 then 4 else 2
    let f := if xfmt = xFp32 then fp32 else bf16
    let rs := List.zipWith (fun a b => sumElem f (leNat a) (leNat b)) (chunks w n l) (chunks w n r)
    ((rs.map (fun x => toLe w x.1)).flatten, total (rs.map (·.2)), 0)

/-! ## Buckets and their memory -/

/-- The bucket open for a tag and stroke in partition p, by its place in the list (R383). -/
def Device.redFind (d : Device) (p tag stroke : Nat) : Option Nat :=
  let i := d.red.buckets.findIdx (fun b => b.part == p && b.tag == tag && b.stroke == stroke)
  if i < d.red.buckets.length then some i else none

def Device.bucket (d : Device) (i : Nat) : Option Bucket := d.red.buckets[i]?

def Device.setBucket (d : Device) (i : Nat) (b : Bucket) : Device := { d with red := { d.red with buckets := d.red.buckets.set i b } }

/-- The physical address of a virtual one, as the bucket translated it. -/
def Bucket.phys (b : Bucket) (va : Nat) : Nat := Cells.get 0 b.pages (va / 0x10000) * 0x10000 + va % 0x10000

/-- Reads bytes at the controllers, each with whether it is affected by an uncorrectable error. -/
def Device.readMarked (d : Device) (pa n : Nat) : Device × List (Byte × Bool) :=
  match regionOf pa with
  | .window c o => ((d.sramRead c o n).1, (d.core c).sramFlags o n)
  | .hole => (d, List.replicate n (0#8, false))
  | _ => ((d.dramRead pa n).1, (d.memBytes pa n).mapIdx (fun i b => (b, d.isPoisoned (pa + i))))

/-- The physical address of a virtual one in a map of 64 KiB pages. -/
def pagePhys (m : Cells Nat) (va : Nat) : Nat := Cells.get 0 m (va / 0x10000) * 0x10000 + va % 0x10000

/-- Reads a range of translated memory, page by page. -/
def Device.readPages (d : Device) (m : Cells Nat) : List (Nat × Nat) → Device × List (Byte × Bool)
  | [] => (d, [])
  | (va, n) :: rest =>
    let r := d.readMarked (pagePhys m va) n
    let q := r.1.readPages m rest
    (q.1, r.2 ++ q.2)

/-- Writes a range of translated memory, by-passing the cluster caches (R396). The Bool says that part of an uncorrectable word of a
local SRAM was written. -/
def Device.writePages (d : Device) (m : Cells Nat) : List (Nat × Nat) → List Byte → Device × Bool
  | [], _ => (d, false)
  | (va, n) :: rest, bs =>
    let r := d.physWrite (pagePhys m va) (bs.take n)
    let q := r.1.writePages m rest (bs.drop n)
    (q.1, r.2 || q.2)

/-- Reads, and writes, a range of the bucket's memory. -/
def Device.redRead (d : Device) (b : Bucket) (rs : List (Nat × Nat)) : Device × List (Byte × Bool) := d.readPages b.pages rs

def Device.redPut (d : Device) (b : Bucket) (va : Nat) (bs : List Byte) : Device := (d.writePages b.pages (pieces 0x10000 va bs.length) bs).1

/-- A record of the reduction sequencer or an accumulate unit (R371, R381, R383, R622). -/
def Device.redFault (d : Device) (p stroke tag status index addr : Nat) : Device :=
  d.raise { status := status, source := 8, akind := if addr = 0 then 0 else 2, part := p, index := index, stroke := stroke, addr := addr,
            detail := tag }

/-- Reads a payload; an uncorrectable codeword leaves its record (R381). The Bool says so. -/
def Device.redPayload (d : Device) (b : Bucket) (va n index : Nat) : Device × List (Byte × Bool) × Bool :=
  let r := d.redRead b (pieces 0x10000 va n)
  let bad := r.2.any (·.2)
  (if bad then r.1.redFault b.part b.stroke b.tag St.UNCORRECTABLE index va else r.1, r.2, bad)

/-! ## Messages (R384, R391) -/

/-- Whether a rank-table entry is VALID, LOCAL, DOWN (R398). -/
def rankValid (e : Nat) : Bool := bit e 63
def rankLocal (e : Nat) : Bool := bit e 62
def rankDown (e : Nat) : Bool := bit e 61

/-- Sends a message to the parent a rank-table entry and a PSLOT name: over the die links, or over its flow. -/
def Device.redSend (d : Device) (b : Bucket) (sender parent pslot : Nat) (piece : Bool) (bs : List Byte) : Device :=
  if rankLocal parent then
    { d with red := { d.red with net := d.red.net ++ [{ part := b.part, sender := sender, dest := pslot, piece := piece, bytes := bs }] } }
  else d.aqReduction b.part (bits parent 17 0) b.stroke piece b.xfmt pslot bs

/-- A settle record (R389). -/
def settleRecord (tag stroke lo hi : Nat) : List Byte := toLe 2 tag ++ toLe 2 0 ++ toLe 4 stroke ++ toLe 4 lo ++ toLe 4 hi

/-- The header of an ABSENT piece (R373). -/
def Bucket.absentHdr (b : Bucket) (i dest : Nat) : PieceHdr :=
  { tag := b.tag, piece := i, stroke := b.stroke, dest := dest, xfmt := b.xfmt, absent := true, nelem := b.nelem i }

/-! ## Leaves (R368-R372, R385) -/

/-- A leaf sends its piece i from its source. -/
def Device.leafPiece (d : Device) (b : Bucket) (l : RedLeaf) (step i : Nat) : Device :=
  let n := b.nelem i
  let w := sourceSize b.xfmt b.sfmt
  let r := d.redPayload b (l.src + i * pieceElems b.xfmt * w) (n * w) 0xFFFF
  let p := b.leafPayload i r.2.1
  let h : PieceHdr := {
    tag := b.tag, piece := i, stroke := b.stroke, step := step, count := 1, dest := l.pslot, xfmt := b.xfmt,
    exc := r.2.2 || decide (0 < p.2.1.exc), rescaled := decide (0 < p.2.2), nelem := n, nresc := p.2.2 }
  ((r.1.redCount b.part p.2.1).bump64 (Reg.RED_SENT_LO b.part) 1).redSend b l.num l.parent l.pslot true (h.bytes ++ p.1)

/-- A leaf sends all its pieces in order; to a parent whose rank is DOWN it sends nothing (R372, R391). -/
def Device.leafPieces (d : Device) (b : Bucket) (l : RedLeaf) (step : Nat) : Device :=
  if rankDown l.parent then d
  else (List.range b.npiece).foldl (fun d i => d.leafPiece b l step i) d

/-- A leaf that is not full sends a settle record of its own number and every piece as ABSENT (R370, R385). -/
def Device.leafAbsent (d : Device) (b : Bucket) (l : RedLeaf) : Device :=
  if rankDown l.parent then d
  else
    let d := d.redSend b l.num l.parent l.pslot false (settleRecord b.tag b.stroke l.num (l.num + 1))
    (List.range b.npiece).foldl (fun d i =>
      (d.bump (Reg.RED_ABSENT b.part) 1).redSend b l.num l.parent l.pslot true (b.absentHdr i l.pslot).bytes) d

/-- The bucket with its j-th leaf in a state. -/
def Bucket.setLeaf (b : Bucket) (j : Nat) (st : LeafState) : Bucket :=
  { b with leaves := b.leaves.mapIdx (fun i l => if i = j then { l with state := st } else l) }

/-- The fill record of an armed leaf holds these bytes: it becomes full where they name its tag and stroke, and sends (R368). -/
def Device.leafFill (d : Device) (i j : Nat) (bs : List Byte) : Device :=
  match d.bucket i with
  | none => d
  | some b =>
    match b.leaves[j]? with
    | none => d
    | some l =>
      if l.state == .armed && leAt bs 0 2 == b.tag && leAt bs 4 4 == b.stroke then
        (d.setBucket i (b.setLeaf j .sent)).leafPieces b l (leAt bs 8 4)
      else d

/-- Every armed leaf of the i-th bucket sends ABSENT pieces and is disarmed (R370, R385, R641). -/
def Device.leavesAbsent (d : Device) (i : Nat) : Device :=
  match d.bucket i with
  | none => d
  | some b =>
    (List.range b.leaves.length).foldl (fun d j =>
      match d.bucket i with
      | none => d
      | some b =>
        match b.leaves[j]? with
        | some l =>
          if l.state == .armed then
            let d := d.setBucket i (b.setLeaf j .absent)
            let d := match l.cw with
              | some cw => { d with red := { d.red with stale := d.red.stale ++ [(b.part, cw)] } }
              | none => d
            d.leafAbsent b l
          else d
        | none => d) d

/-! ## Contexts (R366, R397) -/

/-- The codewords that the leaves of open buckets watch, and those of disarmed fill records of the stroke. -/
def Device.rewatch (d : Device) : Device :=
  let cws := (d.red.buckets.map (fun b => b.leaves.filterMap (·.cw))).flatten ++ d.red.stale.map (·.2)
  { d with watches := (cws.eraseDups.map (fun c => { unit := 0, cw := c })) ++ d.watches.filter (fun w => w.unit != 0) }

/-- Whether every role of a bucket on this device is finished (R397). -/
def Bucket.finished (b : Bucket) : Bool :=
  b.leaves.all (fun l => l.state != .armed) && b.slots.all (fun s => decide (b.npiece ≤ s.sent)) &&
    (match b.owner with | some o => o.done | none => true)

/-- Frees the contexts whose roles are finished. -/
def Device.redFree (d : Device) : Device :=
  if d.red.buckets.any Bucket.finished then
    { d with red := { d.red with buckets := d.red.buckets.filter (fun b => !b.finished) } }.rewatch
  else d

/-- Frees every context of partition p whose stroke is older than its current one, with the messages and fill records of older
strokes (R397). -/
def Device.redStrokeStart (d : Device) (p : Nat) : Device :=
  { d with red := { d.red with
      buckets := d.red.buckets.filter (fun b => !(b.part == p && strokeOlder b.stroke (d.strokeOf p)))
      stale := d.red.stale.filter (fun x => x.1 != p) } }.rewatch

/-! ## Slots (R376-R391) -/

/-- What a slot holds of piece i on a side. -/
def RedSlot.side (s : RedSlot) (right : Bool) (i : Nat) : Option Side := Cells.find? (if right then s.right else s.left) i

def RedSlot.setSide (s : RedSlot) (right : Bool) (i : Nat) (v : Side) : RedSlot :=
  if right then { s with right := Cells.put s.right i v } else { s with left := Cells.put s.left i v }

/-- Where a slot buffers a side of piece i (R379, R401). -/
def RedSlot.place (s : RedSlot) (xfmt : Nat) (right : Bool) (i : Nat) : Nat :=
  if xfmt = xStat then s.buf + (2 * i + (if right then 1 else 0)) * fullPiece xfmt else s.buf + i * fullPiece xfmt

/-- A slot forwards a piece to its parent, or withholds it from one whose rank is DOWN; a piece that is settled, or withheld,
counts in RED_SETTLED (R387, R388, R391). -/
def Device.slotForward (d : Device) (b : Bucket) (s : RedSlot) (settled : Bool) (bs : List Byte) : Device :=
  let down := rankDown s.parent
  let d := if settled || down then d.bump (Reg.RED_SETTLED b.part) 1 else d
  if down then d else d.redSend b (0x10000 + s.num) s.parent s.pslot true bs

/-- The present side of a piece read back from its buffer. -/
def Device.slotRead (d : Device) (b : Bucket) (s : RedSlot) (right : Bool) (i : Nat) : Device × List Byte × Bool :=
  let n := b.nelem i
  let r := d.redPayload b (s.place b.xfmt right i + 32) (payloadBytes b.xfmt n) s.num
  (r.1.redCount b.part (badCounts b.xfmt n r.2.1), cleanPayload b.xfmt n r.2.1, r.2.2)

/-- The output header of a sum (R380). -/
def sumHdr (l r : PieceHdr) (dest nresc : Nat) (unc : Bool) : PieceHdr :=
  { l with count := l.count + r.count, dest := dest, absent := false
           skew := l.skew || r.skew || decide (l.step ≠ r.step), exc := l.exc || r.exc || unc
           rescaled := l.rescaled || r.rescaled, settled := l.settled || r.settled, nresc := nresc }

/-- A slot whose two sides of piece i are resolved handles the piece (R376, R387, R388). `s` holds both sides, and `fresh` the
payload of the side that has just arrived present, with its side. -/
def Device.slotResolve (d : Device) (b : Bucket) (s : RedSlot) (i : Nat) (fresh : Option (Bool × List Byte)) : Device :=
  let get := fun (d : Device) (right : Bool) =>
    match fresh with
    | some (q, bs) => if q = right then (d, bs, false) else d.slotRead b s right i
    | none => d.slotRead b s right i
  match s.side false i, s.side true i with
  | some (.present hl), some (.present hr) =>
    let l := get d false
    let r := get l.1 true
    let x := sumPayload b.xfmt (b.nelem i) l.2.1 r.2.1
    let h := sumHdr (PieceHdr.ofBytes hl) (PieceHdr.ofBytes hr) s.pslot x.2.2 (l.2.2 || r.2.2)
    let d := if b.xfmt = xStat then r.1 else r.1.redPut b (s.place b.xfmt false i) (h.bytes ++ x.1)
    let d := (d.redCount b.part x.2.1).bump64 (Reg.RED_SUMMED_LO b.part) 1
    d.slotForward b s false (h.bytes ++ x.1)
  | some (.present hl), some _ =>
    let l := get d false
    let h := PieceHdr.ofBytes hl
    l.1.slotForward b s true ({ h with dest := s.pslot, settled := true, exc := h.exc || l.2.2 }.bytes ++ l.2.1)
  | some _, some (.present hr) =>
    let r := get d true
    let h := PieceHdr.ofBytes hr
    r.1.slotForward b s true ({ h with dest := s.pslot, settled := true, exc := h.exc || r.2.2 }.bytes ++ r.2.1)
  | some _, some _ => d.slotForward b s true (b.absentHdr i s.pslot).bytes
  | _, _ => d

/-- Stores the k-th slot of the i-th bucket. -/
def Device.setSlot (d : Device) (i k : Nat) (s : RedSlot) : Device :=
  match d.bucket i with
  | some b => d.setBucket i { b with slots := b.slots.set k s }
  | none => d

/-- A side of a piece reaches the k-th slot (R376, R383, R388). -/
def Device.slotTake (d : Device) (i k : Nat) (right : Bool) (bs : List Byte) : Device :=
  match d.bucket i with
  | none => d
  | some b =>
    match b.slots[k]? with
    | none => d
    | some s =>
      let h := PieceHdr.ofBytes bs
      match s.side right h.piece with
      | some .missing => d.bump (Reg.RED_LATE b.part) 1
      | some _ => (d.bump (Reg.RED_DUP b.part) 1).redFault b.part b.stroke b.tag St.PLAN_CONFLICT s.num 0
      | none =>
        let s' := s.setSide right h.piece (if h.absent then .absent else .present (bs.take 32))
        match s.side (!right) h.piece with
        | none =>
          let d := if h.absent then d else d.redPut b (s.place b.xfmt right h.piece) bs
          d.setSlot i k s'
        | some _ =>
          let d := if b.xfmt = xStat && !h.absent then d.redPut b (s.place b.xfmt right h.piece) bs else d
          let s' := { s' with sent := s'.sent + 1 }
          (d.setSlot i k s').slotResolve b s' h.piece (if h.absent then none else some (right, bs.drop 32))

/-- The pieces that lack a side. -/
def Bucket.lacking (b : Bucket) (s : RedSlot) (right : Bool) : List Nat :=
  (List.range b.npiece).filter (fun i => (s.side right i).isNone)

/-- The k-th slot declares a child missing wherever its side has not arrived, and sends its parent the child's settle record before
it handles the pieces that this resolves (R386, R387, R389). -/
def Device.slotMissing (d : Device) (i k : Nat) (right : Bool) : Device :=
  match d.bucket i with
  | none => d
  | some b =>
    match b.slots[k]? with
    | none => d
    | some s =>
      let ps := b.lacking s right
      if ps.isEmpty then d
      else
        let s := ps.foldl (fun s j => s.setSide right j .missing) s
        let rec' := if right then settleRecord b.tag b.stroke s.mid s.rhi else settleRecord b.tag b.stroke s.llo s.mid
        let d := if rankDown s.parent then d else d.redSend b (0x10000 + s.num) s.parent s.pslot false rec'
        let done := ps.filter (fun j => (s.side (!right) j).isSome)
        let s := { s with sent := s.sent + done.length }
        done.foldl (fun d j => d.slotResolve b s j none) (d.setSlot i k s)

/-! ## The owner (R393-R396) -/

/-- Bits lo to hi - 1 of a mask cleared. -/
def clearBits (m lo hi : Nat) : Nat := if lo < hi then m - (m / 2 ^ lo % 2 ^ (hi - lo)) * 2 ^ lo else m

/-- The owner's mask as it stands in memory. -/
def Device.ownerMask (d : Device) (b : Bucket) (o : RedOwner) : Device := d.redPut b o.maskAt (toLe (ceilDiv b.nleaf 8) o.mask)

/-- A piece written to RES and HDR (R393). -/
def Device.ownerStore (d : Device) (b : Bucket) (o : RedOwner) (h : PieceHdr) (bs : List Byte) : Device :=
  let base := h.piece * pieceElems b.xfmt
  let pay := bs.drop 32
  let n := h.nelem
  let d :=
    if h.absent then d
    else if b.xfmt = xL8 then
      let nb := ceilDiv n 32
      let d := d.redPut b (o.res + base) (pay.take n)
      let d := d.redPut b (o.res + b.elems + base / 32) ((pay.drop n).take nb)
      d.redPut b (o.res + b.elems + ceilDiv b.elems 32 + base / 256) (pay.drop (n + nb))
    else d.redPut b (o.res + payloadBytes b.xfmt base) pay
  d.redPut b (o.hdr + 32 + 32 * h.piece) (bs.take 32)

/-- Whether the completion of a bucket now comes before its sluice (R394). -/
def Device.beforeSluice (d : Device) (b : Bucket) : Bool :=
  b.settledAt.isNone &&
    (d.freeRunning b.part || decide ((d.now : Int) < d.tStart b.part b.stroke + d.period b.part - d.guard b.part))

/-- The owner writes the completion record, counts the bucket, and signals where it completed before the sluice (R394, R395). -/
def Device.ownerComplete (d : Device) (i : Nat) (incomplete : Bool) : Device :=
  match d.bucket i with
  | none => d
  | some b =>
    match b.owner with
    | none => d
    | some o =>
      let hs := o.got.map (fun e => PieceHdr.ofBytes e.2)
      let any := fun (f : PieceHdr → Bool) => hs.any f
      let step := match hs.find? (fun h => !h.absent) with | some h => h.step | none => (hs.map (·.step)).headD 0
      let flags := 1 + bitOf (any (·.settled)) 1 + bitOf (any (·.skew)) 2 + bitOf (any (·.exc)) 3 + bitOf incomplete 4
      let recd := toLe 2 b.tag ++ toLe 1 b.xfmt ++ toLe 1 flags ++ toLe 4 b.stroke ++ toLe 4 step ++ toLe 4 (popCount o.mask b.nleaf)
        ++ toLe 4 b.nleaf ++ toLe 4 (hs.foldl (fun n h => n + h.nresc) 0) ++ toLe 8 (timeShort d.now)
      let d := (d.redPut b o.hdr recd).setBucket i { b with owner := some { o with done := true } }
      let d := d.bump (Reg.RED_DONE b.part) 1
      let d := if incomplete then (d.bump (Reg.RED_INCOMPLETE b.part) 1).firePart b.part 4 else d
      if d.beforeSluice b then d.hubSignal o.core o.sem b.stroke else d

/-- A piece reaches the owner (R383, R393). -/
def Device.ownerTake (d : Device) (i : Nat) (bs : List Byte) : Device :=
  match d.bucket i with
  | none => d
  | some b =>
    match b.owner with
    | none => d
    | some o =>
      let h := PieceHdr.ofBytes bs
      if o.done then d.bump (Reg.RED_LATE b.part) 1
      else if (Cells.find? o.got h.piece).isSome then
        (d.bump (Reg.RED_DUP b.part) 1).redFault b.part b.stroke b.tag St.PLAN_CONFLICT 0xFFFF 0
      else
        let o := { o with got := Cells.put o.got h.piece (bs.take 32) }
        let d := (d.ownerStore b o h bs).setBucket i { b with owner := some o }
        if o.got.length ≥ b.npiece then d.ownerComplete i false else d

/-- The owner's final deadline (R395): headers for the pieces that have not arrived, the whole mask cleared, the record INCOMPLETE. -/
def Device.ownerIncomplete (d : Device) (i : Nat) : Device :=
  match d.bucket i with
  | none => d
  | some b =>
    match b.owner with
    | none => d
    | some o =>
      if o.done then d
      else
        let lack := (List.range b.npiece).filter (fun j => (Cells.find? o.got j).isNone)
        let hdr := fun j => (b.absentHdr j 0).bytes
        let d := lack.foldl (fun d j => d.redPut b (o.hdr + 32 + 32 * j) (hdr j)) d
        let o := { o with mask := 0, got := lack.foldl (fun g j => Cells.put g j (hdr j)) o.got }
        ((d.ownerMask b o).setBucket i { b with owner := some o }).ownerComplete i true

/-- A settle record reaches the owner (R389). -/
def Device.ownerSettle (d : Device) (i lo hi : Nat) : Device :=
  match d.bucket i with
  | none => d
  | some b =>
    match b.owner with
    | none => d
    | some o =>
      if o.done then d
      else
        let o := { o with mask := clearBits o.mask lo (min hi b.nleaf) }
        (d.ownerMask b o).setBucket i { b with owner := some o }

/-! ## Arrival (R383) -/

/-- DEST of R373: the owner, or a slot and its side. -/
def destOwner (x : Nat) : Bool := bit x 14
def destSlot (x : Nat) : Nat := bits x 12 0
def destRight (x : Nat) : Bool := bit x 15

/-- A message for partition p arrives: a piece or a settle record. What no open context, node or piece receives is discarded (R383). -/
def Device.redArrive (d : Device) (p dest : Nat) (piece : Bool) (bs : List Byte) : Device :=
  let stroke := leAt bs 4 4
  if strokeOlder stroke (d.strokeOf p) then d.bump (Reg.RED_STALE p) 1
  else
    let lost := d.bump (Reg.RED_NOCTX p) 1
    if !d.flag (Reg.RED_CTL p) 0 || d.standby then lost
    else
      match d.redFind p (leAt bs 0 2) stroke with
      | none => lost
      | some i =>
        match d.bucket i with
        | none => lost
        | some b =>
          let h := PieceHdr.ofBytes bs
          let fits := decide (h.piece < b.npiece) && h.xfmt == b.xfmt && h.nelem == b.nelem h.piece &&
            (h.absent || bs.length == 32 + payloadBytes b.xfmt h.nelem)
          let k := b.slots.findIdx (fun s => s.num == destSlot dest)
          if piece && !fits then lost
          else if destOwner dest then
            if b.owner.isNone then lost
            else (if piece then d.ownerTake i bs else d.ownerSettle i (leAt bs 8 4) (leAt bs 12 4)).redFree
          else if k < b.slots.length then
            if piece then (d.slotTake i k (destRight dest) bs).redFree
            else
              match b.slots[k]? with
              | some s => if rankDown s.parent then d else d.redSend b (0x10000 + s.num) s.parent s.pslot false bs
              | none => d
          else lost

/-- Whether the j-th message on the die links may arrive: no earlier one of its bucket goes from its sender to its receiver (R384). -/
def RedMsg.mayArrive (net : List RedMsg) (j : Nat) : Bool :=
  match net[j]? with
  | none => false
  | some m => !(net.take j).any (fun n =>
      n.part == m.part && n.sender == m.sender && n.dest % 0x8000 == m.dest % 0x8000 && n.bytes.take 2 == m.bytes.take 2)

/-- The j-th message on the die links arrives, where it is a piece, or a settle record, as asked. -/
def Device.redDeliver (d : Device) (j : Nat) (piece : Bool) : Device :=
  match d.red.net[j]? with
  | none => d
  | some m =>
    if m.piece == piece && RedMsg.mayArrive d.red.net j then
      ({ d with red := { d.red with net := d.red.net.eraseIdx j } }).redArrive m.part m.dest m.piece m.bytes
    else d

/-! ## Opening (R367, R371, R400-R403) -/

/-- A refused open (R371, R404). -/
def Device.redRefuse (d : Device) (p tag status addr : Nat) : Device :=
  let d := d.redFault p (d.strokeOf p) tag status 0xFFFF addr
  let d := ((d.setFlag (Reg.RED_STATUS p) 31 true).setFld (Reg.RED_STATUS p) 15 0 status)
  (d.setReg (Reg.RED_ERR_TAG p) (BitVec.ofNat 32 (0x80000000 + tag))).firePart p 4

/-- A table address of the RED_ block. -/
def Device.redTable (d : Device) (lo : Nat) : Nat := d.fld lo 31 5 * 32 + d.fld (lo + 4) 15 0 * 0x100000000

/-- Translates the pages of a range, page number by page number (R367). -/
def Device.mapPages (d : Device) (p : Nat) (accs : List Access) : List (Nat × Nat) → Cells Nat → Device × Except (Nat × Nat) (Cells Nat)
  | [], m => (d, .ok m)
  | (va, _) :: rest, m =>
    let r := accs.foldl (fun (r : Device × Xlate) acc =>
      match r.2 with
      | .error st => (r.1, .error st)
      | .ok _ => r.1.translate p acc va) (d, .ok 0)
    match r.2 with
    | .error st => (r.1, .error (st, va))
    | .ok pa => r.1.mapPages p accs rest (Cells.put m (va / 0x10000) (pa / 0x10000))

/-- Translates several ranges, each with the permissions it needs. -/
def Device.mapRanges (d : Device) (p : Nat) : List (Nat × Nat × List Access) → Cells Nat → Device × Except (Nat × Nat) (Cells Nat)
  | [], m => (d, .ok m)
  | (va, n, accs) :: rest, m =>
    match d.mapPages p accs (pieces 0x10000 va n) m with
    | (d, .error e) => (d, .error e)
    | (d, .ok m) => d.mapRanges p rest m

/-- A node record that fails a check of order 1 (R403). -/
def nodeBad (nleaf : Nat) (r : List Byte) : Bool :=
  let k := leAt r 0 1
  let w := leAt r 4 4
  leAt r 1 3 != 0 ||
    (if k = 1 then leAt r 24 4 != 0 || bit (leAt r 30 2) 13
     else if k = 2 then
      bits w 15 13 != 0 || bits w 31 21 != 0 || bits w 20 16 == 0 || bit (leAt r 30 2) 13
        || decide (leAt r 16 4 ≥ leAt r 20 4) || decide (leAt r 20 4 ≥ leAt r 24 4) || decide (leAt r 24 4 > nleaf)
     else if k = 3 then bit w 7 || bits w 31 14 != 0
     else true)

/-- A bucket descriptor and its node records, as read, and their checks 1 and 2 in order (R400, R403). -/
def openCheck (desc : List Byte) (nodes : List (List Byte)) : Option Nat :=
  let elems := leAt desc 0 4
  let ctl := leAt desc 4 1
  let sfmt := leAt desc 5 1
  let xfmt := ctl % 4
  let nnode := leAt desc 7 1
  let nleaf := leAt desc 24 4
  let size := elems * sourceSize xfmt sfmt
  let badFmt := if xfmt = xStat then sfmt != 0 else sfmt != Fmt.FP32 && sfmt != Fmt.BF16
  firstStatus
    [(!bit ctl 7 || bits ctl 6 2 != 0 || leAt desc 28 4 != 0 || elems == 0 || (xfmt == xL8 && elems % 32 != 0)
        || (!badFmt && (decide (size < 0x100000) || decide (size > 0x10000000))) || nnode == 0 || decide (nnode > 16)
        || nleaf == 0 || decide (nleaf > 65536) || nodes.any (nodeBad nleaf), St.BAD_FIELD),
     (badFmt, St.BAD_FORMAT)]

/-- The ranges a bucket names with the permissions they need (R393, R400, R401). -/
def openRanges (xfmt sfmt elems nleaf scaleTab : Nat) (nodes : List (List Byte)) : List (Nat × Nat × List Access) :=
  let np := ceilDiv elems (pieceElems xfmt)
  let size := elems * sourceSize xfmt sfmt
  (if xfmt = xL8 ∧ scaleTab ≠ 0 then [(scaleTab, ceilDiv elems 32, [.read])] else []) ++
  (nodes.map (fun r =>
    let a := leAt r 8 8
    let b := leAt r 16 8
    if leAt r 0 1 = 1 then [(a, size, [.read]), (b, 64, [.read])]
    else if leAt r 0 1 = 2 then [(a, np * fullPiece xfmt * (if xfmt = xStat then 2 else 1), [.read, .write, .acc])]
    else [(a, payloadBytes xfmt elems, [.write]), (b, 32 + 32 * np, [.write]), (leAt r 24 8, ceilDiv nleaf 8, [.write])])).flatten

/-- The codeword a fill record lies in, where that is in DRAM. -/
def Bucket.fillCw (b : Bucket) (va : Nat) : Option Nat :=
  match regionOf (b.phys va) with
  | .hbm | .cistern _ => some (b.phys va / 64)
  | _ => none

/-- The bucket of a descriptor and its node records, its pages translated. -/
def openBucket (b : Bucket) (rank : Nat → Nat) (nodes : List (List Byte)) : Bucket :=
  let kind := fun k => nodes.filter (fun r => leAt r 0 1 == k)
  { b with
    leaves := (kind 1).map (fun r =>
      { num := leAt r 4 4, src := leAt r 8 8, fill := leAt r 16 8, parent := rank (leAt r 28 2), pslot := leAt r 30 2,
        cw := b.fillCw (leAt r 16 8) })
    slots := (kind 2).map (fun r =>
      { num := leAt r 4 4 % 0x2000, height := bits (leAt r 4 4) 20 16, buf := leAt r 8 8, llo := leAt r 16 4, mid := leAt r 20 4,
        rhi := leAt r 24 4, parent := rank (leAt r 28 2), pslot := leAt r 30 2 })
    owner := (kind 3).head?.map (fun r =>
      { core := bits (leAt r 4 4) 6 0, sem := bits (leAt r 4 4) 13 8, res := leAt r 8 8, hdr := leAt r 16 8, maskAt := leAt r 24 8,
        mask := 2 ^ b.nleaf - 1 }) }

/-- Reads one armed fill record of each leaf of the newest bucket, once (R367). -/
def Device.readFills (d : Device) (i : Nat) (b : Bucket) : Device :=
  (List.range b.leaves.length).foldl (fun d j =>
    match b.leaves[j]? with
    | none => d
    | some l =>
      let r := d.physRead (b.phys (l.fill / 64 * 64)) 64
      r.1.leafFill i j r.2.1) d

/-- Opens the bucket of tag t into window w: the checks in order, then the context, the mask, and the fill records (R367, R371,
R403). An uncorrectable table refuses the open too. -/
def Device.redOpen (d : Device) (p w t : Nat) : Device :=
  let stroke := d.strokeOf p
  if (d.redFind p t stroke).isSome then d.redRefuse p t St.PLAN_CONFLICT 0
  else if d.red.buckets.length ≥ 4096 then d.redRefuse p t St.BUCKET_TABLE_FULL 0
  else
    let r := d.readVa p (d.redTable (Reg.RED_BDT_LO p) + 32 * t) 32
    if r.2.2.1 ≠ St.OK then r.1.redRefuse p t r.2.2.1 r.2.2.2
    else
      let desc := r.2.1
      let nn := leAt desc 7 1
      let q := if 1 ≤ nn ∧ nn ≤ 16 then r.1.readVa p (leAt desc 16 8) (32 * nn) else (r.1, [], St.OK, 0)
      if q.2.2.1 ≠ St.OK then q.1.redRefuse p t q.2.2.1 q.2.2.2
      else
        let d := q.1
        let nodes := chunks 32 nn q.2.1
        match openCheck desc nodes with
        | some st => d.redRefuse p t st 0
        | none =>
          let xfmt := leAt desc 4 1 % 4
          let sfmt := leAt desc 5 1
          let elems := leAt desc 0 4
          let nleaf := leAt desc 24 4
          let tab := leAt desc 8 8
          let n := d.fld (Reg.RED_NRANK p) 16 0
          let rk := d.readVa p (d.redTable (Reg.RED_RANK_LO p)) (8 * n)
          let rank := fun i => leAt rk.2.1 (8 * i) 8
          let named := (nodes.filter (fun r => leAt r 0 1 != 3)).map (fun r => leAt r 28 2)
          if named.any (fun i => decide (i ≥ n)) ∨ (nodes.any (fun r => leAt r 0 1 == 3 && d.partOf (bits (leAt r 4 4) 6 0) != some p)) then
            rk.1.redRefuse p t St.BAD_RANGE 0
          else if rk.2.2.1 ≠ St.OK then rk.1.redRefuse p t rk.2.2.1 rk.2.2.2
          else if named.any (fun i => !rankValid (rank i)) then rk.1.redRefuse p t St.BAD_RANGE 0
          else
            match rk.1.mapRanges p (openRanges xfmt sfmt elems nleaf tab nodes) [] with
            | (d, .error e) => d.redRefuse p t e.1 e.2
            | (d, .ok m) =>
              let sc := if xfmt = xL8 ∧ tab ≠ 0 then d.readVa p tab (ceilDiv elems 32) else (d, [], St.OK, 0)
              if sc.2.2.1 ≠ St.OK then sc.1.redRefuse p t sc.2.2.1 sc.2.2.2
              else
                let b : Bucket := {
                  part := p, tag := t, stroke := stroke, window := w, elems := elems, xfmt := xfmt, sfmt := sfmt,
                  agreed := leAt desc 6 1, scales := sc.2.1, nleaf := nleaf, pages := m,
                  down := (List.range n).filter (fun i => rankDown (rank i)) }
                let b := openBucket b rank nodes
                let i := d.red.buckets.length
                let d := ({ sc.1 with red := { sc.1.red with
                  buckets := sc.1.red.buckets ++ [b]
                  stale := sc.1.red.stale.filter (fun x => !(b.leaves.any (fun l => l.cw == some x.2))) } }).rewatch
                let d := match b.owner with
                  | some o => d.ownerMask b o
                  | none => d
                (d.readFills i b).redFree

/-- Opens window w of partition p, tag by tag (R367, R402). With RED_CTL.EN = 0, and in Standby (R573), it does nothing. A window record that cannot be
read, or is out of range, is refused with tag 0. -/
def Device.windowOpen (d : Device) (p w : Nat) : Device :=
  if !d.flag (Reg.RED_CTL p) 0 || d.standby then d
  else
    let r := d.readVa p (d.redTable (Reg.RED_WTAB_LO p) + 16 * w) 16
    let n := leAt r.2.1 8 4
    if r.2.2.1 ≠ St.OK then r.1.redRefuse p 0 r.2.2.1 r.2.2.2
    else if n > 4096 ∨ leAt r.2.1 12 4 ≠ 0 then r.1.redRefuse p 0 St.BAD_FIELD 0
    else
      let q := r.1.readVa p (leAt r.2.1 0 8) (2 * n)
      if q.2.2.1 ≠ St.OK then q.1.redRefuse p 0 q.2.2.1 q.2.2.2
      else (List.range n).foldl (fun d i => d.redOpen p w (leAt q.2.1 (2 * i) 2)) q.1

/-- Does something to every bucket of partition p that satisfies a test, found again each time by tag and stroke. -/
def Device.eachBucket (d : Device) (f : Bucket → Bool) (g : Device → Nat → Device) : Device :=
  (d.red.buckets.filter f).foldl (fun d b =>
    match d.redFind b.part b.tag b.stroke with
    | some i => g d i
    | none => d) d

/-- Closes window w of partition p (R370). -/
def Device.windowClose (d : Device) (p w : Nat) : Device :=
  (d.eachBucket (fun b => b.part == p && b.window == w && b.stroke == d.strokeOf p) (fun d i => d.leavesAbsent i)).redFree

/-! ## Settling (R385, R386, R392) -/

/-- The i-th bucket settles at time t: its leaves, as at a sluice. -/
def Device.redSettle (d : Device) (t i : Nat) : Device :=
  match d.bucket i with
  | none => d
  | some b => (d.setBucket i { b with settledAt := some (b.settledAt.getD t) }).leavesAbsent i

/-- The sluice of partition p at time t: every bucket of its current stroke (R385). -/
def Device.redSluice (d : Device) (p t : Nat) : Device :=
  (d.eachBucket (fun b => b.part == p && b.stroke == d.strokeOf p) (fun d i => d.redSettle t i)).redFree

/-- A level's settling interval in units of device time (R404). -/
def Device.levelTime (d : Device) (p : Nat) : Nat := max 1000 (d.reg (Reg.RED_LEVEL_NS p)).toNat * nsUnit

/-- SLOT_SETTLE: the deadline of a slot of a bucket whose sluice has come passes, and every side that has not arrived is missing;
or, at the sluice itself, those of a child whose rank was DOWN at the open (R386). -/
def Device.slotSettle (d : Device) (p tag slot : Nat) (downRank : Option (Nat × Bool)) : Device :=
  match d.redFind p tag (d.strokeOf p) with
  | none => d
  | some i =>
    match d.bucket i with
    | none => d
    | some b =>
      let k := b.slots.findIdx (fun s => s.num == slot)
      match b.settledAt, b.slots[k]? with
      | some t, some s =>
        match downRank with
        | none =>
          let d := { d with now := max d.now (t + s.height * d.levelTime p) }
          ((d.slotMissing i k false).slotMissing i k true).redFree
        | some (r, right) => if b.down.contains r then (d.slotMissing i k right).redFree else d
      | _, _ => d

/-- OWNER_FINISH: the owner's deadline, D + 1 levels after the sluice (R395). -/
def Device.ownerFinish (d : Device) (p tag height : Nat) : Device :=
  match d.redFind p tag (d.strokeOf p) with
  | none => d
  | some i =>
    match d.bucket i with
    | none => d
    | some b =>
      match b.settledAt, b.owner with
      | some t, some _ => ({ d with now := max d.now (t + (height + 1) * d.levelTime p) }.ownerIncomplete i).redFree
      | _, _ => d

/-! ## Commands of a free-running partition (R392) -/

/-- A command register of R392: ignored, with ERR set, while a schedule is not FREE. -/
def Device.redCommand (d : Device) (p : Nat) (f : Device → Device) : Device :=
  if d.freeRunning p then f d else d.setFlag (Reg.RED_STATUS p) 31 true

/-- RED_CTL.SETTLE. -/
def Device.redSettleCmd (d : Device) (p : Nat) : Device :=
  d.redCommand p (fun d =>
    match d.redFind p (d.fld (Reg.RED_SETTLE_TAG p) 15 0) (d.strokeOf p) with
    | some i => (d.redSettle d.now i).redFree
    | none => d)

/-! ## Fill records (R368, R641) -/

/-- Takes the oldest write that a unit of the hub has seen. -/
def Device.takeSeen (d : Device) (unit : Nat) : Option (Seen × Device) :=
  (d.seen.find? (fun s => s.unit == unit)).map (fun s => (s, { d with seen := d.seen.erase s }))

/-- FILL_RECORD_WRITE: the oldest write of a watched fill record is put to every leaf that watches its codeword; one that makes no
leaf full counts as stale for the leaf's partition. -/
def Device.fillWrite (d : Device) : Device :=
  match d.takeSeen 0 with
  | none => d
  | some (s, d) =>
    let mine := fun (l : RedLeaf) => l.cw == some s.cw
    let fits := fun (b : Bucket) (l : RedLeaf) => l.state == .armed && leAt s.bytes 0 2 == b.tag && leAt s.bytes 4 4 == b.stroke
    let old := (d.red.stale.filter (fun x => x.2 == s.cw)).eraseDups.filter (fun x =>
      !d.red.buckets.any (fun b => b.part == x.1 && b.leaves.any mine))
    let d := old.foldl (fun d x => d.bump (Reg.RED_STALE x.1) 1) d
    (d.eachBucket (fun b => b.leaves.any mine) (fun d i =>
      match d.bucket i with
      | none => d
      | some b => (List.range b.leaves.length).foldl (fun d j =>
          match b.leaves[j]? with
          | some l =>
            if !mine l then d
            else if fits b l then d.leafFill i j s.bytes else d.bump (Reg.RED_STALE b.part) 1
          | none => d) d)).redFree

end Machine
end Sys2Proof
end

