-- ==== Sys2Proof/Machine/AqReceive.lean ====
section
/-!
DEFINITION. The receiving side of the Aqueduct transport: frames and their checks (R406, R421), the order in which messages take
effect (R427-R430), acknowledgement and retransmission (R413, R414, R433-R435), and the life of a flow (R417-R420).
-/
namespace Sys2Proof
namespace Machine

/-! ## Acknowledgements (R413, R414, R433) -/

/-- The SACK bits: bit j for PSN CUM + 1 + j. -/
def Flow.sack (x : Flow) : Nat :=
  (List.range 64).foldl (fun (a : Nat) j => a + (if x.above.contains ((x.cum + 1 + j) % 0x100000000) then 2 ^ j else 0)) 0

def mstatMid (m : Nat × Nat × Nat) : List Byte :=
  List.replicate 8 0#8 ++ toLe 4 m.1 ++ toLe 2 m.2.1 ++ toLe 2 0 ++ toLe 8 m.2.2 ++ List.replicate 8 0#8

/-- Sends the MSTATs not yet passed, then an ACK (R413, R414). -/
def Device.sendAck (d : Device) (f : Nat) : Device :=
  match d.flow f with
  | none => d
  | some x =>
    let d := x.mstats.foldl (fun d m => (d.sendPacket f kindMstat 0 0 (mstatMid m) []).1) d
    let mid := toLe 4 x.cum ++ toLe 4 0 ++ toLe 8 x.sack ++ toLe 4 x.mcum ++ toLe 2 x.ce ++ List.replicate 10 0#8
    let r := d.sendPacket f kindAck 0 0 mid []
    if r.2 then r.1.modFlow f (fun x => { x with
      ce := 0, unacked := 0, firstUnacked := none, mstats := x.mstats.filter (fun m => !strokeOlder m.1 x.mcum) })
    else r.1

/-- Advances CUM over the PSNs received above it, at most n. -/
def Flow.advance (x : Flow) : Nat → Flow
  | 0 => x
  | n + 1 =>
    if x.above.contains x.cum then
      { x with above := x.above.filter (· != x.cum), cum := (x.cum + 1) % 0x100000000 }.advance n
    else x

/-- A PSN is within the receive window and has not been received (R433). -/
def Flow.fresh (x : Flow) (psn : Nat) : Bool := decide (wrap 32 ((psn : Int) - x.cum) < 4096) && !x.above.contains psn

/-- Marks a PSN received. -/
def Flow.mark (x : Flow) (psn : Nat) : Flow := { x with above := x.above ++ [psn] }.advance 4096

/-- PSN of a data packet in the inbox. -/
def RxPkt.psn (p : RxPkt) : Nat := leAt p.mid 0 4
def RxPkt.stroke (p : RxPkt) : Nat := leAt p.mid 4 4
def RxPkt.msn (p : RxPkt) : Nat := leAt p.mid 8 4
def RxPkt.addr (p : RxPkt) : Nat := leAt p.mid 16 8
def RxPkt.moff (p : RxPkt) : Nat := leAt p.mid 24 4
def RxPkt.oparg (p : RxPkt) : Nat := leAt p.mid 28 4
def RxPkt.last (p : RxPkt) : Bool := bit p.flags 1
def RxPkt.untimed (p : RxPkt) : Bool := bit p.flags 4

/-- Serial order of sequence numbers (R344, R431). -/
def seqBefore (a b : Nat) : Bool := strokeOlder a b

/-- The data packets of the inbox. -/
def Flow.held (x : Flow) : List RxPkt := x.inbox.filter (fun p => p.kind == kindData)

/-- Whether every packet before a PSN has been received and handled (R428). -/
def Flow.settledBefore (x : Flow) (psn : Nat) : Bool :=
  (psn == x.cum || seqBefore psn x.cum) && !x.held.any (fun p => seqBefore p.psn psn)

/-- MCUM after what has been handled. -/
def Flow.noteEffects (x : Flow) : Flow :=
  let done := x.lasts.filter (fun l => seqBefore l.1 x.cum && !x.held.any (fun p => p.psn == l.1 || seqBefore p.psn l.1))
  { x with lasts := x.lasts.filter (fun l => !done.contains l)
           mcum := done.foldl (fun m l => if seqBefore l.2 m then m else (l.2 + 1) % 0x100000000) x.mcum }

/-! ## PFC for data (R407) -/

/-- Bytes held in the receive buffer. -/
def Device.rxHeld (d : Device) : Nat :=
  d.aq.flows.foldl (fun (n : Nat) e => e.2.inbox.foldl (fun (n : Nat) p => n + p.payload.length) n) 0

/-- The size of the receive buffer. -/
def rxBuffer : Nat := 96 * 0x100000

/-- A PFC frame for the data priority of every port whose link is up: pause, or release. -/
def Device.sendPfc (d : Device) (pause : Bool) : Device :=
  (List.range 8).foldl (fun d i =>
    if d.flag (Reg.AQ_PORT_STATUS i) 31 then
      let prio := d.fld (Reg.AQ_PORT_CTL i) 6 4
      let mac := (d.reg (Reg.AQ_PORTMAC_LO i)).toNat + d.fld (Reg.AQ_PORTMAC_HI i) 15 0 * 0x100000000
      let times := (List.range 8).map (fun j => toBe 2 (if j = prio ∧ pause then 0xFFFF else 0))
      let f := toBe 6 0x0180C2000001 ++ toBe 6 mac ++ toBe 2 0x8808 ++ toBe 2 0x0101 ++ toBe 2 (2 ^ prio) ++ times.flatten
      let f := f ++ List.replicate (60 - f.length) 0#8
      d.queueFrame i 8 (f ++ toLe 4 (fcs f))
    else d) d

/-- XOFF above 75 % of the receive buffer, XON below 50 %. -/
def Device.checkPfc (d : Device) : Device :=
  let n := d.rxHeld
  if !d.aq.xoff && decide (4 * n > 3 * rxBuffer) then { d.sendPfc true with aq := { (d.sendPfc true).aq with xoff := true } }
  else if d.aq.xoff && decide (2 * n < rxBuffer) then { d.sendPfc false with aq := { (d.sendPfc false).aq with xoff := false } }
  else d

/-! ## Received packets (R421) -/

/-- A known KIND and OP (R411). -/
def knownPacket (kind op : Nat) : Bool :=
  if kind = 0 then decide (1 ≤ op) && decide (op ≤ 8) else if kind = 3 then decide (1 ≤ op) && decide (op ≤ 5) else decide (kind ≤ 2) && op == 0

/-- The reserved bits of a packet are zero (R410, R412, R413-R415). -/
def reservedClear (kind op flags : Nat) (mid : List Byte) : Bool :=
  let zero := fun (lo n : Nat) => leAt mid lo n == 0
  flags / 128 == 0 &&
  (if kind = 0 then
    leAt mid 22 2 == 0 &&
      (let a := leAt mid 28 4
       if op = 2 then true
       else if op = 4 then bits a 30 26 == 0 && bits a 23 21 == 0 && (if bit a 31 then bits a 25 24 == 0 && bits a 15 0 == 0 else bits a 20 16 == 0 && !bit a 13)
       else if op = 5 then decide (a ≤ 2)
       else if op = 7 then bits a 23 16 == 0 && (if bits a 31 24 = 1 then !bit a 13 else bits a 31 24 == 0 && bits a 15 8 == 0)
       else a == 0)
   else if kind = 1 then zero 4 4 && zero 22 10
   else if kind = 2 then zero 0 8 && zero 14 2 && zero 24 8
   else if op ≤ 2 then zero 12 20 else if op = 5 then zero 8 24 else zero 0 32)

/-- Verifies and decrypts the payload of a packet of an encrypted flow: the flow after it, and the payload (R439, R440). -/
def Flow.openPacket (x : Flow) (kind flags : Nat) (head ct tag : List Byte) : Option (Flow × List Byte) :=
  let id := bit flags 3
  match if id then x.key1 else x.key0 with
  | none => none
  | some k =>
    let tsn := leAt head 40 8
    let n := aqNonce k.salt tsn
    if gcmTag (toLe 32 k.key) n head ct ≠ tag then none
    else
      let k := if kind = kindCtrl then { k with ctrlTsn := max k.ctrlTsn tsn } else k
      some (if id then { x with key1 := some k } else { x with key0 := some k }, gcmCrypt (toLe 32 k.key) n ct)

/-- Whether an encrypted CTRL packet is a replay (R440). -/
def Flow.ctrlOld (x : Flow) (kind flags tsn : Nat) : Bool :=
  kind == kindCtrl &&
    (match if bit flags 3 then x.key1 else x.key0 with
     | some k => decide (tsn ≤ k.ctrlTsn)
     | none => false)

/-- A data packet that passed checks 1 to 4: the window, the stroke, and the inbox (R421, R433, R437). In Standby it is dropped and not
acknowledged (R573). -/
def Device.acceptData (d : Device) (f : Nat) (x : Flow) (p : RxPkt) (ce : Bool) : Device :=
  if !x.peer || x.phase == .broken then d
  else if !x.fresh p.psn then (d.setFlow f x).sendAck f
  else if decide (d.rxHeld + p.payload.length > rxBuffer) || d.standby then d.bump Reg.AQ_RXDROP 1
  else
    let stale := !p.untimed && strokeOlder p.stroke (d.strokeOf x.part)
    let d := (d.bump64 Reg.AQ_RX_PKTS_LO 1).bump Reg.AQ_CE (if ce then 1 else 0)
    let x := { x.mark p.psn with
      ce := x.ce + (if ce then 1 else 0), unacked := x.unacked + 1
      firstUnacked := some (x.firstUnacked.getD d.now)
      lasts := if p.last then x.lasts ++ [(p.psn, p.msn)] else x.lasts }
    let x := if stale then
        { x with mstats := if x.mstats.any (fun m => m.1 == p.msn) then x.mstats else x.mstats ++ [(p.msn, St.CANCELLED, 0)] }.noteEffects
      else { x with inbox := x.inbox ++ [p] }
    let d := (d.setFlow f x).bump Reg.AQ_STALE (if stale then 1 else 0)
    let d := if bit p.flags 5 || decide (x.unacked ≥ 16) then d.sendAck f else d
    d.checkPfc

/-- An Aqueduct packet addressed to a partition: checks 1 to 4 in order (R421). -/
def Device.aqPacket (d : Device) (g : Datagram) : Device :=
  let n := g.data.length
  let body := g.data.take (n - 4)
  if n < 52 ∨ leAt g.data (n - 4) 4 ≠ crc32c body then d.bump Reg.AQ_CRC_ERR 1
  else
    let head := body.take 48
    let kind := leAt head 0 1 % 16
    let op := leAt head 1 1
    let flags := leAt head 2 2
    let mid := (head.drop 8).take 32
    let rest := body.drop 48
    let enc := bit flags 2
    let ct := if enc then rest.take (rest.length - 16) else rest
    let plen := if kind = kindData then leAt mid 12 4 else 0
    if leAt head 0 1 / 16 ≠ 1 ∨ !knownPacket kind op ∨ !reservedClear kind op flags mid ∨ plen > 8192
        ∨ (enc ∧ rest.length < 16) ∨ ct.length ≠ plen then d.bump Reg.AQ_DISCARD 1
    else
      let dest := leAt head 4 4
      let f := dest % 0x40000
      match d.flow f with
      | none => d.bump Reg.AQ_NOFLOW 1
      | some x =>
        if x.gen ≠ dest / 0x40000 ∨ x.ipv6 ≠ g.v6 ∨ x.src ≠ g.dst ∨ x.remote ≠ g.src then d.bump Reg.AQ_NOFLOW 1
        else
          let auth := if x.enc ≠ enc ∨ (!enc ∧ bit flags 3) then none
            else if enc then x.openPacket kind flags head ct (rest.drop (rest.length - 16))
            else some (x, ct)
          match auth with
          | none => (d.bump Reg.AQ_AUTH_ERR 1).fire Evt.SECURITY
          | some (y, payload) =>
            if enc && x.ctrlOld kind flags (leAt head 40 8) then d
            else
              let p : RxPkt := { kind := kind, op := op, flags := flags, mid := mid, payload := payload }
              if kind = kindData then d.acceptData f y p (g.ecn == 3)
              else (d.setFlow f { y with inbox := y.inbox ++ [p] }).bump64 Reg.AQ_RX_PKTS_LO 1

/-- The partition that holds an address (R408); zero is no address. -/
def Device.partOfIp (d : Device) (v6 : Bool) (a : Nat) : Option Nat :=
  if a = 0 then none else (List.range 16).find? (fun p => d.partIp p v6 == a)

/-- Whether a flow was opened under a local address, which it keeps until it is closed (R444). -/
def Device.localIp (d : Device) (v6 : Bool) (a : Nat) : Bool :=
  (d.partOfIp v6 a).isSome || d.aq.flows.any (fun e => e.2.ipv6 == v6 && e.2.src == a)

/-- FRAME_RECEIVE (R405, R406): a frame with a bad FCS is dropped at the MAC; Aqueduct datagrams are received; PTP messages, ARP
requests, Neighbor Solicitations and PFC frames belong to their own commands; anything else is discarded. -/
def Device.frameReceive (d : Device) (port : Nat) (f : List Byte) : Device :=
  if f.length < 64 ∨ fcs (f.take (f.length - 4)) ≠ leAt f (f.length - 4) 4 then d.bump (Reg.AQ_FCS_ERR port) 1
  else if f.length > 9216 then d.bump Reg.AQ_DISCARD 1
  else
    let b := frameBody f
    let other := d.bump Reg.AQ_DISCARD 1
    if b.1 = 0x88F7 then d
    else if b.1 = 0x8808 then (if beAt b.2 0 2 = 0x0101 then d else other)
    else if b.1 = 0x0806 then
      (if beAt b.2 6 2 = 1 ∧ (d.partOfIp false (beAt b.2 24 4)).isSome then d else other)
    else if b.1 = 0x86DD ∧ beAt b.2 6 1 = 58 then
      (if beAt b.2 40 1 = 135 ∧ (d.partOfIp true (beAt b.2 48 16)).isSome then d else other)
    else
      match readIp b.1 b.2 with
      | none => other
      | some g =>
        if g.dport = 319 ∨ g.dport = 320 then d
        else if g.dport = d.fld Reg.AQ_UDP 15 0 ∧ d.localIp g.v6 g.dst then d.aqPacket g
        else other

/-- An answer of the management cores, at most 1,000 a second on a port (R406). -/
def Device.answer (d : Device) (port : Nat) (dst type : Nat) (body : List Byte) : Device :=
  let p := d.port port
  let sec := d.now / secUnit
  let n := if p.answeredIn = sec then p.answered else 0
  if n ≥ 1000 then d
  else
    let mac := (d.reg (Reg.AQ_PORTMAC_LO port)).toNat + d.fld (Reg.AQ_PORTMAC_HI port) 15 0 * 0x100000000
    let prio := d.fld (Reg.AQ_PORT_CTL port) 10 8
    (d.setPort port { p with answered := n + 1, answeredIn := sec }).queueFrame port prio
      (ethFrame dst mac prio (d.fld (Reg.AQ_PORT_CTL port) 27 16) type body)

def Device.portMac (d : Device) (i : Nat) : Nat := (d.reg (Reg.AQ_PORTMAC_LO i)).toNat + d.fld (Reg.AQ_PORTMAC_HI i) 15 0 * 0x100000000

/-- ARP_REQUEST for an address: answered where a partition holds it. -/
def Device.arpRequest (d : Device) (port mac ip target : Nat) : Device :=
  match d.partOfIp false target with
  | none => d.bump Reg.AQ_DISCARD 1
  | some _ => d.answer port mac 0x0806
      (toBe 2 1 ++ toBe 2 0x0800 ++ toBe 1 6 ++ toBe 1 4 ++ toBe 2 2 ++ toBe 6 (d.portMac port) ++ toBe 4 target ++ toBe 6 mac ++ toBe 4 ip)

/-- NEIGHBOR_SOLICITATION: answered with a solicited, overriding advertisement. -/
def Device.neighborSolicit (d : Device) (port mac ip target : Nat) : Device :=
  match d.partOfIp true target with
  | none => d.bump Reg.AQ_DISCARD 1
  | some _ =>
    let tail := toBe 4 0x60000000 ++ toBe 16 target ++ toBe 1 2 ++ toBe 1 1 ++ toBe 6 (d.portMac port)
    let ps := toBe 16 target ++ toBe 16 ip ++ toBe 4 32 ++ toBe 4 58
    let c := inetChecksum (ps ++ toBe 2 0x8800 ++ toBe 2 0 ++ tail)
    d.answer port mac 0x86DD
      (toBe 4 0x60000000 ++ toBe 2 32 ++ toBe 1 58 ++ toBe 1 255 ++ toBe 16 target ++ toBe 16 ip ++ toBe 2 0x8800 ++ toBe 2 c ++ tail)

/-- PFC_FRAME (R407): pauses priorities for a number of quanta of 512 bit times, or releases them with 0. -/
def Device.pfcFrame (d : Device) (port enable : Nat) (times : List Nat) : Device :=
  let p := d.port port
  let m := (List.range 8).foldl (fun (m : Cells Nat) i =>
    if !enable.testBit i then m
    else if times.getD i 0 = 0 then Cells.erase m i
    else Cells.put m i (d.now + times.getD i 0 * 512 * nsUnit / 800)) p.paused
  d.setPort port { p with paused := m }

/-- PFC_PAUSE_EXPIRY: the pause of a priority runs out. -/
def Device.pfcExpire (d : Device) (port prio : Nat) : Device :=
  let p := d.port port
  match Cells.find? p.paused prio with
  | none => d
  | some t => { d with now := max d.now t }.setPort port { p with paused := Cells.erase p.paused prio }

/-- The frames that the ports can send leave their transmit queues, as time passes. -/
def Device.drainPorts (d : Device) : Device :=
  { d with aq := { d.aq with txq := d.aq.txq.filter (fun f =>
      !d.flag (Reg.AQ_PORT_STATUS f.port) 31 || (Cells.find? (d.port f.port).paused f.prio).isSome) } }

/-! ## Effects at the receiver (R427-R430) -/

/-- A fault record of the transport: the flow, an address, the stroke of the message (R422, R430). -/
def Device.aqFault (d : Device) (part stroke status index addr detail : Nat) : Device :=
  d.raise { status := status, source := 11, akind := if addr = 0 then 0 else 2, part := part, index := index, stroke := stroke,
            addr := addr, detail := detail }

/-- A message took effect with a status other than ST_OK: reported once, and put into the fault records where asked (R414, R430). -/
def Device.reportMsg (d : Device) (f : Nat) (p : RxPkt) (status addr : Nat) (record : Bool) : Device :=
  match d.flow f with
  | none => d
  | some x =>
    if x.mstats.any (fun m => m.1 == p.msn) then d
    else
      let d := d.setFlow f { x with mstats := x.mstats ++ [(p.msn, status, addr)] }
      let d := if record then d.aqFault x.part p.stroke status 0xFFFF addr (dflow f x.gen) else d
      (d.sendPacket f kindMstat 0 0 (mstatMid (p.msn, status, addr)) []).1

/-- Takes packets out of the inbox, moves MCUM, and acknowledges the end of a message. -/
def Device.handled (d : Device) (f : Nat) (ps : List RxPkt) : Device :=
  let d := d.modFlow f (fun x => { x with inbox := x.inbox.filter (fun q => !ps.contains q) }.noteEffects)
  (if ps.any (·.last) then d.sendAck f else d).checkPfc

/-- Runs the first packet of an operation that may take effect now: any one for WRITE and READ_RESP, else the one before which
everything has been handled (R428). -/
def Device.rxData (d : Device) (f op : Nat) (ordered : Bool) (sel : RxPkt → Bool) (g : Device → Flow → RxPkt → Device) : Device :=
  match d.flow f with
  | none => d
  | some x =>
    match x.held.find? (fun p => p.op == op && sel p && (!ordered || x.settledBefore p.psn)) with
    | none => d
    | some p => (g d x p).handled f [p]

/-- Whether a status of this message has been reported already. -/
def Flow.reported (x : Flow) (msn : Nat) : Bool := x.mstats.any (fun m => m.1 == msn)

/-- WRITE. -/
def Device.writeNow (d : Device) (f : Nat) (x : Flow) (p : RxPkt) : Device :=
  if x.reported p.msn then d
  else
    let r := d.writeVa x.part (p.addr + p.moff) p.payload
    if r.2.1 = St.OK then r.1 else r.1.reportMsg f p r.2.1 r.2.2 true

def Device.rxWrite (d : Device) (f : Nat) : Device :=
  d.rxData f 1 false (fun _ => true) (fun d x p => d.writeNow f x p)

/-- READ: the bytes go back in this end's own stream (R427); a page that fails ends them (R430). -/
def Device.readNow (d : Device) (f : Nat) (x : Flow) (p : RxPkt) : Device :=
  let r := d.readVa x.part p.addr p.oparg
  let d := if r.2.2.1 = St.OK then r.1 else r.1.reportMsg f p r.2.2.1 r.2.2.2 true
  if r.2.1.isEmpty then d
  else d.aqPost f { owner := .response, op := 3, untimed := p.untimed, stroke := p.stroke, addr := 0, oparg := 0,
                    rest := splitMsg d.aqMtu r.2.1 }

def Device.rxRead (d : Device) (f : Nat) : Device :=
  d.rxData f 2 true (fun _ => true) (fun d x p => d.readNow f x p)

/-- The oldest message of an operation that waits for its response. -/
def Flow.waiting (x : Flow) (op : Nat) : Option (Nat × TxMsg) :=
  let i := x.msgs.findIdx (fun m => m.op == op && m.msn.isSome && m.rest.isEmpty)
  (x.msgs[i]?).map (fun m => (i, m))

/-- Response data for the oldest READ, or for the oldest ATOMIC, goes to its local address (R426). -/
def Device.responseNow (d : Device) (f req : Nat) (x : Flow) (p : RxPkt) : Device :=
  match x.waiting req with
  | none => d
  | some (i, m) =>
    let r : Device × Nat × Nat := match m.owner with
      | .header q s => ({ d with svc := { d.svc with headers := Cells.put d.svc.headers (2 * q + s) p.payload } }, St.OK, 0)
      | _ => d.writeVa x.part (m.laddr + p.moff) p.payload
    let got := m.got + p.payload.length
    if r.2.1 ≠ St.OK then r.1.aqComplete f i r.2.1
    else
      let d := r.1.modFlow f (fun x => { x with msgs := x.msgs.set i { m with got := got } })
      if got ≥ m.want then (d.aqComplete f i St.OK).pump f else d

def Device.rxResponse (d : Device) (f op req : Nat) (ordered : Bool) : Device :=
  d.rxData f op ordered (fun _ => true) (fun d x p => d.responseNow f req x p)

/-- The packets of a message from the one before which everything has been handled to its LAST, in order: none while one is
missing. Packets of a message that will never be whole are given back alone. -/
def Flow.wholeMsg (x : Flow) (op : Nat) (sel : RxPkt → Bool) : Option (List RxPkt × Bool) :=
  match x.held.find? (fun p => p.op == op && sel p && x.settledBefore p.psn) with
  | none => none
  | some p =>
    let ps := x.held.filter (fun q => q.msn == p.msn)
    let n := ps.length
    let run := (List.range n).filterMap (fun i => ps.find? (fun q => q.psn == (p.psn + i) % 0x100000000))
    let whole := run.length == n && (run.getLast?.map (·.last)).getD false && bit p.flags 0
    if whole then some (run, true)
    else if x.held.any (fun q => q.msn != p.msn && x.fresh q.psn == false && seqBefore p.psn q.psn && seqBefore q.psn x.cum) then some (ps, false)
    else none

/-- Runs a whole message of an operation, or drops what is left of an abandoned one. -/
def Device.rxMessage (d : Device) (f op : Nat) (sel : RxPkt → Bool) (g : Device → Flow → RxPkt → List Byte → Device) : Device :=
  match d.flow f with
  | none => d
  | some x =>
    match x.wholeMsg op sel with
    | none => d
    | some (ps, true) =>
      match ps.head? with
      | some p => (g d x p (ps.map (·.payload)).flatten).handled f ps
      | none => d
    | some (ps, false) => d.handled f ps

/-- A remote accumulate to a pair slot (R427): one side of a piece. -/
def Device.raccSlotNow (d : Device) (x : Flow) (p : RxPkt) (bs : List Byte) : Device :=
  d.redArrive x.part (bits p.oparg 15 0) true bs

def Device.rxRaccSlot (d : Device) (f : Nat) : Device :=
  d.rxMessage f 4 (fun p => !bit p.oparg 31) (fun d x p bs => d.raccSlotNow x p bs)

/-- A CLASS 1 SEND: a settle record (R427). -/
def Device.settleNow (d : Device) (x : Flow) (p : RxPkt) (bs : List Byte) : Device :=
  d.redArrive x.part (bits p.oparg 15 0) false bs

def Device.rxSettle (d : Device) (f : Nat) : Device :=
  d.rxMessage f 7 (fun p => bits p.oparg 31 24 == 1) (fun d x p bs => d.settleNow x p bs)

/-- Adds FP32 values to the elements at an address, as far as its pages go (R427, R430): the device, and the status with the address
of the page that failed. -/
def Device.accumulate (d : Device) (part : Nat) : List (Nat × Nat) → List Num → Device × Nat × Nat
  | [], _ => (d, St.OK, 0)
  | (va, n) :: rest, xs =>
    match d.translate part .acc va with
    | (d, .error st) => (d, st, va)
    | (d, .ok pa) =>
      let k := n / 4
      let r := d.readMarked pa n
      let old := chunks 4 k (r.2.map (·.1))
      let new := (List.zipWith (fun o x => toLe 4 ((Num.ofFp32 (leNat o)).add x).toFp32) old (xs.take k)).flatten
      let w := r.1.physWrite pa new
      let q := w.1.accumulate part rest (xs.drop k)
      (q.1, (if w.2 then St.UNCORRECTABLE else q.2.1), (if w.2 then va else q.2.2))

/-- A remote accumulate to an address, packet by packet (R427). -/
def Device.raccAddrNow (d : Device) (f : Nat) (x : Flow) (p : RxPkt) : Device :=
  let sf := bits p.oparg 20 16
  if x.reported p.msn then d
  else if (sf != Fmt.FP32 && sf != Fmt.BF16) || p.addr % 4 != 0 then d.reportMsg f p St.BAD_FORMAT 0 false
  else
    let w := if sf = Fmt.FP32 then 4 else 2
    let n := p.payload.length / w
    let xs := (chunks w n p.payload).map (fun c => (if sf = Fmt.FP32 then fp32 else bf16).decode (leNat c))
    let r := d.accumulate x.part (pieces 0x10000 (p.addr + p.moff / w * 4) (4 * n)) xs
    if r.2.1 = St.OK then r.1 else r.1.reportMsg f p r.2.1 r.2.2 true

def Device.rxRaccAddr (d : Device) (f : Nat) : Device :=
  d.rxData f 4 true (fun p => bit p.oparg 31) (fun d x p => d.raccAddrNow f x p)

/-- ATOMIC: one function of the old 8-byte word and the operands; the old value goes back (R427). -/
def Device.atomicNow (d : Device) (f fn : Nat) (x : Flow) (p : RxPkt) : Device :=
  if p.addr % 8 ≠ 0 ∨ p.payload.length ≠ 16 then d.reportMsg f p St.BAD_FIELD 0 false
  else
    match d.translate x.part .acc p.addr with
    | (d, .error st) => d.reportMsg f p st p.addr true
    | (d, .ok pa) =>
      let r := d.physRead pa 8
      if r.2.2 then r.1.reportMsg f p St.UNCORRECTABLE p.addr true
      else
        let old := leNat r.2.1
        let a := leAt p.payload 0 8
        let new := if fn = 0 then old + a else if fn = 1 then a else if old = leAt p.payload 8 8 then a else old
        let d := (r.1.physWrite pa (toLe 8 new)).1
        d.aqPost f { owner := .response, op := 6, untimed := p.untimed, stroke := p.stroke, addr := 0, oparg := 0,
                     rest := splitMsg d.aqMtu (toLe 8 old) }

def Device.rxAtomic (d : Device) (f fn : Nat) : Device :=
  d.rxData f 5 true (fun p => p.oparg == fn) (fun d x p => d.atomicNow f fn x p)

/-- A CLASS 0 SEND into a receive ring (R513). -/
def Device.ringNow (d : Device) (f : Nat) (x : Flow) (p : RxPkt) (bs : List Byte) : Device :=
  match Cells.find? d.zn.rx (256 * x.part + bits p.oparg 7 0) with
  | none => d.reportMsg f p St.NOT_FOUND 0 false
  | some r =>
    if bs.length > 2 ^ r.entryLog2 then d.reportMsg f p St.BAD_RANGE 0 false
    else
      let a := d.readVa x.part r.prod 4
      let b := a.1.readVa x.part r.cons 4
      let st := if a.2.2.1 ≠ St.OK then a.2.2 else b.2.2
      if st.1 ≠ St.OK then b.1.reportMsg f p st.1 st.2 true
      else
        let n := 2 ^ r.log2
        let prod := leNat a.2.1 % n
        if (prod + 1) % n = leNat b.2.1 % n then b.1.reportMsg f p St.RING_FULL 0 false
        else
          let w := b.1.writeVa x.part (r.base + prod * 2 ^ r.entryLog2) bs
          if w.2.1 ≠ St.OK then w.1.reportMsg f p w.2.1 w.2.2 true
          else
            let v := w.1.writeVa x.part r.prod (toLe 4 ((prod + 1) % n))
            if v.2.1 ≠ St.OK then v.1.reportMsg f p v.2.1 v.2.2 true else v.1

def Device.rxRing (d : Device) (f : Nat) : Device :=
  d.rxMessage f 7 (fun p => bits p.oparg 31 24 == 0) (fun d x p bs => d.ringNow f x p bs)

/-- FENCE: it takes effect once everything before it has (R428). -/
def Device.rxFence (d : Device) (f : Nat) : Device := d.rxData f 8 true (fun _ => true) (fun d _ _ => d)

/-! ## Acknowledgement at the sender (R413, R414, R434, R435) -/

/-- Runs the first packet of a kind and op other than data in the inbox, and drops it. -/
def Device.rxCtl (d : Device) (f kind op : Nat) (g : Device → Flow → RxPkt → Device) : Device :=
  match d.flow f with
  | none => d
  | some x =>
    match x.inbox.find? (fun p => p.kind == kind && p.op == op) with
    | none => d
    | some p =>
      let x := { x with inbox := x.inbox.erase p }
      g (d.setFlow f x) x p

/-- AQ_RTO, AQ_CC.PERIOD in device time; AQ_RETRY with 0 acting as 1 (R444). -/
def Device.aqRto (d : Device) : Nat := max 5000 (min 10000000 (d.reg Reg.AQ_RTO).toNat) * nsUnit
def Device.aqPeriod (d : Device) : Nat := atLeast1 (d.fld Reg.AQ_CC 15 0) * 1000 * nsUnit
def Device.aqLimit (d : Device) : Nat := atLeast1 (d.fld Reg.AQ_RETRY 23 16)
def Device.aqReorder (d : Device) : Nat := atLeast1 (d.fld Reg.AQ_RETRY 7 0)

/-- Retransmits a packet of the window, or leaves it waiting for a port; one already sent LIMIT + 1 times breaks the flow (R434). -/
def Device.retransmit (d : Device) (f psn : Nat) : Device :=
  match d.flow f with
  | none => d
  | some x =>
    match x.inflight.find? (fun p => p.psn == psn) with
    | none => d
    | some p =>
      if p.sends ≥ d.aqLimit + 1 then d.breakFlow f
      else
        (d.setFlow f { x with inflight := x.inflight.map (fun q => if q.psn = psn then { q with sentAt := none, passed := 0 } else q) }).pump f

/-- Completes, in order, the messages an MCUM has passed, at most n; a READ and an ATOMIC wait for their responses (R426). -/
def Device.completePassed (d : Device) (f mcum : Nat) : Nat → Device
  | 0 => d
  | n + 1 =>
    match d.flow f with
    | none => d
    | some x =>
      let i := x.msgs.findIdx (fun m => m.op != 2 && m.op != 5 && m.rest.isEmpty &&
        (match m.msn with | some s => seqBefore s mcum | none => false))
      if i < x.msgs.length then (d.aqComplete f i St.OK).completePassed f mcum n else d

/-- The rate after an ACK whose CE is nonzero (R435). -/
def Device.cutRate (d : Device) (x : Flow) : Flow :=
  let recent := match x.cutAt with | some t => decide (d.now < t + d.aqPeriod) | none => false
  if recent then { x with ceAt := some d.now }
  else { x with rate := x.rate * (256 - d.fld Reg.AQ_CC 31 24) / 256, cutAt := some d.now, ceAt := some d.now }

/-- ACK (R413). -/
def Device.ackNow (d : Device) (f : Nat) (x : Flow) (p : RxPkt) : Device :=
  let cum := leAt p.mid 0 4
  let sack := leAt p.mid 8 8
  let mcum := leAt p.mid 16 4
  let acked := fun (q : TxPkt) => seqBefore q.psn cum ||
    (let j := wrap 32 ((q.psn : Int) - cum); decide (1 ≤ j) && decide (j ≤ 64) && sack.testBit (j - 1))
  let gone := x.inflight.filter acked
  let rest := (x.inflight.filter (fun q => !acked q)).map (fun q =>
    { q with passed := q.passed + (gone.filter (fun g => seqBefore q.psn g.psn)).length })
  let x := { x with inflight := rest, skips := x.skips.filter (fun s => !(s.hi == cum || seqBefore s.hi cum)) }
  let x := if leAt p.mid 20 2 = 0 then x else d.cutRate x
  let d := (d.setFlow f x).completePassed f mcum x.msgs.length
  let late := rest.filter (fun q => decide (q.passed ≥ d.aqReorder))
  (late.foldl (fun d q => d.retransmit f q.psn) d).pump f

def Device.rxAck (d : Device) (f : Nat) : Device :=
  d.rxCtl f kindAck 0 (fun d x p => d.ackNow f x p)

/-- MSTAT (R414): the message it names completes with its status. -/
def Device.mstatNow (d : Device) (f : Nat) (x : Flow) (p : RxPkt) : Device :=
  let i := x.msgs.findIdx (fun m => m.msn == some (leAt p.mid 8 4))
  if i < x.msgs.length then (d.aqComplete f i (leAt p.mid 12 2)).pump f else d

def Device.rxMstat (d : Device) (f : Nat) : Device :=
  d.rxCtl f kindMstat 0 (fun d x p => d.mstatNow f x p)

/-- RETRANSMIT_TIMEOUT (R434, R438): AQ_RTO has passed for the packet, or the SKIP, sent longest ago. -/
def Device.rtoExpire (d : Device) (f : Nat) : Device :=
  match d.flow f with
  | none => d
  | some x =>
    let ts := x.inflight.filterMap (·.sentAt) ++ x.skips.filterMap (·.sentAt)
    match ts with
    | [] => (x.skips.foldl (fun d k => d.sendSkip f k) d).pump f
    | t :: ts =>
      let d := { d with now := max d.now (ts.foldl min t + d.aqRto) }
      let due := fun (s : Option Nat) => match s with | some u => decide (u + d.aqRto ≤ d.now) | none => false
      let d := (x.inflight.filter (fun q => due q.sentAt)).foldl (fun d q => d.retransmit f q.psn) d
      (x.skips.filter (fun k => due k.sentAt || k.sentAt.isNone)).foldl (fun d k => d.sendSkip f k) d

/-- ACK_TIMER (R433): 2 µs after the first data packet not acknowledged. -/
def Device.ackTimer (d : Device) (f : Nat) : Device :=
  match (d.flow f).bind (·.firstUnacked) with
  | none => d
  | some t => { d with now := max d.now (t + 2000 * nsUnit) }.sendAck f

/-- RATE_PERIOD (R435): a period without an ACK whose CE is nonzero raises the rate, up to the line rate. -/
def Device.ratePeriod (d : Device) (f : Nat) : Device :=
  d.modFlow f (fun x =>
    let quiet := match x.ceAt with | some t => decide (t + d.aqPeriod ≤ d.now) | none => true
    if quiet then { x with rate := max x.rate (min d.lineRate (x.rate + d.fld Reg.AQ_CC 23 16 * 1000000000)) } else x)

/-! ## The life of a flow (R417-R420) -/

/-- HELLO or HELLO_ACK of a flow: initial PSN, own number and generation, initial MSN (R415). -/
def Device.sendHello (d : Device) (f op : Nat) : Device :=
  match d.flow f with
  | none => d
  | some x => (d.sendPacket f kindCtrl op 0
      (toLe 4 x.iniPsn ++ toLe 4 (dflow f x.gen) ++ toLe 4 x.iniMsn ++ List.replicate 20 0#8) []).1

/-- The lowest number that a rising list does not hold. -/
def lowestFree {α : Type} : Nat → Cells α → Nat
  | n, [] => n
  | n, (k, _) :: rest => if k = n then lowestFree (n + 1) rest else n

/-- Allocates a context for a peer (R418), which begins to send HELLO. Answers its number. -/
def Device.openFlow (d : Device) (part : Nat) (v6 : Bool) (remote rflow : Nat) (key : Option AqKey) (owner : Option Nat) : Device × Nat :=
  let f := lowestFree 0 d.aq.flows
  let gen := (Cells.get 0 d.aq.gens f + 1) % 0x4000
  let psn := Config.initialSeq d.free % 0x100000000
  let msn := Config.initialSeq (d.free + 1) % 0x100000000
  let x : Flow := {
    part := part, gen := gen, ipv6 := v6, src := d.partIp part v6, remote := remote, rflow := rflow, enc := key.isSome, key0 := key
    since := d.now, helloAt := d.now, owner := owner, lastPort := (f + 7) % 8, nextPsn := psn, nextMsn := msn, iniPsn := psn, iniMsn := msn }
  let d := { d with aq := { d.aq with gens := Cells.put d.aq.gens f gen } }
  (((d.useFree.useFree).setFlow f x).sendHello f 1, f)

/-- A context that holds its peer's values and has its HELLO acknowledged becomes OPEN (R419, R432). -/
def Device.maybeOpen (d : Device) (f : Nat) : Device :=
  match d.flow f with
  | none => d
  | some x =>
    if x.phase == .opening && x.peer && x.acked then
      let d := d.setFlow f { x with phase := .live, lastPort := (f + 7) % 8, rate := d.lineRate, owner := none }
      let d := match x.owner with
        | some id => d.complete id St.OK (dflow f x.gen)
        | none => d
      d.pump f
    else d

/-- Records the peer's initial values, once (R419). -/
def Flow.meet (x : Flow) (p : RxPkt) : Flow :=
  if x.peer then x else { x with peer := true, cum := leAt p.mid 0 4, mcum := leAt p.mid 8 4 }

/-- HELLO (R419). -/
def Device.helloNow (d : Device) (f : Nat) (x : Flow) (p : RxPkt) : Device :=
  if leAt p.mid 4 4 = x.rflow then ((d.setFlow f (x.meet p)).sendHello f 2).maybeOpen f else d

def Device.rxHello (d : Device) (f : Nat) : Device :=
  d.rxCtl f kindCtrl 1 (fun d x p => d.helloNow f x p)

/-- HELLO_ACK (R419). -/
def Device.helloAckNow (d : Device) (f : Nat) (x : Flow) (p : RxPkt) : Device :=
  if leAt p.mid 4 4 = x.rflow then (d.setFlow f { x.meet p with acked := true }).maybeOpen f else d

def Device.rxHelloAck (d : Device) (f : Nat) : Device :=
  d.rxCtl f kindCtrl 2 (fun d x p => d.helloAckNow f x p)

/-- CLOSE is answered (R420). -/
def Device.closeNow (d : Device) (f : Nat) (_ : Flow) (_ : RxPkt) : Device :=
  (d.sendPacket f kindCtrl 4 0 (List.replicate 32 0#8) []).1

def Device.rxClose (d : Device) (f : Nat) : Device :=
  d.rxCtl f kindCtrl 3 (fun d x p => d.closeNow f x p)

/-- The context becomes FREE: what it has not completed ends with ST_FLOW_CLOSED, and its command with a status. -/
def Device.endFlow (d : Device) (f status : Nat) : Device :=
  match d.flow f with
  | none => d
  | some x =>
    let d := (d.aqCompleteAll f St.FLOW_CLOSED x.msgs.length).freeFlow f
    match x.owner with
    | some id => d.complete id status 0
    | none => d

/-- CLOSE_ACK (R420). -/
def Device.closeAckNow (d : Device) (f : Nat) (x : Flow) (_ : RxPkt) : Device :=
  if x.phase == .closing then d.endFlow f St.OK else d

def Device.rxCloseAck (d : Device) (f : Nat) : Device :=
  d.rxCtl f kindCtrl 4 (fun d x p => d.closeAckNow f x p)

/-- SKIP (R438): PSNs FROM to TO - 1 of the window count as received, and what came of them is discarded. -/
def Device.skipNow (d : Device) (f : Nat) (x : Flow) (p : RxPkt) : Device :=
  let lo := leAt p.mid 0 4
  let n := min 4096 (wrap 32 ((leAt p.mid 4 4 : Int) - lo))
  let ps := (List.range n).map (fun i => (lo + i) % 0x100000000)
  let x := { x with inbox := x.inbox.filter (fun q => !(q.kind == kindData && ps.contains q.psn)) }
  let x := { x with above := x.above ++ ps.filter (fun q => x.fresh q) }.advance 4096
  (d.setFlow f x.noteEffects).checkPfc

def Device.rxSkip (d : Device) (f : Nat) : Device :=
  d.rxCtl f kindCtrl 5 (fun d x p => d.skipNow f x p)

/-- HELLO_RETRY (R419). -/
def Device.helloRetry (d : Device) (f : Nat) : Device :=
  match d.flow f with
  | none => d
  | some x =>
    if x.phase == .opening then
      let d := { d with now := max d.now (x.helloAt + 100000 * nsUnit) }
      (d.modFlow f (fun x => { x with helloAt := d.now })).sendHello f 1
    else d

/-- FLOW_OPEN_TIMEOUT and FLOW_CLOSE_TIMEOUT: 1 s has passed (R419, R420). -/
def Device.flowTimeout (d : Device) (f : Nat) (phase : FlowPhase) (status : Nat) : Device :=
  match d.flow f with
  | none => d
  | some x => if x.phase == phase then { d with now := max d.now (x.since + secUnit) }.endFlow f status else d

/-- The flow-close command on an OPEN or BROKEN context (R420). -/
def Device.closeFlow (d : Device) (f : Nat) (owner : Option Nat) : Device :=
  (d.modFlow f (fun x => { x with phase := .closing, since := d.now, owner := owner })).pump f

end Machine
end Sys2Proof
end

