-- ==== Sys2Proof/Machine/AqWork.lean ====
section
/-!
DEFINITION. Work queues and their doorbells (R422-R424, R456), the descriptors of the transport (R425, R426), and the removal and
readmission of ports (R441-R443).
-/
namespace Sys2Proof
namespace Machine

/-! ## Work queues (R422) -/

/-- Watches the doorbell codewords of the armed queues. -/
def Device.rewatchQueues (d : Device) : Device :=
  let ws := (d.aq.queues.map (fun q => ({ unit := q.unit, cw := q.cw } : Watch))).eraseDups
  { d with watches := d.watches.filter (fun w => w.unit == 0) ++ ws }

/-- The status of a queue entry's fields (R422): reserved bits, LOG2, alignment. -/
def queueEntryBad (e : List Byte) : Bool :=
  let ctl := leAt e 16 4
  bits ctl 30 5 != 0 || leAt e 20 12 != 0 || decide (ctl % 32 < 4) || decide (ctl % 32 > 16) || leAt e 0 8 % 64 != 0 || leAt e 8 8 % 64 != 0

/-- Arms queue i of partition p for a unit from its table entry: checked and translated; `none` with its status where it fails. -/
def Device.armQueue (d : Device) (unit p i : Nat) (e : List Byte) : Device × Option (Nat × Nat) :=
  if !bit (leAt e 16 4) 31 then (d, none)
  else if queueEntryBad e then (d, some (St.BAD_FIELD, 0))
  else
    let log2 := leAt e 16 4 % 32
    match d.mapRanges p [(leAt e 0 8, (if unit = 2 then 128 else 64) * 2 ^ log2, [.read]), (leAt e 8 8, 64, [.read])] [] with
    | (d, .error x) => (d, some x)
    | (d, .ok m) =>
      let pa := Cells.get 0 m (leAt e 8 8 / 0x10000) * 0x10000 + leAt e 8 8 % 0x10000
      match regionOf pa with
      | .hbm | .cistern _ =>
        let q : WorkQueue := { unit := unit, part := p, entry := i, ring := leAt e 0 8, log2 := log2, cw := pa / 64 }
        ({ d with aq := { d.aq with queues := d.aq.queues ++ [q] } }, none)
      | _ => (d, some (St.BAD_RANGE, leAt e 8 8))

/-- Arms the valid entries of a table of n entries, with a record for each one that fails (R422). -/
def Device.armQueues (d : Device) (unit source p table n : Nat) : Device :=
  let fault := fun (d : Device) (st i addr : Nat) => d.raise
    { status := st, source := source, akind := if addr = 0 then 0 else 2, part := p, index := i, stroke := d.strokeOf p, addr := addr }
  let r := d.readVa p table (32 * n)
  if r.2.2.1 ≠ St.OK then fault r.1 r.2.2.1 0xFFFF r.2.2.2
  else
    ((List.range n).foldl (fun d i =>
      let a := d.armQueue unit p i ((r.2.1.drop (32 * i)).take 32)
      match a.2 with
      | none => a.1
      | some (st, addr) => fault a.1 st i addr) r.1).rewatchQueues

/-- Disarms the queues of a unit and partition. -/
def Device.disarmQueues (d : Device) (unit p : Nat) : Device :=
  { d with aq := { d.aq with queues := d.aq.queues.filter (fun q => !(q.unit == unit && q.part == p)) } }.rewatchQueues

/-- What a doorbell's PROD asks of a queue (R424): ignored, nothing new, or the entries to take. -/
inductive Doorbell where
  | bad
  | same
  | take (n : Nat)
  deriving DecidableEq, Repr

def WorkQueue.doorbell (q : WorkQueue) (prod : Nat) : Doorbell :=
  let n := 2 ^ q.log2
  let ahead := fun (x : Nat) => (x + n - q.cons) % n
  if prod ≥ n then .bad
  else if ahead prod < ahead q.last then .bad
  else if prod = q.last then .same
  else .take (ahead prod)

/-- Replaces a queue's consumer index and last PROD. -/
def Device.setQueueIdx (d : Device) (q : WorkQueue) (cons last : Nat) : Device :=
  { d with aq := { d.aq with queues := d.aq.queues.map (fun x =>
      if x.unit = q.unit ∧ x.part = q.part ∧ x.entry = q.entry then { x with cons := cons, last := last } else x) } }

/-- Handles the oldest doorbell write seen by a unit: `bad` writes the record of an ignored one, `take` is given each entry's index
and the doorbell's stroke, in ring order (R423, R424). -/
def Device.doorbell (d : Device) (unit : Nat) (bad : Device → WorkQueue → Nat → Device) (take : Device → WorkQueue → Nat → Nat → Device) : Device :=
  match d.takeSeen unit with
  | none => d
  | some (s, d) =>
    let stroke := leAt s.bytes 4 4
    (d.aq.queues.filter (fun q => q.unit == unit && q.cw == s.cw)).foldl (fun d q =>
      match q.doorbell (leAt s.bytes 0 4) with
      | .bad => bad d q stroke
      | .same => d
      | .take n =>
        let size := 2 ^ q.log2
        let d := (List.range n).foldl (fun d i => take d q ((q.cons + i) % size) stroke) d
        d.setQueueIdx q (leAt s.bytes 0 4) (leAt s.bytes 0 4)) d

/-! ## The descriptors of the transport (R425) -/

def dOp (b : List Byte) : Nat := leAt b 0 1
def dFlow (b : List Byte) : Nat := leAt b 4 4
def dLaddr (b : List Byte) : Nat := leAt b 8 8
def dRaddr (b : List Byte) : Nat := leAt b 16 8
def dLen (b : List Byte) : Nat := leAt b 24 4
def dOparg (b : List Byte) : Nat := leAt b 28 4
def dComp (b : List Byte) : Nat := leAt b 32 8
def dUntimed (b : List Byte) : Bool := bit (leAt b 1 1) 0
def dSignal (b : List Byte) : Option (Nat × Nat) := if bit (leAt b 1 1) 1 then some (leAt b 40 1 % 128, leAt b 41 1 % 64) else none

/-- Completes a descriptor that sends nothing. -/
def Device.descDone (d : Device) (t : Taken) (status : Nat) : Device :=
  d.aqRecord t.part (dComp t.bytes) status t.stroke (dSignal t.bytes)

/-- WQ_DOORBELL (R423, R424): each entry is read whole as it is taken; one of unknown OP completes at once. -/
def Device.wqDoorbell (d : Device) : Device :=
  d.doorbell 1
    (fun d q stroke => d.aqFault q.part stroke St.BAD_RANGE q.entry 0 0)
    (fun d q i stroke =>
      let r := d.readVa q.part (q.ring + 64 * i) 64
      if r.2.2.1 ≠ St.OK then r.1.aqFault q.part stroke r.2.2.1 q.entry r.2.2.2 0
      else
        let t : Taken := { part := q.part, entry := q.entry, stroke := stroke, bytes := r.2.1 }
        let op := dOp r.2.1
        if op = 0 ∨ op = 3 ∨ op = 6 ∨ op > 8 then r.1.descDone t St.BAD_FIELD
        else { r.1 with aq := { r.1.aq with taken := r.1.aq.taken ++ [t] } })

/-- The reserved fields of a descriptor and the shape of its OPARG, LEN and RADDR (R412, R425). -/
def descBad (b : List Byte) : Bool :=
  let op := dOp b
  let a := dOparg b
  leAt b 1 1 / 4 != 0 || leAt b 2 2 != 0 || dFlow b / 0x40000 != 0 || leAt b 42 6 != 0 || leAt b 40 1 / 128 != 0 || leAt b 41 1 / 64 != 0 ||
    (if op = 2 then dLen b == 0 || a != dLen b
     else if op = 4 then
       if bit a 31 then bits a 30 26 != 0 || bits a 25 21 != 0 || bits a 15 0 != 0 || (bits a 20 16 != Fmt.FP32 && bits a 20 16 != Fmt.BF16)
       else bits a 30 26 != 0 || bits a 23 16 != 0 || bit a 13 || dRaddr b != 0
     else if op = 5 then decide (a > 2) || dLen b != 16
     else if op = 7 then
       dRaddr b != 0 || bits a 23 16 != 0 ||
         (if bits a 31 24 = 1 then bit a 13 || dLen b != 16 else bits a 31 24 != 0 || bits a 15 8 != 0)
     else a != 0)

/-- The message of a taken descriptor, its source read; or the status that ends it (R425). -/
def Device.descMessage (d : Device) (t : Taken) : Device × Except Nat TxMsg :=
  let b := t.bytes
  let op := dOp b
  if !dUntimed b && strokeOlder t.stroke (d.strokeOf t.part) then (d, .error St.CANCELLED)
  else if descBad b then (d, .error St.BAD_FIELD)
  else if (match dSignal b with | some (c, _) => d.partOf c != some t.part | none => false) then (d, .error St.BAD_RANGE)
  else
    let local' : List (Nat × Nat × List Access) :=
      if op = 2 then [(dLaddr b, dLen b, [.write])]
      else if op = 5 then [(dLaddr b, 8, [.write])]
      else if op = 8 then []
      else [(dLaddr b, dLen b, [.read])]
    match d.mapRanges t.part (local' ++ [(dComp b, 16, [.write])]) [] with
    | (d, .error e) => (d, .error e.1)
    | (d, .ok _) =>
      match d.flow (dFlow b) with
      | none => (d, .error St.FLOW_CLOSED)
      | some x =>
        if x.part ≠ t.part ∨ x.phase = .closing then (d, .error St.FLOW_CLOSED)
        else if x.phase = .broken then (d, .error St.FLOW_BROKEN)
        else
          let src := op == 1 || op == 4 || op == 7
          let r := if src then d.readVa t.part (dLaddr b) (dLen b) else (d, [], St.OK, 0)
          if r.2.2.1 ≠ St.OK then (r.1, .error r.2.2.1)
          else
            let payload := if op = 5 then (b.drop 48).take 16 else r.2.1
            (r.1, .ok { owner := .desc (dComp b) (dSignal b), op := op, untimed := dUntimed b, stroke := t.stroke, addr := dRaddr b,
                        oparg := dOparg b, rest := splitMsg r.1.aqMtu payload, laddr := dLaddr b
                        want := if op = 2 then dLen b else if op = 5 then 8 else 0 })

/-- The first taken descriptor becomes an outgoing message, where its OP is the one asked for. -/
def Device.aqDesc (d : Device) (op : Nat) : Device :=
  match d.aq.taken with
  | [] => d
  | t :: rest =>
    if dOp t.bytes ≠ op then d
    else
      match { d with aq := { d.aq with taken := rest } }.descMessage t with
      | (d, .error st) => d.descDone t st
      | (d, .ok m) => d.aqPost (dFlow t.bytes) m

/-! ## Enabling and draining a partition's queues (R422, R490) -/

/-- Whether every descriptor message of a partition has been sent and completed. -/
def Device.aqDrained (d : Device) (p : Nat) : Bool :=
  !d.aq.taken.any (fun t => t.part == p) &&
    !d.aq.flows.any (fun e => e.2.part == p && e.2.msgs.any (fun m => match m.owner with | .desc _ _ => true | _ => false))

/-- Completes the Zennus commands that wait for partition p's enable. -/
def Device.answerEnable (d : Device) (p status : Nat) : Device :=
  let ids := (d.aq.enableWaiters.filter (fun w => w.1 == p)).map (·.2)
  let d := { d with aq := { d.aq with enableWaiters := d.aq.enableWaiters.filter (fun w => w.1 != p) } }
  ids.foldl (fun d id => d.complete id status 0) d

/-- The enable is carried out: the table is read and the doorbells armed. -/
def Device.aqEnableNow (d : Device) (p : Nat) : Device :=
  (d.setFlag Reg.AQ_CTL (16 + p) true).armQueues 1 11 p (d.fld (Reg.AQ_WQT_LO p) 31 13 * 0x2000 + d.fld (Reg.AQ_WQT_HI p) 15 0 * 0x100000000) 256

/-- AQ_PEN_ENABLE: at once, or held while the partition drains. -/
def Device.aqPenEnable (d : Device) (p : Nat) : Device :=
  if d.flag Reg.AQ_CTL (16 + p) then d
  else if d.flag Reg.AQ_STATUS (16 + p) then
    if d.aq.heldEnable.contains p then d else { d with aq := { d.aq with heldEnable := d.aq.heldEnable ++ [p] } }
  else d.aqEnableNow p

/-- AQ_PEN_DISABLE: the queues are disarmed, PDRAIN stands while messages remain, and a held enable is withdrawn. -/
def Device.aqPenDisable (d : Device) (p : Nat) : Device :=
  let d := { d with aq := { d.aq with heldEnable := d.aq.heldEnable.filter (· != p) } }.answerEnable p St.CANCELLED
  if !d.flag Reg.AQ_CTL (16 + p) then d
  else
    let d := (d.setFlag Reg.AQ_CTL (16 + p) false).disarmQueues 1 p
    d.setFlag Reg.AQ_STATUS (16 + p) (!d.aqDrained p)

/-- AQ_PDRAIN_END: a drain ends, and a held enable is carried out. -/
def Device.aqDrainEnd (d : Device) (p : Nat) : Device :=
  if d.flag Reg.AQ_STATUS (16 + p) && d.aqDrained p then
    let d := d.setFlag Reg.AQ_STATUS (16 + p) false
    if d.aq.heldEnable.contains p then
      (({ d with aq := { d.aq with heldEnable := d.aq.heldEnable.filter (· != p) } }).aqEnableNow p).answerEnable p St.ENABLE_DEFERRED
    else d
  else d

/-! ## Ports (R441-R443) -/

def Device.portFlag (d : Device) (i b : Nat) : Bool := d.flag (Reg.AQ_PORT_STATUS i) b
def Device.setPortFlag (d : Device) (i b : Nat) (v : Bool) : Device := d.setFlag (Reg.AQ_PORT_STATUS i) b v

/-- Whether frames wait in a port's transmit queue. -/
def Device.portBusy (d : Device) (i : Nat) : Bool := d.aq.txq.any (fun f => f.port == i)

/-- Zennus commands that wait for a port complete. -/
def Device.answerPort (d : Device) (i status : Nat) : Device :=
  let p := d.port i
  p.waiters.foldl (fun d id => d.complete id status 0) (d.setPort i { p with waiters := [] })

/-- The port joins the effective spray set where SPRAY is 1, its link is up and locked, and nothing holds it back (R442). -/
def Device.portJoin (d : Device) (i : Nat) : Device :=
  if d.flag (Reg.AQ_PORT_CTL i) 31 && d.portFlag i 31 && !d.portFlag i 29 && !d.portFlag i 27 && !d.flag (Reg.AQ_PORT_CTL i) 30 then
    (d.setSpray i true).pumpAll
  else d

/-- The port leaves the effective spray set and drains (R441). -/
def Device.portLeave (d : Device) (i : Nat) : Device := (d.setSpray i false).setPortFlag i 29 (d.portBusy i)

/-- A recalibration that waits begins once the port has drained (R443). -/
def Device.portRecalStart (d : Device) (i : Nat) : Device :=
  if d.flag (Reg.AQ_PORT_CTL i) 30 && !d.portFlag i 29 then d.setPortFlag i 27 true else d

/-- A held readmission is carried out (R442). -/
def Device.portDeferred (d : Device) (i : Nat) : Device :=
  if d.portFlag i 28 && !d.portFlag i 29 && !d.flag (Reg.AQ_PORT_CTL i) 30 then
    ((d.setPortFlag i 28 false).portJoin i).answerPort i St.ENABLE_DEFERRED
  else d

/-- PORT_REMOVE: SPRAY is cleared; a held readmission is withdrawn. -/
def Device.portRemove (d : Device) (i : Nat) : Device :=
  let d := (d.setPortFlag i 28 false).answerPort i St.CANCELLED
  if d.flag (Reg.AQ_PORT_CTL i) 31 then (d.setFlag (Reg.AQ_PORT_CTL i) 31 false).portLeave i else d

/-- Whether a readmission now would be held. -/
def Device.portHolds (d : Device) (i : Nat) : Bool := d.portFlag i 29 || d.portFlag i 27 || d.flag (Reg.AQ_PORT_CTL i) 30

/-- PORT_READMIT: SPRAY is set; held while the port drains or recalibrates. -/
def Device.portReadmit (d : Device) (i : Nat) : Device :=
  let was := d.flag (Reg.AQ_PORT_CTL i) 31
  let d := d.setFlag (Reg.AQ_PORT_CTL i) 31 true
  if d.portHolds i then (if was then d else d.setPortFlag i 28 true) else d.portJoin i

/-- PORT_RECAL (R443): a request made while one is pending or running merges with it. -/
def Device.portRecal (d : Device) (i : Nat) : Device :=
  if d.flag (Reg.AQ_PORT_CTL i) 30 then d else ((d.setFlag (Reg.AQ_PORT_CTL i) 30 true).portLeave i).portRecalStart i

/-- PORT_DRAIN_END (R441): the port's transmit queue empties. -/
def Device.portDrainEnd (d : Device) (i : Nat) : Device :=
  let d := { d with aq := { d.aq with txq := d.aq.txq.filter (fun f => f.port != i) } }
  if d.portFlag i 29 then ((d.setPortFlag i 29 false).portRecalStart i).portDeferred i else d

/-- RECAL_END (R443): the port event fires, and the port returns where SPRAY is 1. -/
def Device.recalEnd (d : Device) (i : Nat) : Device :=
  if !d.portFlag i 27 then d
  else
    let d := ((d.setPortFlag i 27 false).setFlag (Reg.AQ_PORT_CTL i) 30 false).fire (Evt.PORT i)
    let p := d.port i
    let d := p.recalWaiters.foldl (fun d id => d.complete id St.OK 0) (d.setPort i { p with recalWaiters := [] })
    if d.portFlag i 28 then d.portDeferred i else d.portJoin i

/-- PORT_LINK_DOWN (R442, R340): the link goes down, the port leaves the spray set, PTP may move. -/
def Device.portLinkDown (d : Device) (i : Nat) : Device :=
  if !d.portFlag i 31 then d
  else
    let d := ((d.setPortFlag i 31 false).setFld (Reg.AQ_PORT_STATUS i) 7 0 0).setFlag Reg.AQ_STATUS (8 + i) false
    ((d.setSpray i false).bump (Reg.AQ_LINK_DOWN i) 1).fire (Evt.PORT i) |>.showPtpPort

/-- PORT_LINK_UP (R442): the link has been up with every lane locked for 10 ms. -/
def Device.portLinkUp (d : Device) (i : Nat) : Device :=
  if d.noImage 2 then d else
  let up := d.portFlag i 31
  let d := ((d.setPortFlag i 31 true).setFld (Reg.AQ_PORT_STATUS i) 7 0 0xFF).setFlag Reg.AQ_STATUS (8 + i) true
  let d := if up then d else d.fire (Evt.PORT i)
  (if d.portFlag i 28 then d else d.portJoin i).showPtpPort

/-- AQ_PORT_IFACE_WRITE (R444): a change of the interface restarts the link. -/
def Device.portIface (d : Device) (i v : Nat) : Device :=
  if d.fld (Reg.AQ_PORT_CTL i) 1 0 = v then d else (d.setFld (Reg.AQ_PORT_CTL i) 1 0 v).portLinkDown i

end Machine
end Sys2Proof
end

