-- ==== Sys2Proof/Machine/State.lean ====
section
/-!
DEFINITION. The state of the machine: the device, and the commands that wait for it, first in, first out. What ends a run.
-/
namespace Sys2Proof
namespace Machine

/-- Why a command stops the machine. -/
inductive Fault where
  /-- REGISTER_WRITE, where the written value has a 1 in a reserved field: R11 gives that no defined effect. Safe: the model
  stops where the manual says nothing of what follows. -/
  | reservedField
  deriving DecidableEq, Repr

/-- Why a command has no meaning. -/
inductive Refusal where
  /-- A command that is not modelled, by its mnemonic: no command of this model answers with it. Safe: the run ends. -/
  | notModelled (mnemonic : String)
  deriving DecidableEq, Repr

/-- The machine: the device, and the commands waiting to be carried out, the next one first. -/
structure State where
  dev : Device := {}
  pending : List Instr := []
  deriving DecidableEq, Repr

/-- The outcome of a command. -/
abbrev Result := Host.Outcome State Fault Refusal

/-- The machine right after reset: the device at its cold start, no command waiting (R584, R597; log 3). -/
def State.reset : State := {}

/-- A command that changes the device and nothing else. -/
def State.onDev (s : State) (f : Device → Device) : Result := .next { s with dev := f s.dev }

end Machine
end Sys2Proof
end

