-- ==== Sys2Proof/Machine/AqueductCommands.lean ====
section
/-!
DEFINITION. The meanings of the rows of the Aqueduct transport (R405-R444).
-/
namespace Sys2Proof
namespace Machine

/-- FRAME_RECEIVE (R406): A received Ethernet frame is sorted and handled, or discarded. -/
def execFrameReceive (port : PortId) (frame : List Byte) (s : State) : Result :=
  s.onDev (fun d => d.frameReceive port frame)

/-- ARP_REQUEST (R406): An ARP request for a partition address is answered by the management cores. -/
def execArpRequest (port : PortId) (mac : Nat) (ip : Nat) (target : Nat) (s : State) : Result :=
  s.onDev (fun d => d.arpRequest port (mac % 2 ^ 48) (ip % 2 ^ 32) (target % 2 ^ 32))

/-- NEIGHBOR_SOLICITATION (R406): An IPv6 Neighbor Solicitation is answered. -/
def execNeighborSolicitation (port : PortId) (mac : Nat) (ip : Nat) (target : Nat) (s : State) : Result :=
  s.onDev (fun d => d.neighborSolicit port (mac % 2 ^ 48) (ip % 2 ^ 128) (target % 2 ^ 128))

/-- PFC_FRAME (R407): A received PFC frame pauses or releases a priority on the port. -/
def execPfcFrame (port : PortId) (enable : Fin 256) (times : List Nat) (s : State) : Result :=
  s.onDev (fun d => d.pfcFrame port enable times)

/-- WRITE (R427): A received WRITE packet is placed at its address. -/
def execWrite (flow : Fin 262144) (s : State) : Result :=
  s.onDev (fun d => d.rxWrite flow)

/-- READ (R427): A received READ is answered with READ_RESP packets. -/
def execRead (flow : Fin 262144) (s : State) : Result :=
  s.onDev (fun d => d.rxRead flow)

/-- READ_RESP (R426): Returned READ data is written at LADDR. -/
def execReadResp (flow : Fin 262144) (s : State) : Result :=
  s.onDev (fun d => d.rxResponse flow 3 2 false)

/-- RACC_SLOT (R427): A remote accumulate handed to a pair slot as one side of a piece. -/
def execRaccSlot (flow : Fin 262144) (s : State) : Result :=
  s.onDev (fun d => d.rxRaccSlot flow)

/-- RACC_ADDRESS (R427): A remote accumulate of FP32 elements at an address. -/
def execRaccAddress (flow : Fin 262144) (s : State) : Result :=
  s.onDev (fun d => d.rxRaccAddr flow)

/-- ATOMIC_FADD (R427): A 64-bit wrapping fetch-add. -/
def execAtomicFadd (flow : Fin 262144) (s : State) : Result :=
  s.onDev (fun d => d.rxAtomic flow 0)

/-- ATOMIC_SWAP (R427): A 64-bit swap. -/
def execAtomicSwap (flow : Fin 262144) (s : State) : Result :=
  s.onDev (fun d => d.rxAtomic flow 1)

/-- ATOMIC_CSWP (R427): A 64-bit compare-and-swap. -/
def execAtomicCswp (flow : Fin 262144) (s : State) : Result :=
  s.onDev (fun d => d.rxAtomic flow 2)

/-- ATOMIC_RESP (R426): A returned old value is written at LADDR. -/
def execAtomicResp (flow : Fin 262144) (s : State) : Result :=
  s.onDev (fun d => d.rxResponse flow 6 5 true)

/-- SEND_RING (R513): A CLASS 0 SEND is written into a receive ring. -/
def execSendRing (flow : Fin 262144) (s : State) : Result :=
  s.onDev (fun d => d.rxRing flow)

/-- SEND_REDUCTION (R427): A CLASS 1 SEND hands a settle record to the reduction sequencer. -/
def execSendReduction (flow : Fin 262144) (s : State) : Result :=
  s.onDev (fun d => d.rxSettle flow)

/-- FENCE (R428): A FENCE orders a flow's later messages behind every earlier one. -/
def execFence (flow : Fin 262144) (s : State) : Result :=
  s.onDev (fun d => d.rxFence flow)

/-- ACK (R413): A received ACK acknowledges PSNs, completes messages and may trigger retransmission. -/
def execAck (flow : Fin 262144) (s : State) : Result :=
  s.onDev (fun d => d.rxAck flow)

/-- MSTAT (R414): A received MSTAT completes a message with a non-OK status. -/
def execMstat (flow : Fin 262144) (s : State) : Result :=
  s.onDev (fun d => d.rxMstat flow)

/-- HELLO (R419): A received HELLO records the peer's initial values and is answered. -/
def execHello (flow : Fin 262144) (s : State) : Result :=
  s.onDev (fun d => d.rxHello flow)

/-- HELLO_ACK (R419): A received HELLO_ACK may make the context OPEN. -/
def execHelloAck (flow : Fin 262144) (s : State) : Result :=
  s.onDev (fun d => d.rxHelloAck flow)

/-- CLOSE (R420): A received CLOSE is answered with CLOSE_ACK. -/
def execClose (flow : Fin 262144) (s : State) : Result :=
  s.onDev (fun d => d.rxClose flow)

/-- CLOSE_ACK (R420): A received CLOSE_ACK frees a CLOSING context. -/
def execCloseAck (flow : Fin 262144) (s : State) : Result :=
  s.onDev (fun d => d.rxCloseAck flow)

/-- SKIP (R438): A received SKIP marks a range of PSNs received and discards them. -/
def execSkip (flow : Fin 262144) (s : State) : Result :=
  s.onDev (fun d => d.rxSkip flow)

/-- WQ_DOORBELL (R424): A doorbell write reaches HBM; descriptors are taken or the write is ignored. -/
def execWqDoorbell (s : State) : Result :=
  s.onDev (fun d => d.wqDoorbell)

/-- AQ_DESC_WRITE (R425): A taken WRITE descriptor becomes an outgoing message. -/
def execAqDescWrite (s : State) : Result :=
  s.onDev (fun d => d.aqDesc 1)

/-- AQ_DESC_READ (R425): A taken READ descriptor becomes an outgoing message. -/
def execAqDescRead (s : State) : Result :=
  s.onDev (fun d => d.aqDesc 2)

/-- AQ_DESC_RACC (R425): A taken RACC descriptor becomes an outgoing message. -/
def execAqDescRacc (s : State) : Result :=
  s.onDev (fun d => d.aqDesc 4)

/-- AQ_DESC_ATOMIC (R425): A taken ATOMIC descriptor becomes an outgoing message. -/
def execAqDescAtomic (s : State) : Result :=
  s.onDev (fun d => d.aqDesc 5)

/-- AQ_DESC_SEND (R425): A taken SEND descriptor becomes an outgoing message. -/
def execAqDescSend (s : State) : Result :=
  s.onDev (fun d => d.aqDesc 7)

/-- AQ_DESC_FENCE (R425): A taken FENCE descriptor becomes an outgoing message. -/
def execAqDescFence (s : State) : Result :=
  s.onDev (fun d => d.aqDesc 8)

/-- RETRANSMIT_TIMEOUT (R434): AQ_RTO passes for a PSN, which is retransmitted or breaks its flow; SKIPs are resent. -/
def execRetransmitTimeout (flow : Fin 262144) (s : State) : Result :=
  s.onDev (fun d => d.rtoExpire flow)

/-- ACK_TIMER (R433): 2 µs after the first unacknowledged data packet, the receiver sends an ACK. -/
def execAckTimer (flow : Fin 262144) (s : State) : Result :=
  s.onDev (fun d => d.ackTimer flow)

/-- HELLO_RETRY (R419): An OPENING context resends HELLO every 100 µs. -/
def execHelloRetry (flow : Fin 262144) (s : State) : Result :=
  s.onDev (fun d => d.helloRetry flow)

/-- FLOW_OPEN_TIMEOUT (R419): A context not OPEN within 1 s returns to FREE. -/
def execFlowOpenTimeout (flow : Fin 262144) (s : State) : Result :=
  s.onDev (fun d => d.flowTimeout flow .opening St.FLOW_BROKEN)

/-- FLOW_CLOSE_TIMEOUT (R420): A CLOSING context becomes FREE after 1 s. -/
def execFlowCloseTimeout (flow : Fin 262144) (s : State) : Result :=
  s.onDev (fun d => d.flowTimeout flow .closing St.OK)

/-- RATE_PERIOD (R435): Each period without CE raises a flow's rate. -/
def execRatePeriod (flow : Fin 262144) (s : State) : Result :=
  s.onDev (fun d => d.ratePeriod flow)

/-- AQ_PEN_ENABLE (R422): PEN bit set: reads the work-queue table and arms doorbells, or holds the write while draining. -/
def execAqPenEnable (part : PartId) (s : State) : Result :=
  s.onDev (fun d => d.aqPenEnable part)

/-- AQ_PEN_DISABLE (R422): PEN bit cleared: stops taking descriptors and drains. -/
def execAqPenDisable (part : PartId) (s : State) : Result :=
  s.onDev (fun d => d.aqPenDisable part)

/-- AQ_PDRAIN_END (R422): A partition's transport drain ends and a held enable is carried out. -/
def execAqPdrainEnd (part : PartId) (s : State) : Result :=
  s.onDev (fun d => d.aqDrainEnd part)

/-- PORT_REMOVE (R441): Clearing SPRAY removes a port from the spray set. -/
def execPortRemove (port : PortId) (s : State) : Result :=
  s.onDev (fun d => d.portRemove port)

/-- PORT_READMIT (R442): Setting SPRAY readmits a port, or holds the readmission. -/
def execPortReadmit (port : PortId) (s : State) : Result :=
  s.onDev (fun d => d.portReadmit port)

/-- PORT_RECAL (R443): Removes a port, recalibrates its SerDes and readmits it. -/
def execPortRecal (port : PortId) (s : State) : Result :=
  s.onDev (fun d => d.portRecal port)

/-- PORT_DRAIN_END (R441): A removed port's transmit queue empties; a held readmission proceeds. -/
def execPortDrainEnd (port : PortId) (s : State) : Result :=
  s.onDev (fun d => d.portDrainEnd port)

/-- RECAL_END (R443): A SerDes recalibration ends. -/
def execRecalEnd (port : PortId) (s : State) : Result :=
  s.onDev (fun d => d.recalEnd port)

/-- PORT_LINK_DOWN (R442): A port's link goes down and leaves the spray set; PTP may move. -/
def execPortLinkDown (port : PortId) (s : State) : Result :=
  s.onDev (fun d => d.portLinkDown port)

/-- PORT_LINK_UP (R442): A link up with all lanes locked for 10 ms rejoins the spray set. -/
def execPortLinkUp (port : PortId) (s : State) : Result :=
  s.onDev (fun d => d.portLinkUp port)

/-- AQ_PORT_IFACE_WRITE (R444): A change of IFACE restarts the link. -/
def execAqPortIfaceWrite (port : PortId) (iface : Fin 3) (s : State) : Result :=
  s.onDev (fun d => d.portIface port iface)

/-- PFC_PAUSE_EXPIRY (R407): A PFC pause on a priority runs out, and the port resumes sending that priority. -/
def execPfcPauseExpiry (port : PortId) (prio : Fin 8) (s : State) : Result :=
  s.onDev (fun d => d.pfcExpire port prio)

end Machine
end Sys2Proof
end

