-- ==== Sys2Proof/Machine/Control.lean ====
section
/-!
DEFINITION. The control core (R207-R247): fetch and issue, faults, replay boundaries and starts, core reset, and what each
Estehar-C instruction does to the device. An instruction is the one its core's instruction memory holds at PC; a command
that names another one leaves the device as it is.
-/
namespace Sys2Proof
namespace Machine

/-! ## Registers and instruction fetch -/

/-- S[i]: S0 reads as zero (R207). -/
def Core.s (k : Core) (i : Nat) : DWord := if i = 0 then 0#64 else Cells.get 0#64 k.sreg i

/-- Writes S[i]: a write of S0 is ignored (R207). -/
def Core.setS (k : Core) (i : Nat) (v : DWord) : Core :=
  if i = 0 then k else { k with sreg := Cells.set 0#64 k.sreg i v }

/-- The instruction word at an index of a bank (R209). -/
def Core.imemWord (k : Core) (bank i : Nat) : Word := Cells.get 0#32 k.imem (8192 * bank + i)

/-- The instruction word at PC, where the core is RUNNING, waits on nothing, and the fetch succeeds (R209, R217). -/
def Core.fetch (k : Core) : Option Nat :=
  if k.run = .running && k.semWait.isNone && decide (k.pc < 8192) && !k.imemBad.contains ((8192 * k.bank + k.pc) / 2) then
    some (k.imemWord k.bank k.pc).toNat
  else none

/-- Fields of the formats of R211. -/
def insOp (w : Nat) : Nat := bits w 31 26
def insD (w : Nat) : Nat := bits w 25 21
def insA (w : Nat) : Nat := bits w 20 16
def insB (w : Nat) : Nat := bits w 15 11
def insFn (w : Nat) : Nat := bits w 10 0
def insImm (w : Nat) : Nat := bits w 15 0

/-- IMM sign-extended to 64 bits. -/
def insSimm (w : Nat) : DWord := BitVec.ofInt 64 (sext 16 w)

/-! ## Boundary, replay start, faults -/

/-- Applies one held instruction-memory write (R244). -/
def Core.writeImem (k : Core) (bank index : Nat) (ws : List Word) : Core :=
  { k with
    imem := Cells.setRange 0#32 k.imem (8192 * bank + index) ws
    imemBad := k.imemBad.filter (fun x => !(decide (8192 * bank + index ≤ 2 * x) && decide (2 * x + 2 ≤ 8192 * bank + index + ws.length))) }

/-- The staged parameters whose dirty bit is set move into the live registers (R241). -/
def Core.copyDirty (k : Core) : Nat → Core
  | 0 => k
  | n + 1 =>
    let k := k.copyDirty n
    if k.dirty.toNat.testBit n then { k with live := Cells.set 0#64 k.live n (Cells.get 0#64 k.staged n) } else k

/-- A replay boundary (R241), in order: held instruction-memory writes, a pending bank switch, the dirty parameters unless
LOCK, GATE cleared. The held writes' commands complete. -/
def Device.boundary (d : Device) (c : Nat) : Device :=
  let held := (d.core c).held
  let d := d.modCore c (fun k =>
    let k := { (held.foldl (fun k h => k.writeImem h.bank h.index h.words) k) with held := [] }
    let k := if k.switchPending then { k with bank := 1 - k.bank, switchPending := false } else k
    let k := if d.flag (Reg.CORE_CTL c) 7 then k else { k.copyDirty 64 with dirty := 0#64 }
    { k with gate := none, semWait := none })
  held.foldl (fun d h => match h.owner with | some id => d.complete id St.OK 0 | none => d) d

/-- The start actions of a replay (R240). -/
def Device.startActions (d : Device) (c : Nat) : Device :=
  (d.modCore c (fun k => { k with
      run := .running, pc := d.fld (Reg.CORE_ENTRY c) 12 0, tc := d.fld (Reg.CORE_TAG_BASE c) 23 0 })).bump64
    (Reg.CORE_REPLAYS_LO c) 1

/-- A record of the control core (R217, R239): SOURCE 0, the tag TC, DETAIL the PC. -/
def Device.coreRecord (d : Device) (c status akind addr : Nat) : Device :=
  let k := d.core c
  d.raise { status := status, source := 0, akind := akind, tagValid := true, core := c, part := d.partNum c, tag := k.tc,
            stroke := d.coreStroke c, addr := addr, detail := k.pc }

/-- Fires the CORE source of the core's partition (R528). -/
def Device.fireCore (d : Device) (c : Nat) : Device :=
  match d.partOf c with
  | some p => d.firePart p 7
  | none => d

/-- The sluice of a partition has closed and its stroke has not ended (R353, R360). -/
def Device.closed (d : Device) (p : Nat) : Bool := d.flag (Reg.STK_STATUS p) 29

/-- A replay start reaches core c: accepted in IDLE; in RUNNING or HALTED, and while the sluice is closed, it is ignored, counted and
recorded (R239, R353). A core of no partition is reached by none (R571). -/
def Device.replayStart (d : Device) (c : Nat) : Device :=
  if (d.partOf c).isNone then d
  else if (d.core c).run = .idle ∧ !d.closed (d.partNum c) then d.startActions c
  else ((d.bump (Reg.CORE_MISSED c) 1).coreRecord c St.REPLAY_MISSED 0 0).fireCore c

/-- A control-core fault: the record, CORE_FAULT and FAULTED, and the core halts with a boundary (R217, R239). -/
def Device.ctlFault (d : Device) (c status akind addr : Nat) : Device :=
  let pc := (d.core c).pc
  let d := (d.coreRecord c status akind addr).setReg (Reg.CORE_FAULT c)
    (BitVec.ofNat 32 (0x80000000 + (pc % 0x2000) * 0x10000 + status))
  ((d.modCore c (fun k => { k with run := .halted, faulted := true })).boundary c).fireCore c

/-- A fault whose address is the PC (R217). -/
def Device.pcFault (d : Device) (c status : Nat) : Device := d.ctlFault c status 5 (d.core c).pc

/-! ## Issue -/

/-- Issues the instruction at PC of core c when it is one the test accepts; otherwise nothing happens. -/
def Device.issue (d : Device) (c : Nat) (isIns : Nat → Bool) (f : Device → Nat → Device) : Device :=
  match (d.core c).fetch with
  | none => d
  | some w => if isIns w then f d w else d

/-- PC moves to the next instruction. -/
def Core.next (k : Core) : Core := { k with pc := k.pc + 1 }

/-- An R-format instruction: D takes a function of S[D], S[A] and S[B] (R212). -/
def Device.rOp (d : Device) (c fn : Nat) (f : DWord → DWord → DWord → DWord) : Device :=
  d.issue c (fun w => insOp w == 0x01 && insFn w == fn) (fun d w =>
    d.modCore c (fun k => (k.setS (insD w) (f (k.s (insD w)) (k.s (insA w)) (k.s (insB w)))).next))

/-- An I-format instruction: a nonzero reserved field faults, otherwise D takes a function of S[D], S[A] and the word. -/
def Device.iOp (d : Device) (c op : Nat) (resv : Nat → Bool) (f : DWord → DWord → Nat → DWord) : Device :=
  d.issue c (fun w => insOp w == op) (fun d w =>
    if resv w then d.pcFault c St.BAD_FIELD
    else d.modCore c (fun k => (k.setS (insD w) (f (k.s (insD w)) (k.s (insA w)) w)).next))

/-- No reserved field. -/
def noResv (_ : Nat) : Bool := false

/-- 1 or 0 as a register value. -/
def boolD (b : Bool) : DWord := if b then 1#64 else 0#64

/-- IMM bits 15:6 must be 0 (shifts, R212). -/
def resvShift (w : Nat) : Bool := bits w 15 6 != 0

/-- The A field must be 0. -/
def resvA (w : Nat) : Bool := insA w != 0

/-! ## Scratch and local SRAM accesses (R212, R213) -/

/-- The effective address A + IMM. -/
def Core.ea (k : Core) (w : Nat) : Nat := (k.s (insA w) + insSimm w).toNat

/-- The first doubleword of scratch with a broken code in a range, if any (R217). -/
def Core.scratchBadAt (k : Core) (a n : Nat) : Bool :=
  k.scratchBad.any (fun w => decide (8 * w < a + n) && decide (a < 8 * w + 8))

/-- Writes scratch bytes; a doubleword written whole loses its error. -/
def Core.scratchWrite (k : Core) (a : Nat) (bs : List Byte) : Core :=
  { k with
    scratch := Cells.setRange 0#8 k.scratch a bs
    scratchBad := k.scratchBad.filter (fun w => !(decide (a ≤ 8 * w) && decide (8 * w + 8 ≤ a + bs.length))) }

def Core.scratchBytes (k : Core) (a n : Nat) : List Byte := Cells.getRange 0#8 k.scratch a n

/-- A scratch load of n bytes (R212, R213, R217). -/
def Device.loadOp (d : Device) (c op n : Nat) (ext : Nat → DWord) : Device :=
  d.issue c (fun w => insOp w == op) (fun d w =>
    let k := d.core c
    let a := k.ea w
    if a % n ≠ 0 then d.ctlFault c St.BAD_FIELD 6 a
    else if a ≥ 16384 then d.ctlFault c St.BAD_RANGE 6 a
    else if k.scratchBadAt a n then d.ctlFault c St.UNCORRECTABLE 6 a
    else d.modCore c (fun k => (k.setS (insD w) (ext (leNat (k.scratchBytes a n)))).next))

/-- A scratch store of the low n bytes of D (R212, R213, R217). -/
def Device.storeOp (d : Device) (c op n : Nat) : Device :=
  d.issue c (fun w => insOp w == op) (fun d w =>
    let a := (d.core c).ea w
    if a % n ≠ 0 then d.ctlFault c St.BAD_FIELD 6 a
    else if a ≥ 16384 then d.ctlFault c St.BAD_RANGE 6 a
    else d.modCore c (fun k => (k.scratchWrite a (toLe n (k.s (insD w)).toNat)).next))

/-- lsld: the 64-bit word of local SRAM at A + IMM (R212, R217). -/
def Device.lsldOp (d : Device) (c : Nat) : Device :=
  d.issue c (fun w => insOp w == 0x19) (fun d w =>
    let a := (d.core c).ea w
    if a % 8 ≠ 0 then d.ctlFault c St.BAD_FIELD 1 a
    else if a ≥ sramSize then d.ctlFault c St.BAD_RANGE 1 a
    else
      let r := d.sramRead c a 8
      if r.2.2.isSome then r.1.ctlFault c St.UNCORRECTABLE 1 a
      else r.1.modCore c (fun k => (k.setS (insD w) (BitVec.ofNat 64 (leNat r.2.1))).next))

/-- lsst: a store of D to local SRAM at A + IMM. -/
def Device.lsstOp (d : Device) (c : Nat) : Device :=
  d.issue c (fun w => insOp w == 0x1A) (fun d w =>
    let a := (d.core c).ea w
    if a % 8 ≠ 0 then d.ctlFault c St.BAD_FIELD 1 a
    else if a ≥ sramSize then d.ctlFault c St.BAD_RANGE 1 a
    else d.modCore c (fun k => (k.sramWrite a (toLe 8 (k.s (insD w)).toNat)).next))

/-- lscp: 32 bytes of local SRAM at A + IMM * 32 to scratch at D (R212, R213, R217). -/
def Device.lscpOp (d : Device) (c : Nat) : Device :=
  d.issue c (fun w => insOp w == 0x1B) (fun d w =>
    let k := d.core c
    let a := (k.s (insA w) + insSimm w * 32#64).toNat
    let t := (k.s (insD w)).toNat
    if a % 32 ≠ 0 then d.ctlFault c St.BAD_FIELD 1 a
    else if t % 32 ≠ 0 then d.ctlFault c St.BAD_FIELD 6 t
    else if a ≥ sramSize then d.ctlFault c St.BAD_RANGE 1 a
    else if t ≥ 16384 then d.ctlFault c St.BAD_RANGE 6 t
    else
      let r := d.sramRead c a 32
      match r.2.2 with
      | some b => r.1.ctlFault c St.UNCORRECTABLE 1 b
      | none => r.1.modCore c (fun k => (k.scratchWrite t r.2.1).next))

/-! ## Branches (R212, R217) -/

/-- Moves PC to a target, or faults where it lies outside 0-8,191. -/
def Device.jumpTo (d : Device) (c : Nat) (t : Int) (f : Core → Core) : Device :=
  if t < 0 ∨ t > 8191 then d.pcFault c St.BAD_RANGE
  else d.modCore c (fun k => { f k with pc := t.toNat })

/-- The target of a branch: its own PC plus OFF. -/
def branchTarget (k : Core) (w : Nat) : Int := (k.pc : Int) + sext 16 w

/-- A conditional branch: A stands in 25:21 and B in 20:16 of format B. -/
def Device.branchOp (d : Device) (c op : Nat) (cond : DWord → DWord → Bool) : Device :=
  d.issue c (fun w => insOp w == op) (fun d w =>
    let k := d.core c
    if cond (k.s (insD w)) (k.s (insA w)) then d.jumpTo c (branchTarget k w) id
    else d.modCore c Core.next)

def Device.jalOp (d : Device) (c : Nat) : Device :=
  d.issue c (fun w => insOp w == 0x26) (fun d w =>
    if insA w ≠ 0 then d.pcFault c St.BAD_FIELD
    else
      let k := d.core c
      d.jumpTo c (branchTarget k w) (fun k => k.setS (insD w) (BitVec.ofNat 64 (k.pc + 1))))

def Device.jrOp (d : Device) (c : Nat) : Device :=
  d.issue c (fun w => insOp w == 0x27) (fun d w =>
    if insD w ≠ 0 ∨ insImm w ≠ 0 then d.pcFault c St.BAD_FIELD
    else d.jumpTo c ((d.core c).s (insA w)).toNat id)

/-- dbnz: A - 1; a taken branch that faults leaves A as it was, one not taken writes A (R217). -/
def Device.dbnzOp (d : Device) (c : Nat) : Device :=
  d.issue c (fun w => insOp w == 0x28) (fun d w =>
    if insA w ≠ 0 then d.pcFault c St.BAD_FIELD
    else
      let k := d.core c
      let v := k.s (insD w) - 1#64
      if v ≠ 0#64 then d.jumpTo c (branchTarget k w) (fun k => k.setS (insD w) v)
      else d.modCore c (fun k => (k.setS (insD w) v).next))

/-! ## Parameters, state items, field insert -/

/-- N of format P, bits 20:15; bits 14:0 are reserved. -/
def insN (w : Nat) : Nat := bits w 20 15

def Device.pgetOp (d : Device) (c : Nat) : Device :=
  d.issue c (fun w => insOp w == 0x2C) (fun d w =>
    if bits w 14 0 ≠ 0 then d.pcFault c St.BAD_FIELD
    else d.modCore c (fun k => (k.setS (insD w) (Cells.get 0#64 k.live (insN w))).next))

/-- A staged parameter is written and its dirty bit set (R207, R242). -/
def Core.stage (k : Core) (n : Nat) (v : DWord) : Core :=
  { k with staged := Cells.set 0#64 k.staged n v, dirty := k.dirty ||| (1#64 <<< n) }

def Device.psetOp (d : Device) (c : Nat) : Device :=
  d.issue c (fun w => insOp w == 0x2D) (fun d w =>
    if bits w 14 0 ≠ 0 then d.pcFault c St.BAD_FIELD
    else d.modCore c (fun k => (k.stage (insN w) (k.s (insD w))).next))

/-- The queue occupancies of item 6: eight bits per queue (R214). -/
def Core.occupancies (k : Core) : Nat :=
  (List.range 6).foldl (fun acc q => acc + occupancy (k.queue q) * 2 ^ (8 * q)) 0

/-- rdsr item i of core c (R214); none for an unlisted item. -/
def Device.stateItem (d : Device) (c i : Nat) : Option Nat :=
  let k := d.core c
  match i with
  | 0 => some c
  | 1 => some (d.reg64 (Reg.CORE_REPLAYS_LO c))
  | 2 => some (d.coreStroke c)
  | 3 => some (timeShort d.now)
  | 4 => some k.tc
  | 5 => some k.bank
  | 6 => some k.occupancies
  | 7 => some (d.cycles - k.resetCycle)
  | _ => none

def Device.rdsrOp (d : Device) (c : Nat) : Device :=
  d.issue c (fun w => insOp w == 0x2E) (fun d w =>
    if insA w ≠ 0 then d.pcFault c St.BAD_FIELD
    else match d.stateItem c (insImm w) with
      | none => d.pcFault c St.BAD_FIELD
      | some v => d.modCore c (fun k => (k.setS (insD w) (BitVec.ofNat 64 v)).next))

/-- The checks of a 32-byte record in scratch at an address (R217-R219): its alignment, its range, its code. -/
def Core.recordFault (k : Core) (a : Nat) : Option Nat :=
  if a % 32 ≠ 0 then some St.BAD_FIELD
  else if a ≥ 16384 then some St.BAD_RANGE
  else if k.scratchBadAt a 32 then some St.UNCORRECTABLE
  else none

/-- fins (R218): the low WM1 + 1 bits of S[D] into the record at S[A], from bit POS up. -/
def Device.finsOp (d : Device) (c : Nat) : Device :=
  d.issue c (fun w => insOp w == 0x30) (fun d w =>
    let k := d.core c
    let a := (k.s (insA w)).toNat
    let pos := bits w 15 8
    let wm1 := bits w 7 2
    if bits w 1 0 ≠ 0 ∨ pos + wm1 > 255 then d.pcFault c St.BAD_FIELD
    else match k.recordFault a with
      | some st => d.ctlFault c st 6 a
      | none =>
        let r := setBits (leNat (k.scratchBytes a 32)) (pos + wm1) pos (k.s (insD w)).toNat
        d.modCore c (fun k => (k.scratchWrite a (toLe 32 r)).next))

/-! ## Push, gate, semaphores -/

/-- The command a push forms (R219): the record plus S[B], sign-extended to 256 bits and shifted by POS, modulo 2^256; with
TM its tag becomes TC. -/
def pushCommand (rec b pos tc : Nat) (tm : Bool) : Nat :=
  let patch := wrap 256 (sext 64 b) * 2 ^ pos
  let v := (rec + patch) % 2 ^ 256
  if tm then setBits v 23 0 tc else v

/-- Appends a command to a queue of core c. -/
def Device.enqueue (d : Device) (c q : Nat) (e : QEntry) : Device :=
  d.modCore c (fun k => k.setQueue q (k.queue q ++ [e]))

def Device.pushOp (d : Device) (c : Nat) : Device :=
  d.issue c (fun w => insOp w == 0x31) (fun d w =>
    let k := d.core c
    let q := bits w 25 23
    let a := (k.s (insA w)).toNat
    let tm := bit w 22
    if bit w 21 ∨ bits w 2 0 ≠ 0 ∨ q > 5 then d.pcFault c St.BAD_FIELD
    else match k.recordFault a with
      | some st => d.ctlFault c st 6 a
      | none =>
        if occupancy (k.queue q) ≥ 64 then d
        else
          let v := pushCommand (leNat (k.scratchBytes a 32)) (k.s (insB w)).toNat (bits w 10 3) k.tc tm
          let e : QEntry := { cmd := BitVec.ofNat 256 v, gate := k.gate.getD {}, stroke := d.coreStroke c }
          (d.enqueue c q e).modCore c (fun k => { k.next with
            tc := if tm then (k.tc + 1) % 0x1000000 else k.tc, gate := none }))

/-- gate (R225): WEN 25, WSEM 24:19, SEN 18, SSEM 17:12, 11:0 reserved. -/
def Device.gateOp (d : Device) (c : Nat) : Device :=
  d.issue c (fun w => insOp w == 0x32) (fun d w =>
    if bits w 11 0 ≠ 0 then d.pcFault c St.BAD_FIELD
    else d.modCore c (fun k => { k.next with
      gate := some { wen := bit w 25, wsem := bits w 24 19, sen := bit w 18, ssem := bits w 17 12 } }))

/-- The fields a semaphore instruction must leave 0: A and IMM bits 15:6, and D too where it has none. -/
def resvSem (useD : Bool) (w : Nat) : Bool := insA w != 0 || bits w 15 6 != 0 || (!useD && insD w != 0)

def Device.semsigOp (d : Device) (c : Nat) : Device :=
  d.issue c (fun w => insOp w == 0x33) (fun d w =>
    if resvSem false w then d.pcFault c St.BAD_FIELD
    else (d.semAdd c (bits w 5 0) 1 (some (d.core c).tc) c 6).modCore c Core.next)

/-- semwait: the wait request stands until it is granted (R212, R230). -/
def Device.semwaitOp (d : Device) (c : Nat) : Device :=
  d.issue c (fun w => insOp w == 0x34) (fun d w =>
    if resvSem false w then d.pcFault c St.BAD_FIELD
    else d.modCore c (fun k => { k with semWait := some (bits w 5 0) }))

/-- The grant of a waiting semwait, when the arbiter of its semaphore chooses requester 6 (R230). -/
def Device.semwaitGrantOp (d : Device) (c : Nat) : Device :=
  match (d.core c).semWait with
  | none => d
  | some n =>
    if (d.core c).winner n = some 6 then d.modCore c (fun k => { (k.grant n 1 6).next with semWait := none }) else d

def Device.semrdOp (d : Device) (c : Nat) : Device :=
  d.issue c (fun w => insOp w == 0x35) (fun d w =>
    if resvSem true w then d.pcFault c St.BAD_FIELD
    else d.modCore c (fun k => (k.setS (insD w) (BitVec.ofNat 64 (k.semVal (bits w 5 0)))).next))

/-! ## nop, rend, halt, illegal instructions -/

/-- An instruction without operands: bits 25:0 must be 0 (R212). -/
def Device.plainOp (d : Device) (c op : Nat) (f : Device → Device) : Device :=
  d.issue c (fun w => insOp w == op) (fun d w =>
    if bits w 25 0 ≠ 0 then d.pcFault c St.BAD_FIELD else f d)

def Device.nopOp (d : Device) (c : Nat) : Device := d.plainOp c 0x3D (fun d => d.modCore c Core.next)

/-- rend (R239): IDLE with a boundary, or the next replay at once under AUTOREPEAT. -/
def Device.rendOp (d : Device) (c : Nat) : Device :=
  d.plainOp c 0x3E (fun d =>
    let d := (d.modCore c (fun k => { k with run := .idle })).boundary c
    if d.flag (Reg.CORE_CTL c) 6 then d.startActions c else d)

/-- halt (R239): HALTED with a boundary. -/
def Device.haltOp (d : Device) (c : Nat) : Device :=
  d.plainOp c 0x3F (fun d => ((d.modCore c (fun k => { k.next with run := .halted })).boundary c))

/-- The OP values of R212; OP 0x01 takes FN 0x000 to 0x010. -/
def legalOp (w : Nat) : Bool :=
  let op := insOp w
  if op = 0x01 then decide (insFn w ≤ 0x010)
  else (decide (0x02 ≤ op) && decide (op ≤ 0x0B)) || (decide (0x10 ≤ op) && decide (op ≤ 0x1B))
    || (decide (0x20 ≤ op) && decide (op ≤ 0x28)) || (decide (0x2C ≤ op) && decide (op ≤ 0x2E))
    || (decide (0x30 ≤ op) && decide (op ≤ 0x35)) || (decide (0x3D ≤ op) && decide (op ≤ 0x3F))

/-- A RUNNING core fetches what it cannot run: past the bank's end, an uncorrectable word, or an OP or FN absent from the
table (R209, R212, R217). An uncorrectable instruction word puts the core to the sparing policy (R630). -/
def Device.illegalOp (d : Device) (c : Nat) : Device :=
  let k := d.core c
  if k.run = .running && k.semWait.isNone then
    if k.pc ≥ 8192 then d.pcFault c St.BAD_RANGE
    else if k.imemBad.contains ((8192 * k.bank + k.pc) / 2) then
      let d := d.bump16 (Reg.CORE_SRAM_ECC c) true 1
      let d := if d.flag Reg.HUB_RETIRE_CFG 28 && !d.fault.spareAsked.contains c then
        { d with fault := { d.fault with spareAsked := d.fault.spareAsked ++ [c] } } else d
      d.pcFault c St.UNCORRECTABLE
    else if legalOp (k.imemWord k.bank k.pc).toNat then d
    else d.pcFault c St.BAD_FIELD
  else d

/-! ## Core reset and cancellation (R246, R247) -/

/-- Withdraws the slots of an engine: its requests issue no further, and those held await their withdrawal (R298). -/
def Core.withdraw (k : Core) (engine : Nat) : Core :=
  { k with
    slots := k.slots.map (fun s => if s.engine = engine then { s with withdrawn := true } else s)
    toIssue := k.toIssue.filter (fun s => s.engine != engine) }

/-- One command completes with ST_CANCELLED, adding the counts of what it did before the cancel (R102): its records (merged
under R623), its trace record, and the Zennus command that waited for it. -/
def Device.cancelEntry (d : Device) (c q : Nat) (e : QEntry) : Device :=
  (d.settleEntry c q e { e.result.getD {} with status := St.CANCELLED }).answerOwner e St.CANCELLED

/-- Takes core c out of every barrier episode it has arrived at (R246). -/
def Device.leaveBarriers (d : Device) (c : Nat) : Device :=
  { d with barriers := d.barriers.map (fun b => (b.1, { b.2 with
    arrived := b.2.arrived.filter (fun x => x != c)
    full := (b.2.full.map (fun l => l.filter (fun x => x != c))).filter (fun l => !l.isEmpty) })) }

/-- A cancelled table load leaves the half it wrote invalid (R175). -/
def Device.dropLoad (d : Device) (c : Nat) (e : QEntry) : Device :=
  match e.uses with
  | some h =>
    if e.opc = 0x05 ∧ e.result.isNone then
      (d.setFlag (Reg.SF_SLOT c (h / 2)) 31 false).setFlag (Reg.SF_SLOT c (h / 2)) (30 - h % 2) false
    else d
  | none => d

/-- Empties a queue of core c: every command completes with ST_CANCELLED, its requests are withdrawn. -/
def Device.cancelQueue (d : Device) (c q : Nat) : Device :=
  let l := (d.core c).queue q
  let d := l.foldl (fun d e => d.cancelEntry c q e) d
  let d := if q = 3 ∨ q = 4 then l.foldl (fun d e => d.dropLoad c e) d else d
  d.modCore c (fun k =>
    let k := k.setQueue q []
    let k := if q = 3 then k.withdraw 0 else if q = 4 then k.withdraw 1 else k
    if q ≤ 1 then { k with siphonBusy := if k.siphonBusy = some q then none else k.siphonBusy } else k)

/-- A core reset (R247): queues emptied, held writes discarded, registers, scratch, parameters, TC, GATE, semaphores, vector
registers, masks, VL (R130), carries (R189) and table slots (R176) cleared, HALTED. Instruction memory, the active bank,
CORE_ENTRY, CORE_TAG_BASE, AUTOREPEAT, LOCK and local SRAM are kept. The built-in tables are loaded again (R158). -/
def Device.coreReset (d : Device) (c : Nat) : Device :=
  let held := (d.core c).held
  let d := (List.range 6).foldl (fun d q => d.cancelQueue c q) d
  let d := (held.foldl (fun d h => match h.owner with | some id => d.complete id St.CANCELLED 0 | none => d) d).leaveBarriers c
  let d := (List.range 16).foldl (fun d s => d.setReg (Reg.SF_SLOT c s) 0#32) d
  let d := match d.boot.tableStore with | some v => d.setReg (Reg.SF_BUILTIN c) v | none => d
  d.modCore c (fun k =>
    { Core.reset with
      imem := k.imem, imemBad := k.imemBad, bank := k.bank, faulted := k.faulted, pc := k.pc
      sram := k.sram, sramBad := k.sramBad, sramCe := k.sramCe
      slots := k.slots, tlb := k.tlb, stallLatch := k.stallLatch, resetCycle := d.cycles })

/-! ## Host controls of the control core (R239, R243-R245, R248) -/

/-- A host write of CORE_CTL reaches core c: it is ignored where the core belongs to no partition (R571) or is off. -/
def Device.coreControl (d : Device) (c : Nat) (f : Device → Device) : Device :=
  if (d.partOf c).isNone || d.standby then d else f d

/-- CORE_CTL.SWITCH (R245): at once in HALTED or IDLE, pending in RUNNING, merged with a pending one. -/
def Device.ctlSwitch (d : Device) (c : Nat) : Device :=
  d.coreControl c (fun d => d.modCore c (fun k =>
    if k.run = .running then { k with switchPending := true } else { k with bank := 1 - k.bank }))

/-- CORE_CTL.START (R239): a replay start, which leaves Idle first (R568). -/
def Device.ctlStart (d : Device) (c : Nat) : Device := d.coreControl c (fun d => d.exitIdle.replayStart c)

/-- CORE_CTL.RESUME (R239): HALTED to IDLE, FAULTED cleared. -/
def Device.ctlResume (d : Device) (c : Nat) : Device :=
  d.coreControl c (fun d => d.modCore c (fun k =>
    if k.run = .halted then { k with run := .idle, faulted := false } else k))

/-- CORE_CTL.HALT (R239): RUNNING to HALTED with a boundary, a waiting push or semwait abandoned; IDLE to HALTED. -/
def Device.ctlHalt (d : Device) (c : Nat) : Device :=
  match (d.core c).run with
  | .running => (d.modCore c (fun k => { k with run := .halted })).boundary c
  | .idle => d.modCore c (fun k => { k with run := .halted })
  | .halted => d

/-- A host write of one word of a staged parameter sets the word and its dirty bit (R242, R243, R248). -/
def Device.pstageWrite (d : Device) (c n : Nat) (high : Bool) (v : Word) : Device :=
  d.modCore c (fun k =>
    let old := (Cells.get 0#64 k.staged n).toNat
    k.stage n (BitVec.ofNat 64 (if high then setBits old 63 32 v.toNat else setBits old 31 0 v.toNat)))

/-- A write of 1s to CORE_PDIRTY withdraws the patches; the staged values stay (R248). -/
def Device.pdirtyWrite (d : Device) (c : Nat) (high : Bool) (v : Word) : Device :=
  d.modCore c (fun k => { k with dirty := k.dirty &&& ~~~(v.zeroExtend 64 <<< (if high then 32 else 0)) })

end Machine
end Sys2Proof
end

