-- ==== Sys2Proof/Machine/ControlCommands.lean ====
section
/-!
DEFINITION. The meanings of the control core's rows: each Estehar-C instruction, issued where its core's PC
holds it, and the host controls of a control core (R207-R248).
-/
namespace Sys2Proof
namespace Machine

/-- ADD (R212): Scalar addition. -/
def execAdd (core : CoreId) (s : State) : Result :=
  s.onDev (fun d => d.rOp core 0x000 (fun _ a b => a + b))

/-- SUB (R212): Scalar subtraction. -/
def execSub (core : CoreId) (s : State) : Result :=
  s.onDev (fun d => d.rOp core 0x001 (fun _ a b => a - b))

/-- MUL (R212): Low 64 bits of a scalar product. -/
def execMul (core : CoreId) (s : State) : Result :=
  s.onDev (fun d => d.rOp core 0x002 (fun _ a b => a * b))

/-- MLA (R212): Scalar multiply-accumulate. -/
def execMla (core : CoreId) (s : State) : Result :=
  s.onDev (fun d => d.rOp core 0x003 (fun x a b => x + a * b))

/-- AND (R212): Scalar bitwise and. -/
def execAnd (core : CoreId) (s : State) : Result :=
  s.onDev (fun d => d.rOp core 0x004 (fun _ a b => a &&& b))

/-- OR (R212): Scalar bitwise or. -/
def execOr (core : CoreId) (s : State) : Result :=
  s.onDev (fun d => d.rOp core 0x005 (fun _ a b => a ||| b))

/-- XOR (R212): Scalar bitwise exclusive or. -/
def execXor (core : CoreId) (s : State) : Result :=
  s.onDev (fun d => d.rOp core 0x006 (fun _ a b => a ^^^ b))

/-- SHL (R212): Scalar left shift. -/
def execShl (core : CoreId) (s : State) : Result :=
  s.onDev (fun d => d.rOp core 0x007 (fun _ a b => a <<< (b.toNat % 64)))

/-- SHR (R212): Scalar logical right shift. -/
def execShr (core : CoreId) (s : State) : Result :=
  s.onDev (fun d => d.rOp core 0x008 (fun _ a b => a >>> (b.toNat % 64)))

/-- SRA (R212): Scalar arithmetic right shift. -/
def execSra (core : CoreId) (s : State) : Result :=
  s.onDev (fun d => d.rOp core 0x009 (fun _ a b => a.sshiftRight (b.toNat % 64)))

/-- MIN (R212): Signed scalar minimum. -/
def execMin (core : CoreId) (s : State) : Result :=
  s.onDev (fun d => d.rOp core 0x00A (fun _ a b => if a.slt b then a else b))

/-- MAX (R212): Signed scalar maximum. -/
def execMax (core : CoreId) (s : State) : Result :=
  s.onDev (fun d => d.rOp core 0x00B (fun _ a b => if a.slt b then b else a))

/-- MINU (R212): Unsigned scalar minimum. -/
def execMinu (core : CoreId) (s : State) : Result :=
  s.onDev (fun d => d.rOp core 0x00C (fun _ a b => if a.ult b then a else b))

/-- MAXU (R212): Unsigned scalar maximum. -/
def execMaxu (core : CoreId) (s : State) : Result :=
  s.onDev (fun d => d.rOp core 0x00D (fun _ a b => if a.ult b then b else a))

/-- SLT (R212): Signed less-than test. -/
def execSlt (core : CoreId) (s : State) : Result :=
  s.onDev (fun d => d.rOp core 0x00E (fun _ a b => boolD (a.slt b)))

/-- SLTU (R212): Unsigned less-than test. -/
def execSltu (core : CoreId) (s : State) : Result :=
  s.onDev (fun d => d.rOp core 0x00F (fun _ a b => boolD (a.ult b)))

/-- SEQ (R212): Equality test. -/
def execSeq (core : CoreId) (s : State) : Result :=
  s.onDev (fun d => d.rOp core 0x010 (fun _ a b => boolD (a == b)))

/-- ADDI (R212): Addition of an immediate. -/
def execAddi (core : CoreId) (s : State) : Result :=
  s.onDev (fun d => d.iOp core 0x02 noResv (fun _ a w => a + insSimm w))

/-- ANDI (R212): And with a zero-extended immediate. -/
def execAndi (core : CoreId) (s : State) : Result :=
  s.onDev (fun d => d.iOp core 0x03 noResv (fun _ a w => a &&& BitVec.ofNat 64 (insImm w)))

/-- ORI (R212): Or with a zero-extended immediate. -/
def execOri (core : CoreId) (s : State) : Result :=
  s.onDev (fun d => d.iOp core 0x04 noResv (fun _ a w => a ||| BitVec.ofNat 64 (insImm w)))

/-- XORI (R212): Exclusive or with a zero-extended immediate. -/
def execXori (core : CoreId) (s : State) : Result :=
  s.onDev (fun d => d.iOp core 0x05 noResv (fun _ a w => a ^^^ BitVec.ofNat 64 (insImm w)))

/-- SHLI (R212): Left shift by an immediate. -/
def execShli (core : CoreId) (s : State) : Result :=
  s.onDev (fun d => d.iOp core 0x06 resvShift (fun _ a w => a <<< bits w 5 0))

/-- SHRI (R212): Logical right shift by an immediate. -/
def execShri (core : CoreId) (s : State) : Result :=
  s.onDev (fun d => d.iOp core 0x07 resvShift (fun _ a w => a >>> bits w 5 0))

/-- SRAI (R212): Arithmetic right shift by an immediate. -/
def execSrai (core : CoreId) (s : State) : Result :=
  s.onDev (fun d => d.iOp core 0x08 resvShift (fun _ a w => a.sshiftRight (bits w 5 0)))

/-- SLTI (R212): Signed less-than test against an immediate. -/
def execSlti (core : CoreId) (s : State) : Result :=
  s.onDev (fun d => d.iOp core 0x09 noResv (fun _ a w => boolD (a.slt (insSimm w))))

/-- MOVK (R212): Inserts an immediate into one halfword of D. -/
def execMovk (core : CoreId) (s : State) : Result :=
  s.onDev (fun d => d.iOp core 0x0A (fun w => bits w 20 18 != 0) (fun x _ w => BitVec.ofNat 64 (setBits x.toNat (16 * bits w 17 16 + 15) (16 * bits w 17 16) (insImm w))))

/-- LUI (R212): Loads a shifted upper immediate. -/
def execLui (core : CoreId) (s : State) : Result :=
  s.onDev (fun d => d.iOp core 0x0B resvA (fun _ _ w => insSimm w <<< 16))

/-- LD8U (R212): Zero-extending byte load from scratch memory. -/
def execLd8u (core : CoreId) (s : State) : Result :=
  s.onDev (fun d => d.loadOp core 0x10 1 (BitVec.ofNat 64))

/-- LD16U (R212): Zero-extending halfword load from scratch memory. -/
def execLd16u (core : CoreId) (s : State) : Result :=
  s.onDev (fun d => d.loadOp core 0x11 2 (BitVec.ofNat 64))

/-- LD32U (R212): Zero-extending word load from scratch memory. -/
def execLd32u (core : CoreId) (s : State) : Result :=
  s.onDev (fun d => d.loadOp core 0x12 4 (BitVec.ofNat 64))

/-- LD32S (R212): Sign-extending word load from scratch memory. -/
def execLd32s (core : CoreId) (s : State) : Result :=
  s.onDev (fun d => d.loadOp core 0x13 4 (fun v => BitVec.ofInt 64 (sext 32 v)))

/-- LD64 (R212): Doubleword load from scratch memory. -/
def execLd64 (core : CoreId) (s : State) : Result :=
  s.onDev (fun d => d.loadOp core 0x14 8 (BitVec.ofNat 64))

/-- ST8 (R212): Byte store to scratch memory. -/
def execSt8 (core : CoreId) (s : State) : Result :=
  s.onDev (fun d => d.storeOp core 0x15 1)

/-- ST16 (R212): Halfword store to scratch memory. -/
def execSt16 (core : CoreId) (s : State) : Result :=
  s.onDev (fun d => d.storeOp core 0x16 2)

/-- ST32 (R212): Word store to scratch memory. -/
def execSt32 (core : CoreId) (s : State) : Result :=
  s.onDev (fun d => d.storeOp core 0x17 4)

/-- ST64 (R212): Doubleword store to scratch memory. -/
def execSt64 (core : CoreId) (s : State) : Result :=
  s.onDev (fun d => d.storeOp core 0x18 8)

/-- LSLD (R212): Loads a 64-bit word from local SRAM. -/
def execLsld (core : CoreId) (s : State) : Result :=
  s.onDev (fun d => d.lsldOp core)

/-- LSST (R212): Stores a 64-bit word to local SRAM. -/
def execLsst (core : CoreId) (s : State) : Result :=
  s.onDev (fun d => d.lsstOp core)

/-- LSCP (R212): Copies 32 bytes from local SRAM to scratch memory. -/
def execLscp (core : CoreId) (s : State) : Result :=
  s.onDev (fun d => d.lscpOp core)

/-- BEQ (R212): Branches when equal. -/
def execBeq (core : CoreId) (s : State) : Result :=
  s.onDev (fun d => d.branchOp core 0x20 (fun a b => a == b))

/-- BNE (R212): Branches when not equal. -/
def execBne (core : CoreId) (s : State) : Result :=
  s.onDev (fun d => d.branchOp core 0x21 (fun a b => a != b))

/-- BLT (R212): Branches when less, signed. -/
def execBlt (core : CoreId) (s : State) : Result :=
  s.onDev (fun d => d.branchOp core 0x22 (fun a b => a.slt b))

/-- BGE (R212): Branches when greater or equal, signed. -/
def execBge (core : CoreId) (s : State) : Result :=
  s.onDev (fun d => d.branchOp core 0x23 (fun a b => !a.slt b))

/-- BLTU (R212): Branches when less, unsigned. -/
def execBltu (core : CoreId) (s : State) : Result :=
  s.onDev (fun d => d.branchOp core 0x24 (fun a b => a.ult b))

/-- BGEU (R212): Branches when greater or equal, unsigned. -/
def execBgeu (core : CoreId) (s : State) : Result :=
  s.onDev (fun d => d.branchOp core 0x25 (fun a b => !a.ult b))

/-- JAL (R212): Jumps and links. -/
def execJal (core : CoreId) (s : State) : Result :=
  s.onDev (fun d => d.jalOp core)

/-- JR (R212): Jumps to a register. -/
def execJr (core : CoreId) (s : State) : Result :=
  s.onDev (fun d => d.jrOp core)

/-- DBNZ (R212): Decrements and branches when the result is not zero. -/
def execDbnz (core : CoreId) (s : State) : Result :=
  s.onDev (fun d => d.dbnzOp core)

/-- PGET (R242): Reads a live parameter register. -/
def execPget (core : CoreId) (s : State) : Result :=
  s.onDev (fun d => d.pgetOp core)

/-- PSET (R242): Writes a staged parameter and sets its dirty bit. -/
def execPset (core : CoreId) (s : State) : Result :=
  s.onDev (fun d => d.psetOp core)

/-- RDSR (R214): Reads a control-core state item. -/
def execRdsr (core : CoreId) (s : State) : Result :=
  s.onDev (fun d => d.rdsrOp core)

/-- FINS (R218): Inserts a field into a scratch command record. -/
def execFins (core : CoreId) (s : State) : Result :=
  s.onDev (fun d => d.finsOp core)

/-- PUSH (R219): Patches, tags, gates and stamps a scratch record and appends it to an engine queue. -/
def execPush (core : CoreId) (s : State) : Result :=
  s.onDev (fun d => d.pushOp core)

/-- GATE (R225): Sets the one-shot gate for the next push. -/
def execGate (core : CoreId) (s : State) : Result :=
  s.onDev (fun d => d.gateOp core)

/-- SEMSIG (R212): Adds 1 to a semaphore of this core. -/
def execSemsig (core : CoreId) (s : State) : Result :=
  s.onDev (fun d => d.semsigOp core)

/-- SEMWAIT (R212): Requests to take 1 from a semaphore once it is at least 1. -/
def execSemwait (core : CoreId) (s : State) : Result :=
  s.onDev (fun d => d.semwaitOp core)

/-- SEMWAIT_GRANT (R230): A pending semwait is granted and subtracts 1. -/
def execSemwaitGrant (core : CoreId) (s : State) : Result :=
  s.onDev (fun d => d.semwaitGrantOp core)

/-- SEMRD (R212): Reads a semaphore's value. -/
def execSemrd (core : CoreId) (s : State) : Result :=
  s.onDev (fun d => d.semrdOp core)

/-- NOP (R212): No effect. -/
def execNop (core : CoreId) (s : State) : Result :=
  s.onDev (fun d => d.nopOp core)

/-- REND (R239): Ends the replay; a boundary is taken and AUTOREPEAT may start the next replay. -/
def execRend (core : CoreId) (s : State) : Result :=
  s.onDev (fun d => d.rendOp core)

/-- HALT (R239): Halts the control core after a boundary. -/
def execHalt (core : CoreId) (s : State) : Result :=
  s.onDev (fun d => d.haltOp core)

/-- CORE_CTL_SWITCH (R245): Requests an instruction-memory bank switch, at once or at the next boundary. -/
def execCoreCtlSwitch (core : CoreId) (s : State) : Result :=
  s.onDev (fun d => d.ctlSwitch core)

/-- CORE_CTL_START (R239): A host replay start. -/
def execCoreCtlStart (core : CoreId) (s : State) : Result :=
  s.onDev (fun d => d.ctlStart core)

/-- CORE_CTL_RESUME (R239): Moves a HALTED control core to IDLE. -/
def execCoreCtlResume (core : CoreId) (s : State) : Result :=
  s.onDev (fun d => d.ctlResume core)

/-- CORE_CTL_HALT (R239): Halts the control core after the instruction in issue. -/
def execCoreCtlHalt (core : CoreId) (s : State) : Result :=
  s.onDev (fun d => d.ctlHalt core)

/-- CORE_SEM_WRITE (R230): A host write sets a semaphore's count first in its cycle. -/
def execCoreSemWrite (core : CoreId) (sem : Fin 64) (value : Word) (s : State) : Result :=
  s.onDev (fun d => d.modCore core (fun k => k.setSem sem (bits value.toNat 15 0)))

/-- CORE_PSTAGE_WRITE (R242): A host write of a staged parameter word sets its dirty bit. -/
def execCorePstageWrite (core : CoreId) (param : Fin 64) (high : Bool) (value : Word) (s : State) : Result :=
  s.onDev (fun d => d.pstageWrite core param high value)

/-- CORE_PDIRTY_WITHDRAW (R248): Writing 1 to a dirty bit withdraws the patch. -/
def execCorePdirtyWithdraw (core : CoreId) (high : Bool) (value : Word) (s : State) : Result :=
  s.onDev (fun d => d.pdirtyWrite core high value)

/-- ILLEGAL_INSTRUCTION (R212): The control core fetches an illegal instruction word, or reaches an index past 8,191 without a branch, and faults and halts. -/
def execIllegalInstruction (core : CoreId) (s : State) : Result :=
  s.onDev (fun d => d.illegalOp core)

end Machine
end Sys2Proof
end

