-- ==== Sys2Proof/Machine/CopyTensor.lean ====
section
/-!
DEFINITION. cp.nd (R305-R318), cp.gather and cp.scatter (R319-R324): records, checks, element order and fault points, conversion,
pass-through and re-blocking, in-place transposes, gathers, scatters and scatter-add.
-/
namespace Sys2Proof
namespace Machine

/-! ## The shape record (R306) -/

/-- Six values of n bytes each from a record, as unsigned or signed numbers. -/
def recNats (bs : List Byte) (off n : Nat) : List Nat := (List.range 6).map (fun j => leNat ((bs.drop (off + n * j)).take n))
def recInts (bs : List Byte) (off n : Nat) : List Int := (recNats bs off n).map (sext (8 * n))

/-- A tensor of a cp.nd: its format, layout and shape, base, space, extents, strides and scale array. -/
structure Tensor where
  fmt : Nat
  slice : Bool
  square : Bool
  base : Nat
  sp : Bool
  ext : List Nat
  str : List Int
  scale : Nat

/-- A cp.nd with its shape record. -/
structure NdCopy where
  src : Tensor
  dst : Tensor
  lo : List Int
  permWord : Nat
  fill : Nat
  ssc : Nat
  dsc : Nat

/-- The fields of a cp.nd and its record (R305, R306). -/
def NdCopy.of (x : Nat) (bs : List Byte) : NdCopy :=
  let ssc := leNat ((bs.drop 176).take 8)
  let dsc := leNat ((bs.drop 184).take 8)
  { src := { fmt := bits x 141 137, slice := bit x 131, square := bit x 130, base := bits x 255 208, sp := bit x 33,
             ext := recNats bs 24 4, str := recInts bs 72 8, scale := ssc }
    dst := { fmt := bits x 136 132, slice := bit x 129, square := bit x 128, base := bits x 207 160, sp := bit x 32,
             ext := recNats bs 0 4, str := recInts bs 120 8, scale := dsc }
    lo := recInts bs 48 4
    permWord := leNat ((bs.drop 168).take 4)
    fill := leNat ((bs.drop 172).take 4)
    ssc := ssc
    dsc := dsc }

/-- PERM[j] (R306). -/
def NdCopy.perm (n : NdCopy) (j : Nat) : Nat := bits n.permWord (3 * j + 2) (3 * j)

/-- The byte offset of the shape record. -/
def ndRecord (x : Nat) : Nat := bits x 159 142 * 32

/-- The index tuples of a tensor in element order, dimension 0 fastest (R308). -/
def indices : List Nat → List (List Nat)
  | [] => [[]]
  | n :: ns => (indices ns).flatMap (fun t => (List.range n).map (· :: t))

/-- The number of an index tuple in element order. -/
def linear : List Nat → List Nat → Nat
  | i :: is, n :: ns => i + n * linear is ns
  | _, _ => 0

/-- Σ i_k * stride_k. -/
def dot (is : List Nat) (ss : List Int) : Int := (List.zipWith (fun (i : Nat) s => (i : Int) * s) is ss).foldl (· + ·) 0

/-- Entry k of a list of numbers. -/
def at0 (l : List Nat) (k : Nat) : Nat := l.getD k 0

/-- The source index of a destination index, where every part lies inside the source extents (R307). -/
def NdCopy.source (n : NdCopy) (i : List Nat) : Option (List Nat) :=
  let x := (List.range 6).map (fun k =>
    match (List.range 6).find? (fun j => n.perm j == k) with
    | some j => (at0 i j : Int) - n.lo.getD j 0
    | none => -1)
  if (List.zipWith (fun (a : Int) (e : Nat) => decide (0 ≤ a) && decide (a < e)) x n.src.ext).all id then some (x.map Int.toNat) else none

/-! ## Rows, blocks and scales (R309) -/

def Tensor.isBlock (t : Tensor) : Bool := Fmt.isBlock t.fmt

/-- Bytes of an element that is not of a block format. -/
def Tensor.esize (t : Tensor) : Nat := elemSize t.fmt

/-- Bytes of 32 elements of a row. -/
def Tensor.runBytes (t : Tensor) : Nat := Fmt.blockBytes t.fmt t.slice

/-- The address of an element, or of a row at (x1, ..., x5) of a block tensor. -/
def Tensor.elemAddr (t : Tensor) (x : List Nat) : Int := (t.base : Int) + dot x t.str
def Tensor.rowAddr (t : Tensor) (row : List Nat) : Int := (t.base : Int) + dot row (t.str.drop 1)

/-- The place of the scale of block b in its array, at the row that holds an index. -/
def Tensor.scaleIndex (t : Tensor) (row : List Nat) (b : Nat) : Nat :=
  let nb := ceilDiv (at0 t.ext 0) 32
  if t.square then (linear (row.drop 1) (t.ext.drop 2) * ceilDiv (at0 t.ext 1) 32 + at0 row 0 / 32) * nb + b
  else linear row (t.ext.drop 1) * nb + b

/-- Elements of block b that lie inside the extents: of a tile, over its rows too. -/
def Tensor.live (t : Tensor) (row : List Nat) (b : Nat) : Nat :=
  let c := min 32 (at0 t.ext 0 - 32 * b)
  if t.square then c * min 32 (at0 t.ext 1 - at0 row 0 / 32 * 32) else c

/-- Bytes of a run of 32 elements that hold bits of element i (R40, R41, R48). -/
def elemBytes (fmt : Nat) (slice : Bool) (i : Nat) : List Nat :=
  if Fmt.isLadder fmt && !slice then (List.range fmt).map (fun j => 4 * j + i / 8)
  else
    let w := Fmt.elemBits fmt slice
    (List.range ((w * i + w - 1) / 8 - w * i / 8 + 1)).map (fun k => w * i / 8 + k)

/-! ## Declared ranges and overlap (R313-R317) -/

/-- The range of elements or rows with indices from lo to hi - 1 in each dimension, n bytes each. -/
def spanOf (base : Int) (lo hi : List Nat) (ss : List Int) (n : Nat) : Rng :=
  let parts := List.zipWith (fun (lh : Nat × Nat) (s : Int) => ((lh.1 : Int) * s, ((lh.2 : Int) - 1) * s)) (lo.zip hi) ss
  (parts.foldl (fun a p => a + min p.1 p.2) base, parts.foldl (fun a p => a + max p.1 p.2) base + n)

/-- The declared ranges of one side over a box of indices: its elements, or its rows of whole blocks and their scales. -/
def Tensor.ranges (t : Tensor) (lo hi : List Nat) : List Rng :=
  if t.isBlock then
    let b0 := at0 lo 0 / 32
    let b1 := (at0 hi 0 - 1) / 32
    [spanOf ((t.base + b0 * t.runBytes : Nat) : Int) (lo.drop 1) (hi.drop 1) (t.str.drop 1) ((b1 - b0 + 1) * t.runBytes),
     (((t.scale + t.scaleIndex (lo.drop 1) b0 : Nat) : Int), ((t.scale + t.scaleIndex ((hi.drop 1).map (· - 1)) b1 + 1 : Nat) : Int))]
  else [spanOf t.base lo hi t.str t.esize]

/-- The box of source indices that some destination index reads, if any. -/
def NdCopy.box (n : NdCopy) : Option (List Nat × List Nat) :=
  if n.dst.ext.contains 0 then none
  else
    let b := (List.range 6).map (fun k =>
      match (List.range 6).find? (fun j => n.perm j == k) with
      | some j => ((max 0 (-(n.lo.getD j 0))).toNat, (min (at0 n.src.ext k : Int) ((at0 n.dst.ext j : Int) - n.lo.getD j 0)).toNat)
      | none => (0, 0))
    if b.any (fun e => decide (e.1 ≥ e.2)) then none else some (b.map (·.1), b.map (·.2))

def NdCopy.srcRanges (n : NdCopy) : List Rng :=
  match n.box with
  | some (lo, hi) => n.src.ranges lo hi
  | none => []

def NdCopy.dstRanges (n : NdCopy) : List Rng :=
  if n.dst.ext.contains 0 then [] else n.dst.ranges (List.replicate 6 0) n.dst.ext

/-- Inserts by a key into a list in ascending order of it. -/
def insertBy {α : Type} (key : α → Int) (a : α) : List α → List α
  | [] => [a]
  | b :: bs => if key a ≤ key b then a :: b :: bs else b :: insertBy key a bs

/-- A list in ascending order of a key. -/
def sortBy {α : Type} (key : α → Int) (l : List α) : List α := l.foldr (insertBy key) []

/-- Consecutive entries of an ascending list stand at least n apart. -/
def apart (n : Nat) : List Int → Bool
  | a :: b :: rest => decide (b - a ≥ n) && apart n (b :: rest)
  | _ => true

/-- No two destination elements, or blocks, share a byte (R314). -/
def NdCopy.disjoint (n : NdCopy) : Bool :=
  let t := n.dst
  if t.isBlock then
    let m := ceilDiv (at0 t.ext 0) 32 * t.runBytes
    apart m (sortBy id ((indices (t.ext.drop 1)).map t.rowAddr))
  else apart t.esize (sortBy id ((indices t.ext).map t.elemAddr))

/-- The identity PERM, and the one that exchanges dimensions 0 and 1. -/
def permIdentity : Nat := 0x0002C688
def permSwap : Nat := 0x0002C681

/-- A plain copy (R314). -/
def NdCopy.plain (n : NdCopy) : Bool :=
  n.permWord == permIdentity && n.src.fmt == n.dst.fmt && n.src.slice == n.dst.slice && n.src.square == n.dst.square
    && n.src.ext == n.dst.ext && n.lo.all (· == 0) && n.src.str == n.dst.str && n.disjoint

/-- An in-place square transpose (R316). -/
def NdCopy.inPlace (n : NdCopy) : Bool :=
  n.src.sp == n.dst.sp && n.src.base == n.dst.base && n.src.fmt == n.dst.fmt && !n.dst.isBlock && n.permWord == permSwap
    && at0 n.dst.ext 0 == at0 n.dst.ext 1 && n.src.ext == n.dst.ext && n.lo.all (· == 0) && n.src.str == n.dst.str
    && n.dst.str.getD 0 0 != n.dst.str.getD 1 0

/-- Whether a destination range meets a source range in one space. -/
def NdCopy.meets (n : NdCopy) : Bool := n.src.sp == n.dst.sp && n.dstRanges.any (fun a => n.srcRanges.any a.meets)

/-! ## Checks (R309, R326) -/

/-- The alignment of a base and of strides (R309, R326). -/
def Tensor.align (t : Tensor) : Nat :=
  if t.isBlock then (if Fmt.isMx t.fmt || !t.slice then 4 else if t.fmt ≤ 8 then 1 else 2) else max 1 t.esize

/-- A layout or shape bit set for a format that is no ladder width. -/
def Tensor.badShape (t : Tensor) : Bool := !Fmt.isLadder t.fmt && (t.slice || t.square)

def Tensor.badFormat (t : Tensor) : Bool := !Fmt.legal t.fmt || (Fmt.isLadder t.fmt && t.square && !t.slice)

/-- A stride outside the signed 48-bit range. -/
def strideOut (s : Int) : Bool := decide (s < -(2 ^ 47 : Int)) || decide ((2 ^ 47 : Int) ≤ s)

def Tensor.badStrides (t : Tensor) : Bool :=
  t.str.any strideOut || (t.isBlock && t.str.getD 0 0 != 0) || (if t.isBlock then t.str.drop 1 else t.str).any (fun s => s % t.align != 0)

/-- PERM is a permutation of 0-5, its reserved bits 0. -/
def NdCopy.badPerm (n : NdCopy) : Bool :=
  bits n.permWord 31 18 != 0 || !(List.range 6).all (fun k => (List.range 6).any (fun j => n.perm j == k))

/-- The checks of a cp.nd: the command's own fields, the place of its record, the record's fields, ranges, overlap. -/
def NdCopy.check (n : NdCopy) (x : Nat) : Option Nat :=
  firstStatus
    [(bits x 127 34 != 0 || n.src.badShape || n.dst.badShape || n.src.base % n.src.align != 0 || n.dst.base % n.dst.align != 0, St.BAD_FIELD),
     (n.src.badFormat || n.dst.badFormat, St.BAD_FORMAT),
     (decide (ndRecord x + 192 > sramSize), St.BAD_RANGE),
     (n.badPerm || n.src.badStrides || n.dst.badStrides || decide (n.ssc ≥ 2 ^ 48) || decide (n.dsc ≥ 2 ^ 48), St.BAD_FIELD),
     (fieldOut n.src.sp n.src.base || fieldOut n.dst.sp n.dst.base || n.srcRanges.any (rangeOut n.src.sp)
        || n.dstRanges.any (rangeOut n.dst.sp), St.BAD_RANGE),
     (n.meets && !n.inPlace && !n.plain, St.OVERLAP)]

/-! ## Source blocks -/

/-- A run of 32 elements of a source block as read: raw codes, zero past the extent, scale, bytes' and scale's errors. -/
structure SrcRun where
  raw : List Nat
  scale : Nat
  flags : List Bool
  scaleBad : Bool

/-- The scale a conversion takes: a run with an uncorrectable byte is a poisoned block (R53, R331). -/
def SrcRun.effScale (r : SrcRun) : Nat := if r.flags.any id || r.scaleBad then 0xFF else r.scale

/-- A copy with the source runs it has read, by scale index and row, and the poisoned blocks it has counted. -/
structure NdRun where
  x : CopyRun
  runs : Cells SrcRun := []
  seen : List Nat := []

/-- The number of a source run: the row, then the block. -/
def Tensor.runKey (t : Tensor) (row : List Nat) (b : Nat) : Nat := linear row (t.ext.drop 1) * ceilDiv (at0 t.ext 0) 32 + b

/-- Reads a source run, once in a command: its 32 elements whole and its scale byte (R311). -/
def NdRun.run (y : NdRun) (t : Tensor) (row : List Nat) (b : Nat) : NdRun × Except (Nat × Nat) SrcRun :=
  match Cells.find? y.runs (t.runKey row b) with
  | some r => (y, .ok r)
  | none =>
    let a := (t.rowAddr row + ((b * t.runBytes : Nat) : Int)).toNat
    match y.x.locateAll t.sp .read a t.runBytes with
    | (x, .error e) => ({ y with x := x }, .error e)
    | (x, .ok pls) =>
      match x.locateAll t.sp .read (t.scale + t.scaleIndex row b) 1 with
      | (x, .error e) => ({ y with x := x }, .error e)
      | (x, .ok pls') =>
        let q := x.readParts sSrc pls
        let s := q.1.readParts sSrcScale pls'
        let bs := q.2.map Prod.fst
        let live := min 32 (at0 t.ext 0 - 32 * b)
        let r : SrcRun :=
          { raw := (List.range 32).map (fun i => if i < live then rawElem t.fmt t.slice bs i else 0)
            scale := byteAt (s.2.map Prod.fst) 0, flags := q.2.map Prod.snd, scaleBad := s.2.any Prod.snd }
        ({ y with x := s.1, runs := Cells.put y.runs (t.runKey row b) r }, .ok r)

/-- A source element as read: where it came from, its value, raw code, and whether it is affected. -/
structure SrcElem where
  val : Num
  raw : Nat := 0
  bytes : List (Byte × Bool) := []
  run : Option SrcRun := none
  affected : Bool := false

/-- Reads source element x. -/
def NdRun.elem (y : NdRun) (t : Tensor) (x : List Nat) : NdRun × Except (Nat × Nat) SrcElem :=
  if t.isBlock then
    match y.run t (x.drop 1) (at0 x 0 / 32) with
    | (y, .error e) => (y, .error e)
    | (y, .ok r) =>
      let raw := at0 r.raw (at0 x 0 % 32)
      (y, .ok { val := elemValue t.fmt t.slice r.effScale raw, raw := raw, run := some r, affected := decide (r.effScale = 0xFF) })
  else
    match y.x.locateAll t.sp .read (t.elemAddr x).toNat t.esize with
    | (x, .error e) => ({ y with x := x }, .error e)
    | (x, .ok pls) =>
      let q := x.readParts sSrc pls
      let raw := leNat (q.2.map Prod.fst)
      let bad := q.2.any Prod.snd
      ({ y with x := q.1 }, .ok { val := if bad then .nan else elemValue t.fmt false 0x7F raw, raw := raw, bytes := q.2, affected := bad })

/-! ## Destinations that are not blocks (R307, R312) -/

/-- FILL as a value: an INT32 for integer destinations, else FP32 (R306). -/
def NdCopy.fillValue (n : NdCopy) : Num :=
  if Fmt.isInt n.dst.fmt then Num.of (sext 32 n.fill) 0 else Num.ofFp32 n.fill

/-- The bytes a source element becomes: bits unchanged between equal formats, else one conversion (R312, R331). A poisoned source
block counts once (R54). -/
def NdRun.convert (y : NdRun) (n : NdCopy) (key : Nat) (e : SrcElem) : NdRun × List (Byte × Bool) :=
  if n.src.fmt = n.dst.fmt then (y, e.bytes)
  else
    let r := toElem n.dst.fmt e.val
    let bs := (toLe n.dst.esize r.1).map (fun b => (b, false))
    let poisoned := n.src.isBlock && e.affected
    let cnt : Counts := if poisoned then (if y.seen.contains key then {} else { poison := 1 }) else if e.affected then {} else r.2
    ({ y with x := { y.x with conv := y.x.conv.add cnt }, seen := if poisoned && !y.seen.contains key then key :: y.seen else y.seen }, bs)

/-- Moves elements in the order given, to a destination without blocks (R307, R308). -/
def NdRun.elems (y : NdRun) (n : NdCopy) (filled : Bool) : List (List Nat) → CopyRun × Option CmdFault
  | [] => (y.x, none)
  | i :: rest =>
    let idx := linear i n.dst.ext
    let a := (n.dst.elemAddr i).toNat
    let y := { y with x := { y.x with at' := idx } }
    match n.source i with
    | none =>
      match y.x.locateAll n.dst.sp .write a n.dst.esize with
      | (x, .error e) => (x, some (faultPoint e idx))
      | (x, .ok pls) =>
        let f := toElem n.dst.fmt n.fillValue
        let x := if filled then x else { x with conv := x.conv.add f.2 }
        let x := x.writeParts sDst pls ((toLe n.dst.esize f.1).map (fun b => (b, false)))
        ({ y with x := x }).elems n true rest
    | some s =>
      match y.elem n.src s with
      | (y, .error e) => (y.x, some (faultPoint e idx))
      | (y, .ok e) =>
        match y.x.locateAll n.dst.sp .write a n.dst.esize with
        | (x, .error e) => (x, some (faultPoint e idx))
        | (x, .ok pls) =>
          let r := ({ y with x := x }).convert n (n.src.scaleIndex (s.drop 1) (at0 s 0 / 32)) e
          ({ r.1 with x := r.1.x.writeParts sDst pls r.2 }).elems n filled rest

/-! ## Destination blocks (R308-R311) -/

/-- A destination block: its rows at (x1, ..., x5), and its block number along dimension 0. -/
abbrev DstBlock := List (List Nat) × Nat

/-- The destination blocks in the order of their first elements (R308). -/
def NdCopy.blocks (n : NdCopy) : List DstBlock :=
  let t := n.dst
  let nb := ceilDiv (at0 t.ext 0) 32
  if t.square then
    (indices (t.ext.drop 2)).flatMap (fun q =>
      (List.range (ceilDiv (at0 t.ext 1) 32)).flatMap (fun u =>
        (List.range nb).map (fun b => ((List.range (min 32 (at0 t.ext 1 - 32 * u))).map (fun r => (32 * u + r) :: q), b))))
  else (indices (t.ext.drop 1)).flatMap (fun r => (List.range nb).map (fun b => ([r], b)))

/-- The destination indices of a block, each with its position, 32 to a row. -/
def NdCopy.members (n : NdCopy) (bl : DstBlock) : List (Nat × List Nat) :=
  let w := min 32 (at0 n.dst.ext 0 - 32 * bl.2)
  bl.1.zipIdx.flatMap (fun r => (List.range w).map (fun c => (32 * r.2 + c, (32 * bl.2 + c) :: r.1)))

/-- The first element of a block in element order, as its number. -/
def NdCopy.first (n : NdCopy) (bl : DstBlock) : Nat := linear ((32 * bl.2) :: bl.1.headD []) n.dst.ext

/-- Reads the source elements of a block: position, source index, element; none for pad elements. -/
def NdRun.gather (y : NdRun) (n : NdCopy) :
    List (Nat × List Nat) → NdRun × Except (Nat × Nat) (List (Nat × Option (List Nat × SrcElem)))
  | [] => (y, .ok [])
  | (p, i) :: rest =>
    match n.source i with
    | none =>
      match y.gather n rest with
      | (y, .error e) => (y, .error e)
      | (y, .ok l) => (y, .ok ((p, none) :: l))
    | some s =>
      match y.elem n.src s with
      | (y, .error e) => (y, .error e)
      | (y, .ok e) =>
        match y.gather n rest with
        | (y, .error e) => (y, .error e)
        | (y, .ok l) => (y, .ok ((p, some (s, e)) :: l))

/-- A block as it will be written: raw codes by position, scale, which positions and whether the scale are affected, its counts. -/
structure OutBlock where
  codes : List (Nat × Nat)
  scale : Nat
  hurt : List Nat := []
  scaleHurt : Bool := false
  counts : Counts := {}

/-- The block number of a source index, and its position in the block. -/
def Tensor.blockOf (t : Tensor) (s : List Nat) : Nat := t.scaleIndex (s.drop 1) (at0 s 0 / 32)
def Tensor.posOf (t : Tensor) (s : List Nat) : Nat := (if t.square then at0 s 1 % 32 * 32 else 0) + at0 s 0 % 32

/-- Whether the elements of a block are exactly those of one source block of the same format (R310). -/
def NdCopy.through (n : NdCopy) (l : List (Nat × Option (List Nat × SrcElem))) : Bool :=
  n.src.fmt == n.dst.fmt &&
    (match l.head? with
     | some (_, some (s, _)) =>
       l.all (fun e => match e.2 with | some (u, _) => n.src.blockOf u == n.src.blockOf s | none => false)
         && l.length == n.src.live (s.drop 1) (at0 s 0 / 32)
     | _ => false)

/-- Forms a destination block: passed through, or re-blocked from exact values (R310). -/
def NdCopy.form (n : NdCopy) (l : List (Nat × Option (List Nat × SrcElem))) : OutBlock :=
  if n.through l then
    let el := l.filterMap (fun e => e.2.map (fun q => (e.1, q.1, q.2)))
    let hurt := el.filter (fun e => match e.2.2.run with
      | some r => (elemBytes n.src.fmt n.src.slice (at0 e.2.1 0 % 32)).any (fun k => r.flags.getD k false)
      | none => false)
    { codes := el.map (fun e => (e.1, e.2.2.raw))
      scale := match el.head? with | some (_, _, e) => (match e.run with | some r => r.scale | none => 0) | none => 0
      hurt := hurt.map (·.1)
      scaleHurt := el.any (fun e => match e.2.2.run with | some r => r.scaleBad | none => false) }
  else
    let b := toBlock n.dst.fmt n.dst.slice (l.map (fun e => match e.2 with | some (_, e) => e.val | none => Num.ofFp32 n.fill))
    { codes := (l.map (·.1)).zip b.codes, scale := b.scale, counts := b.counts }

/-- The bytes of row r of a block, each with its poison mark: of a row passed through in place, the marks of the source bytes. -/
def NdCopy.rowBytes (n : NdCopy) (l : List (Nat × Option (List Nat × SrcElem))) (o : OutBlock) (r : Nat) : List (Byte × Bool) :=
  let t := n.dst
  let code := fun p => match o.codes.find? (fun e => e.1 == p) with | some e => e.2 | none => 0
  let bs := packElems t.fmt t.slice ((List.range 32).map (fun i => code (32 * r + i)))
  let row := l.filter (fun e => e.1 / 32 == r)
  let inPlace := n.src.slice == t.slice && row.all (fun e => match e.2 with | some (s, _) => at0 s 0 % 32 == e.1 % 32 | none => false)
  let flags : List Bool :=
    if o.hurt.isEmpty then []
    else if inPlace then
      (match row.head? with | some (_, some (_, e)) => (match e.run with | some q => q.flags | none => []) | _ => [])
    else (List.range bs.length).map (fun k => (List.range 32).any (fun i => o.hurt.contains (32 * r + i) && (elemBytes t.fmt t.slice i).contains k))
  bs.zipIdx.map (fun e => (e.1, flags.getD e.2 false))

/-- Translates the rows of a block for writing. -/
def CopyRun.locateRows (x : CopyRun) (t : Tensor) (b : Nat) : List (List Nat) → CopyRun × Except (Nat × Nat) (List (List (Place × Nat)))
  | [] => (x, .ok [])
  | r :: rs =>
    match x.locateAll t.sp .write (t.rowAddr r + ((b * t.runBytes : Nat) : Int)).toNat t.runBytes with
    | (x, .error e) => (x, .error e)
    | (x, .ok pls) =>
      match x.locateRows t b rs with
      | (x, .error e) => (x, .error e)
      | (x, .ok l) => (x, .ok (pls :: l))

/-- Writes a block whole, its scale last (R308). -/
def NdRun.writeBlock (y : NdRun) (n : NdCopy) (bl : DstBlock) (l : List (Nat × Option (List Nat × SrcElem))) :
    NdRun × Option CmdFault :=
  let t := n.dst
  let idx := n.first bl
  match y.x.locateRows t bl.2 bl.1 with
  | (x, .error e) => ({ y with x := x }, some (faultPoint e idx))
  | (x, .ok rows) =>
    match x.locateAll t.sp .write (t.scale + t.scaleIndex (bl.1.headD []) bl.2) 1 with
    | (x, .error e) => ({ y with x := x }, some (faultPoint e idx))
    | (x, .ok pl) =>
      let o := n.form l
      let x := { x with at' := idx, conv := x.conv.add o.counts }
      let x := rows.zipIdx.foldl (fun x e => x.writeParts sDst e.1 (n.rowBytes l o e.2)) x
      ({ y with x := x.writeParts sDstScale pl [(BitVec.ofNat 8 o.scale, o.scaleHurt)] }, none)

/-- Moves destination blocks in the order given; `ahead` holds blocks whose sources were all read before (R315). -/
def NdRun.blocks (y : NdRun) (n : NdCopy) : List DstBlock → CopyRun × Option CmdFault
  | [] => (y.x, none)
  | bl :: rest =>
    let y := { y with x := { y.x with at' := n.first bl } }
    match y.gather n (n.members bl) with
    | (y, .error e) => (y.x, some (faultPoint e (n.first bl)))
    | (y, .ok l) =>
      match y.writeBlock n bl l with
      | (y, some f) => (y.x, some f)
      | (y, none) => y.blocks n rest

/-- Reads the sources of blocks ahead of any write, as far as no access fails. -/
def NdRun.readAhead (y : NdRun) (n : NdCopy) : List DstBlock → NdRun
  | [] => y
  | bl :: rest =>
    match y.gather n (n.members bl) with
    | (y, .error _) => y
    | (y, .ok _) => y.readAhead n rest

/-! ## In-place transposes (R316) -/

/-- The values lo to hi - 1. -/
def between (lo hi : Nat) : List Nat := (List.range (hi - lo)).map (· + lo)

/-- A cell of a plane: dimensions 0 and 1, then the rest. -/
def cell (i0 i1 : Nat) (rest : List Nat) : List Nat := i0 :: i1 :: rest

/-- Checks R and W of every cell; no byte moves. -/
def CopyRun.probe (x : CopyRun) (t : Tensor) : List (List Nat) → CopyRun × Option (Nat × Nat)
  | [] => (x, none)
  | i :: rest =>
    let a := (t.elemAddr i).toNat
    match x.locate t.sp .read a with
    | (x, .error e) => (x, some e)
    | (x, .ok _) =>
      match x.locate t.sp .write a with
      | (x, .error e) => (x, some e)
      | (x, .ok _) => x.probe t rest

/-- Reads cells that have been checked. -/
def CopyRun.readCells (x : CopyRun) (t : Tensor) : List (List Nat) → CopyRun × List (List (Byte × Bool))
  | [] => (x, [])
  | i :: rest =>
    match x.locate t.sp .read (t.elemAddr i).toNat with
    | (x, .error _) => let q := x.readCells t rest; (q.1, [] :: q.2)
    | (x, .ok pl) =>
      let r := x.readPlace sSrc pl t.esize
      let q := r.1.readCells t rest
      (q.1, r.2 :: q.2)

/-- Writes cells that have been checked. -/
def CopyRun.writeCells (x : CopyRun) (t : Tensor) : List (List Nat × List (Byte × Bool)) → CopyRun
  | [] => x
  | (i, bs) :: rest =>
    match x.locate t.sp .write (t.elemAddr i).toNat with
    | (x, .error _) => x.writeCells t rest
    | (x, .ok pl) => (x.writePlace sDst pl bs).writeCells t rest

/-- Exchanges tile (u, v) of a plane with tile (v, u), each transposed. -/
def CopyRun.swapPair (x : CopyRun) (t : Tensor) (rest : List Nat) (u v : Nat) : CopyRun × Option CmdFault :=
  let n := at0 t.ext 0
  let us := between (64 * u) (min n (64 * u + 64))
  let vs := between (64 * v) (min n (64 * v + 64))
  let tile := fun (rows cols : List Nat) => rows.flatMap (fun r => cols.map (fun c => cell c r rest))
  let cells := tile us vs ++ (if u = v then [] else tile vs us)
  let idx := linear (cell (64 * v) (64 * u) rest) t.ext
  let x := { x with at' := idx }
  match x.probe t cells with
  | (x, some e) => (x, some (faultPoint e idx))
  | (x, none) =>
    let q := x.readCells t cells
    let old := cells.zip q.2
    let turned := fun (i : List Nat) => match i with | a :: b :: r => b :: a :: r | i => i
    let out := cells.map (fun i => (i, match old.find? (fun e => e.1 == turned i) with | some e => e.2 | none => []))
    (q.1.writeCells t out, none)

/-- Exchanges tile pairs in order. -/
def CopyRun.swapPairs (x : CopyRun) (t : Tensor) : List (List Nat × Nat × Nat) → CopyRun × Option CmdFault
  | [] => (x, none)
  | (rest, u, v) :: more =>
    match x.swapPair t rest u v with
    | (x, some f) => (x, some f)
    | (x, none) => x.swapPairs t more

/-- The tile pairs, ascending in (i5, ..., i2, u, v). -/
def Tensor.pairs (t : Tensor) : List (List Nat × Nat × Nat) :=
  let k := ceilDiv (at0 t.ext 0) 64
  (indices (t.ext.drop 2)).flatMap (fun r => (List.range k).flatMap (fun u => (between u k).map (fun v => (r, u, v))))

/-! ## cp.nd -/

/-- Runs a cp.nd that has passed its checks (R307-R316). -/
def NdCopy.move (n : NdCopy) (x : CopyRun) : CopyRun × Option CmdFault :=
  let down := decide (n.dst.base > n.src.base)
  let turn := n.meets && n.plain
  if n.inPlace then x.swapPairs n.dst n.dst.pairs
  else if n.dst.isBlock then
    let key := fun (bl : DstBlock) => n.dst.rowAddr (bl.1.headD []) + ((bl.2 * n.dst.runBytes : Nat) : Int)
    let bls := if turn then (let s := sortBy key n.blocks; if down then s.reverse else s) else n.blocks
    let y : NdRun := { x := x }
    (if turn then y.readAhead n bls else y).blocks n bls
  else
    let is := if turn then (let s := sortBy n.dst.elemAddr (indices n.dst.ext); if down then s.reverse else s) else indices n.dst.ext
    NdRun.elems { x := x } n false is

/-- The shape record's bytes. -/
def Device.ndBytes (d : Device) (c x : Nat) : List Byte := (d.core c).sramBytes (ndRecord x) 192

/-- An engine reads a record of its local SRAM; an uncorrectable word in it ends the command. -/
def CopyRun.readRecord (x : CopyRun) (off n : Nat) (f : CopyRun → CopyRun × Option CmdFault) : CopyRun × Option CmdFault :=
  let r := x.d.sramRead x.c off n
  let x := { x with d := r.1 }
  match r.2.2 with
  | some b => (x, some { status := St.UNCORRECTABLE, akind := 1, addr := b })
  | none => f x

/-- The checks of cp.nd, on its command and the shape record in local SRAM (R326). -/
def Device.ndCheck (d : Device) (c x : Nat) : Option Nat := (NdCopy.of x (d.ndBytes c x)).check x

/-- The run of a cp.nd that has passed its checks. -/
def ndRun (run : CopyRun) (x : Nat) : CopyRun × Option CmdFault :=
  run.readRecord (ndRecord x) 192 (NdCopy.of x (run.d.ndBytes run.c x)).move

def Device.cpNd (d : Device) (c m : Nat) : Device :=
  d.copyCommand c m (fun e => e.opc == 0x02) (fun d x => d.ndCheck c x) ndRun

/-! ## Gather and scatter (R319-R324) -/

/-- A gather or scatter with its record. -/
structure RowCopy where
  src : Nat
  dst : Nat
  idx : Nat
  efmt : Nat
  wide : Bool
  wrap : Bool
  mode : Nat
  isp : Bool
  ssp : Bool
  dsp : Bool
  count : Nat
  rows : Nat
  rowb : Nat
  fill : Nat
  sstr : Int
  dstr : Int

def rowRecord (x : Nat) : Nat := bits x 111 94 * 32

def RowCopy.of (x : Nat) (bs : List Byte) : RowCopy :=
  let w := fun o n => leNat ((bs.drop o).take n)
  { src := bits x 255 208, dst := bits x 207 160, idx := bits x 159 112, efmt := bits x 93 89, wide := bit x 88, wrap := bit x 87
    mode := bits x 86 85, isp := bit x 34, ssp := bit x 33, dsp := bit x 32
    count := w 0 4, rows := w 4 4, rowb := w 8 4, fill := w 12 4, sstr := sext 64 (w 16 8), dstr := sext 64 (w 24 8) }

/-- Bytes of an element and of an index; the alignment of the destination: FP32 rows for a scatter-add (R322). -/
def RowCopy.esize (r : RowCopy) : Nat := max 1 (if Fmt.isBlock r.efmt then 1 else elemSize r.efmt)
def RowCopy.iw (r : RowCopy) : Nat := if r.wide then 8 else 4
def RowCopy.add (r : RowCopy) (scatter : Bool) : Bool := scatter && r.mode == 1
def RowCopy.dalign (r : RowCopy) (scatter : Bool) : Nat := if r.add scatter then 4 else r.esize
def RowCopy.dlen (r : RowCopy) (scatter : Bool) : Nat := if r.add scatter then r.rowb / r.esize * 4 else r.rowb

/-- The range of k rows of n bytes at a stride. -/
def rowsRange (base k : Nat) (step : Int) (n : Nat) : List Rng :=
  if k = 0 ∨ n = 0 then [] else [spanOf base [0] [k] [step] n]

/-- Source, destination and index ranges (R313). -/
def RowCopy.ranges (r : RowCopy) (scatter : Bool) : List Rng × List Rng × List Rng :=
  if r.count = 0 then ([], [], [])
  else
    (rowsRange r.src (if scatter then r.count else r.rows) r.sstr r.rowb,
     rowsRange r.dst (if scatter then r.rows else r.count) r.dstr (r.dlen scatter),
     rowsRange r.idx r.count r.iw r.iw)

/-- The checks of a gather or scatter (R326). -/
def RowCopy.check (r : RowCopy) (x : Nat) (scatter : Bool) : Option Nat :=
  let g := r.ranges scatter
  firstStatus
    [(bits x 84 35 != 0 || decide (r.mode > (if scatter then 1 else 0)) || r.src % r.esize != 0 || r.dst % r.dalign scatter != 0
        || r.idx % r.iw != 0, St.BAD_FIELD),
     (!isReg r.efmt || (r.add scatter && !Fmt.isFloat r.efmt), St.BAD_FORMAT),
     (decide (rowRecord x + 32 > sramSize), St.BAD_RANGE),
     (r.rowb == 0 || r.rowb % r.esize != 0 || strideOut r.sstr || strideOut r.dstr || r.sstr % r.esize != 0
        || r.dstr % r.dalign scatter != 0 || (!scatter && decide (r.fill ≥ 2 ^ (8 * r.esize))), St.BAD_FIELD),
     (fieldOut r.ssp r.src || fieldOut r.dsp r.dst || fieldOut r.isp r.idx || g.1.any (rangeOut r.ssp) || g.2.1.any (rangeOut r.dsp)
        || g.2.2.any (rangeOut r.isp), St.BAD_RANGE),
     ((r.ssp == r.dsp && g.2.1.any (fun a => g.1.any a.meets)) || (r.isp == r.dsp && g.2.1.any (fun a => g.2.2.any a.meets)), St.OVERLAP)]

/-- Reads index j: its row, where it is in bounds; an index that reads uncorrectable is out of bounds (R320, R331). -/
def CopyRun.index (x : CopyRun) (r : RowCopy) (j : Nat) : CopyRun × Except (Nat × Nat) (Option Nat) :=
  match x.locateAll r.isp .read (r.idx + j * r.iw) r.iw with
  | (x, .error e) => (x, .error e)
  | (x, .ok pls) =>
    let q := x.readParts sIdx pls
    let v := sext (8 * r.iw) (leNat (q.2.map Prod.fst))
    let i := if r.wrap ∧ v < 0 then v + r.rows else v
    (q.1, .ok (if q.2.any Prod.snd then none else if 0 ≤ i ∧ i < r.rows then some i.toNat else none))

/-- Writes FILL over a row, part by part (R321). -/
def CopyRun.fillRow (x : CopyRun) (r : RowCopy) (base : Nat) : List (Nat × Nat) → CopyRun × Option (Nat × Nat)
  | [] => (x, none)
  | (a, n) :: rest =>
    match x.locate r.dsp .write a with
    | (x, .error e) => (x, some e)
    | (x, .ok pl) =>
      let bs := (List.range n).map (fun k => (BitVec.ofNat 8 (r.fill / 256 ^ ((a - base + k) % r.esize)), false))
      (x.writePlace sDst pl bs).fillRow r base rest

/-- Reads source elements of a scatter-add, each with whether it is affected by an uncorrectable error, up to the first that faults. -/
def CopyRun.addSource (x : CopyRun) (r : RowCopy) (a : Nat) : Nat → CopyRun × List (Num × Bool) × Option (Nat × Nat)
  | 0 => (x, [], none)
  | n + 1 =>
    match x.locate r.ssp .read a with
    | (x, .error f) => (x, [], some f)
    | (x, .ok pl) =>
      let s := x.readPlace sSrc pl r.esize
      let q := s.1.addSource r (a + r.esize) n
      (q.1, (elemValue r.efmt false 0x7F (leNat (s.2.map Prod.fst)), s.2.any Prod.snd) :: q.2.1, q.2.2)

/-- One sum of a scatter-add (R322, R331): its bits, and whether it counts in CP_ADD_EXC. -/
def addElement (u : Num × Bool) (d : List (Byte × Bool)) : Nat × Bool :=
  let v := Num.ofFp32 (leNat (d.map Prod.fst))
  if u.2 || d.any Prod.snd then (fp32.nanBits, true)
  else
    let sum := farith fp32 [v, u.1] (v.add u.1)
    (sum.1, decide (sum.2.nanGen + sum.2.ovf > 0))

/-- The sums of source elements and the FP32 elements that some bytes hold. -/
def addElements : List (Num × Bool) → List (Byte × Bool) → List (Nat × Bool)
  | [], _ => []
  | u :: us, bs => addElement u (bs.take 4) :: addElements us (bs.drop 4)

/-- Adds source elements into the FP32 elements at an address, inside one 64-bit word: one read and one write of the destination. -/
def CopyRun.addWord (x : CopyRun) (r : RowCopy) (src dst n : Nat) : CopyRun × Option (Nat × Nat) :=
  match x.addSource r src n with
  | (x, [], f) => (x, f)
  | (x, us, f) =>
    match x.locate r.dsp .read dst with
    | (x, .error g) => (x, some g)
    | (x, .ok pr) =>
      match x.locate r.dsp .write dst with
      | (x, .error g) => (x, some g)
      | (x, .ok pw) =>
        let q := x.readPlace sIdx pr (4 * us.length)
        let sums := addElements us q.2
        let x := { q.1 with addExc := q.1.addExc + (sums.filter Prod.snd).length }
        (x.writePlace sDst pw (sums.flatMap (fun (e : Nat × Bool) => (toLe 4 e.1).map (fun b => (b, false)))), f)

/-- Adds the elements of a source row into an FP32 row, in order (R322), by the 64-bit words of the row (R253). -/
def CopyRun.addRow (x : CopyRun) (r : RowCopy) (src dst : Nat) : List (Nat × Nat) → CopyRun × Option (Nat × Nat)
  | [] => (x, none)
  | (a, n) :: rest =>
    match x.addWord r (src + (a - dst) / 4 * r.esize) a (n / 4) with
    | (x, some f) => (x, some f)
    | (x, none) => x.addRow r src dst rest

/-- Moves the row of index j, to or from row i (R321, R322). -/
def CopyRun.row (x : CopyRun) (r : RowCopy) (scatter : Bool) (j : Nat) (i : Option Nat) : CopyRun × Option (Nat × Nat) :=
  let place := fun (base k : Nat) (s : Int) => ((base : Int) + (k : Int) * s).toNat
  match scatter, i with
  | false, some i =>
    let s := place r.src i r.sstr
    let t := place r.dst j r.dstr
    let m := x.moveBytes r.ssp r.dsp s t false (linPieces r.ssp r.dsp s t r.rowb 0 r.rowb)
    (m.1, m.2.map (fun f => (f.1, f.2.1)))
  | false, none =>
    let t := place r.dst j r.dstr
    let f := x.fillRow r t (parts r.dsp t r.rowb)
    (if f.2.isNone then { f.1 with oobRead := f.1.oobRead + 1 } else f.1, f.2)
  | true, none => ({ x with oobDrop := x.oobDrop + 1 }, none)
  | true, some i =>
    let s := place r.src j r.sstr
    let t := place r.dst i r.dstr
    if r.mode = 1 then x.addRow r s t (pieces 8 t (r.rowb / r.esize * 4))
    else
      let m := x.moveBytes r.ssp r.dsp s t false (linPieces r.ssp r.dsp s t r.rowb 0 r.rowb)
      (m.1, m.2.map (fun f => (f.1, f.2.1)))

/-- The rows of a gather or scatter, in index order (R324). -/
def CopyRun.rowsOf (x : CopyRun) (r : RowCopy) (scatter : Bool) : List Nat → CopyRun × Option CmdFault
  | [] => (x, none)
  | j :: rest =>
    let x := { x with at' := j, streams := x.streams.filter (fun e => e.1 == sIdx) }
    match x.index r j with
    | (x, .error e) => (x, some (faultPoint e j))
    | (x, .ok i) =>
      match x.row r scatter j i with
      | (x, some e) => (x, some (faultPoint e j))
      | (x, none) => x.rowsOf r scatter rest

/-- The row copy that a command and its record in local SRAM describe. -/
def Device.rowCopy (d : Device) (c x : Nat) : RowCopy := RowCopy.of x ((d.core c).sramBytes (rowRecord x) 32)

/-- The run of a gather or scatter that has passed its checks. -/
def rowRun (scatter : Bool) (run : CopyRun) (x : Nat) : CopyRun × Option CmdFault :=
  let r := run.d.rowCopy run.c x
  if r.count = 0 then (run, none)
  else run.readRecord (rowRecord x) 32 (fun run => run.rowsOf r scatter (List.range r.count))

/-- A gather or scatter of engine m of core c, of the opcode and the modes given. -/
def Device.rowCommand (d : Device) (c m opc : Nat) (scatter : Bool) (modes : Nat → Bool) : Device :=
  d.copyCommand c m (fun e => e.opc == opc && modes (bits e.c 86 85)) (fun d x => (d.rowCopy c x).check x scatter) (rowRun scatter)

def Device.cpGather (d : Device) (c m : Nat) : Device := d.rowCommand c m 0x03 false (fun _ => true)

/-- cp.scatter with MODE WRITE, and with the reserved modes, which its checks refuse. -/
def Device.cpScatterWrite (d : Device) (c m : Nat) : Device := d.rowCommand c m 0x04 true (· != 1)

/-- cp.scatter with MODE ADD. -/
def Device.cpScatterAdd (d : Device) (c m : Nat) : Device := d.rowCommand c m 0x04 true (· == 1)

end Machine
end Sys2Proof
end

