-- ==== Sys2Proof/Machine/CopyCommands.lean ====
section
/-!
DEFINITION. The meanings of the rows of the copy engines, their requests and the memory controllers (R278-R332).
-/
namespace Sys2Proof
namespace Machine

/-- CP_RELEASE (R279): Writes back the dirty bytes of every cached line in the range. -/
def execCpRelease (core : CoreId) (engine : Fin 2) (s : State) : Result :=
  s.onDev (fun d => d.cacheCommand core engine 0x30 false)

/-- CP_ACQUIRE (R279): Writes back and then invalidates every cached line in the range. -/
def execCpAcquire (core : CoreId) (engine : Fin 2) (s : State) : Result :=
  s.onDev (fun d => d.cacheCommand core engine 0x31 true)

/-- REQUEST_RESPONSE (R294): A memory response returns and frees its outstanding request slot. -/
def execRequestResponse (core : CoreId) (slot : Nat) (s : State) : Result :=
  s.onDev (fun d => d.requestResponse core slot)

/-- REQUEST_WITHDRAWAL_CONFIRM (R298): A controller confirms a withdrawn request, and its slot is freed. -/
def execRequestWithdrawalConfirm (core : CoreId) (slot : Nat) (s : State) : Result :=
  s.onDev (fun d => d.withdrawalConfirm core slot)

/-- PATROL_SCRUB (R289): A controller reads and corrects codewords on its own account. -/
def execPatrolScrub (codeword : Nat) (s : State) : Result :=
  s.onDev (fun d => d.patrol codeword)

/-- CP_LIN (R304): Linear byte copy. -/
def execCpLin (core : CoreId) (engine : Fin 2) (s : State) : Result :=
  s.onDev (fun d => d.cpLin core engine)

/-- CP_ND (R307): Tensor copy with stride, slice, pad, permutation and conversion. -/
def execCpNd (core : CoreId) (engine : Fin 2) (s : State) : Result :=
  s.onDev (fun d => d.cpNd core engine)

/-- CP_GATHER (R321): Copies rows selected by an index tensor. -/
def execCpGather (core : CoreId) (engine : Fin 2) (s : State) : Result :=
  s.onDev (fun d => d.cpGather core engine)

/-- CP_SCATTER_WRITE (R321): Writes rows to places given by an index tensor. -/
def execCpScatterWrite (core : CoreId) (engine : Fin 2) (s : State) : Result :=
  s.onDev (fun d => d.cpScatterWrite core engine)

/-- CP_SCATTER_ADD (R322): Adds rows into FP32 rows given by an index tensor, in index order. -/
def execCpScatterAdd (core : CoreId) (engine : Fin 2) (s : State) : Result :=
  s.onDev (fun d => d.cpScatterAdd core engine)

/-- CP_TABLE (R325): Loads a function table image into a slot of this core. -/
def execCpTable (core : CoreId) (engine : Fin 2) (s : State) : Result :=
  s.onDev (fun d => d.cpTable core engine)

/-- TABLE_LOAD_START (R174): A held table load begins writing once its slot's unpublished half is free. -/
def execTableLoadStart (core : CoreId) (engine : Fin 2) (s : State) : Result :=
  s.onDev (fun d => d.tableLoadStart core engine)

/-- TABLE_PUBLISH (R173): The load checker publishes the new half, or refuses the load, after the last record. -/
def execTablePublish (core : CoreId) (slot : Fin 16) (s : State) : Result :=
  s.onDev (fun d => d.tablePublish core slot)

end Machine
end Sys2Proof
end

