-- ==== Sys2Proof/Machine/UpdateMath.lean ====
section
/-!
DEFINITION. The arithmetic of the parameter update (R445-R451): the coefficient row, the quantities of a descriptor, and the update of
one element, line by line.
-/
namespace Sys2Proof
namespace Machine

/-! ## The coefficient row (R450, R451) -/

/-- A coefficient row: its 128 bytes. -/
abbrev CoefRow := List Byte

def CoefRow.flags (r : CoefRow) : Nat := leAt r 0 4
def CoefRow.word (r : CoefRow) (i : Nat) : Nat := leAt r (4 * i) 4
def CoefRow.f (r : CoefRow) (i : Nat) : Num := Num.ofFp32 (r.word i)

def CoefRow.valid (r : CoefRow) : Bool := bit r.flags 0
def CoefRow.frozen (r : CoefRow) : Bool := bit r.flags 1
def CoefRow.mean (r : CoefRow) : Bool := bit r.flags 2
def CoefRow.bca (r : CoefRow) : Bool := bit r.flags 3
def CoefRow.bcb (r : CoefRow) : Bool := bit r.flags 4
def CoefRow.phi (r : CoefRow) : Nat := bits r.flags 7 5
def CoefRow.stateA (r : CoefRow) : Bool := bit r.flags 8
def CoefRow.stateB (r : CoefRow) : Bool := bit r.flags 9
def CoefRow.guard (r : CoefRow) : Bool := bit r.flags 10
def CoefRow.sparse (r : CoefRow) : Bool := bit r.flags 11
def CoefRow.rowStep (r : CoefRow) : Bool := bit r.flags 12
def CoefRow.sfmtA (r : CoefRow) : Nat := if bit r.flags 13 then Fmt.BF16 else Fmt.FP32
def CoefRow.sfmtB (r : CoefRow) : Nat := if bit r.flags 14 then Fmt.BF16 else Fmt.FP32
def CoefRow.ofmt (r : CoefRow) : Nat := bits r.flags 16 15
def CoefRow.clipEn (r : CoefRow) : Bool := bit r.flags 17

/-- The coefficients by their place in the row. -/
def CoefRow.eta (r : CoefRow) : Num := r.f 1
def CoefRow.tr (r : CoefRow) : Num := r.f 2
def CoefRow.lambda (r : CoefRow) : Num := r.f 3
def CoefRow.l2 (r : CoefRow) : Num := r.f 4
def CoefRow.gscale (r : CoefRow) : Num := r.f 5
def CoefRow.clip (r : CoefRow) : Num := r.f 6
def CoefRow.eps (r : CoefRow) : Num := r.f 7
def CoefRow.aA (r : CoefRow) : Num := r.f 8
def CoefRow.aG (r : CoefRow) : Num := r.f 9
def CoefRow.aG2 (r : CoefRow) : Num := r.f 10
def CoefRow.bB (r : CoefRow) : Num := r.f 11
def CoefRow.bG (r : CoefRow) : Num := r.f 12
def CoefRow.bG2 (r : CoefRow) : Num := r.f 13
def CoefRow.pA (r : CoefRow) : Num := r.f 14
def CoefRow.qA (r : CoefRow) : Num := r.f 15
def CoefRow.rA (r : CoefRow) : Num := r.f 16
def CoefRow.pB (r : CoefRow) : Num := r.f 17
def CoefRow.sB (r : CoefRow) : Num := r.f 18
def CoefRow.qB (r : CoefRow) : Num := r.f 19
def CoefRow.betaA (r : CoefRow) : Num := r.f 20
def CoefRow.betaB (r : CoefRow) : Num := r.f 21

/-- A β outside [0, 1). -/
def betaBad (b : Num) : Bool := !b.finite || b.lt (.zero false) || !b.lt (.ofNat 1)

/-- The row fails R451. -/
def CoefRow.bad (r : CoefRow) : Bool :=
  !r.valid || bits r.flags 31 18 != 0 || (r.drop 88).any (fun b => b != 0#8) || decide (r.phi > 4)
    || (List.range 19).any (fun i => !(r.f (i + 1)).finite)
    || (r.bca && betaBad r.betaA) || (r.bcb && betaBad r.betaB)
    || (!r.stateA && [r.aA, r.aG, r.aG2, r.pA].any (fun c => !c.isZero))
    || (!r.stateB && [r.bB, r.bG, r.bG2, r.pB, r.sB].any (fun c => !c.isZero))
    || (r.clipEn && !(Num.zero false).lt r.clip) || (r.rowStep && !r.sparse)

/-- Bytes of an element of OUT; 0 for OFMT none. -/
def CoefRow.outSize (r : CoefRow) : Nat := if r.ofmt = 0 then 0 else if r.ofmt = 1 then 4 else 2

/-- The format code of OUT. -/
def CoefRow.outFmt (r : CoefRow) : Nat := if r.ofmt = 1 then Fmt.FP32 else if r.ofmt = 2 then Fmt.BF16 else Fmt.FP16

/-! ## The quantities of a descriptor (R445) -/

/-- x^n, exactly. -/
def Num.pow (x : Num) (n : Nat) : Num :=
  match x with
  | .fin m e => .fin (m ^ n) (e * n)
  | .zero s => if n = 0 then .ofNat 1 else .zero s
  | x => x

/-- The bias correction 1 / (1 − β^t1), rounded once; 1 where it is off. -/
def biasCorr (on : Bool) (beta : Num) (t1 : Nat) : Num :=
  if on then ((Num.ofNat 1).div ((Num.ofNat 1).sub (beta.pow t1))).rnd else .ofNat 1

/-- gsc for a contributor count k, from NORM as a pattern; `clip` says whether clipping takes part. -/
def CoefRow.gsc (r : CoefRow) (clip : Bool) (norm k : Nat) : Num :=
  let n := Num.ofFp32 norm
  let on := clip && r.clipEn && r.clip.lt n
  let num := if on then r.gscale.mul r.clip else r.gscale
  let den := if on then n else .ofNat 1
  if r.mean then
    (if k = 0 then Num.ofFp32 (Config.gscNoCount (r.word 5) (r.word 6) norm % 0x100000000) else (num.div (den.mul (.ofNat k))).rnd)
  else (num.div den).rnd

/-- ee = ETA × TR, rounded once. -/
def CoefRow.ee (r : CoefRow) : Num := (r.eta.mul r.tr).rnd

/-! ## One element (R446, R447) -/

/-- One pair of lin: c × x joins the sum unless c is 0. -/
def linStep (u : Option Num) (c x : Num) : Option Num :=
  if c.isZero then u
  else match u with
    | none => some (c.mul x).rnd
    | some u => some ((c.mul x).add u).rnd

/-- lin(c0, c1, x1, c2, x2, …) of R446. -/
def lin (c0 : Num) (ps : List (Num × Num)) : Num :=
  (ps.foldl (fun u p => linStep u p.1 p.2) (if c0.isZero then none else some c0)).getD (.zero false)

/-- SQRT, RSQRT and RECIP with FP32 output (R161-R164), by the version of the engine's store. -/
def updFn (ver fn : Nat) (x : Num) : Num := Num.ofFp32 (builtin ver fn Fmt.FP32 x.toFp32).1

/-- sign of R447. -/
def updSign (y : Num) : Num :=
  if y.isNan then .nan else if y.isZero then .zero false else if y.sign then Num.of (-1) 0 else .ofNat 1

/-- The factor φ of the B-term TB. -/
def CoefRow.phiOf (r : CoefRow) (ver : Nat) (tb : Num) : Num :=
  if r.phi = 1 then updFn ver Fn.RSQRT (tb.add r.eps).rnd
  else if r.phi = 2 then updFn ver Fn.RECIP (tb.add r.eps).rnd
  else if r.phi = 3 then updSign tb
  else updFn ver Fn.RECIP ((updFn ver Fn.SQRT tb).add r.eps).rnd

/-- u, or u × c rounded where c is not 1. -/
def corrected (c u : Num) : Num := if c.eq (.ofNat 1) then u else (u.mul c).rnd

/-- The inputs of an element: gradient, weight, states. -/
structure UpdIn where
  x : Num
  w : Num
  a : Num := .zero false
  b : Num := .zero false
  deriving DecidableEq, Repr

/-- What the update of an element gives: w1, A1, B1. -/
structure UpdOut where
  w1 : Num
  a1 : Num
  b1 : Num
  deriving DecidableEq, Repr

/-- The sequence of R447. -/
def CoefRow.element (r : CoefRow) (ver : Nat) (gsc cA cB : Num) (i : UpdIn) : UpdOut :=
  let g := if r.l2.isZero then (i.x.mul gsc).rnd else ((i.x.mul gsc).add (r.l2.mul i.w).rnd).rnd
  let g2 := (g.mul g).rnd
  let a1 := if r.stateA then lin (.zero false) [(r.aG2, g2), (r.aG, g), (r.aA, i.a)] else i.a
  let b1 := if r.stateB then lin (.zero false) [(r.bG2, g2), (r.bG, g), (r.bB, i.b)] else i.b
  let ta := corrected cA (lin r.rA [(r.qA, g), (r.pA, a1)])
  let dd :=
    if r.phi = 0 then ta
    else
      let tb := corrected cB (lin (.zero false) [(r.qB, g), (r.sB, i.b), (r.pB, b1)])
      (ta.mul (r.phiOf ver tb)).rnd
  let v := if r.lambda.isZero then dd else ((r.lambda.mul i.w).add dd).rnd
  { w1 := ((r.ee.neg.mul v).add i.w).rnd, a1 := a1, b1 := b1 }

/-- An element that GUARD holds back: w1, A1 or B1 is not finite (R448). -/
def CoefRow.heldBack (r : CoefRow) (o : UpdOut) : Bool :=
  !o.w1.finite || (r.stateA && !o.a1.finite) || (r.stateB && !o.b1.finite)

/-! ## Sums of the norm pass (R466) -/

/-- The sum of one aligned block by the tree of R147; none where no element of it takes part. -/
def squareSum (xs : List (Option Num)) : Option Num := ((treeLevels addFp32 9 xs).1.head?).join

/-- Block values added in ascending order, from +0. -/
def normSum (xs : List (Option Num)) : Nat :=
  ((chunks 512 (ceilDiv xs.length 512) xs).foldl (fun (u : Num) b =>
    match squareSum b with
    | some v => (u.add v).rnd
    | none => u) (Num.zero false)).toFp32

end Machine
end Sys2Proof
end

