-- ==== Sys2Proof/Machine/Update.lean ====
section
/-!
DEFINITION. The update sequencer and the cistern update engines (R452-R467): queues, checks, resolved records, element work, norm passes,
completion, and how a sluice and a stroke start meet them.
-/
namespace Sys2Proof
namespace Machine

/-! ## The fields of a descriptor (R457) -/

def uGroup (b : List Byte) : Nat := leAt b 0 2
def uLoc (b : List Byte) : Nat := leAt b 2 1
def uFlags (b : List Byte) : Nat := leAt b 3 1
def uAdvance (b : List Byte) : Bool := bit (uFlags b) 0
def uSignal (b : List Byte) : Bool := bit (uFlags b) 1
def uNorm (b : List Byte) : Bool := bit (uFlags b) 2
def uGfmt (b : List Byte) : Nat := leAt b 4 1
def uElems (b : List Byte) : Nat := leAt b 8 4
def uRowLen (b : List Byte) : Nat := leAt b 12 4
def uRows (b : List Byte) : Nat := leAt b 16 4
def uGoff (b : List Byte) : Nat := leAt b 20 4
def uExpect (b : List Byte) : Nat := leAt b 24 4
def uKcount (b : List Byte) : Nat := leAt b 28 4
def uNormVal (b : List Byte) : Nat := leAt b 32 4
def uW (b : List Byte) : Nat := leAt b 40 8
def uA (b : List Byte) : Nat := leAt b 48 8
def uB (b : List Byte) : Nat := leAt b 56 8
def uG (b : List Byte) : Nat := leAt b 64 8
def uIdx (b : List Byte) : Nat := leAt b 72 8
def uRh (b : List Byte) : Nat := leAt b 80 8
def uOut (b : List Byte) : Nat := leAt b 88 8
def uHdr (b : List Byte) : Nat := leAt b 96 8
def uComp (b : List Byte) : Nat := leAt b 104 8
def uRrec (b : List Byte) : Nat := leAt b 112 8
def uCore (b : List Byte) : Nat := leAt b 120 1
def uSem (b : List Byte) : Nat := leAt b 121 1
def uVector (b : List Byte) : Bool := uLoc b == 0

/-- L8 of R44. -/
def gfmtL8 : Nat := 0x08

/-- Bytes of a gradient element. -/
def gradSize (b : List Byte) : Nat := if uGfmt b = Fmt.FP32 then 4 else if uGfmt b = Fmt.BF16 then 2 else 1

def stateSize (fmt : Nat) : Nat := if fmt = Fmt.BF16 then 2 else 4

/-- Whether k comes from KCOUNT (R445, R457). -/
def kFromCount (r : CoefRow) (b : List Byte) : Bool := r.sparse || uHdr b == 0

/-- Units of a resolved record (R464). -/
def unitCount (r : CoefRow) (b : List Byte) : Nat := if r.sparse then uElems b else ceilDiv (uElems b) 512

/-- Elements of the tables W, A, B and OUT, and of the gradient. -/
def tableElems (r : CoefRow) (b : List Byte) : Nat := if r.sparse then uRowLen b * uRows b else uElems b
def gradElems (r : CoefRow) (b : List Byte) : Nat := if r.sparse then uRowLen b * uElems b else uElems b

/-! ## The group record (R453) -/

def Device.grecAt (d : Device) (p g : Nat) : Nat := d.redTable (Reg.UPD_GREC_LO p) + 32 * g

/-- STEP, OSTROKE, OPEN and TORN of a group record. -/
def gStep (b : List Byte) : Nat := leAt b 0 4
def gOstroke (b : List Byte) : Nat := leAt b 4 4
def gOpen (b : List Byte) : Bool := bit (leAt b 8 1) 0
def gTorn (b : List Byte) : Bool := bit (leAt b 8 1) 1

/-- Writes bytes of a group record. -/
def Device.putGrec (d : Device) (p g off : Nat) (bs : List Byte) : Device := (d.writeVa p (d.grecAt p g + off) bs).1

/-- The record of a group, with the status of its reading. -/
def Device.readGrec (d : Device) (p g : Nat) : Device × List Byte × Nat × Nat := d.readVa p (d.grecAt p g) 32

/-- Sets or clears OPEN and TORN of a group. -/
def Device.putGroupFlags (d : Device) (p g : Nat) (op torn : Bool) : Device := d.putGrec p g 8 (toLe 1 (bitOf op 0 + bitOf torn 1))

/-- A descriptor that applies updates opens its group where it is not open (R454). -/
def Device.openGroup (d : Device) (t : UpdDesc) : Device :=
  let g := uGroup t.bytes
  let r := d.readGrec t.part g
  if gOpen r.2.1 then r.1
  else
    let d := (r.1.putGrec t.part g 4 (toLe 4 t.stroke)).putGroupFlags t.part g true (gTorn r.2.1)
    { d with upd := { d.upd with opened := d.upd.opened ++ [(t.part, g, t.stroke)] } }

/-- OPEN of a group is clear again. -/
def Device.forgetOpen (d : Device) (p g : Nat) : Device :=
  { d with upd := { d.upd with opened := d.upd.opened.filter (fun o => !(o.1 == p && o.2.1 == g)) } }

/-- A fault record of the sequencer, or of a cistern engine (R622). -/
def Device.updFault (d : Device) (part stroke status source index group addr : Nat) : Device :=
  d.raise { status := status, source := source, akind := if addr = 0 then 0 else 2, part := part, index := index, stroke := stroke,
            addr := addr, detail := group }

/-- A group becomes TORN (R455). -/
def Device.tear (d : Device) (p g : Nat) : Device :=
  ((((d.putGroupFlags p g false true).forgetOpen p g).bump (Reg.UPD_TORN p) 1).updFault p (d.strokeOf p) St.STEP_SKEW 9 0 g 0).firePart p 5

/-- Whether a descriptor of a group runs. -/
def Device.groupRuns (d : Device) (p g : Nat) : Bool := d.upd.taken.any (fun t => t.part == p && uGroup t.bytes == g && t.running)

/-- A group that waits to be judged is torn when its last running descriptor has completed, unless it closed (R455). -/
def Device.judgeGroup (d : Device) (p g : Nat) : Device :=
  if d.upd.judge.contains (p, g) && !d.groupRuns p g then
    let d := { d with upd := { d.upd with judge := d.upd.judge.filter (· != (p, g)) } }
    if d.upd.opened.any (fun o => o.1 == p && o.2.1 == g) then d.tear p g else d
  else d

/-- A group-set takes effect (R453, R454). -/
def Device.applySet (d : Device) (s : UpdSet) : Device :=
  let r := d.readGrec s.part s.group
  let d := if s.setStep then r.1.putGrec s.part s.group 0 (toLe 4 s.step) else r.1
  let d := if s.clearTorn then d.putGroupFlags s.part s.group (gOpen r.2.1) false else d
  match s.owner with
  | some id => d.complete id (if r.2.2.1 = St.OK then St.OK else r.2.2.1) 0
  | none => d

/-- Whether a descriptor of a group is in the sequencer, begun and not completed. -/
def Device.groupBusy (d : Device) (p g : Nat) : Bool := d.upd.taken.any (fun t => t.part == p && uGroup t.bytes == g && t.row.isSome)

/-- The group-sets that waited for a group, once none of its descriptors is in the sequencer. -/
def Device.releaseSets (d : Device) (p g : Nat) : Device :=
  if d.groupBusy p g then d
  else
    let mine := fun (s : UpdSet) => s.part == p && s.group == g
    (d.upd.sets.filter mine).foldl (fun d s => d.applySet s) { d with upd := { d.upd with sets := d.upd.sets.filter (fun s => !mine s) } }

/-- ZN_GROUP_SET: between descriptors (R453, R467). -/
def Device.groupSet (d : Device) (s : UpdSet) : Device :=
  if d.groupBusy s.part s.group then { d with upd := { d.upd with sets := d.upd.sets ++ [s] } } else d.applySet s

/-! ## Completion (R459) -/

/-- How a descriptor ends. -/
structure UpdEnd where
  status : Nat
  /-- Refused by R458, and by its orders 1 to 3, which touch nothing else. -/
  refused : Bool := false
  early : Bool := false
  t1 : Nat := 0
  applied : Nat := 0
  sqg : Nat := 0
  sqw : Nat := 0
  deriving DecidableEq, Repr

/-- The completion record. -/
def updRecord (t : UpdDesc) (e : UpdEnd) (now : Nat) : List Byte :=
  toLe 2 e.status ++ toLe 2 0 ++ toLe 4 t.stroke ++ toLe 4 e.t1 ++ toLe 4 e.applied ++ toLe 4 e.sqg ++ toLe 4 e.sqw ++ toLe 8 (timeShort now)

/-- The counter of a completion status. -/
def Device.countUpd (d : Device) (p st : Nat) : Device :=
  if st = St.OK then d.bump (Reg.UPD_DONE p) 1
  else if st = St.FROZEN_SKIPPED then d.bump (Reg.UPD_FROZEN p) 1
  else if st = St.STEP_SKEW then d.bump (Reg.UPD_SKEW p) 1
  else if st = St.CANCELLED then d.bump (Reg.UPD_CANCELLED p) 1
  else d

/-- A refusal shows in UPD_STATUS and UPD_ERR_GROUP, and fires (R458, R469, R528). -/
def Device.noteRefusal (d : Device) (p g st : Nat) : Device :=
  (((d.setFlag (Reg.UPD_STATUS p) 31 true).setFld (Reg.UPD_STATUS p) 15 0 st).setReg (Reg.UPD_ERR_GROUP p)
    (BitVec.ofNat 32 (0x80000000 + g))).firePart p 5

/-- What the group record takes from a descriptor's end: LAST_STATUS, and for ADVANCE the step, as its last act (R453, R454). -/
def Device.closeGroup (d : Device) (t : UpdDesc) (e : UpdEnd) : Device :=
  let g := uGroup t.bytes
  if e.early ∨ g ≥ d.fld (Reg.UPD_NGROUP t.part) 16 0 then d
  else
    let d := d.putGrec t.part g 10 (toLe 2 e.status)
    if uAdvance t.bytes && e.status == St.OK then
      let r := d.readGrec t.part g
      ((r.1.putGrec t.part g 0 (toLe 4 e.t1)).putGroupFlags t.part g false (gTorn r.2.1)).forgetOpen t.part g
    else d

/-- A descriptor completes: its record, its signal, its counts, the group record; it leaves the sequencer, and what waited for it goes on. -/
def Device.updDone (d : Device) (t : UpdDesc) (e : UpdEnd) : Device :=
  let p := t.part
  let g := uGroup t.bytes
  let w := d.writeVa p (uComp t.bytes) (updRecord t e d.now)
  let d := if w.2.1 = St.OK then w.1 else w.1.updFault p t.stroke w.2.1 9 t.queue g w.2.2
  let d := if uSignal t.bytes then d.descSignal p (uCore t.bytes % 128) (uSem t.bytes % 64) t.stroke else d
  let d := d.countUpd p e.status
  let d := if e.refused then d.noteRefusal p g e.status else d
  let d := d.closeGroup t e
  let d := { d with upd := { d.upd with
    taken := d.upd.taken.filter (fun x => x.id != t.id), handed := d.upd.handed.filter (· != t.id) } }
  (d.judgeGroup p g).releaseSets p g

/-! ## The checks (R458) -/

/-- Order 1. -/
def updBadField (inPart : Bool) (b : List Byte) (r : CoefRow) : Bool :=
  leAt b 5 3 != 0 || leAt b 36 4 != 0 || leAt b 122 6 != 0 || uFlags b / 8 != 0 || decide (uLoc b > 1) || uCore b / 128 != 0 || uSem b / 64 != 0
    || (if uVector b then leAt b 16 4 != 0 || leAt b 40 40 != 0 || uOut b != 0 else uRrec b != 0)
    || r.bad || (uAdvance b && uVector b && uElems b != 0) || (uNorm b && uAdvance b)
    || (r.mean && kFromCount r b && uKcount b == 0) || (uGfmt b == gfmtL8 && uGoff b % 32 != 0)
    || (uVector b && (uGoff b % 512 != 0 || decide (unitCount r b > 16384))) || !inPart
    || (r.sparse && (uRowLen b == 0 || uRowLen b % 8 != 0))

/-- Order 2. -/
def updBadFormat (b : List Byte) (r : CoefRow) : Bool :=
  !(uGfmt b == Fmt.FP32 || uGfmt b == Fmt.BF16 || (uGfmt b == gfmtL8 && !r.sparse))
    || (!uVector b && ((uA b != 0) != r.stateA || (uB b != 0) != r.stateB))

/-- The virtual ranges a descriptor names, as (address, bytes). -/
def updNamed (b : List Byte) (r : CoefRow) : List (Nat × Nat) :=
  let n := tableElems r b
  [(uComp b, 32)]
    ++ (if uHdr b = 0 then [] else [(uHdr b, 64 + 32 * ((uGoff b + max (uElems b) 1 - 1) / 65536))])
    ++ (if uVector b then []
        else
          [(uW b, 4 * n), (uG b, gradSize b * gradElems r b)]
          ++ (if r.stateA then [(uA b, stateSize r.sfmtA * n)] else []) ++ (if r.stateB then [(uB b, stateSize r.sfmtB * n)] else [])
          ++ (if r.ofmt ≠ 0 ∧ uOut b ≠ 0 then [(uOut b, r.outSize * n)] else [])
          ++ (if r.sparse then [(uIdx b, 4 * uElems b)] else if uGfmt b = gfmtL8 then [(uIdx b, ceilDiv (uElems b) 32)] else [])
          ++ (if r.sparse ∧ r.rowStep then [(uRh b, 16 * uRows b)] else []))

/-- The ranges that must lie in the cistern tier. -/
def updTier (b : List Byte) (r : CoefRow) : List (Nat × Nat) :=
  let n := tableElems r b
  [(uW b, 4 * n)] ++ (if r.stateA then [(uA b, stateSize r.sfmtA * n)] else []) ++ (if r.stateB then [(uB b, stateSize r.sfmtB * n)] else [])
    ++ (if r.sparse ∧ r.rowStep then [(uRh b, 16 * uRows b)] else [])

/-- The chiplets behind the pages of a list, none for a page outside the cistern range; a page whose walk fails is left to the run. -/
def Device.tierOf (d : Device) (p : Nat) : List (Nat × Nat) → Device × List (Option Nat)
  | [] => (d, [])
  | (va, _) :: rest =>
    match d.walk p va with
    | (d, .fail _) => d.tierOf p rest
    | (d, .leaf pte log2) =>
      let c := match regionOf (pteAddr pte + va % 2 ^ log2) with
        | .cistern c => some c
        | _ => none
      let q := d.tierOf p rest
      (q.1, c :: q.2)

/-- The local SRAM areas that a VECTOR descriptor names, past the end of the SRAM. -/
def updOutside (b : List Byte) (r : CoefRow) : Bool :=
  decide (uRrec b + 128 + 16 * unitCount r b > sramSize) || (r.sparse && r.rowStep && decide (uRh b + 16 * uElems b > sramSize))

/-- Orders 1 to 3: the status, and for a CISTERN descriptor the chiplet whose engine runs it. -/
def Device.updCheck (d : Device) (p : Nat) (b : List Byte) (r : CoefRow) : Device × Nat × Nat :=
  if updBadField (d.partOf (uCore b % 128) == some p) b r then (d, St.BAD_FIELD, 0)
  else if updBadFormat b r then (d, St.BAD_FORMAT, 0)
  else if (updNamed b r).any (fun x => decide (x.1 + x.2 > 2 ^ 48)) || (uVector b && !uNorm b && updOutside b r) then (d, St.BAD_RANGE, 0)
  else if uVector b then (d, St.OK, 0)
  else
    let q := d.tierOf p ((updTier b r).map (fun x => pieces 0x10000 x.1 x.2)).flatten
    let cs := q.2.eraseDups
    if cs.contains none || decide (cs.length > 1) then (q.1, St.BAD_RANGE, 0)
    else (q.1, St.OK, (cs.head?.join).getD 0)

/-- Order 5: the step check. Answers the status, OK where it agrees. -/
def Device.updSkew (d : Device) (p : Nat) (b grec : List Byte) : Device × Nat × Nat :=
  if gTorn grec then (d, St.STEP_SKEW, 0)
  else if uHdr b = 0 then (d, (if uExpect b = gStep grec then St.OK else St.STEP_SKEW), 0)
  else
    let r := d.readVa p (uHdr b) 32
    if r.2.2.1 ≠ St.OK then (r.1, r.2.2.1, r.2.2.2)
    else
      let f := leAt r.2.1 3 1
      (r.1, (if bit f 0 && !bit f 2 && leAt r.2.1 8 4 == gStep grec then St.OK else St.STEP_SKEW), 0)

/-! ## Element work (R447, R448, R460-R462, R466) -/

/-- What the run of a descriptor has done so far. -/
structure UpdRun where
  applied : Nat := 0
  guarded : Nat := 0
  nonfinite : Nat := 0
  rowSkip : Nat := 0
  absent : Nat := 0
  /-- The first uncorrectable operand, and the fault that ended the run: status and address. -/
  bad : Option Nat := none
  fault : Option (Nat × Nat) := none
  /-- The piece whose header is in use, and the header. -/
  piece : Option (Nat × List Byte) := none
  /-- The row index last accepted. -/
  prev : Option Int := none
  /-- Squares of the scaled gradient and of the weight, by element; none where the element is absent (R466). -/
  squares : List (Option (Num × Num)) := []
  deriving DecidableEq, Repr

/-- A descriptor in execution: its fields, row, group t1, and the version of the engine's function tables. -/
structure UpdJob where
  part : Nat
  b : List Byte
  r : CoefRow
  t1 : Nat
  ver : Nat
  deriving DecidableEq, Repr

/-- The elements of a format in marked bytes; one with an uncorrectable byte is NaN. -/
def markedNums (fmt n : Nat) (bs : List (Byte × Bool)) : List Num :=
  (chunks (stateSize fmt) n bs).map (fun c => if c.any (·.2) then .nan else (Fmt.float fmt).decode (leNat (c.map (·.1))))

/-- The gradient elements: FP32, BF16, or L8 with the scales that follow; element i of the run lies in block (off + i) / 32. -/
def gradNums (fmt n off : Nat) (bs scales : List (Byte × Bool)) : List Num :=
  if fmt = gfmtL8 then
    (bs.take n).mapIdx (fun i m =>
      let s := scales.getD ((off + i) / 32) (0#8, false)
      if m.2 || s.2 || s.1 == 0xFF#8 then .nan else Num.of (sext 8 m.1.toNat) ((s.1.toNat : Int) - 127))
  else markedNums fmt n bs

/-- Consecutive elements joined into runs of bytes to write. -/
def runsOf (sz va : Nat) : List (Option (List Byte)) → List (Nat × List Byte)
  | [] => []
  | none :: rest => runsOf sz (va + sz) rest
  | some b :: rest =>
    match runsOf sz (va + sz) rest with
    | (a, bs) :: more => if a = va + sz then (va, b ++ bs) :: more else (va, b) :: (a, bs) :: more
    | [] => [(va, b)]

/-- Writes elements into translated memory, leaving out those that are none. -/
def Device.putElements (d : Device) (m : Cells Nat) (sz va : Nat) (xs : List (Option (List Byte))) : Device × Bool :=
  (runsOf sz va xs).foldl (fun (a : Device × Bool) x =>
    let r := a.1.writePages m (pieces 0x10000 x.1 x.2.length) x.2
    (r.1, a.2 || r.2)) (d, false)

/-- The ranges of n elements from table element wi and gradient element gi. -/
def UpdJob.ranges (j : UpdJob) (wi gi n : Nat) : List (Nat × Nat × List Access) :=
  let rw : List Access := if uNorm j.b then [.read] else [.read, .write]
  let st := fun (on : Bool) (va fmt : Nat) =>
    if on && !uNorm j.b then [(va + stateSize fmt * wi, stateSize fmt * n, rw)] else []
  [(uG j.b + gradSize j.b * gi, gradSize j.b * n, [.read])]
    ++ (if uGfmt j.b = gfmtL8 then [(uIdx j.b + gi / 32, (gi % 32 + n + 31) / 32, [.read])] else [])
    ++ [(uW j.b + 4 * wi, 4 * n, rw)] ++ st j.r.stateA (uA j.b) j.r.sfmtA ++ st j.r.stateB (uB j.b) j.r.sfmtB
    ++ (if j.r.ofmt ≠ 0 ∧ uOut j.b ≠ 0 ∧ !uNorm j.b then [(uOut j.b + j.r.outSize * wi, j.r.outSize * n, [.write])] else [])

/-- Reads n elements of a format at an address. -/
def Device.readNums (d : Device) (m : Cells Nat) (va fmt n : Nat) : Device × List Num × Option Nat :=
  let r := d.readPages m (pieces 0x10000 va (stateSize fmt * n))
  (r.1, markedNums fmt n r.2, if r.2.any (·.2) then some va else none)

/-- An element as bytes of a format, converted by R56. -/
def numBytes (fmt : Nat) (x : Num) : List Byte := toLe (stateSize fmt) (toElem fmt x).1

/-- The element work of n elements whose pages are translated: squares for a norm pass, or R447 and R448. -/
def UpdJob.work (j : UpdJob) (d : Device) (u : UpdRun) (m : Cells Nat) (wi gi n : Nat) (gsc cA cB : Num) : Device × UpdRun :=
  let b := j.b
  let gr := d.readPages m (pieces 0x10000 (uG b + gradSize b * gi) (gradSize b * n))
  let sc := if uGfmt b = gfmtL8 then gr.1.readPages m (pieces 0x10000 (uIdx b + gi / 32) ((gi % 32 + n + 31) / 32)) else (gr.1, [])
  let w := sc.1.readNums m (uW b + 4 * wi) Fmt.FP32 n
  let xs := gradNums (uGfmt b) n (gi % 32) gr.2 sc.2
  let bad0 := if gr.2.any (·.2) || sc.2.any (·.2) then some (uG b + gradSize b * gi) else w.2.2
  if uNorm b then
    let sq := List.zipWith (fun x w => let g := (x.mul gsc).rnd; some ((g.mul g).rnd, (w.mul w).rnd)) xs w.2.1
    (w.1, { u with bad := u.bad.or bad0, squares := u.squares ++ sq })
  else
    let a := if j.r.stateA then w.1.readNums m (uA b + stateSize j.r.sfmtA * wi) j.r.sfmtA n else (w.1, List.replicate n (Num.zero false), none)
    let s := if j.r.stateB then a.1.readNums m (uB b + stateSize j.r.sfmtB * wi) j.r.sfmtB n else (a.1, List.replicate n (Num.zero false), none)
    let ins := List.zipWith (fun (x : Num × Num) (y : Num × Num) => ({ x := x.1, w := x.2, a := y.1, b := y.2 } : UpdIn))
      (xs.zip w.2.1) (a.2.1.zip s.2.1)
    let outs := ins.map (fun i => (i, j.r.element j.ver gsc cA cB i))
    let held := fun (o : UpdIn × UpdOut) => j.r.guard && j.r.heldBack o.2
    let put := fun (fmt : Nat) (f : UpdOut → Num) => outs.map (fun o => if held o then none else some (numBytes fmt (f o.2)))
    let d1 := s.1.putElements m 4 (uW b + 4 * wi) (put Fmt.FP32 (·.w1))
    let d2 := if j.r.stateA then d1.1.putElements m (stateSize j.r.sfmtA) (uA b + stateSize j.r.sfmtA * wi) (put j.r.sfmtA (·.a1)) else (d1.1, false)
    let d3 := if j.r.stateB then d2.1.putElements m (stateSize j.r.sfmtB) (uB b + stateSize j.r.sfmtB * wi) (put j.r.sfmtB (·.b1)) else (d2.1, false)
    let d4 := if j.r.ofmt ≠ 0 ∧ uOut b ≠ 0 then
        d3.1.putElements m j.r.outSize (uOut b + j.r.outSize * wi)
          (outs.map (fun o => some (numBytes j.r.outFmt (if held o then o.1.w else o.2.w1))))
      else (d3.1, false)
    let nh := (outs.filter held).length
    (d4.1, { u with
      bad := (((u.bad.or bad0).or a.2.2).or s.2.2).or (if d1.2 || d2.2 || d3.2 || d4.2 then some (uW b + 4 * wi) else none)
      applied := u.applied + (if j.r.sparse then 0 else n - nh)
      guarded := u.guarded + nh
      nonfinite := u.nonfinite + (outs.filter (fun o => !held o && !o.2.w1.finite)).length })

/-- n elements at once where all their pages translate, else one by one up to the first that faults (R271). -/
def UpdJob.elems (j : UpdJob) (d : Device) (u : UpdRun) (wi gi n : Nat) (gsc cA cB : Num) : Device × UpdRun :=
  match d.mapRanges j.part (j.ranges wi gi n) [] with
  | (d, .ok m) => j.work d u m wi gi n gsc cA cB
  | (d, .error _) =>
    (List.range n).foldl (fun (a : Device × UpdRun) i =>
      if a.2.fault.isSome then a
      else match a.1.mapRanges j.part (j.ranges (wi + i) (gi + i) 1) [] with
        | (d, .ok m) => j.work d a.2 m (wi + i) (gi + i) 1 gsc cA cB
        | (d, .error e) => (d, { a.2 with fault := some e })) (d, u)

/-- The header of the piece that a bucket element lies in (R460), read when the run enters the piece. -/
def UpdJob.enter (j : UpdJob) (d : Device) (u : UpdRun) (e : Nat) : Device × UpdRun :=
  let i := (uGoff j.b + e) / 65536
  if u.piece.map (·.1) = some i then (d, u)
  else
    let r := d.readVa j.part (uHdr j.b + 32 + 32 * i) 32
    if r.2.2.1 = St.OK then
      (r.1, { u with piece := some (i, r.2.1), absent := u.absent + (if (PieceHdr.ofBytes r.2.1).absent then 1 else 0) })
    else (r.1, { u with fault := some r.2.2 })

/-- The elements of a dense descriptor from element e on, in runs that stay inside a block of 512 and a piece. -/
def UpdJob.dense (j : UpdJob) (d : Device) (u : UpdRun) (e : Nat) : Nat → Device × UpdRun
  | 0 => (d, u)
  | fuel + 1 =>
    let total := uElems j.b
    if e ≥ total ∨ u.fault.isSome then (d, u)
    else
      let cA := biasCorr j.r.bca j.r.betaA j.t1
      let cB := biasCorr j.r.bcb j.r.betaB j.t1
      let n := min (512 - e % 512) (total - e)
      if uHdr j.b = 0 then
        let r := j.elems d u e e n (j.r.gsc (!uNorm j.b) (uNormVal j.b) (uKcount j.b)) cA cB
        j.dense r.1 r.2 (e + n) fuel
      else
        let n := min n (65536 - (uGoff j.b + e) % 65536)
        let h := j.enter d u e
        if h.2.fault.isSome then h
        else
          let p := PieceHdr.ofBytes ((h.2.piece.map (·.2)).getD [])
          let r := if p.absent then (h.1, { h.2 with squares := if uNorm j.b then h.2.squares ++ List.replicate n none else [] })
            else j.elems h.1 h.2 e e n (j.r.gsc (!uNorm j.b) (uNormVal j.b) p.count) cA cB
          j.dense r.1 r.2 (e + n) fuel

/-- The elements of one row from element c on (R461). -/
def UpdJob.rowElems (j : UpdJob) (d : Device) (u : UpdRun) (row at' c : Nat) (gsc cA cB : Num) : Nat → Device × UpdRun
  | 0 => (d, u)
  | fuel + 1 =>
    let len := uRowLen j.b
    if c ≥ len ∨ u.fault.isSome then (d, u)
    else
      let n := min (512 - c % 512) (len - c)
      let r := j.elems d u (row * len + c) (at' * len + c) n gsc cA cB
      j.rowElems r.1 r.2 row at' (c + n) gsc cA cB fuel

/-- A row that takes part: its header under ROWSTEP, its elements, and its header's advance (R461, R462). -/
def UpdJob.row (j : UpdJob) (d : Device) (u : UpdRun) (row at' : Nat) : Device × UpdRun :=
  let gsc := j.r.gsc (!uNorm j.b) (uNormVal j.b) (uKcount j.b)
  let hva := uRh j.b + 16 * row
  let steps := j.r.rowStep && !uNorm j.b
  let h : Device × Except (Nat × Nat) (Cells Nat) := if steps then d.mapRanges j.part [(hva, 16, [.read, .write])] [] else (d, .ok [])
  match h with
  | (d, .error e) => (d, { u with fault := some e })
  | (d, .ok m) =>
    let hr := if steps then d.readPages m (pieces 0x10000 hva 16) else (d, [])
    let t1 := if steps then leNat ((hr.2.map (·.1)).take 4) + 1 else j.t1
    let u := { u with bad := u.bad.or (if hr.2.any (·.2) then some hva else none) }
    let r := j.rowElems hr.1 u row at' 0 gsc (biasCorr j.r.bca j.r.betaA t1) (biasCorr j.r.bcb j.r.betaB t1) (uRowLen j.b)
    if r.2.fault.isSome then r
    else
      let d := if steps then (r.1.writePages m (pieces 0x10000 hva 8) (toLe 4 t1 ++ toLe 4 (r.1.strokeOf j.part))).1 else r.1
      (d, { r.2 with applied := r.2.applied + (if uNorm j.b then 0 else 1) })

/-- The rows of a sparse descriptor from row k on (R461). -/
def UpdJob.sparse (j : UpdJob) (d : Device) (u : UpdRun) (k : Nat) : Nat → Device × UpdRun
  | 0 => (d, u)
  | fuel + 1 =>
    if k ≥ uElems j.b ∨ u.fault.isSome then (d, u)
    else
      match d.mapRanges j.part [(uIdx j.b + 4 * k, 4, [.read])] [] with
      | (d, .error e) => (d, { u with fault := some e })
      | (d, .ok m) =>
        let ir := d.readPages m (pieces 0x10000 (uIdx j.b + 4 * k) 4)
        let i := sext 32 (leNat (ir.2.map (·.1)))
        let poor := ir.2.any (·.2)
        let u := { u with bad := u.bad.or (if poor then some (uIdx j.b + 4 * k) else none) }
        let skip := poor || decide (i < 0) || decide (i ≥ (uRows j.b : Int)) || (match u.prev with | some q => decide (i ≤ q) | none => false)
        if skip then
          j.sparse ir.1 { u with rowSkip := u.rowSkip + 1, squares := if uNorm j.b then u.squares ++ List.replicate (uRowLen j.b) none else [] } (k + 1) fuel
        else
          let r := j.row ir.1 { u with prev := some i } i.toNat k
          j.sparse r.1 r.2 (k + 1) fuel

/-- The whole run of a CISTERN descriptor. -/
def UpdJob.run (j : UpdJob) (d : Device) : Device × UpdRun :=
  if j.r.sparse then j.sparse d {} 0 (uElems j.b) else j.dense d {} 0 (uElems j.b)

/-- Runs a CISTERN descriptor on the engine of a chiplet and completes it: counts, fault record, completion (R458, R459, R463). -/
def Device.updRun (d : Device) (t : UpdDesc) (c : Nat) : Device :=
  let p := t.part
  let j : UpdJob := { part := p, b := t.bytes, r := t.row.getD [], t1 := t.t1, ver := (d.reg (Reg.CIS_BUILTIN c)).toNat }
  let r := j.run d
  let u := r.2
  let d := ((((r.1.bump64 (Reg.UPD_ELEMS_LO p) u.applied).bump (Reg.UPD_GUARDED p) u.guarded).bump (Reg.UPD_NONFINITE p) u.nonfinite).bump
    (Reg.UPD_ABSENT p) u.absent).bump (Reg.UPD_ROWSKIP p) u.rowSkip
  let fault := u.fault.or (u.bad.map (fun va => (St.UNCORRECTABLE, va)))
  let d := match fault with
    | some (st, va) => d.updFault p t.stroke st 10 c (uGroup t.bytes) va
    | none => d
  let sums := fun (f : Num × Num → Num) => if uNorm t.bytes then normSum (u.squares.map (fun o => o.map f)) else 0
  d.updDone t { status := (fault.map (·.1)).getD St.OK, t1 := t.t1, applied := u.applied, sqg := sums (·.1), sqw := sums (·.2) }

/-! ## The resolved record (R464) -/

/-- One unit: GSC, CA, CB, APPLY. -/
def resolvedUnit (gsc cA cB : Num) (apply : Bool) : List Byte :=
  toLe 4 gsc.toFp32 ++ toLe 4 cA.toFp32 ++ toLe 4 cB.toFp32 ++ toLe 4 (if apply then 1 else 0)

/-- The 128 bytes before the units. -/
def resolvedHead (r : CoefRow) (nunit t1 : Nat) : List Byte :=
  toLe 2 St.OK ++ toLe 2 0 ++ toLe 4 nunit ++ toLe 4 t1 ++ toLe 4 r.ee.neg.toFp32 ++ toLe 4 (r.word 3) ++ toLe 4 (r.word 4) ++ toLe 4 (r.word 7)
    ++ (r.drop 32).take 48 ++ List.replicate 52 0#8

/-- Unit i of a VECTOR descriptor: its bytes, with the run's account of pieces and faults. A sparse unit advances its row header in the
local SRAM of CORE (R462). -/
def UpdJob.unit (j : UpdJob) (d : Device) (u : UpdRun) (i : Nat) : Device × UpdRun × List Byte :=
  let cs := fun (t1 : Nat) => (biasCorr j.r.bca j.r.betaA t1, biasCorr j.r.bcb j.r.betaB t1)
  if j.r.sparse then
    let gsc := j.r.gsc true (uNormVal j.b) (uKcount j.b)
    if j.r.rowStep then
      let core := uCore j.b
      let off := uRh j.b + 16 * i
      let h := d.sramRead core off 16
      let t1 := leNat (h.2.1.take 4) + 1
      let d := (h.1.sramStore core off (toLe 4 t1 ++ toLe 4 (d.strokeOf j.part))).1
      (d, { u with bad := u.bad.or h.2.2 }, resolvedUnit gsc (cs t1).1 (cs t1).2 true)
    else (d, u, resolvedUnit gsc (cs j.t1).1 (cs j.t1).2 true)
  else if uHdr j.b = 0 then (d, u, resolvedUnit (j.r.gsc true (uNormVal j.b) (uKcount j.b)) (cs j.t1).1 (cs j.t1).2 true)
  else
    let h := j.enter d u (512 * i)
    let p := PieceHdr.ofBytes ((h.2.piece.map (·.2)).getD [])
    (h.1, h.2, resolvedUnit (j.r.gsc true (uNormVal j.b) p.count) (cs j.t1).1 (cs j.t1).2 (!p.absent))

/-- Resolves a VECTOR descriptor: the units in order, then the record at RREC. -/
def Device.resolve (d : Device) (t : UpdDesc) (t1 : Nat) : Device :=
  let p := t.part
  let b := t.bytes
  let r : CoefRow := t.row.getD []
  let j : UpdJob := { part := p, b := b, r := r, t1 := t1, ver := 0 }
  let n := unitCount r b
  let us := (List.range n).foldl (fun (a : Device × UpdRun × List (List Byte)) i =>
    if a.2.1.fault.isSome then a
    else
      let x := j.unit a.1 a.2.1 i
      (x.1, x.2.1, a.2.2 ++ [x.2.2])) (d, {}, [])
  let u := us.2.1
  let d := us.1.bump (Reg.UPD_ABSENT p) u.absent
  match u.fault.or (u.bad.map (fun va => (St.UNCORRECTABLE, va))) with
  | some (st, va) => (d.updFault p t.stroke st 9 t.queue (uGroup b) va).updDone t { status := st, t1 := t1 }
  | none =>
    let d := (d.sramStore (uCore b) (uRrec b) (resolvedHead r n t1 ++ us.2.2.flatten)).1
    d.updDone t { status := St.OK, t1 := t1 }

/-! ## Serving the queues (R454, R456) -/

/-- A descriptor that must not start any more: its stroke is older than the partition's, or its sluice has closed (R463). -/
def Device.updStale (d : Device) (t : UpdDesc) : Bool :=
  let n := d.strokeOf t.part
  strokeOlder t.stroke n || (d.flag (Reg.STK_STATUS t.part) 29 && !strokeOlder n t.stroke)

/-- The waits of R454: ADVANCE for what was taken earlier, and a newer stroke for OPEN. -/
def Device.updWaits (d : Device) (t : UpdDesc) : Bool :=
  let g := uGroup t.bytes
  let rec' := (d.readGrec t.part g).2.1
  (uAdvance t.bytes && d.upd.taken.any (fun x => x.part == t.part && uGroup x.bytes == g && decide (x.id < t.id)))
    || (gOpen rec' && !gTorn rec' && strokeOlder (gOstroke rec') t.stroke)

/-- The descriptor at the front of a queue that holds it: the first one not running. -/
def Device.updHead (d : Device) (p q : Nat) : Option UpdDesc := d.upd.taken.find? (fun t => t.part == p && t.queue == q && !t.running)

/-- Whether the sequencer can go on with a descriptor; one at LOC VECTOR waits in Standby (R573). -/
def Device.updReady (d : Device) (t : UpdDesc) : Bool :=
  t.chiplet.isNone && (t.row.isNone || d.updStale t || !d.updWaits t) && !(d.standby && uVector t.bytes)

/-- The kinds of descriptor: at LOC VECTOR, at LOC CISTERN, norm pass. -/
def UpdDesc.kind (t : UpdDesc) : Nat := if uNorm t.bytes then 2 else if uVector t.bytes then 0 else 1

/-- Replaces a taken descriptor. -/
def Device.setUpd (d : Device) (t : UpdDesc) : Device :=
  { d with upd := { d.upd with taken := d.upd.taken.map (fun x => if x.id = t.id then t else x) } }

/-- The engine of a chiplet executes nothing. -/
def Device.engineFree (d : Device) (c : Nat) : Bool := !d.upd.taken.any (fun t => t.running && t.chiplet == some c)

/-- A CISTERN descriptor that has passed its checks waits for its chiplet's engine (R463). -/
def Device.handOver (d : Device) (t : UpdDesc) (c : Nat) : Device :=
  let d := d.setUpd { t with chiplet := some c }
  { d with upd := { d.upd with handed := d.upd.handed ++ [t.id] } }

/-- The descriptor starts on its engine: OPEN, and what CIS_UPD_STATUS shows (R454, R463, R470). -/
def Device.engineRun (d : Device) (t : UpdDesc) (c : Nat) : Device :=
  let t := { t with running := true, chiplet := some c }
  let d := d.setUpd t
  let d := { d with upd := { d.upd with handed := d.upd.handed.filter (· != t.id) } }
  let d := if uNorm t.bytes then d else d.openGroup t
  d.setReg (Reg.CIS_UPD_STATUS c) (BitVec.ofNat 32 (0x80000000 + uGroup t.bytes))

/-- The descriptor on an engine ends (R459). -/
def Device.engineEnd (d : Device) (t : UpdDesc) (c : Nat) : Device := (d.updRun t c).setFlag (Reg.CIS_UPD_STATUS c) 31 false

/-- Orders 4 and 5, and what follows a pass: the resolved record, or the chiplet's engine; a norm pass forms its sums at once where the
engine is free. -/
def Device.updBegin (d : Device) (t : UpdDesc) (c : Nat) : Device :=
  let p := t.part
  let b := t.bytes
  let g := d.readGrec p (uGroup b)
  if g.2.2.1 ≠ St.OK then
    (g.1.updFault p t.stroke g.2.2.1 9 t.queue (uGroup b) g.2.2.2).updDone t { status := g.2.2.1, early := true }
  else
    let rec' := g.2.1
    let k := if uNorm b then (g.1, St.OK, 0)
      else if CoefRow.frozen (t.row.getD []) then (g.1, St.FROZEN_SKIPPED, 0)
      else g.1.updSkew p b rec'
    let d := k.1
    let t1 := (gStep rec' + 1) % 0x100000000
    if k.2.1 = St.FROZEN_SKIPPED ∨ k.2.1 = St.STEP_SKEW then
      let d := if uVector b then (d.sramStore (uCore b) (uRrec b) (toLe 2 k.2.1 ++ toLe 2 0 ++ toLe 4 0)).1 else d
      d.updDone t { status := k.2.1, refused := true }
    else if k.2.1 ≠ St.OK then (d.updFault p t.stroke k.2.1 9 t.queue (uGroup b) k.2.2).updDone t { status := k.2.1 }
    else if uVector b then
      (if uNorm b then d.updDone t { status := St.OK, t1 := t1 } else (d.openGroup t).resolve t t1)
    else
      let t := { t with t1 := t1 }
      let d := d.setUpd t
      if uNorm b && d.engineFree c && !d.upd.taken.any (fun x => x.chiplet == some c) then ((d.engineRun t c).engineEnd t c)
      else d.handOver t c

/-- The sequencer takes up a descriptor: cancelled where it is stale; its row read once; orders 1 to 3; the waits (R452, R454, R458). -/
def Device.updTake (d : Device) (t : UpdDesc) : Device :=
  let p := t.part
  let b := t.bytes
  if d.updStale t then d.updDone t { status := St.CANCELLED }
  else if uGroup b ≥ d.fld (Reg.UPD_NGROUP p) 16 0 then d.updDone t { status := St.BAD_FIELD, refused := true, early := true }
  else
    let r := match t.row with
      | some r => (d, r, St.OK, 0)
      | none => d.readVa p (d.redTable (Reg.UPD_COEF_LO p) + 128 * uGroup b) 128
    if r.2.2.1 ≠ St.OK then r.1.updDone t { status := r.2.2.1, refused := true, early := true }
    else
      let k := r.1.updCheck p b r.2.1
      if k.2.1 ≠ St.OK then k.1.updDone t { status := k.2.1, refused := true, early := true }
      else
        let t := { t with row := some r.2.1 }
        let d := k.1.setUpd t
        if d.updWaits t then d else d.updBegin t k.2.2

/-- The sequencer serves a queue of partition p by rotating priority (R29, R456), where its descriptor is of the kind asked for. -/
def Device.updServe (d : Device) (p kind : Nat) : Device :=
  let can := fun q => match d.updHead p q with
    | some t => d.updReady t
    | none => false
  match rotate 64 (Cells.get 0 d.upd.ptr p) can with
  | none => d
  | some q =>
    match d.updHead p q with
    | none => d
    | some t =>
      if t.kind ≠ kind then d
      else
        let d := if uVector t.bytes then d.exitIdle else d
        { d with upd := { d.upd with ptr := Cells.put d.upd.ptr p ((q + 1) % 64) } }.updTake t

/-- CISTERN_ENGINE_START: the first descriptor handed to a free engine starts; in Standby it waits (R292, R463). -/
def Device.engineStart (d : Device) (c : Nat) : Device :=
  if !d.engineFree c || d.standby then d
  else
    match d.upd.handed.findSome? (fun i => d.upd.taken.find? (fun t => t.id == i && t.chiplet == some c)) with
    | none => d
    | some t => d.engineRun t c

/-- CISTERN_DESC_COMPLETE: the descriptor in execution on an engine finishes. -/
def Device.engineComplete (d : Device) (c : Nat) : Device :=
  match d.upd.taken.find? (fun t => t.running && t.chiplet == some c) with
  | none => d
  | some t => d.engineEnd t c

/-- UPD_DOORBELL (R456): each entry is read whole as it is taken. -/
def Device.updDoorbell (d : Device) : Device :=
  d.doorbell 2
    (fun d q stroke => d.updFault q.part stroke St.BAD_RANGE 9 q.entry 0 0)
    (fun d q i stroke =>
      let r := d.readVa q.part (q.ring + 128 * i) 128
      if r.2.2.1 ≠ St.OK then r.1.updFault q.part stroke r.2.2.1 9 q.entry 0 r.2.2.2
      else
        let d := r.1
        { d with upd := { d.upd with
          next := d.upd.next + 1
          taken := d.upd.taken ++ [{ id := d.upd.next, part := q.part, queue := q.entry, stroke := stroke, bytes := r.2.1 }] } })

/-! ## Enabling and draining (R456) -/

/-- Whether the sequencer holds no descriptor of partition p. -/
def Device.updDrained (d : Device) (p : Nat) : Bool := !d.upd.taken.any (fun t => t.part == p)

/-- Completes the Zennus commands that wait for the enable of partition p. -/
def Device.answerUpd (d : Device) (p status : Nat) : Device :=
  let ids := (d.upd.waiters.filter (fun w => w.1 == p)).map (·.2)
  ids.foldl (fun d id => d.complete id status 0) { d with upd := { d.upd with waiters := d.upd.waiters.filter (fun w => w.1 != p) } }

/-- EN takes effect: the queue table is read and the doorbells armed. -/
def Device.updEnableNow (d : Device) (p : Nat) : Device :=
  (d.setFlag (Reg.UPD_CTL p) 0 true).armQueues 2 9 p (d.redTable (Reg.UPD_QT_LO p)) 64

/-- UPD_ENABLE: at once, or held during a drain. -/
def Device.updEnable (d : Device) (p : Nat) : Device :=
  if d.flag (Reg.UPD_CTL p) 0 then d
  else if d.flag (Reg.UPD_STATUS p) 30 then d.setFlag (Reg.UPD_STATUS p) 29 true
  else d.updEnableNow p

/-- UPD_DISABLE: the sequencer stops taking, and drains; a held enable is withdrawn. -/
def Device.updDisable (d : Device) (p : Nat) : Device :=
  let d := (d.setFlag (Reg.UPD_STATUS p) 29 false).answerUpd p St.CANCELLED
  if !d.flag (Reg.UPD_CTL p) 0 then d
  else
    let d := (d.setFlag (Reg.UPD_CTL p) 0 false).disarmQueues 2 p
    d.setFlag (Reg.UPD_STATUS p) 30 (!d.updDrained p)

/-- UPD_DRAIN_END: the drain ends, and a held enable is carried out. -/
def Device.updDrainEnd (d : Device) (p : Nat) : Device :=
  if d.flag (Reg.UPD_STATUS p) 30 && d.updDrained p then
    let d := d.setFlag (Reg.UPD_STATUS p) 30 false
    if d.flag (Reg.UPD_STATUS p) 29 then ((d.setFlag (Reg.UPD_STATUS p) 29 false).updEnableNow p).answerUpd p St.ENABLE_DEFERRED else d
  else d

/-! ## Sluice and stroke start (R455, R463) -/

/-- At a sluice the descriptors of the stroke that have not started are cancelled. -/
def Device.updSluice (d : Device) (p : Nat) : Device :=
  let n := d.strokeOf p
  (d.upd.taken.filter (fun t => t.part == p && !t.running && !strokeOlder n t.stroke)).foldl
    (fun d t => d.updDone t { status := St.CANCELLED }) d

/-- At a stroke start the groups still open from an earlier stroke are torn, or judged when their last running descriptor completes. -/
def Device.updStrokeStart (d : Device) (p : Nat) : Device :=
  (d.upd.opened.filter (fun o => o.1 == p && strokeOlder o.2.2 (d.strokeOf p))).foldl (fun d o =>
    if d.groupRuns p o.2.1 then
      { d with upd := { d.upd with judge := if d.upd.judge.contains (p, o.2.1) then d.upd.judge else d.upd.judge ++ [(p, o.2.1)] } }
    else d.tear p o.2.1) d

end Machine
end Sys2Proof
end

