-- ==== Sys2Proof/Machine/Strokes.lean ====
section
/-!
DEFINITION. Stroke schedules (R344-R360): arming, stopping and changing them, stroke starts, phase actions, the sluice and its drain.
-/
namespace Sys2Proof
namespace Machine

/-! ## The schedule (R346-R348, R360) -/

/-- The shadow schedule of partition p by block offset: the registers that VIEW selects. -/
def Device.shadow (d : Device) (p : Nat) : Cells Word :=
  d.regs.filterMap (fun e =>
    let o := e.1 - Reg.STK p
    if e.1 < Reg.STK p then none
    else if (0x20 ≤ o ∧ o < 0x30) ∨ (0x100 ≤ o ∧ o < 0x200) ∨ (0x1000 ≤ o ∧ o < 0x2000) then some (o, e.2) else none)

/-- A word of a schedule. -/
def schedWord (s : Cells Word) (off : Nat) : Nat := (Cells.get 0#32 s off).toNat

/-- Period and guard in ns, NENT. -/
def schedPeriod (s : Cells Word) : Nat := schedWord s 0x20 + 0x100000000 * (schedWord s 0x24 % 256)
def schedGuard (s : Cells Word) : Nat := schedWord s 0x28
def schedNent (s : Cells Word) : Nat := schedWord s 0x2C % 512

/-- A phase entry: action, core set, offset in ns, argument. -/
structure PhaseEntry where
  action : Nat
  cset : Nat
  offset : Nat
  arg : Nat
  deriving DecidableEq, Repr

def schedEntry (s : Cells Word) (i : Nat) : PhaseEntry :=
  let w1 := schedWord s (0x1000 + 16 * i + 4)
  { action := bits w1 31 28, cset := bits w1 27 24, offset := schedWord s (0x1000 + 16 * i) + 0x100000000 * (w1 % 256),
    arg := schedWord s (0x1000 + 16 * i + 8) }

/-- Core set j as a mask of logical cores. -/
def schedSet (s : Cells Word) (j : Nat) : Nat :=
  (List.range 4).foldl (fun (m : Nat) w => m + schedWord s (0x100 + 16 * j + 4 * w) * 2 ^ (32 * w)) 0

/-- The cores a start entry names: all for a gang start. -/
def startMask (s : Cells Word) (e : PhaseEntry) : Nat := if e.action = 1 then 2 ^ 128 - 1 else schedSet s e.cset

/-- Whether entry i fails R348 against the entries before it. -/
def entryBad (s : Cells Word) (i : Nat) : Bool :=
  let e := schedEntry s i
  let starts := fun (k : PhaseEntry) => k.action == 1 || k.action == 2
  let earlier := (List.range i).map (schedEntry s)
  decide (e.action ≥ 7) || decide (e.offset + schedGuard s ≥ schedPeriod s)
    || (e.action == 1 && earlier.any (fun k => k.action == 1))
    || (starts e && earlier.any (fun k => starts k && k.offset == e.offset && (startMask s k &&& startMask s e) != 0))

/-- The check of a schedule of partition p: status and entry, none where it is valid (R348). -/
def Device.schedCheck (d : Device) (p : Nat) (s : Cells Word) : Option (Nat × Nat) :=
  let per := schedPeriod s
  let g := schedGuard s
  if per < 100000 ∨ per > 600000000000 ∨ g < 5000 ∨ 2 * g > per ∨ schedNent s > 256 then some (St.BAD_FIELD, 0x100)
  else match (List.range (schedNent s)).find? (entryBad s) with
    | some i => some (St.BAD_FIELD, i)
    | none =>
      if (List.range 128).any (fun c => (List.range 16).any (fun j => (schedSet s j).testBit c) && d.partOf c != some p) then
        some (St.BAD_RANGE, 0x100)
      else none

/-! ## States (R349) -/

/-- Changes the state of a schedule: the change fires, STOP reads 0, and FREE drops a pending COMMIT (R349, R351, R528). -/
def Device.setStk (d : Device) (p v : Nat) : Device :=
  if d.stkState p = v then d
  else
    let d := (d.setFld (Reg.STK_STATUS p) 31 30 v).setFlag (Reg.STK_CTL p) 2 false
    let d := if v = 0 then d.setFlag (Reg.STK_CTL p) 3 false else d
    d.firePart p 2

/-- A refusal of ARM, COMMIT or a write of STK_START or STK_FIRST. -/
def Device.stkErr (d : Device) (p st entry : Nat) : Device :=
  (((d.setFlag (Reg.STK_STATUS p) 27 true).setFld (Reg.STK_STATUS p) 24 16 entry).setFld (Reg.STK_STATUS p) 15 0 st).firePart p 2

/-- FIRST, and the stroke number k strokes after it (R346, R350). -/
def Device.strokeAt (d : Device) (p k : Nat) : Nat := ((d.reg (Reg.STK_FIRST p)).toNat + k) % 0x100000000

/-- STK_ARM (R349, R350): it leaves Idle, and does nothing in Standby (R573). -/
def Device.stkArm (d : Device) (p : Nat) : Device :=
  if d.standby ∨ d.noImage 1 ∨ d.noImage 3 ∨ d.stkState p ≠ 0 then d.stkErr p St.BAD_STATE 0x100
  else
    let s := d.shadow p
    match d.schedCheck p s with
    | some (st, i) => d.stkErr p st i
    | none =>
      let d := d.exitIdle
      let per := schedPeriod s * nsUnit
      let k := ceilDiv (d.now + 10000 * nsUnit - d.startTime p) per
      (d.setStroke p { d.stroke p with active := s, next := k, cur := k, begun := false, fired := [], ckpt := none }).setStk p 1

/-- STK_STOP (R349). -/
def Device.stkStop (d : Device) (p : Nat) : Device :=
  match d.stkState p with
  | 1 => d.setStk p 0
  | 2 => d.setStk p 3
  | 3 => d.setFlag (Reg.STK_CTL p) 2 true
  | _ => d

/-- STK_COMMIT (R351): pending in ARMED and RUNNING. -/
def Device.stkCommit (d : Device) (p : Nat) : Device :=
  if d.stkState p = 1 ∨ d.stkState p = 2 then d.setFlag (Reg.STK_CTL p) 3 true else d

/-- STK_START_WRITE: word i of STK_START, or STK_FIRST as 3, only in FREE (R352). -/
def Device.stkStartWrite (d : Device) (p i : Nat) (v : Word) : Device :=
  if d.stkState p = 0 then d.setReg (Reg.STK_START_0 p + 4 * i) v else d.stkErr p St.BAD_STATE 0x100

/-! ## Stroke start (R351, R355, R358) -/

/-- Every queue and request slot of the partition's cores is empty. -/
def Device.partEmpty (d : Device) (p : Nat) : Bool :=
  (d.coresOf p).all (fun c =>
    let k := d.core c
    (List.range 6).all (fun q => (k.queue q).isEmpty) && k.slots.isEmpty && k.toIssue.isEmpty)

/-- A pending COMMIT is checked and applied at a stroke start; a new period rebases the schedule (R351, R352). -/
def Device.applyCommit (d : Device) (p : Nat) : Device :=
  if !d.flag (Reg.STK_CTL p) 3 then d
  else
    let d := d.setFlag (Reg.STK_CTL p) 3 false
    let s := d.shadow p
    match d.schedCheck p s with
    | some (st, i) => d.stkErr p st i
    | none =>
      let k := d.stroke p
      if schedPeriod s = schedPeriod k.active then d.setStroke p { k with active := s }
      else
        let t := timeLayout (d.startOf p k.cur).toNat
        let d := (((d.setReg (Reg.STK_START_0 p) (BitVec.ofNat 32 t)).setReg (Reg.STK_START_1 p) (BitVec.ofNat 32 (t / 2 ^ 32))).setReg
          (Reg.STK_START_2 p) (BitVec.ofNat 32 (t / 2 ^ 64))).setReg (Reg.STK_FIRST p) (d.reg (Reg.STK_NUM p))
        d.setStroke p { k with active := s, cur := 0, next := 1 }

/-- Device time has reached a moment. -/
def Device.reach (d : Device) (t : Int) : Device := { d with now := max d.now t.toNat }

/-- The stroke begins where the partition is drained and empty; otherwise it is skipped (R358). -/
def Device.strokeBegin (d : Device) (p : Nat) : Device :=
  let blocked := (d.stroke p).blocked
  let k := { d.stroke p with fired := [], ckpt := none, blocked := false }
  if d.flag (Reg.STK_STATUS p) 28 && d.partEmpty p && !blocked then
    (d.setStroke p { k with begun := true }).bump64 (Reg.STK_STROKES_LO p) 1
  else
    (((d.setStroke p { k with begun := false }).bump (Reg.STK_SKIPPED p) 1).raise
      { status := St.STROKE_SKIPPED, source := 7, part := p, index := 0x100, stroke := d.strokeOf p }).firePart p 1

/-- STROKE_START: T_start of the next stroke is reached (R349, R353, R358). The stroke that ends has closed its sluice. -/
def Device.strokeStart (d : Device) (p : Nat) : Device :=
  let k := d.stroke p
  let st := d.stkState p
  if st = 1 ∨ (st = 2 ∧ d.closed p) then
    let d := d.reach (d.startOf p k.next)
    let d := (d.setReg (Reg.STK_NUM p) (BitVec.ofNat 32 (d.strokeAt p k.next))).setStroke p { k with cur := k.next, next := k.next + 1 }
    let d := ((d.setStk p 2).applyCommit p).setFlag (Reg.STK_STATUS p) 29 false
    (((d.redStrokeStart p).aqStrokeStart p).updStrokeStart p).strokeBegin p
  else if d.closed p then
    ((d.reach (d.startOf p k.next)).setFlag (Reg.STK_STATUS p) 29 false).setStroke p { k with next := k.next + 1 }
  else d

/-! ## Phase actions (R347) -/

/-- Fires an entry of the current stroke whose action is the one asked for: once, not before its moment, not after the sluice. -/
def Device.phase (d : Device) (p i action : Nat) (f : Device → PhaseEntry → Device) : Device :=
  let k := d.stroke p
  let e := schedEntry k.active i
  if (d.stkState p = 2 ∨ d.stkState p = 3) ∧ k.begun ∧ !d.closed p ∧ i < schedNent k.active ∧ e.action = action ∧ !k.fired.contains i then
    let d := d.reach (d.startOf p k.cur + e.offset * nsUnit)
    f ((d.setStroke p { k with fired := k.fired ++ [i] }).bump (Reg.STK_FIRED p) 1) e
  else d

/-- The record of a refused argument: the receiving unit's status and the entry's index. -/
def Device.phaseFault (d : Device) (p i status source detail : Nat) : Device :=
  d.raise { status := status, source := source, part := p, index := i, stroke := d.strokeOf p, detail := detail }

/-- GANG_START and REPLAY_START: a replay start on each core of a mask, a core with no slot apart (R20, R239). -/
def Device.startCores (d : Device) (p mask : Nat) : Device :=
  ((d.coresOf p).filter (fun c => mask.testBit c && d.hasSlot c)).foldl (fun d c => d.replayStart c) d

def Device.gangStart (d : Device) (p i : Nat) : Device := d.phase p i 1 (fun d _ => d.startCores p (2 ^ 128 - 1))

def Device.replayPhase (d : Device) (p i : Nat) : Device :=
  d.phase p i 2 (fun d e => d.startCores p (schedSet (d.stroke p).active e.cset))

/-- BUCKET_OPEN and BUCKET_CLOSE: a window number above 255 is refused (R367). -/
def Device.bucketPhase (d : Device) (p i action : Nat) (f : Device → Nat → Device) : Device :=
  d.phase p i action (fun d e =>
    let w := e.arg % 0x10000
    if w > 255 then d.phaseFault p i St.BAD_FIELD 7 action else f d w)

/-- CHECKPOINT: the request counts in strokes whose number is a multiple of k (R347). -/
def Device.ckptPhase (d : Device) (p i : Nat) : Device :=
  d.phase p i 5 (fun d e =>
    if d.strokeOf p % (bits e.arg 15 8 + 1) = 0 then d.setStroke p { d.stroke p with ckpt := some (bits e.arg 7 0) } else d)

/-- The sources that partition p's EVENT actions may raise: its USER sources, and the windows of the VFs bound to it (R545). -/
def Device.mayRaise (d : Device) (p src : Nat) : Bool :=
  (decide (0x108 + 16 * p ≤ src) && decide (src < 0x110 + 16 * p)) ||
    (List.range 16).any (fun v =>
      let fn := v + 1
      let base := d.fld (Reg.EVT_FN_WIN fn) 11 0
      d.boundPart fn == some p && decide (base ≤ src) && decide (src < base + d.fld (Reg.EVT_FN_WIN fn) 24 16))

def Device.eventPhase (d : Device) (p i : Nat) : Device :=
  d.phase p i 6 (fun d e =>
    let src := bits e.arg 11 0
    if d.mayRaise p src then d.fire src else d.phaseFault p i St.ACCESS_DENIED 18 e.arg)

/-! ## The sluice (R246, R353, R354) -/

/-- The sluice on one core: a RUNNING core becomes IDLE with a boundary, every queued command is cancelled, its barrier arrivals withdrawn. -/
def Device.coreSluice (d : Device) (p c : Nat) : Device :=
  let d := if (d.core c).run = .running then (d.modCore c (fun k => { k with run := .idle })).boundary c else d
  let n := (List.range 6).foldl (fun (n : Nat) q => n + ((d.core c).queue q).length) 0
  (((List.range 6).foldl (fun d q => d.cancelQueue c q) d).leaveBarriers c).bump (Reg.STK_CANCELLED p) n

/-- SLUICE: T_sluice of the stroke is reached (R353). -/
def Device.sluice (d : Device) (p : Nat) : Device :=
  let k := d.stroke p
  if (d.stkState p = 2 ∨ d.stkState p = 3) ∧ !d.closed p then
    let t := (d.startOf p k.next - (d.guard p : Int)).toNat
    let d := ((d.reach t).setFlag (Reg.STK_STATUS p) 29 true).setFlag (Reg.STK_STATUS p) 28 false
    let d := (d.coresOf p).foldl (fun d c => d.coreSluice p c) d
    ((d.redSluice p t).updSluice p).setStroke p { k with draining := some t }
  else d

/-- DRAIN_COMPLETE: the last engine is empty; semaphores are cleared (R246, R354), and a STOPPING schedule becomes FREE (R349). -/
def Device.drainComplete (d : Device) (p : Nat) : Device :=
  match (d.stroke p).draining with
  | none => d
  | some t =>
    if !d.partEmpty p then d
    else
      let d := (d.coresOf p).foldl (fun d c => d.modCore c (fun k => { k with sem := [] })) d
      let d := (d.setStroke p { d.stroke p with draining := none }).setFlag (Reg.STK_STATUS p) 28 true
      let ns := min 0xFFFFFFFF (ceilDiv (d.now - t) nsUnit)
      let d := if ns > (d.reg (Reg.STK_DRAIN_MAX p)).toNat then (d.setReg (Reg.STK_DRAIN_MAX p) (BitVec.ofNat 32 ns)).firePart p 1 else d
      if d.stkState p = 3 then d.setStk p 0 else d

/-- A function-level reset of the partition: FREE, both copies of the schedule cleared (R349). -/
def Device.strokeReset (d : Device) (p : Nat) : Device :=
  let d := ((d.setStk p 0).setFlag (Reg.STK_STATUS p) 29 false).setFlag (Reg.STK_STATUS p) 28 true
  let d := (d.shadow p).foldl (fun d e => d.setReg (Reg.STK p + e.1) 0#32) d
  let d := [Reg.STK_START_0 p, Reg.STK_START_1 p, Reg.STK_START_2 p, Reg.STK_FIRST p, Reg.STK_CTL p].foldl (fun d r => d.setReg r 0#32) d
  { d with strokes := Cells.erase d.strokes p }

end Machine
end Sys2Proof
end

