-- ==== Sys2Proof/Machine/Checkpoint.lean ====
section
/-!
DEFINITION. Checkpoint slices (R471-R480) and their restoring (R481).
-/
namespace Sys2Proof
namespace Machine

/-! ## Plans (R471, R477) -/

/-- A record of the slice-plan table. -/
structure Plan where
  flags : Nat
  nreg : Nat
  regions : Nat
  dest : Nat
  dmap : Nat
  mflow : Nat
  mdest : Nat
  deriving DecidableEq, Repr

def planOf (b : List Byte) : Plan :=
  { flags := leAt b 0 1, nreg := leAt b 4 4, regions := leAt b 8 8, dest := leAt b 16 8, dmap := leAt b 24 8, mflow := leAt b 32 4,
    mdest := leAt b 40 8 }

def Plan.incr (x : Plan) : Bool := bit x.flags 1
def Plan.mirrored (x : Plan) : Bool := bit x.flags 2

/-- Whether a plan record fails R471. -/
def planBad (b : List Byte) : Bool :=
  let x := planOf b
  !bit x.flags 0 || bits x.flags 7 3 != 0 || leAt b 1 3 != 0 || decide (x.nreg < 1) || decide (x.nreg > 4096) || x.dest % 0x10000 != 0
    || (!x.incr && x.dmap != 0) || (if x.mirrored then decide (x.mflow ≥ 0x40000) else x.mflow != 0) || leAt b 36 4 != 0 || leAt b 48 16 != 0

/-- The address of plan i of partition p. -/
def Device.planAddr (d : Device) (p i : Nat) : Nat :=
  d.fld (Reg.CIS_CKPT_PLAN_LO p) 31 6 * 64 + d.fld (Reg.CIS_CKPT_PLAN_HI p) 15 0 * 0x100000000 + 64 * i

/-- Reads a plan record. -/
def Device.readPlan (d : Device) (p i : Nat) : Device × Except Nat (List Byte) :=
  let r := d.readVa p (d.planAddr p i) 64
  if r.2.2.1 = St.OK then (r.1, .ok r.2.1) else (r.1, .error r.2.2.1)

/-- Translates n pages of 64 KiB from an address on, each into memory that the test accepts: address and physical page of each. -/
def Device.xlatePages (d : Device) (p : Nat) (acc : Access) (ok : Region → Bool) (va : Nat) : Nat → Device × Except Nat (List (Nat × Nat))
  | 0 => (d, .ok [])
  | n + 1 =>
    match d.translate p acc va with
    | (d, .error st) => (d, .error st)
    | (d, .ok pa) =>
      if !ok (regionOf pa) then (d, .error St.BAD_RANGE)
      else
        match d.xlatePages p acc ok (va + 0x10000) n with
        | (d, .error st) => (d, .error st)
        | (d, .ok l) => (d, .ok ((va, pa / 0x10000) :: l))

/-- HBM or cistern; cistern alone. -/
def isDram : Region → Bool
  | .hbm | .cistern _ => true
  | _ => false

def isCistern : Region → Bool
  | .cistern _ => true
  | _ => false

/-- Whether a region entry fails R471. -/
def regionBad (e : List Byte) : Bool :=
  leAt e 0 8 % 0x10000 != 0 || decide (leAt e 8 4 < 1) || decide (leAt e 8 4 > 0x1000000) || leAt e 12 4 != 0

/-- The pages of a list of region entries, in plan order. -/
def Device.regionPages (d : Device) (p : Nat) (acc : Access) : List (List Byte) → Device × Except Nat (List (Nat × Nat))
  | [] => (d, .ok [])
  | e :: es =>
    match d.xlatePages p acc isDram (leAt e 0 8) (leAt e 8 4) with
    | (d, .error st) => (d, .error st)
    | (d, .ok l) =>
      match d.regionPages p acc es with
      | (d, .error st) => (d, .error st)
      | (d, .ok l') => (d, .ok (l ++ l'))

/-- The plan's pages: address and physical page of page 0 to NP - 1 (R471). -/
def Device.planPages (d : Device) (p : Nat) (acc : Access) (x : Plan) : Device × Except Nat (List (Nat × Nat)) :=
  let r := d.readVa p x.regions (16 * x.nreg)
  if r.2.2.1 ≠ St.OK then (r.1, .error r.2.2.1)
  else
    let es := chunks 16 x.nreg r.2.1
    if es.any regionBad then (r.1, .error St.BAD_FIELD) else r.1.regionPages p acc es

/-- The incremental plans of a partition among the first n, in table order (R476, R477). -/
def Device.incrPlans (d : Device) (p : Nat) : List Nat → Device × Except Nat (List (Nat × Plan))
  | [] => (d, .ok [])
  | i :: is =>
    match d.readPlan p i with
    | (d, .error st) => (d, .error st)
    | (d, .ok b) =>
      match d.incrPlans p is with
      | (d, .error st) => (d, .error st)
      | (d, .ok l) => (d, .ok (if bit (leAt b 0 1) 0 && bit (leAt b 0 1) 1 then (i, planOf b) :: l else l))

/-- A plan whose checks have passed: its pages, the physical pages of its two slots, the partition's incremental plans. -/
structure PlanOk where
  plan : Plan
  pages : List (Nat × Nat)
  area : List (Nat × Nat)
  incrs : List (Nat × Plan)
  deriving DecidableEq, Repr

/-- The checks of a slice or a restore of plan i (R471, R473, R477). -/
def Device.planCheck (d : Device) (p i : Nat) (regions area : Access) : Device × Except Nat PlanOk :=
  if i ≥ d.fld (Reg.CIS_CKPT_CTL p) 8 0 then (d, .error St.BAD_FIELD)
  else
    match d.readPlan p i with
    | (d, .error st) => (d, .error st)
    | (d, .ok b) =>
      if planBad b then (d, .error St.BAD_FIELD)
      else
        match d.incrPlans p (List.range (d.fld (Reg.CIS_CKPT_CTL p) 8 0)) with
        | (d, .error st) => (d, .error st)
        | (d, .ok incrs) =>
          if incrs.length > 8 then (d, .error St.BAD_FIELD)
          else
            match d.planPages p regions (planOf b) with
            | (d, .error st) => (d, .error st)
            | (d, .ok pages) =>
              match d.xlatePages p area isCistern (planOf b).dest (2 * (pages.length + 1)) with
              | (d, .error st) => (d, .error st)
              | (d, .ok a) => (d, .ok { plan := planOf b, pages := pages, area := a, incrs := incrs })

/-! ## Slot headers (R472) -/

def hdrState (h : List Byte) : Nat := if leAt h 60 4 = crc32c (h.take 60) ∧ leAt h 2 1 ≤ 2 then leAt h 2 1 else 0
def hdrSeq (h : List Byte) : Nat := leAt h 8 8

/-- The slot with the newest copy (R472). -/
def newestSlot (h0 h1 : List Byte) : Option Nat :=
  match hdrState h0 == 2, hdrState h1 == 2 with
  | true, true => some (if hdrSeq h1 > hdrSeq h0 then 1 else 0)
  | true, false => some 0
  | false, true => some 1
  | false, false => none

/-- The header of a slice's target. -/
def Slice.header (s : Slice) (valid : Bool) : List Byte :=
  let b := toLe 2 s.plan ++ toLe 1 (if valid then 2 else 1) ++ toLe 1 s.info ++ toLe 4 s.stroke ++ toLe 8 s.seq ++ toLe 8 s.time ++ toLe 4 s.np
    ++ toLe 4 (if valid then s.pages.length else 0) ++ List.replicate 28 0#8
  b ++ toLe 4 (crc32c b)

/-- The two headers of a slot area, as the controllers read them; an uncorrectable one reads as EMPTY. -/
def Device.readHeaders (d : Device) (area : List (Nat × Nat)) (np : Nat) : Device × List Byte × List Byte :=
  let page := fun (i : Nat) => ((area[i]?).getD (0, 0)).2
  let r0 := d.dramRead (page 0 * 0x10000) 64
  let r1 := r0.1.dramRead (page (np + 1) * 0x10000) 64
  (r1.1, (if r0.2.2 then [] else r0.2.1), (if r1.2.2 then [] else r1.2.1))

/-! ## Bitmaps (R476) -/

def mapBit (m : List Byte) (j : Nat) : Bool := ((m[j / 8]?).getD 0#8).toNat.testBit (j % 8)

/-- The bitmap of n bits that a test sets. -/
def makeMap (n : Nat) (f : Nat → Bool) : List Byte :=
  (List.range (ceilDiv n 8)).map (fun b => BitVec.ofNat 8
    ((List.range 8).foldl (fun (x : Nat) k => x + (if decide (8 * b + k < n) && f (8 * b + k) then 2 ^ k else 0)) 0))

/-- The fold of the dirty bits into one incremental plan's map D: its new bytes, and its physical pages. A plan whose own regions cannot be
read takes no part. -/
def Device.foldPlan (d : Device) (p : Nat) (x : Plan) : Device × Option (List Byte × List Nat) :=
  match d.planPages p .read x with
  | (d, .error _) => (d, none)
  | (d, .ok pages) =>
    let n := pages.length
    let r := d.readVa p x.dmap (ceilDiv n 8)
    let ps := pages.map (·.2)
    (r.1, some (makeMap n (fun j => mapBit r.2.1 j || Cells.get false d.dirty ((ps[j]?).getD 0)), ps))

/-- The folds of the incremental plans: plan, new map D, pages. -/
def Device.foldPlans (d : Device) (p : Nat) : List (Nat × Plan) → Device × List (Nat × Plan × List Byte × List Nat)
  | [] => (d, [])
  | (i, x) :: rest =>
    let r := d.foldPlan p x
    let q := r.1.foldPlans p rest
    match r.2 with
    | some (m, ps) => (q.1, (i, x, m, ps) :: q.2)
    | none => q

/-! ## The end of a slice (R473, R478, R479) -/

/-- A slice, or a request, ends with a status: ERR and ERR_STATUS, or SLICES; CHECKPOINT fires; its command completes. -/
def Device.sliceResult (d : Device) (p owner st seq : Nat) : Device :=
  let d := if st = St.OK then d.bump (Reg.CIS_CKPT_SLICES p) 1
    else (d.setFlag (Reg.CIS_CKPT_STATUS p) 29 true).setFld (Reg.CIS_CKPT_STATUS p) 15 0 st
  (d.firePart p 6).complete owner st (if st = St.OK then seq % 0x100000000 else 0)

/-- Messages of a slice or a restore that are still on their way have no owner any more. -/
def Device.orphan (d : Device) (p : Nat) : Device :=
  let mine := fun (m : TxMsg) => match m.owner with | .mirror q | .restore q | .header q _ => q == p | _ => false
  { d with aq := { d.aq with
      failed := Cells.erase d.aq.failed p
      flows := d.aq.flows.map (fun e => (e.1, { e.2 with msgs := e.2.msgs.map (fun m => if mine m then { m with owner := .response } else m) })) } }

/-- The slice of a partition ends: it releases the writes it holds (R479). -/
def Device.sliceEnd (d : Device) (p st : Nat) : Device :=
  match Cells.find? d.svc.ckpt p with
  | none => d
  | some s =>
    let d := { d with heldPages := d.heldPages.filter (fun h => h.part != p), svc := { d.svc with ckpt := Cells.erase d.svc.ckpt p } }
    (d.orphan p).sliceResult p s.owner st s.seq

/-! ## The start of a slice (R473, R474, R476) -/

/-- Hands a message of a slice or a restore to a flow of the partition (R436); the status where the flow refuses it (R425). -/
def Device.flowPost (d : Device) (p f : Nat) (m : TxMsg) : Device :=
  match d.flow f with
  | none => d.aqFinish p m St.FLOW_CLOSED
  | some x =>
    if x.part ≠ p ∨ x.phase = .closing then d.aqFinish p m St.FLOW_CLOSED
    else if x.phase = .broken then d.aqFinish p m St.FLOW_BROKEN
    else d.aqPost f m

/-- A WRITE of the mirror: UNTIMED, to an address of the buddy's partition (R478). -/
def Device.mirrorWrite (d : Device) (p f addr : Nat) (bs : List Byte) : Device :=
  d.flowPost p f { owner := .mirror p, op := 1, untimed := true, stroke := d.strokeOf p, addr := addr, oparg := 0, rest := splitMsg d.aqMtu bs }

/-- A header with the zeros that fill its page. -/
def headerPage (h : List Byte) : List Byte := h ++ List.replicate (0x10000 - h.length) 0#8

/-- The slice proceeds from its capture point (R474): caches released, target chosen, dirty bits folded, pages held, header written. -/
def Device.sliceCapture (d : Device) (p i owner : Nat) (x : PlanOk) : Device :=
  let d := ((List.range 16).filter (fun g => (d.clustersOf p).toNat.testBit g)).foldl (fun d g => d.releaseAll g) d
  let np := x.pages.length
  let time := timeShort d.now
  let h := d.readHeaders x.area np
  let newest := newestSlot h.2.1 h.2.2
  let target := match newest with | some s => 1 - s | none => 0
  let th := if target = 0 then h.2.1 else h.2.2
  let baseOk := hdrState th == 2 || (hdrState th == 1 && bit (leAt th 3 1) 1 && x.plan.incr)
  let seq := (match newest with | some s => hdrSeq (if s = 0 then h.2.1 else h.2.2) | none => 0) + 1
  let f := h.1.foldPlans p x.incrs
  let d := f.1
  let own := f.2.find? (fun e => e.1 == i)
  let prev := d.readVa p (x.plan.dmap + ceilDiv np 8) (ceilDiv np 8)
  let whole := !(x.plan.incr && baseOk)
  let d := if x.plan.incr then prev.1 else d
  let chosen := (List.range np).filter (fun j => whole ||
    (match own with | some (_, _, m, _) => mapBit m j | none => true) || mapBit prev.2.1 j)
  let d := if x.plan.incr && !baseOk then d.bump (Reg.CIS_CKPT_PROMOTED p) 1 else d
  let d := { d with dirty := f.2.foldl (fun (m : Cells Bool) (e : Nat × Plan × List Byte × List Nat) => e.2.2.2.foldl (fun m q => Cells.set false m q false) m) d.dirty }
  let page := fun (k : Nat) => ((x.area[k]?).getD (0, 0)).2
  let base := target * (np + 1)
  let s : Slice := {
    plan := i, stroke := d.strokeOf p, time := time, target := target, head := page base, seq := seq, np := np
    info := (if whole then 1 else 0) + (if baseOk then 2 else 0), pages := chosen, incr := x.plan.incr, dmap := x.plan.dmap
    mirror := if x.plan.mirrored then some (x.plan.mflow, x.plan.mdest + 0x10000 * base) else none, owner := owner }
  let d := { d with
    heldPages := d.heldPages ++ chosen.map (fun j => ({ page := ((x.pages[j]?).getD (0, 0)).2, dst := page (base + 1 + j), part := p } : HeldPage))
    svc := { d.svc with ckpt := Cells.put d.svc.ckpt p s } }
  let d := d.setFlag (Reg.CIS_CKPT_STATUS p) 28 (target == 1)
  let d := f.2.foldl (fun d e => (d.writeVa p e.2.1.dmap e.2.2.1).1) d
  let d := (d.memWrite (page base * 0x10000) (headerPage (s.header false))).1
  match s.mirror with
  | some (flow, addr) => d.mirrorWrite p flow addr (headerPage (s.header false))
  | none => d

/-- A slice of plan i starts for a command: checked first, it may end before it touches anything (R473). -/
def Device.sliceStart (d : Device) (p i owner : Nat) : Device :=
  let d := d.setFld (Reg.CIS_CKPT_STATUS p) 23 16 i
  match d.planCheck p i .read .write with
  | (d, .error st) => d.sliceResult p owner st 0
  | (d, .ok x) => d.sliceCapture p i owner x

/-- A request while a slice of the partition is at work (R473). -/
def Device.sliceBusy (d : Device) (p i : Nat) : Device :=
  ((d.bump (Reg.CIS_CKPT_MISSED p) 1).raise
    { status := St.CKPT_BUSY, source := 14, part := p, index := i, stroke := d.strokeOf p }).firePart p 6

/-- The ring of commands that no host has sent: the schedule's slices (R510, KIND 1). -/
def hiddenRing (p : Nat) : Nat := 0x20000 + p

/-- A command for a slice that the schedule starts. -/
def Device.hiddenCmd (d : Device) (p i : Nat) : Device × Nat :=
  let id := d.zn.nextCmd
  ({ d with zn := { d.zn with
      nextCmd := id + 1
      cmds := Cells.put d.zn.cmds id { fn := 0, ring := hiddenRing p, opcode := 0x0602, part := p, pkt := List.replicate 16 0#8 ++ toLe 2 i,
                                       state := .running, ran := true } } }, id)

/-- The partition stands in the drain after a sluice (R355). -/
def Device.drained (d : Device) (p : Nat) : Bool := d.closed p && d.flag (Reg.STK_STATUS p) 28

/-- The plan of a ZN_CKPT or ZN_RESTORE. -/
def ZCmd.plan (c : ZCmd) : Nat := leAt c.pkt 16 2

/-- The oldest host request for a slice of a partition that waits its turn. -/
def Device.waitingSlice (d : Device) (p : Nat) : Option (Nat × ZCmd) :=
  d.zn.cmds.find? (fun e => e.2.opcode == 0x0602 && e.2.part == p && e.2.state == .queued)

/-- CKPT_SLICE_START (R355, R473): the schedule's request of this stroke, else the oldest request of the host, at a drain or in a free-running
partition. -/
def Device.ckptStart (d : Device) (p : Nat) : Device :=
  let k := d.stroke p
  let busy := (Cells.find? d.svc.ckpt p).isSome
  if d.standby then d
  else
    match k.ckpt with
    | some i =>
      if !d.drained p then d
      else
        let d := d.setStroke p { k with ckpt := none }
        if busy then d.sliceBusy p i
        else
          let r := d.hiddenCmd p i
          r.1.sliceStart p i r.2
    | none =>
      if busy ∨ !(d.stkState p = 0 ∨ d.drained p) then d
      else
        match d.waitingSlice p with
        | none => d
        | some (id, c) =>
          ({ d with zn := { d.zn with cmds := Cells.put d.zn.cmds id { c with state := .running, ran := true } } }).sliceStart p c.plan id

/-! ## Copying and validating (R475, R478) -/

/-- Copies the pages that a slice still holds, in ascending page index. -/
def Device.copyHeld (d : Device) (p : Nat) : Nat → Device
  | 0 => d
  | n + 1 =>
    match d.heldPages.find? (fun h => h.part == p) with
    | none => d
    | some h =>
      let d := { d with heldPages := d.heldPages.filter (fun x => x != h) }
      (((d.copyAhead h.dst (d.heldPages.length + 1)).copyPage h.page h.dst).bump64 (Reg.CIS_CKPT_PAGES_LO p) 1).copyHeld p n

/-- The slice becomes VALID at home (R478): the header, the maps of its plan (R476), and its end. -/
def Device.sliceValid (d : Device) (p : Nat) (s : Slice) : Device :=
  let d := (d.memWrite (s.head * 0x10000) (s.header true)).1
  let n := ceilDiv s.np 8
  let d := if s.incr then
      let r := d.readVa p s.dmap n
      (r.1.writeVa p s.dmap (List.replicate n 0#8 ++ r.2.1)).1
    else d
  d.sliceEnd p St.OK

/-- The pages of a slice, its FENCE and its VALID header go to the buddy (R478). A page that is uncorrectable ends the slice. -/
def Device.mirrorSend (d : Device) (p : Nat) (s : Slice) (f addr : Nat) : Device :=
  let post := fun (d : Device) j =>
    let r := d.dramRead ((s.head + j + 1) * 0x10000) 0x10000
    if r.2.2 then { r.1 with aq := { r.1.aq with failed := Cells.put r.1.aq.failed p St.UNCORRECTABLE } }
    else r.1.mirrorWrite p f (addr + 0x10000 * (j + 1)) r.2.1
  let d := s.pages.foldl post d
  let d := d.flowPost p f { owner := .mirror p, op := 8, untimed := true, stroke := d.strokeOf p, addr := 0, oparg := 0, rest := [(0, [])] }
  let d := d.mirrorWrite p f addr (s.header true)
  { d with svc := { d.svc with ckpt := Cells.put d.svc.ckpt p { s with sent := true } } }

/-- Messages of a slice or a restore of a partition that are not complete. -/
def Device.awaiting (d : Device) (p : Nat) : Bool :=
  d.aq.flows.any (fun e => e.2.msgs.any (fun m => match m.owner with | .mirror q | .restore q | .header q _ => q == p | _ => false))

/-- Whether the command behind a slice lets it go on: RUNNING, or SUSPENDING while it has not stopped. -/
def Device.opWorks (d : Device) (id : Nat) : Bool :=
  match Cells.find? d.zn.cmds id with
  | some c => c.state == .running || c.state == .suspending
  | none => false

/-- CKPT_VALIDATE (R478): the last copy is made; without a mirror the slot is VALID, with one the pages go to the buddy, and the slot is VALID once
the last WRITE has completed. -/
def Device.ckptValidate (d : Device) (p : Nat) : Device :=
  match Cells.find? d.svc.ckpt p with
  | none => d
  | some s =>
    if !d.opWorks s.owner ∨ d.standby then d
    else
      match Cells.find? d.aq.failed p with
      | some st => d.sliceEnd p st
      | none =>
        if s.sent then (if d.awaiting p then d else d.sliceValid p s)
        else
          let d := d.copyHeld p d.heldPages.length
          match s.mirror with
          | none => d.sliceValid p s
          | some (f, addr) => d.mirrorSend p s f addr

/-! ## Restoring (R481) -/

/-- The READ of a header or a page from the buddy. -/
def Device.restoreRead (d : Device) (p f : Nat) (owner : AqOwner) (raddr laddr n : Nat) : Device :=
  d.flowPost p f { owner := owner, op := 2, untimed := true, stroke := d.strokeOf p, addr := raddr, oparg := n, rest := [(0, [])], laddr := laddr,
                   want := n }

/-- Pages of the newest local copy go back to the regions, in ascending page index, past the cluster caches. -/
def Device.restorePages (d : Device) : List (Nat × Nat) → Device
  | [] => d
  | (src, dst) :: rest =>
    let d := (d.openPages dst 1).copyPage src dst
    (d.notify (dst * 0x400) 0x400).restorePages rest

/-- The work of a ZN_RESTORE as far as it can go: its end with a status and SEQ, or it goes on. -/
def Device.restoreWork (d : Device) (c : ZCmd) : Device × Option (Nat × Nat) :=
  let p := c.part
  let flow := leAt c.pkt 20 4
  let buddy := leAt c.pkt 24 8
  let seqOf := fun (h : List Byte) => hdrSeq h % 0x100000000
  match d.planCheck p c.plan .write .read with
  | (d, .error st) => (d, some (st, 0))
  | (d, .ok x) =>
    let np := x.pages.length
    if leAt c.pkt 18 1 = 0 then
      let h := d.readHeaders x.area np
      match newestSlot h.2.1 h.2.2 with
      | none => (h.1, some (St.NO_CHECKPOINT, 0))
      | some s =>
        let moves := (List.range np).map (fun j => (((x.area[s * (np + 1) + 1 + j]?).getD (0, 0)).2, ((x.pages[j]?).getD (0, 0)).2))
        (h.1.restorePages moves, some (St.OK, seqOf (if s = 0 then h.2.1 else h.2.2)))
    else
      match Cells.find? d.aq.failed p with
      | some st => (d.orphan p, some (st, 0))
      | none =>
        let size := 0x10000 * (np + 1)
        if c.progress = 0 then
          let d := { d with svc := { d.svc with headers := Cells.erase (Cells.erase d.svc.headers (2 * p)) (2 * p + 1) } }
          ((d.restoreRead p flow (.header p 0) buddy 0 64).restoreRead p flow (.header p 1) (buddy + size) 0 64, none)
        else if d.awaiting p then (d, none)
        else
          let h0 := (Cells.find? d.svc.headers (2 * p)).getD []
          let h1 := (Cells.find? d.svc.headers (2 * p + 1)).getD []
          match newestSlot h0 h1 with
          | none => (d, some (St.NO_CHECKPOINT, 0))
          | some s =>
            if c.progress = 1 then
              ((List.range np).foldl (fun d j => d.restoreRead p flow (.restore p) (buddy + s * size + 0x10000 * (j + 1))
                ((x.pages[j]?).getD (0, 0)).1 0x10000) d, none)
            else (d, some (St.OK, seqOf (if s = 0 then h0 else h1)))

end Machine
end Sys2Proof
end

