-- ==== Sys2Proof/Machine/Store.lean ====
section
/-!
DEFINITION. The configuration store (R589-R595): the copy in force, changes one at a time, bank writes and their failure, and
the slot directory that one of its records holds (R580).
-/
namespace Sys2Proof
namespace Machine

/-! ## Copies (R589, R591) -/

/-- The records of the copy in force; the store is empty where no bank is valid (R591). -/
def Device.storeCopy (d : Device) : Option StoreCopy :=
  if d.flag Reg.CFG_STATUS 31 then d.boot.bank1 else d.boot.bank0

def Device.storeRecords (d : Device) : List (Nat × List Byte) :=
  match d.storeCopy with
  | some c => c.records
  | none => []

/-- A record of a list. -/
def recordOf (k : Nat) (l : List (Nat × List Byte)) : Option (List Byte) := (l.find? (fun r => r.1 == k)).map (·.2)

/-- A record of the copy in force. -/
def Device.storeGet (d : Device) (k : Nat) : Option (List Byte) := recordOf k d.storeRecords

/-- Bytes of a record with its header and padding. -/
def recordBytes (r : Nat × List Byte) : Nat := ceilDiv (4 + r.2.length) 8 * 8

/-- Bytes of a copy: 36 + LEN. -/
def storeBytes (l : List (Nat × List Byte)) : Nat := 36 + l.foldl (fun (n : Nat) r => n + recordBytes r) 0

/-- The size of a bank. -/
def bankSize : Nat := 0x40000

/-- Records with one set or removed, in ascending key order. -/
def setRecord (l : List (Nat × List Byte)) (k : Nat) (v : Option (List Byte)) : List (Nat × List Byte) :=
  match v with
  | none => l.filter (fun r => r.1 != k)
  | some b => l.filter (fun r => decide (r.1 < k)) ++ [(k, b)] ++ l.filter (fun r => decide (k < r.1))

/-- The records after a change (R590). -/
def StoreChange.apply (c : StoreChange) (l : List (Nat × List Byte)) : List (Nat × List Byte) :=
  let l := if c.dropOwner then l.filter (fun r => decide (r.1 < 0x100)) else l
  c.sets.foldl (fun l s => setRecord l s.1 s.2) l

/-- The records as they will stand once every waiting change is done. -/
def Device.storeAhead (d : Device) : List (Nat × List Byte) :=
  d.boot.changes.foldl (fun l c => c.apply l) (d.boot.volatileRecs.foldl (fun l r => setRecord l r.1 (some r.2)) d.storeRecords)

/-- Shows the copy in force in CFG_SEQ and CFG_USED. -/
def Device.showStore (d : Device) : Device :=
  match d.storeCopy with
  | some c => (d.setReg Reg.CFG_SEQ (BitVec.ofNat 32 c.seq)).setReg Reg.CFG_USED (BitVec.ofNat 32 (storeBytes c.records))
  | none => (d.setReg Reg.CFG_SEQ 0#32).setReg Reg.CFG_USED 0#32

/-! ## The slot directory (R580, R593) -/

/-- The slot directory as bytes, zero where the store holds none. -/
def Device.slotDir (d : Device) : List Byte := (recordOf 0x0001 d.storeAhead).getD (List.replicate 112 0#8)

/-- An entry of the slot directory. -/
structure SlotEntry where
  active : Nat
  trial : Bool
  stateA : Nat
  stateB : Nat
  verA : Nat
  verB : Nat
  svnA : Nat
  svnB : Nat
  deriving DecidableEq, Repr

def slotEntry (dir : List Byte) (s : Nat) : SlotEntry :=
  let f := fun (o n : Nat) => leNat ((dir.drop (16 * s + o)).take n)
  { active := f 0 1, trial := bit (f 1 1) 0, stateA := f 2 1, stateB := f 3 1, verA := f 4 2, verB := f 6 2, svnA := f 8 1, svnB := f 9 1 }

def SlotEntry.state (e : SlotEntry) (i : Nat) : Nat := if i = 0 then e.stateA else e.stateB
def SlotEntry.version (e : SlotEntry) (i : Nat) : Nat := if i = 0 then e.verA else e.verB
def SlotEntry.svn (e : SlotEntry) (i : Nat) : Nat := if i = 0 then e.svnA else e.svnB
def SlotEntry.setState (e : SlotEntry) (i v : Nat) : SlotEntry := if i = 0 then { e with stateA := v } else { e with stateB := v }
def SlotEntry.setImage (e : SlotEntry) (i v ver svn : Nat) : SlotEntry :=
  if i = 0 then { e with stateA := v, verA := ver, svnA := svn } else { e with stateB := v, verB := ver, svnB := svn }

def SlotEntry.bytes (e : SlotEntry) : List Byte :=
  toLe 1 e.active ++ toLe 1 (if e.trial then 1 else 0) ++ toLe 1 e.stateA ++ toLe 1 e.stateB ++ toLe 2 e.verA ++ toLe 2 e.verB
    ++ toLe 1 e.svnA ++ toLe 1 e.svnB ++ toLe 6 0

/-- The directory's entry of subsystem s, waiting changes included. -/
def Device.slots (d : Device) (s : Nat) : SlotEntry := slotEntry d.slotDir s

/-- The directory with the entry of subsystem s replaced. -/
def dirSet (dir : List Byte) (s : Nat) (e : SlotEntry) : List Byte := dir.take (16 * s) ++ e.bytes ++ dir.drop (16 * s + 16)

/-- Shows the directory in CFG_FW_s; VERSION is that of the image running (R599). -/
def Device.showSlots (d : Device) : Device :=
  (List.range 7).foldl (fun d s =>
    let e := d.slots s
    let run := d.boot.runningFw.contains s
    d.setReg (Reg.CFG_FW s) (BitVec.ofNat 32 (e.active % 2 * 0x80000000 + (if e.trial then 0x40000000 else 0)
      + e.stateA % 4 * 0x10000000 + e.stateB % 4 * 0x4000000 + (if run then e.version e.active else 0)))) d

/-! ## Changes (R590, R592) -/

/-- The store takes no more writes (R592): host changes end ST_BAD_STATE, internal ones stay in the firmware's memory. -/
def Device.refuseChange (d : Device) (c : StoreChange) : Device :=
  match c.owner with
  | some id => d.complete id St.BAD_STATE 0
  | none => { d with boot := { d.boot with volatileRecs := c.apply d.boot.volatileRecs } }

/-- A change arrives at the management firmware (R590). -/
def Device.storeChange (d : Device) (c : StoreChange) : Device :=
  if d.flag Reg.CFG_STATUS 25 then d.refuseChange c
  else ({ d with boot := { d.boot with changes := d.boot.changes ++ [c] } }.setFlag Reg.CFG_STATUS 24 true).showSlots

/-- One record set by the module itself. -/
def Device.storePut (d : Device) (k : Nat) (bs : List Byte) : Device := d.storeChange { sets := [(k, some bs)] }

/-- A change of subsystem s's entry. -/
def Device.storeSlots (d : Device) (s : Nat) (e : SlotEntry) (owner : Option Nat) : Device :=
  d.storeChange { sets := [(0x0001, some (dirSet d.slotDir s e))], owner := owner }

/-- The bank that the next copy goes to: the other one, or bank 0 for the first copy of an empty store (R590, R591). -/
def Device.nextBank (d : Device) : Nat :=
  match d.storeCopy with
  | none => 0
  | some _ => if d.flag Reg.CFG_STATUS 31 then 0 else 1

/-- Sets a bank and its VALID flag. -/
def Device.setBank (d : Device) (b : Nat) (c : Option StoreCopy) : Device :=
  if b = 0 then { d with boot := { d.boot with bank0 := c } }.setFlag Reg.CFG_STATUS 30 c.isSome
  else { d with boot := { d.boot with bank1 := c } }.setFlag Reg.CFG_STATUS 29 c.isSome

/-- A bank write whose read-back matched: the new copy is in force and the change done. -/
def Device.storeDone (d : Device) (c : StoreChange) (rest : List StoreChange) : Device :=
  let b := d.nextBank
  let seq := match d.storeCopy with | some x => (x.seq + 1) % 0x100000000 | none => 1
  let d := d.setBank b (some { seq := seq, records := c.apply d.storeRecords })
  let d := ((d.setFlag Reg.CFG_STATUS 31 (b == 1)).setFlag Reg.CFG_STATUS 24 (!rest.isEmpty)).bump Reg.CFG_WRITES 1
  let d := ({ d with boot := { d.boot with changes := rest, fails := 0 } }.showStore).showSlots
  match c.owner with
  | some id => d.complete id St.OK 0
  | none => d

/-- CFG_STORE_WRITE_DONE (R590, R592): the read-back of the bank write in progress matches, or does not; the second failure in a row marks the
bank bad and the store read-only. -/
def Device.storeWriteDone (d : Device) (ok : Bool) : Device :=
  match d.boot.changes with
  | [] => d
  | c :: rest =>
    if ok then d.storeDone c rest
    else
      let b := d.nextBank
      let d := (d.setBank b none).bump Reg.CFG_WRITES 1
      if d.boot.fails = 0 then { d with boot := { d.boot with fails := 1 } }
      else
        let d := ((d.setFlag Reg.CFG_STATUS (28 - b) true).setFlag Reg.CFG_STATUS 25 true).setFlag Reg.CFG_STATUS 24 false
        let d := { d with boot := { d.boot with changes := [], fails := 0 } }
        let d := match c.owner with
          | some id => d.complete id St.UNCORRECTABLE 0
          | none => { d with boot := { d.boot with volatileRecs := c.apply d.boot.volatileRecs } }
        ((rest.foldl (fun d c => d.refuseChange c) d).showSlots).fire Evt.DEVICE_FAULT

/-- The records that the module keeps of its slots, retired pages and granules (R593). -/
def Device.storeSlotMap (d : Device) : Device :=
  d.storePut 0x0002 ((List.range 16).flatMap (fun g => toLe 4 (d.reg (Reg.HUB_SLOTMAP g)).toNat) ++
    (List.range 16).flatMap (fun g => toLe 4 (d.reg (Reg.HUB_SLOTSTAT g)).toNat))

end Machine
end Sys2Proof
end

