-- ==== Sys2Proof/Machine/Service.lean ====
section
/-!
DEFINITION. Live service (R15-R20, R483-R492): failed slots and core sparing, page retirement, and the service states of dies, cistern
chiplets and partitions, with the enables held while one shuts down.
-/
namespace Sys2Proof
namespace Machine

/-! ## The debug session (R563) -/

/-- The debug level. -/
def Device.dbgLevel (d : Device) : Nat := d.fld Reg.SEC_STATE 23 22

/-- Sets the debug level and the session's partition; a change of level fires LIFECYCLE. -/
def Device.setDebug (d : Device) (level p : Nat) : Device :=
  let was := d.dbgLevel
  let d := (d.setFld Reg.SEC_STATE 23 22 level).setFld Reg.SEC_STATE 19 16 (if level = 0 then 0 else p)
  if was = level then d else d.fire Evt.LIFECYCLE

/-- Closes the session. -/
def Device.closeDebug (d : Device) : Device := d.setDebug 0 0

/-! ## Slots (R16-R20) -/

/-- The physical slot of a logical core; 0xF for none. -/
def Device.slotOf (d : Device) (c : Nat) : Nat := d.fld (Reg.HUB_SLOTMAP (c / 8)) (4 * (c % 8) + 3) (4 * (c % 8))

def Device.putSlot (d : Device) (c v : Nat) : Device := d.setFld (Reg.HUB_SLOTMAP (c / 8)) (4 * (c % 8) + 3) (4 * (c % 8)) v

/-- Slot 8 of a cluster is neither retired nor in use (R484). -/
def Device.spareFree (d : Device) (g : Nat) : Bool := !d.flag (Reg.HUB_SLOTSTAT g) 14 && !d.flag (Reg.HUB_SLOTSTAT g) 8

/-- Marks the slot a core has had as retired (R21, R630). -/
def Device.retireSlot (d : Device) (c : Nat) : Device :=
  let old := d.slotOf c
  if old < 9 then d.setFlag (Reg.HUB_SLOTSTAT (c / 8)) old true else d

/-- The core as a core reset with lost memories leaves it: local SRAM zero, both instruction-memory banks blank (R485). -/
def Device.blankCore (d : Device) (c : Nat) : Device :=
  (d.coreReset c).modCore c (fun k =>
    { k with sram := [], sramBad := [], sramCe := [], imem := [], imemBad := [], bank := 0, faulted := false })

/-- The waiting sparing moves without those of core c; their commands end with a status. -/
def Device.endSpare (d : Device) (c st : Nat) : Device :=
  let mine := d.svc.spare.filter (fun m => m.core == c)
  let d := { d with
    svc := { d.svc with spare := d.svc.spare.filter (fun m => m.core != c) }
    fault := { d.fault with spareAsked := d.fault.spareAsked.filter (· != c), badWords := d.fault.badWords.filter (fun w => w.1 != c) } }
  mine.foldl (fun d m => match m.owner with | some id => d.complete id st 0 | none => d) d

/-- A logical core is left with no slot (R20): its field reads 0xF, its cluster DEGRADED; what it held is gone. -/
def Device.loseSlot (d : Device) (c : Nat) : Device :=
  let d := (d.retireSlot c).blankCore c
  (((d.putSlot c 0xF).setFlag (Reg.HUB_SLOTSTAT (c / 8)) 15 true).endSpare c St.NO_SPARE).storeSlotMap

/-- SLOT_FAILURE (R20, R485, R630): the slot behind core c fails. Where the spare is free the core is to move there; a slot that cannot be read
gives nothing to copy. -/
def Device.slotFailure (d : Device) (c : Nat) (readable : Bool) : Device :=
  if !d.hasSlot c then d
  else if !d.spareFree (c / 8) then d.loseSlot c
  else if d.svc.spare.any (fun m => m.core == c) then
    { d with svc := { d.svc with spare := d.svc.spare.map (fun m => if m.core = c then { m with readable := m.readable && readable } else m) } }
  else { d with svc := { d.svc with spare := d.svc.spare ++ [{ core := c, readable := readable }] } }

/-! ## The sparing move (R484, R485) -/

/-- The move: the state is the logical core's and goes with it, or is lost where the old slot cannot be read. -/
def Device.spareInto (d : Device) (m : SpareMove) : Device :=
  let c := m.core
  let d := if m.readable then d else d.blankCore c
  let d := ((d.retireSlot c).putSlot c 8).setFlag (Reg.HUB_SLOTSTAT (c / 8)) 14 true
  ((d.storeSlotMap).fire Evt.CORE_SPARED).endSpare c St.OK

/-- The device time of n core cycles, in 1/21 of 2^-16 ns: a cycle of P0, P1, P2 and P3 is a whole number of these (R566). -/
def Device.cycles21 (d : Device) (n : Nat) : Nat :=
  n * (match d.pState with | 0 => 860160 | 1 => 983040 | 2 => 1146880 | _ => 1720320)

/-- The queues and engines of core c are empty. -/
def Core.empty (k : Core) : Bool := (List.range 6).all (fun q => (k.queue q).isEmpty) && k.slots.isEmpty && k.toIssue.isEmpty

/-- A level 2 session holds the core HALTED (R574). -/
def Device.debugHolds (d : Device) (c : Nat) : Bool :=
  d.dbgLevel == 2 && d.partOf c == some (d.fld Reg.SEC_STATE 19 16) && (d.core c).run == .halted

/-- What a waiting move may do now: nothing, note a stroke without room, go, or go and let the next stroke be skipped. -/
inductive MoveNow where
  | wait
  | noRoom (stroke : Nat)
  | go
  | goSkip (part : Nat)
  deriving DecidableEq, Repr

def Device.moveNow (d : Device) (m : SpareMove) : MoveNow :=
  let k := d.core m.core
  if d.standby || d.debugHolds m.core || !k.empty then .wait
  else
    match d.partOf m.core with
    | none => .go
    | some p =>
      if d.stkState p = 0 then (if k.run = .running then .wait else .go)
      else if !d.drained p then .wait
      else if ((d.now * 21 + d.cycles21 16000 : Nat) : Int) ≤ 21 * d.startOf p (d.stroke p).next then .go
      else if m.waits ≥ 16 then .goSkip p
      else .noRoom (d.strokeOf p)

/-- The move that waits for a core: asked for by a command, a failed slot or the policy of R630. -/
def Device.spareWanted (d : Device) (c : Nat) : Option SpareMove :=
  match d.svc.spare.find? (fun m => m.core == c) with
  | some m => some m
  | none => if d.fault.spareAsked.contains c then some { core := c } else none

/-- CORE_SPARE_MOVE (R484, R485). -/
def Device.spareMove (d : Device) (c : Nat) : Device :=
  match d.spareWanted c with
  | none => d
  | some m =>
    if !d.hasSlot c then d.endSpare c St.CORE_UNAVAILABLE
    else if !d.spareFree (c / 8) then (if m.readable then d.endSpare c St.NO_SPARE else d.loseSlot c)
    else
      match d.moveNow m with
      | .wait => d
      | .go => d.exitIdle.spareInto m
      | .goSkip p => (d.setStroke p { d.stroke p with blocked := true }).spareInto m
      | .noRoom n =>
        let m' := if m.lastStroke = some n then m else { m with waits := m.waits + 1, lastStroke := some n }
        { d with svc := { d.svc with spare := d.svc.spare.filter (fun x => x.core != c) ++ [m'] } }

/-! ## Page retirement (R486) -/

/-- HUB_REMAP's register and low bit of a controller: stack 0-7, or 8 + chiplet. -/
def remapField (i : Nat) : Nat × Nat :=
  if i < 4 then (Reg.HUB_REMAP_0, 8 * i) else if i < 8 then (Reg.HUB_REMAP_1, 8 * (i - 4)) else (Reg.HUB_REMAP_CIS, 8 * (i - 8))

/-- The records of retired pages and granules (R593). -/
def Device.storeRemap (d : Device) : Device :=
  d.storePut 0x0003 (d.svc.remap.flatMap (fun e => toLe 6 (e.1 * 0x10000) ++ toLe 2 e.2))

def Device.storeGranules (d : Device) : Device := d.storePut 0x0004 (d.svc.granules.flatMap (fun g => toLe 8 (g * 0x200000)))

/-- The page at a physical address of DRAM goes to a spare page of its controller, its data corrected, poison kept; or its granule is retired
where the controller has no spare left. -/
def Device.retirePage (d : Device) (a : Nat) : Device :=
  let i := memIndex a
  let f := remapField i
  let used := d.fld f.1 (f.2 + 7) f.2
  let d := { d with fault := { d.fault with
    retireAsked := d.fault.retireAsked.filter (· != pageKey a), pages := d.fault.pages.filter (fun e => e.1 != pageKey a) } }
  if used < (if i < 8 then 64 else 128) then
    let d := { d with symErr := Cells.clear d.symErr (a / 0x10000 * 0x400) 0x400 }
    let d := (d.setFld f.1 (f.2 + 7) f.2 (used + 1)).fire Evt.PAGE_RETIRED
    { d with svc := { d.svc with remap := Cells.put d.svc.remap (a / 0x10000) (256 * i + used) } }.storeRemap
  else
    let g := granule a
    let d := if d.svc.granules.contains g then d else { d with svc := { d.svc with granules := d.svc.granules ++ [g] } }
    (d.fire Evt.GRANULE).storeGranules

/-- PAGE_RETIRE: a page that the policy of R629 has asked for. -/
def Device.pageRetire (d : Device) (a : Nat) : Device :=
  if d.standby then d else if isDram (regionOf a) ∧ d.fault.retireAsked.contains (pageKey a) then d.exitIdle.retirePage a else d

/-! ## Service states (R489, R490, R492) -/

/-- Kinds of function: 0 compute die, 1 cistern chiplet, 2 partition. The states: 0 ON, 1 STOPPING, 2 SCRUBBING, 3 OFF. -/
def svcField (kind i : Nat) : Nat × Nat :=
  if kind = 0 then (Reg.HUB_SVC, 2 * i) else if kind = 1 then (Reg.HUB_SVC, 8 + 2 * i) else (Reg.HUB_SVC_PART, 2 * i)

def Device.svcState (d : Device) (kind i : Nat) : Nat := d.fld (svcField kind i).1 ((svcField kind i).2 + 1) (svcField kind i).2

def Device.partOn (d : Device) (p : Nat) : Bool := d.svcState 2 p == 0

/-- A service state changes: SERVICE fires (R527), and a partition that leaves ON closes its debug session (R563). -/
def Device.setSvc (d : Device) (kind i v : Nat) : Device :=
  let f := svcField kind i
  let was := d.svcState kind i
  if was = v then d
  else
    let d := (d.setFld f.1 (f.2 + 1) f.2 v).fire Evt.SERVICE
    let lvl := d.dbgLevel
    if kind = 2 ∧ was = 0 ∧ (lvl = 1 ∨ lvl = 2) ∧ d.fld Reg.SEC_STATE 19 16 = i then d.closeDebug else d

/-- The DEFER bit of a function. -/
def Device.setDefer (d : Device) (kind i : Nat) (b : Bool) : Device :=
  if kind = 0 then d.setFlag Reg.HUB_SVC (12 + i) b
  else if kind = 1 then d.setFlag Reg.HUB_SVC (16 + i) b
  else d.setFlag Reg.HUB_SVC_PDEFER i b

/-- Completes the commands that wait for a function: those of held enables, or the others. -/
def Device.answerSvc (d : Device) (kind i : Nat) (held : Bool) (st : Nat) : Device :=
  let mine := fun (w : Nat × Nat × Bool × Nat) => w.1 == kind && w.2.1 == i && w.2.2.1 == held
  let ids := (d.svc.waiters.filter mine).map (fun w => w.2.2.2)
  let d := { d with svc := { d.svc with waiters := d.svc.waiters.filter (fun w => !mine w) } }
  ids.foldl (fun d id => d.complete id st 0) d

def Device.awaitSvc (d : Device) (kind i : Nat) (held : Bool) (id : Nat) : Device :=
  { d with svc := { d.svc with waiters := d.svc.waiters ++ [(kind, i, held, id)] } }

/-- Whether an enable of a function is held. -/
def Device.enableHeld (d : Device) (kind i : Nat) : Bool := d.svc.waiters.any (fun w => w.1 == kind && w.2.1 == i && w.2.2.1)

/-- A function that was OFF comes back: at once, or through SCRUBBING for a chiplet (R487). -/
def Device.comeBack (d : Device) (kind i : Nat) : Device := d.setSvc kind i (if kind = 1 then 2 else 0)

/-- An enable (R490): nothing to do where the function is ON, held while it shuts down or scrubs. -/
def Device.svcEnable (d : Device) (kind i id : Nat) : Device :=
  match d.svcState kind i with
  | 0 => d.complete id St.OK 0
  | 3 => if kind = 1 then (d.comeBack kind i).awaitSvc kind i false id else (d.comeBack kind i).complete id St.OK 0
  | _ => (d.setDefer kind i true).awaitSvc kind i true id

/-- Withdraws a held enable (R490). -/
def Device.withdrawEnable (d : Device) (kind i : Nat) : Device := (d.setDefer kind i false).answerSvc kind i true St.CANCELLED

/-- A disable (R490): nothing to do where the function is OFF; it withdraws a held enable; one of a chiplet that is coming back ends that. -/
def Device.svcDisable (d : Device) (kind i id : Nat) (start : Device → Device) : Device :=
  match d.svcState kind i with
  | 3 => d.complete id St.OK 0
  | 0 => (start (d.setSvc kind i 1)).awaitSvc kind i false id
  | s =>
    let d := d.withdrawEnable kind i
    if kind = 1 ∧ s = 2 then ((d.answerSvc kind i false St.CANCELLED).setSvc kind i 3).complete id St.OK 0 else d.awaitSvc kind i false id

/-! ### What shutting down does (R487, R489) -/

/-- Zero with valid check codes in n bytes of DRAM from an address. -/
def Device.zeroDram (d : Device) (a n : Nat) : Device :=
  { d with mem := Cells.clear d.mem a n, poison := Cells.clear d.poison (a / 64) (n / 64), symErr := Cells.clear d.symErr (a / 64) (n / 64) }

/-- A granule is zeroed and returns to the free pool. -/
def Device.freeGranule (d : Device) (g : Nat) : Device :=
  let d := (d.openPages (g * 32) 32).zeroDram (g * 0x200000) 0x200000
  { d with granules := Cells.erase d.granules g }

/-- The cores' local SRAM, and the caches and translation caches of their clusters, are cleared. -/
def Device.clearClusters (d : Device) (mask : Nat) : Device :=
  let gs := (List.range 16).filter (fun g => mask.testBit g)
  let d := ((List.range 128).filter (fun c => mask.testBit (c / 8))).foldl (fun d c =>
    d.modCore c (fun k => { k with sram := [], sramBad := [], sramCe := [], tlb := [] })) d
  gs.foldl (fun d g => d.setCluster g {}) d

/-- The clusters of die i. -/
def dieMask (i : Nat) : Nat := 0xF * 2 ^ (4 * i)

/-- No core of a mask of clusters has work left. -/
def Device.clustersEmpty (d : Device) (mask : Nat) : Bool :=
  (List.range 128).all (fun c => !mask.testBit (c / 8) || (d.core c).empty)

/-- Nothing of a partition is left to drain: schedule FREE, engines empty, no flow, bucket or descriptor. -/
def Device.partDrained (d : Device) (p : Nat) : Bool :=
  d.stkState p == 0 && d.partEmpty p && !d.aq.flows.any (fun e => e.2.part == p) && !d.red.buckets.any (fun b => b.part == p)
    && d.aqDrained p && d.updDrained p

/-- A partition stops: its schedule is stopped, its flows close, its queues take no more (R489). -/
def Device.partStop (d : Device) (p : Nat) : Device :=
  let d := d.stkStop p
  let fs := (d.aq.flows.filter (fun e => e.2.part == p && (e.2.phase == .live || e.2.phase == .broken))).map (·.1)
  let d := fs.foldl (fun d f => d.closeFlow f none) d
  (d.aqPenDisable p).updDisable p

/-- What a partition held is zeroed and its granules freed; its cores have stopped. -/
def Device.partScrub (d : Device) (p : Nat) : Device :=
  let d := (d.coresOf p).foldl (fun d c => d.coreReset c) d
  let d := d.clearClusters (d.clustersOf p).toNat
  ((d.granules.filter (fun e => e.2 == p)).map (·.1)).foldl (fun d g => d.freeGranule g) d

/-- The function has reached OFF: its disables complete, and a held enable is carried out. -/
def Device.svcOff (d : Device) (kind i : Nat) : Device :=
  let d := (d.setSvc kind i 3).answerSvc kind i false St.OK
  if !d.enableHeld kind i then d
  else if kind = 1 then d.comeBack kind i
  else (((d.setDefer kind i false).comeBack kind i).answerSvc kind i true St.ENABLE_DEFERRED).fire Evt.SERVICE

/-- SHUTDOWN_COMPLETE (R489, R490): a function that has drained leaves STOPPING, and one that has been scrubbed leaves SCRUBBING. -/
def Device.shutdownComplete (d : Device) (kind i : Nat) : Device :=
  match kind, d.svcState kind i with
  | 0, 1 => if d.clustersEmpty (dieMask i) then (d.clearClusters (dieMask i)).setSvc 0 i 2 else d
  | 1, 1 => if (d.upd.taken.all (fun x => x.chiplet != some i)) then (d.setFlag Reg.HUB_CAPS (12 + i) false).svcOff 1 i else d
  | 2, 1 => if d.partDrained i then (d.partScrub i).setSvc 2 i 2 else d
  | 0, 2 => d.svcOff 0 i
  | 2, 2 => d.svcOff 2 i
  | _, _ => d

/-- SHUTDOWN_COMPLETE of a function that exists: four dies, two chiplets, sixteen partitions. -/
def Device.shutdownRow (d : Device) (kind i : Nat) : Device :=
  if (kind = 0 ∧ i > 3) ∨ (kind = 1 ∧ i > 1) then d else d.shutdownComplete kind i

/-- CIS_SCRUB_END (R487, R583): a chiplet has zeroed its DRAM and returns to service, its granules to the free pool. -/
def Device.cisScrubEnd (d : Device) (c : Nat) : Device :=
  if d.svcState 1 c ≠ 2 then d
  else
    let base := 0x10000000000 + c * 0x8000000000
    let d := d.zeroDram base 0x8000000000
    let d := { d with
      granules := Cells.clear d.granules (granule base) 0x40000
      boot := { d.boot with zeroing := d.boot.zeroing.filter (· != c) } }
    let held := d.enableHeld 1 c
    let d := (((d.setFlag Reg.HUB_CAPS (12 + c) true).setSvc 1 c 0).setDefer 1 c false).answerSvc 1 c false St.OK
    let d := d.answerSvc 1 c true St.ENABLE_DEFERRED
    if held then d.fire Evt.SERVICE else d

end Machine
end Sys2Proof
end

