-- ==== Sys2Proof/Machine/Resets.lean ====
section
/-!
DEFINITION. What resets, removal, retirement and scrubbing do to the device (R520-R522, R551-R554, R568, R596, R597).
-/
namespace Sys2Proof
namespace Machine

/-! ## Sluices forced on partitions (R520, R521, R552) -/

/-- A partition takes a sluice at once; the drain follows it (R353, R354). -/
def Device.forceSluice (d : Device) (p : Nat) : Device :=
  let d := d.setFlag (Reg.STK_STATUS p) 28 false
  let d := (d.coresOf p).foldl (fun d c => d.coreSluice p c) d
  ((d.redSluice p d.now).updSluice p).setStroke p { d.stroke p with draining := some d.now }

/-- Every partition that has clusters takes a sluice, and every schedule becomes FREE. -/
def Device.sluiceAll (d : Device) : Device :=
  (List.range 16).foldl (fun d p => if d.clustersOf p = 0#16 then d else (d.forceSluice p).setStk p 0) d

/-! ## Flows and keys (R552, R553, R597) -/

/-- A context becomes FREE without CLOSE; its messages end with ST_FLOW_CLOSED, the command that waits for it with a status. -/
def Device.dropFlow (d : Device) (f st : Nat) : Device := d.endFlow f st

/-- Frees every flow that a test picks. -/
def Device.dropFlows (d : Device) (sel : Flow → Bool) (st : Nat) : Device :=
  ((d.aq.flows.filter (fun e => sel e.2)).map (·.1)).foldl (fun d f => d.dropFlow f st) d

/-- Zeroises the tenant keys (R553): every slot is empty, every encrypted flow BROKEN, SECURITY fires once. -/
def Device.zeroise (d : Device) : Device :=
  let enc : List Nat := (d.aq.flows.filter (fun e => e.2.enc && e.2.phase != .broken)).map (·.1)
  let wipe : Nat × Flow → Nat × Flow := fun e => (e.1, { e.2 with key0 := none, key1 := none })
  let d := { d with aq := { d.aq with flows := d.aq.flows.map wipe } }
  (enc.foldl (fun d f => d.breakFlow f) d).fire Evt.SECURITY

/-! ## Scrubbing (R554) -/

/-- Both halves of every table slot of a core are invalid. -/
def Device.dropTables (d : Device) (c : Nat) : Device :=
  (List.range 16).foldl (fun d s => d.setReg (Reg.SF_SLOT c s) 0#32) (d.modCore c (fun k => { k with table := [] }))

/-- Scrubs every memory: zero with valid check codes, caches and translations invalid, instruction memory blank, tables invalid, every granule in
the free pool. -/
def Device.scrubAll (d : Device) : Device :=
  let d := (d.clearClusters 0xFFFF)
  let d := (List.range 128).foldl (fun d c => (d.modCore c (fun k => { k with imem := [], imemBad := [] })).dropTables c) d
  { d with mem := [], poison := [], symErr := [], granules := [] }

/-! ## The presence window (R557) -/

/-- Closes the window, if one is open: the LED goes dark and PRESENCE fires. -/
def Device.closeWindow (d : Device) : Device :=
  match d.sec.window with
  | none => d
  | some _ =>
    (({ d with sec := { d.sec with window := none } }.setFlag Reg.SEC_PRES_STATUS 31 false).setFld Reg.SEC_PRES_STATUS 15 0 0).fire Evt.PRESENCE

/-! ## Long operations (R514, R552, R597) -/

/-- The opcodes of long operations; three of them are short with some parameters (R510). -/
def longCode (op : Nat) : Bool :=
  [0x0006, 0x0202, 0x0204, 0x0208, 0x0303, 0x0304, 0x0507, 0x0602, 0x0603, 0x0701, 0x0702, 0x0703, 0x0704, 0x0706, 0x0708, 0x0800, 0x0801,
    0x0803, 0x0804].contains op

/-- Whether a command is a long operation. -/
def ZCmd.long (c : ZCmd) : Bool := longCode c.opcode || (c.opcode == 0x0805 && decide (leAt c.pkt 16 4 > 900))

/-- A command in a state of R514, or a short one that waits for something, has begun. -/
def ZCmd.begun (c : ZCmd) : Bool := c.state != .waiting

/-- What a long operation leaves behind when it ends before its work is done: a slice its pages, a move its place, a change its turn. -/
def Device.dropOp (d : Device) (id : Nat) (c : ZCmd) : Device :=
  let d := { d with
    svc := { d.svc with
      spare := d.svc.spare.filter (fun m => m.owner != some id)
      waiters := d.svc.waiters.filter (fun w => w.2.2.2 != id) }
    boot := { d.boot with
      changes := match d.boot.changes with
      | [] => []
      | x :: rest => (if x.owner = some id then { x with owner := none } else x) :: rest.filter (fun y => y.owner != some id)
      firstStart := d.boot.firstStart.map (fun x => if x.2 = some id then (x.1, none) else x) }
    aq := { d.aq with ports := d.aq.ports.map (fun p => { p with recalWaiters := p.recalWaiters.filter (· != id) }) } }
  if c.opcode = 0x0603 then d.orphan c.part
  else if c.opcode = 0x0006 then { d with zn := { d.zn with preparing := false } } else d

/-- Ends a long operation with a status that is not its own. -/
def Device.endOp (d : Device) (id st : Nat) : Device :=
  match Cells.find? d.zn.cmds id with
  | none => d
  | some c =>
    let mine := match d.sec.window with | some w => w.cmd == id | none => false
    let d := if mine then d.closeWindow else d
    match d.svc.ckpt.find? (fun e => e.2.owner == id) with
    | some e => d.sliceEnd e.1 st
    | none => (d.dropOp id c).complete id st 0

/-- Ends every long operation that a test picks, in the order of their reading. -/
def Device.endOps (d : Device) (sel : ZCmd → Bool) (st : Nat) : Device :=
  ((d.zn.cmds.filter (fun e => e.2.long && e.2.begun && sel e.2)).map (·.1)).foldl (fun d id => d.endOp id st) d

/-! ## Retirement (R552, R558) -/

def Device.lifecycle (d : Device) : Nat := d.fld Reg.SEC_STATE 31 30

/-- Records a lifecycle state: LIFECYCLE fires. -/
def Device.setLifecycle (d : Device) (v : Nat) : Device :=
  let d := (d.setFld Reg.SEC_STATE 31 30 v).fire Evt.LIFECYCLE
  { d with sec := { d.sec with fuseSecured := d.sec.fuseSecured || v == 1, fuseRetired := d.sec.fuseRetired || v == 3 } }

/-- The compute dies and the cistern chiplets lose power (R552). -/
def Device.diesOff (d : Device) : Device :=
  let d := (List.range 4).foldl (fun d i => d.setSvc 0 i 3) d
  let d := (List.range 2).foldl (fun d i => (d.setSvc 1 i 3).setFlag Reg.HUB_CAPS (12 + i) false) d
  { d with pwr := { d.pwr with diesOn := false } }

/-- The retirement actions, in order; `keep` is the command that asked for them. -/
def Device.retireModule (d : Device) (keep : Option Nat) : Device :=
  let d := d.sluiceAll.dropFlows (fun _ => true) St.RETIRED
  let ids := (d.zn.cmds.filter (fun e => e.2.long && e.2.begun && some e.1 != keep)).map (·.1)
  let d := (ids.foldl (fun d id => d.endOp id St.RETIRED) d).closeWindow
  ((((d.zeroise.scrubAll).closeDebug).diesOff).setLifecycle 3)

/-- TAMPER latches (R558): keys first, then the event, then retirement. -/
def Device.latchTamper (d : Device) : Device :=
  let d := (d.zeroise.setFlag Reg.SEC_STATE 29 true).fire Evt.TAMPER
  let retired := d.lifecycle == 3
  let d := { d with sec := { d.sec with fuseTamper := true } }
  if retired then d else d.retireModule none

/-- SEAL_OPEN (R558): the loop is open; TAMPER latches once. -/
def Device.tamper (d : Device) : Device :=
  let was := d.flag Reg.SEC_STATE 29
  let d := d.setFlag Reg.SEC_STATE 28 false
  if was then d else d.latchTamper

/-! ## Partition function-level reset (R349, R522, R597) -/

/-- The settings of the RED_ and UPD_ blocks of a partition, by offset in a block of each. -/
def redSettings (p : Nat) : List Nat :=
  [Reg.RED_CTL p, Reg.RED_STATUS p, Reg.RED_WIN_CMD p, Reg.RED_SETTLE_TAG p, Reg.RED_BDT_LO p, Reg.RED_BDT_HI p, Reg.RED_RANK_LO p,
    Reg.RED_RANK_HI p, Reg.RED_WTAB_LO p, Reg.RED_WTAB_HI p, Reg.RED_NRANK p, Reg.RED_LEVEL_NS p, Reg.RED_ERR_TAG p]

def updSettings (p : Nat) : List Nat :=
  [Reg.UPD_CTL p, Reg.UPD_STATUS p, Reg.UPD_NGROUP p, Reg.UPD_COEF_LO p, Reg.UPD_COEF_HI p, Reg.UPD_GREC_LO p, Reg.UPD_GREC_HI p,
    Reg.UPD_QT_LO p, Reg.UPD_QT_HI p, Reg.UPD_ERR_GROUP p]

/-- The settings of the RED_ and UPD_ blocks of a partition return to their reset values; counters are kept. -/
def Device.resetPartRegs (d : Device) (p : Nat) : Device :=
  { d with regs := (redSettings p ++ updSettings p).foldl (fun m r => Cells.erase m r) d.regs }

/-- What the sequencers hold of a partition is gone. -/
def Device.dropSequencers (d : Device) (p : Nat) : Device :=
  let sets := d.upd.sets.filter (fun s => s.part == p)
  let wait := d.upd.waiters.filter (fun w => w.1 == p)
  let gone := (d.upd.taken.filter (fun x => x.part == p)).map (·.id)
  let d := d.disarmQueues 2 p
  let d := { d with
    red := { d.red with buckets := d.red.buckets.filter (fun b => b.part != p), net := d.red.net.filter (fun m => m.part != p),
                        stale := d.red.stale.filter (fun x => x.1 != p) }
    upd := { d.upd with
      taken := d.upd.taken.filter (fun x => x.part != p), handed := d.upd.handed.filter (fun i => !gone.contains i)
      opened := d.upd.opened.filter (fun g => g.1 != p), judge := d.upd.judge.filter (fun g => g.1 != p)
      sets := d.upd.sets.filter (fun s => s.part != p), waiters := d.upd.waiters.filter (fun w => w.1 != p) } }
  let d := sets.foldl (fun d s => match s.owner with | some id => d.complete id St.CANCELLED 0 | none => d) d
  wait.foldl (fun d w => d.complete w.2 St.CANCELLED 0) d

/-- The sources of a partition return to INACTIVE; routes and sets stay (R546). -/
def Device.quietPart (d : Device) (p : Nat) : Device :=
  (List.range 16).foldl (fun d j => d.setFld (Reg.EVT_SRC (0x100 + 16 * p + j)) 30 29 0) d

/-- The cluster caches of a partition are written back and invalid. -/
def Device.flushPart (d : Device) (p : Nat) : Device :=
  ((List.range 16).filter (fun g => (d.clustersOf p).toNat.testBit g)).foldl (fun d g => d.acquireAll g) d

/-- A partition function-level reset. -/
def Device.partFlr (d : Device) (p : Nat) : Device :=
  let d := (d.flushPart p).endOps (fun c => c.part == p && (c.fn != 0 || !(decide (c.opcode ≥ 0x0700) || c.opcode == 0x0006))) St.CANCELLED
  let d := (d.sliceEnd p St.CANCELLED).dropFlows (fun x => x.part == p) St.CANCELLED
  let d := (d.coresOf p).foldl (fun d c => d.coreReset c) d
  let d := (((d.dropSequencers p).resetPartRegs p).strokeReset p).quietPart p
  if (d.dbgLevel = 1 ∨ d.dbgLevel = 2) ∧ d.fld Reg.SEC_STATE 19 16 = p then d.closeDebug else d

/-! ## Standby (R568) -/

/-- Everything on the compute dies is as after a cold reset of each die. -/
def Device.resetDies (d : Device) : Device :=
  { d with
    cores := List.replicate 128 { Core.reset with resetCycle := d.cycles }
    clusters := List.replicate 16 {}
    increments := [], barriers := []
    regs := d.regs.filter (fun e => decide (e.1 % 0x4000000 < 0x1000000) || decide (e.1 % 0x4000000 ≥ 0x2000000)) }

/-! ## Cold and warm resets (R596, R597) -/

/-- The registers that a cold reset keeps: fuses, lifecycle and the inputs behind SEC_STATE. -/
def coldRegs (d : Device) : Cells Word :=
  ((d.regs.filter (fun e => decide (Reg.SEC_ARB 0 ≤ e.1) && decide (e.1 ≤ Reg.SEC_ARB 6))))

/-- A cold reset (R597): everything but the flash, the fuses, the lifecycle state and the pins; host memory is not the module's. The device starts
again at stage ROM with a cause. -/
def Device.coldReset (d : Device) (cause : Nat) : Device :=
  let keep := (d.reg Reg.SEC_STATE).toNat
  let n : Device := {
    regs := coldRegs d, hostMem := d.hostMem, free := d.free
    zn := { mctpOut := d.zn.mctpOut }
    sec := { revoked := d.sec.revoked, fuseSecured := d.sec.fuseSecured, fuseRetired := d.sec.fuseRetired, fuseTamper := d.sec.fuseTamper }
    pwr := { pwrEn := d.pwr.pwrEn, pgOut := d.pwr.pgOut, perstLow := d.pwr.perstLow, rail := d.pwr.rail }
    boot := { bank0 := d.boot.bank0, bank1 := d.boot.bank1, image := d.boot.image, journal := d.boot.journal, starting := true }
    mem := d.mem, poison := d.poison, symErr := d.symErr }
  ((n.setFld Reg.SEC_STATE 31 27 (bits keep 31 27)).setFld Reg.CFG_BOOT 31 28 cause).setFld Reg.CFG_STATUS 31 29 (bits (d.reg Reg.CFG_STATUS).toNat 31 29)

/-- The counters outside the blocks that a warm reset returns to their reset values. -/
def warmCounter (k : Nat) : Bool :=
  let o := k % 0x4000000
  let inR := fun (lo hi : Nat) => decide (lo ≤ o) && decide (o ≤ hi)
  inR (Reg.HUB_CC_HITS_LO 0) (Reg.HUB_CC_ECC 15) || inR Reg.HUB_FAULTS Reg.HUB_FAULT_LOST || inR (Reg.HUB_LINK_ERR 0) (Reg.HUB_LINK_ERR 9)
    || inR (Reg.HUB_MEMERR 0) (Reg.HUB_MEMERR 8191) || o == Reg.TIM_STEPS
    || inR Reg.AQ_TX_PKTS_LO Reg.AQ_RXDROP || inR (Reg.AQ_FEC_CORR 0) (Reg.AQ_NETWAIT_HI 15)
    || (inR (Reg.CIS_CKPT_PLAN_LO 0) (Reg.CIS_CKPT_PROMOTED 15) && decide ((o - Reg.CIS_CKPT_PLAN_LO 0) % 64 ≥ 0x10))
    || inR (Reg.CIS_MEMERR 0 0) (Reg.CIS_MEMERR 1 511) || inR Reg.SEC_PRES_STRAY Reg.SEC_PRES_TIMEOUT || o == Reg.SEC_TRACE_LOST
    || inR Reg.PWR_INPUT_EXC Reg.PWR_THROTTLES || inR Reg.PWR_PACED_LO Reg.PWR_PACED_HI

/-- The registers that a warm reset keeps: not those of the cores, the schedules, reduction, updates, events and host interface, and no counters. -/
def warmKeeps (e : Nat × Word) : Bool :=
  let o := e.1 % 0x4000000
  decide (o < Reg.EVT) && !warmCounter e.1 || (decide (Reg.SEC ≤ o) && decide (o < Reg.ZN 0) && !warmCounter e.1)

/-- A warm reset (R596, R597): caches written back, then reset; device time, memories, partition layout, bindings, flash and fuses are kept. -/
def Device.warmReset (d : Device) : Device :=
  let d := ((List.range 16).foldl (fun d g => d.acquireAll g) d).closeDebug.storeWriteDone true
  let quiet := ((d.setFld Reg.AQ_CTL 31 16 0).setFld Reg.AQ_STATUS 31 16 0).regs.filter warmKeeps
  let bind := (List.range 17).foldl (fun (m : Cells Word) f =>
    let k := Reg.ZN_STATUS f
    Cells.set (Reg.reset k) m k (BitVec.ofNat 32 ((d.reg k).toNat &&& 0x8F1F))) quiet
  let bind := (List.range 17).foldl (fun (m : Cells Word) f =>
    let k := Reg.ZN_RINGS f
    Cells.set (Reg.reset k) m k (BitVec.ofNat 32 ((d.reg k).toNat &&& 0xFFFF0000))) bind
  let n : Device := {
    now := d.now, cycles := d.cycles, regs := bind, mem := d.mem, poison := d.poison, symErr := d.symErr, dirty := d.dirty
    granules := d.granules, partMask := d.partMask, hostMem := d.hostMem, free := d.free, tim := d.tim
    cores := List.replicate 128 { Core.reset with resetCycle := d.cycles }
    aq := { gens := d.aq.gens, ports := d.aq.ports.map (fun p => { p with waiters := [], recalWaiters := [] }) }
    zn := { pci := d.zn.pci.map (fun e => (e.1, ({} : PciFn))), bar4Pf := d.zn.bar4Pf, bar4Vf := d.zn.bar4Vf, mctpOut := d.zn.mctpOut,
            eid := d.zn.eid, tid := d.zn.tid, linkUp := d.zn.linkUp }
    svc := { remap := d.svc.remap, granules := d.svc.granules }
    fault := { d.fault with ringPhase := [], ringBase := [], pages := [], bankCe := [], bankFired := [], badWords := [], linkReported := [] }
    sec := { d.sec with window := none, scrubbing := false }
    pwr := d.pwr
    boot := { d.boot with changes := [], firstStart := [], volatileRecs := [], starting := true, warm := true, startedAt := d.now } }
  (n.setReg Reg.SEC_PRES_STATUS (d.reg Reg.SEC_PRES_STATUS &&& 0x40000000#32)).setReg Reg.SEC_DBG_CTL 0#32

end Machine
end Sys2Proof
end

