-- ==== Sys2Proof/Machine/Firmware.lean ====
section
/-!
DEFINITION. Firmware images (R559-R561, R579-R582): their checks, staging, activation, first start and rollback; suspension of long operations
on the module's own account (R517).
-/
namespace Sys2Proof
namespace Machine

/-! ## Images (R559, R560, R579) -/

/-- The subsystems of R512. -/
def Sub.MGMT : Nat := 0
def Sub.HUB : Nat := 1
def Sub.AQ : Nat := 2
def Sub.VECTOR : Nat := 3
def Sub.CIS0 : Nat := 4
def Sub.POWER : Nat := 6

/-- Bytes of an image beside its body. -/
def imageFixed : Nat := 4851
def slotBytes : Nat := 0x1000000

def imgSvn (b : List Byte) : Nat := leAt b 5 1
def imgKey (b : List Byte) : Nat := leAt b 6 1
def imgMinKey (b : List Byte) : Nat := leAt b 7 1
def imgVersion (b : List Byte) : Nat := leAt b 8 2

/-- What R579 refuses before any flash is written. -/
def imageBad (s len : Nat) (b : List Byte) : Bool :=
  len != imageFixed + leAt b 12 4 || decide (len > slotBytes) || leAt b 0 4 != 0x494D5247 || leAt b 4 1 != s || decide (imgKey b > 3)
    || decide (imgMinKey b > 3) || leAt b 10 2 != 0 || (List.range 112).any (fun i => leAt b (16 + i) 1 != 0)

/-- The checks of R559: both signatures, and a key index that is not revoked. -/
def Device.imageOk (d : Device) (b : List Byte) : Bool := Config.imageSigned b && !d.sec.revoked.toNat.testBit (imgKey b)

def Device.arb (d : Device) (s : Nat) : Nat := d.fld (Reg.SEC_ARB s) 6 0

/-- The bytes in a slot. -/
def Device.slotImage (d : Device) (s i : Nat) : List Byte := (Cells.find? d.boot.image (2 * s + i)).getD []

/-- Whether an image in flash may run (R584). -/
def Device.mayRun (d : Device) (s i : Nat) : Bool :=
  let b := d.slotImage s i
  !imageBad s b.length b && d.imageOk b && decide (d.arb s ≤ imgSvn b)

/-- The status of a staged image's verification (R512, R581). -/
def Device.stageStatus (d : Device) (s : Nat) (b : List Byte) : Nat :=
  if !d.imageOk b then St.FW_AUTH else if imgSvn b < d.arb s then St.FW_ROLLBACK else St.OK

def SlotEntry.other (e : SlotEntry) : Nat := 1 - e.active % 2

/-- Staging begins: the inactive slot is marked EMPTY (R581). -/
def Device.stageBegin (d : Device) (s : Nat) : Device :=
  let e := d.slots s
  d.storeSlots s (e.setState e.other 0) none

/-- The image is written, read back and verified (R581, R512): the slot is marked VERIFIED and the command waits for that store write, or the
slot stays EMPTY. -/
def Device.stageEnd (d : Device) (s id : Nat) (b : List Byte) : Device :=
  let e := d.slots s
  let d := { d with boot := { d.boot with image := Cells.put d.boot.image (2 * s + e.other) b } }
  let st := d.stageStatus s b
  if st ≠ St.OK then (d.complete id st 0).fire Evt.FIRMWARE
  else (d.storeSlots s (e.setImage e.other 1 (imgVersion b) (imgSvn b)) (some id)).fire Evt.FIRMWARE

/-! ## Suspension on the module's own account (R488, R517) -/

/-- RUNNING operations that a test picks pass to SUSPENDED with SYS, and an open presence window closes (R575). -/
def Device.sysSuspend (d : Device) (sel : ZCmd → Bool) : Device :=
  let d := d.closeWindow
  { d with zn := { d.zn with cmds := d.zn.cmds.map (fun e =>
      (e.1, if e.2.long && e.2.state == .running && sel e.2 then { e.2 with state := .suspended, sys := true } else e.2)) } }

/-- The system reason ends: operations that the host did not suspend resume. -/
def Device.sysResume (d : Device) : Device :=
  { d with zn := { d.zn with cmds := d.zn.cmds.map (fun e =>
      (e.1, if e.2.sys then { e.2 with sys := false, state := if e.2.hostSusp then .suspended else .resuming } else e.2)) } }

/-- MGMT_PAUSED on every function (R488). -/
def Device.setPaused (d : Device) (b : Bool) : Device :=
  (List.range 17).foldl (fun d f => d.setFlag (Reg.ZN_STATUS f) 28 b) d

/-! ## Activation (R561, R582, R488) -/

/-- The version of the built-in tables in a slot. -/
def Device.tableVersion (d : Device) (i : Nat) : Word := Config.builtinVersion (d.slotImage Sub.VECTOR i)

/-- The inactive slot becomes active, on trial; its image starts where R488 places the start. -/
def Device.activateStart (d : Device) (s : Nat) (owner : Option Nat) : Device :=
  let e := d.slots s
  let i := e.other
  let d := d.storeSlots s { e with active := i, trial := true } none
  let d := { d with boot := { d.boot with
    firstStart := d.boot.firstStart ++ [(s, owner)]
    tableStore := if s = Sub.VECTOR then some (d.tableVersion i) else d.boot.tableStore } }
  if s = Sub.MGMT then (d.sysSuspend (fun _ => true)).setPaused true else d

/-- What keeps ZN_FW_ACTIVATE from activating (R561, R582). -/
def Device.activateStatus (d : Device) (s : Nat) : Nat :=
  let e := d.slots s
  if e.state e.other ≠ 1 then St.NOT_FOUND
  else if e.state (e.active % 2) = 1 ∧ e.version e.other < e.version (e.active % 2) then St.NOT_PERMITTED
  else St.OK

/-- What keeps a rollback (R561). -/
def Device.rollbackStatus (d : Device) (s : Nat) : Nat :=
  let e := d.slots s
  if e.state e.other ≠ 1 then St.NOT_FOUND else if e.svn e.other < d.arb s then St.FW_ROLLBACK else St.OK

/-- Subsystem s runs the image of its active slot; a chiplet's engine takes the tables of it. -/
def Device.runs (d : Device) (s : Nat) : Device :=
  let d := if d.boot.runningFw.contains s then d else { d with boot := { d.boot with runningFw := d.boot.runningFw ++ [s] } }
  if s = Sub.CIS0 ∨ s = Sub.CIS0 + 1 then
    d.setReg (Reg.CIS_BUILTIN (s - Sub.CIS0)) (Config.builtinVersion (d.slotImage s ((d.slots s).active % 2)))
  else d

/-- Key indices below MINKEY are revoked for good (R559). -/
def Device.revokeBelow (d : Device) (n : Nat) : Device :=
  { d with sec := { d.sec with revoked := d.sec.revoked ||| BitVec.ofNat 4 (2 ^ n - 1) } }

/-- FW_FIRST_START_RESULT (R582, R560): an image on trial reports itself ready within 2 s, or has failed. -/
def Device.firstStart (d : Device) (s : Nat) (ok : Bool) : Device :=
  match d.boot.firstStart.find? (fun x => x.1 == s) with
  | none => d
  | some x =>
    let d := { d with boot := { d.boot with firstStart := d.boot.firstStart.erase x } }
    let e := d.slots s
    let i := e.active % 2
    let b := d.slotImage s i
    let d :=
      if ok then
        let d := d.storeSlots s { e with trial := false } none
        let d := if d.arb s < imgSvn b then d.setFld (Reg.SEC_ARB s) 6 0 (min 64 (imgSvn b)) else d
        d.revokeBelow (imgMinKey b)
      else
        let d := d.storeSlots s { (e.setState i 2) with active := e.other, trial := false } none
        { d with boot := { d.boot with tableStore := if s = Sub.VECTOR then some (d.tableVersion e.other) else d.boot.tableStore } }
    let d := (d.runs s).setFld Reg.CFG_BOOT (s) (s) 0
    let d := if s = Sub.MGMT then (d.setPaused false).sysResume else d
    let d := match x.2 with | some id => d.complete id (if ok then St.OK else St.FW_FALLBACK) 0 | none => d
    (d.showSlots).fire Evt.FIRMWARE

end Machine
end Sys2Proof
end

