-- ==== Sys2Proof/Machine/Boot.lean ====
section
/-!
DEFINITION. From 12 V to a ready device (R583-R588, R591, R593): the stages of a cold or warm start and what each applies.
-/
namespace Sys2Proof
namespace Machine

/-! ## Stages (R583) -/

def Device.stage (d : Device) : Nat := d.fld Reg.CFG_BOOT 27 24
def Device.setStage (d : Device) (n : Nat) : Device := d.setFld Reg.CFG_BOOT 27 24 n

/-- The copy in force at a start (R591). -/
def Device.chooseStore (d : Device) : Device :=
  let v0 := d.boot.bank0.isSome
  let v1 := d.boot.bank1.isSome
  let one := match d.boot.bank0, d.boot.bank1 with
    | some a, some b => strokeOlder a.seq b.seq
    | none, some _ => true
    | _, _ => false
  let d := ((d.setFlag Reg.CFG_STATUS 31 one).setFlag Reg.CFG_STATUS 30 v0).setFlag Reg.CFG_STATUS 29 v1
  let d := d.setFlag Reg.CFG_STATUS 26 (!v0 && !v1)
  let d := if d.boot.warm then d else d.setFld Reg.CFG_STATUS 28 25 (if !v0 && !v1 then 2 else 0)
  d.showStore

/-- A slot entry formed from the images themselves, where the store holds no directory (R584). -/
def Device.foundEntry (d : Device) (s : Nat) : SlotEntry :=
  let a := d.mayRun s 0
  let b := d.mayRun s 1
  let x := d.slotImage s 0
  let y := d.slotImage s 1
  { active := if b && (!a || decide (imgVersion x < imgVersion y)) then 1 else 0, trial := false
    stateA := if a then 1 else 0, stateB := if b then 1 else 0
    verA := if a then imgVersion x else 0, verB := if b then imgVersion y else 0
    svnA := if a then imgSvn x else 0, svnB := if b then imgSvn y else 0 }

/-- Forms the slot directory where the store has none. -/
def Device.findSlots (d : Device) : Device :=
  match recordOf 0x0001 d.storeAhead with
  | some _ => d
  | none => d.storePut 0x0001 ((List.range 7).flatMap (fun s => (d.foundEntry s).bytes))

/-- The image that subsystem s runs (R584): its active slot, else the other one, else none. -/
def Device.chooseImage (d : Device) (s : Nat) : Device :=
  let e := d.slots s
  let a := e.active % 2
  if e.state a = 1 ∧ d.mayRun s a then
    let d := if e.trial then { d.setFlag Reg.CFG_BOOT s true with boot := { d.boot with firstStart := d.boot.firstStart ++ [(s, none)] } } else d
    d.runs s
  else if e.state e.other = 1 ∧ d.mayRun s e.other then
    ((d.storeSlots s { e with active := e.other, trial := false } none).setFlag Reg.CFG_BOOT (16 + s) true).runs s
  else (d.setFlag Reg.CFG_BOOT (8 + s) true).setFlag Reg.CFG_BOOT s false

/-- Stage ROM ends (R583, R584, R586, R587): seal, store, management image; the firmware journals a rail that failed (R607). -/
def Device.bootRom (d : Device) : Device :=
  let d := if !d.flag Reg.SEC_STATE 28 && !d.flag Reg.SEC_STATE 29 then d.latchTamper else d
  let d := { d.setFld Reg.CFG_BOOT 22 0 0 with boot := { d.boot with runningFw := [], firstStart := [] } }
  let d := if d.boot.warm then d else d.setFld Reg.HUB_CAPS 13 12 0
  let d := (((d.chooseStore).findSlots).chooseImage Sub.MGMT).showSlots
  if d.noImage Sub.MGMT then { d.setStage 6 with boot := { d.boot with starting := false } }
  else match d.pwr.rail with
    | some r => { d.setStage 1 with boot := { d.boot with journal := d.boot.journal ++ [r] }, pwr := { d.pwr with rail := none } }
    | none => d.setStage 1

/-- Stage IMAGES ends (R585): HUB, AQ, VECTOR, CIS0, CIS1 and POWER. A RETIRED module powers no die (R587). -/
def Device.bootImages (d : Device) : Device :=
  let d := ((List.range 7).tail).foldl (fun d s => d.chooseImage s) d
  let d := (if (List.range 7).any (fun s => d.noImage s) then { d with boot := { d.boot with faultAtReady := true } } else d).showSlots
  if d.lifecycle = 3 then d.diesOff.setStage 7 else d.setStage 3

/-- A failed part of the memory system: its record, whose delivery fires DEVICE_FAULT once READY is set (R588, R625). -/
def Device.trainingFault (d : Device) (index : Nat) : Device :=
  d.raise { status := Config.recordStatus 12 % 0x10000, source := 12, index := index }

/-- Retired pages and granules come back from the store (R593). -/
def Device.restoreRemap (d : Device) : Device :=
  let es := fun (k : Nat) => chunks 8 (((d.storeGet k).getD []).length / 8) ((d.storeGet k).getD [])
  let m : Cells Nat := (es 0x0003).foldl (fun (m : Cells Nat) e => Cells.put m (leAt e 0 6 / 0x10000) (leAt e 6 2)) []
  let d := { d with svc := { d.svc with remap := m, granules := (es 0x0004).map (fun e => leAt e 0 8 / 0x200000) } }
  (List.range 10).foldl (fun (d : Device) i =>
    let n := m.foldl (fun (n : Nat) e => if e.2 / 256 = i then max n (e.2 % 256 + 1) else n) 0
    d.setFld (remapField i).1 ((remapField i).2 + 7) (remapField i).2 n) d

/-- Stage MEMORY ends (R583, R588): a cold start zeroes HBM and leaves the chiplets to be zeroed; stacks and chiplets that fail training take
their die, or themselves, out of service. -/
def Device.bootMemory (d : Device) (hbmMask chiplets : Nat) : Device :=
  let d := d.restoreRemap
  let d := if d.boot.warm then d else d.zeroDram 0 0x006000000000
  let d := ((List.range 8).filter (fun i => hbmMask.testBit i)).foldl (fun (d : Device) i => (d.trainingFault i).setFld Reg.HUB_SVC (2 * (i / 2) + 1) (2 * (i / 2)) 3) d
  let d := (List.range 2).foldl (fun d c =>
    let out := chiplets.testBit c || d.noImage (Sub.CIS0 + c)
    let d := if chiplets.testBit c then d.trainingFault (8 + c) else d
    if out then (d.setFld Reg.HUB_SVC (9 + 2 * c) (8 + 2 * c) 3).setFlag Reg.HUB_CAPS (12 + c) false
    else if d.boot.warm then d
    else { d.setFld Reg.HUB_SVC (9 + 2 * c) (8 + 2 * c) 2 with boot := { d.boot with zeroing := d.boot.zeroing ++ [c] } }) d
  d.setStage 4

/-- A record of a defined owner key that fails its limits is not applied; its fault record carries the key (R593). -/
def Device.applyKey (d : Device) (k : Nat) (ok : List Byte → Bool) (f : Device → List Byte → Device) : Device :=
  match d.storeGet k with
  | none => d
  | some b => if ok b then f d b else d.raise { status := St.BAD_FIELD, source := 16, detail := k }

/-- The owner settings (R593). -/
def Device.applyOwner (d : Device) : Device :=
  let d := d.applyKey 0x0100 (fun b => b.length == 2 && decide (10 ≤ leAt b 0 2) && decide (leAt b 0 2 ≤ 300))
    (fun d b => d.setFld Reg.SEC_PRES_CFG 8 0 (leAt b 0 2))
  let d := d.applyKey 0x0101 (fun b => b.length == 8 && decide (leAt b 0 1 ≤ 3))
    (fun d b => (d.timSrcWrite (leAt b 0 1)).timPtpCfgWrite (leAt b 4 4))
  let d := d.applyKey 0x0102 (fun b => b.length == 32 && (List.range 8).all (fun i => !bit (leAt b (4 * i) 4) 30))
    (fun d b => (List.range 8).foldl (fun (d : Device) i =>
      let k := Reg.AQ_PORT_CTL i
      d.setReg k (BitVec.ofNat 32 (leAt b (4 * i) 4) &&& ~~~(Reg.reserved k))) d)
  d.applyKey 0x0103 (fun b => b.length == 1 && decide (leAt b 0 1 ≤ 3)) (fun d b => d.setFld Reg.PWR_STATE 25 24 (leAt b 0 1))

/-- The slot map comes back from the store. -/
def Device.restoreSlots (d : Device) : Device :=
  match d.storeGet 0x0002 with
  | some b => if b.length = 128 then (List.range 16).foldl (fun d g =>
      (d.setReg (Reg.HUB_SLOTMAP g) (BitVec.ofNat 32 (leAt b (4 * g) 4))).setReg (Reg.HUB_SLOTSTAT g) (BitVec.ofNat 32 (leAt b (64 + 4 * g) 4))) d
    else d
  | none => d

/-- The dies come up: every core as after a cold reset, the built-in tables loaded (R158, R254, R568). -/
def Device.diesOn (d : Device) : Device :=
  let d := d.resetDies
  let d := match d.boot.tableStore with
    | some v => (List.range 128).foldl (fun (d : Device) c => d.setReg (Reg.SF_BUILTIN c) v) d
    | none => d
  { d with pwr := { d.pwr with diesOn := true } }

/-- Stage DIES ends (R570, R583, R593). -/
def Device.bootDies (d : Device) : Device :=
  let e := d.slots Sub.VECTOR
  let d := if d.noImage Sub.VECTOR then d
    else { d with boot := { d.boot with tableStore := some (d.tableVersion (e.active % 2)) } }
  let d := d.diesOn.restoreSlots.applyOwner
  let d := d.setReg Reg.PWR_LIMIT (BitVec.ofNat 32 (match d.storeGet 0x0010 with | some b => leAt b 0 2 | none => 900))
  let d := if d.noImage Sub.POWER then d.setFld Reg.PWR_STATE 25 24 3 else d
  let d := (d.setFld Reg.PWR_STATE 31 29 d.pState)
  d.setStage 5

/-- READY (R519, R583): the interface accepts its rings on every function. It waits for PERST_N to have been released. -/
def Device.bootReady (d : Device) : Device :=
  if !d.boot.starting || d.pwr.perstLow then d
  else
    let d := (List.range 17).foldl (fun d f => d.setFlag (Reg.ZN_STATUS f) 31 true) d
    let ms := min 0xFFFF ((d.now - d.boot.startedAt) / (1000000 * nsUnit))
    let fault := d.boot.faultAtReady
    let d := { d.setReg Reg.CFG_BOOT_MS (BitVec.ofNat 32 ms) with
      boot := { d.boot with starting := false, warm := false, faultAtReady := false }, zn := { d.zn with linkUp := true } }
    if fault then d.fire Evt.DEVICE_FAULT else d

/-- BOOT_STAGE_COMPLETE (R583): the stage in progress ends and the next begins. -/
def Device.bootStage (d : Device) (hbmMask chiplets : Nat) : Device :=
  if !d.boot.starting ∨ !d.pwr.pgOut then d
  else match d.stage with
    | 0 => d.bootRom
    | 1 => d.setStage 2
    | 2 => d.bootImages
    | 3 => d.bootMemory hbmMask chiplets
    | 4 => d.bootDies
    | 5 | 7 => d.bootReady
    | _ => d

/-! ## Cold and warm starts (R596, R598) -/

/-- A warm cause (R596, R598): recorded; before READY it has no further effect. -/
def Device.askWarm (d : Device) (cause : Nat) : Device :=
  let d := d.setFld Reg.CFG_BOOT 31 28 cause
  if d.boot.starting then d else { d with boot := { d.boot with warmAsked := some cause } }

/-- WARM_RESET: the reset that was asked for; stages MGMT to READY follow, from the image choice on. -/
def Device.warmStart (d : Device) : Device :=
  match d.boot.warmAsked with
  | none => d
  | some _ =>
    let d := { d with boot := { d.boot with warmAsked := none } }
    let d := if d.stage = 6 then d else d.warmReset
    let d := { d with boot := { d.boot with starting := true, warm := d.stage != 6, startedAt := d.now } }
    d.bootRom

/-- COLD_START: power is there and a start is due: everything is reset and stage ROM begins. -/
def Device.coldStart (d : Device) : Device :=
  if d.pwr.pwrEn && !d.pwr.latchedOff && !d.pwr.inputWait && d.pwr.thermalOff.isNone && !d.pwr.pgOut then
    let d := d.coldReset d.pwr.nextCause
    { d with pwr := { d.pwr with pgOut := true, hotSwap := true } }
  else d

end Machine
end Sys2Proof
end

