-- ==== Sys2Proof/Machine/ZnRings.lean ====
section
/-!
DEFINITION. The rings of the Zennus interface (R498-R509): doorbells and the packets read behind them, the checks every command meets, and the
arbiter that starts them.
-/
namespace Sys2Proof
namespace Machine

/-! ## The catalogue (R509, R510) -/

/-- A row of the catalogue: its opcode; whether it is of device scope and PF-only; whether the partition it names must be ON; the parameter bytes
it names, as (offset, length); the bits it names in the bytes that are not named whole. -/
structure OpRow where
  code : Nat
  dev : Bool := false
  pf : Bool := false
  on : Bool := false
  used : List (Nat × Nat) := []
  masks : List (Nat × Nat) := []
  deriving DecidableEq, Repr

/-- Rings, functions, controls of long operations. -/
def opRowsRing : List OpRow :=
  [{ code := 0x0001 }, { code := 0x0002, used := [(16, 8)] }, { code := 0x0003, used := [(16, 20)], masks := [(33, 3)] },
   { code := 0x0004, used := [(16, 3)], masks := [(18, 1)] }, { code := 0x0005, pf := true, used := [(16, 4)] },
   { code := 0x0006, dev := true, pf := true }, { code := 0x0100, used := [(16, 6)] }, { code := 0x0101, used := [(16, 6)] },
   { code := 0x0102, used := [(16, 6)] }, { code := 0x0103, used := [(16, 6)] }]

/-- Partitions, memory, cores. -/
def opRowsPart : List OpRow :=
  [{ code := 0x0200, pf := true, used := [(16, 2)] }, { code := 0x0201, pf := true }, { code := 0x0202, pf := true },
   { code := 0x0203, pf := true, used := [(16, 12)] }, { code := 0x0204, pf := true, used := [(16, 12)] },
   { code := 0x0205, on := true, used := [(16, 9), (32, 32)] }, { code := 0x0206, on := true, used := [(16, 8)] },
   { code := 0x0207, on := true, used := [(16, 16)] }, { code := 0x0208, on := true, used := [(16, 12)] },
   { code := 0x0300, on := true, used := [(16, 4), (32, 32)] }, { code := 0x0301, on := true, used := [(16, 16)] },
   { code := 0x0302, on := true, used := [(16, 2), (20, 15)] },
   { code := 0x0303, on := true, used := [(16, 24)], masks := [(36, 7)] }, { code := 0x0304, pf := true, on := true, used := [(16, 1)] }]

/-- Flows, ports, transport, updates, checkpoints. -/
def opRowsNet : List OpRow :=
  [{ code := 0x0500, on := true, used := [(16, 17), (36, 4)], masks := [(32, 3)] }, { code := 0x0501, on := true, used := [(16, 4)] },
   { code := 0x0502, on := true, used := [(16, 4)] }, { code := 0x0503, on := true, used := [(16, 5)] },
   { code := 0x0504, on := true, used := [(16, 5)] }, { code := 0x0505, on := true, used := [(16, 5)] },
   { code := 0x0506, dev := true, pf := true, used := [(16, 2)], masks := [(17, 1)] }, { code := 0x0507, dev := true, pf := true, used := [(16, 1)] },
   { code := 0x0508, on := true, used := [(16, 1), (24, 10), (40, 16)] }, { code := 0x0509, pf := true, on := true, used := [(16, 1)], masks := [(16, 1)] },
   { code := 0x0600, on := true, used := [(16, 3), (20, 4)], masks := [(18, 3)] }, { code := 0x0601, on := true, used := [(16, 1)], masks := [(16, 1)] },
   { code := 0x0602, on := true, used := [(16, 2)] }, { code := 0x0603, on := true, used := [(16, 3), (20, 12)] }]

/-- Service, firmware, lifecycle, power, configuration. -/
def opRowsSys : List OpRow :=
  [{ code := 0x0700, dev := true, pf := true, used := [(16, 1)] }, { code := 0x0701, dev := true, pf := true, used := [(16, 1)] },
   { code := 0x0702, dev := true, pf := true, used := [(16, 1)] }, { code := 0x0703, dev := true, pf := true, used := [(16, 1)] },
   { code := 0x0704, dev := true, pf := true, used := [(16, 1), (24, 12)] }, { code := 0x0705, dev := true, pf := true, used := [(16, 1)] },
   { code := 0x0706, dev := true, pf := true, used := [(16, 1)] }, { code := 0x0707, dev := true, pf := true, used := [(16, 8)] },
   { code := 0x0708, dev := true, pf := true, used := [(16, 1)] }, { code := 0x0800, dev := true, pf := true, used := [(16, 1)] },
   { code := 0x0801, pf := true, used := [(16, 1)] }, { code := 0x0802, pf := true }, { code := 0x0803, dev := true, pf := true },
   { code := 0x0804, dev := true, pf := true }, { code := 0x0805, dev := true, pf := true, used := [(16, 4)] },
   { code := 0x0806, dev := true, pf := true, used := [(16, 1)] }, { code := 0x0807, dev := true, pf := true, used := [(16, 2), (24, 8)] },
   { code := 0x0808, dev := true, pf := true, used := [(16, 4), (32, 32)] }]

/-- The catalogue. -/
def opRows : List OpRow := opRowsRing ++ opRowsPart ++ opRowsNet ++ opRowsSys

def opRow (code : Nat) : Option OpRow := opRows.find? (fun r => r.code == code)

/-! ## Fields of a packet (R505) -/

/-- A little-endian parameter of a command. -/
def ZCmd.arg (c : ZCmd) (off n : Nat) : Nat := leAt c.pkt off n

/-- The extension entries it has, and the bytes that its opcode names in them: an encrypted flow's key, page-table entries, a record. -/
def ZCmd.ext (c : ZCmd) : Nat := bits (c.arg 2 1) 3 0

def ZCmd.extBytes (c : ZCmd) : Nat :=
  match c.opcode with
  | 0x0205 => 8 * c.arg 24 1 - 32
  | 0x0500 => if bit (c.arg 32 1) 1 then 36 else 0
  | 0x0503 => 36
  | 0x0808 => c.arg 18 2 - 32
  | _ => 0

/-- Whether byte i of the packet is one that the opcode names. An IPv4 address takes 4 bytes. -/
def ZCmd.names (c : ZCmd) (r : OpRow) (i : Nat) : Bool :=
  if i ≥ 64 then decide (i < 64 + c.extBytes)
  else if c.opcode = 0x0500 ∧ !bit (c.arg 32 1) 0 ∧ 20 ≤ i ∧ i < 32 then false
  else r.used.any (fun u => decide (u.1 ≤ i) && decide (i < u.1 + u.2))

/-- The check of order 2 of R508: reserved fields and EXT. -/
def ZCmd.wellFormed (c : ZCmd) (r : OpRow) : Bool :=
  c.arg 2 1 / 64 == 0 && bits (c.arg 3 1) 6 4 == 0 && c.arg 10 6 == 0 && c.ext == ceilDiv c.extBytes 64
    && (List.range (48 + 64 * c.ext)).all (fun k => c.names r (16 + k) || c.arg (16 + k) 1 == 0)
    && r.masks.all (fun m => Nat.land (c.arg m.1 1) (255 - m.2) == 0)

/-- What runs over MCTP (R524). -/
def mctpAllows (c : ZCmd) : Bool :=
  [0x0001, 0x0002, 0x0006, 0x0100, 0x0705, 0x0806, 0x0807].contains c.opcode || (c.opcode == 0x0805 && decide (c.arg 16 4 ≤ 900))

/-! ## The common checks (R508, R520) -/

/-- The number of functions, and the function number of MCTP (R524). -/
def mctpFn : Nat := 0xFF

/-- Orders 1 to 3 of R508. -/
def Device.refusalForm (d : Device) (c : ZCmd) : Option Nat :=
  match opRow c.opcode with
  | none => some St.BAD_OPCODE
  | some r =>
    firstStatus
      [(!c.wellFormed r, St.BAD_FIELD),
       (d.lifecycle == 3 && !([0x0001, 0x0002, 0x0100, 0x0807].contains c.opcode), St.RETIRED)]

/-- Orders 4 to 6 of R508. -/
def Device.refusalScope (d : Device) (c : ZCmd) : Option Nat :=
  match opRow c.opcode with
  | none => none
  | some r =>
    let vf := c.fn != 0 && c.fn != mctpFn
    let onDevRing := match Cells.find? d.zn.rings c.ring with | some g => g.sqDev || g.cqDev | none => false
    let own := d.boundPart c.fn
    firstStatus
      [((vf && r.pf) || (c.dev && (vf || c.part != 0 || onDevRing)) || r.dev != c.dev || (vf && own.isNone && decide (c.opcode > 2))
          || (c.fn == mctpFn && !mctpAllows c), St.NOT_PERMITTED),
       ((vf && own.isSome && own != some c.part) || (!vf && r.on && !d.partOn c.part), St.ACCESS_DENIED),
       (c.dup, St.DUP_ID)]

/-- Removal comes first (R520): once it is being prepared only the PF admin ring is served, and once PREPARED only ZN_NOP and ZN_IDENTIFY run. -/
def Device.refusalFence (d : Device) (c : ZCmd) : Option Nat :=
  if (d.zn.preparing && c.ring != 0) || (d.flag (Reg.ZN_STATUS 0) 29 && decide (c.opcode > 2)) then some St.FENCED else none

/-- The target of ZN_LIFECYCLE names a state that a command may ask for (R510). -/
def Device.refusalTarget (_ : Device) (c : ZCmd) : Option Nat :=
  if c.opcode = 0x0800 ∧ (c.arg 16 1 = 0 ∨ c.arg 16 1 > 3) then some St.BAD_FIELD else none

/-- The status that refuses a command before it starts. -/
def Device.refusal (d : Device) (c : ZCmd) : Option Nat :=
  ((d.refusalFence c).or (d.refusalForm c)).or ((d.refusalScope c).or (d.refusalTarget c))

/-! ## The arbiter (R502, R503) -/

/-- The oldest command of a ring that has not started. -/
def Device.ringHead (d : Device) (g : Nat) : Option (Nat × ZCmd) := d.zn.cmds.find? (fun e => e.2.ring == g && e.2.state == .waiting)

/-- FENCE (R502): a fenced command starts after all before it, and holds all behind it. -/
def Device.fenceOk (d : Device) (id : Nat) (c : ZCmd) : Bool :=
  let before := d.zn.cmds.filter (fun e => e.2.ring == c.ring && decide (e.1 < id))
  !before.any (fun e => e.2.fence) && (!c.fence || before.isEmpty)

/-- Room for the command's completion (R503); over MCTP one command runs at a time (R524). -/
def Device.cqRoom (d : Device) (g : Nat) : Bool :=
  let n := (d.zn.cmds.filter (fun e => e.2.ring == g && e.2.state != .waiting)).length
  match Cells.find? d.zn.rings g with
  | none => n == 0
  | some r => decide (n + (r.cqTail + 2 ^ r.log2 - r.cqHead) % 2 ^ r.log2 < 2 ^ r.log2 - 1)

/-- The rings that are served now: none while management firmware is activated (R488), only MCTP once FENCED (R521). -/
def Device.servedRings (d : Device) : List Nat :=
  if d.flag (Reg.ZN_STATUS 0) 28 then [] else if d.flag (Reg.ZN_STATUS 0) 30 then [mctpRing] else d.zn.rings.map (·.1) ++ [mctpRing]

/-- The command a ring could start now. -/
def Device.ringReady (d : Device) (g : Nat) : Option (Nat × ZCmd) :=
  match d.ringHead g with
  | none => none
  | some e => if d.fenceOk e.1 e.2 && d.cqRoom g then some e else none

/-- The command that starts next: rings in rotation by global number (R29, R502). -/
def Device.znNext (d : Device) : Option (Nat × ZCmd) :=
  let rs := d.servedRings.filter (fun g => (d.ringReady g).isSome)
  match rs.find? (fun g => decide (d.zn.arb ≤ g)) with
  | some g => d.ringReady g
  | none => match rs with
    | [] => none
    | g :: _ => d.ringReady g

/-- Replaces a command. -/
def Device.setCmd (d : Device) (id : Nat) (c : ZCmd) : Device := { d with zn := { d.zn with cmds := Cells.put d.zn.cmds id c } }

/-- A ring has been served. -/
def Device.served (d : Device) (g : Nat) : Device := { d with zn := { d.zn with arb := (g + 1) % (mctpRing + 1) } }

/-- A command starts. -/
def Device.znStart (d : Device) (id : Nat) (c : ZCmd) : Device :=
  let d := d.served c.ring
  let order := d.zn.order.filter (fun k => (Cells.find? d.zn.cmds k).isSome) ++ [id]
  { d with zn := { d.zn with order := order } }.setCmd id { c with state := .started }

/-- Commands held back for want of completion space count once in ZN_CQ_STALL (R503). -/
def Device.markStalls (d : Device) : Device :=
  d.servedRings.foldl (fun d g =>
    match d.ringHead g with
    | none => d
    | some (id, c) =>
      if d.fenceOk id c && !d.cqRoom g && !c.stalled && c.fn != mctpFn then (d.setCmd id { c with stalled := true }).bump (Reg.ZN_CQ_STALL c.fn) 1 else d) d

/-- Completes the commands at the front that a common check refuses. -/
def Device.refuseAll (d : Device) : Nat → Device
  | 0 => d
  | n + 1 =>
    match d.znNext with
    | none => d
    | some (id, c) =>
      match d.refusal c with
      | none => d
      | some st => ((d.served c.ring).complete id st 0).refuseAll n

/-! ## Doorbells (R500, R501) -/

/-- The ring of a function by its local number. -/
def Device.localRing (d : Device) (fn l : Nat) : Option (Nat × Ring) := d.zn.rings.find? (fun e => e.2.fn == fn && e.2.loc == l)

def Device.setRing (d : Device) (g : Nat) (r : Ring) : Device := { d with zn := { d.zn with rings := Cells.put d.zn.rings g r } }

/-- A command as its packet spells it (R505). -/
def cmdOf (fn ring : Nat) (pkt : List Byte) : ZCmd :=
  let f := leAt pkt 2 1
  let p := leAt pkt 3 1
  { fn := fn, ring := ring, opcode := leAt pkt 0 2, quiet := bit f 5, fence := bit f 4, part := bits p 3 0, dev := bit p 7, cmdId := leAt pkt 4 4,
    utag := leAt pkt 8 2, pkt := pkt }

/-- A packet has been read: its command is outstanding from now on (R507). -/
def Device.receive (d : Device) (fn ring : Nat) (pkt : List Byte) : Device :=
  let c := cmdOf fn ring pkt
  let dup := d.zn.cmds.any (fun e => e.2.fn == fn && e.2.cmdId == c.cmdId)
  let id := d.zn.nextCmd
  { d with zn := { d.zn with nextCmd := id + 1, cmds := Cells.put d.zn.cmds id { c with dup := dup } } }

/-- Reads the whole packets of a run of bytes, the head moving past each; what is left waits for a later tail (R501). -/
def Device.readPackets (d : Device) (g : Nat) (bs : List Byte) : Nat → Device
  | 0 => d
  | n + 1 =>
    match Cells.find? d.zn.rings g with
    | none => d
    | some r =>
      let k := 64 * (1 + bits (leAt bs 2 1) 3 0)
      if bs.length < 64 ∨ bs.length < k then d.setRing g { r with partialPkt := bs }
      else
        let d := d.setRing g { r with partialPkt := [], head := (r.head + k / 64) % 2 ^ r.log2 }
        (d.receive r.fn g (bs.take k)).readPackets g (bs.drop k) n

/-- The entries of a ring in device memory from index i on. -/
def Device.readEntries (d : Device) (r : Ring) (i : Nat) : Nat → Device × List Byte
  | 0 => (d, [])
  | n + 1 =>
    let e := d.readVa r.part (r.sqBase + 64 * (i % 2 ^ r.log2)) 64
    let q := e.1.readEntries r (i + 1) n
    (q.1, (e.2.1 ++ List.replicate 64 0#8).take 64 ++ q.2)

/-- SQ_TAIL_WRITE without the starts that follow: `host` is what a ring in host memory holds in the entries that the new tail covers. -/
def Device.sqTail (d : Device) (fn l v : Nat) (host : List Byte) : Device :=
  match d.localRing fn l with
  | none => d
  | some (g, r) =>
    if v ≥ 2 ^ r.log2 then d.bump (Reg.ZN_DB_ERR fn) 1
    else
      let n := (v + 2 ^ r.log2 - r.tail) % 2 ^ r.log2
      if n = 0 ∨ d.flag (Reg.ZN_STATUS 0) 30 then d
      else
        let e := if r.sqDev then d.readEntries r r.tail n else (d, (host ++ List.replicate (64 * n) 0#8).take (64 * n))
        (e.1.setRing g { r with tail := v }).readPackets g (r.partialPkt ++ e.2) (r.partialPkt.length + n + 1)

/-- CQ_HEAD_WRITE without the starts that follow. -/
def Device.cqHeadWrite (d : Device) (fn l v : Nat) : Device :=
  match d.localRing fn l with
  | none => d
  | some (g, r) => if v ≥ 2 ^ r.log2 then d.bump (Reg.ZN_DB_ERR fn) 1 else d.setRing g { r with cqHead := v }

end Machine
end Sys2Proof
end

