-- ==== Sys2Proof/Machine/ZnOps.lean ====
section
/-!
DEFINITION. Long operations of the Zennus interface (R514-R517, R557): their start in turn, presence, their work, suspension and cancellation.
-/
namespace Sys2Proof
namespace Machine

/-! ## Presence (R557) -/

/-- Whether a session of debug on this partition already stands at the level asked for, or above (R563). -/
def Device.debugLowers (d : Device) (c : ZCmd) : Bool :=
  let l := d.dbgLevel
  l != 0 && decide (c.arg 16 1 ≤ l) && d.fld Reg.SEC_STATE 19 16 == c.part

/-- Whether a command waits for a press. -/
def Device.needsPresence (d : Device) (c : ZCmd) : Bool :=
  match c.opcode with
  | 0x0706 | 0x0803 | 0x0804 => true
  | 0x0800 => c.arg 16 1 == 2
  | 0x0801 => decide (c.arg 16 1 ≥ 2) && !d.debugLowers c
  | 0x0805 => decide (c.arg 16 4 > 900)
  | _ => false

/-- The length of a window in seconds. -/
def Device.presSeconds (d : Device) : Nat := max 10 (min 300 (d.fld Reg.SEC_PRES_CFG 8 0))

/-- Opens the presence window for a command: the LED lights and PRESENCE fires. -/
def Device.openWindow (d : Device) (id opcode : Nat) : Device :=
  let w := d.presSeconds
  let d := ((d.setFlag Reg.SEC_PRES_STATUS 31 true).setFld Reg.SEC_PRES_STATUS 24 16 w).setFld Reg.SEC_PRES_STATUS 15 0 opcode
  { d with sec := { d.sec with window := some { cmd := id, opened := d.now, deadline := d.now + w * secUnit, opcode := opcode } } }.fire Evt.PRESENCE

/-- Whether the window is a command's. -/
def Device.hasWindow (d : Device) (id : Nat) : Bool := match d.sec.window with | some w => w.cmd == id | none => false

/-! ## Removal (R520) -/

/-- The start of ZN_PREPARE_REMOVE: schedules stop, free-running partitions take a sluice, flows close, long operations are cancelled. -/
def Device.prepareBegin (d : Device) (id : Nat) : Device :=
  let d := { d with zn := { d.zn with preparing := true } }
  let d := (List.range 16).foldl (fun d p =>
    if d.clustersOf p = 0#16 then d else if d.stkState p = 0 then d.forceSluice p else d.stkStop p) d
  let d := (d.aq.flows.map (fun e => (e.1, e.2.phase))).foldl (fun (d : Device) e =>
    match e.2 with
    | .live | .broken => d.closeFlow e.1 none
    | .opening => d.endFlow e.1 St.CANCELLED
    | .closing => d) d
  ((d.zn.cmds.filter (fun e => e.2.long && e.2.begun && e.1 != id)).map (·.1)).foldl (fun d k => d.endOp k St.CANCELLED) d

/-- Its end, once every flow is FREE and every schedule stopped: what is still outstanding completes, and the module is PREPARED. -/
def Device.prepareEnd (d : Device) (id : Nat) : Device :=
  if d.aq.flows.isEmpty && !d.anySchedule then
    let d := ((d.zn.cmds.filter (fun e => e.1 != id && e.2.begun)).map (·.1)).foldl (fun d k => d.complete k St.CANCELLED 0) d
    let d := ((d.zn.cmds.filter (fun e => e.1 != id)).map (·.1)).foldl (fun d k => d.complete k St.FENCED 0) d
    let d := d.complete id St.OK 0
    (List.range 17).foldl (fun (d : Device) f => d.setFlag (Reg.ZN_STATUS f) 29 true) d
  else d

/-! ## The work of long operations -/

/-- Granules named by a first address and COUNT. -/
def ZCmd.granules (c : ZCmd) : List Nat := (List.range (c.arg 24 4)).map (fun i => granule (c.arg 16 8) + i)

/-- ZN_GRANULE_RELEASE: each granule that is still the partition's is zeroed and returns to the pool. -/
def Device.releaseGranules (d : Device) (id : Nat) (c : ZCmd) : Device :=
  let gs := c.granules.filter (fun g => Cells.find? d.granules g == some c.part)
  (gs.foldl (fun d g => d.freeGranule g) d).complete id St.OK gs.length

/-- ZN_SCRUB: every codeword of the granules is read and written back corrected (R287). RESULT counts the codewords corrected. -/
def Device.scrubGranules (d : Device) (id : Nat) (c : ZCmd) : Device :=
  let lo := granule (c.arg 16 8) * 0x8000
  let n := c.arg 24 4 * 0x8000
  let fixed := (Cells.slice d.symErr lo n).filter (fun e => !Cells.get false d.poison e.1)
  let lost := (Cells.slice d.poison lo n).filter (·.2)
  let d := (fixed.map (·.1) ++ lost.map (·.1)).foldl (fun d cw => (d.readCodewords cw 1).1) d
  d.complete id St.OK fixed.length

/-- The samples of ZN_TABLE_BUILD. -/
def samplesOf (bs : List Byte) (n : Nat) : List (Nat × Nat) := (chunks 8 n bs).map (fun e => (leAt e 0 4, leAt e 4 4))

/-- Whether the x of the samples ascend. -/
def ascending : List (Nat × Nat) → Bool
  | a :: b :: rest => (Num.ofFp32 a.1).lt (Num.ofFp32 b.1) && ascending (b :: rest)
  | _ => true

/-- Whether an image is one that ZN_TABLE_BUILD may write: it passes the load checks (R166, R169), and each sample lies within TOL (R510). -/
def imageFits (c : ZCmd) (ss : List (Nat × Nat)) (img : List Byte) : Bool :=
  let t : Table := bytesToWords (img.length / 4) img
  t.check.isNone && t.imageBytes == img.length && decide (t.nseg ≤ c.arg 38 2) && t.quadratic == bit (c.arg 36 1) 0 && t.mono == bits (c.arg 36 1) 2 1
    && ss.all (fun s => decide (seamDistance (t.eval Fmt.FP32 s.1).1 s.2 ≤ c.arg 37 1))

/-- ZN_TABLE_BUILD. -/
def Device.buildTable (d : Device) (id : Nat) (c : ZCmd) : Device :=
  let n := c.arg 32 4
  let r := d.readVa c.part (c.arg 16 8) (8 * n)
  if r.2.2.1 ≠ St.OK then r.1.complete id r.2.2.1 0
  else
    let ss := samplesOf r.2.1 n
    if !ascending ss then r.1.complete id St.BAD_FIELD 0
    else match Config.tableImage ss (bit (c.arg 36 1) 0) (bits (c.arg 36 1) 2 1) (c.arg 37 1) (c.arg 38 2) with
      | none => r.1.complete id St.TABLE_SEAM 0
      | some img =>
        if imageFits c ss img then
          let w := r.1.writeVa c.part (c.arg 24 8) img
          w.1.complete id w.2.1 (if w.2.1 = St.OK then Table.nseg (bytesToWords 1 img) else 0)
        else r.1.complete id St.TABLE_SEAM 0

/-- ZN_RESTORE goes on: it ends, or its READs have come and it posts the next ones. -/
def Device.restoreGoOn (d : Device) (id : Nat) (c : ZCmd) : Device :=
  let waits := c.arg 18 1 == 1 && d.awaiting c.part && (Cells.find? d.aq.failed c.part).isNone
  if waits then d
  else
    match d.restoreWork c with
    | (d, some (st, seq)) => d.complete id st seq
    | (d, none) => d.setCmd id { c with progress := c.progress + 1 }

/-- A lifecycle transition without presence, or one whose press has counted, begins its actions (R551, R572). -/
def Device.lifecycleBegin (d : Device) (id : Nat) (c : ZCmd) : Device :=
  let d := d.exitIdle
  match c.arg 16 1 with
  | 1 =>
    if d.lifecycle = 0 then (d.setLifecycle 1).complete id St.OK 0
    else
      let d := d.closeDebug
      { d with sec := { d.sec with scrubbing := true } }.setCmd id { c with progress := 1 }
  | 2 =>
    let d := d.closeDebug.zeroise
    { d with sec := { d.sec with scrubbing := true } }.setCmd id { c with progress := 1 }
  | _ => (d.retireModule (some id)).complete id St.OK 0

/-- Its scrub ends: the state is recorded. -/
def Device.lifecycleEnd (d : Device) (id : Nat) (c : ZCmd) : Device :=
  if c.progress = 0 then d
  else
    let d := d.scrubAll
    ({ d with sec := { d.sec with scrubbing := false } }.setLifecycle (c.arg 16 1)).complete id St.OK 0

/-- A command whose press has counted, or that needs none, proceeds (R551, R553, R561, R563, R569, R595). -/
def Device.presenceGo (d : Device) (id : Nat) (c : ZCmd) : Device :=
  match c.opcode with
  | 0x0706 =>
    let s := c.arg 16 1
    if d.rollbackStatus s = St.OK then d.activateStart s (some id) else d.complete id (d.rollbackStatus s) 0
  | 0x0800 => d.lifecycleBegin id c
  | 0x0801 => (d.setDebug (c.arg 16 1) c.part).complete id St.OK 0
  | 0x0803 => d.zeroise.complete id St.OK 0
  | 0x0804 => d.storeChange { sets := [(0x0010, some (toLe 2 900))], owner := some id, dropOwner := true }
  | 0x0805 => (d.setReg Reg.PWR_LIMIT (BitVec.ofNat 32 (c.arg 16 4))).complete id St.OK 0
  | _ => d

/-- A long operation becomes RUNNING and begins its work, or opens its window. -/
def Device.opBegin (d : Device) (id : Nat) (c : ZCmd) : Device :=
  let i := c.arg 16 1
  if d.needsPresence c then d.openWindow id c.opcode
  else match c.opcode with
    | 0x0006 => d.prepareBegin id
    | 0x0202 => d.svcDisable 2 c.part id (fun d => d.partStop c.part)
    | 0x0304 => { d with svc := { d.svc with spare := d.svc.spare ++ [{ core := i, owner := some id }] } }
    | 0x0507 =>
      let p := d.port i
      (d.setPort i { p with recalWaiters := p.recalWaiters ++ [id] }).portRecal i
    | 0x0603 => if c.arg 18 1 = 1 then d.restoreGoOn id c else d
    | 0x0701 => d.svcDisable 0 i id (fun d => d)
    | 0x0702 => d.exitIdle.svcEnable 1 i id
    | 0x0703 => d.svcDisable 1 i id (fun d => d)
    | 0x0704 => d.stageBegin i
    | 0x0800 | 0x0801 => d.presenceGo id c
    | _ => d

/-- LONG_OP_DONE for an operation at work: what its work leaves. Slices, sparing moves, ports, service states, presses, store writes and first starts
end in steps of their own. -/
def Device.opFinish (d : Device) (id : Nat) (c : ZCmd) : Device :=
  match c.opcode with
  | 0x0006 => d.prepareEnd id
  | 0x0204 => d.releaseGranules id c
  | 0x0208 => d.scrubGranules id c
  | 0x0303 => d.buildTable id c
  | 0x0603 => d.restoreGoOn id c
  | 0x0704 => if c.progress = 0 && d.boot.changes.isEmpty then (d.setCmd id { c with progress := 1 }).stageEnd (c.arg 16 1) id c.data else d
  | 0x0708 => d.complete id St.OK 0
  | 0x0800 => d.lifecycleEnd id c
  | _ => d

/-! ## Turns (R515) -/

/-- The object an operation works on; none where its own chapter settles what a second one does (R473, R490). -/
def ZCmd.object (c : ZCmd) : Option (Nat × Nat) :=
  match c.opcode with
  | 0x0204 | 0x0208 | 0x0303 | 0x0603 => some (0, c.part)
  | 0x0304 => some (1, c.arg 16 1)
  | 0x0704 | 0x0706 => some (2, c.arg 16 1)
  | 0x0708 => some (3, c.arg 16 1)
  | 0x0800 => some (4, 0)
  | 0x0801 => some (5, 0)
  | _ => none

/-- An operation holds its place: it has begun its work and not ended. -/
def ZCmd.atWork (c : ZCmd) : Bool :=
  c.long && (c.state == .running || c.state == .suspending || c.state == .resuming || c.state == .cancelling || (c.state == .suspended && c.ran))

/-- Standby holds every operation but those of the hub's firmware (R573). -/
def ZCmd.worksInStandby (c : ZCmd) : Bool := c.opcode == 0x0704 || c.opcode == 0x0006

/-- Whether a queued operation's turn has come. -/
def Device.mayRunOp (d : Device) (id : Nat) (c : ZCmd) : Bool :=
  let run := d.zn.cmds.filter (fun e => e.2.long && e.2.state == .running)
  let rival := d.zn.cmds.any (fun e => e.1 != id && e.2.atWork && e.2.object.isSome && e.2.object == c.object)
  let press := d.needsPresence c && run.any (fun e => d.needsPresence e.2 || d.hasWindow e.1)
  decide (run.length < 64) && !rival && !press && !(d.standby && !c.worksInStandby) && !d.flag (Reg.ZN_STATUS 0) 28

/-- The next queued operation whose turn has come, in the order of their starts. A slice waits for its drain (R473). -/
def Device.nextOp (d : Device) : Option (Nat × ZCmd) :=
  d.zn.order.findSome? (fun k =>
    match Cells.find? d.zn.cmds k with
    | some c => if c.state == .queued && c.opcode != 0x0602 && d.mayRunOp k c then some (k, c) else none
    | none => none)

/-- Lets every operation whose turn has come begin. -/
def Device.promote (d : Device) : Nat → Device
  | 0 => d
  | n + 1 =>
    match d.nextOp with
    | none => d
    | some (id, c) =>
      let c := { c with state := .running, ran := true }
      ((d.setCmd id c).opBegin id c).promote n

/-- What follows every change of the rings or of the operations: turns, refusals, stalls. -/
def Device.znPump (d : Device) : Device :=
  let n := d.zn.cmds.length + 1
  (((d.promote n).refuseAll n).promote n).markStalls

/-! ## Suspend, resume, cancel (R514, R516) -/

/-- The controls that wait for a command, in the order in which they started. -/
def Device.controlsOf (d : Device) (id : Nat) : List (Nat × ZCmd) :=
  d.zn.order.filterMap (fun k =>
    match Cells.find? d.zn.cmds k with
    | some c => if c.waitsFor id then some (k, c) else none
    | none => none)

/-- Whether the module holds operations suspended on its own account (R517). -/
def Device.sysHolds (d : Device) (c : ZCmd) : Bool := (d.standby && !c.worksInStandby) || d.flag (Reg.ZN_STATUS 0) 28

/-- A resume takes effect on a suspended operation: RESUMING, QUEUED where it never ran, or held where the module itself suspends it. -/
def Device.resumeOp (d : Device) (id : Nat) (t : ZCmd) : Device :=
  if t.sys || d.sysHolds t then d.setCmd id { t with hostSusp := false, sys := true }
  else d.setCmd id { t with hostSusp := false, state := if t.ran then .resuming else .queued }

/-- Lets the controls that wait for an operation take effect, as far as its state allows. -/
def Device.settleControls (d : Device) (id : Nat) : Nat → Device
  | 0 => d
  | n + 1 =>
    match Cells.find? d.zn.cmds id, (d.controlsOf id).head? with
    | some t, some (k, c) =>
      if c.opcode = 0x0101 then
        match t.state with
        | .suspended => (d.complete k St.OK 0).settleControls id n
        | .running => d.setCmd id { t with state := .suspending, hostSusp := true }
        | _ => d
      else if c.opcode = 0x0102 then
        match t.state with
        | .running | .queued => (d.complete k St.OK 0).settleControls id n
        | .suspended => if t.sys then d else (d.resumeOp id t).settleControls id n
        | _ => d
      else d
    | _, _ => d

/-- LONG_OP_SAFE_POINT: SUSPENDING becomes SUSPENDED, and an open window of the operation closes. -/
def Device.safePoint (d : Device) (id : Nat) : Device :=
  match Cells.find? d.zn.cmds id with
  | none => d
  | some t =>
    if t.long && t.state == .suspending then
      let d := if d.hasWindow id then d.closeWindow else d
      (d.setCmd id { t with state := .suspended, sys := d.sysHolds t }).settleControls id (d.zn.cmds.length + 1)
    else d

/-- The work state of an operation is restored: RESUMING becomes RUNNING; one that waits for presence opens a full window again (R575). -/
def Device.restoreOp (d : Device) (id : Nat) : Device :=
  match Cells.find? d.zn.cmds id with
  | none => d
  | some t =>
    if !(t.long && t.state == .resuming) then d
    else
      let press := d.needsPresence t && t.progress == 0
      if press && d.sec.window.isSome then d
      else
        let d := d.setCmd id { t with state := .running }
        let d := if press then d.openWindow id t.opcode else d
        d.settleControls id (d.zn.cmds.length + 1)

/-- Restores every operation that is RESUMING; it happens as time passes. -/
def Device.restoreOps (d : Device) : Device :=
  ((d.zn.cmds.filter (fun e => e.2.long && e.2.state == .resuming)).map (·.1)).foldl (fun d id => d.restoreOp id) d

/-- LONG_OP_DONE: the work finishes, or the clean-up of a cancelled operation ends. -/
def Device.longOpDone (d : Device) (id : Nat) : Device :=
  let d := d.restoreOp id
  match Cells.find? d.zn.cmds id with
  | none => d
  | some c =>
    if !c.long then d
    else match c.state with
      | .running | .suspending => if d.sysHolds c || d.hasWindow id then d else d.opFinish id c
      | .cancelling => d.endOp id St.CANCELLED
      | _ => d

/-- Discards the instruction-memory write that a command has waiting (R244). -/
def Device.dropHeld (d : Device) (id : Nat) : Device :=
  { d with cores := d.cores.map (fun k => { k with held := k.held.filter (fun h => h.owner != some id) }) }

def Device.heldImem (d : Device) (id : Nat) : Bool := d.cores.any (fun k => k.held.any (fun h => h.owner == some id))

/-- A control waits for its target. -/
def Device.controlWaits (d : Device) (k : Nat) (c : ZCmd) (id : Nat) : Device := d.setCmd k { c with state := .started, target := some id }

/-- A suspend meets a long operation. -/
def Device.suspendMeets (d : Device) (k : Nat) (c : ZCmd) (id : Nat) (t : ZCmd) : Device :=
  match t.state with
  | .queued | .suspended => (d.setCmd id { t with state := .suspended, hostSusp := true }).complete k St.OK 0
  | .running => (d.setCmd id { t with state := .suspending, hostSusp := true }).controlWaits k c id
  | .suspending | .resuming => d.controlWaits k c id
  | _ => d.complete k St.BAD_STATE 0

/-- A resume meets a long operation. -/
def Device.resumeMeets (d : Device) (k : Nat) (c : ZCmd) (id : Nat) (t : ZCmd) : Device :=
  match t.state with
  | .queued | .running => d.complete k St.OK 0
  | .suspended => ((d.resumeOp id t).controlWaits k c id).settleControls id 1
  | .suspending | .resuming => d.controlWaits k c id
  | _ => d.complete k St.BAD_STATE 0

/-- A cancel meets a long operation. Before any work it ends at once, and so does one that waits for presence (R557); a lifecycle transition whose
scrub has begun runs on (R551). -/
def Device.cancelMeets (d : Device) (k : Nat) (c : ZCmd) (id : Nat) (t : ZCmd) : Device :=
  if t.state == .queued || (t.state == .suspended && !t.ran) || (d.needsPresence t && t.progress == 0 && t.state != .cancelling) then
    (d.endOp id St.CANCELLED).complete k St.OK 0
  else if t.opcode = 0x0800 ∧ t.progress = 1 then d.controlWaits k c id
  else (d.setCmd id { t with state := .cancelling }).controlWaits k c id

/-- The command that a control names (R510): by id, or the schedule's slice of a partition. -/
def Device.controlTarget (d : Device) (k : Nat) (c : ZCmd) : Option (Nat × ZCmd) :=
  let fn := if c.fn = 0 then c.arg 21 1 else c.fn
  if c.arg 20 1 = 1 then d.zn.cmds.find? (fun e => e.2.ring == hiddenRing c.part)
  else d.zn.cmds.find? (fun e => e.1 != k && e.2.fn == fn && e.2.cmdId == c.arg 16 4 && decide (e.2.ring ≤ mctpRing))

/-- A parameter of a control outside its range. -/
def ZCmd.badControl (c : ZCmd) : Bool := decide (c.arg 20 1 > 1) || (c.fn == 0 && decide (c.arg 21 1 > 16) && c.arg 21 1 != mctpFn)

/-- ZN_OP_SUSPEND, ZN_OP_RESUME and ZN_OP_CANCEL (R516). -/
def Device.opControl (d : Device) (k : Nat) (c : ZCmd) : Device :=
  if c.badControl then d.complete k St.BAD_FIELD 0
  else match d.controlTarget k c with
    | none => d.complete k St.NOT_FOUND 0
    | some (id, t) =>
      let cancel := c.opcode == 0x0103
      if t.state == .waiting then
        if cancel then (d.complete id St.CANCELLED 0).complete k St.OK 0 else d.complete k St.BAD_STATE 0
      else if !t.long then
        if cancel && d.heldImem id then ((d.dropHeld id).complete id St.CANCELLED 0).complete k St.OK 0 else d.complete k St.BAD_STATE 0
      else if c.opcode = 0x0101 then d.suspendMeets k c id t
      else if c.opcode = 0x0102 then d.resumeMeets k c id t
      else d.cancelMeets k c id t

/-- The number of a state in ZN_OP_QUERY (R514). -/
def CmdState.code : CmdState → Nat
  | .waiting | .started | .queued => 0
  | .running => 1
  | .suspending => 2
  | .suspended => 3
  | .resuming => 4
  | .cancelling => 5
  | .done => 6

/-- ZN_OP_QUERY (R510, R514). -/
def Device.opQuery (d : Device) (k : Nat) (c : ZCmd) : Device :=
  if c.badControl then d.complete k St.BAD_FIELD 0
  else match d.controlTarget k c with
    | none => d.complete k St.NOT_FOUND 0
    | some (_, t) =>
      if !t.long then d.complete k St.BAD_STATE 0
      else
        let p := if t.state == .queued || t.state == .waiting || !t.ran then 0 else Config.opProgress d.free % 1001
        d.useFree.complete k St.OK (t.state.code * 0x10000000 + (if t.sys then 0x8000000 else 0) + p)

/-! ## Commands that go without a completion (R522, R525) -/

/-- A command is gone, and writes no completion; controls that waited for it find it cancelled. -/
def Device.znForget (d : Device) (id : Nat) : Device :=
  match Cells.find? d.zn.cmds id with
  | none => d
  | some c =>
    let d := if d.hasWindow id then d.closeWindow else d
    let d := { d with zn := { d.zn with cmds := Cells.erase d.zn.cmds id } }
    let d := match d.svc.ckpt.find? (fun e => e.2.owner == id) with
      | some e => d.sliceEnd e.1 St.CANCELLED
      | none => if c.long then d.dropOp id c else d.dropHeld id
    d.complete id St.CANCELLED 0

/-- A command is cancelled with its completion written: every state of it ends at once. -/
def Device.znCancel (d : Device) (id : Nat) : Device :=
  match Cells.find? d.zn.cmds id with
  | none => d
  | some c => if c.long && c.begun then d.endOp id St.CANCELLED else (d.dropHeld id).complete id St.CANCELLED 0

end Machine
end Sys2Proof
end

