-- ==== Sys2Proof/Machine/Stalls.lean ====
section
/-!
DEFINITION. What the passing of time counts: stall counters (R216, R296, R328, R632-R634), the cycles that pacing removes (R616), and the network credit
of partitions (R635).
-/
namespace Sys2Proof
namespace Machine

/-! ## Stall counters (R632, R633) -/

/-- The counters of a row, by number. -/
def Stall.ACTIVE : Nat := 0
def Stall.BUSY : Nat := 1
def Stall.WAIT_QUEUE : Nat := 2
def Stall.OPERAND : Nat := 3
def Stall.BANK_QUOTA : Nat := 6
def Stall.SLOTS_FULL : Nat := 7
def Stall.SEM_WAIT : Nat := 8
def Stall.TIME_WAIT : Nat := 9
def Stall.TABLE_SWAP : Nat := 10

/-- What a running control core waits for, which is also what its cycle counts under (R216). -/
def Core.coreCause (k : Core) : Nat :=
  if k.semWait.isSome then Stall.SEM_WAIT
  else match k.fetch with
    | some w => if insOp w = 0x31 ∧ bits w 25 23 ≤ 5 ∧ occupancy (k.queue (bits w 25 23)) ≥ 64 then Stall.WAIT_QUEUE else Stall.BUSY
    | none => Stall.BUSY

/-- The row's engine is a copy engine whose next request cannot take a slot (R296). -/
def Core.copyCause (k : Core) (m : Nat) : Nat :=
  match k.nextRequest m with
  | none => Stall.BUSY
  | some s =>
    if k.slots.length ≥ 512 then Stall.SLOTS_FULL
    else match s.bank with
      | some b => if k.onBank b ≥ 32 then Stall.BANK_QUOTA else Stall.BUSY
      | none => Stall.BUSY

/-- What the sync unit's command waits for (R237, R238). -/
def syCause (e : QEntry) : Nat :=
  if e.result.isSome then Stall.BUSY
  else match e.opc with
    | 0x02 | 0x03 => Stall.SEM_WAIT
    | 0x04 => if e.started then Stall.TIME_WAIT else Stall.BUSY
    | _ => Stall.BUSY

/-- A command of the vector engine waits for a table's load (R160). -/
def Device.vxSwap (d : Device) (c : Nat) (e : QEntry) : Bool := e.opc == 0x40 && !e.taken && d.fnWaits c (vxFunc e.c % 64)

/-- The cause of a cycle of queue q (R633): a gate or gang first, then what its unit waits for, and an empty queue last. -/
def Device.queueCause (d : Device) (c q : Nat) : Nat :=
  let k := d.core c
  match (k.queue q).head? with
  | none => if (q = 3 ∨ q = 4) ∧ (k.nextRequest (q - 3)).isSome then k.copyCause (q - 3) else Stall.WAIT_QUEUE
  | some e =>
    if e.result.isSome then (if q = 3 ∨ q = 4 then k.copyCause (q - 3) else Stall.BUSY)
    else if !e.open ∨ (e.gang.isSome ∧ !e.released) then Stall.SEM_WAIT
    else match q with
      | 0 => if !e.taken && k.siphonBusy == some 1 then Stall.OPERAND else Stall.BUSY
      | 1 => if !e.taken && k.siphonBusy == some 0 then Stall.OPERAND else Stall.BUSY
      | 2 => if d.vxSwap c e then Stall.TABLE_SWAP else Stall.BUSY
      | 5 => syCause e
      | _ => if e.opc = 0x05 ∧ e.started ∧ e.uses.isNone then Stall.TABLE_SWAP else Stall.BUSY

/-- The pace of the matrix engines: one cycle in 1, 2 or 4 (R615, R616). -/
def Device.pace (d : Device) : Nat :=
  let l := d.fld Reg.PWR_GOV 31 29
  if l = 4 then 2 else if l = 5 then 4 else 1

/-- The cycle is one that pacing removes. -/
def Device.pacedOut (d : Device) : Bool := d.cycles % d.pace != 0

/-- A cycle of a row: ACTIVE and exactly one cause. -/
def Device.stallCount (d : Device) (c e cause : Nat) : Device :=
  (d.bump64 (Reg.CORE_STALL_LO c e Stall.ACTIVE) 1).bump64 (Reg.CORE_STALL_LO c e cause) 1

/-- The cycle of queue q, where its window is open: the control core runs, or the queue or its unit holds a command. -/
def Device.stallQueue (d : Device) (c q : Nat) : Device :=
  let k := d.core c
  let holds := !(k.queue q).isEmpty || ((q == 3 || q == 4) && !k.engineIdle (q - 3))
  if k.run != .running && !holds then d
  else d.stallCount c (q + 1) (if d.pacedOut && q ≤ 1 && (k.queue q).any QEntry.taken then Stall.BUSY else d.queueCause c q)

/-- A core cycle of core c. -/
def Device.stallCore (d : Device) (c : Nat) : Device :=
  if !d.hasSlot c || d.flag (Reg.CORE_STALL_CTL c) 31 then d
  else
    let d := if (d.core c).run == .running then d.stallCount c 0 (d.core c).coreCause else d
    (List.range 6).foldl (fun (d : Device) q => d.stallQueue c q) d

/-- A core cycle of every core. -/
def Device.stallAll (d : Device) : Device :=
  let d := (List.range 128).foldl (fun (d : Device) c => d.stallCore c) d
  if d.pacedOut then d.bump64 Reg.PWR_PACED_LO 1 else d

/-! ## Network credit (R635) -/

/-- A flow that holds a packet it may not send: beyond its 4,096, or with no port in the spray set. -/
def Device.flowHeld (d : Device) (x : Flow) : Bool :=
  x.carries && (x.inflight.any (fun p => p.sentAt.isNone) || (readyMsg 0 x.msgs).isSome) && (decide (x.inflight.length ≥ 4096) || d.spraySet == 0)

/-- ns nanoseconds pass. -/
def Device.netWait (d : Device) (ns : Nat) : Device :=
  (List.range 16).foldl (fun (d : Device) p =>
    if d.aq.flows.any (fun e => e.2.part == p && d.flowHeld e.2) then d.bump64 (Reg.AQ_NETWAIT_LO p) ns else d) d

end Machine
end Sys2Proof
end

