-- ==== Sys2Proof/Machine/Tick.lean ====
section
/-!
DEFINITION. The passing of time while no command waits: one core cycle (R14, R566) and the device time it takes (R333, R334), with what the hub does
as time passes.
-/
namespace Sys2Proof
namespace Machine

/-- One core cycle passes, or as long as a cycle at 1.6 GHz where the core clock stands (R566). Waiting units count it; transmit queues empty,
operations that resume are RUNNING again, and commands that are refused complete. -/
def Device.tick (d : Device) : Device :=
  let stands := decide (4 ≤ d.fld Reg.PWR_STATE 31 29)
  let t := (if stands then 860160 else d.cycles21 1) + d.tim.rest21
  let d := if stands then d else { d.stallAll with cycles := d.cycles + 1 }
  let d := d.netWait ((d.now + t / 21) / nsUnit - d.now / nsUnit)
  let d := { d with tim := { d.tim with rest21 := t % 21 } }
  (((d.advance (t / 21)).drainPorts).restoreOps).znPump

end Machine
end Sys2Proof
end

