-- ==== Sys2Proof/Machine/Events.lean ====
section
/-!
DEFINITION. The event controller (R526-R547): raising and completing from software, function windows, members that can take a delivery, the
delivery decision, and the journal of the management firmware.
-/
namespace Sys2Proof
namespace Machine

/-! ## From software (R530, R531, R535, R545) -/

/-- Whether a number is one of those the tables of R527 reserve, which never fire (R526). -/
def Evt.reserved (n : Nat) : Bool := decide (0x019 ≤ n) && decide (n ≤ 0x0FF)

/-- EVT_RAISE (R545): the PF names any source, a VF those of its window. -/
def Device.evtRaise (d : Device) (fn src : Nat) : Device :=
  match d.fnSource fn src with
  | none => d.bump (Reg.ZN_BAR_DENY fn) 1
  | some n => if Evt.reserved n then d else d.fire n

/-- EVT_COMPLETE (R535). -/
def Device.evtDone (d : Device) (fn src : Nat) : Device :=
  match d.fnSource fn src with
  | none => d.bump (Reg.ZN_BAR_DENY fn) 1
  | some n => d.evtComplete n

/-- A source returns to INACTIVE with EN = 0. -/
def Device.evtOff (d : Device) (n : Nat) : Device := (d.setFld (Reg.EVT_SRC n) 30 29 0).setFlag (Reg.EVT_SRC n) 31 false

/-- Whether two runs of sources share one. -/
def overlaps (b c b' c' : Nat) : Bool := c != 0 && c' != 0 && decide (b < b' + c') && decide (b' < b + c)

/-- What refuses a window for VF v (R531). -/
def Device.windowBad (d : Device) (v base count : Nat) : Bool :=
  decide (count > 256) || (count != 0 && (decide (base < 0x200) || decide (base + count > 4096)))
    || (List.range 17).any (fun u => u != 0 && u != v && overlaps base count (d.fld (Reg.EVT_FN_WIN u) 11 0) (d.fld (Reg.EVT_FN_WIN u) 24 16))

/-- A write of EVT_FN_WIN_v (R531). -/
def Device.fnWindow (d : Device) (v base count : Nat) : Device :=
  if v = 0 ∨ v > 16 then d
  else if d.windowBad v base count then d.setFlag Reg.EVT_STATUS 30 true
  else
    let b := d.fld (Reg.EVT_FN_WIN v) 11 0
    let d := (List.range (d.fld (Reg.EVT_FN_WIN v) 24 16)).foldl (fun d i => d.evtOff (b + i)) d
    d.setReg (Reg.EVT_FN_WIN v) (BitVec.ofNat 32 (count * 0x10000 + base))

/-- A write of EVT_CTL.EN, which EVT_STATUS.EN copies (R541). -/
def Device.evtEnable (d : Device) (en : Bool) : Device := (d.setFlag Reg.EVT_CTL 0 en).setFlag Reg.EVT_STATUS 31 en

/-! ## Members (R538, R539) -/

/-- The configuration state of a function. -/
def Device.pci (d : Device) (fn : Nat) : PciFn := (Cells.find? d.zn.pci fn).getD {}

/-- The size of a function's MSI-X table. -/
def msixSize (fn : Nat) : Nat := if fn = 0 then 2048 else 64

/-- Whether the management firmware runs, and is not being replaced (R488). -/
def Device.mgmtRuns (d : Device) : Bool := d.boot.runningFw.contains Sub.MGMT && !d.flag (Reg.ZN_STATUS 0) 28

/-- Whether a vector can take a delivery. -/
def Device.msixReady (d : Device) (fn vec : Nat) : Bool :=
  let p := d.pci fn
  decide (fn ≤ 16) && p.busMaster && p.msixEnable && !p.msixMask && decide (vec < msixSize fn) && !d.flag (Reg.MSIX fn vec + 12) 0
    && !d.flag (Reg.ZN_STATUS 0) 30 && !d.flag (Reg.ZN_STATUS 0) 29

/-- Whether a control core can take a delivery: it has a slot, its die is ON and powered, its partition is ON. -/
def Device.coreReady (d : Device) (c : Nat) : Bool :=
  d.hasSlot c && d.svcState 0 (c / 32) == 0 && d.pwr.diesOn && !d.standby
    && (match d.partOf c with | some p => d.partOn p | none => false)

/-- Whether a member is enabled. -/
def Device.memberReady (d : Device) (m : Nat) : Bool :=
  bit m 31 && (match bits m 30 29 with
    | 1 => d.msixReady (bits m 28 24) (bits m 10 0)
    | 2 => d.mgmtRuns && decide (bits m 10 0 ≤ 3)
    | 3 => d.coreReady (bits m 23 17)
    | _ => false)

/-- Member i of a set. -/
def Device.member (d : Device) (s i : Nat) : Nat := (d.reg (Reg.EVT_SET s i)).toNat

/-- The set of a source. -/
def Device.evtSet (d : Device) (n : Nat) : Nat := d.fld (Reg.EVT_SRC n) 24 16

/-- The member of its set that a source's delivery goes to: the first enabled one at or after the set's pointer (R540). -/
def Device.readyMember (d : Device) (n : Nat) : Option Nat :=
  let s := d.evtSet n
  rotate 8 (Cells.get 0 d.evt.setPtr s) (fun i => d.memberReady (d.member s i))

/-! ## The delivery decision (R540, R541) -/

/-- The sources that are PENDING with EN = 1, ascending. -/
def Device.pendingSources (d : Device) : List Nat :=
  ((Cells.slice d.regs (Reg.EVT_SRC 0) 0x4000).filter (fun e => bit e.2.toNat 31 && bits e.2.toNat 30 29 == 1)).map
    (fun e => (e.1 - Reg.EVT_SRC 0) / 4)

/-- The sources that only want an enabled member. -/
def Device.heldSources (d : Device) : List Nat :=
  if d.flag Reg.EVT_CTL 0 then d.pendingSources.filter (fun n => (d.readyMember n).isNone) else []

/-- Counts the sources newly held for want of an enabled member (R541). -/
def Device.noteHeld (d : Device) : Device :=
  let h := d.heldSources
  let fresh := h.filter (fun n => !d.evt.held.contains n)
  { d with evt := { d.evt with held := h } }.bump Reg.EVT_HELD fresh.length

/-- The message write of a vector's table entry. -/
def Device.msixWrite (d : Device) (fn vec : Nat) : Device :=
  d.hostWrite (d.reg64 (Reg.MSIX fn vec) / 4 * 4) (toLe 4 (d.reg (Reg.MSIX fn vec + 8)).toNat)

/-- Hands a delivered source to a management core. -/
def Device.toMgmt (d : Device) (n : Nat) (done : Bool) : Device :=
  { d with evt := { d.evt with mgmt := d.evt.mgmt ++ [n + (if done then 0x1000 else 0)] } }

/-- What a delivery does to its target (R542). -/
def Device.deliverTo (d : Device) (n m : Nat) (auto : Bool) : Device :=
  match bits m 30 29 with
  | 1 => d.msixWrite (bits m 28 24) (bits m 10 0)
  | 2 => d.toMgmt n auto
  | _ => d.semAdd (bits m 23 17) (bits m 16 11) 1 none 0xFF 7

/-- Source n is delivered to member i of its set (R540, R542, R543). -/
def Device.deliver (d : Device) (n i : Nat) : Device :=
  let s := d.evtSet n
  let m := d.member s i
  let auto := d.flag (Reg.EVT_SRC n) 28
  let beyond := auto || bits m 30 29 == 3
  let d := ((d.setFld (Reg.EVT_SRC n) 30 29 (if beyond then 0 else 2)).setFld (Reg.EVT_SRC n) 10 8 i).bump64 Reg.EVT_DELIVERED_LO 1
  let d := { d with evt := { d.evt with
    arb := (n + 1) % 4096
    setPtr := Cells.set 0 d.evt.setPtr s ((i + 1) % 8)
    lastTarget := Cells.put d.evt.lastTarget n (bits m 30 29 * 256 + bits m 28 24) } }
  d.deliverTo n m auto

/-- EVENT_DELIVERY: one source, chosen by rotating priority (R29). -/
def Device.eventDelivery (d : Device) : Device :=
  if !d.flag Reg.EVT_CTL 0 then d
  else
    let d := d.noteHeld
    let ready := d.pendingSources.filter (fun n => (d.readyMember n).isSome)
    match (ready.find? (fun n => decide (d.evt.arb ≤ n))).or ready.head? with
    | none => d
    | some n => match d.readyMember n with
      | some i => d.deliver n i
      | none => d

/-! ## The journal (R542, R547) -/

/-- MGMT_EVENT_HANDLED: the firmware journals the oldest delivery to a management core, and completes its source unless the delivery has. -/
def Device.mgmtHandled (d : Device) : Device :=
  match d.evt.mgmt with
  | [] => d
  | x :: rest =>
    if !d.mgmtRuns then d
    else
      let n := x % 0x1000
      let j := d.fld Reg.EVT_JRNL_HEAD 5 0
      let d := d.setReg (Reg.EVT_JRNL j) (BitVec.ofNat 32 (0x80000000 + n * 0x10000 + d.evt.jrnlSeq))
      let d := { d.setFld Reg.EVT_JRNL_HEAD 5 0 ((j + 1) % 64) with
        evt := { d.evt with mgmt := rest, jrnlSeq := (d.evt.jrnlSeq + 1) % 0x10000 } }
      if x < 0x1000 then d.evtComplete n else d

end Machine
end Sys2Proof
end

