-- ==== Sys2Proof/Machine/ZnWork.lean ====
section
/-!
DEFINITION. What each Zennus command does once it has started and passed the common checks (R508 order 7, R510). A command that waits for something
stays outstanding, and whatever it waits for completes it.
-/
namespace Sys2Proof
namespace Machine

/-! ## Taking a command -/

/-- The row of a Zennus command: where the arbiter's next command is one that the row carries out, it starts and does its work. -/
def Device.znRow (d : Device) (sel : ZCmd → Bool) (f : Device → Nat → ZCmd → Device) : Device :=
  let d := d.znPump
  match d.znNext with
  | none => d
  | some (id, c) => if sel c then (f (d.znStart id c) id { c with state := .started }).znPump else d

/-- The row of an opcode. -/
def Device.znOp (d : Device) (op : Nat) (f : Device → Nat → ZCmd → Device) : Device := d.znRow (fun c => c.opcode == op) f

/-- A short command: the first check that fails completes it, else its effect. -/
def Device.znCheck (d : Device) (id : Nat) (checks : List (Bool × Nat)) (f : Device → Device) : Device :=
  match firstStatus checks with
  | some st => d.complete id st 0
  | none => f d

/-- A long operation: the first check that fails completes it, else it is QUEUED (R514). -/
def Device.znQueue (d : Device) (id : Nat) (c : ZCmd) (checks : List (Bool × Nat)) : Device :=
  d.znCheck id checks (fun d => d.setCmd id { c with state := .queued })

/-- Writes bulk data of a command: to host memory, or into the MCTP response (R524). -/
def Device.bulk (d : Device) (id : Nat) (c : ZCmd) (addr : Nat) (bs : List Byte) : Device :=
  if c.fn = mctpFn then d.setCmd id { c with data := bs } else d.hostWrite addr bs

/-! ## Identity and rings (R493, R498-R504, R511) -/

/-- The two versions of a subsystem's images: active, other. -/
def Device.versionsOf (d : Device) (s : Nat) : List Byte :=
  let e := d.slots s
  toLe 2 (e.version (e.active % 2)) ++ toLe 2 (e.version e.other)

/-- The identify page of a function (R511). -/
def Device.identifyPage (d : Device) (fn : Nat) : List Byte :=
  let v := (d.reg (Reg.ZN_VERSION 0)).toNat
  let rings := if fn ≤ 16 then (d.reg (Reg.ZN_RINGS fn)).toNat else 0
  let head := toLe 4 (d.reg Reg.HUB_IDENT).toNat ++ toLe 4 (d.reg Reg.HUB_CAPS).toNat ++ toLe 1 fn ++ toLe 1 ((d.boundPart fn).getD 0xFF)
    ++ toLe 2 (bits rings 31 16) ++ toLe 2 (bits rings 15 0) ++ toLe 1 (bits v 23 16) ++ toLe 1 (bits v 15 8)
  let tail := (List.range 7).flatMap (fun s => d.versionsOf s) ++ toLe 4 (d.reg (Reg.SF_BUILTIN 0)).toNat
    ++ (Config.serialNumber ++ List.replicate 16 0#8).take 16
  let bs := head ++ tail
  bs ++ List.replicate (4096 - bs.length) 0#8

/-- ZN_IDENTIFY. -/
def Device.doIdentify (d : Device) (id : Nat) (c : ZCmd) : Device :=
  d.znCheck id [(c.fn != mctpFn && c.arg 16 8 % 4096 != 0, St.BAD_FIELD)]
    (fun d => (d.bulk id c (c.arg 16 8) (d.identifyPage c.fn)).complete id St.OK 0)

/-- The number of rings in use outside the admin rings, shown as what is free. -/
def Device.showPool (d : Device) : Device :=
  let used := (d.zn.rings.filter (fun e => decide (17 ≤ e.1))).length
  (List.range 17).foldl (fun (d : Device) f => d.setFld (Reg.ZN_POOL_FREE f) 15 0 (32751 - used)) d

/-- Shows the number of rings a function holds. -/
def Device.showHeld (d : Device) (fn : Nat) : Device :=
  d.setFld (Reg.ZN_RINGS fn) 15 0 (d.zn.rings.filter (fun e => e.2.fn == fn)).length

/-- The lowest number from n on that a test leaves free, among k tries. -/
def firstUnused (used : Nat → Bool) (n k : Nat) : Nat := (firstFrom (fun i => !used i) n k).getD n

/-- ZN_RING_CREATE. -/
def Device.doRingCreate (d : Device) (id : Nat) (c : ZCmd) : Device :=
  let fn := c.fn
  let log2 := c.arg 32 1
  let ev := c.arg 34 2
  let held := d.fld (Reg.ZN_RINGS fn) 15 0
  let limit := if fn = 0 then 4096 else d.fld (Reg.EVT_FN_WIN fn) 24 16
  let taken := (d.zn.rings.filter (fun e => decide (17 ≤ e.1))).length
  d.znCheck id
    [(decide (log2 < 4) || decide (log2 > 16) || c.arg 16 8 % 4096 != 0 || c.arg 24 8 % 4096 != 0, St.BAD_FIELD),
     (ev != 0xFFFF && decide (limit ≤ ev), St.BAD_RANGE),
     (decide (taken ≥ 32751), St.RING_TABLE_FULL),
     (decide (held ≥ d.fld (Reg.ZN_RINGS fn) 31 16), St.RING_QUOTA)]
    (fun d =>
      let g := firstUnused (fun g => d.zn.rings.any (fun e => e.1 == g)) 17 (taken + 1)
      let l := if fn = 0 then g else firstUnused (fun l => d.zn.rings.any (fun e => e.2.fn == fn && e.2.loc == l)) 1 (held + 1)
      let r : Ring := {
        fn := fn, loc := l, part := c.part, sqBase := c.arg 16 8, cqBase := c.arg 24 8, log2 := log2, sqDev := bit (c.arg 33 1) 0
        cqDev := bit (c.arg 33 1) 1, event := if ev = 0xFFFF then none else some ev }
      (((d.setRing g r).showPool).showHeld fn).complete id St.OK (g * 0x10000 + l))

/-- A ring is gone. -/
def Device.dropRing (d : Device) (g : Nat) : Device :=
  match Cells.find? d.zn.rings g with
  | none => d
  | some r => ({ d with zn := { d.zn with rings := Cells.erase d.zn.rings g } }.showPool).showHeld r.fn

/-- ZN_RING_DELETE. -/
def Device.doRingDelete (d : Device) (id : Nat) (c : ZCmd) : Device :=
  let l := c.arg 16 2
  match d.localRing c.fn l with
  | none => d.complete id St.NOT_FOUND 0
  | some (g, _) =>
    let busy := (d.zn.cmds.filter (fun e => e.2.ring == g)).map (·.1)
    d.znCheck id [(l == 0 || g == c.ring || (!busy.isEmpty && !bit (c.arg 18 1) 0), St.BAD_STATE)]
      (fun d => ((busy.foldl (fun d k => d.znCancel k) d).dropRing g).complete id St.OK 0)

/-- ZN_VF_CONFIG (R493, R555). -/
def Device.doVfConfig (d : Device) (id : Nat) (c : ZCmd) : Device :=
  let v := c.arg 16 1
  let p := c.arg 17 1
  let q := c.arg 18 2
  d.znCheck id
    [(v == 0 || decide (v > 16) || (p != 0xFF && decide (p > 15)) || q == 0 || decide (q > 2048), St.BAD_FIELD),
     (d.lifecycle != 1, St.NOT_PERMITTED)]
    (fun d =>
      let d := (d.setFlag (Reg.ZN_STATUS v) 15 (p != 0xFF)).setFld (Reg.ZN_STATUS v) 11 8 (if p = 0xFF then 0 else p)
      (d.setFld (Reg.ZN_RINGS v) 31 16 q).complete id St.OK 0)

/-- ZN_PREPARE_REMOVE (R520). -/
def Device.doPrepareRemove (d : Device) (id : Nat) (c : ZCmd) : Device := d.znQueue id c []

/-! ## Partitions and memory (R260-R264, R489, R490, R571) -/

/-- ZN_PART_CONFIG. -/
def Device.doPartConfig (d : Device) (id : Nat) (c : ZCmd) : Device :=
  let m := c.arg 16 2
  let mine := (List.range 16).filter (fun g => m.testBit g)
  d.znCheck id
    [(d.svcState 2 c.part != 3, St.BAD_STATE), (m == 0, St.BAD_FIELD),
     (mine.any (fun g => d.partOfCluster g != none && d.partOfCluster g != some c.part), St.ACCESS_DENIED),
     (mine.any (fun g => d.svcState 0 (g / 4) == 3), St.BAD_STATE)]
    (fun d =>
      let moved := (List.range 16).filter (fun g => (d.clustersOf c.part).toNat.testBit g != m.testBit g)
      let d := moved.foldl (fun (d : Device) g =>
        let d := d.acquireAll g
        let d := d.setCluster g {}
        (List.range 8).foldl (fun (d : Device) k => d.modCore (8 * g + k) (fun k => { k with tlb := [] })) d) d
      { d with partMask := Cells.set 0#16 d.partMask c.part (BitVec.ofNat 16 m) }.complete id St.OK 0)

/-- ZN_PART_ENABLE. -/
def Device.doPartEnable (d : Device) (id : Nat) (c : ZCmd) : Device :=
  d.znCheck id [(d.clustersOf c.part == 0#16 || d.noImage Sub.HUB || d.noImage Sub.VECTOR, St.BAD_STATE)] (fun d => d.svcEnable 2 c.part id)

def Device.doPartDisable (d : Device) (id : Nat) (c : ZCmd) : Device := d.znQueue id c []

/-- A range of granules outside the memories; one of a chiplet out of service. -/
def ZCmd.badGranules (c : ZCmd) : Bool := c.arg 16 8 % 0x200000 != 0 || decide (c.arg 24 4 > 0x100000)

def Device.granuleOut (_ : Device) (c : ZCmd) : Bool := c.granules.any (fun g => !isDram (regionOf (g * 0x200000)))

def Device.granuleOffline (d : Device) (c : ZCmd) : Bool :=
  c.granules.any (fun g => match regionOf (g * 0x200000) with | .cistern k => !d.cisOnline k | _ => false)

/-- A granule of the command is not the partition's. -/
def Device.granuleForeign (d : Device) (c : ZCmd) : Bool := c.granules.any (fun g => Cells.find? d.granules g != some c.part)

/-- ZN_GRANULE_ASSIGN (R262, R486). -/
def Device.doGranuleAssign (d : Device) (id : Nat) (c : ZCmd) : Device :=
  d.znCheck id
    [(c.badGranules, St.BAD_FIELD), (d.granuleOut c, St.BAD_RANGE), (d.granuleOffline c, St.TIER_OFFLINE),
     (c.granules.any (fun g => match Cells.find? d.granules g with | some q => q != c.part | none => false), St.ACCESS_DENIED),
     (c.granules.any (fun g => d.svc.granules.contains g), St.BAD_STATE)]
    (fun d => { d with granules := c.granules.foldl (fun m g => Cells.put m g c.part) d.granules }.complete id St.OK c.granules.length)

def Device.doGranuleRelease (d : Device) (id : Nat) (c : ZCmd) : Device :=
  d.znQueue id c [(c.badGranules, St.BAD_FIELD), (d.granuleOut c, St.BAD_RANGE), (d.granuleForeign c, St.ACCESS_DENIED)]

def Device.doScrub (d : Device) (id : Nat) (c : ZCmd) : Device :=
  d.znQueue id c [(c.badGranules, St.BAD_FIELD), (d.granuleOut c, St.BAD_RANGE), (d.granuleForeign c, St.ACCESS_DENIED)]

/-- Whether n bytes from a physical address lie in granules of partition p. -/
def Device.ownsBytes (d : Device) (p a n : Nat) : Bool := d.granuleOwner a == some p && d.granuleOwner (a + n - 1) == some p

/-- ZN_PT_WRITE: page tables lie in HBM (R260). -/
def Device.doPtWrite (d : Device) (id : Nat) (c : ZCmd) : Device :=
  let a := c.arg 16 8
  let n := c.arg 24 1
  d.znCheck id
    [(a % 8 != 0 || n == 0 || decide (n > 124), St.BAD_FIELD),
     (regionOf a != .hbm || regionOf (a + 8 * n - 1) != .hbm, St.BAD_RANGE),
     (!d.ownsBytes c.part a (8 * n), St.ACCESS_DENIED)]
    (fun d =>
      let r := d.memWrite a ((c.pkt.drop 32).take (8 * n))
      r.1.complete id (if r.2 then St.UNCORRECTABLE else St.OK) 0)

/-- ZN_PT_ROOT. -/
def Device.doPtRoot (d : Device) (id : Nat) (c : ZCmd) : Device :=
  let a := c.arg 16 8
  let p := c.part
  if a = 0 then (d.setFlag (Reg.HUB_PT_ROOT_LO p) 0 false).complete id St.OK 0
  else d.znCheck id
    [(a % 4096 != 0, St.BAD_FIELD), (regionOf a != .hbm, St.BAD_RANGE), (d.granuleOwner a != some p, St.ACCESS_DENIED)]
    (fun d => ((d.setReg (Reg.HUB_PT_ROOT_LO p) (BitVec.ofNat 32 (a + 1))).setReg (Reg.HUB_PT_ROOT_HI p) (BitVec.ofNat 32 (a / 0x100000000))).complete
      id St.OK 0)

/-- Whether an entry of a translation cache meets a range; a range of length 0 is everything. -/
def TlbEntry.meets (e : TlbEntry) (va n : Nat) : Bool :=
  n == 0 || (decide (e.vpage * 2 ^ e.log2 < va + n) && decide (va < (e.vpage + 1) * 2 ^ e.log2))

/-- ZN_XLATE_INVAL (R264). -/
def Device.doXlateInval (d : Device) (id : Nat) (c : ZCmd) : Device :=
  let keep := fun (t : List TlbEntry) => t.filter (fun e => !e.meets (c.arg 16 8) (c.arg 24 8))
  let d := (d.coresOf c.part).foldl (fun d k => d.modCore k (fun k => { k with tlb := keep k.tlb })) d
  let gs := (List.range 16).filter (fun g => (d.clustersOf c.part).toNat.testBit g)
  (gs.foldl (fun (d : Device) g => d.setCluster g { d.cluster g with tlb := keep (d.cluster g).tlb }) d).complete id St.OK 0

/-! ## Cores (R244, R247, R325, R484) -/

/-- What keeps a command of a partition from a core: another partition's, no slot (R20, R571), or Standby (R573). -/
def Device.coreChecks (d : Device) (p c : Nat) : List (Bool × Nat) :=
  [(decide (c > 127), St.BAD_FIELD), (d.partOf c != some p, St.ACCESS_DENIED), (!d.hasSlot c, St.CORE_UNAVAILABLE), (d.standby, St.BAD_STATE)]

/-- ZN_IMEM_LOAD (R244). -/
def Device.doImemLoad (d : Device) (id : Nat) (c : ZCmd) : Device :=
  let k := c.arg 16 1
  let bank := c.arg 17 1
  let ws := bytesToWords 8 ((c.pkt.drop 32).take 32)
  let index := 8 * c.arg 18 2
  d.znCheck id ((decide (bank > 1) || decide (c.arg 18 2 > 1023), St.BAD_FIELD) :: d.coreChecks c.part k) (fun d =>
    let d := d.exitIdle
    let s := d.core k
    if s.switchPending && bank != s.bank then d.complete id St.BUSY_ACTIVE_BANK 0
    else if s.run == .running && bank == s.bank then
      if s.held.length ≥ 64 then d.complete id St.BUSY_ACTIVE_BANK 0
      else d.modCore k (fun s => { s with held := s.held ++ [{ bank := bank, index := index, words := ws, owner := some id }] })
    else (d.modCore k (fun s => s.writeImem bank index ws)).complete id St.OK 0)

/-- ZN_CORE_RESET (R247): one core that is refused refuses the whole mask. -/
def Device.doCoreReset (d : Device) (id : Nat) (c : ZCmd) : Device :=
  let m := c.arg 16 16
  let ks := (List.range 128).filter (fun k => m.testBit k)
  d.znCheck id
    [(ks.any (fun k => d.partOf k != some c.part), St.ACCESS_DENIED), (ks.any (fun k => !d.hasSlot k), St.CORE_UNAVAILABLE),
     (d.standby, St.BAD_STATE)]
    (fun d => (ks.foldl (fun d k => d.coreReset k) d.exitIdle).complete id St.OK 0)

/-- The cp.table that a ZN_TABLE_LOAD spells (R325). -/
def ZCmd.table (c : ZCmd) : Nat :=
  c.arg 32 3 + 0x05 * 0x1000000 + c.arg 17 1 * 2 ^ 33 + c.arg 20 4 * 2 ^ 168 + c.arg 24 8 * 2 ^ 208

/-- Appends the cp.table of a ZN_TABLE_LOAD to CPQ1 of its core, or waits for room there. -/
def Device.appendTable (d : Device) (id : Nat) (c : ZCmd) : Device :=
  let k := c.arg 16 1
  if occupancy ((d.core k).queue 4) ≥ 64 then d
  else (d.setCmd id { c with progress := 1 }).exitIdle.enqueue k 4
    { cmd := BitVec.ofNat 256 c.table, gate := {}, stroke := d.strokeOf c.part, owner := some id }

/-- ZN_TABLE_LOAD. -/
def Device.doTableLoad (d : Device) (id : Nat) (c : ZCmd) : Device :=
  d.znCheck id
    ((decide (c.arg 17 1 > 15), St.BAD_FIELD) :: d.coreChecks c.part (c.arg 16 1) ++ [(decide (c.arg 24 8 ≥ 2 ^ 48), St.BAD_RANGE)])
    (fun d => d.appendTable id c)

/-- The row of an opcode some of whose commands may have started and still wait for their moment: those come first. -/
def Device.znRetry (d : Device) (op : Nat) (ready : Device → ZCmd → Bool) (again f : Device → Nat → ZCmd → Device) : Device :=
  match d.zn.cmds.find? (fun e => e.2.opcode == op && e.2.state == .started && e.2.progress == 0 && ready d e.2) with
  | some (id, c) => (again d id c).znPump
  | none => d.znOp op f

/-- The row of ZN_TABLE_LOAD. -/
def Device.tableLoadRow (d : Device) : Device :=
  d.znRetry 0x0302 (fun d c => decide (occupancy ((d.core (c.arg 16 1)).queue 4) < 64)) Device.appendTable Device.doTableLoad

/-- ZN_TABLE_BUILD. -/
def Device.doTableBuild (d : Device) (id : Nat) (c : ZCmd) : Device :=
  d.znQueue id c [(c.arg 32 4 == 0 || bits (c.arg 36 1) 2 1 == 3 || c.arg 38 2 == 0, St.BAD_FIELD)]

/-- ZN_CORE_SPARE (R484). -/
def Device.doCoreSpare (d : Device) (id : Nat) (c : ZCmd) : Device :=
  let k := c.arg 16 1
  d.znQueue id c (d.coreChecks c.part k ++ [(!d.spareFree (k / 8), St.NO_SPARE)])

/-! ## Flows and keys (R417-R420, R439, R440, R513) -/

/-- The 256-bit key and the salt of an extension entry. -/
def ZCmd.key (c : ZCmd) : AqKey := { key := c.arg 64 32, salt := c.arg 96 4 }

/-- ZN_FLOW_OPEN (R418, R419, R555). -/
def Device.doFlowOpen (d : Device) (id : Nat) (c : ZCmd) : Device :=
  let p := c.part
  let f := c.arg 32 1
  let v6 := bit f 0
  let quota := d.fld (Reg.AQ_QUOTA p) 17 0
  let mine := (d.aq.flows.filter (fun e => e.2.part == p)).length
  let full := decide (d.aq.flows.length ≥ 200000) || (quota != 0 && decide (mine ≥ quota))
  if bit f 1 && d.lifecycle != 1 then d.complete id St.NOT_PERMITTED 0
  else if d.noImage Sub.AQ then d.complete id St.BAD_STATE 0
  else if full then (d.bump Reg.AQ_FLOW_REFUSED 1).complete id St.FLOW_TABLE_FULL 0
  else if d.partIp p v6 = 0 then d.complete id St.BAD_FIELD 0
  else (d.openFlow p v6 (if v6 then c.arg 16 16 else c.arg 16 4) (c.arg 36 4) (if bit f 1 then some c.key else none) (some id)).1

/-- The flow that a command names, where it is the partition's. -/
def Device.flowOf (d : Device) (c : ZCmd) : Option Flow :=
  match d.flow (c.arg 16 4) with
  | some x => if x.part = c.part then some x else none
  | none => none

def ZCmd.badFlow (c : ZCmd) : Bool := decide (c.arg 16 4 ≥ 200000)

/-- ZN_FLOW_CLOSE (R420). -/
def Device.doFlowClose (d : Device) (id : Nat) (c : ZCmd) : Device :=
  if c.badFlow then d.complete id St.BAD_FIELD 0
  else match d.flowOf c with
    | none => d.complete id St.FLOW_CLOSED 0
    | some x =>
      match x.phase with
      | .closing => d.complete id St.FLOW_CLOSED 0
      | .opening => d.complete id St.BAD_STATE 0
      | _ => d.closeFlow (c.arg 16 4) (some id)

/-- The number of a flow's state in ZN_FLOW_QUERY. -/
def FlowPhase.code : FlowPhase → Nat
  | .opening => 1
  | .live => 2
  | .closing => 3
  | .broken => 4

/-- ZN_FLOW_QUERY. -/
def Device.doFlowQuery (d : Device) (id : Nat) (c : ZCmd) : Device :=
  let f := c.arg 16 4
  if c.badFlow then d.complete id St.BAD_FIELD 0
  else match d.flow f with
    | none => d.complete id St.OK (Cells.get 0 d.aq.gens f * 0x40000)
    | some x => if x.part = c.part then d.complete id St.OK (x.gen * 0x40000 + x.phase.code) else d.complete id St.FLOW_CLOSED 0

/-- A command on a key slot of an encrypted flow: whether the slot is the one used for transmission may refuse it. -/
def Device.onKey (d : Device) (id : Nat) (c : ZCmd) (refuse : Flow → Bool) (f : Flow → Flow) : Device :=
  let s := c.arg 20 1
  if c.badFlow || decide (s > 1) then d.complete id St.BAD_FIELD 0
  else match d.flowOf c with
    | none => d.complete id St.FLOW_CLOSED 0
    | some x =>
      if x.phase == .closing then d.complete id St.FLOW_CLOSED 0
      else if !x.enc || refuse x then d.complete id St.BAD_STATE 0
      else (d.setFlow (c.arg 16 4) (f x)).complete id St.OK 0

def Flow.setKey (x : Flow) (s : Nat) (k : Option AqKey) : Flow := if s = 0 then { x with key0 := k } else { x with key1 := k }
def Flow.keyAt (x : Flow) (s : Nat) : Option AqKey := if s = 0 then x.key0 else x.key1

/-- ZN_KEY_INSTALL (R439, R555): TSN starts at 1. -/
def Device.doKeyInstall (d : Device) (id : Nat) (c : ZCmd) : Device :=
  let s := c.arg 20 1
  if d.lifecycle ≠ 1 then d.complete id St.NOT_PERMITTED 0
  else d.onKey id c (fun x => x.keyid == (s == 1)) (fun x => x.setKey s (some c.key))

/-- ZN_KEY_SWITCH (R440). -/
def Device.doKeySwitch (d : Device) (id : Nat) (c : ZCmd) : Device :=
  let s := c.arg 20 1
  d.onKey id c (fun x => (x.keyAt s).isNone) (fun x => { x with keyid := s == 1 })

/-- ZN_KEY_CLEAR. -/
def Device.doKeyClear (d : Device) (id : Nat) (c : ZCmd) : Device :=
  let s := c.arg 20 1
  d.onKey id c (fun x => x.keyid == (s == 1)) (fun x => x.setKey s none)

/-- ZN_RXRING_SET (R513). -/
def Device.doRxRingSet (d : Device) (id : Nat) (c : ZCmd) : Device :=
  let key := 256 * c.part + c.arg 16 1
  let r : RxRing := { base := c.arg 24 8, log2 := c.arg 32 1, entryLog2 := c.arg 33 1, prod := c.arg 40 8, cons := c.arg 48 8 }
  if r.base = 0 then { d with zn := { d.zn with rx := Cells.erase d.zn.rx key } }.complete id St.OK 0
  else d.znCheck id
    [(decide (r.log2 < 4) || decide (r.log2 > 16) || decide (r.entryLog2 < 6) || decide (r.entryLog2 > 13) || r.prod % 64 != 0 || r.cons % 64 != 0,
      St.BAD_FIELD)]
    (fun d => { d with zn := { d.zn with rx := Cells.put d.zn.rx key r } }.complete id St.OK 0)

/-! ## Ports and enables (R422, R441-R443, R456) -/

/-- ZN_PORT_ADMIT. -/
def Device.doPortAdmit (d : Device) (id : Nat) (c : ZCmd) : Device :=
  let i := c.arg 16 1
  d.znCheck id [(decide (i > 7), St.BAD_FIELD)] (fun d =>
    if !bit (c.arg 17 1) 0 then (d.portRemove i).complete id St.OK 0
    else if d.portHolds i then
      let p := d.port i
      ((d.setFlag (Reg.AQ_PORT_CTL i) 31 true).setPortFlag i 28 true).setPort i { p with waiters := p.waiters ++ [id] }
    else (d.portReadmit i).complete id St.OK 0)

def Device.doPortRecal (d : Device) (id : Nat) (c : ZCmd) : Device := d.znQueue id c [(decide (c.arg 16 1 > 7), St.BAD_FIELD)]

/-- ZN_AQ_ENABLE. -/
def Device.doAqEnable (d : Device) (id : Nat) (c : ZCmd) : Device :=
  let p := c.part
  if !bit (c.arg 16 1) 0 then (d.aqPenDisable p).complete id St.OK 0
  else if !d.flag Reg.AQ_CTL (16 + p) && d.flag Reg.AQ_STATUS (16 + p) then
    { d with aq := { d.aq with enableWaiters := d.aq.enableWaiters ++ [(p, id)] } }.aqPenEnable p
  else (d.aqPenEnable p).complete id St.OK 0

/-- ZN_GROUP_SET (R453). -/
def Device.doGroupSet (d : Device) (id : Nat) (c : ZCmd) : Device :=
  let g := c.arg 16 2
  d.znCheck id [(decide (g ≥ d.fld (Reg.UPD_NGROUP c.part) 16 0), St.BAD_FIELD)] (fun d =>
    d.groupSet { part := c.part, group := g, setStep := bit (c.arg 18 1) 0, clearTorn := bit (c.arg 18 1) 1, step := c.arg 20 4, owner := some id })

/-- ZN_UPD_ENABLE. -/
def Device.doUpdEnable (d : Device) (id : Nat) (c : ZCmd) : Device :=
  let p := c.part
  if !bit (c.arg 16 1) 0 then (d.updDisable p).complete id St.OK 0
  else if !d.flag (Reg.UPD_CTL p) 0 && d.flag (Reg.UPD_STATUS p) 30 then
    { d with upd := { d.upd with waiters := d.upd.waiters ++ [(p, id)] } }.updEnable p
  else (d.updEnable p).complete id St.OK 0

/-! ## Checkpoints (R473, R481) -/

/-- ZN_CKPT: a request that meets a slice of its partition is refused, else it waits for its slice to start. -/
def Device.doCkpt (d : Device) (id : Nat) (c : ZCmd) : Device :=
  if c.plan > 255 then d.complete id St.BAD_FIELD 0
  else if (Cells.find? d.svc.ckpt c.part).isSome then (d.sliceBusy c.part c.plan).complete id St.CKPT_BUSY 0
  else d.setCmd id { c with state := .queued }

/-- ZN_RESTORE. -/
def Device.doRestore (d : Device) (id : Nat) (c : ZCmd) : Device :=
  d.znQueue id c [(decide (c.plan > 255) || decide (c.arg 18 1 > 1) || (c.arg 18 1 == 1 && decide (c.arg 20 4 ≥ 200000)), St.BAD_FIELD),
    (d.stkState c.part != 0, St.BAD_STATE)]

/-! ## Dies, chiplets, pages (R486, R487, R489, R490) -/

def Device.doDieEnable (d : Device) (id : Nat) (c : ZCmd) : Device :=
  d.znCheck id [(decide (c.arg 16 1 > 3), St.BAD_FIELD), (d.standby, St.BAD_STATE)] (fun d => d.exitIdle.svcEnable 0 (c.arg 16 1) id)

/-- ZN_DIE_DISABLE: the partitions that hold clusters of the die are FREE (R489). -/
def Device.doDieDisable (d : Device) (id : Nat) (c : ZCmd) : Device :=
  let i := c.arg 16 1
  let busy := (List.range 16).any (fun p => (d.clustersOf p).toNat &&& dieMask i != 0 && d.stkState p != 0)
  d.znQueue id c [(decide (i > 3), St.BAD_FIELD), (d.svcState 0 i == 0 && busy, St.BAD_STATE)]

def Device.doCisEnable (d : Device) (id : Nat) (c : ZCmd) : Device :=
  d.znQueue id c [(decide (c.arg 16 1 > 1), St.BAD_FIELD), (d.standby, St.BAD_STATE)]

/-- Whether a slice works on a chiplet: pages it holds, where they go, and its header. -/
def Device.sliceOn (d : Device) (i : Nat) : Bool :=
  let on := fun (page : Nat) => regionOf (page * 0x10000) == .cistern i
  d.svc.ckpt.any (fun e => on e.2.head) || d.heldPages.any (fun h => on h.page || on h.dst)

/-- ZN_CIS_DISABLE (R487). -/
def Device.doCisDisable (d : Device) (id : Nat) (c : ZCmd) : Device :=
  let i := c.arg 16 1
  let owned := d.granules.any (fun e => regionOf (e.1 * 0x200000) == .cistern i)
  d.znQueue id c [(decide (i > 1), St.BAD_FIELD), (d.svcState 1 i == 0 && (owned || d.sliceOn i), St.TIER_IN_USE)]

/-- ZN_PAGE_RETIRE. -/
def Device.doPageRetire (d : Device) (id : Nat) (c : ZCmd) : Device :=
  let a := c.arg 16 8
  let offline := match regionOf a with | .cistern k => !d.cisOnline k | _ => false
  d.znCheck id [(!isDram (regionOf a), St.BAD_RANGE), (offline, St.TIER_OFFLINE), (d.standby, St.BAD_STATE)]
    (fun d => (d.exitIdle.retirePage a).complete id St.OK 0)

def Device.doCalibrate (d : Device) (id : Nat) (c : ZCmd) : Device := d.znQueue id c [(decide (c.arg 16 1 > 2), St.BAD_FIELD)]

/-! ## Firmware (R488, R581, R582) -/

/-- ZN_FW_STAGE: `image` is what its DMA fetches from the bus address. -/
def Device.doFwStage (d : Device) (image : List Byte) (id : Nat) (c : ZCmd) : Device :=
  let s := c.arg 16 1
  let b := image.take (c.arg 32 4)
  d.znQueue id { c with data := b } [(decide (s > 6) || imageBad s (c.arg 32 4) b, St.BAD_FIELD)]

/-- Whether another command is at work on a subsystem, or waits for its turn there (R502, R581). -/
def Device.subsystemBusy (d : Device) (s : Nat) : Bool :=
  d.boot.firstStart.any (fun x => x.1 == s)
    || d.zn.cmds.any (fun e => (e.2.opcode == 0x0704 || e.2.opcode == 0x0706) && e.2.begun && e.2.arg 16 1 == s)

/-- The activation itself. -/
def Device.activateNow (d : Device) (id : Nat) (c : ZCmd) : Device :=
  let s := c.arg 16 1
  if d.activateStatus s = St.OK then (d.setCmd id { c with progress := 1 }).activateStart s (some id) else d.complete id (d.activateStatus s) 0

/-- ZN_FW_ACTIVATE. -/
def Device.doFwActivate (d : Device) (id : Nat) (c : ZCmd) : Device :=
  let s := c.arg 16 1
  d.znCheck id [(decide (s > 6), St.BAD_FIELD)] (fun d => if d.subsystemBusy s then d else d.activateNow id c)

/-- The row of ZN_FW_ACTIVATE. -/
def Device.fwActivateRow (d : Device) : Device :=
  d.znRetry 0x0705 (fun d c => !d.subsystemBusy (c.arg 16 1)) Device.activateNow Device.doFwActivate

/-- ZN_FW_ROLLBACK. -/
def Device.doFwRollback (d : Device) (id : Nat) (c : ZCmd) : Device :=
  let s := c.arg 16 1
  if s > 6 then d.complete id St.BAD_FIELD 0
  else d.znQueue id c [(d.rollbackStatus s != St.OK, d.rollbackStatus s)]

/-! ## Lifecycle, debug, power (R551, R563, R567-R569) -/

/-- Every partition is OFF. -/
def Device.allOff (d : Device) : Bool := (List.range 16).all (fun p => d.svcState 2 p == 3)

def Device.jumper (d : Device) : Bool := d.flag Reg.SEC_STATE 27

/-- ZN_LIFECYCLE into a state (R551, R572). -/
def Device.doLifecycle (d : Device) (id : Nat) (c : ZCmd) : Device :=
  let now := d.lifecycle
  let t := c.arg 16 1
  if now = t then d.complete id St.OK 0
  else
    let ok := match t with
      | 1 => now == 0 || (now == 2 && d.allOff)
      | 2 => (now == 0 || now == 1) && d.allOff && d.jumper
      | _ => d.jumper
    d.znQueue id c [(!ok || d.standby, St.BAD_STATE)]

/-- ZN_DEBUG_OPEN (R563). -/
def Device.doDebugOpen (d : Device) (id : Nat) (c : ZCmd) : Device :=
  let l := c.arg 16 1
  d.znQueue id c
    [(l == 0 || decide (l > 3), St.BAD_FIELD), (l == 3 && d.lifecycle != 2, St.NOT_PERMITTED), (decide (l < 3) && !d.partOn c.part, St.ACCESS_DENIED),
     (d.dbgLevel != 0 && d.fld Reg.SEC_STATE 19 16 != c.part, St.BAD_STATE)]

/-- ZN_DEBUG_CLOSE: an open that waits for its press ends ST_CANCELLED (R575). -/
def Device.doDebugClose (d : Device) (id : Nat) (_ : ZCmd) : Device :=
  let opens := (d.zn.cmds.filter (fun e => e.2.opcode == 0x0801 && e.2.begun)).map (·.1)
  ((opens.foldl (fun d k => d.endOp k St.CANCELLED) d).closeDebug).complete id St.OK 0

def Device.doZeroise (d : Device) (id : Nat) (c : ZCmd) : Device := d.znQueue id c []
def Device.doCfgFactory (d : Device) (id : Nat) (c : ZCmd) : Device := d.znQueue id c [(d.flag Reg.CFG_STATUS 25, St.BAD_STATE)]

/-- ZN_POWER_LIMIT (R569): up to 900 W at once and to the store; above, with presence. -/
def Device.doPowerLimit (d : Device) (id : Nat) (c : ZCmd) : Device :=
  let w := c.arg 16 4
  if w < 300 ∨ w > 1000 then d.complete id St.BAD_FIELD 0
  else if w > 900 then d.setCmd id { c with state := .queued }
  else
    let d := d.setReg Reg.PWR_LIMIT (BitVec.ofNat 32 w)
    if d.flag Reg.CFG_STATUS 25 then (d.storePut 0x0010 (toLe 2 w)).complete id St.OK 0
    else d.storeChange { sets := [(0x0010, some (toLe 2 w))], owner := some id }

/-- The running P-state and GOV follow the ceiling and the governor (R567, R615); Idle and Standby stay. -/
def Device.showPower (d : Device) : Device :=
  let d := d.setFlag Reg.PWR_STATE 28 (decide (d.fld Reg.PWR_STATE 25 24 < min (d.fld Reg.PWR_GOV 31 29) 3) || decide (4 ≤ d.fld Reg.PWR_GOV 31 29))
  if d.fld Reg.PWR_STATE 31 29 < 4 then d.setFld Reg.PWR_STATE 31 29 d.pState else d

/-- ZN_POWER_STATE 0 to 3, and a value beyond 6. -/
def Device.doPowerState (d : Device) (id : Nat) (c : ZCmd) : Device :=
  let v := c.arg 16 1
  d.znCheck id [(decide (v > 6), St.BAD_FIELD)] (fun d => ((d.setFld Reg.PWR_STATE 25 24 (if d.noImage Sub.POWER then 3 else v)).showPower).complete id St.OK 0)

/-- The conditions of Idle and Standby (R568). -/
def Device.quiescent (d : Device) : Bool := !d.anySchedule && d.cores.all (fun k => k.run != .running && k.empty)

/-- ZN_POWER_STATE 4. -/
def Device.doIdle (d : Device) (id : Nat) (_ : ZCmd) : Device :=
  if d.fld Reg.PWR_STATE 31 29 = 4 then d.complete id St.OK 0
  else d.znCheck id [(d.standby || !d.quiescent, St.BAD_STATE)] (fun d => (d.setFld Reg.PWR_STATE 31 29 4).complete id St.OK 0)

/-- ZN_POWER_STATE 5: caches released, the session closed, operations suspended, the dies off, DRAM in self-refresh. -/
def Device.doStandby (d : Device) (id : Nat) (_ : ZCmd) : Device :=
  if d.standby then d.complete id St.OK 0
  else d.znCheck id [(!d.quiescent, St.BAD_STATE)] (fun d =>
    let d := ((List.range 16).foldl (fun d g => d.releaseAll g) d).closeDebug
    let d := (d.sysSuspend (fun c => !c.worksInStandby)).resetDies
    ({ d with pwr := { d.pwr with diesOn := false } }.setFld Reg.PWR_STATE 31 29 5).complete id St.OK 0)

/-- ZN_POWER_STATE 6: back to Active at the ceiling; from Standby the dies come up as after a cold reset. -/
def Device.doActive (d : Device) (id : Nat) (_ : ZCmd) : Device :=
  let d := if d.standby then (d.diesOn.setFld Reg.PWR_STATE 31 29 d.pState).sysResume else d.exitIdle
  d.complete id St.OK 0

/-! ## The configuration store (R594) -/

def badKey (k : Nat) : Bool := k == 0 || decide (k ≥ 0x8000)

/-- ZN_CFG_READ. -/
def Device.doCfgRead (d : Device) (id : Nat) (c : ZCmd) : Device :=
  let k := c.arg 16 2
  if badKey k then d.complete id St.BAD_RANGE 0
  else match d.storeGet k with
    | none => d.complete id St.NOT_FOUND 0
    | some b =>
      let page := if c.fn = mctpFn then b else b ++ List.replicate (4096 - b.length) 0#8
      (d.bulk id c (c.arg 24 8) page).complete id St.OK b.length

/-- ZN_CFG_WRITE. -/
def Device.doCfgWrite (d : Device) (id : Nat) (c : ZCmd) : Device :=
  let k := c.arg 16 2
  let n := c.arg 18 2
  let ch : StoreChange := { sets := [(k, if n = 0 then none else some ((c.pkt.drop 32).take n))], owner := some id }
  d.znCheck id
    [(badKey k, St.BAD_RANGE), (decide (k < 0x100), St.NOT_PERMITTED), (decide (n > 992), St.BAD_FIELD),
     (decide (storeBytes (ch.apply d.storeAhead) > bankSize), St.BAD_RANGE)]
    (fun d => d.storeChange ch)

/-! ## The admin ring (R498, R525) -/

/-- ZN_CTL_ENABLE: EN goes from 0 to 1 where the interface is ready, and the ring registers are read. -/
def Device.ctlEnable (d : Device) (fn : Nat) : Device :=
  if !d.flag (Reg.ZN_STATUS fn) 31 || d.flag (Reg.ZN_CTL fn) 0 then d
  else
    let base := fun (lo hi : Nat) => d.fld lo 31 12 * 0x1000 + (d.reg hi).toNat * 0x100000000
    let r : Ring := {
      fn := fn, loc := 0, sqBase := base (Reg.ZN_ASQ_LO fn) (Reg.ZN_ASQ_HI fn), cqBase := base (Reg.ZN_ACQ_LO fn) (Reg.ZN_ACQ_HI fn)
      log2 := max 4 (min 16 (d.fld (Reg.ZN_AQ_CFG fn) 4 0)), event := some 0 }
    ((d.setFlag (Reg.ZN_CTL fn) 0 true).setRing fn r).showHeld fn

/-- The commands of a ring go without completion, and the ring goes. -/
def Device.wipeRing (d : Device) (g : Nat) : Device :=
  (((d.zn.cmds.filter (fun e => e.2.ring == g)).map (·.1)).foldl (fun d k => d.znForget k) d).dropRing g

/-- ZN_CTL_DISABLE. -/
def Device.ctlDisable (d : Device) (fn : Nat) : Device :=
  if d.flag (Reg.ZN_CTL fn) 0 then ((d.setFlag (Reg.ZN_CTL fn) 0 false).wipeRing fn).znPump else d

/-! ## Removal and function-level reset (R521, R522, R546) -/

/-- SURPRISE_REMOVAL. -/
def Device.surpriseRemoval (d : Device) : Device :=
  if d.flag (Reg.ZN_STATUS 0) 29 || d.flag (Reg.ZN_STATUS 0) 30 || !d.zn.linkUp then d
  else
    let d := (List.range 17).foldl (fun (d : Device) f => d.setFlag (Reg.ZN_STATUS f) 30 true) d
    let d := { d with zn := { d.zn with linkUp := false } }.sluiceAll
    let d := d.closeWindow
    ((d.zn.cmds.filter (fun e => e.2.long && e.2.begun)).map (·.1)).foldl (fun d k => d.znForget k) d

/-- The event state of a function returns (R546): the sources of its window, deliveries to it, its sets. -/
def Device.quietFn (d : Device) (fn : Nat) : Device :=
  let off := fun (d : Device) (n : Nat) => (d.setFld (Reg.EVT_SRC n) 30 29 0).setFlag (Reg.EVT_SRC n) 31 false
  let win := if fn = 0 then [] else
    (List.range (d.fld (Reg.EVT_FN_WIN fn) 24 16)).map (fun i => d.fld (Reg.EVT_FN_WIN fn) 11 0 + i)
  let d := win.foldl off d
  let mine := (d.evt.lastTarget.filter (fun e => if fn = 0 then e.2 / 256 == 1 else e.2 == 256 + fn)).map (·.1)
  let d := mine.foldl (fun (d : Device) n => match d.evtState n with
    | 2 => d.setFld (Reg.EVT_SRC n) 30 29 0
    | 3 => d.setFld (Reg.EVT_SRC n) 30 29 1
    | _ => d) d
  let sets := if fn = 0 then List.range 256 else (List.range 16).map (fun s => 256 + 16 * (fn - 1) + s)
  sets.foldl (fun (d : Device) s => (List.range 8).foldl (fun (d : Device) i => d.setReg (Reg.EVT_SET s i) 0#32) d) d

/-- What an FLR of one function does. -/
def Device.flrFn (d : Device) (fn : Nat) : Device :=
  let d := ((d.zn.cmds.filter (fun e => e.2.fn == fn && e.2.ring != hiddenRing e.2.part)).map (·.1)).foldl (fun d k => d.znForget k) d
  let d := ((d.zn.rings.filter (fun e => e.2.fn == fn)).map (·.1)).foldl (fun d g => d.dropRing g) d
  let d := (d.setFlag (Reg.ZN_CTL fn) 0 false).quietFn fn
  { d with zn := { d.zn with pci := Cells.put d.zn.pci fn {} } }

/-- FUNCTION_LEVEL_RESET: of a VF with its partition; of the PF, of every function and every partition. -/
def Device.flr (d : Device) (fn : Nat) : Device :=
  if fn = 0 then
    let d := (List.range 17).foldl (fun d f => d.flrFn f) d
    ((List.range 16).foldl (fun d p => if d.clustersOf p = 0#16 then d else d.partFlr p) d).znPump
  else
    let d := d.flrFn fn
    (match d.boundPart fn with | some p => d.partFlr p | none => d).znPump

end Machine
end Sys2Proof
end

