-- ==== Sys2Proof/Machine/Debug.lean ====
section
/-!
DEFINITION. Presence, seal and jumper (R556-R558), debug accesses (R564) and the JTAG port (R565).
-/
namespace Sys2Proof
namespace Machine

/-! ## Presence (R556, R557, R575) -/

/-- PRESENCE_TIMEOUT: the window runs out at its deadline. -/
def Device.presTimeout (d : Device) : Device :=
  match d.sec.window with
  | none => d
  | some w =>
    let d := ({ d with now := max d.now w.deadline }.closeWindow).bump Reg.SEC_PRES_TIMEOUT 1
    (d.endOp w.cmd St.PRESENCE_TIMEOUT).znPump

/-- The standing condition of a command, checked at the press. -/
def Device.standing (d : Device) (c : ZCmd) : Bool :=
  match c.opcode with
  | 0x0800 => d.jumper
  | 0x0801 => c.arg 16 1 != 3 || d.jumper
  | _ => true

/-- A press that counts: the window closes and its command proceeds. -/
def Device.pressCounts (d : Device) (id : Nat) (c : ZCmd) : Device :=
  let c := { c with progress := 1 }
  ((d.closeWindow.setCmd id c).presenceGo id c).znPump

/-- A press that does not count. -/
def Device.stray (d : Device) : Device := d.bump Reg.SEC_PRES_STRAY 1

/-- PRESENCE_PRESS: PRES_BTN_N goes low at a device time and stays low for 50 ms. A press that counts in the cycle in which the window would run
out wins. -/
def Device.press (d : Device) (fell : Nat) : Device :=
  if !d.pwr.pgOut then d
  else
    let t := max d.now (fell + 50000000 * nsUnit)
    let late := match d.sec.window with | some w => decide (w.deadline < t) | none => false
    let d := if late then d.presTimeout else d
    let d := { d with now := max d.now t }
    match d.sec.window with
    | none => d.stray
    | some w =>
      match Cells.find? d.zn.cmds w.cmd with
      | none => d.stray
      | some c => if w.opened ≤ fell ∧ d.standing c then d.pressCounts w.cmd c else d.stray

/-- SVC_JUMPER_CHANGE: its removal closes a session of level 3 (R563). -/
def Device.jumperChange (d : Device) (fitted : Bool) : Device :=
  let d := d.setFlag Reg.SEC_STATE 27 fitted
  if !fitted && d.dbgLevel == 3 then d.closeDebug else d

/-! ## Register space of a debug access (R564) -/

/-- A register of space REG: its value, whether it is 64 bits wide, whether it reads uncorrectable. -/
def Core.dbgReg (k : Core) (a : Nat) : Option (Nat × Bool × Bool) :=
  if a < 0x20 then some ((k.s a).toNat, true, false)
  else if 0x40 ≤ a ∧ a < 0x80 then some ((Cells.get 0#64 k.live (a - 0x40)).toNat, true, false)
  else if a = 0x80 then some (k.pc, false, false)
  else if a = 0x81 then some (k.tc, false, false)
  else if 0x10000 ≤ a ∧ a < 0x18000 then
    let r := (a - 0x10000) / 512
    some (((k.v r).getD (a % 512) 0#32).toNat, false, k.vregBad.contains (r, a % 512))
  else if 0x20000 ≤ a ∧ a < 0x20200 then some (bits (k.m ((a - 0x20000) / 64)).toNat (32 * (a % 64) + 31) (32 * (a % 64)), false, false)
  else if a = 0x20200 then some (k.vl, false, false)
  else if 0x30000 ≤ a ∧ a < 0x31000 then
    let r := (a - 0x30000) / 512
    some (((k.sc r).getD (a % 512) 0#32).toNat, false, k.vregBad.contains (64 + r, a % 512))
  else none

/-- A lane of a vector or carry register written whole: its error goes. -/
def Core.dbgLane (k : Core) (r i : Nat) (v : Word) : Core :=
  let k := { k with vregBad := k.vregBad.filter (fun b => b != (r, i)) }
  if r < 64 then { k with vreg := Cells.set zeroReg k.vreg r ((k.v r).set i v) }
  else { k with carry := Cells.set zeroReg k.carry (r - 64) ((k.sc (r - 64)).set i v) }

/-- A plain write of a register of space REG. -/
def Core.dbgSet (k : Core) (a v : Nat) : Core :=
  if a < 0x20 then k.setS a (BitVec.ofNat 64 v)
  else if a < 0x80 then { k with live := Cells.set 0#64 k.live (a - 0x40) (BitVec.ofNat 64 v) }
  else if a = 0x80 then { k with pc := v % 0x2000 }
  else if a = 0x81 then { k with tc := v % 0x1000000 }
  else if a < 0x18000 then k.dbgLane ((a - 0x10000) / 512) (a % 512) (BitVec.ofNat 32 v)
  else if a < 0x20200 then
    let m := (a - 0x20000) / 64
    k.setM m (BitVec.ofNat 2048 (setBits (k.m m).toNat (32 * (a % 64) + 31) (32 * (a % 64)) v))
  else if a = 0x20200 then { k with vl := v % 0x400 }
  else k.dbgLane (64 + (a - 0x30000) / 512) (a % 512) (BitVec.ofNat 32 v)

/-! ## Private space: scratch, instruction memory, table halves -/

/-- Bytes of a table half. -/
def Core.tableBytes (k : Core) (h off n : Nat) : List Byte :=
  ((wordsToBytes ((Cells.find? k.table h).getD [])).drop off ++ List.replicate n 0#8).take n

/-- A table half with bytes of it replaced. -/
def Core.tableSet (k : Core) (h off : Nat) (bs : List Byte) : Core :=
  let old := wordsToBytes ((Cells.find? k.table h).getD [])
  let new := (old ++ List.replicate (off - old.length) 0#8).take off ++ bs ++ old.drop (off + bs.length)
  { k with table := Cells.put k.table h (bytesToWords (ceilDiv new.length 4) new) }

/-- Eight bytes of space PRIV, and whether they read uncorrectable; none outside it. -/
def Core.dbgPriv (k : Core) (a : Nat) : Option (List Byte × Bool) :=
  if a % 8 ≠ 0 then none
  else if a < 0x4000 then some (k.scratchBytes a 8, k.scratchBad.contains (a / 8))
  else if 0x10000 ≤ a ∧ a < 0x20000 then
    let i := (a - 0x10000) / 4
    some (wordsToBytes [Cells.get 0#32 k.imem i, Cells.get 0#32 k.imem (i + 1)], k.imemBad.contains (i / 2))
  else if 0x40000 ≤ a ∧ a < 0x140000 then some (k.tableBytes ((a - 0x40000) / 0x8000) (a % 0x8000) 8, false)
  else none

/-- Whether R244 takes an instruction-memory write now, and whether it is held. -/
def Core.imemTakes (k : Core) (bank : Nat) : Option Bool :=
  if k.switchPending && bank != k.bank then none
  else if k.run == .running && bank == k.bank then (if k.held.length ≥ 64 then none else some true)
  else some false

/-- A plain write of eight bytes of space PRIV; none where R244 refuses it. -/
def Core.dbgPrivSet (k : Core) (a : Nat) (bs : List Byte) : Option Core :=
  if a < 0x4000 then some (k.scratchWrite a bs)
  else if a < 0x20000 then
    let bank := (a - 0x10000) / 0x8000
    let i := a % 0x8000 / 4
    let ws := bytesToWords 2 bs
    match k.imemTakes bank with
    | none => none
    | some true => some { k with held := k.held ++ [{ bank := bank, index := i, words := ws, owner := none }] }
    | some false => some (k.writeImem bank i ws)
  else some (k.tableSet ((a - 0x40000) / 0x8000) (a % 0x8000) bs)

/-! ## Debug accesses -/

/-- The end of an access: its status. -/
def Device.dbgEnd (d : Device) (st : Nat) : Device := (d.setFlag Reg.SEC_DBG_STATUS 31 false).setFld Reg.SEC_DBG_STATUS 15 0 st

/-- The session reaches a space, and for REG the core (R562, R564). -/
def Device.dbgAllows (d : Device) (space c : Nat) : Bool :=
  d.dbgLevel == 3 || (d.dbgLevel == 2 && space == 0 && d.partOf c == some (d.fld Reg.SEC_STATE 19 16))

/-- The core is there to be looked at: it has a slot, and the dies have power. -/
def Device.dbgCore (d : Device) (c : Nat) : Bool := d.hasSlot c && d.pwr.diesOn && !d.standby

/-- The result of a read. What an uncorrectable word returns is free. -/
def Device.dbgRead (d : Device) (v : Nat) (wide bad : Bool) : Device :=
  let x := if bad then Config.uncorrectableData d.free else v
  let d := if bad then d.useFree else d
  let d := d.setReg Reg.SEC_DBG_DATA_LO (BitVec.ofNat 32 x)
  let d := if wide then d.setReg Reg.SEC_DBG_DATA_HI (BitVec.ofNat 32 (x / 0x100000000)) else d
  d.dbgEnd (if bad then St.UNCORRECTABLE else St.OK)

def Device.dbgData (d : Device) : Nat := d.reg64 Reg.SEC_DBG_DATA_LO

/-- An access to space REG. -/
def Device.dbgRegSpace (d : Device) (c a : Nat) (write : Bool) : Device :=
  let k := d.core c
  if !d.dbgCore c || k.run != .halted || !k.empty then d.dbgEnd St.BAD_STATE
  else match k.dbgReg a with
    | none => d.dbgEnd St.BAD_RANGE
    | some (v, wide, bad) =>
      if !write then (if bad then d.bump16 (Reg.CORE_SRAM_ECC c) true 1 else d).dbgRead v wide bad
      else if a = 0x20200 ∧ d.dbgData % 0x400 > 512 then d.dbgEnd St.BAD_RANGE
      else
        (d.modCore c (fun k => k.dbgSet a d.dbgData)).dbgEnd St.OK

/-- An access to space PRIV. -/
def Device.dbgPrivSpace (d : Device) (c a : Nat) (write : Bool) : Device :=
  if !d.dbgCore c then d.dbgEnd St.BAD_STATE
  else match (d.core c).dbgPriv a with
    | none => d.dbgEnd St.BAD_RANGE
    | some (bs, bad) =>
      if !write then (if bad then d.bump16 (Reg.CORE_SRAM_ECC c) true 1 else d).dbgRead (leNat bs) true bad
      else match (d.core c).dbgPrivSet a (toLe 8 d.dbgData) with
        | none => d.dbgEnd St.BAD_STATE
        | some k => (d.setCore c k).dbgEnd St.OK

/-- An access to space PHYS: the map of R257, around the cluster caches; a chiplet out of service is outside it. -/
def Device.dbgPhysSpace (d : Device) (a : Nat) (write : Bool) : Device :=
  let out := match regionOf a with
    | .hole => true
    | .cistern k => !d.cisOnline k
    | .window c _ => !d.dbgCore c
    | .hbm => false
  if out || a % 8 != 0 then d.dbgEnd St.BAD_RANGE
  else if write then
    let r := d.physWrite a (toLe 8 d.dbgData)
    r.1.dbgEnd (if r.2 then St.UNCORRECTABLE else St.OK)
  else
    let r := d.physRead a 8
    r.1.dbgRead (leNat r.2.1) true r.2.2

/-- DEBUG_ACCESS: GO. An access to a core leaves Idle (R568). The reserved space 3 holds no address. -/
def Device.debugAccess (d : Device) : Device :=
  let space := d.fld Reg.SEC_DBG_CTL 28 27
  let c := d.fld Reg.SEC_DBG_CTL 23 17
  let write := d.flag Reg.SEC_DBG_CTL 29
  let a := d.reg64 Reg.SEC_DBG_ADDR_LO
  if !d.dbgAllows space c then d.dbgEnd St.NOT_PERMITTED
  else match space with
    | 0 => d.exitIdle.dbgRegSpace c a write
    | 1 => d.exitIdle.dbgPrivSpace c a write
    | 2 => d.dbgPhysSpace a write
    | _ => d.dbgEnd St.BAD_RANGE

/-! ## Single-step (R564) -/

/-- What keeps a step from issuing: the session, or the core's state. -/
def Device.stepRefusal (d : Device) (c : Nat) : Option Nat :=
  if !d.dbgAllows 0 c then some St.NOT_PERMITTED
  else if !d.dbgCore c || (d.core c).run != .halted then some St.BAD_STATE
  else none

/-- The core runs for one instruction. -/
def Device.stepBegin (d : Device) (c : Nat) : Device :=
  (d.exitIdle.setFlag Reg.SEC_DBG_STATUS 31 true).modCore c (fun k => { k with run := .running })

/-- The word that a step issues; none where the core has nothing to issue. -/
def Device.stepWord (d : Device) (c : Nat) : Option Nat := (d.stepBegin c).core c |>.fetch

/-- The core returns to HALTED after instruction word w; a push that found its queue full has not issued, and the step stays in progress. -/
def Device.stepEnd (d : Device) (c w pc : Nat) : Device :=
  let k := d.core c
  let waits := insOp w == 0x31 && k.run == .running && k.pc == pc
  let d := d.modCore c (fun k => { k with run := .halted })
  if waits then d else d.dbgEnd St.OK

/-- A step without a word to issue: what cannot be fetched faults, and a core whose semwait waits stays as it is. -/
def Device.stepNothing (d : Device) (c : Nat) : Device :=
  if (d.core c).semWait.isSome then d.setFlag Reg.SEC_DBG_STATUS 31 true else ((d.stepBegin c).illegalOp c).stepEnd c 0 0

/-! ## JTAG (R565) -/

/-- Boundary scan is available. -/
def Device.boundaryScan (d : Device) : Bool := (d.lifecycle == 0 || d.lifecycle == 2) && d.allOff

/-- Bits of a number, least significant first, as they leave TDO. -/
def shiftOut (n x : Nat) : List Bool := (List.range n).map (fun i => x.testBit i)

/-- The number that bits spell, the first being the least significant. -/
def shiftIn : List Bool → Nat
  | [] => 0
  | b :: bs => (if b then 1 else 0) + 2 * shiftIn bs

/-- An instruction is current, and its data register has been shifted out. -/
def Device.jtag (d : Device) (i : JtagInstr) (out : List Bool) : Device :=
  { d with sec := { d.sec with jtagInstr := i, jtagOut := out, extestDriving := i == .extest } }

/-- IDCODE: version 0x1, part 0x2400, manufacturer code 0x059. -/
def Device.jtagIdcode (d : Device) : Device := d.jtag .idcode (shiftOut 32 0x124000B3)

/-- BYPASS: one bit, captured as 0. -/
def Device.jtagBypass (d : Device) : Device := d.jtag .bypass [false]

/-- SAMPLE/PRELOAD: the pins are shifted out, and the boundary register takes what is shifted in. -/
def Device.jtagSample (d : Device) (pins data : List Bool) : Device :=
  if d.boundaryScan then { d.jtag .samplePreload pins with sec := { (d.jtag .samplePreload pins).sec with boundary := data } } else d.jtagBypass

/-- EXTEST: the same, with the pins driven from the boundary register. -/
def Device.jtagExtest (d : Device) (pins data : List Bool) : Device :=
  if d.boundaryScan then { d.jtag .extest pins with sec := { (d.jtag .extest pins).sec with boundary := data } } else d.jtagBypass

/-- What DBGPORT shows: SEC_DBG_CTL, STATUS, ADDR and DATA. -/
def Device.dbgPort (d : Device) : List Bool :=
  shiftOut 32 (d.reg Reg.SEC_DBG_CTL).toNat ++ shiftOut 32 (d.reg Reg.SEC_DBG_STATUS).toNat ++ shiftOut 48 (d.reg64 Reg.SEC_DBG_ADDR_LO)
    ++ shiftOut 64 d.dbgData

/-- DBGPORT loads the debug registers with what is shifted in, as a host write would. -/
def Device.dbgPortLoad (d : Device) (ctl : Word) (addr data : Nat) : Device :=
  let put := fun (d : Device) (k : Nat) (v : Word) => d.setReg k (v &&& Reg.writable k)
  let d := put d Reg.SEC_DBG_CTL ctl
  let d := put (put d Reg.SEC_DBG_ADDR_LO (BitVec.ofNat 32 addr)) Reg.SEC_DBG_ADDR_HI (BitVec.ofNat 32 (addr / 0x100000000))
  put (put d Reg.SEC_DBG_DATA_LO (BitVec.ofNat 32 data)) Reg.SEC_DBG_DATA_HI (BitVec.ofNat 32 (data / 0x100000000))

end Machine
end Sys2Proof
end

