-- ==== Sys2Proof/Machine/Faults.lean ====
section
/-!
DEFINITION. Delivery of fault records (R625, R626, R639), link retries (R631), the trace ring's enable (R640), stall counters (R637) and the
retirement window (R629).
-/
namespace Sys2Proof
namespace Machine

/-! ## Fault rings (R621, R625, R626, R639) -/

/-- FLAGS of a record (R621). -/
def FaultRec.flags (r : FaultRec) (phase : Bool) : Nat :=
  r.akind % 8 + (if r.part < 16 then 0 else 8) + (if r.tagValid then 16 else 0) + (if phase then 128 else 0)

/-- The 64 bytes of a record (R621). -/
def FaultRec.bytes (r : FaultRec) (phase : Bool) : List Byte :=
  toLe 2 r.status ++ toLe 1 r.source ++ toLe 1 (r.flags phase) ++ toLe 1 r.core ++ toLe 1 r.part ++ toLe 2 r.index ++ toLe 4 (r.tag % 0x1000000)
    ++ toLe 4 r.stroke ++ toLe 8 r.addr ++ toLe 12 (timeLayout r.time) ++ toLe 4 r.seq ++ toLe 4 (min 0xFFFFFFFF r.count) ++ toLe 4 r.detail
    ++ toLe 16 0

/-- The entries of a function's fault ring. -/
def Device.faultRingSize (d : Device) (fn : Nat) : Nat := 2 ^ clampLog2 4 16 (d.fld (Reg.ZN_FAULT_CFG fn) 4 0)

/-- A function's copy of a record: written at TAIL, or lost. -/
def Device.writeFault (d : Device) (r : FaultRec) (fn : Nat) : Device :=
  if !d.flag (Reg.ZN_FAULT_CFG fn) 31 then d
  else
    let n := d.faultRingSize fn
    let t := d.fld (Reg.ZN_FAULT_IDX fn) 31 16 % n
    let h := d.fld (Reg.ZN_FAULT_IDX fn) 15 0 % n
    if d.flag (Reg.ZN_STATUS 0) 30 ∨ (t + 1) % n = h then d.bump (Reg.ZN_FAULT_LOST fn) 1
    else
      let ph := Cells.get true d.fault.ringPhase fn
      let d := d.hostWrite (Cells.get 0 d.fault.ringBase fn + 64 * t) (r.bytes ph)
      let d := d.setFld (Reg.ZN_FAULT_IDX fn) 31 16 ((t + 1) % n)
      if t + 1 = n then { d with fault := { d.fault with ringPhase := Cells.set true d.fault.ringPhase fn (!ph) } } else d

/-- The functions whose rings a record goes to: the PF, and the VFs bound to its partition. -/
def Device.faultFns (d : Device) (r : FaultRec) : List Nat :=
  0 :: (List.range 17).filter (fun f => decide (r.part < 16) && d.boundPart f == some r.part)

/-- FAULT_RECORD_DELIVERY: the oldest record that waits. Before READY records wait, so that what they fire comes after it (R588). -/
def Device.faultDelivery (d : Device) : Device :=
  match d.fault.queue with
  | [] => d
  | r :: rest =>
    if d.boot.starting then d
    else
      let fns := d.faultFns r
      let d := { d with fault := { d.fault with queue := rest } }
      let d := (fns.foldl (fun d f => d.writeFault r f) d).bump Reg.HUB_FAULTS 1
      if r.part < 16 then d.firePart r.part 0 else d.fire Evt.DEVICE_FAULT

/-- FAULT_RING_ENABLE: EN goes from 0 to 1. -/
def Device.faultRingEnable (d : Device) (fn : Nat) : Device :=
  if d.flag (Reg.ZN_FAULT_CFG fn) 31 then d
  else
    let base := d.fld (Reg.ZN_FAULT_LO fn) 31 12 * 0x1000 + (d.reg (Reg.ZN_FAULT_HI fn)).toNat * 0x100000000
    let d := (d.setFlag (Reg.ZN_FAULT_CFG fn) 31 true).setReg (Reg.ZN_FAULT_IDX fn) 0#32
    { d with fault := { d.fault with
      ringPhase := Cells.set true d.fault.ringPhase fn true, ringBase := Cells.set 0 d.fault.ringBase fn base } }

/-! ## Die-to-die links (R27, R631) -/

/-- LINK_CHECK_FAIL: one retry of a link. -/
def Device.linkRetry (d : Device) (l : Nat) : Device :=
  let d := d.bump (Reg.HUB_LINK_ERR l) 1
  let n := (d.reg (Reg.HUB_LINK_ERR l)).toNat
  if n < (d.reg Reg.HUB_LINK_CFG).toNat ∨ d.fault.linkReported.contains l then d
  else
    let d := { d with fault := { d.fault with linkReported := d.fault.linkReported ++ [l] } }
    (d.fire Evt.LINK).raise { status := Config.recordStatus 13 % 0x10000, source := 13, index := l, detail := n }

/-! ## Trace and stall counters (R637, R640) -/

/-- TRACE_ENABLE: EN goes from 0 to 1. -/
def Device.traceEnable (d : Device) : Device :=
  if d.flag Reg.SEC_TRACE_CFG 31 then d else (d.setFlag Reg.SEC_TRACE_CFG 31 true).setReg Reg.SEC_TRACE_TAIL 0#32

/-- STALL_CLEAR: every stall counter of a core is 0. -/
def Device.stallClear (d : Device) (c : Nat) : Device :=
  { d with regs := Cells.clear d.regs (Reg.CORE_STALL_LO c 0 0) (7 * 128) }

/-- CORE_STALL_LO_READ: the high word of the counter is latched. -/
def Device.stallLoRead (d : Device) (c e k : Nat) : Device :=
  let r := Reg.CORE_STALL_HI c e k
  d.modCore c (fun x => { x with stallLatch := Cells.put x.stallLatch r (d.reg r) })

/-! ## The retirement window (R629) -/

/-- The end of the window of the retirement policy. -/
def Device.windowEnd (d : Device) : Nat := d.fault.windowStart + atLeast1 (d.fld Reg.HUB_RETIRE_CFG 7 0) * 3600 * secUnit

/-- RETIRE_WINDOW_EXPIRE: HOURS hours have passed; the counts are cleared and a new window starts. -/
def Device.windowExpire (d : Device) : Device :=
  let t := d.windowEnd
  { d with now := max d.now t, fault := { d.fault with pages := [], bankCe := [], bankFired := [], windowStart := t } }

end Machine
end Sys2Proof
end

