-- ==== Sys2Proof/Machine/EventCommands.lean ====
section
/-!
DEFINITION. The meanings of the rows of the event controller, the fault rings, traces and stall counters, and of presence (R533-R558, R620-R640).
-/
namespace Sys2Proof
namespace Machine

/-- LINK_CHECK_FAIL (R27): A die-to-die transfer fails its check code and is retried at link level; the link error counter and the threshold event move. -/
def execLinkCheckFail (link : Fin 10) (s : State) : Result :=
  s.onDev (fun d => d.linkRetry link)

/-- EVT_RAISE (R545): Fires an event source from software. -/
def execEvtRaise (fn : FnId) (source : Fin 4096) (s : State) : Result :=
  s.onDev (fun d => d.evtRaise fn source)

/-- EVT_COMPLETE (R535): Completes an event source's service. -/
def execEvtComplete (fn : FnId) (source : Fin 4096) (s : State) : Result :=
  s.onDev (fun d => d.evtDone fn source)

/-- EVENT_DELIVERY (R540): The controller delivers one eligible pending source to a member of its set. -/
def execEventDelivery (s : State) : Result :=
  s.onDev (fun d => d.eventDelivery)

/-- MGMT_EVENT_HANDLED (R542): The management firmware journals a delivered event and completes its source. -/
def execMgmtEventHandled (s : State) : Result :=
  s.onDev (fun d => d.mgmtHandled)

/-- EVT_FN_WIN_WRITE (R531): Sets a VF's event window, or is refused. -/
def execEvtFnWinWrite (vf : FnId) (base : Fin 4096) (count : Fin 512) (s : State) : Result :=
  s.onDev (fun d => d.fnWindow vf base count)

/-- EVT_ENABLE (R541): EVT_CTL.EN enables or stops deliveries. -/
def execEvtEnable (enable : Bool) (s : State) : Result :=
  s.onDev (fun d => d.evtEnable enable)

/-- PRESENCE_PRESS (R557): A press of PRES_BTN_N held for 50 ms satisfies an open window, or is stray. -/
def execPresencePress (fell : Nat) (s : State) : Result :=
  s.onDev (fun d => d.press fell)

/-- PRESENCE_TIMEOUT (R557): A presence window runs out without a counted press. -/
def execPresenceTimeout (s : State) : Result :=
  s.onDev (fun d => d.presTimeout)

/-- SEAL_OPEN (R558): The seal loop is open; TAMPER latches and the module retires. -/
def execSealOpen (s : State) : Result :=
  s.onDev (fun d => d.tamper.znPump)

/-- SVC_JUMPER_CHANGE (R575): The SVC jumper is fitted or removed; a level 3 session closes on removal. -/
def execSvcJumperChange (fitted : Bool) (s : State) : Result :=
  s.onDev (fun d => d.jumperChange fitted)

/-- FAULT_RECORD_DELIVERY (R625): The hub takes one queued fault record, writes it to the fault rings and fires its source. -/
def execFaultRecordDelivery (s : State) : Result :=
  s.onDev (fun d => d.faultDelivery)

/-- FAULT_RING_ENABLE (R639): EN from 0 to 1 reads the fault ring address and resets HEAD and TAIL. -/
def execFaultRingEnable (fn : FnId) (s : State) : Result :=
  s.onDev (fun d => d.faultRingEnable fn)

/-- TRACE_ENABLE (R640): EN from 0 to 1 resets the trace tail. -/
def execTraceEnable (s : State) : Result :=
  s.onDev (fun d => d.traceEnable)

/-- STALL_CLEAR (R637): CORE_STALL_CTL.CLEAR zeroes every stall counter of the core. -/
def execStallClear (core : CoreId) (s : State) : Result :=
  s.onDev (fun d => d.stallClear core)

/-- CORE_STALL_LO_READ (R637): A read of a low counter word latches its high word. -/
def execCoreStallLoRead (core : CoreId) (row : Fin 7) (counter : Fin 12) (s : State) : Result :=
  s.onDev (fun d => d.stallLoRead core row counter)

/-- RETIRE_WINDOW_EXPIRE (R629): Every HOURS hours the page error table is cleared and a new window starts. -/
def execRetireWindowExpire (s : State) : Result :=
  s.onDev (fun d => d.windowExpire)

end Machine
end Sys2Proof
end

