-- ==== Sys2Proof/Machine/FunctionCommands.lean ====
section
/-!
DEFINITION. The meanings of the sf. rows (R157-R165, R167).
-/
namespace Sys2Proof
namespace Machine

/-- SF_EXP (R164): sf.eval of e^x. -/
def execSfExp (core : CoreId) (s : State) : Result :=
  s.onDev (fun d => d.sfBuiltin core Fn.EXP)

/-- SF_EXP2 (R164): sf.eval of 2^x. -/
def execSfExp2 (core : CoreId) (s : State) : Result :=
  s.onDev (fun d => d.sfBuiltin core Fn.EXP2)

/-- SF_LOG (R164): sf.eval of ln x. -/
def execSfLog (core : CoreId) (s : State) : Result :=
  s.onDev (fun d => d.sfBuiltin core Fn.LOG)

/-- SF_LOG2 (R164): sf.eval of log2 x. -/
def execSfLog2 (core : CoreId) (s : State) : Result :=
  s.onDev (fun d => d.sfBuiltin core Fn.LOG2)

/-- SF_RECIP (R164): sf.eval of 1/x, correctly rounded. -/
def execSfRecip (core : CoreId) (s : State) : Result :=
  s.onDev (fun d => d.sfBuiltin core Fn.RECIP)

/-- SF_SQRT (R164): sf.eval of √x, correctly rounded. -/
def execSfSqrt (core : CoreId) (s : State) : Result :=
  s.onDev (fun d => d.sfBuiltin core Fn.SQRT)

/-- SF_RSQRT (R164): sf.eval of 1/√x. -/
def execSfRsqrt (core : CoreId) (s : State) : Result :=
  s.onDev (fun d => d.sfBuiltin core Fn.RSQRT)

/-- SF_TANH (R164): sf.eval of tanh x. -/
def execSfTanh (core : CoreId) (s : State) : Result :=
  s.onDev (fun d => d.sfBuiltin core Fn.TANH)

/-- SF_SIGMOID (R164): sf.eval of the sigmoid. -/
def execSfSigmoid (core : CoreId) (s : State) : Result :=
  s.onDev (fun d => d.sfBuiltin core Fn.SIGMOID)

/-- SF_ERF (R164): sf.eval of erf x. -/
def execSfErf (core : CoreId) (s : State) : Result :=
  s.onDev (fun d => d.sfBuiltin core Fn.ERF)

/-- SF_GELU (R164): sf.eval of GELU. -/
def execSfGelu (core : CoreId) (s : State) : Result :=
  s.onDev (fun d => d.sfBuiltin core Fn.GELU)

/-- SF_GELU_TANH (R164): sf.eval of the tanh form of GELU. -/
def execSfGeluTanh (core : CoreId) (s : State) : Result :=
  s.onDev (fun d => d.sfBuiltin core Fn.GELU_TANH)

/-- SF_SILU (R164): sf.eval of SiLU. -/
def execSfSilu (core : CoreId) (s : State) : Result :=
  s.onDev (fun d => d.sfBuiltin core Fn.SILU)

/-- SF_SOFTPLUS (R164): sf.eval of softplus. -/
def execSfSoftplus (core : CoreId) (s : State) : Result :=
  s.onDev (fun d => d.sfBuiltin core Fn.SOFTPLUS)

/-- SF_SIN (R164): sf.eval of sin x. -/
def execSfSin (core : CoreId) (s : State) : Result :=
  s.onDev (fun d => d.sfBuiltin core Fn.SIN)

/-- SF_COS (R164): sf.eval of cos x. -/
def execSfCos (core : CoreId) (s : State) : Result :=
  s.onDev (fun d => d.sfBuiltin core Fn.COS)

/-- SF_TAB (R167): sf.eval through the published half of a user table slot. -/
def execSfTab (core : CoreId) (s : State) : Result :=
  s.onDev (fun d => d.sfTab core)

end Machine
end Sys2Proof
end

