-- ==== Sys2Proof/Machine/Issue.lean ====
section
/-!
DEFINITION. The instruction that a word spells, by OP and FN (R211, R212), for the single-step of R564: the meaning of that instruction's own
row.
-/
namespace Sys2Proof
namespace Machine

/-- OP 0x01, by FN. -/
def issueR (core : CoreId) (fn : Nat) (s : State) : Result :=
  match fn with
  | 0x000 => execAdd core s
  | 0x001 => execSub core s
  | 0x002 => execMul core s
  | 0x003 => execMla core s
  | 0x004 => execAnd core s
  | 0x005 => execOr core s
  | 0x006 => execXor core s
  | 0x007 => execShl core s
  | 0x008 => execShr core s
  | 0x009 => execSra core s
  | 0x00A => execMin core s
  | 0x00B => execMax core s
  | 0x00C => execMinu core s
  | 0x00D => execMaxu core s
  | 0x00E => execSlt core s
  | 0x00F => execSltu core s
  | 0x010 => execSeq core s
  | _ => execIllegalInstruction core s

/-- OP 0x02 to 0x1B: immediates, loads and stores. -/
def issueI (core : CoreId) (op : Nat) (s : State) : Result :=
  match op with
  | 0x02 => execAddi core s
  | 0x03 => execAndi core s
  | 0x04 => execOri core s
  | 0x05 => execXori core s
  | 0x06 => execShli core s
  | 0x07 => execShri core s
  | 0x08 => execSrai core s
  | 0x09 => execSlti core s
  | 0x0A => execMovk core s
  | 0x0B => execLui core s
  | 0x10 => execLd8u core s
  | 0x11 => execLd16u core s
  | 0x12 => execLd32u core s
  | 0x13 => execLd32s core s
  | 0x14 => execLd64 core s
  | 0x15 => execSt8 core s
  | 0x16 => execSt16 core s
  | 0x17 => execSt32 core s
  | 0x18 => execSt64 core s
  | 0x19 => execLsld core s
  | 0x1A => execLsst core s
  | 0x1B => execLscp core s
  | _ => execIllegalInstruction core s

/-- OP 0x20 and above: branches, parameters, pushes, semaphores, the end of a replay. -/
def issueB (core : CoreId) (op : Nat) (s : State) : Result :=
  match op with
  | 0x20 => execBeq core s
  | 0x21 => execBne core s
  | 0x22 => execBlt core s
  | 0x23 => execBge core s
  | 0x24 => execBltu core s
  | 0x25 => execBgeu core s
  | 0x26 => execJal core s
  | 0x27 => execJr core s
  | 0x28 => execDbnz core s
  | 0x2C => execPget core s
  | 0x2D => execPset core s
  | 0x2E => execRdsr core s
  | 0x30 => execFins core s
  | 0x31 => execPush core s
  | 0x32 => execGate core s
  | 0x33 => execSemsig core s
  | 0x34 => execSemwait core s
  | 0x35 => execSemrd core s
  | 0x3D => execNop core s
  | 0x3E => execRend core s
  | 0x3F => execHalt core s
  | _ => execIllegalInstruction core s

/-- The instruction that word w spells is issued on a core that is RUNNING with w at its PC. -/
def issueWord (core : CoreId) (w : Nat) (s : State) : Result :=
  if insOp w = 0x01 then issueR core (insFn w) s
  else if insOp w < 0x20 then issueI core (insOp w) s
  else issueB core (insOp w) s

/-- A single step of a core (R564). -/
def stepCore (core : CoreId) (s : State) : Result :=
  match s.dev.stepRefusal core with
  | some st => .next { s with dev := s.dev.dbgEnd st }
  | none =>
    match s.dev.stepWord core with
    | none => .next { s with dev := s.dev.stepNothing core }
    | some w =>
      match issueWord core w { s with dev := s.dev.stepBegin core } with
      | .next t => .next { t with dev := t.dev.stepEnd core w (s.dev.core core).pc }
      | r => r

end Machine
end Sys2Proof
end

