-- ==== Sys2Proof/Machine/Power.lean ====
section
/-!
DEFINITION. Power input and sequencing (R605-R610), temperatures (R612-R614) and the power governor (R615-R617).
-/
namespace Sys2Proof
namespace Machine

def msUnit : Nat := 1000000 * nsUnit
def usUnit : Nat := 1000 * nsUnit

/-! ## Power-down and what leads to a start (R606-R608, R596) -/

/-- A power-down: PG_OUT goes low, and unless the module is prepared the actions of R521 are taken. One that is already in progress goes on with
the cause of its first event (R618). -/
def Device.powerDown (d : Device) (cause : Nat) : Device :=
  if !d.pwr.pgOut then d
  else
    let d := d.surpriseRemoval
    { d with pwr := { d.pwr with pgOut := false, hotSwap := false, diesOn := false, nextCause := cause },
             boot := { d.boot with warmAsked := none } }

/-- PWR_EN_RISE: a start may follow, of cause 1 where a low level came before it. -/
def Device.pwrEnRise (d : Device) : Device := { d with pwr := { d.pwr with pwrEn := true } }

/-- PWR_EN_FALL: low for 1 ms. The module powers down, or where it is off already starts next with cause 1; a latch opens. -/
def Device.pwrEnFall (d : Device) : Device :=
  let d := d.powerDown 1
  { d with pwr := { d.pwr with pwrEn := false, latchedOff := false, nextCause := 1 } }

/-- INPUT_EXCURSION: counted, and POWER fires, once. -/
def Device.inputExcursion (d : Device) : Device := if d.pwr.pgOut then (d.bump Reg.PWR_INPUT_EXC 1).fire Evt.POWER else d

/-- INPUT_LOSS and INPUT_OVERVOLTAGE: cold reset of cause 2, once the input has come back. -/
def Device.inputLost (d : Device) : Device :=
  let d := d.powerDown 2
  { d with pwr := { d.pwr with inputWait := true } }

/-- INPUT_OVERVOLTAGE: the hot-swap stage opens at once as well. -/
def Device.inputOver (d : Device) : Device :=
  let d := d.inputLost
  { d with pwr := { d.pwr with hotSwap := false } }

/-- INPUT_OVERCURRENT: the hot-swap stage opens, and the module stays off until PWR_EN goes low and high. -/
def Device.inputCurrent (d : Device) : Device :=
  let d := d.powerDown 1
  { d with pwr := { d.pwr with hotSwap := false, latchedOff := true } }

/-- INPUT_RESTORED: the input has stood in range for 10 ms. -/
def Device.inputRestored (d : Device) : Device := { d with pwr := { d.pwr with inputWait := false } }

/-- RAIL_FAULT: every rail goes down, and the module stays off until PWR_EN goes low and high; the rail is kept. -/
def Device.railFault (d : Device) (rail : Nat) : Device :=
  if !d.pwr.pgOut then d
  else
    let d := d.powerDown 1
    { d with pwr := { d.pwr with latchedOff := true, rail := some rail } }

/-- PERST_ASSERT: a warm reset while PG_OUT is high (R609). -/
def Device.perstAssert (d : Device) : Device :=
  if d.pwr.perstLow then d
  else
    let d := { d with pwr := { d.pwr with perstLow := true } }
    if d.pwr.pgOut then d.askWarm 4 else d

/-- PERST_RELEASE (R519, R609). -/
def Device.perstRelease (d : Device) : Device := { d with pwr := { d.pwr with perstLow := false } }

/-- CFG_WARM_WRITE: a write of CFG_CTL; with another key it is ignored. -/
def Device.cfgWarm (d : Device) (v : Nat) : Device := if bit v 31 && bits v 15 0 == 0x574D then d.askWarm 5 else d

/-! ## The governor's level (R567, R615) -/

def Device.level (d : Device) : Nat := d.fld Reg.PWR_GOV 31 29

/-- Sets the level and with it the pace; POWER fires where the P-state of the level changes (R527). -/
def Device.setLevel (d : Device) (n : Nat) : Device :=
  let was := min d.level 3
  let d := ((d.setFld Reg.PWR_GOV 31 29 n).setFld Reg.PWR_GOV 1 0 (n - 3)).showPower
  if min n 3 = was then d else d.fire Evt.POWER

/-! ## Measurements (R615) -/

/-- The sum of the last n measurements of a quantity, and how many there are. -/
def Device.sumOf (d : Device) (n : Nat) (f : Nat × Nat × Nat → Nat) : Nat × Nat :=
  let l := d.pwr.samples.take n
  (l.foldl (fun (a : Nat) x => a + f x) 0, l.length)

/-- Their average. -/
def Device.average (d : Device) (n : Nat) (f : Nat × Nat × Nat → Nat) : Nat := (d.sumOf n f).1 / (d.sumOf n f).2

/-- Whether the average power of the last n measurements exceeds a limit in watts. -/
def Device.powerOver (d : Device) (n w : Nat) : Bool := decide (w * (d.sumOf n (·.2.2)).2 < (d.sumOf n (·.2.2)).1)

/-- Whether A10 lies below 95 % of PWR_LIMIT. -/
def Device.powerLow (d : Device) : Bool :=
  let s := d.sumOf 1000 (·.2.2)
  decide (100 * s.1 < 95 * d.fld Reg.PWR_LIMIT 15 0 * s.2)

/-- POWER_SAMPLE: one measurement, every 10 µs. Without a POWER image the telemetry reads zero (R585). -/
def Device.powerSample (d : Device) (mv ca watts : Nat) : Device :=
  let t := max d.now (d.pwr.sampleAt + 10 * usUnit)
  let d := { d with now := t, pwr := { d.pwr with sampleAt := t } }
  if d.noImage Sub.POWER then d
  else
    let d := { d with pwr := { d.pwr with samples := ((mv, ca, watts) :: d.pwr.samples).take 1000 } }
    let d := { d with pwr := { d.pwr with lowSince := if d.powerLow then d.pwr.lowSince.or (some t) else none } }
    let w16 := fun (x : Nat) => min 0xFFFF x
    let d := (d.setFld Reg.PWR_VIN 15 0 (w16 (d.average 100 (·.1)))).setFld Reg.PWR_IIN 15 0 (w16 (d.average 100 (·.2.1)))
    let a1 := w16 (d.average 100 (·.2.2))
    let d := d.setFld Reg.PWR_PIN 15 0 (w16 (d.average 1000 (·.2.2)))
    d.setFld Reg.PWR_PIN_PEAK 15 0 (max a1 (d.fld Reg.PWR_PIN_PEAK 15 0))

/-- GOV.OVER (R617): A10 above the limit for 100 ms at level 5. -/
def Device.watchOver (d : Device) : Device :=
  let beyond := d.level == 5 && d.powerOver 1000 (d.fld Reg.PWR_LIMIT 15 0)
  if !beyond then { d with pwr := { d.pwr with overSince := none, overTold := false } }
  else
    let t := d.pwr.overSince.getD d.now
    let d := { d with pwr := { d.pwr with overSince := some t } }
    if d.pwr.overTold || decide (d.now < t + 100 * msUnit) then d
    else ({ d with pwr := { d.pwr with overTold := true } }.setFlag Reg.PWR_GOV 28 true).fire Evt.POWER

/-- GOVERNOR_DECISION: every 100 µs. -/
def Device.governor (d : Device) : Device :=
  let t := max d.now (d.pwr.govAt + 100 * usUnit)
  let d := { d with now := t, pwr := { d.pwr with govAt := t } }
  let n := d.level
  let low := match d.pwr.lowSince with | some s => decide (s + 10 * msUnit ≤ t) && d.powerLow | none => false
  let d :=
    if d.powerOver 1000 (d.fld Reg.PWR_LIMIT 15 0) || d.powerOver 100 1000 then d.setLevel (min 5 (n + 1))
    else if low && !d.flag Reg.PWR_THERM 30 && decide (d.fld Reg.PWR_STATE 25 24 < n) then d.setLevel (n - 1)
    else d
  d.watchOver

/-! ## Temperatures (R612-R614) -/

/-- The warning, throttle and shutdown points of a sensor in degrees; the lid has only the first. -/
def thermPoints (n : Nat) : Int × Option (Int × Int) :=
  if n ≤ 4 ∨ n = 13 ∨ n = 14 then (100, some (105, 115))
  else if n ≤ 12 then (90, some (95, 105))
  else if n = 15 ∨ n = 16 then (85, some (90, 100))
  else if n = 17 then (60, none)
  else (110, some (115, 125))

/-- A sensor's die is off, and it reports no value. -/
def Device.sensorOff (d : Device) (n : Nat) : Bool :=
  if 1 ≤ n ∧ n ≤ 4 then d.svcState 0 (n - 1) == 3 || d.standby || !d.pwr.diesOn
  else if n = 13 ∨ n = 14 then d.svcState 1 (n - 13) == 3
  else false

/-- A sensor's last sample in units of 1/16 degree; none while it reports no value. -/
def Device.temp (d : Device) (n : Nat) : Option Int :=
  if d.flag (Reg.PWR_TEMP n) 31 then some (sext 16 (d.fld (Reg.PWR_TEMP n) 15 0)) else none

/-- Whether a sensor stands at or above a point of its own. -/
def Device.atPoint (d : Device) (n : Nat) (point : Int × Option (Int × Int) → Option Int) : Bool :=
  match d.temp n, point (thermPoints n) with
  | some t, some p => decide (16 * p ≤ t)
  | _, _ => false

/-- Whether a sensor stands less than 5 degrees below a point of its own, or above it. -/
def Device.nearPoint (d : Device) (n : Nat) (point : Int × Option (Int × Int) → Option Int) : Bool :=
  match d.temp n, point (thermPoints n) with
  | some t, some p => decide (16 * (p - 5) < t)
  | _, _ => false

def warnPoint (p : Int × Option (Int × Int)) : Option Int := some p.1
def throttlePoint (p : Int × Option (Int × Int)) : Option Int := p.2.map (·.1)
def shutdownPoint (p : Int × Option (Int × Int)) : Option Int := p.2.map (·.2)

/-- Whether any sensor stands at or above its point. -/
def Device.anyAt (d : Device) (point : Int × Option (Int × Int) → Option Int) : Bool := (List.range 19).any (fun n => d.atPoint n point)

/-- Records one sensor's sample. -/
def Device.putTemp (d : Device) (n : Nat) (t : Int) : Device :=
  if d.sensorOff n then d.setReg (Reg.PWR_TEMP n) 0#32 else d.setReg (Reg.PWR_TEMP n) (BitVec.ofNat 32 (0x80000000 + wrap 16 t))

/-- The points a sensor has crossed after a sample: one more for each it has reached, one fewer for each it has fallen 5 degrees below. -/
def Device.crossing (d : Device) (n : Nat) : Nat :=
  let was := Cells.get 0 d.pwr.crossed n
  let up := if d.atPoint n throttlePoint then 2 else if d.atPoint n warnPoint then 1 else 0
  let keep := if was == 2 && d.nearPoint n throttlePoint then 2 else if was != 0 && d.nearPoint n warnPoint then 1 else 0
  max up keep

/-- THERMAL fires for each point crossed, up or down; a sensor without a value crosses none. -/
def Device.noteCrossing (d : Device) (n : Nat) : Device :=
  let was := Cells.get 0 d.pwr.crossed n
  let now := d.crossing n
  let d := { d with pwr := { d.pwr with crossed := Cells.set 0 d.pwr.crossed n now } }
  if (d.temp n).isNone then d
  else (List.range (max was now - min was now)).foldl (fun d _ => d.fire Evt.THERMAL) d

/-- How far a sensor stands below its throttle point; none where it has no point or no value. -/
def Device.headroom (d : Device) (n : Nat) : Option Int :=
  match d.temp n, throttlePoint (thermPoints n) with
  | some t, some p => some (16 * p - t)
  | _, _ => none

/-- The sensor nearest its throttle point, the lowest number of several. -/
def Device.hottest (d : Device) : Option Nat :=
  (List.range 19).foldl (fun (best : Option Nat) n =>
    match d.headroom n, best with
    | none, b => b
    | some _, none => some n
    | some h, some b => if decide (h < (d.headroom b).getD 0) then some n else some b) none

/-- PWR_THERM.WARN, HOT and TEMP. -/
def Device.showTherm (d : Device) : Device :=
  let d := d.setFlag Reg.PWR_THERM 31 (d.anyAt warnPoint)
  match d.hottest with
  | some n => (d.setFld Reg.PWR_THERM 20 16 n).setFld Reg.PWR_THERM 15 0 (d.fld (Reg.PWR_TEMP n) 15 0)
  | none => (d.setFld Reg.PWR_THERM 20 16 0).setFld Reg.PWR_THERM 15 0 0

/-- A thermal hold begins or ends. -/
def Device.setHold (d : Device) (b : Bool) : Device := (d.setFlag Reg.PWR_THERM 30 b).setFlag Reg.PWR_GOV 27 b

/-- THERMAL_SAMPLE: every 100 µs. -/
def Device.thermalSample (d : Device) (temps : List Int) : Device :=
  let t := max d.now (d.pwr.thermAt + 100 * usUnit)
  let d := { d with now := t, pwr := { d.pwr with thermAt := t } }
  let d := (List.range 19).foldl (fun (d : Device) n => d.putTemp n (temps.getD n 0)) d
  let d := ((List.range 19).foldl (fun (d : Device) n => d.noteCrossing n) d).showTherm
  let d := { d with pwr := { d.pwr with
    coolSince := if (List.range 19).any (fun n => d.nearPoint n throttlePoint) then none else d.pwr.coolSince.or (some t)
    hotSince := if d.anyAt shutdownPoint then d.pwr.hotSince.or (some t) else none } }
  if d.anyAt throttlePoint && !d.flag Reg.PWR_THERM 30 then
    { (d.setHold true).bump Reg.PWR_THROTTLES 1 with pwr := { d.pwr with holdAt := t } }
  else d

/-- THERMAL_HOLD_STEP: every 1 ms of a hold, while a sensor stands at its throttle point, the level falls by one; the hold ends once all have
stayed cool for 10 ms. -/
def Device.holdStep (d : Device) : Device :=
  if !d.flag Reg.PWR_THERM 30 then d
  else
    let t := max d.now (d.pwr.holdAt + msUnit)
    let d := { d with now := t, pwr := { d.pwr with holdAt := t } }
    if d.anyAt throttlePoint then d.setLevel (min 5 (d.level + 1))
    else match d.pwr.coolSince with
      | some s => if s + 10 * msUnit ≤ t then d.setHold false else d
      | none => d

/-- THERMAL_SHUTDOWN: a sensor has stood at its shutdown point for 1 ms. -/
def Device.thermalShutdown (d : Device) : Device :=
  match d.pwr.hotSince with
  | none => d
  | some s =>
    if !d.pwr.pgOut then d
    else
      let t := max d.now (s + msUnit)
      let d := { d with now := t }.powerDown 3
      { d with pwr := { d.pwr with thermalOff := some t } }

/-- THERMAL_RESTART: 10 s have passed and the power stage's sensor, in units of 1/16 degree, reads below 70 degrees. -/
def Device.thermalRestart (d : Device) (temp : Int) : Device :=
  match d.pwr.thermalOff with
  | none => d
  | some s =>
    if 1120 ≤ temp then d
    else { d with now := max d.now (s + 10 * secUnit), pwr := { d.pwr with thermalOff := none } }

end Machine
end Sys2Proof
end

