-- ==== Sys2Proof/Machine/HostRegs.lean ====
section
/-!
DEFINITION. BAR0 (R9-R12, R495, R496): which register a function's offset reaches, what a host write of it does, and what a read of it shows.
-/
namespace Sys2Proof
namespace Machine

/-! ## The register behind an offset (R495, R496, R548) -/

/-- The parts of EVT_ that VF v sees, by offset in the block; the local numbers of sources and sets become global ones. -/
def Device.vfEvtKey (d : Device) (v o : Nat) : Option Nat :=
  let count := d.fld (Reg.EVT_FN_WIN v) 24 16
  let base := d.fld (Reg.EVT_FN_WIN v) 11 0
  let words := ceilDiv count 32
  if o = 0x4 ∨ o = 0x24 ∨ o = 0x28 then some (Reg.EVT + o)
  else if (0x1000 ≤ o ∧ o < 0x1000 + 4 * words) ∨ (0x1200 ≤ o ∧ o < 0x1200 + 4 * words) then some (Reg.EVT + o)
  else if 0x10000 ≤ o ∧ o < 0x10000 + 4 * count then some (Reg.EVT_SRC base + (o - 0x10000))
  else if 0x20000 ≤ o ∧ o < 0x20200 then some (Reg.EVT_SET (256 + 16 * (v - 1)) 0 + (o - 0x20000))
  else if (0x34000 ≤ o ∧ o < 0x34400) ∨ (0x3C000 ≤ o ∧ o < 0x3C008) then some (v * 0x4000000 + Reg.EVT + o)
  else none

/-- The blocks of the partition that VF v is bound to. -/
def Device.vfPartKey (d : Device) (v off : Nat) : Option Nat :=
  match d.boundPart v with
  | none => none
  | some p =>
    let own := (Reg.STK p ≤ off ∧ off < Reg.STK p + 0x2000) ∨ (Reg.RED p ≤ off ∧ off < Reg.RED p + 0x1000)
      ∨ (Reg.UPD p ≤ off ∧ off < Reg.UPD p + 0x1000)
      ∨ (Reg.CORE 0 ≤ off ∧ off < Reg.CORE 128 ∧ d.partOf ((off - Reg.CORE 0) / 0x20000) = some p)
    if own then some off else none

/-- The register that an offset in a function's BAR0 reaches; none where the function may not see one. -/
def Device.regKey (d : Device) (fn off : Nat) : Option Nat :=
  if d.stage = 6 then (if off = 0 ∨ (Reg.CFG ≤ off ∧ off < Reg.ZN 0) then some off else none)
  else if fn = 0 then some off
  else if off = Reg.HUB_IDENT ∨ off = Reg.HUB_CAPS then some off
  else if off = Reg.TIM_NOW_0 ∨ off = Reg.TIM_NOW_1 ∨ off = Reg.TIM_NOW_2 then some (fn * 0x4000000 + off)
  else if Reg.ZN 0 ≤ off ∧ off < Reg.ZN 0 + 0x10000 then some (fn * 0x4000000 + off)
  else if Reg.EVT ≤ off ∧ off < Reg.SEC then d.vfEvtKey fn (off - Reg.EVT)
  else d.vfPartKey fn off

/-- The access that a function may not make: counted on a VF; on the PF, and in recovery, it only reads zero and is ignored. -/
def Device.denied (d : Device) (fn : Nat) : Device := if fn = 0 ∨ d.stage = 6 then d else d.bump (Reg.ZN_BAR_DENY fn) 1

/-! ## Fields that a write sets (R10) -/

/-- Whether a VF may name the target of a member (R538). -/
def Device.memberAllowed (d : Device) (v m : Nat) : Bool :=
  match bits m 30 29 with
  | 0 => true
  | 1 => bits m 28 24 == v
  | 2 => false
  | _ => (d.boundPart v).isSome && d.partOf (bits m 23 17) == d.boundPart v

/-- The value that a function's write of a register stores: a VF's set numbers are its own (R548). None where the write is ignored and counted. -/
def Device.storedValue (d : Device) (fn key v : Nat) : Option Nat :=
  if fn = 0 then some v
  else if Reg.EVT_SRC 0 ≤ key ∧ key < Reg.EVT_SRC 4096 then
    if bits v 24 16 > 15 then none else some (setBits v 24 16 (256 + 16 * (fn - 1) + bits v 24 16))
  else if Reg.EVT_SET 0 0 ≤ key ∧ key < Reg.EVT_SET 512 0 then (if d.memberAllowed fn v then some v else none)
  else some v

/-- The plain fields of a register take the value. A link's retry counter that is cleared may be reported again (R631). -/
def Device.plainWrite (d : Device) (key v : Nat) : Device :=
  let m := Reg.writable key
  let d := d.setReg key ((d.reg key &&& ~~~m) ||| (BitVec.ofNat 32 v &&& m))
  if Reg.HUB_LINK_ERR 0 ≤ key ∧ key ≤ Reg.HUB_LINK_ERR 9 ∧ v = 0 then
    { d with fault := { d.fault with linkReported := d.fault.linkReported.filter (· != (key - Reg.HUB_LINK_ERR 0) / 4) } }
  else d

/-! ## Fields whose write is an action -/

/-- Applies an action where a bit of the value is 1. -/
def Device.onBit (d : Device) (v i : Nat) (f : Device → Device) : Device := if bit v i then f d else d

/-- CORE_CTL, CORE_PDIRTY, CORE_SEM, CORE_PSTAGE and CORE_STALL_CTL of core c, by offset in its block. SWITCH, RESUME, START and HALT of one write
act in that order (R248). -/
def Device.coreAction (d : Device) (c o v : Nat) : Device :=
  if o = 0 then (((d.onBit v 3 (·.ctlSwitch c)).onBit v 1 (·.ctlResume c)).onBit v 2 (·.ctlStart c)).onBit v 0 (·.ctlHalt c)
  else if o = 0x28 ∨ o = 0x2C then d.pdirtyWrite c (o == 0x2C) (BitVec.ofNat 32 v)
  else if 0x100 ≤ o ∧ o < 0x200 then d.modCore c (fun k => k.setSem ((o - 0x100) / 4) (bits v 15 0))
  else if 0x200 ≤ o ∧ o < 0x400 then d.pstageWrite c ((o - 0x200) / 8) (decide (o % 8 = 4)) (BitVec.ofNat 32 v)
  else if o = 0xC00 then d.onBit v 30 (·.stallClear c)
  else d

/-- STK_CTL, STK_START and STK_FIRST of partition p. STOP, ARM and COMMIT of one write act in that order. -/
def Device.stkAction (d : Device) (p o v : Nat) : Device :=
  if o = 0 then ((d.onBit v 2 (·.stkStop p)).onBit v 1 (·.stkArm p)).onBit v 3 (·.stkCommit p)
  else if 0x10 ≤ o ∧ o ≤ 0x1C then d.stkStartWrite p ((o - 0x10) / 4) (BitVec.ofNat 32 v)
  else d

/-- RED_CTL and RED_WIN_CMD of partition p; with OPEN and CLOSE both 1 the open comes first. -/
def Device.redAction (d : Device) (p o v : Nat) : Device :=
  if o = 0 then d.onBit v 1 (·.redSettleCmd p)
  else if o = 8 then
    let w := bits v 7 0
    (d.onBit v 31 (·.redCommand p (·.windowOpen p w))).onBit v 30 (·.redCommand p (·.windowClose p w))
  else d

/-- TIM_CTL and TIM_PTP_CFG. -/
def Device.timAction (d : Device) (key v : Nat) : Device :=
  if key = Reg.TIM_CTL then (d.timSrcWrite (bits v 2 0)).onBit v 8 (·.timStep)
  else if key = Reg.TIM_PTP_CFG then d.timPtpCfgWrite v
  else d

/-- AQ_CTL.PEN and the action fields of AQ_PORT_CTL. -/
def Device.aqAction (d : Device) (key v : Nat) : Device :=
  if key = Reg.AQ_CTL then
    (List.range 16).foldl (fun (d : Device) p =>
      if bit v (16 + p) == d.flag Reg.AQ_CTL (16 + p) then d else if bit v (16 + p) then d.aqPenEnable p else d.aqPenDisable p) d
  else if Reg.AQ_PORT_CTL 0 ≤ key ∧ key ≤ Reg.AQ_PORT_CTL 7 ∧ key % 8 = 0 then
    let i := (key - Reg.AQ_PORT_CTL 0) / 8
    let d := if bits v 1 0 = 3 then d else d.portIface i (bits v 1 0)
    let d := if bit v 31 == d.flag key 31 then d else if bit v 31 then d.portReadmit i else d.portRemove i
    d.onBit v 30 (·.portRecal i)
  else d

/-- EVT_CTL, EVT_RAISE, EVT_COMPLETE and EVT_FN_WIN. -/
def Device.evtAction (d : Device) (fn key v : Nat) : Device :=
  if key = Reg.EVT_CTL then d.evtEnable (bit v 0)
  else if key = Reg.EVT_RAISE then d.evtRaise fn (bits v 11 0)
  else if key = Reg.EVT_COMPLETE then d.evtDone fn (bits v 11 0)
  else if Reg.EVT_FN_WIN 1 ≤ key ∧ key ≤ Reg.EVT_FN_WIN 16 then d.fnWindow ((key - Reg.EVT_FN_WIN 0) / 4) (bits v 11 0) (bits v 24 16)
  else d

/-- SEC_DBG_CTL.GO, SEC_TRACE_CFG.EN, CFG_CTL. -/
def Device.secAction (d : Device) (key v : Nat) : Device :=
  if key = Reg.SEC_DBG_CTL then d.onBit v 31 (·.debugAccess)
  else if key = Reg.SEC_TRACE_CFG then (if bit v 31 then d.traceEnable else d.setFlag key 31 false)
  else if key = Reg.CFG_CTL then d.cfgWarm v
  else d

/-- ZN_CTL.EN and ZN_FAULT_CFG.EN of a function. -/
def Device.znAction (d : Device) (fn key v : Nat) : Device :=
  if key = Reg.ZN_CTL fn then (if bit v 0 then d.ctlEnable fn else d.ctlDisable fn)
  else if key = Reg.ZN_FAULT_CFG fn then (if bit v 31 then d.faultRingEnable fn else d.setFlag key 31 false)
  else d

/-- UPD_CTL.EN of partition p. -/
def Device.updAction (d : Device) (p o v : Nat) : Device :=
  if o = 0 then (if bit v 0 then d.updEnable p else d.updDisable p) else d

/-- The actions that the value of a write asks of a register: those of its fields that have rows of their own. -/
def Device.regAction (d : Device) (fn key v : Nat) : Device :=
  let o := key % 0x4000000
  if Reg.CORE 0 ≤ o ∧ o < Reg.CORE 128 then d.coreAction ((o - Reg.CORE 0) / 0x20000) ((o - Reg.CORE 0) % 0x20000) v
  else if Reg.STK 0 ≤ o ∧ o < Reg.STK 16 then d.stkAction ((o - Reg.STK 0) / 0x2000) ((o - Reg.STK 0) % 0x2000) v
  else if Reg.RED 0 ≤ o ∧ o < Reg.RED 16 then d.redAction ((o - Reg.RED 0) / 0x1000) ((o - Reg.RED 0) % 0x1000) v
  else if Reg.UPD 0 ≤ o ∧ o < Reg.UPD 16 then d.updAction ((o - Reg.UPD 0) / 0x1000) ((o - Reg.UPD 0) % 0x1000) v
  else if Reg.TIM ≤ o ∧ o < Reg.AQ then d.timAction key v
  else if Reg.AQ ≤ o ∧ o < Reg.CIS then d.aqAction key v
  else if Reg.EVT ≤ o ∧ o < Reg.SEC then d.evtAction fn key v
  else if Reg.ZN 0 ≤ o ∧ o < Reg.ZN 0 + 0x10000 then d.znAction fn key v
  else d.secAction key v

/-- A host write of a register, but for the single-step of SEC_DBG_CTL. -/
def Device.regWrite (d : Device) (fn key v : Nat) : Device :=
  match d.storedValue fn key v with
  | none => d.denied fn
  | some x => (d.plainWrite key x).regAction fn key v

/-- REGISTER_WRITE. A 1 in a reserved field has no defined effect (R11), and the machine stops there. -/
def registerWrite (fn off : Nat) (v : Word) (s : State) : Result :=
  match s.dev.regKey fn off with
  | none => .next { s with dev := s.dev.denied fn }
  | some key =>
    if v &&& Reg.reserved key ≠ 0#32 then .fault .reservedField
    else
      let s := { s with dev := s.dev.regWrite fn key v.toNat }
      if key = Reg.SEC_DBG_CTL ∧ bit v.toNat 30 ∧ !bit v.toNat 31 then stepCore (Fin.ofNat 128 (bits v.toNat 23 17)) s else .next s

/-! ## What a read shows -/

/-- The command that an engine has in execution at the head of queue q. -/
def Core.running (k : Core) (q : Nat) : Option QEntry := (k.queue q).head?.filter (fun e => e.started || e.result.isSome)

def flagBit (b : Bool) (i : Nat) : Nat := if b then 2 ^ i else 0

/-- The units that an instruction of the vector engine occupies, as bits 30:26 of VX_STATUS. -/
def vxUnits (opc : Nat) : Nat :=
  if opc = 0x21 ∨ opc = 0x23 ∨ opc = 0x25 then 2 ^ 30
  else if opc = 0x22 ∨ opc = 0x24 ∨ opc = 0x26 then 2 ^ 29
  else if opc < 0x40 then 2 ^ 28
  else if opc < 0x50 then 2 ^ 27 else 2 ^ 26

/-- The head of a queue waits for its gang. -/
def Core.gangWaits (k : Core) (q : Nat) : Bool := match (k.queue q).head? with | some e => e.gang.isSome && !e.released | none => false

/-- MX_STATUS. The tag is that of the command in execution, or of the last one. -/
def Device.mxStatus (d : Device) (c : Nat) : Nat :=
  let k := d.core c
  let r := k.running 0
  flagBit r.isSome 31 + flagBit (k.gangWaits 0) 30 + flagBit (k.siphonBusy == some 0) 29
    + (match r with | some e => e.tag | none => d.fld (Reg.MX_STATUS c) 23 0)

/-- The tag of the last sp.mv, or routed mx.mm, stays shown. ORIENT is 1 where N = 1 (R105); ACC has a meaning in sp.mv only. -/
def Device.spStatus (d : Device) (c : Nat) : Nat :=
  let k := d.core c
  let wait := flagBit (k.gangWaits 1) 29
  match k.siphonBusy with
  | none => wait + d.fld (Reg.MX_SP_STATUS c) 23 0
  | some q =>
    match (k.queue q).head? with
    | none => wait + d.fld (Reg.MX_SP_STATUS c) 23 0
    | some e =>
      let w := e.cmd.toNat
      flagBit true 31 + flagBit (q == 0) 30 + wait + flagBit (bits w 47 32 == 1) 28 + flagBit (q == 1 && bit w 86) 27 + e.tag

/-- VX_STATUS and CP_STATUS_0, CP_STATUS_1. -/
def Device.vxStatus (d : Device) (c : Nat) : Nat :=
  let k := d.core c
  match k.vxq with
  | [] => d.fld (Reg.VX_STATUS c) 23 0
  | e :: _ => flagBit true 31 + (if e.started || e.result.isSome then vxUnits e.opc else 0) + e.tag

def Device.cpStatus (d : Device) (c m : Nat) : Nat :=
  let k := d.core c
  let last := d.fld (if m = 0 then Reg.CP_STATUS_0 c else Reg.CP_STATUS_1 c) 23 0
  match (k.queue (3 + m)).head? with
  | none => last
  | some e =>
    flagBit e.granted 31 + flagBit (e.gate.wen && !e.granted) 30 + flagBit (e.opc == 0x05 && e.started && e.uses.isNone) 29
      + (if e.granted then e.tag else last)

/-- CORE_STATE. -/
def Device.coreState (d : Device) (c : Nat) : Nat :=
  let k := d.core c
  (match k.run with | .halted => 0 | .idle => 1 | .running => 2) * 2 ^ 30 + k.bank * 2 ^ 29 + flagBit k.faulted 28 + k.held.length * 2 ^ 20 + k.pc % 0x2000

/-- Words of a parameter register. -/
def paramWord (m : Cells DWord) (n : Nat) (high : Bool) : Nat := bits (Cells.get 0#64 m n).toNat (if high then 63 else 31) (if high then 32 else 0)

/-- The core block, by offset. -/
def Device.coreView (d : Device) (c o : Nat) : Nat :=
  let k := d.core c
  let q := fun (i : Nat) => occupancy (k.queue i)
  let r := (d.reg (Reg.CORE c + o)).toNat
  if o = 0x0 then r + flagBit k.switchPending 3
  else if o = 0x4 then d.coreState c
  else if o = 0x18 then q 0 * 0x1000000 + q 1 * 0x10000 + q 2 * 0x100 + q 3
  else if o = 0x1C then q 4 * 0x1000000 + q 5 * 0x10000
  else if o = 0x28 then bits k.dirty.toNat 31 0
  else if o = 0x2C then bits k.dirty.toNat 63 32
  else if 0x100 ≤ o ∧ o < 0x200 ∧ o % 4 = 0 then k.semVal ((o - 0x100) / 4)
  else if 0x200 ≤ o ∧ o < 0x400 ∧ o % 4 = 0 then paramWord k.staged ((o - 0x200) / 8) (o % 8 == 4)
  else if 0x500 ≤ o ∧ o < 0x700 ∧ o % 4 = 0 then paramWord k.live ((o - 0x500) / 8) (o % 8 == 4)
  else if o = 0x700 then setBits r 9 0 k.slots.length
  else if 0x800 ≤ o ∧ o < 0xB80 ∧ o % 8 = 4 then (match Cells.find? k.stallLatch (Reg.CORE c + o) with | some w => w.toNat | none => r)
  else if o = 0x1000 then d.mxStatus c
  else if o = 0x1080 then d.spStatus c
  else if o = 0x2000 then d.vxStatus c
  else if o = 0x2004 then k.vl
  else if 0x3100 ≤ o ∧ o < 0x3140 ∧ o % 4 = 0 then
    let s := (o - 0x3100) / 4
    let old := 2 * s + (1 - bits r 28 28)
    r + flagBit ([0, 1, 2].any (fun i => (k.queue i).any (fun e => e.uses == some old))) 27
  else if o = 0x4000 ∨ o = 0x4004 then d.cpStatus c ((o - 0x4000) / 4)
  else r

/-- The states of the 32 sources of a word, as bits. -/
def Device.evtBits (d : Device) (first : Nat) (sel : Nat → Bool) : Nat :=
  (List.range 32).foldl (fun (a : Nat) i => a + flagBit (sel (d.evtState (first + i))) i) 0

/-- A word of a function's pending-bit array: the vectors of the sets of held sources (R541). -/
def Device.pba (d : Device) (fn w : Nat) : Nat :=
  let ms := d.heldSources.flatMap (fun n => (List.range 8).map (fun i => d.member (d.evtSet n) i))
  (List.range 32).foldl (fun (a : Nat) i =>
    a + flagBit (ms.any (fun m => bits m 30 29 == 1 && bits m 28 24 == fn && bits m 10 0 == 32 * w + i)) i) 0

/-- The first source, relative to the block's, that a function's word w of EVT_ACTV and EVT_PEND shows. -/
def Device.evtFirst (d : Device) (fn w : Nat) : Nat := 32 * w + (if fn = 0 then 0 else d.fld (Reg.EVT_FN_WIN fn) 11 0)

/-- The sources of the word that a VF sees: those of its window. -/
def Device.evtMask (d : Device) (fn w : Nat) : Nat :=
  if fn = 0 then 0xFFFFFFFF else 2 ^ (min 32 (d.fld (Reg.EVT_FN_WIN fn) 24 16 - 32 * w)) - 1

/-- The EVT_ block as a function sees it. -/
def Device.evtView (d : Device) (fn key o : Nat) : Nat :=
  let r := (d.reg key).toNat
  if 0x1000 ≤ o ∧ o < 0x1200 then
    let w := (o - 0x1000) / 4
    Nat.land (d.evtBits (d.evtFirst fn w) (fun s => s ≥ 2)) (d.evtMask fn w)
  else if 0x1200 ≤ o ∧ o < 0x1400 then
    let w := (o - 0x1200) / 4
    Nat.land (d.evtBits (d.evtFirst fn w) (fun s => s % 2 == 1)) (d.evtMask fn w)
  else if 0x10000 ≤ o ∧ o < 0x14000 ∧ fn ≠ 0 then setBits r 24 16 (bits r 24 16 - (256 + 16 * (fn - 1)))
  else if 0x3C000 ≤ o ∧ o < 0x3C100 then d.pba fn ((o - 0x3C000) / 4)
  else r

/-- CIS_CKPT_STATUS: the state of the operation that runs the partition's slice. -/
def Device.ckptView (d : Device) (p : Nat) : Nat :=
  let st := match Cells.find? d.svc.ckpt p with
    | none => 0
    | some e => match ((Cells.find? d.zn.cmds e.owner).map (fun (x : ZCmd) => x.state) : Option CmdState) with
      | some CmdState.suspended => 2
      | some CmdState.cancelling => 3
      | _ => 1
  setBits (d.reg (Reg.CIS_CKPT_STATUS p)).toNat 31 30 st

/-- What a read of a register shows (R10), without the effects that a read has of its own. -/
def Device.view (d : Device) (fn key : Nat) : Nat :=
  let o := key % 0x4000000
  let r := (d.reg key).toNat
  if Reg.CORE 0 ≤ o ∧ o < Reg.CORE 128 then d.coreView ((o - Reg.CORE 0) / 0x20000) ((o - Reg.CORE 0) % 0x20000)
  else if Reg.STK 0 ≤ o ∧ o < Reg.STK 16 then
    let p := (o - Reg.STK 0) / 0x2000
    let b := (o - Reg.STK 0) % 0x2000
    if d.flag (Reg.STK_CTL p) 31 && ((0x20 ≤ b && b < 0x30) || (0x100 ≤ b && b < 0x200) || 0x1000 ≤ b) then
      (Cells.get 0#32 (d.stroke p).active b).toNat
    else r
  else if Reg.RED 0 ≤ o ∧ o < Reg.RED 16 then
    let p := (o - Reg.RED 0) / 0x1000
    if o = Reg.RED_STATUS p then setBits r 28 16 (d.red.buckets.filter (fun b => b.part == p)).length else r
  else if o = Reg.AQ_FLOWS_OPEN then d.aq.flows.length
  else if Reg.CIS_CKPT_STATUS 0 ≤ o ∧ o ≤ Reg.CIS_CKPT_STATUS 15 ∧ (o - Reg.CIS_CKPT_STATUS 0) % 64 = 0 then
    d.ckptView ((o - Reg.CIS_CKPT_STATUS 0) / 64)
  else if Reg.EVT ≤ o ∧ o < Reg.SEC then d.evtView fn key (o - Reg.EVT)
  else if o = Reg.SEC_PRES_STATUS then
    match d.sec.window with
    | some w => setBits r 24 16 ((w.deadline - d.now) / secUnit)
    | none => setBits r 24 16 0
  else r

/-- What a host read of BAR0 returns: zero where the function may not look. -/
def Device.hostRead (d : Device) (fn off : Nat) : Nat :=
  match d.regKey fn off with
  | some key => d.view fn key
  | none => 0

end Machine
end Sys2Proof
end

