-- ==== Sys2Proof/Machine/HostPort.lean ====
section
/-!
DEFINITION. What else reaches the module from outside: BAR4 (R497), configuration requests (R519), management over MCTP and PLDM (R523, R524),
the debug registers by JTAG (R565).
-/
namespace Sys2Proof
namespace Machine

/-! ## BAR4 (R497) -/

/-- Bytes of a function's BAR4. -/
def Device.bar4Size (d : Device) (fn : Nat) : Nat := 2 ^ (if fn = 0 then d.zn.bar4Pf else d.zn.bar4Vf)

/-- The device address of a byte of BAR4: the base is aligned to the BAR's size. -/
def Device.bar4Addr (d : Device) (fn off : Nat) : Nat :=
  let b := d.reg64 (Reg.ZN_BAR4_BASE_LO fn) % 2 ^ 48
  b - b % d.bar4Size fn + off

/-- The physical address behind a device address: on the PF the map of R257, on a VF the tables of its partition. -/
def Device.bar4Xlate (d : Device) (fn : Nat) (acc : Access) (a : Nat) : Device × Xlate :=
  if fn = 0 then
    (d, match regionOf a with
      | .hole => .error St.BAD_RANGE
      | .cistern c => if d.cisOnline c then .ok a else .error St.TIER_OFFLINE
      | _ => .ok a)
  else match d.boundPart fn with
    | none => (d, .error St.ACCESS_DENIED)
    | some p => d.translate p acc a

/-- The pieces of an access by physical address, or the status and the device address of the first one that fails. -/
def Device.bar4Pieces (d : Device) (fn : Nat) (acc : Access) : List (Nat × Nat) → Device × Except (Nat × Nat) (List (Nat × Nat))
  | [] => (d, .ok [])
  | (a, n) :: rest =>
    match d.bar4Xlate fn acc a with
    | (d, .error st) => (d, .error (st, a))
    | (d, .ok pa) =>
      match d.bar4Pieces fn acc rest with
      | (d, .error st) => (d, .error st)
      | (d, .ok ps) => (d, .ok ((pa, n) :: ps))

/-- The fault record of a BAR4 access that goes wrong at a device address: of the partition that a VF acts for, or of device scope. -/
def Device.bar4Record (d : Device) (fn st a : Nat) : Device :=
  d.raisePart (d.boundPart fn) { status := st, source := 15, akind := if fn = 0 then 3 else 2, index := fn, addr := a, detail := 4 }

/-- A failing access: a fault record with the walk's status, and ZN_BAR_DENY. -/
def Device.bar4Fail (d : Device) (fn st a : Nat) : Device := (d.bar4Record fn st a).bump (Reg.ZN_BAR_DENY fn) 1

/-- Reads the pieces; answers also whether one was uncorrectable. -/
def Device.bar4Fetch (d : Device) : List (Nat × Nat) → Device × List Byte × Bool
  | [] => (d, [], false)
  | (pa, n) :: rest =>
    let r := d.physRead pa n
    let q := r.1.bar4Fetch rest
    (q.1, r.2.1 ++ q.2.1, r.2.2 || q.2.2)

/-- Stores the pieces. -/
def Device.bar4Store (d : Device) : List (Nat × Nat) → List Byte → Device
  | [], _ => d
  | (pa, n) :: rest, bs => (d.physWrite pa (bs.take n)).1.bar4Store rest (bs.drop n)

/-- What a read delivers to the host. -/
def Device.bar4Answer (d : Device) (bs : List Byte) : Device := { d with zn := { d.zn with bar4Data := bs } }

/-- BAR4 is reachable by the access: it lies inside the BAR, and memory is not in self-refresh (R566), where it waits. -/
def Device.bar4Open (d : Device) (fn off n : Nat) : Bool := decide (off + n ≤ d.bar4Size fn) && !d.standby

/-- An uncorrectable read (R285, R287): a record, and data that are free. -/
def Device.bar4Bad (d : Device) (fn off n : Nat) : Device :=
  let v := Config.uncorrectableData d.free
  (d.useFree.bar4Record fn St.UNCORRECTABLE (d.bar4Addr fn off)).bar4Answer (toLe n v)

/-- BAR4_READ. A read that fails returns all ones. -/
def Device.bar4Read (d : Device) (fn off n : Nat) : Device :=
  if !d.bar4Open fn off n then d
  else match d.bar4Pieces fn .read (pieces 0x10000 (d.bar4Addr fn off) n) with
    | (d, .error e) => (d.bar4Fail fn e.1 e.2).bar4Answer (List.replicate n 0xFF#8)
    | (d, .ok ps) =>
      let r := d.bar4Fetch ps
      if r.2.2 then r.1.bar4Bad fn off n else r.1.bar4Answer r.2.1

/-- BAR4_WRITE. A write that fails is dropped. -/
def Device.bar4Write (d : Device) (fn off : Nat) (bs : List Byte) : Device :=
  if !d.bar4Open fn off bs.length then d
  else match d.bar4Pieces fn .write (pieces 0x10000 (d.bar4Addr fn off) bs.length) with
    | (d, .error e) => d.bar4Fail fn e.1 e.2
    | (d, .ok ps) => d.bar4Store ps bs

/-! ## Configuration requests (R494, R519, R586) -/

/-- The state of a function that a request sets: 0 nothing (a read), 1 Bus Master Enable, 2 MSI-X Enable, 3 Function Mask, 4 and 5 the log2 size of
BAR4 of the PF and of the VFs. -/
def Device.cfgSet (d : Device) (fn field v : Nat) : Device :=
  let c := d.pci fn
  let put := fun (c : PciFn) => { d with zn := { d.zn with pci := Cells.set {} d.zn.pci fn c } }
  match field with
  | 1 => put { c with busMaster := v % 2 == 1 }
  | 2 => put { c with msixEnable := v % 2 == 1 }
  | 3 => put { c with msixMask := v % 2 == 1 }
  | 4 => if fn = 0 ∧ 30 ≤ v ∧ v ≤ 41 then { d with zn := { d.zn with bar4Pf := v } } else d
  | 5 => if fn = 0 ∧ 30 ≤ v ∧ v ≤ 41 then { d with zn := { d.zn with bar4Vf := v } } else d
  | _ => d

/-- CONFIGURATION_REQUEST: Retry Status and no effect while the module starts; in recovery it is answered normally. -/
def Device.cfgRequest (d : Device) (fn field v : Nat) : Device :=
  if d.boot.starting then { d with zn := { d.zn with cfgRetry := true } } else { d.cfgSet fn field v with zn := { (d.cfgSet fn field v).zn with cfgRetry := false } }

/-! ## MCTP and PLDM (R523, R524, R586) -/

/-- A message is answered; the bytes of the answer are those of the standards and of the module's own identifiers. -/
def Device.mctpAnswer (d : Device) (kind : Nat) (req : List Byte) : Device :=
  { d with zn := { d.zn with mctpOut := d.zn.mctpOut ++ [Config.mgmtAnswer kind req] } }

/-- Someone is there to answer: management firmware, or in recovery the boot ROM. -/
def Device.mgmtAnswers (d : Device) : Bool := d.pwr.pgOut && (d.mgmtRuns || d.stage == 6)

/-- MCTP_CONTROL_MESSAGE: Set Endpoint ID gives the module its endpoint, other requests only ask. -/
def Device.mctpControl (d : Device) (setEid : Option Nat) (req : List Byte) : Device :=
  if !d.mgmtAnswers then d
  else
    let d := match setEid with | some e => { d with zn := { d.zn with eid := e } } | none => d
    d.mctpAnswer 0 req

/-- PLDM_TYPE0. -/
def Device.pldmBase (d : Device) (req : List Byte) : Device := if d.mgmtAnswers then d.mctpAnswer 1 req else d

/-- PLDM_SENSOR_READ: not in recovery. -/
def Device.pldmSensor (d : Device) (req : List Byte) : Device := if d.mgmtRuns then d.mctpAnswer 2 req else d

/-- The image stands in the slot; one that verifies makes it VERIFIED. -/
def Device.pldmPut (d : Device) (s i : Nat) (b : List Byte) : Device :=
  let d := { d with boot := { d.boot with image := Cells.put d.boot.image (2 * s + i) b } }
  if d.stageStatus s b == St.OK then d.storeSlots s ((d.slots s).setImage i 1 (imgVersion b) (imgSvn b)) none else d

/-- An image by PLDM Type 5: written to a slot and verified as by ZN_FW_STAGE (R579, R581). -/
def Device.pldmImage (d : Device) (s i : Nat) (b : List Byte) : Device :=
  if imageBad s b.length b then d else (d.storeSlots s ((d.slots s).setState i 0) none).pldmPut s i b

/-- An image for the boot ROM in recovery: MGMT only, slot A; a verified one starts the module again (R586). -/
def Device.pldmRecover (d : Device) (s : Nat) (b : List Byte) : Device :=
  if s ≠ Sub.MGMT then d
  else
    let d := d.pldmImage Sub.MGMT 0 b
    if (d.slots Sub.MGMT).state 0 == 1 then d.askWarm 6 else d

/-- ActivateFirmware, as ZN_FW_ACTIVATE. -/
def Device.pldmActivate (d : Device) (s : Nat) : Device :=
  if d.activateStatus s ≠ St.OK ∨ d.subsystemBusy s then d else d.activateStart s none

/-- PLDM_FW_UPDATE: an image for a subsystem's inactive slot, or its activation. -/
def Device.pldmUpdate (d : Device) (s : Nat) (activate : Bool) (b : List Byte) : Device :=
  if !d.mgmtAnswers then d
  else
    let d := d.mctpAnswer 5 b
    if d.stage = 6 then (if activate then d else d.pldmRecover s b)
    else if activate then d.pldmActivate s
    else (d.pldmImage s (d.slots s).other b).fire Evt.FIRMWARE

/-- MCTP_ZENNUS: a packet for the private ring (R524). -/
def Device.mctpZennus (d : Device) (pkt : List Byte) : Device :=
  if d.mgmtRuns && d.pwr.pgOut then (d.receive mctpFn mctpRing ((pkt ++ List.replicate 64 0#8).take (max 64 pkt.length))).znPump else d

/-! ## JTAG access to the debug registers (R565) -/

/-- DBGPORT: the registers are shifted out and loaded with what is shifted in; GO or STEP in what is loaded acts. -/
def dbgPortRow (ctl : Word) (addr data : Nat) (s : State) : Result :=
  let d := s.dev
  if d.lifecycle = 3 then .next { s with dev := d.jtagBypass }
  else
    let d := (d.jtag .dbgport d.dbgPort).dbgPortLoad ctl addr data
    let v := ctl.toNat
    if bit v 31 then .next { s with dev := d.debugAccess }
    else if bit v 30 then stepCore (Fin.ofNat 128 (bits v 23 17)) { s with dev := d }
    else .next { s with dev := d }

end Machine
end Sys2Proof
end

