-- ==== Sys2Proof/Machine/HostCommands.lean ====
section
/-!
DEFINITION. The meanings of the rows by which the host, the management bus and the JTAG port reach the module (R10, R497, R519-R524, R565).
-/
namespace Sys2Proof
namespace Machine

/-- REGISTER_WRITE (R10): A host write to a register or field with no row of its own takes effect by its access code, host write first under R12. -/
def execRegisterWrite (fn : FnId) (offset : Fin 67108864) (value : Word) (s : State) : Result :=
  registerWrite fn offset value s

/-- BAR4_READ (R497): A host BAR4 read of device memory. -/
def execBar4Read (fn : FnId) (offset : Nat) (len : Nat) (s : State) : Result :=
  s.onDev (fun d => d.bar4Read fn offset len)

/-- BAR4_WRITE (R497): A host BAR4 write of device memory. -/
def execBar4Write (fn : FnId) (offset : Nat) (data : List Byte) (s : State) : Result :=
  s.onDev (fun d => d.bar4Write fn offset data)

/-- MCTP_CONTROL_MESSAGE (R523): An MCTP control message is answered. -/
def execMctpControlMessage (endpoint : Option (Fin 256)) (request : List Byte) (s : State) : Result :=
  s.onDev (fun d => d.mctpControl (endpoint.map (fun e => e.val)) request)

/-- PLDM_TYPE0 (R523): A PLDM Type 0 request is answered. -/
def execPldmType0 (request : List Byte) (s : State) : Result :=
  s.onDev (fun d => d.pldmBase request)

/-- PLDM_SENSOR_READ (R523): A PLDM Type 2 sensor or PDR request is answered. -/
def execPldmSensorRead (request : List Byte) (s : State) : Result :=
  s.onDev (fun d => d.pldmSensor request)

/-- PLDM_FW_UPDATE (R523): A PLDM Type 5 firmware-update message is handled. -/
def execPldmFwUpdate (subsystem : Fin 7) (activate : Bool) (image : List Byte) (s : State) : Result :=
  s.onDev (fun d => d.pldmUpdate subsystem activate image)

/-- MCTP_ZENNUS (R524): A Zennus packet over MCTP runs on the private ring. -/
def execMctpZennus (packet : List Byte) (s : State) : Result :=
  s.onDev (fun d => d.mctpZennus packet)

/-- DEBUG_ACCESS (R564): SEC_DBG_CTL.GO performs a debug read or write. -/
def execDebugAccess (s : State) : Result :=
  s.onDev (fun d => d.debugAccess)

/-- DEBUG_STEP (R564): SEC_DBG_CTL.STEP makes a halted control core issue one instruction. -/
def execDebugStep (s : State) : Result :=
  stepCore (Fin.ofNat 128 (s.dev.fld Reg.SEC_DBG_CTL 23 17)) s

/-- IDCODE (R565): JTAG IDCODE instruction. -/
def execIdcode (s : State) : Result :=
  s.onDev (fun d => d.jtagIdcode)

/-- BYPASS (R565): JTAG BYPASS instruction. -/
def execBypass (s : State) : Result :=
  s.onDev (fun d => d.jtagBypass)

/-- SAMPLE_PRELOAD (R565): JTAG SAMPLE/PRELOAD, where the lifecycle allows it. -/
def execSamplePreload (pins : List Bool) (data : List Bool) (s : State) : Result :=
  s.onDev (fun d => d.jtagSample pins data)

/-- EXTEST (R565): JTAG EXTEST, where the lifecycle allows it. -/
def execExtest (pins : List Bool) (data : List Bool) (s : State) : Result :=
  s.onDev (fun d => d.jtagExtest pins data)

/-- DBGPORT (R565): JTAG access to the debug registers, under the open session. -/
def execDbgport (ctl : Word) (address : Nat) (data : Nat) (s : State) : Result :=
  dbgPortRow ctl address data s

/-- CONFIGURATION_REQUEST (R519): A host PCIe configuration read or write is answered with Retry Status before READY, and otherwise sets function state such as Bus Master Enable, MSI-X Enable, Function Mask and Resizable BAR sizes. -/
def execConfigurationRequest (fn : FnId) (field : Fin 6) (value : Nat) (s : State) : Result :=
  s.onDev (fun d => d.cfgRequest fn field value)

/-- LINK_RETRAIN (R521): The PCIe link retrains without leaving L0 for Detect or Disabled, and completions held while it does so are then written. -/
def execLinkRetrain (s : State) : Result :=
  s.onDev (fun d => d.znPump)

end Machine
end Sys2Proof
end

