-- ==== Sys2Proof/Machine/MatrixCommands.lean ====
section
/-!
DEFINITION. The meanings of the rows of the matrix array and of the siphon path (R77-R124).
-/
namespace Sys2Proof
namespace Machine

/-- MX_MM (R92): Matrix product command: checks, prescan, passes, glaze and output, or a prescan table, or partial window records. -/
def execMxMm (core : CoreId) (s : State) : Result :=
  s.onDev (fun d => d.mxMm core)

/-- MX_EARLY_START (R86): The array starts the prescan and first load of the next mx.mm while the last pass of the current command streams. -/
def execMxEarlyStart (core : CoreId) (s : State) : Result :=
  s.onDev (fun d => d.earlyStart core 0)

/-- MX_GANG_RELEASE (R88): An mx.mm with GANG = 1 is released in the first cycle in which every member of its set has arrived. -/
def execMxGangRelease (s : State) : Result :=
  s.onDev (fun d => d.gangRelease 0)

/-- MX_WSUM (R96): Adds two arrays of window records into a destination array. -/
def execMxWsum (core : CoreId) (s : State) : Result :=
  s.onDev (fun d => d.mxWsum core)

/-- MX_WFIN (R98): Rounds an array of window records through the glaze stage to the output format. -/
def execMxWfin (core : CoreId) (s : State) : Result :=
  s.onDev (fun d => d.mxWfin core)

/-- SP_MV (R109): Thin matrix product on the siphon path, in exact or FP32 accumulation. -/
def execSpMv (core : CoreId) (s : State) : Result :=
  s.onDev (fun d => d.spMv core)

/-- SP_GANG_RELEASE (R110): An sp.mv with GANG = 1 is released when every member of its set has arrived. -/
def execSpGangRelease (s : State) : Result :=
  s.onDev (fun d => d.gangRelease 1)

/-- SIPHON_TAKE_COMMAND (R106): At a command boundary the siphon path takes its next command from MXQ or SPQ under rotating priority. -/
def execSiphonTakeCommand (core : CoreId) (s : State) : Result :=
  s.onDev (fun d => d.siphonTake core)

/-- SIPHON_EARLY_START (R118): The siphon path begins the next command's prescan during the 16-cycle drain of the current one. -/
def execSiphonEarlyStart (core : CoreId) (s : State) : Result :=
  s.onDev (fun d => d.earlyStart core 1)

end Machine
end Sys2Proof
end

