-- ==== Sys2Proof/Machine/PowerCommands.lean ====
section
/-!
DEFINITION. The meanings of the rows of power, temperature, resets and start-up (R566-R575, R583-R598, R600-R617).
-/
namespace Sys2Proof
namespace Machine

/-- THERMAL_SAMPLE (R612): The 19 sensors are sampled every 100 µs, with warning events. -/
def execThermalSample (temps : List Int) (s : State) : Result :=
  s.onDev (fun d => d.thermalSample temps)

/-- THERMAL_HOLD_STEP (R613): Each ms of a thermal hold lowers the governor level by one, or ends the hold. -/
def execThermalHoldStep (s : State) : Result :=
  s.onDev (fun d => d.holdStep)

/-- THERMAL_SHUTDOWN (R614): A sensor held 1 ms at its shutdown point powers the module down. -/
def execThermalShutdown (s : State) : Result :=
  s.onDev (fun d => d.thermalShutdown)

/-- THERMAL_RESTART (R614): After the hold-off the module restarts by itself. -/
def execThermalRestart (temp : Int) (s : State) : Result :=
  s.onDev (fun d => d.thermalRestart temp)

/-- GOVERNOR_DECISION (R615): Every 100 µs the governor moves its level from the power averages. -/
def execGovernorDecision (s : State) : Result :=
  s.onDev (fun d => d.governor)

/-- POWER_SAMPLE (R615): Input power is measured every 10 µs into the averages. -/
def execPowerSample (mv : Nat) (ca : Nat) (watts : Nat) (s : State) : Result :=
  s.onDev (fun d => d.powerSample mv ca watts)

/-- PWR_EN_RISE (R608): PWR_EN high starts power-up and the cold start. -/
def execPwrEnRise (s : State) : Result :=
  s.onDev (fun d => d.pwrEnRise)

/-- PWR_EN_FALL (R608): PWR_EN low for 1 ms powers the module down. -/
def execPwrEnFall (s : State) : Result :=
  s.onDev (fun d => d.pwrEnFall)

/-- INPUT_EXCURSION (R606): The input leaves 11.0–13.2 V for over 100 µs but stays in service. -/
def execInputExcursion (s : State) : Result :=
  s.onDev (fun d => d.inputExcursion)

/-- INPUT_LOSS (R606): The input stays below 10.8 V, or the bulk falls below 10.0 V; cold reset. -/
def execInputLoss (s : State) : Result :=
  s.onDev (fun d => d.inputLost)

/-- INPUT_OVERVOLTAGE (R606): The input exceeds 13.8 V; the hot-swap stage opens. -/
def execInputOvervoltage (s : State) : Result :=
  s.onDev (fun d => d.inputOver)

/-- INPUT_OVERCURRENT (R606): The input current exceeds its limit; the hot-swap stage opens. -/
def execInputOvercurrent (s : State) : Result :=
  s.onDev (fun d => d.inputCurrent)

/-- INPUT_RESTORED (R606): After a cause-2 reset the input is steady for 10 ms and the module restarts. -/
def execInputRestored (s : State) : Result :=
  s.onDev (fun d => d.inputRestored)

/-- RAIL_FAULT (R607): A rail stays out of regulation for 50 µs; all rails go down. -/
def execRailFault (rail : Nat) (s : State) : Result :=
  s.onDev (fun d => d.railFault rail)

/-- PERST_ASSERT (R609): PERST_N asserted with PG_OUT high starts a warm reset. -/
def execPerstAssert (s : State) : Result :=
  s.onDev (fun d => d.perstAssert)

/-- PERST_RELEASE (R519): PERST_N released; the link trains and answers under retry status until READY. -/
def execPerstRelease (s : State) : Result :=
  s.onDev (fun d => d.perstRelease)

/-- CFG_WARM_WRITE (R596): CFG_CTL.WARM with the key requests a warm reset. -/
def execCfgWarmWrite (value : Word) (s : State) : Result :=
  s.onDev (fun d => d.cfgWarm value.toNat)

/-- WARM_RESET (R596): Caches are written back and stages MGMT to READY run again. -/
def execWarmReset (s : State) : Result :=
  s.onDev (fun d => d.warmStart)

/-- COLD_START (R583): The boot stages run from ROM to READY. -/
def execColdStart (s : State) : Result :=
  s.onDev (fun d => d.coldStart)

/-- BOOT_STAGE_COMPLETE (R583): A boot stage that took time ends and the next begins. -/
def execBootStageComplete (hbmMask : Fin 256) (chiplets : Fin 4) (s : State) : Result :=
  s.onDev (fun d => (d.bootStage hbmMask chiplets).znPump)

end Machine
end Sys2Proof
end

