-- ==== Sys2Proof/Machine/ReductionCommands.lean ====
section
/-!
DEFINITION. The meanings of the rows of the reduction sequencer (R362-R404).
-/
namespace Sys2Proof
namespace Machine

/-- FILL_RECORD_WRITE (R368): A write of a fill record reaches HBM; the leaf becomes full and sends, or the write is stale. -/
def execFillRecordWrite (s : State) : Result :=
  s.onDev (fun d => d.fillWrite)

/-- PIECE_ARRIVAL (R376): A reduction piece reaches a pair slot or owner and is summed, forwarded or written. -/
def execPieceArrival (index : Nat) (s : State) : Result :=
  s.onDev (fun d => d.redDeliver index true)

/-- SETTLE_RECORD (R389): A settle record reaches a slot or owner; it is forwarded or clears mask bits. -/
def execSettleRecord (index : Nat) (s : State) : Result :=
  s.onDev (fun d => d.redDeliver index false)

/-- SLOT_SETTLE (R386): A slot's height deadline passes and missing sides are declared. -/
def execSlotSettle (part : PartId) (tag : Fin 65536) (slot : Fin 65536) (downRank : Option (Nat × Bool)) (s : State) : Result :=
  s.onDev (fun d => d.slotSettle part tag slot downRank)

/-- OWNER_FINISH (R395): The owner's final deadline finishes an incomplete bucket. -/
def execOwnerFinish (part : PartId) (tag : Fin 65536) (height : Fin 65) (s : State) : Result :=
  s.onDev (fun d => d.ownerFinish part tag height)

/-- RED_SETTLE (R392): Write of RED_CTL.SETTLE: settles one bucket in a free-running partition. -/
def execRedSettle (part : PartId) (s : State) : Result :=
  s.onDev (fun d => d.redSettleCmd part)

/-- RED_WIN_OPEN (R392): Write of RED_WIN_CMD.OPEN: opens a window in a free-running partition. -/
def execRedWinOpen (part : PartId) (window : Fin 256) (s : State) : Result :=
  s.onDev (fun d => d.redCommand part (fun d => d.windowOpen part window))

/-- RED_WIN_CLOSE (R392): Write of RED_WIN_CMD.CLOSE: closes a window in a free-running partition. -/
def execRedWinClose (part : PartId) (window : Fin 256) (s : State) : Result :=
  s.onDev (fun d => d.redCommand part (fun d => d.windowClose part window))

end Machine
end Sys2Proof
end

