-- ==== Sys2Proof/Machine/ScanCommands.lean ====
section
/-!
DEFINITION. The meanings of the scan network's rows (R184-R206).
-/
namespace Sys2Proof
namespace Machine

/-- VX_SCAN_ADD (R185): Lane-direction sum scan. -/
def execVxScanAdd (core : CoreId) (s : State) : Result :=
  s.onDev (fun d => d.vxScan core 0)

/-- VX_SCAN_MAX (R185): Lane-direction maximum scan. -/
def execVxScanMax (core : CoreId) (s : State) : Result :=
  s.onDev (fun d => d.vxScan core 1)

/-- VX_SCAN_MIN (R185): Lane-direction minimum scan. -/
def execVxScanMin (core : CoreId) (s : State) : Result :=
  s.onDev (fun d => d.vxScan core 2)

/-- VX_SCAN_PROD (R185): Lane-direction product scan. -/
def execVxScanProd (core : CoreId) (s : State) : Result :=
  s.onDev (fun d => d.vxScan core 3)

/-- VX_SCAN_LSE (R187): Lane-direction log-sum-exp scan. -/
def execVxScanLse (core : CoreId) (s : State) : Result :=
  s.onDev (fun d => d.vxScan core 4)

/-- VX_SCAN_AFFINE (R188): Lane-direction affine recurrence that writes h. -/
def execVxScanAffine (core : CoreId) (s : State) : Result :=
  s.onDev (fun d => d.vxScan core 5)

/-- VX_SCAN_AFFINE_PAIR (R188): Lane-direction affine composition that writes (B, A). -/
def execVxScanAffinePair (core : CoreId) (s : State) : Result :=
  s.onDev (fun d => d.vxScan core 6)

/-- VX_BSCAN_ADD (R184): Beat-direction sum scan. -/
def execVxBscanAdd (core : CoreId) (s : State) : Result :=
  s.onDev (fun d => d.vxBscan core 0)

/-- VX_BSCAN_MAX (R184): Beat-direction maximum scan. -/
def execVxBscanMax (core : CoreId) (s : State) : Result :=
  s.onDev (fun d => d.vxBscan core 1)

/-- VX_BSCAN_MIN (R184): Beat-direction minimum scan. -/
def execVxBscanMin (core : CoreId) (s : State) : Result :=
  s.onDev (fun d => d.vxBscan core 2)

/-- VX_BSCAN_PROD (R184): Beat-direction product scan. -/
def execVxBscanProd (core : CoreId) (s : State) : Result :=
  s.onDev (fun d => d.vxBscan core 3)

/-- VX_BSCAN_LSE (R187): Beat-direction log-sum-exp scan. -/
def execVxBscanLse (core : CoreId) (s : State) : Result :=
  s.onDev (fun d => d.vxBscan core 4)

/-- VX_BSCAN_AFFINE (R188): Beat-direction affine recurrence. -/
def execVxBscanAffine (core : CoreId) (s : State) : Result :=
  s.onDev (fun d => d.vxBscan core 5)

/-- VX_BSCAN_AFFINE_PAIR (R188): Beat-direction affine composition. -/
def execVxBscanAffinePair (core : CoreId) (s : State) : Result :=
  s.onDev (fun d => d.vxBscan core 6)

/-- VX_CGET (R191): Copies a carry register into a vector register. -/
def execVxCget (core : CoreId) (s : State) : Result :=
  s.onDev (fun d => d.vxCget core)

/-- VX_CSET (R191): Copies a vector register into a carry register. -/
def execVxCset (core : CoreId) (s : State) : Result :=
  s.onDev (fun d => d.vxCset core)

/-- VX_RSTAT (R198): Builds (n, μ, M2) row-statistics triples over the fixed tree. -/
def execVxRstat (core : CoreId) (s : State) : Result :=
  s.onDev (fun d => d.vxRstat core)

/-- VX_RSTATC (R199): Combines two sets of row-statistics triples. -/
def execVxRstatc (core : CoreId) (s : State) : Result :=
  s.onDev (fun d => d.vxRstatc core)

/-- VX_SMX_MAX (R202): Soft-maximum running maximum and rescale factor. -/
def execVxSmxMax (core : CoreId) (s : State) : Result :=
  s.onDev (fun d => d.vxSmxMax core)

/-- VX_SMX_SUM (R203): Soft-maximum weights and running sum. -/
def execVxSmxSum (core : CoreId) (s : State) : Result :=
  s.onDev (fun d => d.vxSmxSum core)

end Machine
end Sys2Proof
end

