-- ==== Sys2Proof/Machine/ServiceCommands.lean ====
section
/-!
DEFINITION. The meanings of the rows of checkpoint slices, sparing and live service (R15-R20, R471-R492).
-/
namespace Sys2Proof
namespace Machine

/-- SLOT_FAILURE (R20): A physical core slot fails; the logical core is spared, or is left with no slot and its cluster is marked DEGRADED. -/
def execSlotFailure (core : CoreId) (readable : Bool) (s : State) : Result :=
  s.onDev (fun d => d.slotFailure core readable)

/-- CKPT_SLICE_START (R474): A requested slice checks its plan, releases caches, takes its capture point and begins copying. -/
def execCkptSliceStart (part : PartId) (s : State) : Result :=
  s.onDev (fun d => d.ckptStart part)

/-- CKPT_COPY_AHEAD (R475): A write to a held page makes the slice copy it first, then the write applies. -/
def execCkptCopyAhead (page : Nat) (s : State) : Result :=
  s.onDev (fun d => d.copyAhead page (d.heldPages.length + 1))

/-- CKPT_VALIDATE (R478): The slice's last copy completes and the slot is made VALID. -/
def execCkptValidate (part : PartId) (s : State) : Result :=
  s.onDev (fun d => d.ckptValidate part)

/-- CORE_SPARE_MOVE (R485): Once quiescent, a logical core's state moves into slot 8 and the slot map is rewritten. -/
def execCoreSpareMove (core : CoreId) (s : State) : Result :=
  s.onDev (fun d => d.spareMove core)

/-- PAGE_RETIRE (R486): A physical page is copied to a spare and redirected, or its granule is retired. -/
def execPageRetire (address : Nat) (s : State) : Result :=
  s.onDev (fun d => d.pageRetire address)

/-- CIS_SCRUB_END (R487): A chiplet finishes SCRUBBING and returns to service. -/
def execCisScrubEnd (chiplet : Fin 2) (s : State) : Result :=
  s.onDev (fun d => d.cisScrubEnd chiplet)

/-- SHUTDOWN_COMPLETE (R490): A function finishes STOPPING or SCRUBBING and a held enable is carried out. -/
def execShutdownComplete (kind : Fin 3) (index : Fin 16) (s : State) : Result :=
  s.onDev (fun d => d.shutdownRow kind index)

end Machine
end Sys2Proof
end

