-- ==== Sys2Proof/Machine/StrokeCommands.lean ====
section
/-!
DEFINITION. The meanings of the rows of the stroke schedules (R344-R360).
-/
namespace Sys2Proof
namespace Machine

/-- REPLAY_START (R240): Phase action that starts replays on a core set; the start actions set PC and TC and count the replay. -/
def execReplayStart (part : PartId) (entry : Fin 256) (s : State) : Result :=
  s.onDev (fun d => d.replayPhase part entry)

/-- STK_ARM (R349): Makes the shadow schedule active and chooses the first stroke. -/
def execStkArm (part : PartId) (s : State) : Result :=
  s.onDev (fun d => d.stkArm part)

/-- STK_STOP (R349): Stops a schedule, through STOPPING or at once from ARMED. -/
def execStkStop (part : PartId) (s : State) : Result :=
  s.onDev (fun d => d.stkStop part)

/-- STK_COMMIT (R351): Requests that the shadow schedule apply at the next stroke start. -/
def execStkCommit (part : PartId) (s : State) : Result :=
  s.onDev (fun d => d.stkCommit part)

/-- STK_START_WRITE (R352): A write of STK_START or STK_FIRST, refused unless the schedule is FREE. -/
def execStkStartWrite (part : PartId) (word : Fin 4) (value : Word) (s : State) : Result :=
  s.onDev (fun d => d.stkStartWrite part word value)

/-- STROKE_START (R358): At T_start the stroke number advances and the stroke begins, or is skipped. -/
def execStrokeStart (part : PartId) (s : State) : Result :=
  s.onDev (fun d => d.strokeStart part)

/-- GANG_START (R347): Phase action that starts the replays of every core of the partition in one cycle. -/
def execGangStart (part : PartId) (entry : Fin 256) (s : State) : Result :=
  s.onDev (fun d => d.gangStart part entry)

/-- BUCKET_OPEN (R367): Phase action that opens a bucket window, tag by tag. -/
def execBucketOpen (part : PartId) (entry : Fin 256) (s : State) : Result :=
  s.onDev (fun d => d.bucketPhase part entry 3 (fun d w => d.windowOpen part w))

/-- BUCKET_CLOSE (R370): Phase action that closes a window; leaves not yet full send ABSENT pieces. -/
def execBucketClose (part : PartId) (entry : Fin 256) (s : State) : Result :=
  s.onDev (fun d => d.bucketPhase part entry 4 (fun d w => d.windowClose part w))

/-- CHECKPOINT (R347): Phase action that requests a checkpoint slice at the end of the stroke. -/
def execCheckpoint (part : PartId) (entry : Fin 256) (s : State) : Result :=
  s.onDev (fun d => d.ckptPhase part entry)

/-- EVENT (R545): Phase action that raises an event source. -/
def execEvent (part : PartId) (entry : Fin 256) (s : State) : Result :=
  s.onDev (fun d => d.eventPhase part entry)

/-- SLUICE (R353): At T_sluice the partition stops issuing, cancels every queued command and settles its buckets. -/
def execSluice (part : PartId) (s : State) : Result :=
  s.onDev (fun d => d.sluice part)

/-- DRAIN_COMPLETE (R354): The last engine is empty; semaphores clear and DRAINED becomes 1. -/
def execDrainComplete (part : PartId) (s : State) : Result :=
  s.onDev (fun d => d.drainComplete part)

end Machine
end Sys2Proof
end

