-- ==== Sys2Proof/Machine/SyncCommands.lean ====
section
/-!
DEFINITION. The meanings of the rows of gates, retirement and the sync unit (R224-R238).
-/
namespace Sys2Proof
namespace Machine

/-- ENGINE_COMMAND_RETIRE (R228): A command retires once all its effects are complete; its counts are added and its gate signal is applied. -/
def execEngineCommandRetire (core : CoreId) (queue : Fin 6) (s : State) : Result :=
  s.onDev (fun d => d.engineRetire core queue)

/-- GATE_RELEASE (R226): A gated command at its queue head is granted its semaphore wait, consumes a unit and is released to its engine. -/
def execGateRelease (core : CoreId) (sem : Fin 64) (s : State) : Result :=
  s.onDev (fun d => d.gateRelease core sem)

/-- SY_SIG (R236): Sends an increment to a semaphore of a core of the partition. -/
def execSySig (core : CoreId) (s : State) : Result :=
  s.onDev (fun d => d.sySig core)

/-- SEM_INCREMENT_ARRIVAL (R236): A remote increment reaches its target semaphore and is applied, or discarded as stale. -/
def execSemIncrementArrival (index : Nat) (s : State) : Result :=
  s.onDev (fun d => d.incrementArrival index)

/-- SY_WAIT (R233): Waits until a semaphore reaches VALUE, then subtracts VALUE. -/
def execSyWait (core : CoreId) (s : State) : Result :=
  s.onDev (fun d => d.syWait core)

/-- SY_WAIT_GRANT (R230): A waiting sy.wait is granted and retires. -/
def execSyWaitGrant (core : CoreId) (s : State) : Result :=
  s.onDev (fun d => d.syWaitGrant core)

/-- SY_BAR (R237): Arrives at a cluster or partition barrier. -/
def execSyBar (core : CoreId) (s : State) : Result :=
  s.onDev (fun d => d.syArrive core)

/-- BARRIER_RELEASE (R237): When COUNT arrivals have been made, every arrival of the episode completes in one cycle. -/
def execBarrierRelease (barrier : Fin 512) (s : State) : Result :=
  s.onDev (fun d => d.barrierRelease barrier)

/-- SY_TIME (R238): Waits until device time reaches a target. -/
def execSyTime (core : CoreId) (s : State) : Result :=
  s.onDev (fun d => d.syTime core)

/-- SY_TIME_REACHED (R238): Device time reaches a sy.time target and the command completes. -/
def execSyTimeReached (core : CoreId) (s : State) : Result :=
  s.onDev (fun d => d.syTimeReached core)

end Machine
end Sys2Proof
end

