-- ==== Sys2Proof/Machine/TimeCommands.lean ====
section
/-!
DEFINITION. The meanings of the rows of the device time unit (R333-R343, R361).
-/
namespace Sys2Proof
namespace Machine

/-- TIM_STEP (R336): Write of STEP: device time is set to TIM_SET, or the step is refused. -/
def execTimStep (s : State) : Result :=
  s.onDev (fun d => d.timStep)

/-- TIM_SRC_WRITE (R342): Selects the time source and moves the lock state. -/
def execTimSrcWrite (src : Fin 8) (s : State) : Result :=
  s.onDev (fun d => d.timSrcWrite src)

/-- TIM_PTP_CFG_WRITE (R361): PTP configuration that applies at the next Sync interval, with a lock change on DOMAIN or TRANSPORT. -/
def execTimPtpCfgWrite (value : Word) (s : State) : Result :=
  s.onDev (fun d => d.timPtpCfgWrite value.toNat)

/-- TIM_NOW_READ (R361): A read of TIM_NOW_0 latches all three words of device time for the function. -/
def execTimNowRead (fn : FnId) (s : State) : Result :=
  s.onDev (fun d => d.timNowRead fn)

/-- PTP_SYNC (R339): A received Sync is timestamped and disciplines device time. -/
def execPtpSync (port : PortId) (domain : Fin 128) (transport : Fin 3) (sender : Nat) (seq : Fin 65536) (stamp : Nat) (corr : Int) (twoStep : Bool) (s : State) : Result :=
  s.onDev (fun d => d.ptpSync port domain transport sender seq stamp corr twoStep)

/-- PTP_FOLLOW_UP (R339): A received two-step Follow_Up is taken. -/
def execPtpFollowUp (port : PortId) (domain : Fin 128) (transport : Fin 3) (sender : Nat) (seq : Fin 65536) (stamp : Nat) (corr : Int) (s : State) : Result :=
  s.onDev (fun d => d.ptpFollowUp port domain transport sender seq stamp corr)

/-- PTP_ANNOUNCE (R339): A received Announce takes part in master selection. -/
def execPtpAnnounce (port : PortId) (domain : Fin 128) (transport : Fin 3) (sender : Nat) (priority1 : Nat) (clockClass : Nat) (accuracy : Nat) (variance : Nat) (priority2 : Nat) (identity : Nat) (steps : Nat) (s : State) : Result :=
  s.onDev (fun d => d.ptpAnnounce port domain transport { priority1, clockClass, accuracy, variance, priority2, identity, steps, sender })

/-- PTP_DELAY_REQ (R339): The module sends a timestamped Delay_Req. -/
def execPtpDelayReq (s : State) : Result :=
  s.onDev (fun d => d.ptpDelayReq)

/-- PTP_DELAY_RESP (R339): A received Delay_Resp completes the delay measurement. -/
def execPtpDelayResp (port : PortId) (domain : Fin 128) (transport : Fin 3) (sender : Nat) (seq : Fin 65536) (stamp : Nat) (corr : Int) (s : State) : Result :=
  s.onDev (fun d => d.ptpDelayResp port domain transport sender seq stamp corr)

/-- PPS_EDGE (R343): A rising edge of TIME_PPS marks a second and disciplines device time. -/
def execPpsEdge (ref : Bool) (s : State) : Result :=
  s.onDev (fun d => d.ppsEdge ref)

/-- TIME_SOURCE_TIMEOUT (R341): Missing Sync or PPS input moves a LOCKED clock to HOLDOVER. -/
def execTimeSourceTimeout (s : State) : Result :=
  s.onDev (fun d => d.sourceTimeout)

end Machine
end Sys2Proof
end

