-- ==== Sys2Proof/Machine/UpdateCommands.lean ====
section
/-!
DEFINITION. The meanings of the rows of the update sequencer and the cistern engines (R445-R470).
-/
namespace Sys2Proof
namespace Machine

/-- UPD_DOORBELL (R456): An update-queue doorbell write makes descriptors available. -/
def execUpdDoorbell (s : State) : Result :=
  s.onDev (fun d => d.updDoorbell)

/-- UPD_DESC_CISTERN (R463): A CISTERN descriptor is checked and handed to its chiplet's engine. -/
def execUpdDescCistern (part : PartId) (s : State) : Result :=
  s.onDev (fun d => d.updServe part 1)

/-- UPD_DESC_VECTOR (R464): A VECTOR descriptor is checked and its resolved record written to the core. -/
def execUpdDescVector (part : PartId) (s : State) : Result :=
  s.onDev (fun d => d.updServe part 0)

/-- UPD_NORMPASS (R466): A norm-pass descriptor forms SQG and SQW. -/
def execUpdNormpass (part : PartId) (s : State) : Result :=
  s.onDev (fun d => d.updServe part 2)

/-- CISTERN_ENGINE_START (R463): A waiting descriptor starts on its free chiplet engine. -/
def execCisternEngineStart (chiplet : Fin 2) (s : State) : Result :=
  s.onDev (fun d => d.engineStart chiplet)

/-- CISTERN_DESC_COMPLETE (R459): A cistern descriptor finishes, writes its completion record and may advance or tear its group. -/
def execCisternDescComplete (chiplet : Fin 2) (s : State) : Result :=
  s.onDev (fun d => d.engineComplete chiplet)

/-- UPD_ENABLE (R456): EN set: the sequencer takes descriptors, or the enable is held during a drain. -/
def execUpdEnable (part : PartId) (s : State) : Result :=
  s.onDev (fun d => d.updEnable part)

/-- UPD_DISABLE (R456): EN cleared: the sequencer stops taking descriptors and drains. -/
def execUpdDisable (part : PartId) (s : State) : Result :=
  s.onDev (fun d => d.updDisable part)

/-- UPD_DRAIN_END (R456): The last taken descriptor completes and a held enable is carried out. -/
def execUpdDrainEnd (part : PartId) (s : State) : Result :=
  s.onDev (fun d => d.updDrainEnd part)

end Machine
end Sys2Proof
end

