-- ==== Sys2Proof/Machine/VectorCommands.lean ====
section
/-!
DEFINITION. The meanings of the vx. rows of the vector engine (R125-R156).
-/
namespace Sys2Proof
namespace Machine

/-- VX_SETVL (R140): Sets VL from IMM. -/
def execVxSetvl (core : CoreId) (s : State) : Result :=
  s.onDev (fun d => d.vxSetvl core)

/-- VX_LD (R132): Loads memory elements into a vector register. -/
def execVxLd (core : CoreId) (s : State) : Result :=
  s.onDev (fun d => d.vxLd core)

/-- VX_ST (R132): Stores the elements of a vector register to memory. -/
def execVxSt (core : CoreId) (s : State) : Result :=
  s.onDev (fun d => d.vxSt core)

/-- VX_LDCVT (R148): Loads memory elements of any format and converts them to a register format. -/
def execVxLdcvt (core : CoreId) (s : State) : Result :=
  s.onDev (fun d => d.vxLdcvt core)

/-- VX_STCVT (R138): Converts register elements and stores them in any memory format, whole blocks included. -/
def execVxStcvt (core : CoreId) (s : State) : Result :=
  s.onDev (fun d => d.vxStcvt core)

/-- VX_LDM (R140): Loads a mask register from 256 bytes of memory. -/
def execVxLdm (core : CoreId) (s : State) : Result :=
  s.onDev (fun d => d.vxLdm core)

/-- VX_STM (R140): Stores a mask register to 256 bytes of memory. -/
def execVxStm (core : CoreId) (s : State) : Result :=
  s.onDev (fun d => d.vxStm core)

/-- VX_ADD (R142): Floating addition. -/
def execVxAdd (core : CoreId) (s : State) : Result :=
  s.onDev (fun d => d.vxFloat core 0x00 2 (fun x => (nth x 0).add (nth x 1)))

/-- VX_SUB (R142): Floating subtraction. -/
def execVxSub (core : CoreId) (s : State) : Result :=
  s.onDev (fun d => d.vxFloat core 0x01 2 (fun x => (nth x 0).sub (nth x 1)))

/-- VX_MUL (R142): Floating multiplication. -/
def execVxMul (core : CoreId) (s : State) : Result :=
  s.onDev (fun d => d.vxFloat core 0x02 2 (fun x => (nth x 0).mul (nth x 1)))

/-- VX_FMA (R142): Fused VA × VB + VC. -/
def execVxFma (core : CoreId) (s : State) : Result :=
  s.onDev (fun d => d.vxFloat core 0x03 3 (fun x => ((nth x 0).mul (nth x 1)).add (nth x 2)))

/-- VX_FMS (R142): Fused VA × VB − VC. -/
def execVxFms (core : CoreId) (s : State) : Result :=
  s.onDev (fun d => d.vxFloat core 0x04 3 (fun x => ((nth x 0).mul (nth x 1)).sub (nth x 2)))

/-- VX_FNMA (R142): Fused −(VA × VB) + VC. -/
def execVxFnma (core : CoreId) (s : State) : Result :=
  s.onDev (fun d => d.vxFloat core 0x05 3 (fun x => ((nth x 0).mul (nth x 1)).neg.add (nth x 2)))

/-- VX_MIN (R143): Floating minimum. -/
def execVxMin (core : CoreId) (s : State) : Result :=
  s.onDev (fun d => d.vxFloat core 0x06 2 (fun x => (nth x 0).minimum (nth x 1)))

/-- VX_MAX (R143): Floating maximum. -/
def execVxMax (core : CoreId) (s : State) : Result :=
  s.onDev (fun d => d.vxFloat core 0x07 2 (fun x => (nth x 0).maximum (nth x 1)))

/-- VX_ABS (R143): Clears the sign bit. -/
def execVxAbs (core : CoreId) (s : State) : Result :=
  s.onDev (fun d => d.vxSign core 0x08 1 (fun f x => nthBits x 0 % f.signBit))

/-- VX_NEG (R143): Inverts the sign bit. -/
def execVxNeg (core : CoreId) (s : State) : Result :=
  s.onDev (fun d => d.vxSign core 0x09 1 (fun f x => nthBits x 0 ^^^ f.signBit))

/-- VX_COPYSIGN (R143): Magnitude of VA with the sign of VB. -/
def execVxCopysign (core : CoreId) (s : State) : Result :=
  s.onDev (fun d => d.vxSign core 0x0A 2 (fun f x => nthBits x 0 % f.signBit + nthBits x 1 / f.signBit * f.signBit))

/-- VX_IADD (R144): Wrapping integer addition. -/
def execVxIadd (core : CoreId) (s : State) : Result :=
  s.onDev (fun d => d.vxInt core 0x00 2 (fun w x => wrapped w (sext w (nthBits x 0) + sext w (nthBits x 1))))

/-- VX_ISUB (R144): Wrapping integer subtraction. -/
def execVxIsub (core : CoreId) (s : State) : Result :=
  s.onDev (fun d => d.vxInt core 0x01 2 (fun w x => wrapped w (sext w (nthBits x 0) - sext w (nthBits x 1))))

/-- VX_IMUL (R144): Low half of an integer product. -/
def execVxImul (core : CoreId) (s : State) : Result :=
  s.onDev (fun d => d.vxInt core 0x02 2 (fun w x => wrapped w (sext w (nthBits x 0) * sext w (nthBits x 1))))

/-- VX_IADDS (R144): Saturating integer addition. -/
def execVxIadds (core : CoreId) (s : State) : Result :=
  s.onDev (fun d => d.vxInt core 0x03 2 (fun w x => saturated w (sext w (nthBits x 0) + sext w (nthBits x 1))))

/-- VX_ISUBS (R144): Saturating integer subtraction. -/
def execVxIsubs (core : CoreId) (s : State) : Result :=
  s.onDev (fun d => d.vxInt core 0x04 2 (fun w x => saturated w (sext w (nthBits x 0) - sext w (nthBits x 1))))

/-- VX_IMIN (R144): Signed integer minimum. -/
def execVxImin (core : CoreId) (s : State) : Result :=
  s.onDev (fun d => d.vxInt core 0x05 2 (fun w x => wrapped w (min (sext w (nthBits x 0)) (sext w (nthBits x 1)))))

/-- VX_IMAX (R144): Signed integer maximum. -/
def execVxImax (core : CoreId) (s : State) : Result :=
  s.onDev (fun d => d.vxInt core 0x06 2 (fun w x => wrapped w (max (sext w (nthBits x 0)) (sext w (nthBits x 1)))))

/-- VX_IABS (R144): Saturating integer absolute value. -/
def execVxIabs (core : CoreId) (s : State) : Result :=
  s.onDev (fun d => d.vxInt core 0x07 1 (fun w x => saturated w ((sext w (nthBits x 0)).natAbs : Nat)))

/-- VX_AND (R140): Bitwise and. -/
def execVxAnd (core : CoreId) (s : State) : Result :=
  s.onDev (fun d => d.vxInt core 0x08 2 (fun w x => (nthBits x 0 &&& nthBits x 1, {})))

/-- VX_OR (R140): Bitwise or. -/
def execVxOr (core : CoreId) (s : State) : Result :=
  s.onDev (fun d => d.vxInt core 0x09 2 (fun w x => (nthBits x 0 ||| nthBits x 1, {})))

/-- VX_XOR (R140): Bitwise exclusive or. -/
def execVxXor (core : CoreId) (s : State) : Result :=
  s.onDev (fun d => d.vxInt core 0x0A 2 (fun w x => (nthBits x 0 ^^^ nthBits x 1, {})))

/-- VX_SHL (R144): Left shift by VB modulo the element width. -/
def execVxShl (core : CoreId) (s : State) : Result :=
  s.onDev (fun d => d.vxInt core 0x0B 2 (fun w x => (nthBits x 0 * 2 ^ (nthBits x 1 % w) % 2 ^ w, {})))

/-- VX_SHRA (R144): Arithmetic right shift. -/
def execVxShra (core : CoreId) (s : State) : Result :=
  s.onDev (fun d => d.vxInt core 0x0C 2 (fun w x => wrapped w (sext w (nthBits x 0) / 2 ^ (nthBits x 1 % w))))

/-- VX_SHRL (R144): Logical right shift. -/
def execVxShrl (core : CoreId) (s : State) : Result :=
  s.onDev (fun d => d.vxInt core 0x0D 2 (fun w x => (nthBits x 0 / 2 ^ (nthBits x 1 % w), {})))

/-- VX_IOTA (R140): Writes each element's index, wrapping at the element width. -/
def execVxIota (core : CoreId) (s : State) : Result :=
  s.onDev (fun d => d.vxIota core)

/-- VX_CMP_EQ (R145): Equality comparison into a mask register. -/
def execVxCmpEq (core : CoreId) (s : State) : Result :=
  s.onDev (fun d => d.vxCmp core 0x00 (fun x y => x.eq y))

/-- VX_CMP_NE (R145): Inequality comparison into a mask register. -/
def execVxCmpNe (core : CoreId) (s : State) : Result :=
  s.onDev (fun d => d.vxCmp core 0x01 (fun x y => !x.eq y))

/-- VX_CMP_LT (R145): Less-than comparison into a mask register. -/
def execVxCmpLt (core : CoreId) (s : State) : Result :=
  s.onDev (fun d => d.vxCmp core 0x02 (fun x y => x.lt y))

/-- VX_CMP_LE (R145): Less-or-equal comparison into a mask register. -/
def execVxCmpLe (core : CoreId) (s : State) : Result :=
  s.onDev (fun d => d.vxCmp core 0x03 (fun x y => x.lt y || x.eq y))

/-- VX_CMP_GT (R145): Greater-than comparison into a mask register. -/
def execVxCmpGt (core : CoreId) (s : State) : Result :=
  s.onDev (fun d => d.vxCmp core 0x04 (fun x y => y.lt x))

/-- VX_CMP_GE (R145): Greater-or-equal comparison into a mask register. -/
def execVxCmpGe (core : CoreId) (s : State) : Result :=
  s.onDev (fun d => d.vxCmp core 0x05 (fun x y => y.lt x || x.eq y))

/-- VX_CMP_UNO (R145): Unordered comparison into a mask register. -/
def execVxCmpUno (core : CoreId) (s : State) : Result :=
  s.onDev (fun d => d.vxCmp core 0x06 (fun x y => x.isNan || y.isNan))

/-- VX_SEL (R140): Selects VA or VB per element under mask MSEL. -/
def execVxSel (core : CoreId) (s : State) : Result :=
  s.onDev (fun d => d.vxSel core)

/-- VX_CVT (R146): Converts between register formats with the lane mapping of R146. -/
def execVxCvt (core : CoreId) (s : State) : Result :=
  s.onDev (fun d => d.vxCvt core)

/-- VX_RSUM (R147): Sum reduction over the fixed tree. -/
def execVxRsum (core : CoreId) (s : State) : Result :=
  s.onDev (fun d => d.vxReduce core 0x00)

/-- VX_RMAX (R147): Maximum reduction over the fixed tree. -/
def execVxRmax (core : CoreId) (s : State) : Result :=
  s.onDev (fun d => d.vxReduce core 0x01)

/-- VX_RMIN (R147): Minimum reduction over the fixed tree. -/
def execVxRmin (core : CoreId) (s : State) : Result :=
  s.onDev (fun d => d.vxReduce core 0x02)

/-- VX_MAND (R141): Mask and. -/
def execVxMand (core : CoreId) (s : State) : Result :=
  s.onDev (fun d => d.vxMaskOp core 0x00 2 (fun a b => a &&& b))

/-- VX_MOR (R141): Mask or. -/
def execVxMor (core : CoreId) (s : State) : Result :=
  s.onDev (fun d => d.vxMaskOp core 0x01 2 (fun a b => a ||| b))

/-- VX_MXOR (R141): Mask exclusive or. -/
def execVxMxor (core : CoreId) (s : State) : Result :=
  s.onDev (fun d => d.vxMaskOp core 0x02 2 (fun a b => a ^^^ b))

/-- VX_MANDN (R141): Mask and-not. -/
def execVxMandn (core : CoreId) (s : State) : Result :=
  s.onDev (fun d => d.vxMaskOp core 0x03 2 (fun a b => a &&& ~~~b))

/-- VX_MNOT (R141): Mask not. -/
def execVxMnot (core : CoreId) (s : State) : Result :=
  s.onDev (fun d => d.vxMaskOp core 0x04 1 (fun a _ => ~~~a))

/-- VX_MSET (R141): Sets mask bits below E. -/
def execVxMset (core : CoreId) (s : State) : Result :=
  s.onDev (fun d => d.vxMaskOp core 0x05 0 (fun _ _ => BitVec.allOnes 2048))

/-- VX_MCLR (R141): Clears a mask. -/
def execVxMclr (core : CoreId) (s : State) : Result :=
  s.onDev (fun d => d.vxMaskOp core 0x06 0 (fun _ _ => 0#2048))

/-- VX_MCNT (R140): Counts the set mask bits below E. -/
def execVxMcnt (core : CoreId) (s : State) : Result :=
  s.onDev (fun d => d.vxMaskQuery core 0x00 (fun m e => popCount m e))

/-- VX_MFIRST (R140): Index of the first set mask bit, or E when none is set. -/
def execVxMfirst (core : CoreId) (s : State) : Result :=
  s.onDev (fun d => d.vxMaskQuery core 0x01 (fun m e => (firstFrom (fun i => m.testBit i) 0 e).getD e))

/-- VX_MOV (R146): Copies register bits unchanged. -/
def execVxMov (core : CoreId) (s : State) : Result :=
  s.onDev (fun d => d.vxMov core)

end Machine
end Sys2Proof
end

