-- ==== Sys2Proof/Machine/ZennusCommands.lean ====
section
/-!
DEFINITION. The meanings of the rows of the Zennus interface (R493-R525): doorbells, packets, long operations, the admin ring. The row of an opcode carries out the command that the arbiter starts next, where it is one of that opcode.
-/
namespace Sys2Proof
namespace Machine

/-- SQ_TAIL_WRITE (R501): A submission doorbell write makes packets available. -/
def execSqTailWrite (fn : FnId) (ring : Fin 32768) (value : Word) (entries : List Byte) (s : State) : Result :=
  s.onDev (fun d => (d.sqTail fn ring value.toNat entries).znPump)

/-- CQ_HEAD_WRITE (R503): A completion doorbell write frees completion entries. -/
def execCqHeadWrite (fn : FnId) (ring : Fin 32768) (value : Word) (s : State) : Result :=
  s.onDev (fun d => (d.cqHeadWrite fn ring value.toNat).znPump)

/-- ZN_NOP (R510): No operation. -/
def execZnNop (s : State) : Result :=
  s.onDev (fun d => d.znOp 0x0001 (fun d id _ => d.complete id St.OK 0))

/-- ZN_IDENTIFY (R511): Writes the identify page. -/
def execZnIdentify (s : State) : Result :=
  s.onDev (fun d => d.znOp 0x0002 Device.doIdentify)

/-- ZN_RING_CREATE (R504): Allocates a ring pair. -/
def execZnRingCreate (s : State) : Result :=
  s.onDev (fun d => d.znOp 0x0003 Device.doRingCreate)

/-- ZN_RING_DELETE (R504): Removes a ring pair. -/
def execZnRingDelete (s : State) : Result :=
  s.onDev (fun d => d.znOp 0x0004 Device.doRingDelete)

/-- ZN_VF_CONFIG (R493): Binds a VF to a partition and sets its ring quota. -/
def execZnVfConfig (s : State) : Result :=
  s.onDev (fun d => d.znOp 0x0005 Device.doVfConfig)

/-- ZN_PREPARE_REMOVE (R520): Takes the module out of service for removal. -/
def execZnPrepareRemove (s : State) : Result :=
  s.onDev (fun d => d.znOp 0x0006 Device.doPrepareRemove)

/-- ZN_OP_QUERY (R514): Reports the state of a long operation. -/
def execZnOpQuery (s : State) : Result :=
  s.onDev (fun d => d.znOp 0x0100 Device.opQuery)

/-- ZN_OP_SUSPEND (R516): Suspends a long operation. -/
def execZnOpSuspend (s : State) : Result :=
  s.onDev (fun d => d.znOp 0x0101 Device.opControl)

/-- ZN_OP_RESUME (R516): Resumes a long operation. -/
def execZnOpResume (s : State) : Result :=
  s.onDev (fun d => d.znOp 0x0102 Device.opControl)

/-- ZN_OP_CANCEL (R516): Cancels a command or long operation. -/
def execZnOpCancel (s : State) : Result :=
  s.onDev (fun d => d.znOp 0x0103 Device.opControl)

/-- LONG_OP_SAFE_POINT (R514): A suspending operation reaches a safe point and becomes SUSPENDED. -/
def execLongOpSafePoint (op : Nat) (s : State) : Result :=
  s.onDev (fun d => (d.safePoint op).znPump)

/-- LONG_OP_DONE (R514): A long operation finishes and its completion entry is written. -/
def execLongOpDone (op : Nat) (s : State) : Result :=
  s.onDev (fun d => (d.longOpDone op).znPump)

/-- ZN_PART_CONFIG (R571): Assigns clusters to a partition. -/
def execZnPartConfig (s : State) : Result :=
  s.onDev (fun d => d.znOp 0x0200 Device.doPartConfig)

/-- ZN_PART_ENABLE (R490): Enables a partition, or holds the enable. -/
def execZnPartEnable (s : State) : Result :=
  s.onDev (fun d => d.znOp 0x0201 Device.doPartEnable)

/-- ZN_PART_DISABLE (R489): Shuts a partition down through STOPPING and SCRUBBING. -/
def execZnPartDisable (s : State) : Result :=
  s.onDev (fun d => d.znOp 0x0202 Device.doPartDisable)

/-- ZN_GRANULE_ASSIGN (R262): Assigns 2 MiB granules to a partition. -/
def execZnGranuleAssign (s : State) : Result :=
  s.onDev (fun d => d.znOp 0x0203 Device.doGranuleAssign)

/-- ZN_GRANULE_RELEASE (R510): Zeroes granules and returns them to the pool. -/
def execZnGranuleRelease (s : State) : Result :=
  s.onDev (fun d => d.znOp 0x0204 Device.doGranuleRelease)

/-- ZN_PT_WRITE (R510): Writes page-table entries. -/
def execZnPtWrite (s : State) : Result :=
  s.onDev (fun d => d.znOp 0x0205 Device.doPtWrite)

/-- ZN_PT_ROOT (R510): Sets or clears a partition's page-table root. -/
def execZnPtRoot (s : State) : Result :=
  s.onDev (fun d => d.znOp 0x0206 Device.doPtRoot)

/-- ZN_XLATE_INVAL (R264): Invalidates translation caches over a range. -/
def execZnXlateInval (s : State) : Result :=
  s.onDev (fun d => d.znOp 0x0207 Device.doXlateInval)

/-- ZN_SCRUB (R510): Scrubs a partition's granules. -/
def execZnScrub (s : State) : Result :=
  s.onDev (fun d => d.znOp 0x0208 Device.doScrub)

/-- ZN_IMEM_LOAD (R244): Writes 32 bytes of instruction memory, at once or held. -/
def execZnImemLoad (s : State) : Result :=
  s.onDev (fun d => d.znOp 0x0300 Device.doImemLoad)

/-- ZN_CORE_RESET (R247): Resets a set of logical cores. -/
def execZnCoreReset (s : State) : Result :=
  s.onDev (fun d => d.znOp 0x0301 Device.doCoreReset)

/-- ZN_TABLE_LOAD (R510): Appends a cp.table to a core's CPQ1. -/
def execZnTableLoad (s : State) : Result :=
  s.onDev (fun d => d.tableLoadRow)

/-- ZN_TABLE_BUILD (R510): Builds a user table image from samples. -/
def execZnTableBuild (s : State) : Result :=
  s.onDev (fun d => d.znOp 0x0303 Device.doTableBuild)

/-- ZN_CORE_SPARE (R484): Moves a logical core to the spare slot. -/
def execZnCoreSpare (s : State) : Result :=
  s.onDev (fun d => d.znOp 0x0304 Device.doCoreSpare)

/-- ZN_FLOW_OPEN (R418): Allocates and opens a flow context. -/
def execZnFlowOpen (s : State) : Result :=
  s.onDev (fun d => d.znOp 0x0500 Device.doFlowOpen)

/-- ZN_FLOW_CLOSE (R420): Closes a flow. -/
def execZnFlowClose (s : State) : Result :=
  s.onDev (fun d => d.znOp 0x0501 Device.doFlowClose)

/-- ZN_FLOW_QUERY (R510): Reports a flow's state. -/
def execZnFlowQuery (s : State) : Result :=
  s.onDev (fun d => d.znOp 0x0502 Device.doFlowQuery)

/-- ZN_KEY_INSTALL (R439): Installs a key in a flow's key slot. -/
def execZnKeyInstall (s : State) : Result :=
  s.onDev (fun d => d.znOp 0x0503 Device.doKeyInstall)

/-- ZN_KEY_SWITCH (R440): Switches the key slot used for transmission. -/
def execZnKeySwitch (s : State) : Result :=
  s.onDev (fun d => d.znOp 0x0504 Device.doKeySwitch)

/-- ZN_KEY_CLEAR (R510): Clears a key slot. -/
def execZnKeyClear (s : State) : Result :=
  s.onDev (fun d => d.znOp 0x0505 Device.doKeyClear)

/-- ZN_PORT_ADMIT (R442): Removes or readmits a port. -/
def execZnPortAdmit (s : State) : Result :=
  s.onDev (fun d => d.znOp 0x0506 Device.doPortAdmit)

/-- ZN_PORT_RECAL (R443): Recalibrates a port. -/
def execZnPortRecal (s : State) : Result :=
  s.onDev (fun d => d.znOp 0x0507 Device.doPortRecal)

/-- ZN_RXRING_SET (R513): Defines or removes a receive ring. -/
def execZnRxringSet (s : State) : Result :=
  s.onDev (fun d => d.znOp 0x0508 Device.doRxRingSet)

/-- ZN_AQ_ENABLE (R422): Sets a partition's transport enable. -/
def execZnAqEnable (s : State) : Result :=
  s.onDev (fun d => d.znOp 0x0509 Device.doAqEnable)

/-- ZN_GROUP_SET (R453): Sets a group's STEP or clears TORN. -/
def execZnGroupSet (s : State) : Result :=
  s.onDev (fun d => d.znOp 0x0600 Device.doGroupSet)

/-- ZN_UPD_ENABLE (R456): Sets the update enable. -/
def execZnUpdEnable (s : State) : Result :=
  s.onDev (fun d => d.znOp 0x0601 Device.doUpdEnable)

/-- ZN_CKPT (R473): Requests a checkpoint slice. -/
def execZnCkpt (s : State) : Result :=
  s.onDev (fun d => d.znOp 0x0602 Device.doCkpt)

/-- ZN_RESTORE (R481): Restores a plan's pages from the newest valid copy. -/
def execZnRestore (s : State) : Result :=
  s.onDev (fun d => d.znOp 0x0603 Device.doRestore)

/-- ZN_DIE_ENABLE (R490): Enables a compute die. -/
def execZnDieEnable (s : State) : Result :=
  s.onDev (fun d => d.znOp 0x0700 Device.doDieEnable)

/-- ZN_DIE_DISABLE (R489): Shuts a compute die down. -/
def execZnDieDisable (s : State) : Result :=
  s.onDev (fun d => d.znOp 0x0701 Device.doDieDisable)

/-- ZN_CIS_ENABLE (R487): Brings a cistern chiplet back into service through SCRUBBING. -/
def execZnCisEnable (s : State) : Result :=
  s.onDev (fun d => d.znOp 0x0702 Device.doCisEnable)

/-- ZN_CIS_DISABLE (R487): Takes a cistern chiplet out of service. -/
def execZnCisDisable (s : State) : Result :=
  s.onDev (fun d => d.znOp 0x0703 Device.doCisDisable)

/-- ZN_FW_STAGE (R581): Writes and verifies an image in the inactive slot. -/
def execZnFwStage (image : List Byte) (s : State) : Result :=
  s.onDev (fun d => d.znOp 0x0704 (fun d id c => d.doFwStage image id c))

/-- ZN_FW_ACTIVATE (R582): Makes the verified inactive slot active on trial. -/
def execZnFwActivate (s : State) : Result :=
  s.onDev (fun d => d.fwActivateRow)

/-- ZN_FW_ROLLBACK (R561): Activates a lower version after presence. -/
def execZnFwRollback (s : State) : Result :=
  s.onDev (fun d => d.znOp 0x0706 Device.doFwRollback)

/-- FW_FIRST_START_RESULT (R582): A trial image reports ready within 2 s, or fails and falls back. -/
def execFwFirstStartResult (subsystem : Fin 7) (ok : Bool) (s : State) : Result :=
  s.onDev (fun d => (d.firstStart subsystem ok).znPump)

/-- ZN_PAGE_RETIRE (R486): Retires a physical page. -/
def execZnPageRetire (s : State) : Result :=
  s.onDev (fun d => d.znOp 0x0707 Device.doPageRetire)

/-- ZN_CALIBRATE (R510): Calibrates SerDes, HBM PHYs or die-to-die links. -/
def execZnCalibrate (s : State) : Result :=
  s.onDev (fun d => d.znOp 0x0708 Device.doCalibrate)

/-- LIFECYCLE_SECURED (R551): ZN_LIFECYCLE into SECURED. -/
def execLifecycleSecured (s : State) : Result :=
  s.onDev (fun d => d.znRow (fun c => c.opcode == 0x0800 && c.arg 16 1 == 1) Device.doLifecycle)

/-- LIFECYCLE_SERVICE (R551): ZN_LIFECYCLE into SERVICE, with presence, zeroisation and scrub. -/
def execLifecycleService (s : State) : Result :=
  s.onDev (fun d => d.znRow (fun c => c.opcode == 0x0800 && c.arg 16 1 == 2) Device.doLifecycle)

/-- LIFECYCLE_RETIRED (R552): ZN_LIFECYCLE into RETIRED, with the retirement actions. -/
def execLifecycleRetired (s : State) : Result :=
  s.onDev (fun d => d.znRow (fun c => c.opcode == 0x0800 && c.arg 16 1 == 3) Device.doLifecycle)

/-- ZN_DEBUG_OPEN (R563): Opens or changes a debug session. -/
def execZnDebugOpen (s : State) : Result :=
  s.onDev (fun d => d.znOp 0x0801 Device.doDebugOpen)

/-- ZN_DEBUG_CLOSE (R563): Closes the debug session. -/
def execZnDebugClose (s : State) : Result :=
  s.onDev (fun d => d.znOp 0x0802 Device.doDebugClose)

/-- ZN_ZEROISE (R553): Zeroises tenant keys after presence. -/
def execZnZeroise (s : State) : Result :=
  s.onDev (fun d => d.znOp 0x0803 Device.doZeroise)

/-- ZN_CFG_FACTORY (R595): Removes owner keys after presence. -/
def execZnCfgFactory (s : State) : Result :=
  s.onDev (fun d => d.znOp 0x0804 Device.doCfgFactory)

/-- ZN_POWER_LIMIT (R569): Sets the input power limit. -/
def execZnPowerLimit (s : State) : Result :=
  s.onDev (fun d => d.znOp 0x0805 Device.doPowerLimit)

/-- ZN_POWER_STATE (R567): Sets the P-state ceiling. -/
def execZnPowerState (s : State) : Result :=
  s.onDev (fun d => d.znRow (fun c => c.opcode == 0x0806 && !(c.arg 16 1 == 4 || c.arg 16 1 == 5 || c.arg 16 1 == 6)) Device.doPowerState)

/-- IDLE_ENTRY (R568): ZN_POWER_STATE 4: the cores are clock-gated. -/
def execIdleEntry (s : State) : Result :=
  s.onDev (fun d => d.znRow (fun c => c.opcode == 0x0806 && c.arg 16 1 == 4) Device.doIdle)

/-- STANDBY_ENTRY (R568): ZN_POWER_STATE 5: caches released, dies off, DRAM in self-refresh. -/
def execStandbyEntry (s : State) : Result :=
  s.onDev (fun d => d.znRow (fun c => c.opcode == 0x0806 && c.arg 16 1 == 5) Device.doStandby)

/-- ACTIVE_RETURN (R568): ZN_POWER_STATE 6: returns to Active. -/
def execActiveReturn (s : State) : Result :=
  s.onDev (fun d => d.znRow (fun c => c.opcode == 0x0806 && c.arg 16 1 == 6) Device.doActive)

/-- ZN_CFG_READ (R594): Returns a configuration record. -/
def execZnCfgRead (s : State) : Result :=
  s.onDev (fun d => d.znOp 0x0807 Device.doCfgRead)

/-- ZN_CFG_WRITE (R594): Writes or removes an owner configuration record. -/
def execZnCfgWrite (s : State) : Result :=
  s.onDev (fun d => d.znOp 0x0808 Device.doCfgWrite)

/-- CFG_STORE_WRITE_DONE (R590): A bank write and read-back finish and the new copy is in force, or the bank fails. -/
def execCfgStoreWriteDone (ok : Bool) (s : State) : Result :=
  s.onDev (fun d => (d.storeWriteDone ok).znPump)

/-- ZN_CTL_ENABLE (R525): EN from 0 to 1 reads the admin ring registers and makes the admin ring live. -/
def execZnCtlEnable (fn : FnId) (s : State) : Result :=
  s.onDev (fun d => d.ctlEnable fn)

/-- ZN_CTL_DISABLE (R525): Clearing EN cancels outstanding admin commands. -/
def execZnCtlDisable (fn : FnId) (s : State) : Result :=
  s.onDev (fun d => d.ctlDisable fn)

/-- SURPRISE_REMOVAL (R521): The link leaves L0 or REFCLK disappears while not prepared; every partition is stopped. -/
def execSurpriseRemoval (s : State) : Result :=
  s.onDev (fun d => d.surpriseRemoval)

/-- FUNCTION_LEVEL_RESET (R522): An FLR of a VF or the PF cancels its commands and resets its partition. -/
def execFunctionLevelReset (fn : FnId) (s : State) : Result :=
  s.onDev (fun d => d.flr fn)

end Machine
end Sys2Proof
end

