-- ==== Sys2Proof/Machine/Dispatch.lean ====
section
/-!
DEFINITION. Which meaning each command has: one arm for each constructor.
-/
namespace Sys2Proof
namespace Machine

/-- The effect of a command on everything but the queue. -/
def exec (i : Instr) (s : State) : Host.Outcome State Fault Refusal :=
  match i with
  | .registerWrite fn offset value => Sys2Proof.Machine.execRegisterWrite fn offset value s
  | .slotFailure core readable => Sys2Proof.Machine.execSlotFailure core readable s
  | .linkCheckFail link => Sys2Proof.Machine.execLinkCheckFail link s
  | .mxMm core => Sys2Proof.Machine.execMxMm core s
  | .mxEarlyStart core => Sys2Proof.Machine.execMxEarlyStart core s
  | .mxGangRelease => Sys2Proof.Machine.execMxGangRelease s
  | .mxWsum core => Sys2Proof.Machine.execMxWsum core s
  | .mxWfin core => Sys2Proof.Machine.execMxWfin core s
  | .spMv core => Sys2Proof.Machine.execSpMv core s
  | .spGangRelease => Sys2Proof.Machine.execSpGangRelease s
  | .siphonTakeCommand core => Sys2Proof.Machine.execSiphonTakeCommand core s
  | .siphonEarlyStart core => Sys2Proof.Machine.execSiphonEarlyStart core s
  | .engineCommandRetire core queue => Sys2Proof.Machine.execEngineCommandRetire core queue s
  | .gateRelease core sem => Sys2Proof.Machine.execGateRelease core sem s
  | .vxSetvl core => Sys2Proof.Machine.execVxSetvl core s
  | .vxLd core => Sys2Proof.Machine.execVxLd core s
  | .vxSt core => Sys2Proof.Machine.execVxSt core s
  | .vxLdcvt core => Sys2Proof.Machine.execVxLdcvt core s
  | .vxStcvt core => Sys2Proof.Machine.execVxStcvt core s
  | .vxLdm core => Sys2Proof.Machine.execVxLdm core s
  | .vxStm core => Sys2Proof.Machine.execVxStm core s
  | .vxAdd core => Sys2Proof.Machine.execVxAdd core s
  | .vxSub core => Sys2Proof.Machine.execVxSub core s
  | .vxMul core => Sys2Proof.Machine.execVxMul core s
  | .vxFma core => Sys2Proof.Machine.execVxFma core s
  | .vxFms core => Sys2Proof.Machine.execVxFms core s
  | .vxFnma core => Sys2Proof.Machine.execVxFnma core s
  | .vxMin core => Sys2Proof.Machine.execVxMin core s
  | .vxMax core => Sys2Proof.Machine.execVxMax core s
  | .vxAbs core => Sys2Proof.Machine.execVxAbs core s
  | .vxNeg core => Sys2Proof.Machine.execVxNeg core s
  | .vxCopysign core => Sys2Proof.Machine.execVxCopysign core s
  | .vxIadd core => Sys2Proof.Machine.execVxIadd core s
  | .vxIsub core => Sys2Proof.Machine.execVxIsub core s
  | .vxImul core => Sys2Proof.Machine.execVxImul core s
  | .vxIadds core => Sys2Proof.Machine.execVxIadds core s
  | .vxIsubs core => Sys2Proof.Machine.execVxIsubs core s
  | .vxImin core => Sys2Proof.Machine.execVxImin core s
  | .vxImax core => Sys2Proof.Machine.execVxImax core s
  | .vxIabs core => Sys2Proof.Machine.execVxIabs core s
  | .vxAnd core => Sys2Proof.Machine.execVxAnd core s
  | .vxOr core => Sys2Proof.Machine.execVxOr core s
  | .vxXor core => Sys2Proof.Machine.execVxXor core s
  | .vxShl core => Sys2Proof.Machine.execVxShl core s
  | .vxShra core => Sys2Proof.Machine.execVxShra core s
  | .vxShrl core => Sys2Proof.Machine.execVxShrl core s
  | .vxIota core => Sys2Proof.Machine.execVxIota core s
  | .vxCmpEq core => Sys2Proof.Machine.execVxCmpEq core s
  | .vxCmpNe core => Sys2Proof.Machine.execVxCmpNe core s
  | .vxCmpLt core => Sys2Proof.Machine.execVxCmpLt core s
  | .vxCmpLe core => Sys2Proof.Machine.execVxCmpLe core s
  | .vxCmpGt core => Sys2Proof.Machine.execVxCmpGt core s
  | .vxCmpGe core => Sys2Proof.Machine.execVxCmpGe core s
  | .vxCmpUno core => Sys2Proof.Machine.execVxCmpUno core s
  | .vxSel core => Sys2Proof.Machine.execVxSel core s
  | .vxCvt core => Sys2Proof.Machine.execVxCvt core s
  | .vxRsum core => Sys2Proof.Machine.execVxRsum core s
  | .vxRmax core => Sys2Proof.Machine.execVxRmax core s
  | .vxRmin core => Sys2Proof.Machine.execVxRmin core s
  | .vxMand core => Sys2Proof.Machine.execVxMand core s
  | .vxMor core => Sys2Proof.Machine.execVxMor core s
  | .vxMxor core => Sys2Proof.Machine.execVxMxor core s
  | .vxMandn core => Sys2Proof.Machine.execVxMandn core s
  | .vxMnot core => Sys2Proof.Machine.execVxMnot core s
  | .vxMset core => Sys2Proof.Machine.execVxMset core s
  | .vxMclr core => Sys2Proof.Machine.execVxMclr core s
  | .vxMcnt core => Sys2Proof.Machine.execVxMcnt core s
  | .vxMfirst core => Sys2Proof.Machine.execVxMfirst core s
  | .vxMov core => Sys2Proof.Machine.execVxMov core s
  | .sfExp core => Sys2Proof.Machine.execSfExp core s
  | .sfExp2 core => Sys2Proof.Machine.execSfExp2 core s
  | .sfLog core => Sys2Proof.Machine.execSfLog core s
  | .sfLog2 core => Sys2Proof.Machine.execSfLog2 core s
  | .sfRecip core => Sys2Proof.Machine.execSfRecip core s
  | .sfSqrt core => Sys2Proof.Machine.execSfSqrt core s
  | .sfRsqrt core => Sys2Proof.Machine.execSfRsqrt core s
  | .sfTanh core => Sys2Proof.Machine.execSfTanh core s
  | .sfSigmoid core => Sys2Proof.Machine.execSfSigmoid core s
  | .sfErf core => Sys2Proof.Machine.execSfErf core s
  | .sfGelu core => Sys2Proof.Machine.execSfGelu core s
  | .sfGeluTanh core => Sys2Proof.Machine.execSfGeluTanh core s
  | .sfSilu core => Sys2Proof.Machine.execSfSilu core s
  | .sfSoftplus core => Sys2Proof.Machine.execSfSoftplus core s
  | .sfSin core => Sys2Proof.Machine.execSfSin core s
  | .sfCos core => Sys2Proof.Machine.execSfCos core s
  | .sfTab core => Sys2Proof.Machine.execSfTab core s
  | .vxScanAdd core => Sys2Proof.Machine.execVxScanAdd core s
  | .vxScanMax core => Sys2Proof.Machine.execVxScanMax core s
  | .vxScanMin core => Sys2Proof.Machine.execVxScanMin core s
  | .vxScanProd core => Sys2Proof.Machine.execVxScanProd core s
  | .vxScanLse core => Sys2Proof.Machine.execVxScanLse core s
  | .vxScanAffine core => Sys2Proof.Machine.execVxScanAffine core s
  | .vxScanAffinePair core => Sys2Proof.Machine.execVxScanAffinePair core s
  | .vxBscanAdd core => Sys2Proof.Machine.execVxBscanAdd core s
  | .vxBscanMax core => Sys2Proof.Machine.execVxBscanMax core s
  | .vxBscanMin core => Sys2Proof.Machine.execVxBscanMin core s
  | .vxBscanProd core => Sys2Proof.Machine.execVxBscanProd core s
  | .vxBscanLse core => Sys2Proof.Machine.execVxBscanLse core s
  | .vxBscanAffine core => Sys2Proof.Machine.execVxBscanAffine core s
  | .vxBscanAffinePair core => Sys2Proof.Machine.execVxBscanAffinePair core s
  | .vxCget core => Sys2Proof.Machine.execVxCget core s
  | .vxCset core => Sys2Proof.Machine.execVxCset core s
  | .vxRstat core => Sys2Proof.Machine.execVxRstat core s
  | .vxRstatc core => Sys2Proof.Machine.execVxRstatc core s
  | .vxSmxMax core => Sys2Proof.Machine.execVxSmxMax core s
  | .vxSmxSum core => Sys2Proof.Machine.execVxSmxSum core s
  | .add core => Sys2Proof.Machine.execAdd core s
  | .sub core => Sys2Proof.Machine.execSub core s
  | .mul core => Sys2Proof.Machine.execMul core s
  | .mla core => Sys2Proof.Machine.execMla core s
  | .and core => Sys2Proof.Machine.execAnd core s
  | .or core => Sys2Proof.Machine.execOr core s
  | .xor core => Sys2Proof.Machine.execXor core s
  | .shl core => Sys2Proof.Machine.execShl core s
  | .shr core => Sys2Proof.Machine.execShr core s
  | .sra core => Sys2Proof.Machine.execSra core s
  | .min core => Sys2Proof.Machine.execMin core s
  | .max core => Sys2Proof.Machine.execMax core s
  | .minu core => Sys2Proof.Machine.execMinu core s
  | .maxu core => Sys2Proof.Machine.execMaxu core s
  | .slt core => Sys2Proof.Machine.execSlt core s
  | .sltu core => Sys2Proof.Machine.execSltu core s
  | .seq core => Sys2Proof.Machine.execSeq core s
  | .addi core => Sys2Proof.Machine.execAddi core s
  | .andi core => Sys2Proof.Machine.execAndi core s
  | .ori core => Sys2Proof.Machine.execOri core s
  | .xori core => Sys2Proof.Machine.execXori core s
  | .shli core => Sys2Proof.Machine.execShli core s
  | .shri core => Sys2Proof.Machine.execShri core s
  | .srai core => Sys2Proof.Machine.execSrai core s
  | .slti core => Sys2Proof.Machine.execSlti core s
  | .movk core => Sys2Proof.Machine.execMovk core s
  | .lui core => Sys2Proof.Machine.execLui core s
  | .ld8u core => Sys2Proof.Machine.execLd8u core s
  | .ld16u core => Sys2Proof.Machine.execLd16u core s
  | .ld32u core => Sys2Proof.Machine.execLd32u core s
  | .ld32s core => Sys2Proof.Machine.execLd32s core s
  | .ld64 core => Sys2Proof.Machine.execLd64 core s
  | .st8 core => Sys2Proof.Machine.execSt8 core s
  | .st16 core => Sys2Proof.Machine.execSt16 core s
  | .st32 core => Sys2Proof.Machine.execSt32 core s
  | .st64 core => Sys2Proof.Machine.execSt64 core s
  | .lsld core => Sys2Proof.Machine.execLsld core s
  | .lsst core => Sys2Proof.Machine.execLsst core s
  | .lscp core => Sys2Proof.Machine.execLscp core s
  | .beq core => Sys2Proof.Machine.execBeq core s
  | .bne core => Sys2Proof.Machine.execBne core s
  | .blt core => Sys2Proof.Machine.execBlt core s
  | .bge core => Sys2Proof.Machine.execBge core s
  | .bltu core => Sys2Proof.Machine.execBltu core s
  | .bgeu core => Sys2Proof.Machine.execBgeu core s
  | .jal core => Sys2Proof.Machine.execJal core s
  | .jr core => Sys2Proof.Machine.execJr core s
  | .dbnz core => Sys2Proof.Machine.execDbnz core s
  | .pget core => Sys2Proof.Machine.execPget core s
  | .pset core => Sys2Proof.Machine.execPset core s
  | .rdsr core => Sys2Proof.Machine.execRdsr core s
  | .fins core => Sys2Proof.Machine.execFins core s
  | .push core => Sys2Proof.Machine.execPush core s
  | .gate core => Sys2Proof.Machine.execGate core s
  | .semsig core => Sys2Proof.Machine.execSemsig core s
  | .semwait core => Sys2Proof.Machine.execSemwait core s
  | .semwaitGrant core => Sys2Proof.Machine.execSemwaitGrant core s
  | .semrd core => Sys2Proof.Machine.execSemrd core s
  | .nop core => Sys2Proof.Machine.execNop core s
  | .rend core => Sys2Proof.Machine.execRend core s
  | .halt core => Sys2Proof.Machine.execHalt core s
  | .sySig core => Sys2Proof.Machine.execSySig core s
  | .semIncrementArrival index => Sys2Proof.Machine.execSemIncrementArrival index s
  | .syWait core => Sys2Proof.Machine.execSyWait core s
  | .syWaitGrant core => Sys2Proof.Machine.execSyWaitGrant core s
  | .syBar core => Sys2Proof.Machine.execSyBar core s
  | .barrierRelease barrier => Sys2Proof.Machine.execBarrierRelease barrier s
  | .syTime core => Sys2Proof.Machine.execSyTime core s
  | .syTimeReached core => Sys2Proof.Machine.execSyTimeReached core s
  | .coreCtlSwitch core => Sys2Proof.Machine.execCoreCtlSwitch core s
  | .coreCtlStart core => Sys2Proof.Machine.execCoreCtlStart core s
  | .coreCtlResume core => Sys2Proof.Machine.execCoreCtlResume core s
  | .coreCtlHalt core => Sys2Proof.Machine.execCoreCtlHalt core s
  | .replayStart part entry => Sys2Proof.Machine.execReplayStart part entry s
  | .coreSemWrite core sem value => Sys2Proof.Machine.execCoreSemWrite core sem value s
  | .corePstageWrite core param high value => Sys2Proof.Machine.execCorePstageWrite core param high value s
  | .corePdirtyWithdraw core high value => Sys2Proof.Machine.execCorePdirtyWithdraw core high value s
  | .cpRelease core engine => Sys2Proof.Machine.execCpRelease core engine s
  | .cpAcquire core engine => Sys2Proof.Machine.execCpAcquire core engine s
  | .requestResponse core slot => Sys2Proof.Machine.execRequestResponse core slot s
  | .requestWithdrawalConfirm core slot => Sys2Proof.Machine.execRequestWithdrawalConfirm core slot s
  | .patrolScrub codeword => Sys2Proof.Machine.execPatrolScrub codeword s
  | .cpLin core engine => Sys2Proof.Machine.execCpLin core engine s
  | .cpNd core engine => Sys2Proof.Machine.execCpNd core engine s
  | .cpGather core engine => Sys2Proof.Machine.execCpGather core engine s
  | .cpScatterWrite core engine => Sys2Proof.Machine.execCpScatterWrite core engine s
  | .cpScatterAdd core engine => Sys2Proof.Machine.execCpScatterAdd core engine s
  | .cpTable core engine => Sys2Proof.Machine.execCpTable core engine s
  | .tableLoadStart core engine => Sys2Proof.Machine.execTableLoadStart core engine s
  | .tablePublish core slot => Sys2Proof.Machine.execTablePublish core slot s
  | .timStep => Sys2Proof.Machine.execTimStep s
  | .timSrcWrite src => Sys2Proof.Machine.execTimSrcWrite src s
  | .timPtpCfgWrite value => Sys2Proof.Machine.execTimPtpCfgWrite value s
  | .timNowRead fn => Sys2Proof.Machine.execTimNowRead fn s
  | .ptpSync port domain transport sender seq stamp corr twoStep => Sys2Proof.Machine.execPtpSync port domain transport sender seq stamp corr twoStep s
  | .ptpFollowUp port domain transport sender seq stamp corr => Sys2Proof.Machine.execPtpFollowUp port domain transport sender seq stamp corr s
  | .ptpAnnounce port domain transport sender priority1 clockClass accuracy variance priority2 identity steps => Sys2Proof.Machine.execPtpAnnounce port domain transport sender priority1 clockClass accuracy variance priority2 identity steps s
  | .ptpDelayReq => Sys2Proof.Machine.execPtpDelayReq s
  | .ptpDelayResp port domain transport sender seq stamp corr => Sys2Proof.Machine.execPtpDelayResp port domain transport sender seq stamp corr s
  | .ppsEdge ref => Sys2Proof.Machine.execPpsEdge ref s
  | .timeSourceTimeout => Sys2Proof.Machine.execTimeSourceTimeout s
  | .stkArm part => Sys2Proof.Machine.execStkArm part s
  | .stkStop part => Sys2Proof.Machine.execStkStop part s
  | .stkCommit part => Sys2Proof.Machine.execStkCommit part s
  | .stkStartWrite part word value => Sys2Proof.Machine.execStkStartWrite part word value s
  | .strokeStart part => Sys2Proof.Machine.execStrokeStart part s
  | .gangStart part entry => Sys2Proof.Machine.execGangStart part entry s
  | .bucketOpen part entry => Sys2Proof.Machine.execBucketOpen part entry s
  | .bucketClose part entry => Sys2Proof.Machine.execBucketClose part entry s
  | .checkpoint part entry => Sys2Proof.Machine.execCheckpoint part entry s
  | .event part entry => Sys2Proof.Machine.execEvent part entry s
  | .sluice part => Sys2Proof.Machine.execSluice part s
  | .drainComplete part => Sys2Proof.Machine.execDrainComplete part s
  | .fillRecordWrite => Sys2Proof.Machine.execFillRecordWrite s
  | .pieceArrival index => Sys2Proof.Machine.execPieceArrival index s
  | .settleRecord index => Sys2Proof.Machine.execSettleRecord index s
  | .slotSettle part tag slot downRank => Sys2Proof.Machine.execSlotSettle part tag slot downRank s
  | .ownerFinish part tag height => Sys2Proof.Machine.execOwnerFinish part tag height s
  | .redSettle part => Sys2Proof.Machine.execRedSettle part s
  | .redWinOpen part window => Sys2Proof.Machine.execRedWinOpen part window s
  | .redWinClose part window => Sys2Proof.Machine.execRedWinClose part window s
  | .frameReceive port frame => Sys2Proof.Machine.execFrameReceive port frame s
  | .arpRequest port mac ip target => Sys2Proof.Machine.execArpRequest port mac ip target s
  | .neighborSolicitation port mac ip target => Sys2Proof.Machine.execNeighborSolicitation port mac ip target s
  | .pfcFrame port enable times => Sys2Proof.Machine.execPfcFrame port enable times s
  | .write flow => Sys2Proof.Machine.execWrite flow s
  | .read flow => Sys2Proof.Machine.execRead flow s
  | .readResp flow => Sys2Proof.Machine.execReadResp flow s
  | .raccSlot flow => Sys2Proof.Machine.execRaccSlot flow s
  | .raccAddress flow => Sys2Proof.Machine.execRaccAddress flow s
  | .atomicFadd flow => Sys2Proof.Machine.execAtomicFadd flow s
  | .atomicSwap flow => Sys2Proof.Machine.execAtomicSwap flow s
  | .atomicCswp flow => Sys2Proof.Machine.execAtomicCswp flow s
  | .atomicResp flow => Sys2Proof.Machine.execAtomicResp flow s
  | .sendRing flow => Sys2Proof.Machine.execSendRing flow s
  | .sendReduction flow => Sys2Proof.Machine.execSendReduction flow s
  | .fence flow => Sys2Proof.Machine.execFence flow s
  | .ack flow => Sys2Proof.Machine.execAck flow s
  | .mstat flow => Sys2Proof.Machine.execMstat flow s
  | .hello flow => Sys2Proof.Machine.execHello flow s
  | .helloAck flow => Sys2Proof.Machine.execHelloAck flow s
  | .close flow => Sys2Proof.Machine.execClose flow s
  | .closeAck flow => Sys2Proof.Machine.execCloseAck flow s
  | .skip flow => Sys2Proof.Machine.execSkip flow s
  | .wqDoorbell => Sys2Proof.Machine.execWqDoorbell s
  | .aqDescWrite => Sys2Proof.Machine.execAqDescWrite s
  | .aqDescRead => Sys2Proof.Machine.execAqDescRead s
  | .aqDescRacc => Sys2Proof.Machine.execAqDescRacc s
  | .aqDescAtomic => Sys2Proof.Machine.execAqDescAtomic s
  | .aqDescSend => Sys2Proof.Machine.execAqDescSend s
  | .aqDescFence => Sys2Proof.Machine.execAqDescFence s
  | .retransmitTimeout flow => Sys2Proof.Machine.execRetransmitTimeout flow s
  | .ackTimer flow => Sys2Proof.Machine.execAckTimer flow s
  | .helloRetry flow => Sys2Proof.Machine.execHelloRetry flow s
  | .flowOpenTimeout flow => Sys2Proof.Machine.execFlowOpenTimeout flow s
  | .flowCloseTimeout flow => Sys2Proof.Machine.execFlowCloseTimeout flow s
  | .ratePeriod flow => Sys2Proof.Machine.execRatePeriod flow s
  | .aqPenEnable part => Sys2Proof.Machine.execAqPenEnable part s
  | .aqPenDisable part => Sys2Proof.Machine.execAqPenDisable part s
  | .aqPdrainEnd part => Sys2Proof.Machine.execAqPdrainEnd part s
  | .portRemove port => Sys2Proof.Machine.execPortRemove port s
  | .portReadmit port => Sys2Proof.Machine.execPortReadmit port s
  | .portRecal port => Sys2Proof.Machine.execPortRecal port s
  | .portDrainEnd port => Sys2Proof.Machine.execPortDrainEnd port s
  | .recalEnd port => Sys2Proof.Machine.execRecalEnd port s
  | .portLinkDown port => Sys2Proof.Machine.execPortLinkDown port s
  | .portLinkUp port => Sys2Proof.Machine.execPortLinkUp port s
  | .aqPortIfaceWrite port iface => Sys2Proof.Machine.execAqPortIfaceWrite port iface s
  | .updDoorbell => Sys2Proof.Machine.execUpdDoorbell s
  | .updDescCistern part => Sys2Proof.Machine.execUpdDescCistern part s
  | .updDescVector part => Sys2Proof.Machine.execUpdDescVector part s
  | .updNormpass part => Sys2Proof.Machine.execUpdNormpass part s
  | .cisternEngineStart chiplet => Sys2Proof.Machine.execCisternEngineStart chiplet s
  | .cisternDescComplete chiplet => Sys2Proof.Machine.execCisternDescComplete chiplet s
  | .updEnable part => Sys2Proof.Machine.execUpdEnable part s
  | .updDisable part => Sys2Proof.Machine.execUpdDisable part s
  | .updDrainEnd part => Sys2Proof.Machine.execUpdDrainEnd part s
  | .ckptSliceStart part => Sys2Proof.Machine.execCkptSliceStart part s
  | .ckptCopyAhead page => Sys2Proof.Machine.execCkptCopyAhead page s
  | .ckptValidate part => Sys2Proof.Machine.execCkptValidate part s
  | .coreSpareMove core => Sys2Proof.Machine.execCoreSpareMove core s
  | .pageRetire address => Sys2Proof.Machine.execPageRetire address s
  | .cisScrubEnd chiplet => Sys2Proof.Machine.execCisScrubEnd chiplet s
  | .shutdownComplete kind index => Sys2Proof.Machine.execShutdownComplete kind index s
  | .sqTailWrite fn ring value entries => Sys2Proof.Machine.execSqTailWrite fn ring value entries s
  | .cqHeadWrite fn ring value => Sys2Proof.Machine.execCqHeadWrite fn ring value s
  | .znNop => Sys2Proof.Machine.execZnNop s
  | .znIdentify => Sys2Proof.Machine.execZnIdentify s
  | .znRingCreate => Sys2Proof.Machine.execZnRingCreate s
  | .znRingDelete => Sys2Proof.Machine.execZnRingDelete s
  | .znVfConfig => Sys2Proof.Machine.execZnVfConfig s
  | .znPrepareRemove => Sys2Proof.Machine.execZnPrepareRemove s
  | .znOpQuery => Sys2Proof.Machine.execZnOpQuery s
  | .znOpSuspend => Sys2Proof.Machine.execZnOpSuspend s
  | .znOpResume => Sys2Proof.Machine.execZnOpResume s
  | .znOpCancel => Sys2Proof.Machine.execZnOpCancel s
  | .longOpSafePoint op => Sys2Proof.Machine.execLongOpSafePoint op s
  | .longOpDone op => Sys2Proof.Machine.execLongOpDone op s
  | .znPartConfig => Sys2Proof.Machine.execZnPartConfig s
  | .znPartEnable => Sys2Proof.Machine.execZnPartEnable s
  | .znPartDisable => Sys2Proof.Machine.execZnPartDisable s
  | .znGranuleAssign => Sys2Proof.Machine.execZnGranuleAssign s
  | .znGranuleRelease => Sys2Proof.Machine.execZnGranuleRelease s
  | .znPtWrite => Sys2Proof.Machine.execZnPtWrite s
  | .znPtRoot => Sys2Proof.Machine.execZnPtRoot s
  | .znXlateInval => Sys2Proof.Machine.execZnXlateInval s
  | .znScrub => Sys2Proof.Machine.execZnScrub s
  | .znImemLoad => Sys2Proof.Machine.execZnImemLoad s
  | .znCoreReset => Sys2Proof.Machine.execZnCoreReset s
  | .znTableLoad => Sys2Proof.Machine.execZnTableLoad s
  | .znTableBuild => Sys2Proof.Machine.execZnTableBuild s
  | .znCoreSpare => Sys2Proof.Machine.execZnCoreSpare s
  | .znFlowOpen => Sys2Proof.Machine.execZnFlowOpen s
  | .znFlowClose => Sys2Proof.Machine.execZnFlowClose s
  | .znFlowQuery => Sys2Proof.Machine.execZnFlowQuery s
  | .znKeyInstall => Sys2Proof.Machine.execZnKeyInstall s
  | .znKeySwitch => Sys2Proof.Machine.execZnKeySwitch s
  | .znKeyClear => Sys2Proof.Machine.execZnKeyClear s
  | .znPortAdmit => Sys2Proof.Machine.execZnPortAdmit s
  | .znPortRecal => Sys2Proof.Machine.execZnPortRecal s
  | .znRxringSet => Sys2Proof.Machine.execZnRxringSet s
  | .znAqEnable => Sys2Proof.Machine.execZnAqEnable s
  | .znGroupSet => Sys2Proof.Machine.execZnGroupSet s
  | .znUpdEnable => Sys2Proof.Machine.execZnUpdEnable s
  | .znCkpt => Sys2Proof.Machine.execZnCkpt s
  | .znRestore => Sys2Proof.Machine.execZnRestore s
  | .znDieEnable => Sys2Proof.Machine.execZnDieEnable s
  | .znDieDisable => Sys2Proof.Machine.execZnDieDisable s
  | .znCisEnable => Sys2Proof.Machine.execZnCisEnable s
  | .znCisDisable => Sys2Proof.Machine.execZnCisDisable s
  | .znFwStage image => Sys2Proof.Machine.execZnFwStage image s
  | .znFwActivate => Sys2Proof.Machine.execZnFwActivate s
  | .znFwRollback => Sys2Proof.Machine.execZnFwRollback s
  | .fwFirstStartResult subsystem ok => Sys2Proof.Machine.execFwFirstStartResult subsystem ok s
  | .znPageRetire => Sys2Proof.Machine.execZnPageRetire s
  | .znCalibrate => Sys2Proof.Machine.execZnCalibrate s
  | .lifecycleSecured => Sys2Proof.Machine.execLifecycleSecured s
  | .lifecycleService => Sys2Proof.Machine.execLifecycleService s
  | .lifecycleRetired => Sys2Proof.Machine.execLifecycleRetired s
  | .znDebugOpen => Sys2Proof.Machine.execZnDebugOpen s
  | .znDebugClose => Sys2Proof.Machine.execZnDebugClose s
  | .znZeroise => Sys2Proof.Machine.execZnZeroise s
  | .znCfgFactory => Sys2Proof.Machine.execZnCfgFactory s
  | .znPowerLimit => Sys2Proof.Machine.execZnPowerLimit s
  | .znPowerState => Sys2Proof.Machine.execZnPowerState s
  | .idleEntry => Sys2Proof.Machine.execIdleEntry s
  | .standbyEntry => Sys2Proof.Machine.execStandbyEntry s
  | .activeReturn => Sys2Proof.Machine.execActiveReturn s
  | .znCfgRead => Sys2Proof.Machine.execZnCfgRead s
  | .znCfgWrite => Sys2Proof.Machine.execZnCfgWrite s
  | .cfgStoreWriteDone ok => Sys2Proof.Machine.execCfgStoreWriteDone ok s
  | .znCtlEnable fn => Sys2Proof.Machine.execZnCtlEnable fn s
  | .znCtlDisable fn => Sys2Proof.Machine.execZnCtlDisable fn s
  | .bar4Read fn offset len => Sys2Proof.Machine.execBar4Read fn offset len s
  | .bar4Write fn offset data => Sys2Proof.Machine.execBar4Write fn offset data s
  | .surpriseRemoval => Sys2Proof.Machine.execSurpriseRemoval s
  | .functionLevelReset fn => Sys2Proof.Machine.execFunctionLevelReset fn s
  | .mctpControlMessage endpoint request => Sys2Proof.Machine.execMctpControlMessage endpoint request s
  | .pldmType0 request => Sys2Proof.Machine.execPldmType0 request s
  | .pldmSensorRead request => Sys2Proof.Machine.execPldmSensorRead request s
  | .pldmFwUpdate subsystem activate image => Sys2Proof.Machine.execPldmFwUpdate subsystem activate image s
  | .mctpZennus packet => Sys2Proof.Machine.execMctpZennus packet s
  | .evtRaise fn source => Sys2Proof.Machine.execEvtRaise fn source s
  | .evtComplete fn source => Sys2Proof.Machine.execEvtComplete fn source s
  | .eventDelivery => Sys2Proof.Machine.execEventDelivery s
  | .mgmtEventHandled => Sys2Proof.Machine.execMgmtEventHandled s
  | .evtFnWinWrite vf base count => Sys2Proof.Machine.execEvtFnWinWrite vf base count s
  | .evtEnable enable => Sys2Proof.Machine.execEvtEnable enable s
  | .presencePress fell => Sys2Proof.Machine.execPresencePress fell s
  | .presenceTimeout => Sys2Proof.Machine.execPresenceTimeout s
  | .sealOpen => Sys2Proof.Machine.execSealOpen s
  | .svcJumperChange fitted => Sys2Proof.Machine.execSvcJumperChange fitted s
  | .debugAccess => Sys2Proof.Machine.execDebugAccess s
  | .debugStep => Sys2Proof.Machine.execDebugStep s
  | .idcode => Sys2Proof.Machine.execIdcode s
  | .bypass => Sys2Proof.Machine.execBypass s
  | .samplePreload pins data => Sys2Proof.Machine.execSamplePreload pins data s
  | .extest pins data => Sys2Proof.Machine.execExtest pins data s
  | .dbgport ctl address data => Sys2Proof.Machine.execDbgport ctl address data s
  | .thermalSample temps => Sys2Proof.Machine.execThermalSample temps s
  | .thermalHoldStep => Sys2Proof.Machine.execThermalHoldStep s
  | .thermalShutdown => Sys2Proof.Machine.execThermalShutdown s
  | .thermalRestart temp => Sys2Proof.Machine.execThermalRestart temp s
  | .governorDecision => Sys2Proof.Machine.execGovernorDecision s
  | .powerSample mv ca watts => Sys2Proof.Machine.execPowerSample mv ca watts s
  | .pwrEnRise => Sys2Proof.Machine.execPwrEnRise s
  | .pwrEnFall => Sys2Proof.Machine.execPwrEnFall s
  | .inputExcursion => Sys2Proof.Machine.execInputExcursion s
  | .inputLoss => Sys2Proof.Machine.execInputLoss s
  | .inputOvervoltage => Sys2Proof.Machine.execInputOvervoltage s
  | .inputOvercurrent => Sys2Proof.Machine.execInputOvercurrent s
  | .inputRestored => Sys2Proof.Machine.execInputRestored s
  | .railFault rail => Sys2Proof.Machine.execRailFault rail s
  | .perstAssert => Sys2Proof.Machine.execPerstAssert s
  | .perstRelease => Sys2Proof.Machine.execPerstRelease s
  | .cfgWarmWrite value => Sys2Proof.Machine.execCfgWarmWrite value s
  | .warmReset => Sys2Proof.Machine.execWarmReset s
  | .coldStart => Sys2Proof.Machine.execColdStart s
  | .bootStageComplete hbmMask chiplets => Sys2Proof.Machine.execBootStageComplete hbmMask chiplets s
  | .faultRecordDelivery => Sys2Proof.Machine.execFaultRecordDelivery s
  | .faultRingEnable fn => Sys2Proof.Machine.execFaultRingEnable fn s
  | .traceEnable => Sys2Proof.Machine.execTraceEnable s
  | .stallClear core => Sys2Proof.Machine.execStallClear core s
  | .coreStallLoRead core row counter => Sys2Proof.Machine.execCoreStallLoRead core row counter s
  | .retireWindowExpire => Sys2Proof.Machine.execRetireWindowExpire s
  | .pfcPauseExpiry port prio => Sys2Proof.Machine.execPfcPauseExpiry port prio s
  | .illegalInstruction core => Sys2Proof.Machine.execIllegalInstruction core s
  | .configurationRequest fn field value => Sys2Proof.Machine.execConfigurationRequest fn field value s
  | .linkRetrain => Sys2Proof.Machine.execLinkRetrain s

end Machine
end Sys2Proof
end

