-- ==== Sys2Proof/Safety.lean ====
section
/-!
DEFINITION. What a sound state is and what a safe run is: every memory, register file and store in its one canonical form, 128 logical cores, 16
clusters; a run is safe when no step stops.
-/
namespace Sys2Proof
namespace Machine

/-- The canonical form of a memory: addresses strictly rising, and no entry equal to zero, which an unlisted address reads as. -/
def Memory.wf (m : List Host.Cell) : Bool := Cells.wf (fun _ => 0#8) m

/-- The stores of a core in their canonical form: scalar registers, live and staged parameters, scratch memory, instruction memory, semaphores,
local SRAM, vector, carry and mask registers, each vector or carry register of 512 lanes. -/
def Core.Sound (k : Core) : Prop :=
  Cells.wf (fun _ => 0#64) k.sreg = true ∧ Cells.wf (fun _ => 0#64) k.live = true ∧ Cells.wf (fun _ => 0#64) k.staged = true ∧
  Memory.wf k.scratch = true ∧ Cells.wf (fun _ => 0#32) k.imem = true ∧ Cells.wf (fun _ => 0) k.sem = true ∧ Memory.wf k.sram = true ∧
  Cells.wf (fun _ => zeroReg) k.vreg = true ∧ (∀ e ∈ k.vreg, e.2.length = 512) ∧
  Cells.wf (fun _ => zeroReg) k.carry = true ∧ (∀ e ∈ k.carry, e.2.length = 512) ∧ Cells.wf (fun _ => 0#2048) k.mask = true

/-- The device's memories and register file in their canonical form, and as many cores and clusters as the module has (R14, R16). -/
def Device.Sound (d : Device) : Prop :=
  Memory.wf d.mem = true ∧ Memory.wf d.hostMem = true ∧ Cells.wf Reg.reset d.regs = true ∧
  d.cores.length = 128 ∧ d.clusters.length = 16 ∧ ∀ k ∈ d.cores, k.Sound

/-- A step that does not stop. -/
def Outcome.goesOn (r : Result) : Prop := ∃ t, r = .next t

/-- A state whose next step does not stop. -/
def State.safe (s : State) : Prop := Outcome.goesOn (step s)

/-- The device after the vector instruction e at the head of VXQ of core c has done its work r: its result waits in its queue entry. -/
def Device.vxAfter (d : Device) (c : Nat) (e : QEntry) (r : Device × VxOut) : Device :=
  r.1.setFront c 2 { e with
    started := true, since := if e.started then e.since else d.cycles, result := some (r.2.result c) }

/-- Command i, carried out in state s, answers the next state whose device is d and whose queue is that of s. -/
def State.Does (s : State) (i : Instr) (d : Device) : Prop := exec i s = .next { s with dev := d }

end Machine
end Sys2Proof
end

