-- ==== Sys2Proof/Certificates/Slice0/Obligations.lean ====
section
/-!
DEFINITION. The statements for the provers, family by family.
-/
open Sys2Proof
open Sys2Proof.Machine

/-! ## The machine -/

/-- A step carries out the command at the front of the queue, on the state with the queue's rest. -/
def Obligations.StepRunsFrontCommand : Prop :=
  ∀ (s : State) (c : Instr) (rest : List Instr), s.pending = c :: rest → step s = exec c { s with pending := rest }

/-- On an empty queue a core cycle passes and nothing else is decided: the model's choice (log 2). The cycle count moves by one unless the
core clock stands (PWR_STATE at or above 4), device time never runs back, and the queue stays empty. -/
def Obligations.EmptyQueuePassesOneCycle : Prop :=
  ∀ s : State, s.pending = [] →
    step s = .next { s with dev := s.dev.tick } ∧
    s.dev.tick.now ≥ s.dev.now ∧
    s.dev.tick.cycles = s.dev.cycles + (if s.dev.fld Reg.PWR_STATE 31 29 < 4 then 1 else 0)

/-- Every command but a register write goes on, and a register write stops only with the fault of a reserved field; no command touches the
queue. -/
def Obligations.CommandsGoOnAndKeepTheQueue : Prop :=
  ∀ (c : Instr) (s : State),
    (∃ t, exec c s = .next t ∧ t.pending = s.pending) ∨
    (exec c s = .fault .reservedField ∧ ∃ fn off v, c = .registerWrite fn off v)

/-- The state after reset is sound, with an empty queue, device time zero and FREERUN, stage ROM, the limit of 900 W, the reset values of
the level interval and of the retransmission timeout, every core HALTED at PC 0 with its registers, scratch memory and semaphores zero, and
memory zero (R130, R247, R254, R337, R583, R597). -/
def Obligations.ResetIsSound : Prop :=
  State.reset.dev.Sound ∧ State.reset.pending = [] ∧ State.reset.dev.now = 0 ∧ State.reset.dev.fld Reg.TIM_STATUS 31 30 = 0 ∧
  State.reset.dev.fld Reg.CFG_BOOT 27 24 = 0 ∧ State.reset.dev.fld Reg.PWR_LIMIT 15 0 = 900 ∧
  State.reset.dev.reg Reg.AQ_RTO = 50000#32 ∧ (∀ p : PartId, State.reset.dev.reg (Reg.RED_LEVEL_NS p) = 40000#32) ∧
  (∀ a, Cells.get 0#8 State.reset.dev.mem a = 0#8) ∧
  (∀ c : CoreId, (State.reset.dev.core c).run = .halted ∧ (State.reset.dev.core c).pc = 0 ∧ (State.reset.dev.core c).vl = 0 ∧
    (∀ i, (State.reset.dev.core c).s i = 0#64) ∧ (∀ a, Cells.get 0#8 (State.reset.dev.core c).scratch a = 0#8) ∧
    ∀ n, (State.reset.dev.core c).semVal n = 0)

/-- Every step keeps soundness: the canonical form of HBM and cistern memory, of host memory as written, of the register file and of every
core's stores, and the numbers of cores and clusters. -/
def Obligations.EveryStepKeepsSoundness : Prop :=
  ∀ s t : State, s.dev.Sound → step s = .next t → t.dev.Sound

/-! ## The control core -/

/-- The instructions of OP 0x01, by FN: D takes the named function of D, A and B, PC moves on, and nothing else of the device changes (R212,
R207). The instructions with an immediate, where their reserved bits are 0 (R212). -/
def Obligations.RegisterAndImmediateInstructions : Prop :=
  (∀ (s : State) (c : CoreId) (w : Nat), (s.dev.core c).fetch = some w → insOp w = 0x01 →
    ∀ p ∈ ([(0x000, .add c, fun _ a b => a + b), (0x001, .sub c, fun _ a b => a - b), (0x002, .mul c, fun _ a b => a * b),
        (0x003, .mla c, fun x a b => x + a * b), (0x004, .and c, fun _ a b => a &&& b), (0x005, .or c, fun _ a b => a ||| b),
        (0x006, .xor c, fun _ a b => a ^^^ b), (0x007, .shl c, fun _ a b => a <<< (b.toNat % 64)),
        (0x008, .shr c, fun _ a b => a >>> (b.toNat % 64)), (0x009, .sra c, fun _ a b => a.sshiftRight (b.toNat % 64)),
        (0x00A, .min c, fun _ a b => if a.toInt ≤ b.toInt then a else b), (0x00B, .max c, fun _ a b => if a.toInt ≤ b.toInt then b else a),
        (0x00C, .minu c, fun _ a b => if a.toNat ≤ b.toNat then a else b), (0x00D, .maxu c, fun _ a b => if a.toNat ≤ b.toNat then b else a),
        (0x00E, .slt c, fun _ a b => if a.toInt < b.toInt then 1#64 else 0#64),
        (0x00F, .sltu c, fun _ a b => if a.toNat < b.toNat then 1#64 else 0#64),
        (0x010, .seq c, fun _ a b => if a = b then 1#64 else 0#64)] : List (Nat × Instr × (DWord → DWord → DWord → DWord))),
      insFn w = p.1 →
      exec p.2.1 s = .next { s with dev := s.dev.modCore c (fun k =>
        (k.setS (insD w) (p.2.2 (k.s (insD w)) (k.s (insA w)) (k.s (insB w)))).next) }) ∧
  (∀ (s : State) (c : CoreId) (w : Nat), (s.dev.core c).fetch = some w →
    ∀ p ∈ ([(0x02, 0, .addi c, fun _ a => a + BitVec.ofInt 64 (sext 16 w)),
        (0x03, 0, .andi c, fun _ a => a &&& BitVec.ofNat 64 (bits w 15 0)), (0x04, 0, .ori c, fun _ a => a ||| BitVec.ofNat 64 (bits w 15 0)),
        (0x05, 0, .xori c, fun _ a => a ^^^ BitVec.ofNat 64 (bits w 15 0)),
        (0x06, bits w 15 6, .shli c, fun _ a => a <<< bits w 5 0), (0x07, bits w 15 6, .shri c, fun _ a => a >>> bits w 5 0),
        (0x08, bits w 15 6, .srai c, fun _ a => a.sshiftRight (bits w 5 0)),
        (0x09, 0, .slti c, fun _ a => if a.toInt < sext 16 w then 1#64 else 0#64),
        (0x0A, bits w 20 18, .movk c, fun x _ =>
          BitVec.ofNat 64 (setBits x.toNat (16 * bits w 17 16 + 15) (16 * bits w 17 16) (bits w 15 0))),
        (0x0B, bits w 20 16, .lui c, fun _ _ => BitVec.ofInt 64 (sext 16 w) <<< 16)] : List (Nat × Nat × Instr × (DWord → DWord → DWord))),
      insOp w = p.1 → p.2.1 = 0 →
      exec p.2.2.1 s = .next { s with dev := s.dev.modCore c (fun k =>
        (k.setS (insD w) (p.2.2.2 (k.s (insD w)) (k.s (insA w)))).next) })

/-- What writing a scalar register and moving on leaves as it was: S0 discards the write and reads zero, every other register, everything
else of the core, and everything of the device but this core. -/
def Obligations.ScalarWriteFrame : Prop :=
  ∀ (d : Device) (c : CoreId) (i j : Nat) (v : DWord), d.Sound →
    let e := d.modCore c (fun k => (k.setS i v).next)
    (e.core c).s 0 = 0#64 ∧ (e.core c).s j = (if j = i ∧ i ≠ 0 then v else (d.core c).s j) ∧
    e.core c = { d.core c with sreg := (e.core c).sreg, pc := (d.core c).pc + 1 } ∧
    (∀ c' : CoreId, c' ≠ c → e.core c' = d.core c') ∧
    e = { d with cores := e.cores }

/-- Scratch loads, at an aligned address of scratch memory whose code is not broken: D takes the bytes, zero- or sign-extended (R212, R213).
Scratch stores, at an aligned address of scratch memory: the low bytes of D are stored there, least significant first; every other byte of
scratch memory, the registers and everything else of the core and the device stay (R212, R213). lsld, lsst and lscp, at addresses that are
aligned and in range, with no broken word read: a 64-bit word of local SRAM to D; D to a 64-bit word of local SRAM; 32 bytes of local SRAM
to scratch memory. A read corrects and counts what sramRead says (R212, R213, R253). -/
def Obligations.ScratchAndSramInstructions : Prop :=
  (∀ (s : State) (c : CoreId) (w : Nat), (s.dev.core c).fetch = some w →
    ∀ p ∈ ([(0x10, 1, .ld8u c, fun x => BitVec.ofNat 64 x), (0x11, 2, .ld16u c, fun x => BitVec.ofNat 64 x),
        (0x12, 4, .ld32u c, fun x => BitVec.ofNat 64 x), (0x13, 4, .ld32s c, fun x => BitVec.ofInt 64 (sext 32 x)),
        (0x14, 8, .ld64 c, fun x => BitVec.ofNat 64 x)] : List (Nat × Nat × Instr × (Nat → DWord))),
      insOp w = p.1 →
      let a := ((s.dev.core c).s (insA w) + BitVec.ofInt 64 (sext 16 w)).toNat
      a % p.2.1 = 0 → a < 16384 → (s.dev.core c).scratchBadAt a p.2.1 = false →
      exec p.2.2.1 s = .next { s with dev := s.dev.modCore c (fun k =>
        (k.setS (insD w) (p.2.2.2 (leNat (Cells.getRange 0#8 k.scratch a p.2.1)))).next) }) ∧
  (∀ (s : State) (c : CoreId) (w : Nat), s.dev.Sound → (s.dev.core c).fetch = some w →
    ∀ p ∈ ([(0x15, 1, .st8 c), (0x16, 2, .st16 c), (0x17, 4, .st32 c), (0x18, 8, .st64 c)] : List (Nat × Nat × Instr)),
      insOp w = p.1 →
      let k := s.dev.core c
      let a := (k.s (insA w) + BitVec.ofInt 64 (sext 16 w)).toNat
      a % p.2.1 = 0 → a < 16384 →
      ∃ t, exec p.2.2 s = .next t ∧
        Cells.getRange 0#8 (t.dev.core c).scratch a p.2.1 = toLe p.2.1 (k.s (insD w)).toNat ∧
        (∀ x, (x < a ∨ a + p.2.1 ≤ x) → Cells.get 0#8 (t.dev.core c).scratch x = Cells.get 0#8 k.scratch x) ∧
        t.dev.core c = { k with scratch := (t.dev.core c).scratch, scratchBad := (t.dev.core c).scratchBad, pc := k.pc + 1 } ∧
        (∀ x ∈ (t.dev.core c).scratchBad, x ∈ k.scratchBad) ∧
        t = { s with dev := s.dev.setCore c (t.dev.core c) }) ∧
  (∀ (s : State) (c : CoreId) (w : Nat), (s.dev.core c).fetch = some w →
    let d := s.dev
    let k := d.core c
    let a := (k.s (insA w) + BitVec.ofInt 64 (sext 16 w)).toNat
    let b := (k.s (insA w) + BitVec.ofInt 64 (sext 16 w) * 32#64).toNat
    let t := (k.s (insD w)).toNat
    (insOp w = 0x19 → a % 8 = 0 → a < 0x800000 → (d.sramRead c a 8).2.2 = none →
      exec (.lsld c) s = .next { s with dev := (d.sramRead c a 8).1.modCore c (fun k =>
        (k.setS (insD w) (BitVec.ofNat 64 (leNat (d.sramRead c a 8).2.1))).next) }) ∧
    (insOp w = 0x1A → a % 8 = 0 → a < 0x800000 →
      exec (.lsst c) s = .next { s with dev := d.modCore c (fun k => (k.sramWrite a (toLe 8 (k.s (insD w)).toNat)).next) }) ∧
    (insOp w = 0x1B → b % 32 = 0 → b < 0x800000 → t % 32 = 0 → t < 16384 → (d.sramRead c b 32).2.2 = none →
      exec (.lscp c) s = .next { s with dev := (d.sramRead c b 32).1.modCore c (fun k => (k.scratchWrite t (d.sramRead c b 32).2.1).next) }))

/-- The branches: taken to their own PC plus OFF where the comparison holds and the target lies in 0 to 8,191, otherwise on to the next
instruction; jal links, jr jumps to a register, dbnz writes the decremented register (R211, R212). -/
def Obligations.BranchesMovePc : Prop :=
  ∀ (s : State) (c : CoreId) (w : Nat), (s.dev.core c).fetch = some w →
    let k := s.dev.core c
    let a := k.s (bits w 25 21)
    let b := k.s (bits w 20 16)
    let t := (k.pc : Int) + sext 16 w
    let ok := 0 ≤ t ∧ t ≤ 8191
    let go := fun (f : Core → Core) (i : Instr) => s.Does i (s.dev.setCore c (f k))
    (∀ p ∈ ([(0x20, .beq c, a = b), (0x21, .bne c, a ≠ b), (0x22, .blt c, a.toInt < b.toInt), (0x23, .bge c, a.toInt ≥ b.toInt),
        (0x24, .bltu c, a.toNat < b.toNat), (0x25, .bgeu c, a.toNat ≥ b.toNat)] : List (Nat × Instr × Prop)),
      insOp w = p.1 →
      (p.2.2 → ok → go (fun k => { k with pc := t.toNat }) p.2.1) ∧
      (¬ p.2.2 → go (fun k => { k with pc := k.pc + 1 }) p.2.1)) ∧
    (insOp w = 0x26 → bits w 20 16 = 0 → ok →
      go (fun k => { k.setS (bits w 25 21) (BitVec.ofNat 64 (k.pc + 1)) with pc := t.toNat }) (.jal c)) ∧
    (insOp w = 0x27 → bits w 25 21 = 0 → bits w 15 0 = 0 → b.toNat ≤ 8191 → go (fun k => { k with pc := b.toNat }) (.jr c)) ∧
    (insOp w = 0x28 → bits w 20 16 = 0 →
      (a ≠ 1#64 → ok → go (fun k => { k.setS (bits w 25 21) (a - 1#64) with pc := t.toNat }) (.dbnz c)) ∧
      (a = 1#64 → go (fun k => { k.setS (bits w 25 21) 0#64 with pc := k.pc + 1 }) (.dbnz c)))

/-- The parameter and state instructions, where their reserved bits are 0: pget reads a live parameter, pset writes a staged one and sets
its dirty bit, rdsr reads the items of R214, semrd a semaphore; fins inserts a field into a scratch record and changes no other bit of it
(R212, R214, R218). gate, semsig, semwait, nop and halt, where their reserved bits are 0, and the grant of a waiting semwait to the
arbiter's winner (R212, R225, R230, R239). -/
def Obligations.ParameterItemGateAndSemaphoreInstructions : Prop :=
  (∀ (s : State) (c : CoreId) (w : Nat), (s.dev.core c).fetch = some w →
    let d := s.dev
    let k := d.core c
    let go := fun (f : Core → Core) (i : Instr) => s.Does i (d.setCore c (f k))
    (insOp w = 0x2C → bits w 14 0 = 0 → go (fun k => (k.setS (insD w) (Cells.get 0#64 k.live (bits w 20 15))).next) (.pget c)) ∧
    (insOp w = 0x2D → bits w 14 0 = 0 →
      go (fun k => { k with staged := Cells.set 0#64 k.staged (bits w 20 15) (k.s (insD w)),
                            dirty := k.dirty ||| (1#64 <<< bits w 20 15), pc := k.pc + 1 }) (.pset c)) ∧
    (insOp w = 0x2E → insA w = 0 →
      ∀ p ∈ ([(0, c.val), (1, (d.reg (Reg.CORE_REPLAYS_LO c)).toNat + 2 ^ 32 * (d.reg (Reg.CORE_REPLAYS_LO c + 4)).toNat), (2, d.coreStroke c),
          (3, timeShort d.now), (4, k.tc), (5, k.bank),
          (6, occupancy k.mxq + 2 ^ 8 * occupancy k.spq + 2 ^ 16 * occupancy k.vxq + 2 ^ 24 * occupancy k.cpq0 + 2 ^ 32 * occupancy k.cpq1
            + 2 ^ 40 * occupancy k.syq), (7, d.cycles - k.resetCycle)] : List (Nat × Nat)),
        bits w 15 0 = p.1 → go (fun k => (k.setS (insD w) (BitVec.ofNat 64 p.2)).next) (.rdsr c)) ∧
    (insOp w = 0x35 → insA w = 0 → bits w 15 6 = 0 → go (fun k => (k.setS (insD w) (BitVec.ofNat 64 (k.semVal (bits w 5 0)))).next) (.semrd c)) ∧
    (let a := (k.s (insA w)).toNat
     let pos := bits w 15 8
     let wm1 := bits w 7 2
     let r := leNat (Cells.getRange 0#8 k.scratch a 32)
     let r' := setBits r (pos + wm1) pos (k.s (insD w)).toNat
     insOp w = 0x30 → bits w 1 0 = 0 → pos + wm1 ≤ 255 → a % 32 = 0 → a < 16384 → k.scratchBadAt a 32 = false →
      go (fun k => (k.scratchWrite a (toLe 32 r')).next) (.fins c) ∧
      (∀ i, i < 256 → r'.testBit i = if pos ≤ i ∧ i ≤ pos + wm1 then (k.s (insD w)).toNat.testBit (i - pos) else r.testBit i))) ∧
  (∀ (s : State) (c : CoreId) (w : Nat),
    let d := s.dev
    let go := fun (f : Device → Device) (i : Instr) => s.Does i (f d)
    ((d.core c).fetch = some w →
      (insOp w = 0x32 → bits w 11 0 = 0 →
        go (·.modCore c (fun k => { k with
          pc := k.pc + 1, gate := some { wen := w.testBit 25, wsem := bits w 24 19, sen := w.testBit 18, ssem := bits w 17 12 } })) (.gate c)) ∧
      (insOp w = 0x33 → bits w 25 6 = 0 →
        go (fun d => (d.semAdd c (bits w 5 0) 1 (some (d.core c).tc) c 6).modCore c Core.next) (.semsig c)) ∧
      (insOp w = 0x34 → bits w 25 6 = 0 → go (·.modCore c (fun k => { k with semWait := some (bits w 5 0) })) (.semwait c)) ∧
      (insOp w = 0x3D → bits w 25 0 = 0 → go (·.modCore c (fun k => { k with pc := k.pc + 1 })) (.nop c)) ∧
      (insOp w = 0x3F → bits w 25 0 = 0 →
        go (fun d => (d.modCore c (fun k => { k with pc := k.pc + 1, run := .halted })).boundary c) (.halt c))) ∧
    (∀ n, (d.core c).semWait = some n → (d.core c).winner n = some 6 →
      go (·.modCore c (fun k => { (k.setSem n (k.semVal n - 1)) with
          semPtr := Cells.put k.semPtr n 7, pc := k.pc + 1, semWait := none })) (.semwaitGrant c)))

/-- push, where its reserved bits are 0, Q is at most 5, its record is aligned, in range and good, and the queue has a free entry: the
record plus S[B], sign-extended and shifted by POS, modulo 2^256, with TC as its tag under TM, joins the queue with GATE and the stroke
number; TC counts, GATE clears. A full queue keeps the push waiting (R219, R220, R225). -/
def Obligations.PushAppendsPatchedCommand : Prop :=
  ∀ (s : State) (c : CoreId) (w : Nat), (s.dev.core c).fetch = some w → insOp w = 0x31 →
    let d := s.dev
    let k := d.core c
    let q := bits w 25 23
    let a := (k.s (insA w)).toNat
    let tm := w.testBit 22
    let sum := (leNat (Cells.getRange 0#8 k.scratch a 32) + ((k.s (insB w)).toInt % (2 ^ 256 : Int)).toNat * 2 ^ bits w 10 3) % 2 ^ 256
    let v := if tm then sum - sum % 2 ^ 24 + k.tc % 2 ^ 24 else sum
    w.testBit 21 = false → bits w 2 0 = 0 → q ≤ 5 → a % 32 = 0 → a < 16384 → k.scratchBadAt a 32 = false →
    (occupancy (k.queue q) < 64 →
      s.Does (.push c) (d.setCore c
        { (k.setQueue q (k.queue q ++ [{ cmd := BitVec.ofNat 256 v, gate := k.gate.getD {}, stroke := d.coreStroke c }])) with
          pc := k.pc + 1, gate := none, tc := if tm then (k.tc + 1) % 0x1000000 else k.tc })) ∧
    (64 ≤ occupancy (k.queue q) → exec (.push c) s = .next s)

/-- rend ends the replay: a boundary, then IDLE, or the start actions at once under AUTOREPEAT (R239, R240). The start actions of a replay:
PC takes CORE_ENTRY.ENTRY, TC takes CORE_TAG_BASE.TAG, CORE_REPLAYS counts one more unless it stands at all ones, the core is RUNNING, and
scalar registers, scratch memory, semaphores, queues and engine state are untouched (R240). A replay boundary: held instruction-memory
writes are applied in arrival order and their commands complete; a pending bank switch is performed; the dirty staged parameters reach the
live registers unless LOCK is 1, when they and their dirty bits stay; GATE clears. Nothing else of the core changes, and nothing else of the
device but through those completions (R241, R244). -/
def Obligations.ReplaysEndStartAndBound : Prop :=
  (∀ (s : State) (c : CoreId) (w : Nat), (s.dev.core c).fetch = some w → insOp w = 0x3E → bits w 25 0 = 0 →
    let e := (s.dev.modCore c (fun k => { k with run := .idle })).boundary c
    exec (.rend c) s = .next { s with dev := if e.flag (Reg.CORE_CTL c) 6 then e.startActions c else e }) ∧
  (∀ (d : Device) (c : CoreId), d.Sound →
    let e := d.startActions c
    e.core c = { d.core c with run := .running, pc := d.fld (Reg.CORE_ENTRY c) 12 0, tc := d.fld (Reg.CORE_TAG_BASE c) 23 0 } ∧
    e.reg64 (Reg.CORE_REPLAYS_LO c) = min 0xFFFFFFFFFFFFFFFF (d.reg64 (Reg.CORE_REPLAYS_LO c) + 1) ∧
    (∀ c' : CoreId, c' ≠ c → e.core c' = d.core c') ∧
    (∀ r, r ≠ Reg.CORE_REPLAYS_LO c → r ≠ Reg.CORE_REPLAYS_LO c + 4 → e.reg r = d.reg r) ∧
    e = { d with cores := e.cores, regs := e.regs }) ∧
  (∀ (d : Device) (c : CoreId), d.Sound →
    let k := d.core c
    let lock := d.flag (Reg.CORE_CTL c) 7
    ∃ live : Cells DWord,
      (∀ n, n < 64 → Cells.get 0#64 live n =
        (if lock = false ∧ k.dirty.toNat.testBit n then Cells.get 0#64 k.staged n else Cells.get 0#64 k.live n)) ∧
      d.boundary c = k.held.foldl (fun d h => match h.owner with | some id => d.complete id 0 0 | none => d)
        (d.setCore c { (k.held.foldl (fun k h => k.writeImem h.bank h.index h.words) k) with
          held := [], live := live, dirty := if lock then k.dirty else 0#64, gate := none, semWait := none, switchPending := false,
          bank := if k.switchPending then 1 - k.bank else k.bank }))

/-- A faulting instruction: every word whose reserved fields are not 0, or whose fields name nothing, ends in the control-core fault of
ST_BAD_FIELD at the PC (R211, R217). Scratch and local SRAM accesses that are misaligned, out of range or meet a broken word fault with the
address they name, and branches taken out of the bank fault at the PC (R213, R217). -/
def Obligations.FieldsAddressesAndTargetsFault : Prop :=
  (∀ (s : State) (c : CoreId) (w : Nat), (s.dev.core c).fetch = some w →
    ∀ p ∈ ([(0x06, .shli c, bits w 15 6 ≠ 0), (0x07, .shri c, bits w 15 6 ≠ 0), (0x08, .srai c, bits w 15 6 ≠ 0),
        (0x0A, .movk c, bits w 20 18 ≠ 0), (0x0B, .lui c, bits w 20 16 ≠ 0), (0x26, .jal c, bits w 20 16 ≠ 0),
        (0x27, .jr c, bits w 25 21 ≠ 0 ∨ bits w 15 0 ≠ 0), (0x28, .dbnz c, bits w 20 16 ≠ 0), (0x2C, .pget c, bits w 14 0 ≠ 0),
        (0x2D, .pset c, bits w 14 0 ≠ 0), (0x2E, .rdsr c, bits w 20 16 ≠ 0 ∨ bits w 15 0 > 7),
        (0x30, .fins c, bits w 1 0 ≠ 0 ∨ bits w 15 8 + bits w 7 2 > 255),
        (0x31, .push c, w.testBit 21 ∨ bits w 2 0 ≠ 0 ∨ bits w 25 23 > 5), (0x32, .gate c, bits w 11 0 ≠ 0),
        (0x33, .semsig c, bits w 25 6 ≠ 0), (0x34, .semwait c, bits w 25 6 ≠ 0), (0x35, .semrd c, bits w 20 6 ≠ 0),
        (0x3D, .nop c, bits w 25 0 ≠ 0), (0x3E, .rend c, bits w 25 0 ≠ 0), (0x3F, .halt c, bits w 25 0 ≠ 0)] : List (Nat × Instr × Prop)),
      insOp w = p.1 → p.2.2 →
      exec p.2.1 s = .next { s with dev := s.dev.ctlFault c 0x0010 5 (s.dev.core c).pc }) ∧
  (∀ (s : State) (c : CoreId) (w : Nat), (s.dev.core c).fetch = some w →
    let d := s.dev
    let k := d.core c
    let a := (k.s (insA w) + BitVec.ofInt 64 (sext 16 w)).toNat
    let bad := fun (st kind at' : Nat) (i : Instr) => s.Does i (d.ctlFault c st kind at')
    (∀ p ∈ ([(0x10, 1, .ld8u c), (0x11, 2, .ld16u c), (0x12, 4, .ld32u c), (0x13, 4, .ld32s c), (0x14, 8, .ld64 c), (0x15, 1, .st8 c),
        (0x16, 2, .st16 c), (0x17, 4, .st32 c), (0x18, 8, .st64 c)] : List (Nat × Nat × Instr)), insOp w = p.1 →
      (a % p.2.1 ≠ 0 → bad 0x0010 6 a p.2.2) ∧ (a % p.2.1 = 0 → 16384 ≤ a → bad 0x0012 6 a p.2.2) ∧
      (a % p.2.1 = 0 → a < 16384 → k.scratchBadAt a p.2.1 → insOp w < 0x15 → bad 0x0021 6 a p.2.2)) ∧
    (∀ p ∈ ([(0x19, .lsld c), (0x1A, .lsst c)] : List (Nat × Instr)), insOp w = p.1 →
      (a % 8 ≠ 0 → bad 0x0010 1 a p.2) ∧ (a % 8 = 0 → 0x800000 ≤ a → bad 0x0012 1 a p.2)) ∧
    (∀ p ∈ ([(0x30, .fins c, bits w 1 0 = 0 ∧ bits w 15 8 + bits w 7 2 ≤ 255),
        (0x31, .push c, w.testBit 21 = false ∧ bits w 2 0 = 0 ∧ bits w 25 23 ≤ 5)] : List (Nat × Instr × Prop)), insOp w = p.1 → p.2.2 →
      let r := (k.s (insA w)).toNat
      (r % 32 ≠ 0 → bad 0x0010 6 r p.2.1) ∧ (r % 32 = 0 → 16384 ≤ r → bad 0x0012 6 r p.2.1) ∧
      (r % 32 = 0 → r < 16384 → k.scratchBadAt r 32 → bad 0x0021 6 r p.2.1)) ∧
    (∀ p ∈ ([(0x20, .beq c, k.s (bits w 25 21) = k.s (bits w 20 16)), (0x21, .bne c, k.s (bits w 25 21) ≠ k.s (bits w 20 16)),
        (0x26, .jal c, bits w 20 16 = 0), (0x28, .dbnz c, bits w 20 16 = 0 ∧ k.s (bits w 25 21) ≠ 1#64)] : List (Nat × Instr × Prop)),
      insOp w = p.1 → p.2.2 → ((k.pc : Int) + sext 16 w < 0 ∨ 8191 < (k.pc : Int) + sext 16 w) → bad 0x0012 5 k.pc p.2.1))

/-- What a control-core fault leaves: the core HALTED and FAULTED with its PC on the faulting instruction, CORE_FAULT valid with PC and
status, and no effect on scalar registers, scratch memory, semaphores and queues, nor on other cores; then the boundary of the halt and the
CORE source. Where no instruction-memory write is held, that boundary touches no memory either (R217, R239, R241). A RUNNING core that waits
on nothing faults on what it cannot run: past the bank's end, an uncorrectable word, an OP or FN that the table does not have; of a word
that it can run, this command says nothing (R209, R212, R217). OP 0x00 is illegal. -/
def Obligations.ControlCoreFaults : Prop :=
  (∀ (d : Device) (c : CoreId) (st kind a : Nat), d.Sound →
    let k := d.core c
    let f := BitVec.ofNat 32 (2 ^ 31 + k.pc % 2 ^ 13 * 2 ^ 16 + st)
    (∃ d1 : Device, d.ctlFault c st kind a = (d1.boundary c).fireCore c ∧ d1.core c = { k with run := .halted, faulted := true } ∧
      (∀ c' : CoreId, c' ≠ c → d1.core c' = d.core c') ∧ d1.reg (Reg.CORE_FAULT c) = f ∧ d1.mem = d.mem) ∧
    (k.held = [] →
      let e := d.ctlFault c st kind a
      let k' := e.core c
      k'.run = .halted ∧ k'.faulted = true ∧ k'.pc = k.pc ∧ k'.sreg = k.sreg ∧ k'.scratch = k.scratch ∧ k'.sem = k.sem ∧ k'.staged = k.staged ∧
      k'.gate = none ∧ (∀ q, k'.queue q = k.queue q) ∧ (∀ c' : CoreId, c' ≠ c → e.core c' = d.core c') ∧
      e.reg (Reg.CORE_FAULT c) = f ∧ e.mem = d.mem)) ∧
  (∀ (s : State) (c : CoreId),
    let d := s.dev
    let k := d.core c
    let w := (k.imemWord k.bank k.pc).toNat
    k.run = .running → k.semWait = none →
    (8192 ≤ k.pc → exec (.illegalInstruction c) s = .next { s with dev := d.ctlFault c 0x0012 5 k.pc }) ∧
    (k.fetch = some w → legalOp w = false → exec (.illegalInstruction c) s = .next { s with dev := d.ctlFault c 0x0010 5 k.pc }) ∧
    (k.fetch = some w → legalOp w = true → exec (.illegalInstruction c) s = .next s) ∧
    (k.pc < 8192 → k.imemBad.contains ((8192 * k.bank + k.pc) / 2) → ∃ d', exec (.illegalInstruction c) s = .next { s with dev := d' } ∧
      (d'.core c).run = .halted ∧ d'.fld (Reg.CORE_FAULT c) 15 0 = 0x0021) ∧
    legalOp 0 = false)

/-- The host controls of a control core of a partition outside Standby, in each state (R239, R245): RESUME, HALT, SWITCH and START. Host
writes of the control core's own registers: CORE_SEM_n sets the count, a word of CORE_PSTAGE_n sets that word of the staged parameter and
its dirty bit, ones written to CORE_PDIRTY withdraw patches and leave the staged values (R230, R242, R248). -/
def Obligations.HostControlsOfCore : Prop :=
  (∀ (s : State) (c : CoreId), (s.dev.partOf c).isSome → s.dev.standby = false →
    let d := s.dev
    let k := d.core c
    let go := fun (f : Device → Device) (i : Instr) => s.Does i (f d)
    (k.run = .halted → go (·.modCore c (fun k => { k with run := .idle, faulted := false })) (.coreCtlResume c)) ∧
    (k.run = .running → go (fun d => (d.modCore c (fun k => { k with run := .halted })).boundary c) (.coreCtlHalt c)) ∧
    (k.run = .idle → go (·.modCore c (fun k => { k with run := .halted })) (.coreCtlHalt c)) ∧
    (k.run = .running → go (·.modCore c (fun k => { k with switchPending := true })) (.coreCtlSwitch c)) ∧
    (k.run ≠ .running → go (·.modCore c (fun k => { k with bank := 1 - k.bank })) (.coreCtlSwitch c)) ∧
    (k.run = .idle → d.closed (d.partNum c) = false → go (fun d => d.exitIdle.startActions c) (.coreCtlStart c)) ∧
    (k.run ≠ .idle → go (fun d => ((d.exitIdle.bump (Reg.CORE_MISSED c) 1).coreRecord c 0x0023 0 0).fireCore c) (.coreCtlStart c))) ∧
  (∀ (s : State) (c : CoreId) (n : Fin 64) (high : Bool) (v : Word),
    let go := fun (f : Core → Core) (i : Instr) => s.Does i (s.dev.modCore c f)
    go (fun k => { k with sem := Cells.set 0 k.sem n (v.toNat % 2 ^ 16) }) (.coreSemWrite c n v) ∧
    go (fun k =>
      let old := (Cells.get 0#64 k.staged n).toNat
      { k with
        staged := Cells.set 0#64 k.staged n (BitVec.ofNat 64
          (if high then v.toNat * 2 ^ 32 + old % 2 ^ 32 else old / 2 ^ 32 * 2 ^ 32 + v.toNat))
        dirty := k.dirty ||| (1#64 <<< n.val) }) (.corePstageWrite c n high v) ∧
    go (fun k => { k with dirty := k.dirty &&& ~~~(v.setWidth 64 <<< (if high then 32 else 0)) }) (.corePdirtyWithdraw c high v))

/-! ## Queues, gates, semaphores, the sync unit -/

/-- The rotating priority of a semaphore: the winner is the first covered requester from the pointer on, round the eight (R230). Grants: the
gated head that wins takes one unit and is released to its engine, and a waiting sy.wait that wins takes VALUE and retires; the pointer
moves past the winner (R226, R230). -/
def Obligations.GrantsGoToTheWinner : Prop :=
  (∀ (k : Core) (n r : Nat), Cells.get 0 k.semPtr n < 8 →
    (k.winner n = some r ↔ ∃ j, j < 8 ∧ r = (Cells.get 0 k.semPtr n + j) % 8 ∧ k.covered n r = true ∧
      ∀ i, i < j → k.covered n ((Cells.get 0 k.semPtr n + i) % 8) = false)) ∧
  (∀ (s : State) (c : CoreId) (n : Fin 64),
    let d := s.dev
    let k := d.core c
    (∀ r, k.winner n = some r → r < 6 →
      let k' := { (k.setSem n (k.semVal n - 1)) with semPtr := Cells.put k.semPtr n ((r + 1) % 8) }
      s.Does (.gateRelease c n) (d.setCore c (k'.setQueue r (grantHead (k.queue r))))) ∧
    (∀ e v, d.front c 5 = some e → k.request 7 = some (n.val, v) → k.winner n = some 7 →
      s.Does (.syWaitGrant c) ((d.setCore c { (k.setSem n (k.semVal n - v)) with semPtr := Cells.put k.semPtr n 0 }).retire c 5 e {})))

/-- A command that has been executed, and whose bytes are in place, retires: it leaves its queue, and one with SEN = 1 adds 1 to semaphore
SSEM whatever its status, held at 65,535 (R227, R228, R231). -/
def Obligations.RetirementSignals : Prop :=
  ∀ (s : State) (c : CoreId) (q : Fin 6) (e : QEntry) (r : CmdResult), s.dev.Sound →
    let d := s.dev
    let k := d.core c
    d.front c q = some e → e.result = some r → (q.val = 3 → k.engineIdle 0) → (q.val = 4 → k.engineIdle 1) →
    ∃ d', s.Does (.engineCommandRetire c q) d' ∧ (d'.core c).queue q = (k.queue q).tail ∧
      (∀ q', q' < 6 → q' ≠ q → (d'.core c).queue q' = k.queue q') ∧
      (∀ n, (d'.core c).semVal n = if e.gate.sen ∧ n = e.gate.ssem then min 65535 (k.semVal n + 1) else k.semVal n) ∧
      (d'.core c).sreg = k.sreg ∧ (d'.core c).vreg = k.vreg ∧ (d'.core c).scratch = k.scratch

/-- A copy whose slots are not free, and a command that has not been executed, do not retire; a command whose opcode its engine does not
have retires at the check (R228). An increment of a semaphore adds, up to 65,535; one that would carry it beyond leaves it there and raises
the record of R231. The sync unit takes the front command of SYQ that may run and has not started. sy.sig sends its increment, sy.wait
stands as a request, sy.time waits for its target, sy.bar arrives at its barrier: the arrival that makes COUNT moves the episode to those
awaiting release, and one whose COUNT differs ends with ST_BARRIER_MISMATCH (R233-R238). The ends of sync commands: an increment reaches its
target, where it is applied on port 7 or, of an older stroke number, discarded, and its sy.sig retires; the oldest full episode of a barrier
completes for every arrival; a sy.time that time has reached retires, with every other one reached (R236-R238, R344). -/
def Obligations.RetirementsAndSyncCommands : Prop :=
  (∀ (s : State) (c : CoreId) (q : Fin 6) (e : QEntry),
    let d := s.dev
    d.front c q = some e →
    (∀ r, e.result = some r → (q.val = 3 ∧ (d.core c).engineIdle 0 = false ∨ q.val = 4 ∧ (d.core c).engineIdle 1 = false) →
      s.Does (.engineCommandRetire c q) d) ∧
    (e.result = none → (e.open = false ∨ knownOp q e = true) → s.Does (.engineCommandRetire c q) d) ∧
    (e.result = none → e.open → knownOp q e = false → s.Does (.engineCommandRetire c q)
      (d.retire c q { e with started := true, since := d.cycles } { status := 0x0010, faults := [{ status := 0x0010 }] }))) ∧
  (∀ (d : Device) (c : CoreId) (n amount : Nat) (tag : Option Nat) (signaller port : Nat), d.Sound →
    let v := (d.core c).semVal n + amount
    (((d.semAdd c n amount tag signaller port).core c).semVal n = min 65535 v) ∧
    (v ≤ 65535 → d.semAdd c n amount tag signaller port = d.setCore c ((d.core c).setSem n v)) ∧
    (65535 < v → d.semAdd c n amount tag signaller port = (d.setCore c ((d.core c).setSem n 65535)).raise
      { status := 0x0025, source := 6, core := c, part := d.partNum c, index := n, tag := tag.getD 0, tagValid := tag.isSome
        stroke := d.coreStroke c, detail := signaller * 256 + port })) ∧
  (∀ (s : State) (c : CoreId) (e : QEntry), s.dev.ready c 5 = some e → e.started = false →
    let d := s.dev
    let x := e.c
    let e' := { e with started := true, since := d.cycles }
    let d' := d.setFront c 5 e'
    (e.opc = 0x01 → bits x 255 64 = 0 → bits x 47 45 = 0 → bits x 63 48 ≠ 0 → (d.partOf c).isSome →
      d.partOf (bits x 44 38) = d.partOf c → d.hasSlot (bits x 44 38) →
      s.Does (.sySig c) { d' with
        increments := d'.increments ++
        [{ source := c, core := bits x 44 38, sem := bits x 37 32, amount := bits x 63 48, stroke := e.stroke, tag := e.tag }] }) ∧
    (e.opc = 0x02 → bits x 255 64 = 0 → bits x 47 38 = 0 → bits x 63 48 ≠ 0 → s.Does (.syWait c) d') ∧
    (e.opc = 0x04 → bits x 255 129 = 0 → bits x 79 48 ≤ 999999999 → (x.testBit 128 → d.freeRunning (d.partNum c) = false) →
      s.Does (.syTime c) (d'.setFront c 5 { e' with target := d'.syTarget c e' })) ∧
    (e.opc = 0x03 → bits x 255 56 = 0 → bits x 47 41 = 0 → bits x 39 36 = 0 → 1 ≤ bits x 55 48 → bits x 55 48 ≤ 128 →
      bits x 55 48 ≤ d.barLimit c x →
      let n := bits x 55 48
      let b := (Cells.find? d.barriers (d.barKey c x)).getD {}
      (b.arrived ≠ [] → b.count ≠ n → s.Does (.syBar c) (d'.setFront c 5 { e' with result := some { status := 0x0026 } })) ∧
      (b.arrived = [] ∨ b.count = n →
        s.Does (.syBar c) { d' with
          barriers := Cells.put d'.barriers (d.barKey c x)
            (if n ≤ b.arrived.length + 1 then { b with count := n, arrived := [], full := b.full ++ [b.arrived ++ [c.val]] }
            else { b with count := n, arrived := b.arrived ++ [c.val] }) }))) ∧
  (∀ (s : State),
    let d := s.dev
    (∀ i n e, d.increments[i]? = some n → n.source < 128 → d.front n.source 5 = some e → n.isFrom e = true → d.Sound →
      let d' := { d with increments := d.increments.eraseIdx i }
      (strokeOlder n.stroke (d.coreStroke n.core) = false →
        s.Does (.semIncrementArrival i) ((d'.semAdd n.core n.sem n.amount (some n.tag) n.source 7).retire n.source 5 e {})) ∧
      (strokeOlder n.stroke (d.coreStroke n.core) = true → s.Does (.semIncrementArrival i) (d'.retire n.source 5 e {}))) ∧
    (∀ (key : Fin 512) b l rest, Cells.find? d.barriers key = some b → b.full = l :: rest →
      s.Does (.barrierRelease key) (l.foldl (fun d c => match d.front c 5 with
        | some e => if e.opc = 0x03 ∧ e.started ∧ e.result = none then d.retire c 5 e {} else d
        | none => d) { d with barriers := Cells.put d.barriers key { b with full := rest } })) ∧
    (∀ (c : CoreId) e, d.front c 5 = some e → e.opc = 0x04 → e.started → e.result = none →
      s.Does (.syTimeReached c) ((List.range 128).foldl (fun d i => match d.front i 5 with
        | some f => if f.opc = 0x04 ∧ f.started ∧ f.result = none ∧ f.target ≤ d.now then d.retire i 5 f {} else d
        | none => d) { d with now := max d.now e.target })))

/-- Stroke numbers compare serially: a is older than b when b lies 1 to 2^31 - 1 strokes ahead of it modulo 2^32 (R344). -/
def Obligations.StrokeNumbersCompareSerially : Prop :=
  ∀ a b : BitVec 32, strokeOlder a.toNat b.toNat = decide (1 ≤ (b - a).toNat ∧ (b - a).toNat < 2 ^ 31)

/-! ## The vector engine, the special functions and the scan network -/

/-- The element-wise, mask, selection, conversion and reduction rows: the command at the head of VXQ, its checks passed and VL not 0, does
the work of its row and waits for retirement with its result (R140-R147, R228). The memory rows, the special functions and the scan network
in the same way; vx.setvl also at VL = 0, and sf.eval of a user slot that is published and not being loaded (R128, R131-R138, R160,
R184-R203). -/
def Obligations.VectorCommandsRun : Prop :=
  (∀ (s : State) (c : CoreId) (e : QEntry), s.dev.ready c 2 = some e → (s.dev.core c).vl ≠ 0 →
    let d := s.dev
    ∀ p ∈ ([(.vxAdd c, vxFloatOp 0x00 2, d.floatWork c 2 (fun x => (nth x 0).add (nth x 1))),
        (.vxSub c, vxFloatOp 0x01 2, d.floatWork c 2 (fun x => (nth x 0).sub (nth x 1))),
        (.vxMul c, vxFloatOp 0x02 2, d.floatWork c 2 (fun x => (nth x 0).mul (nth x 1))),
        (.vxFma c, vxFloatOp 0x03 3, d.floatWork c 3 (fun x => ((nth x 0).mul (nth x 1)).add (nth x 2))),
        (.vxFms c, vxFloatOp 0x04 3, d.floatWork c 3 (fun x => ((nth x 0).mul (nth x 1)).sub (nth x 2))),
        (.vxFnma c, vxFloatOp 0x05 3, d.floatWork c 3 (fun x => ((nth x 0).mul (nth x 1)).neg.add (nth x 2))),
        (.vxMin c, vxFloatOp 0x06 2, d.floatWork c 2 (fun x => (nth x 0).minimum (nth x 1))),
        (.vxMax c, vxFloatOp 0x07 2, d.floatWork c 2 (fun x => (nth x 0).maximum (nth x 1))),
        (.vxAbs c, vxFloatOp 0x08 1, d.signWork c 1 (fun f x => nthBits x 0 % f.signBit)),
        (.vxNeg c, vxFloatOp 0x09 1, d.signWork c 1 (fun f x => nthBits x 0 ^^^ f.signBit)),
        (.vxCopysign c, vxFloatOp 0x0A 2, d.signWork c 2 (fun f x => nthBits x 0 % f.signBit + nthBits x 1 / f.signBit * f.signBit)),
        (.vxIadd c, vxIntOp 0x00 2, d.intWork c 2 (fun w x => wrapped w (sext w (nthBits x 0) + sext w (nthBits x 1)))),
        (.vxIsub c, vxIntOp 0x01 2, d.intWork c 2 (fun w x => wrapped w (sext w (nthBits x 0) - sext w (nthBits x 1)))),
        (.vxImul c, vxIntOp 0x02 2, d.intWork c 2 (fun w x => wrapped w (sext w (nthBits x 0) * sext w (nthBits x 1)))),
        (.vxIadds c, vxIntOp 0x03 2, d.intWork c 2 (fun w x => saturated w (sext w (nthBits x 0) + sext w (nthBits x 1)))),
        (.vxIsubs c, vxIntOp 0x04 2, d.intWork c 2 (fun w x => saturated w (sext w (nthBits x 0) - sext w (nthBits x 1)))),
        (.vxImin c, vxIntOp 0x05 2, d.intWork c 2 (fun w x => wrapped w (min (sext w (nthBits x 0)) (sext w (nthBits x 1))))),
        (.vxImax c, vxIntOp 0x06 2, d.intWork c 2 (fun w x => wrapped w (max (sext w (nthBits x 0)) (sext w (nthBits x 1))))),
        (.vxIabs c, vxIntOp 0x07 1, d.intWork c 1 (fun w x => saturated w ((sext w (nthBits x 0)).natAbs : Nat))),
        (.vxAnd c, vxIntOp 0x08 2, d.intWork c 2 (fun _ x => (nthBits x 0 &&& nthBits x 1, {}))),
        (.vxOr c, vxIntOp 0x09 2, d.intWork c 2 (fun _ x => (nthBits x 0 ||| nthBits x 1, {}))),
        (.vxXor c, vxIntOp 0x0A 2, d.intWork c 2 (fun _ x => (nthBits x 0 ^^^ nthBits x 1, {}))),
        (.vxShl c, vxIntOp 0x0B 2, d.intWork c 2 (fun w x => (nthBits x 0 * 2 ^ (nthBits x 1 % w) % 2 ^ w, {}))),
        (.vxShra c, vxIntOp 0x0C 2, d.intWork c 2 (fun w x => wrapped w (sext w (nthBits x 0) / 2 ^ (nthBits x 1 % w)))),
        (.vxShrl c, vxIntOp 0x0D 2, d.intWork c 2 (fun w x => (nthBits x 0 / 2 ^ (nthBits x 1 % w), {}))),
        (.vxIota c, vxIntOp 0x0E 0, d.iotaWork c),
        (.vxCmpEq c, cmpOp 0x00, d.cmpWork c (fun x y => x.eq y)), (.vxCmpNe c, cmpOp 0x01, d.cmpWork c (fun x y => !x.eq y)),
        (.vxCmpLt c, cmpOp 0x02, d.cmpWork c (fun x y => x.lt y)), (.vxCmpLe c, cmpOp 0x03, d.cmpWork c (fun x y => x.lt y || x.eq y)),
        (.vxCmpGt c, cmpOp 0x04, d.cmpWork c (fun x y => y.lt x)), (.vxCmpGe c, cmpOp 0x05, d.cmpWork c (fun x y => y.lt x || x.eq y)),
        (.vxCmpUno c, cmpOp 0x06, d.cmpWork c (fun x y => x.isNan || y.isNan)),
        (.vxMand c, maskOpOp 0x00 2, d.maskOpWork c (fun a b => a &&& b)), (.vxMor c, maskOpOp 0x01 2, d.maskOpWork c (fun a b => a ||| b)),
        (.vxMxor c, maskOpOp 0x02 2, d.maskOpWork c (fun a b => a ^^^ b)),
        (.vxMandn c, maskOpOp 0x03 2, d.maskOpWork c (fun a b => a &&& ~~~b)), (.vxMnot c, maskOpOp 0x04 1, d.maskOpWork c (fun a _ => ~~~a)),
        (.vxMset c, maskOpOp 0x05 0, d.maskOpWork c (fun _ _ => BitVec.allOnes 2048)),
        (.vxMclr c, maskOpOp 0x06 0, d.maskOpWork c (fun _ _ => 0#2048)),
        (.vxMcnt c, maskQueryOp 0x00, d.maskQueryWork c (fun m e => popCount m e)),
        (.vxMfirst c, maskQueryOp 0x01, d.maskQueryWork c (fun m e => (firstFrom (fun i => m.testBit i) 0 e).getD e)),
        (.vxSel c, selOp, d.selWork c), (.vxMov c, movOp, d.movWork c), (.vxCvt c, cvtOp, d.cvtWork c),
        (.vxRsum c, reduceOp 0x00, d.reduceWork c 0), (.vxRmax c, reduceOp 0x01, d.reduceWork c 1), (.vxRmin c, reduceOp 0x02, d.reduceWork c 2)]
        : List (Instr × VxOp × (Nat → Device × VxOut))),
      p.2.1.holds e = true → p.2.1.check (d.core c) e.c = none → s.Does p.1 (d.vxAfter c e (p.2.2 e.c))) ∧
  (∀ (s : State) (c : CoreId) (e : QEntry), s.dev.ready c 2 = some e →
    let d := s.dev
    let k := d.core c
    (setvlOp.holds e = true → setvlOp.check k e.c = none →
      s.Does (.vxSetvl c) ((d.modCore c (fun k => { k with vl := vxImm e.c })).setFront c 2
        { e with started := true, since := if e.started then e.since else d.cycles, result := some {} })) ∧
    (k.vl ≠ 0 →
      (∀ p ∈ ([(.vxLd c, ldOp, d.ldWork c), (.vxSt c, stOp, d.stWork c), (.vxLdcvt c, ldcvtOp, d.ldcvtWork c), (.vxStcvt c, stcvtOp, d.stcvtWork c),
          (.vxLdm c, ldmOp, d.ldmWork c), (.vxStm c, stmOp, d.stmWork c),
          (.sfExp c, sfOp (· == Fn.EXP), fun w => d.sfMap c w Fn.EXP []), (.sfExp2 c, sfOp (· == Fn.EXP2), fun w => d.sfMap c w Fn.EXP2 []),
          (.sfLog c, sfOp (· == Fn.LOG), fun w => d.sfMap c w Fn.LOG []), (.sfLog2 c, sfOp (· == Fn.LOG2), fun w => d.sfMap c w Fn.LOG2 []),
          (.sfRecip c, sfOp (· == Fn.RECIP), fun w => d.sfMap c w Fn.RECIP []), (.sfSqrt c, sfOp (· == Fn.SQRT), fun w => d.sfMap c w Fn.SQRT []),
          (.sfRsqrt c, sfOp (· == Fn.RSQRT), fun w => d.sfMap c w Fn.RSQRT []), (.sfTanh c, sfOp (· == Fn.TANH), fun w => d.sfMap c w Fn.TANH []),
          (.sfSigmoid c, sfOp (· == Fn.SIGMOID), fun w => d.sfMap c w Fn.SIGMOID []), (.sfErf c, sfOp (· == Fn.ERF), fun w => d.sfMap c w Fn.ERF []),
          (.sfGelu c, sfOp (· == Fn.GELU), fun w => d.sfMap c w Fn.GELU []), (.sfGeluTanh c, sfOp (· == Fn.GELU_TANH), fun w => d.sfMap c w Fn.GELU_TANH []),
          (.sfSilu c, sfOp (· == Fn.SILU), fun w => d.sfMap c w Fn.SILU []), (.sfSoftplus c, sfOp (· == Fn.SOFTPLUS), fun w => d.sfMap c w Fn.SOFTPLUS []),
          (.sfSin c, sfOp (· == Fn.SIN), fun w => d.sfMap c w Fn.SIN []), (.sfCos c, sfOp (· == Fn.COS), fun w => d.sfMap c w Fn.COS []),
          (.vxScanAdd c, scanOp 0, d.scanWork c 0), (.vxScanMax c, scanOp 1, d.scanWork c 1), (.vxScanMin c, scanOp 2, d.scanWork c 2),
          (.vxScanProd c, scanOp 3, d.scanWork c 3), (.vxScanLse c, scanOp 4, d.scanWork c 4), (.vxScanAffine c, scanOp 5, d.scanWork c 5),
          (.vxScanAffinePair c, scanOp 6, d.scanWork c 6), (.vxBscanAdd c, bscanOp 0, d.bscanWork c 0), (.vxBscanMax c, bscanOp 1, d.bscanWork c 1),
          (.vxBscanMin c, bscanOp 2, d.bscanWork c 2), (.vxBscanProd c, bscanOp 3, d.bscanWork c 3), (.vxBscanLse c, bscanOp 4, d.bscanWork c 4),
          (.vxBscanAffine c, bscanOp 5, d.bscanWork c 5), (.vxBscanAffinePair c, bscanOp 6, d.bscanWork c 6),
          (.vxCget c, cgetOp, d.cgetWork c), (.vxCset c, csetOp, d.csetWork c), (.vxRstat c, rstatOp, d.rstatWork c),
          (.vxRstatc c, rstatcOp, d.rstatcWork c), (.vxSmxMax c, smxMaxOp, d.smxMaxWork c), (.vxSmxSum c, smxSumOp, d.smxSumWork c)]
          : List (Instr × VxOp × (Nat → Device × VxOut))),
        p.2.1.holds e = true → p.2.1.check k e.c = none → s.Does p.1 (d.vxAfter c e (p.2.2 e.c))) ∧
      (let o := sfOp (fun f => decide (0x20 ≤ f) && decide (f ≤ 0x2F))
       let fn := vxFunc e.c % 64
       o.holds e = true → o.check k e.c = none → d.fnWaits c fn = false →
       (d.fnEmpty c fn = false → s.Does (.sfTab c) (d.vxAfter c e (d.sfMap c e.c fn (d.halfTable c (d.fnHalf c fn))))) ∧
       (d.fnEmpty c fn = true → s.Does (.sfTab c) (d.setFront c 2
        { e with started := true, since := if e.started then e.since else d.cycles, result := some { status := 0x0032 } })))))

/-- A vector command whose checks refuse it takes their first status and does nothing else, and one that passes them at VL = 0 does nothing
(R128, R152). -/
def Obligations.VectorChecksEndCommand : Prop :=
  ∀ (d : Device) (c : Nat) (o : VxOp) (f : Device → Nat → Device × VxOut) (e : QEntry), d.ready c 2 = some e → o.holds e = true →
    let k := d.core c
    let ended := fun r : CmdResult =>
      d.setFront c 2 { e with started := true, since := if e.started then e.since else d.cycles, result := some r }
    let badField := unusedSet o.used e.c = true ∨ (o.used.contains fMask ∧ ¬ vxMen e.c ∧ (vxMsel e.c ≠ 0 ∨ vxMz e.c)) ∨ o.field e.c = true
    let badFormat := o.fmtOk (vxFmt e.c) = false ∨ o.format e.c = true
    (badField → d.vx c o f = ended { status := 0x0010 }) ∧
    (¬ badField → badFormat → d.vx c o f = ended { status := 0x0011 }) ∧
    (¬ badField → ¬ badFormat → k.vl ≠ 0 → o.range k e.c = true → d.vx c o f = ended { status := 0x0012 }) ∧
    (¬ badField → ¬ badFormat → k.vl = 0 → d.vx c o f = ended {})

/-- Writing elements of a vector register under a mask: each element that is given takes its value, each that is not keeps its contents, and
every other register keeps all of its own (R125, R127, R129). An element-wise operation: element i below E of the destination becomes the
operation on element i of the sources where the mask enables it, zero where it does not and MZ is 1, and stays otherwise; nothing else of
the core or the device changes, and the tally adds the counts of the enabled elements alone (R127, R129, R140). -/
def Obligations.VectorWritesMergeAndMap : Prop :=
  (∀ (k : Core) (r fmt : Nat) (xs : List (Option Nat)), k.Sound → isReg fmt → xs.length ≤ 512 * perLane fmt →
    let n := perLane fmt
    let el := fun (k : Core) i => (laneElems n ((k.v r).getD (i / n) 0#32)).getD (i % n) 0
    let k' := k.putElems r fmt xs
    (∀ i, i < 512 * n → el k' i = match xs[i]? with
      | some (some x) => x % 2 ^ elemWidth fmt
      | _ => el k i) ∧
    (∀ r', r' ≠ r → k'.v r' = k.v r') ∧ (k'.v r).length = 512 ∧
    k' = { k with vreg := k'.vreg, vregBad := k'.vregBad } ∧ (∀ b ∈ k'.vregBad, b ∈ k.vregBad)) ∧
  (∀ (d : Device) (c : CoreId) (w : Nat) (srcs : List Nat) (f : List Nat → Nat × Tally), d.Sound → isReg (vxFmt w) → (d.core c).vl ≤ 512 →
    let k := d.core c
    let fmt := vxFmt w
    let n := perLane fmt
    let e := k.vl * n
    let on := fun i => vxMen w = false ∨ (k.m (vxMsel w)).toNat.testBit i = true
    let row := fun i => srcs.map (fun r => (k.elems r fmt k.vl).getD i 0)
    let el := fun (k : Core) i => (laneElems n ((k.v (vxVd w)).getD (i / n) 0#32)).getD (i % n) 0
    let d' := (d.vxMap c w srcs f).1
    let k' := d'.core c
    (∀ i, i < 512 * n →
      (i < e → on i → el k' i = (f (row i)).1 % 2 ^ elemWidth fmt) ∧
      (i < e → ¬ on i → el k' i = if vxMz w then 0 else el k i) ∧
      (e ≤ i → el k' i = el k i)) ∧
    (∀ r, r ≠ vxVd w → k'.v r = k.v r) ∧
    k' = { k with vreg := k'.vreg, vregBad := k'.vregBad } ∧ d' = d.setCore c k' ∧
    (∀ c' : CoreId, c' ≠ c → d'.core c' = d.core c'))

/-- The one rounding of every operation and conversion: a magnitude m scaled by 2^-j becomes the nearest integer, the even one of two
equally near, and scaled by 2^j it is exact (R56, R142). -/
def Obligations.RoundingIsToNearestEven : Prop :=
  ∀ m j : Nat,
    (let q := roundNat m (-(j : Int))
     2 * q * 2 ^ j ≤ 2 * m + 2 ^ j ∧ 2 * m ≤ 2 * q * 2 ^ j + 2 ^ j ∧
     (2 * m = 2 * q * 2 ^ j + 2 ^ j ∨ 2 * q * 2 ^ j = 2 * m + 2 ^ j → q % 2 = 0)) ∧
    roundNat m (j : Int) = m * 2 ^ j

/-! ## The matrix array and the siphon path -/

/-- mx.mm and sp.mv: a product at the front of its queue, its gate passed, without GANG or released by its gang, that its unit may run (the
array an mx.mm that R95 does not route, the siphon path what it has taken) ends at its checks with their status, or does its whole work and
waits for retirement with its result (R92-R95, R106, R109-R112). -/
def Obligations.MatrixProductsRun : Prop :=
  ∀ (s : State) (c : CoreId) (q : Nat) (e : QEntry), s.dev.ready c q = some e → e.opc = 0x01 →
    let d := s.dev
    let x := Mm.of e.c
    let g := d.mmDesc c x e
    let half := if e.desc.isSome then e.uses else d.fnHalf c (if x.readsDesc then g.fn else 0)
    let ended := fun (d : Device) (r : CmdResult) (half : Option Nat) =>
      d.setFront c q { e with started := true, since := if e.started then e.since else d.cycles, result := some r, uses := half }
    (x.gang = false ∨ (e.gang.isSome ∧ e.released = true)) →
    ∀ p ∈ ([(0, .mxMm c, x.routed = false, false, false), (0, .mxMm c, x.routed = true ∧ (d.core c).siphonBusy = some 0, false, true),
        (1, .spMv c, (d.core c).siphonBusy = some 1, x.auto, true)] : List (Nat × Instr × Prop × Bool × Bool)),
      q = p.1 → p.2.2.1 →
      (∀ st, x.check g (q == 1) p.2.2.2.1 = some st → s.Does p.2.1 (ended d { status := st } none)) ∧
      (x.check g (q == 1) p.2.2.2.1 = none → half.isSome →
        let r := d.mmBody c x g half p.2.2.2.1
        let siphon := p.2.2.2.2
        s.Does p.2.1 (ended r.1 (mxResult c r.2.1 r.2.2
          (x.emptyCount c ++ (if siphon && q == 0 then [(Reg.MX_SP_ROUTED c, 1)] else []))
          (if r.2.1 = 0 then
            (if siphon then (if x.noOut then [] else [(Reg.MX_SP_TILES_LO c, x.siphonTiles)]) else x.arrayCounts c e.desc.isSome) else [])) half))

/-- A GANG product that has not arrived is refused with ST_BAD_RANGE where its set leaves its partition, and otherwise latches its set and
waits; a release lets go, in one cycle, every waiting command of its queue all of whose set has arrived, and touches nothing else (R88-R90,
R110). At a command boundary the siphon path takes the front command of MXQ or SPQ, whichever its pointer meets first among those that ask;
a busy path takes none. An early start begins the second command of a queue while the first, executed, has not retired: it reads its
descriptor and its table half (R86, R106, R118). -/
def Obligations.GangsAndSiphon : Prop :=
  (∀ (s : State), s.dev.Sound →
    let d := s.dev
    (∀ (c : CoreId) (e : QEntry), ∀ p ∈ ([(0, .mxMm c), (1, .spMv c)] : List (Nat × Instr)), d.ready c p.1 = some e → e.opc = 0x01 →
      (Mm.of e.c).gang = true → e.gang = none →
      (d.gangOutside c = true → s.Does p.2 (d.setFront c p.1 { e with
        started := true, since := if e.started then e.since else d.cycles, result := some { status := 0x0012 } })) ∧
      (d.gangOutside c = false → (∃ i, i < 128 ∧ i ≠ c.val ∧ (d.gangSet c).testBit i) →
        s.Does p.2 (d.setFront c p.1 { e with gang := some (d.gangSet c), released := false }))) ∧
    (∀ p ∈ ([(0, .mxGangRelease), (1, .spGangRelease)] : List (Nat × Instr)), ∃ d', s.Does p.2 d' ∧ d' = { d with cores := d'.cores } ∧
      ∀ c : CoreId, d'.core c = if d.gangReady c p.1 then
        (d.core c).setQueue p.1 (markHead (fun e => { e with released := true }) ((d.core c).queue p.1)) else d.core c)) ∧
  (∀ (s : State) (c : CoreId), s.dev.Sound →
    let d := s.dev
    let k := d.core c
    (k.siphonBusy.isSome → s.Does (.siphonTakeCommand c) d) ∧
    (k.siphonBusy = none → k.siphonPtr < 2 → ∀ q e, d.front c q = some e →
      (q = k.siphonPtr ∧ d.siphonRequest c q = true ∨
        q = 1 - k.siphonPtr ∧ d.siphonRequest c q = true ∧ d.siphonRequest c k.siphonPtr = false) →
      ∃ d', s.Does (.siphonTakeCommand c) d' ∧ (d'.core c).siphonBusy = some q ∧ (d'.core c).siphonPtr = (q + 1) % 2 ∧
        d'.front c q = some { e with started := true, since := d.cycles } ∧ d'.fld (Reg.MX_SP_STATUS c) 23 0 = e.tag) ∧
    (∀ p ∈ ([(0, .mxEarlyStart c), (1, .siphonEarlyStart c)] : List (Nat × Instr)), ∀ e f, d.second c p.1 = some (e, f) →
      let xe := Mm.of e.c
      let xf := Mm.of f.c
      let gf := d.mmDesc c xf f
      let half := d.fnHalf c (if xf.readsDesc then gf.fn else 0)
      e.opc = 0x01 → f.opc = 0x01 → f.open = true → f.desc = none → (xf.gang = false ∨ f.released = true) →
      xf.check gf (p.1 == 1) (p.1 == 1 && xf.auto) = none → anyOverlap (xe.outputs (d.mmDesc c xe e)) (xf.inputs gf) = false →
      (p.1 = 1 ∨ xe.routed = false ∧ xf.routed = false) → half.isSome →
      s.Does p.2 (d.setSecond c p.1 { f with
        started := true, since := d.cycles, uses := half, desc := some (if xf.readsDesc then k.sramBytes xf.xAddr 32 else []) })))

/-- mx.wsum adds records into its destination and ends with the first event; mx.wfin rounds records through the glaze stage (R96-R98). -/
def Obligations.WindowCommandsRun : Prop :=
  ∀ (s : State) (c : CoreId) (e : QEntry), s.dev.ready c 0 = some e →
    let d := s.dev
    let x := e.c
    let ended := fun (d' : Device) (r : CmdResult) =>
      d'.setFront c 0 { e with started := true, since := if e.started then e.since else d.cycles, result := some r }
    (e.opc = 0x02 →
      let n := bits x 63 45
      let p : Span := ⟨bits x 127 110 * 32, n * 32⟩
      let q : Span := ⟨bits x 109 92 * 32, n * 32⟩
      let t : Span := ⟨bits x 91 74 * 32, n * 32⟩
      bits x 255 128 = 0 → bits x 73 64 = 0 → bits x 44 32 = 0 → p.overlaps q = false → (t.lo = p.lo ∨ t.overlaps p = false) →
      (t.lo = q.lo ∨ t.overlaps q = false) → p.outside = false → q.outside = false → t.outside = false →
      ∃ d' r, s.Does (.mxWsum c) (ended d' r) ∧
        (let rd := d.readSpans c [(⟨p.lo, 32 * n⟩, (· / 32)), (⟨q.lo, 32 * n⟩, (· / 32))]
         let sums := (List.range n).map (fun i => ((rd.1.core c).winRec (p.lo + 32 * i)).add ((rd.1.core c).winRec (q.lo + 32 * i)))
         let out := rd.1.recordRows c t.lo 0 0 [(0, sums.map (·.1))]
         d' = out.1 ∧ (rd.2 = [] → out.2.bad = [] → r.status = ((sums.map (·.2)).find? (· != 0)).getD 0))) ∧
    (e.opc = 0x03 →
      let y := wfinMm x
      let g := d.mmDesc c y e
      let fn := if y.readsDesc then g.fn else 0
      wfinCheck x g = none → d.fnWaits c fn = false → d.fnEmpty c fn = false →
      (y.noOut = true → s.Does (.mxWfin c) (ended d {})) ∧
      (y.noOut = false →
        let src := wfinSource x
        let lds := bits x 191 178
        let rd := d.readSpans c ([(⟨y.xAddr, 32⟩, fun _ => 0)] ++ (List.range y.m).map (fun m =>
          (⟨src.lo + m * lds * 32, y.n * 32⟩, fun o => m * y.n + o / 32)) ++ g.reads y.m y.n)
        let rows := (List.range y.m).map (fun m => (m, (List.range y.n).map (fun n =>
          ((rd.1.core c).winRec (src.lo + (m * lds + n) * 32)).value)))
        ∃ r, s.Does (.mxWfin c) (ended (rd.1.glazeRows c g (rd.1.core c) (rd.1.halfTable c (d.fnHalf c fn)) y.cAddr (y.ldc * 32) y.cfmt y.n rows).1 r) ∧
          r.status = if rd.2 = [] ∧ (rd.1.glazeRows c g (rd.1.core c) (rd.1.halfTable c (d.fnHalf c fn)) y.cAddr (y.ldc * 32) y.cfmt y.n rows).2.bad = []
            then 0 else 0x0021))

/-- The exact window accumulator: the order of the blocks does not change it, and a reduction split into two parts under one anchor, each
part recorded and the records added, gives the record of the whole, wherever the window holds the sum (R73-R75, R96). -/
def Obligations.WindowSumsAreOrderFreeAndSplitExact : Prop :=
  ∀ (a ws : Nat) (amax wmax : Option Nat) (t : Option Int),
    (∀ r r' q q' : List SBlock, (r.zip q).Perm (r'.zip q') → window a ws amax wmax r q = window a ws amax wmax r' q') ∧
    (∀ r₁ r₂ q₁ q₂ : List SBlock, r₁.length = q₁.length →
      let w₁ := window a ws amax wmax r₁ q₁
      let w₂ := window a ws amax wmax r₂ q₂
      w₁.w + w₂.w < 2 ^ 223 → -(2 ^ 223 : Int) ≤ w₁.w + w₂.w →
      (w₁.record t).add (w₂.record t) = ((window a ws amax wmax (r₁ ++ r₂) (q₁ ++ q₂)).record t, 0))

/-! ## Memory, the copy engines, table loads -/

/-- A write of bytes to DRAM, with no page held by a slice: the bytes read back, every other byte stays, a codeword covered whole loses its
poison and every other codeword keeps its own, and the pages are marked dirty (R287, R288, R476). -/
def Obligations.DramWritesReadBack : Prop :=
  ∀ (d : Device) (a : Nat) (bs : List Byte), d.Sound → Cells.wf (fun _ => false) d.poison = true → d.heldPages = [] → bs ≠ [] →
    let d' := (d.memWrite a bs).1
    d'.memBytes a bs.length = bs ∧
    (∀ x, (x < a ∨ a + bs.length ≤ x) → Cells.get 0#8 d'.mem x = Cells.get 0#8 d.mem x) ∧
    (∀ cw, Cells.get false d'.poison cw = if a ≤ 64 * cw ∧ 64 * cw + 64 ≤ a + bs.length then false else Cells.get false d.poison cw) ∧
    (∀ p, a / 0x10000 ≤ p → p ≤ (a + bs.length - 1) / 0x10000 → Cells.get false d'.dirty p = true) ∧
    d'.cores = d.cores ∧ d'.regs = d.regs ∧ d'.clusters = d.clusters

/-- The copy and cache commands: the command at the head of its engine's queue ends at its checks with their status, or does its whole work
and waits for its slots (R278-R282, R304-R324, R326). A cp.lin from local SRAM to local SRAM, whose source words are good: every destination
byte takes the source byte as it was before the command, also where the ranges overlap, and no other byte of local SRAM changes, nor another
core (R304). -/
def Obligations.CopyCommandsRun : Prop :=
  (∀ (s : State) (c : CoreId) (m : Fin 2) (e : QEntry), s.dev.ready c (3 + m) = some e →
    let d := s.dev
    let mode := bits e.c 86 85
    let ended := fun (r : Device × CmdResult) =>
      r.1.setFront c (3 + m) { e with started := true, since := if e.started then e.since else d.cycles, result := some r.2 }
    ∀ p ∈ ([(0x01, True, .cpLin c m, linCheck e.c, linRun), (0x02, True, .cpNd c m, d.ndCheck c e.c, ndRun),
        (0x03, True, .cpGather c m, (d.rowCopy c e.c).check e.c false, rowRun false),
        (0x04, mode ≠ 1, .cpScatterWrite c m, (d.rowCopy c e.c).check e.c true, rowRun true),
        (0x04, mode = 1, .cpScatterAdd c m, (d.rowCopy c e.c).check e.c true, rowRun true),
        (0x30, True, .cpRelease c m, cacheCheck e.c, cacheRun false), (0x31, True, .cpAcquire c m, cacheCheck e.c, cacheRun true)]
        : List (Nat × Prop × Instr × Option Nat × (CopyRun → Nat → CopyRun × Option CmdFault))),
      e.opc = p.1 → p.2.1 →
      (∀ st, p.2.2.2.1 = some st → s.Does p.2.2.1 (ended (d, copyRefused c st))) ∧
      (p.2.2.2.1 = none →
        let r := p.2.2.2.2 { d := d, c := c, p := d.partNum c, m := m } e.c
        s.Does p.2.2.1 (ended (r.1.finish r.2)))) ∧
  (∀ (s : State) (c : CoreId) (m : Fin 2) (e : QEntry), s.dev.Sound → s.dev.ready c (3 + m) = some e → e.opc = 0x01 →
    let k := s.dev.core c
    let src := bits e.c 255 208
    let dst := bits e.c 207 160
    let n := bits e.c 159 120
    bits e.c 119 32 = 0 → src < 0x800000 → dst < 0x800000 → src + n ≤ 0x800000 → dst + n ≤ 0x800000 →
    (∀ w ∈ k.sramBad ++ k.sramCe, ¬(8 * w < src + n ∧ src < 8 * w + 8)) →
    ∃ d', s.Does (.cpLin c m) d' ∧
      (∀ i, i < n → Cells.get 0#8 (d'.core c).sram (dst + i) = Cells.get 0#8 k.sram (src + i)) ∧
      (∀ x, (x < dst ∨ dst + n ≤ x) → Cells.get 0#8 (d'.core c).sram x = Cells.get 0#8 k.sram x) ∧
      (∀ c' : CoreId, c' ≠ c → d'.core c' = s.dev.core c') ∧ d'.mem = s.dev.mem ∧ d'.clusters = s.dev.clusters)

/-- cp.table: refused by its checks, or its load begins where R174 lets it, else it is held, and begins later once that holds; the load
checker publishes the half or refuses the load (R172-R175, R325). Publication: of an image that passes its checks the written half becomes
the published and valid one, GEN and SF_LOADS count and the command ends with ST_OK; one that fails leaves PUB and GEN, marks the half
invalid, is counted and noted, and ends with its status (R173, R175). -/
def Obligations.TableLoadsBeginAndPublish : Prop :=
  (∀ (s : State) (c : CoreId) (m : Fin 2) (e : QEntry), s.dev.ready c (3 + m) = some e → e.opc = 0x05 →
    let d := s.dev
    let e' := { e with started := true, since := d.cycles }
    (e.started = false →
      (∀ st, tableCheck e.c = some st →
        s.Does (.cpTable c m) (d.setFront c (3 + m) { e' with result := some { status := st } })) ∧
      (tableCheck e.c = none → d.mayLoad c (tabSlot e.c) = true → s.Does (.cpTable c m) (d.startLoad c m e')) ∧
      (tableCheck e.c = none → d.mayLoad c (tabSlot e.c) = false → s.Does (.cpTable c m) (d.setFront c (3 + m) e'))) ∧
    (e.started = true → e.uses = none → d.mayLoad c (tabSlot e.c) = true → s.Does (.tableLoadStart c m) (d.startLoad c m e)) ∧
    (∀ (slot : Fin 16) h, e.uses = some h → h / 2 = slot →
      (m = 1 → ∀ e0 h0, d.front c 3 = some e0 → e0.opc = 0x05 → e0.result = none → e0.uses = some h0 → h0 / 2 ≠ slot.val) →
      s.Does (.tablePublish c slot) (d.publish c m e h))) ∧
  (∀ (d : Device) (c : CoreId) (m : Fin 2) (e : QEntry) (h : Nat), d.Sound → h < 32 → d.front c (3 + m) = some e →
    let r := Reg.SF_SLOT c (h / 2)
    let t : Table := d.halfTable c (some h)
    let d' := d.publish c m e h
    (t.imageBytes = bits e.c 207 168 → t.check = none →
      d'.fld r 28 28 = h % 2 ∧ d'.flag r (30 - h % 2) = true ∧ d'.flag r 31 = false ∧ d'.fld r 23 16 = (d.fld r 23 16 + 1) % 256 ∧
      (d'.reg (Reg.SF_LOADS c)).toNat = min 0xFFFFFFFF ((d.reg (Reg.SF_LOADS c)).toNat + 1) ∧
      d'.front c (3 + m) = some { e with result := some {} }) ∧
    ((t.imageBytes ≠ bits e.c 207 168 ∨ t.check.isSome) →
      d'.fld r 28 28 = d.fld r 28 28 ∧ d'.fld r 23 16 = d.fld r 23 16 ∧ d'.flag r (30 - h % 2) = false ∧ d'.flag r 31 = false ∧
      (d'.reg (Reg.SF_REFUSED c)).toNat = min 0xFFFFFFFF ((d.reg (Reg.SF_REFUSED c)).toNat + 1) ∧
      (d'.reg (Reg.SF_REFUSE_TAG c)).toNat = 2 ^ 31 + e.tag))

/-- Request slots and patrol: a response frees its slot, a confirmed withdrawal the slot of a cancelled request, waiting requests then take
slots, 512 at most; a controller scrubs a codeword of HBM or of a chiplet in service (R289, R292, R294-R298). -/
def Obligations.RequestSlotsAndPatrol : Prop :=
  ∀ (s : State) (c : CoreId) (i : Nat),
    let d := s.dev
    let k := d.core c
    let freed := (d.modCore c (fun k => { k with slots := k.slots.eraseIdx i })).pumpSlots c
    s.Does (.requestResponse c i) freed ∧
    (∀ x, k.slots[i]? = some x → x.withdrawn = true → s.Does (.requestWithdrawalConfirm c i) freed) ∧
    (∀ x, k.slots[i]? = some x → x.withdrawn = false → s.Does (.requestWithdrawalConfirm c i) d) ∧
    (d.Sound → k.slots.length ≤ 512 → (freed.core c).slots.length ≤ 512) ∧
    (∀ cw, 64 * cw < 0x6000000000 → s.Does (.patrolScrub cw) (d.readCodewords cw 1).1) ∧
    (∀ cw (chiplet : Fin 2), 0x10000000000 + 0x8000000000 * chiplet.val ≤ 64 * cw → 64 * cw < 0x18000000000 + 0x8000000000 * chiplet.val →
      d.cisOnline chiplet = true → s.Does (.patrolScrub cw) (d.readCodewords cw 1).1)

/-! ## Device time and strokes -/

/-- Device time is stepped by a write of STEP when no schedule is ARMED, RUNNING or STOPPING, to the value of TIM_SET, and TIM_STEPS counts;
otherwise the write does nothing but set STEP_REFUSED. A read of TIM_NOW_0 latches the layout of device time for its function (R333, R336,
R361). -/
def Obligations.DeviceTimeStepsAndLatches : Prop :=
  ∀ (s : State) (fn : FnId), s.dev.Sound →
    let d := s.dev
    let x := (d.reg Reg.TIM_SET_0).toNat + 2 ^ 32 * (d.reg Reg.TIM_SET_1).toNat + 2 ^ 64 * (d.reg Reg.TIM_SET_2).toNat
    ((∃ p : PartId, d.stkState p ≠ 0) → s.Does .timStep (d.setFlag Reg.TIM_STATUS 23 true)) ∧
    ((∀ p : PartId, d.stkState p = 0) → ∃ d', s.Does .timStep d' ∧
      (bits x 47 16 < 1000000000 → d'.now = bits x 95 48 * secUnit + bits x 47 16 * nsUnit + bits x 15 0) ∧
      (d'.reg Reg.TIM_STEPS).toNat = min 0xFFFFFFFF ((d.reg Reg.TIM_STEPS).toNat + 1) ∧
      d' = { d with now := d'.now, regs := d'.regs } ∧ (∀ r, r ≠ Reg.TIM_STEPS → d'.reg r = d.reg r)) ∧
    ∃ d', s.Does (.timNowRead fn) d' ∧ d' = { d with regs := d'.regs } ∧
      (d'.reg (timLatch fn 0)).toNat = timeLayout d.now % 2 ^ 32 ∧ (d'.reg (timLatch fn 1)).toNat = timeLayout d.now / 2 ^ 32 % 2 ^ 32 ∧
      (d'.reg (timLatch fn 2)).toNat = timeLayout d.now / 2 ^ 64 % 2 ^ 32

/-- A write of TIM_CTL.SRC moves the lock state: a reserved value, or the one in force, changes nothing; NONE gives FREERUN; from LOCKED or
HOLDOVER another source gives HOLDOVER, from FREERUN or ACQUIRING it gives ACQUIRING. Device time is not stepped and the rate adjustment is
kept; a change of state fires the time-state source (R342). -/
def Obligations.SourceChangeMovesLock : Prop :=
  ∀ (s : State) (src : Fin 8), s.dev.Sound →
    let d := s.dev
    ((src.val ≥ 4 ∨ src.val = d.timeSrc) → s.Does (.timSrcWrite src) d) ∧
    (src.val < 4 → src.val ≠ d.timeSrc → ∃ d', s.Does (.timSrcWrite src) d' ∧ d'.timeSrc = src ∧
      d'.lock = (if src = 0 then 0 else if d.lock = 2 ∨ d.lock = 3 then 3 else 1) ∧
      d'.now = d.now ∧ d'.reg Reg.TIM_SLEW = d.reg Reg.TIM_SLEW ∧ d'.strokes = d.strokes ∧
      (d'.lock ≠ d.lock → d.evtState 0x001 = 0 → d'.evtState 0x001 = 1) ∧ (d'.lock = d.lock → d'.evtState 0x001 = d.evtState 0x001))

/-- The measurements of the offset. A one-step Sync, or a two-step one with its Follow_Up, of the chosen master, in the domain and over the
transport in force, on the PTP port, and a PPS edge under PPS_REF or PPS, each give one measurement; sixteen in a row within 40 ns lock; a
Sync makes a waiting configuration take effect first (R339-R343). The servo's rate adjustment stays within 100 parts per million, whatever
rate the unit chooses, and a measurement within 40 ns locks exactly when it is the sixteenth in a row of an acquiring or holding clock
(R335, R341). The other messages and events of the time unit: an Announce that is better than the master's, or the master's own, is taken; a
Delay_Req goes out with its departure time; its Delay_Resp gives half of the two transit times; a configuration write waits for the next
Sync and, where DOMAIN or TRANSPORT changes under PTP, unlocks; a source that times out takes LOCKED to HOLDOVER (R339-R341, R361). -/
def Obligations.TimeMessagesAndMeasurements : Prop :=
  (∀ (s : State) (port : PortId) (domain : Fin 128) (transport : Fin 3) (sender : Nat) (seq : Fin 65536) (stamp : Nat) (corr : Int) (ref : Bool),
    let d := s.dev
    let d1 := { d with tim := { d.tim with cfg := d.reg Reg.TIM_PTP_CFG } }.showPtpPort
    let mine := fun d : Device => d.ptpMine port domain transport = true ∧ d.ptpFromMaster sender = true
    (mine d1 →
      s.Does (.ptpSync port domain transport sender seq stamp corr true)
        { d1 with tim := { d1.tim with sync := some { seq := seq, rx := d1.now, corr := corr } } } ∧
      s.Does (.ptpSync port domain transport sender seq stamp corr false)
        ({ d1 with tim := { d1.tim with t1 := stamp + corr, t2 := d1.now, sync := none } }.measure (d1.now - (stamp + corr) - d1.tim.pathDelay))) ∧
    (¬ mine d1 → s.Does (.ptpSync port domain transport sender seq stamp corr false) d1) ∧
    (∀ y, d.tim.sync = some y → mine d → y.seq = seq.val →
      s.Does (.ptpFollowUp port domain transport sender seq stamp corr)
        ({ d with tim := { d.tim with t1 := stamp + corr + y.corr, t2 := y.rx, sync := none } }.measure
          (y.rx - (stamp + corr + y.corr) - d.tim.pathDelay))) ∧
    (let d2 := (d.setFlag Reg.TIM_STATUS 29 true).setFlag Reg.TIM_STATUS 28 ref
     let r := d2.now % secUnit
     (d2.timeSrc = 2 ∨ d2.timeSrc = 3 → s.Does (.ppsEdge ref) (d2.measure (if 2 * r < secUnit then (r : Int) else (r : Int) - secUnit))) ∧
     (d2.timeSrc = 0 ∨ d2.timeSrc = 1 → s.Does (.ppsEdge ref) { d2 with tim := { d2.tim with lastEdge := d2.now } }))) ∧
  (∀ (d : Device) (off : Int), d.Sound →
    let d' := d.measure off
    let near := -(40 * 65536 : Int) ≤ off ∧ off ≤ 40 * 65536
    (-100000 ≤ sext 32 (d'.reg Reg.TIM_SLEW).toNat ∧ sext 32 (d'.reg Reg.TIM_SLEW).toNat ≤ 100000) ∧
    (near → d'.tim.inBound = d.tim.inBound + 1) ∧ (¬ near → d'.tim.inBound = 0) ∧
    d'.lock = (if near ∧ 15 ≤ d.tim.inBound ∧ (d.lock = 1 ∨ d.lock = 3) then 2 else d.lock) ∧
    (d.tim.lockedOnce = true ∨ d.anySchedule = true → d'.now = d.now) ∧
    (d.tim.lockedOnce = false → d.anySchedule = false → near → 15 ≤ d.tim.inBound → (d.lock = 1 ∨ d.lock = 3) → d'.now = ((d.now : Int) - off).toNat)) ∧
  (∀ (s : State) (port : PortId) (domain : Fin 128) (transport : Fin 3) (sender : Nat) (seq : Fin 65536) (stamp : Nat) (corr : Int) (m : PtpMaster)
    (v : Word), s.dev.Sound →
    let d := s.dev
    (d.ptpMine port domain transport = true → m.sender = sender → (∀ b, d.tim.master = some b → b.sender = sender ∨ m.better b = true) →
      s.Does (.ptpAnnounce port domain transport sender m.priority1 m.clockClass m.accuracy m.variance m.priority2 m.identity m.steps)
        { d with tim := { d.tim with master := some m } }) ∧
    (d.timeSrc = 1 → d.ptpPort < 8 → d.tim.master.isSome →
      s.Does .ptpDelayReq { d with tim := { d.tim with delayReq := some (d.tim.delaySeq, d.now), delaySeq := (d.tim.delaySeq + 1) % 65536 } }) ∧
    (∀ t3, d.tim.delayReq = some (seq.val, t3) → d.ptpMine port domain transport = true → d.ptpFromMaster sender = true →
      s.Does (.ptpDelayResp port domain transport sender seq stamp corr)
        { d with tim := { d.tim with pathDelay := ((d.tim.t2 - d.tim.t1) + ((stamp : Int) - corr - t3)) / 2, delayReq := none } }) ∧
    (∃ d', s.Does (.timPtpCfgWrite v) d' ∧ (d'.reg Reg.TIM_PTP_CFG).toNat = v.toNat &&& 0x3FF7F ∧ d'.tim.cfg = d.tim.cfg ∧ d'.now = d.now ∧
      d'.lock = (if d.timeSrc = 1 ∧ (bits v.toNat 6 0 ≠ d.fld Reg.TIM_PTP_CFG 6 0 ∨ bits v.toNat 17 16 ≠ d.fld Reg.TIM_PTP_CFG 17 16)
        then (if d.lock = 2 ∨ d.lock = 3 then 3 else 1) else d.lock)) ∧
    (∃ d', s.Does .timeSourceTimeout d' ∧ d'.lock = (if d.lock = 2 then 3 else d.lock) ∧ d'.tim.inBound = 0 ∧
      d'.reg Reg.TIM_SLEW = d.reg Reg.TIM_SLEW))

/-- ARM in FREE with a schedule that passes its checks makes the shadow active and chooses the first stroke: the smallest one that begins at
least 10 µs later; its number is FIRST plus its count, modulo 2^32 (R349, R350). -/
def Obligations.ArmChoosesFirstStroke : Prop :=
  ∀ (s : State) (p : PartId), s.dev.Sound →
    let d := s.dev
    d.standby = false → d.noImage 1 = false → d.noImage 3 = false → d.stkState p = 0 → d.schedCheck p (d.shadow p) = none →
    ∃ d', s.Does (.stkArm p) d' ∧ d'.stkState p = 1 ∧ (d'.stroke p).active = d.shadow p ∧
      (let start := fun k : Nat => d.startTime p + k * (schedPeriod (d.shadow p) * nsUnit)
       let k := (d'.stroke p).next
       start k ≥ d.now + 10000 * nsUnit ∧ (∀ j, j < k → start j < d.now + 10000 * nsUnit) ∧
       d'.strokeAt p k = ((d.reg (Reg.STK_FIRST p)).toNat + k) % 2 ^ 32)

/-- The other controls of a schedule: an ARM outside FREE or with a schedule that fails its checks is refused and noted in ERR; STOP takes
ARMED to FREE and RUNNING to STOPPING; COMMIT is pending in ARMED and RUNNING alone; STK_START and STK_FIRST are written in FREE and refused
otherwise (R349, R351, R352). The phase actions: an entry of the stroke in progress fires once, not before its offset and not after the
sluice, counts in STK_FIRED, and does what its action says: a gang start reaches every core of the partition that has a slot, a replay start
those of its core set; windows open and close; a checkpoint is asked for in every k-th stroke; an event fires where it may; an argument that
a unit refuses leaves a record (R347, R348, R367, R545). A stroke start: STK_NUM takes the next number, a pending COMMIT is checked and
applied, the sluice reopens, and the stroke begins where the partition is drained and empty and is otherwise skipped, counted and recorded
(R351, R358). -/
def Obligations.SchedulesAndTheirStrokes : Prop :=
  (∀ (s : State) (p : PartId) (word : Fin 4) (v : Word),
    let d := s.dev
    let refusal := fun (st entry : Nat) =>
      (((d.setFlag (Reg.STK_STATUS p) 27 true).setFld (Reg.STK_STATUS p) 24 16 entry).setFld (Reg.STK_STATUS p) 15 0 st).firePart p 2
    (d.stkState p ≠ 0 → s.Does (.stkArm p) (refusal 0x0019 0x100)) ∧
    (d.standby = false → d.noImage 1 = false → d.noImage 3 = false → d.stkState p = 0 →
      ∀ st i, d.schedCheck p (d.shadow p) = some (st, i) → s.Does (.stkArm p) (refusal st i)) ∧
    (d.stkState p = 0 → s.Does (.stkStop p) d) ∧
    (d.stkState p = 1 → s.Does (.stkStop p) (d.setStk p 0)) ∧
    (d.stkState p = 2 → s.Does (.stkStop p) (d.setStk p 3)) ∧
    (d.stkState p = 1 ∨ d.stkState p = 2 → s.Does (.stkCommit p) (d.setFlag (Reg.STK_CTL p) 3 true)) ∧
    (d.stkState p = 0 ∨ d.stkState p = 3 → s.Does (.stkCommit p) d) ∧
    (d.stkState p = 0 → s.Does (.stkStartWrite p word v) (d.setReg (Reg.STK_START_0 p + 4 * word) v)) ∧
    (d.stkState p ≠ 0 → s.Does (.stkStartWrite p word v) (refusal 0x0019 0x100))) ∧
  (∀ (s : State) (p : PartId) (i : Fin 256),
    let d := s.dev
    let k := d.stroke p
    let e := schedEntry k.active i
    let d1 := ((d.reach (d.startOf p k.cur + e.offset * nsUnit)).setStroke p { k with fired := k.fired ++ [i.val] }).bump (Reg.STK_FIRED p) 1
    let cores := fun mask : Nat => ((d1.coresOf p).filter (fun c => mask.testBit c && d1.hasSlot c)).foldl (fun d c => d.replayStart c) d1
    let w := e.arg % 0x10000
    let record := fun (st source detail : Nat) =>
      d1.raise { status := st, source := source, part := p, index := i, stroke := d1.strokeOf p, detail := detail }
    (d.stkState p = 2 ∨ d.stkState p = 3) → k.begun = true → d.closed p = false → i.val < schedNent k.active → i.val ∉ k.fired →
    (e.action = 1 → s.Does (.gangStart p i) (cores (2 ^ 128 - 1))) ∧
    (e.action = 2 → s.Does (.replayStart p i) (cores (schedSet (d1.stroke p).active e.cset))) ∧
    (e.action = 3 → s.Does (.bucketOpen p i) (if w ≤ 255 then d1.windowOpen p w else record 0x0010 7 3)) ∧
    (e.action = 4 → s.Does (.bucketClose p i) (if w ≤ 255 then d1.windowClose p w else record 0x0010 7 4)) ∧
    (e.action = 5 → s.Does (.checkpoint p i)
      (if d1.strokeOf p % (bits e.arg 15 8 + 1) = 0 then d1.setStroke p { d1.stroke p with ckpt := some (bits e.arg 7 0) } else d1)) ∧
    (e.action = 6 → s.Does (.event p i) (if d1.mayRaise p (bits e.arg 11 0) then d1.fire (bits e.arg 11 0) else record 0x0014 18 e.arg))) ∧
  (∀ (s : State) (p : PartId),
    let d := s.dev
    let k := d.stroke p
    (d.stkState p = 1 ∨ (d.stkState p = 2 ∧ d.closed p = true)) →
    let d1 := { d with now := max d.now (d.startOf p k.next).toNat }.setReg (Reg.STK_NUM p) (BitVec.ofNat 32 (d.strokeAt p k.next))
    let d2 := (((d1.setStroke p { k with cur := k.next, next := k.next + 1 }).setStk p 2).applyCommit p).setFlag (Reg.STK_STATUS p) 29 false
    let d3 := ((d2.redStrokeStart p).aqStrokeStart p).updStrokeStart p
    let k3 := d3.stroke p
    s.Does (.strokeStart p)
      (if d3.flag (Reg.STK_STATUS p) 28 = true ∧ d3.partEmpty p = true ∧ k3.blocked = false then
        (d3.setStroke p { k3 with fired := [], ckpt := none, blocked := false, begun := true }).bump64 (Reg.STK_STROKES_LO p) 1
      else
        (((d3.setStroke p { k3 with fired := [], ckpt := none, blocked := false, begun := false }).bump (Reg.STK_SKIPPED p) 1).raise
          { status := 0x0027, source := 7, part := p, index := 0x100, stroke := d3.strokeOf p }).firePart p 1))

/-- The sluice closes at T_start of the next stroke less the guard: CLOSED is set, DRAINED cleared, every core of the partition is stopped
and every queued command of it cancelled, whatever stroke it bears; the reduction and update sequencers settle (R246, R353). The end of a
drain: with every queue and slot of the partition empty, its semaphores are cleared, DRAINED is set, a longer drain is noted, and a STOPPING
schedule becomes FREE; a partition that is not empty does not end its drain (R354, R349). -/
def Obligations.SluicesCancelAndDrainsClear : Prop :=
  (∀ (s : State) (p : PartId), s.dev.Sound → (s.dev.stkState p = 2 ∨ s.dev.stkState p = 3) → s.dev.closed p = false →
    let d := s.dev
    let k := d.stroke p
    let t := (d.startOf p k.next - (d.guard p : Int)).toNat
    let d1 := ({ d with now := max d.now t }.setFlag (Reg.STK_STATUS p) 29 true).setFlag (Reg.STK_STATUS p) 28 false
    let d2 := (d1.coresOf p).foldl (fun d c => d.coreSluice p c) d1
    s.Does (.sluice p) (((d2.redSluice p t).updSluice p).setStroke p { k with draining := some t }) ∧
    (∀ c : CoreId, c.val ∈ d.coresOf p → (∀ q, (d2.core c).queue q = []) ∧ (d2.core c).run ≠ .running ∧ (d2.core c).sreg = (d.core c).sreg ∧
      (d2.core c).scratch = (d.core c).scratch)) ∧
  (∀ (s : State) (p : PartId) (t : Nat), s.dev.Sound → (s.dev.stroke p).draining = some t →
    let d := s.dev
    (d.partEmpty p = false → s.Does (.drainComplete p) d) ∧
    (d.partEmpty p = true → ∃ d', s.Does (.drainComplete p) d' ∧ d'.flag (Reg.STK_STATUS p) 28 = true ∧ (d'.stroke p).draining = none ∧
      (∀ (c : CoreId) n, c.val ∈ d.coresOf p → (d'.core c).semVal n = 0) ∧
      (∀ c : CoreId, c.val ∉ d.coresOf p → d'.core c = d.core c) ∧
      d'.stkState p = (if d.stkState p = 3 then 0 else d.stkState p) ∧
      (let ns := min 0xFFFFFFFF (ceilDiv (d.now - t) nsUnit)
       (d'.reg (Reg.STK_DRAIN_MAX p)).toNat = max ns (d.reg (Reg.STK_DRAIN_MAX p)).toNat)))

/-! ## Reduction -/

/-- A piece and a settle record that may arrive. A piece for a slot whose side has not come is buffered, or, as the second of its sides,
handled at once; one whose side has come, or has been declared missing, or a second one for the owner, is discarded and counted; the owner
writes the first of each piece, and completes with the last. A settle record goes on to a slot's parent, and clears the owner's mask. A
message that no open bucket takes counts in RED_NOCTX, one of an older stroke in RED_STALE (R376, R383, R389, R393). -/
def Obligations.ReductionMessagesArrive : Prop :=
  ∀ (s : State) (j : Nat) (m : RedMsg), s.dev.red.net[j]? = some m → RedMsg.mayArrive s.dev.red.net j = true →
    let d := { s.dev with red := { s.dev.red with net := s.dev.red.net.eraseIdx j } }
    let row := if m.piece then Instr.pieceArrival j else Instr.settleRecord j
    let stroke := leAt m.bytes 4 4
    let open' := d.flag (Reg.RED_CTL m.part) 0 = true ∧ d.standby = false
    (strokeOlder stroke (d.strokeOf m.part) = true → s.Does row (d.bump (Reg.RED_STALE m.part) 1)) ∧
    (strokeOlder stroke (d.strokeOf m.part) = false → ¬ open' ∨ d.redFind m.part (leAt m.bytes 0 2) stroke = none →
      s.Does row (d.bump (Reg.RED_NOCTX m.part) 1)) ∧
    (∀ i b, strokeOlder stroke (d.strokeOf m.part) = false → open' → d.redFind m.part (leAt m.bytes 0 2) stroke = some i → d.bucket i = some b →
      let h := PieceHdr.ofBytes m.bytes
      let fits := h.piece < b.npiece ∧ h.xfmt = b.xfmt ∧ h.nelem = b.nelem h.piece ∧
        (h.absent = true ∨ m.bytes.length = 32 + payloadBytes b.xfmt h.nelem)
      let k := b.slots.findIdx (fun x => x.num == destSlot m.dest)
      let right := destRight m.dest
      (m.piece = true → ¬ fits → s.Does row (d.bump (Reg.RED_NOCTX m.part) 1)) ∧
      (m.piece = true → fits → destOwner m.dest = false → ∀ x, b.slots[k]? = some x →
        let x' := x.setSide right h.piece (if h.absent then .absent else .present (m.bytes.take 32))
        let kept := if h.absent then d else d.redPut b (x.place b.xfmt right h.piece) m.bytes
        (x.side right h.piece = none → x.side (!right) h.piece = none → s.Does row (kept.setSlot i k x').redFree) ∧
        (x.side right h.piece = none → (x.side (!right) h.piece).isSome →
          let e := if b.xfmt = xStat then kept else d
          let x' := { x' with sent := x'.sent + 1 }
          s.Does row ((e.setSlot i k x').slotResolve b x' h.piece (if h.absent then none else some (right, m.bytes.drop 32))).redFree) ∧
        (x.side right h.piece = some .missing → s.Does row (d.bump (Reg.RED_LATE b.part) 1).redFree) ∧
        (∀ y, x.side right h.piece = some y → y ≠ .missing →
          s.Does row ((d.bump (Reg.RED_DUP b.part) 1).redFault b.part b.stroke b.tag 0x0050 x.num 0).redFree)) ∧
      (destOwner m.dest = true → ∀ o, b.owner = some o →
        (m.piece = true → fits → o.done = false → Cells.find? o.got h.piece = none →
          let o' := { o with got := Cells.put o.got h.piece (m.bytes.take 32) }
          let e := (d.ownerStore b o' h m.bytes).setBucket i { b with owner := some o' }
          s.Does row (if o'.got.length ≥ b.npiece then e.ownerComplete i false else e).redFree) ∧
        (m.piece = true → fits → o.done = true → s.Does row (d.bump (Reg.RED_LATE b.part) 1).redFree) ∧
        (m.piece = true → fits → o.done = false → (Cells.find? o.got h.piece).isSome →
          s.Does row ((d.bump (Reg.RED_DUP b.part) 1).redFault b.part b.stroke b.tag 0x0050 0xFFFF 0).redFree) ∧
        (m.piece = false → o.done = false →
          let o' := { o with mask := clearBits o.mask (leAt m.bytes 8 4) (min (leAt m.bytes 12 4) b.nleaf) }
          s.Does row ((d.ownerMask b o').setBucket i { b with owner := some o' }).redFree)) ∧
      (m.piece = false → destOwner m.dest = false → ∀ x, b.slots[k]? = some x → rankDown x.parent = false →
        s.Does row (d.redSend b (0x10000 + x.num) x.parent x.pslot false m.bytes)))

/-- What a slot makes of a piece whose sides are resolved: two present sides give the sum, counted once, whose header adds the counts and
joins the flags; one present side is forwarded with SETTLED; none gives an ABSENT piece. What is forwarded goes to the parent, unless its
rank is DOWN, and counts in RED_SETTLED where it is settled or withheld (R376, R380, R387, R388, R391). The windows, the settling commands,
the deadlines and the fill records. In a partition whose schedule is FREE the commands act, otherwise they do nothing but set ERR; SETTLE
settles the bucket at the present time; a slot's deadline declares both its sides missing, a DOWN child's side alone at the sluice; the
owner's deadline completes the bucket INCOMPLETE; the first write that fills an armed leaf sends its pieces (R368, R386, R392, R395). -/
def Obligations.ReductionSlotsAndDeadlines : Prop :=
  (∀ (d : Device) (b : Bucket) (x : RedSlot) (i : Nat) (bs : List Byte),
    let forward := fun (d : Device) (settled : Bool) (bs : List Byte) =>
      let e := if settled ∨ rankDown x.parent then d.bump (Reg.RED_SETTLED b.part) 1 else d
      if rankDown x.parent then e else e.redSend b (0x10000 + x.num) x.parent x.pslot true bs
    (∀ hl hr, x.side false i = some (.present hl) → x.side true i = some (.present hr) → b.xfmt ≠ xStat →
      let l := d.slotRead b x false i
      let sum := sumPayload b.xfmt (b.nelem i) l.2.1 bs
      let a := PieceHdr.ofBytes hl
      let c := PieceHdr.ofBytes hr
      let h := { a with
        count := a.count + c.count, dest := x.pslot, absent := false, skew := a.skew || c.skew || decide (a.step ≠ c.step),
        exc := a.exc || c.exc || l.2.2, rescaled := a.rescaled || c.rescaled, settled := a.settled || c.settled, nresc := sum.2.2 }
      d.slotResolve b x i (some (true, bs)) =
        forward (((l.1.redPut b (x.place b.xfmt false i) (h.bytes ++ sum.1)).redCount b.part sum.2.1).bump64 (Reg.RED_SUMMED_LO b.part) 1) false
          (h.bytes ++ sum.1)) ∧
    (∀ hl, x.side false i = some (.present hl) → (x.side true i = some .absent ∨ x.side true i = some .missing) →
      d.slotResolve b x i (some (false, bs)) =
        forward d true ({ PieceHdr.ofBytes hl with dest := x.pslot, settled := true }.bytes ++ bs)) ∧
    (∀ hr, x.side true i = some (.present hr) → (x.side false i = some .absent ∨ x.side false i = some .missing) →
      d.slotResolve b x i (some (true, bs)) =
        forward d true ({ PieceHdr.ofBytes hr with dest := x.pslot, settled := true }.bytes ++ bs)) ∧
    ((x.side false i = some .absent ∨ x.side false i = some .missing) → (x.side true i = some .absent ∨ x.side true i = some .missing) →
      d.slotResolve b x i none = forward d true (b.absentHdr i x.pslot).bytes)) ∧
  (∀ (s : State) (p : PartId) (w : Fin 256) (tag slot : Fin 65536) (height : Fin 65) (r : Nat) (right : Bool),
    let d := s.dev
    let err := d.setFlag (Reg.RED_STATUS p) 31 true
    let found := d.redFind p (d.fld (Reg.RED_SETTLE_TAG p) 15 0) (d.strokeOf p)
    (d.freeRunning p = true →
      s.Does (.redWinOpen p w) (d.windowOpen p w) ∧ s.Does (.redWinClose p w) (d.windowClose p w) ∧
      (found = none → s.Does (.redSettle p) d) ∧
      (∀ i b, found = some i → d.bucket i = some b →
        s.Does (.redSettle p) ((d.setBucket i { b with settledAt := some (b.settledAt.getD d.now) }).leavesAbsent i).redFree)) ∧
    (d.freeRunning p = false → s.Does (.redWinOpen p w) err ∧ s.Does (.redWinClose p w) err ∧ s.Does (.redSettle p) err) ∧
    (∀ i b t, d.redFind p tag (d.strokeOf p) = some i → d.bucket i = some b → b.settledAt = some t →
      let k := b.slots.findIdx (fun x => x.num == slot.val)
      let at' := fun n : Nat => { d with now := max d.now (t + n * d.levelTime p) }
      (∀ x, b.slots[k]? = some x →
        s.Does (.slotSettle p tag slot none) (((at' x.height).slotMissing i k false).slotMissing i k true).redFree ∧
        (r ∈ b.down → s.Does (.slotSettle p tag slot (some (r, right))) (d.slotMissing i k right).redFree) ∧
        (r ∉ b.down → s.Does (.slotSettle p tag slot (some (r, right))) d)) ∧
      (b.owner.isSome → s.Does (.ownerFinish p tag height) ((at' (height + 1)).ownerIncomplete i).redFree)) ∧
    (d.seen.find? (fun x => x.unit == 0) = none → s.Does .fillRecordWrite d) ∧
    (∀ x, d.seen.find? (fun x => x.unit == 0) = some x →
      let watched := fun (b : Bucket) => b.leaves.any (fun l => l.cw == some x.cw)
      let late := (d.red.stale.filter (fun y => y.2 == x.cw)).eraseDups.filter (fun y => !d.red.buckets.any (fun b => b.part == y.1 && watched b))
      let leaf := fun (d : Device) (i : Nat) (b : Bucket) (j : Nat) =>
        match b.leaves[j]? with
        | some l =>
          if l.cw ≠ some x.cw then d
          else if l.state = .armed ∧ leAt x.bytes 0 2 = b.tag ∧ leAt x.bytes 4 4 = b.stroke then d.leafFill i j x.bytes
          else d.bump (Reg.RED_STALE b.part) 1
        | none => d
      s.Does .fillRecordWrite
        (((late.foldl (fun (d : Device) y => d.bump (Reg.RED_STALE y.1) 1) { d with seen := d.seen.erase x }).eachBucket watched (fun d i =>
          match d.bucket i with
          | some b => (List.range b.leaves.length).foldl (fun d j => leaf d i b j) d
          | none => d)).redFree)) ∧
    (∀ i b j (l : RedLeaf) bs, d.bucket i = some b → b.leaves[j]? = some l → l.state = .armed → leAt bs 0 2 = b.tag → leAt bs 4 4 = b.stroke →
      d.leafFill i j bs =
        (let e := d.setBucket i (b.setLeaf j .sent)
         if rankDown l.parent then e else (List.range b.npiece).foldl (fun e k => e.leafPiece b l (leAt bs 8 4) k) e)))

/-! ## Aqueduct -/

/-- A received frame: a bad FCS, or one too short, is counted at its port and dropped; one above 9,216 bytes is discarded; an Aqueduct
datagram for an address of the module goes through the packet checks; a frame of a type the module does not take is discarded. The packet
checks: a bad CRC-32C, a malformed header, no such flow, and failed authentication each count at their own counter, the last firing
SECURITY; a data packet that passes them, is in the window and new, is counted, marked received, and kept for its effect; one that is not
new does no more than cause an ACK (R405, R406, R421, R433). ARP requests and Neighbor Solicitations for an address that a partition holds
are answered from the port, at most 1,000 a second, and the others are discarded; a PFC frame pauses each enabled priority for its quanta or
releases it, and a pause ends at its time (R406, R407). -/
def Obligations.AqueductFramesAndPorts : Prop :=
  (∀ (s : State) (port : PortId) (f : List Byte),
    let d := s.dev
    let b := frameBody f
    let whole := 64 ≤ f.length ∧ fcs (f.take (f.length - 4)) = leAt f (f.length - 4) 4
    (¬ whole → s.Does (.frameReceive port f) (d.bump (Reg.AQ_FCS_ERR port) 1)) ∧
    (whole → 9216 < f.length → s.Does (.frameReceive port f) (d.bump Reg.AQ_DISCARD 1)) ∧
    (whole → f.length ≤ 9216 → (b.1 = 0x0800 ∨ (b.1 = 0x86DD ∧ beAt b.2 6 1 ≠ 58)) → ∀ g, readIp b.1 b.2 = some g →
      g.dport = d.fld Reg.AQ_UDP 15 0 → g.dport ≠ 319 → g.dport ≠ 320 → d.localIp g.v6 g.dst = true →
      s.Does (.frameReceive port f) (d.aqPacket g)) ∧
    (whole → f.length ≤ 9216 → b.1 ∉ [0x0800, 0x0806, 0x86DD, 0x8808, 0x88F7] → s.Does (.frameReceive port f) (d.bump Reg.AQ_DISCARD 1)) ∧
    (∀ g : Datagram,
      let n := g.data.length
      let head := g.data.take 48
      let kind := leAt head 0 1 % 16
      let op := leAt head 1 1
      let flags := leAt head 2 2
      let mid := (head.drop 8).take 32
      let plen := if kind = 0 then leAt mid 12 4 else 0
      let crcOk := 52 ≤ n ∧ leAt g.data (n - 4) 4 = crc32c (g.data.take (n - 4))
      let shape := leAt head 0 1 / 16 = 1 ∧ knownPacket kind op = true ∧ reservedClear kind op flags mid = true ∧ plen ≤ 8192 ∧
        n - 52 = plen + (if bit flags 2 then 16 else 0)
      (¬ crcOk → d.aqPacket g = d.bump Reg.AQ_CRC_ERR 1) ∧
      (crcOk → ¬ shape → d.aqPacket g = d.bump Reg.AQ_DISCARD 1) ∧
      (crcOk → shape → d.flow (leAt head 4 4 % 0x40000) = none → d.aqPacket g = d.bump Reg.AQ_NOFLOW 1) ∧
      (crcOk → shape → ∀ x, d.flow (leAt head 4 4 % 0x40000) = some x →
        let known := x.gen = leAt head 4 4 / 0x40000 ∧ x.ipv6 = g.v6 ∧ x.src = g.dst ∧ x.remote = g.src
        (¬ known → d.aqPacket g = d.bump Reg.AQ_NOFLOW 1) ∧
        (known → x.enc ≠ bit flags 2 → d.aqPacket g = (d.bump Reg.AQ_AUTH_ERR 1).fire Evt.SECURITY) ∧
        (known → x.enc = false → bit flags 2 = false → bit flags 3 = false →
          let p : RxPkt := { kind := kind, op := op, flags := flags, mid := mid, payload := (g.data.take (n - 4)).drop 48 }
          (kind = 0 → d.aqPacket g = d.acceptData (leAt head 4 4 % 0x40000) x p (g.ecn == 3)) ∧
          (kind ≠ 0 → d.aqPacket g = (d.setFlow (leAt head 4 4 % 0x40000) { x with inbox := x.inbox ++ [p] }).bump64 Reg.AQ_RX_PKTS_LO 1)))) ∧
    (∀ (fl : Nat) (x : Flow) (p : RxPkt) (ce : Bool), x.peer = true → x.phase ≠ .broken →
      (x.fresh p.psn = false → d.acceptData fl x p ce = (d.setFlow fl x).sendAck fl) ∧
      (x.fresh p.psn = true → d.rxHeld + p.payload.length ≤ rxBuffer → d.standby = false → bit p.flags 5 = false → x.unacked < 15 →
        (p.untimed = true ∨ strokeOlder p.stroke (d.strokeOf x.part) = false) →
        let y := { x.mark p.psn with
          ce := x.ce + (if ce then 1 else 0), unacked := x.unacked + 1, firstUnacked := some (x.firstUnacked.getD d.now)
          lasts := if p.last then x.lasts ++ [(p.psn, p.msn)] else x.lasts
          inbox := x.inbox ++ [p] }
        d.acceptData fl x p ce =
          (((((d.bump64 Reg.AQ_RX_PKTS_LO 1).bump Reg.AQ_CE (if ce then 1 else 0)).setFlow fl y).bump Reg.AQ_STALE 0)).checkPfc))) ∧
  (∀ (s : State) (port : PortId) (mac ip target : Nat) (enable : Fin 256) (times : List Nat) (prio : Fin 8),
    mac < 2 ^ 48 → ip < 2 ^ 32 → target < 2 ^ 128 →
    let d := s.dev
    let q := d.port port
    let n := if q.answeredIn = d.now / secUnit then q.answered else 0
    let pr := d.fld (Reg.AQ_PORT_CTL port) 10 8
    let sent := fun (type : Nat) (body : List Byte) =>
      (d.setPort port { q with answered := n + 1, answeredIn := d.now / secUnit }).queueFrame port pr
        (ethFrame mac (d.portMac port) pr (d.fld (Reg.AQ_PORT_CTL port) 27 16) type body)
    let arp := toBe 2 1 ++ toBe 2 0x0800 ++ toBe 1 6 ++ toBe 1 4 ++ toBe 2 2 ++ toBe 6 (d.portMac port) ++ toBe 4 target ++ toBe 6 mac ++ toBe 4 ip
    (target < 2 ^ 32 → (d.partOfIp false target).isSome → n < 1000 → s.Does (.arpRequest port mac ip target) (sent 0x0806 arp)) ∧
    (target < 2 ^ 32 → (d.partOfIp false target).isSome → 1000 ≤ n → s.Does (.arpRequest port mac ip target) d) ∧
    (target < 2 ^ 32 → d.partOfIp false target = none → s.Does (.arpRequest port mac ip target) (d.bump Reg.AQ_DISCARD 1)) ∧
    ((d.partOfIp true target).isSome → n < 1000 → ∃ body,
      s.Does (.neighborSolicitation port mac ip target) (sent 0x86DD body) ∧ beAt body 8 16 = target ∧ beAt body 24 16 = ip ∧ beAt body 40 1 = 136) ∧
    (d.partOfIp true target = none → s.Does (.neighborSolicitation port mac ip target) (d.bump Reg.AQ_DISCARD 1)) ∧
    (∃ m, s.Does (.pfcFrame port enable times) (d.setPort port { q with paused := m }) ∧
      (Cells.rising 0 q.paused = true → ∀ i, i < 8 → Cells.find? m i =
        (if enable.val.testBit i then (if times.getD i 0 = 0 then none else some (d.now + times.getD i 0 * 512 * nsUnit / 800))
         else Cells.find? q.paused i))) ∧
    (∀ t, Cells.find? q.paused prio = some t →
      s.Does (.pfcPauseExpiry port prio) ({ d with now := max d.now t }.setPort port { q with paused := Cells.erase q.paused prio })))

/-- What the messages of an open flow do when they may take effect: a WRITE, a READ_RESP as they come, everything else in PSN order behind
all earlier packets. A WRITE stores its bytes at its place; a READ is answered from memory; responses go to the local address of the oldest
request; ATOMIC replaces the old word by its function and answers the old one; RACC adds to FP32 words or hands a piece to the reduction
sequencer; SEND fills a ring entry and advances PROD, or hands over a settle record; FENCE has no effect of its own. Each is then taken from
the receive buffer and accounted (R426-R428, R513). -/
def Obligations.ReceivedMessagesTakeEffect : Prop :=
  ∀ (s : State) (f : Fin 262144) (x : Flow), s.dev.flow f = some x →
    let d := s.dev
    (∀ row ∈ ([(.write f, 1, false, fun _ => true, fun d p => d.writeNow f x p), (.read f, 2, true, fun _ => true, fun d p => d.readNow f x p),
        (.readResp f, 3, false, fun _ => true, fun d p => d.responseNow f 2 x p),
        (.atomicResp f, 6, true, fun _ => true, fun d p => d.responseNow f 5 x p),
        (.raccAddress f, 4, true, fun p => bit p.oparg 31, fun d p => d.raccAddrNow f x p),
        (.atomicFadd f, 5, true, fun p => p.oparg == 0, fun d p => d.atomicNow f 0 x p),
        (.atomicSwap f, 5, true, fun p => p.oparg == 1, fun d p => d.atomicNow f 1 x p),
        (.atomicCswp f, 5, true, fun p => p.oparg == 2, fun d p => d.atomicNow f 2 x p), (.fence f, 8, true, fun _ => true, fun d _ => d)] :
        List (Instr × Nat × Bool × (RxPkt → Bool) × (Device → RxPkt → Device))),
      ∀ p, x.held.find? (fun q => q.op == row.2.1 && row.2.2.2.1 q && (!row.2.2.1 || x.settledBefore q.psn)) = some p →
        s.Does row.1 ((row.2.2.2.2 d p).handled f [p])) ∧
    (∀ row ∈ ([(.raccSlot f, 4, fun p => !bit p.oparg 31, fun p bs => d.redArrive x.part (bits p.oparg 15 0) true bs),
        (.sendReduction f, 7, fun p => bits p.oparg 31 24 == 1, fun p bs => d.redArrive x.part (bits p.oparg 15 0) false bs),
        (.sendRing f, 7, fun p => bits p.oparg 31 24 == 0, fun p bs => d.ringNow f x p bs)] :
        List (Instr × Nat × (RxPkt → Bool) × (RxPkt → List Byte → Device))),
      ∀ p ps, x.wholeMsg row.2.1 row.2.2.1 = some (p :: ps, true) →
        s.Does row.1 ((row.2.2.2 p ((p :: ps).map (·.payload)).flatten).handled f (p :: ps))) ∧
    (∀ p, x.reported p.msn = false →
      let w := d.writeVa x.part (p.addr + p.moff) p.payload
      d.writeNow f x p = (if w.2.1 = 0 then w.1 else w.1.reportMsg f p w.2.1 w.2.2 true)) ∧
    (∀ p fn d1 pa, fn ≤ 2 → p.addr % 8 = 0 → p.payload.length = 16 → d.translate x.part .acc p.addr = (d1, .ok pa) → (d1.physRead pa 8).2.2 = false →
      let old := leNat (d1.physRead pa 8).2.1
      let a := leAt p.payload 0 8
      let new := if fn = 0 then old + a else if fn = 1 then a else if old = leAt p.payload 8 8 then a else old
      d.atomicNow f fn x p = (((d1.physRead pa 8).1.physWrite pa (toLe 8 new)).1).aqPost f
        { owner := .response, op := 6, untimed := p.untimed, stroke := p.stroke, addr := 0, oparg := 0, rest := splitMsg d.aqMtu (toLe 8 old) }) ∧
    (∀ i m p, x.waiting 2 = some (i, m) → (m.owner = .reduction ∨ ∃ c g, m.owner = .desc c g) → (d.writeVa x.part (m.laddr + p.moff) p.payload).2.1 = 0 →
      let e := (d.writeVa x.part (m.laddr + p.moff) p.payload).1.modFlow f
        (fun y => { y with msgs := y.msgs.set i { m with got := m.got + p.payload.length } })
      d.responseNow f 2 x p = (if m.got + p.payload.length ≥ m.want then (e.aqComplete f i 0).pump f else e))

/-- The acknowledgements and the control packets of a flow. An ACK drops what it acknowledges and completes what its MCUM has passed; an
MSTAT completes the message it names with its status; HELLO and HELLO_ACK from the peer record its values, the one being answered, and open
the context; CLOSE is answered; CLOSE_ACK frees a closing context; SKIP counts its range as received (R413, R414, R419, R420, R438). -/
def Obligations.FlowControlPackets : Prop :=
  ∀ (s : State) (f : Fin 262144) (x : Flow) (kind op : Nat) (p : RxPkt), s.dev.flow f = some x →
    x.inbox.find? (fun p => p.kind == kind && p.op == op) = some p →
    let y := { x with inbox := x.inbox.erase p }
    let d := s.dev.setFlow f y
    let meet := if x.peer then y else { y with peer := true, cum := leAt p.mid 0 4, mcum := leAt p.mid 8 4 }
    (kind = 1 → op = 0 →
      let cum := leAt p.mid 0 4
      let acked := fun q : TxPkt => seqBefore q.psn cum ||
        (decide (1 ≤ wrap 32 ((q.psn : Int) - cum) ∧ wrap 32 ((q.psn : Int) - cum) ≤ 64) &&
          (leAt p.mid 8 8).testBit (wrap 32 ((q.psn : Int) - cum) - 1))
      let gone := x.inflight.filter acked
      let rest := (x.inflight.filter (fun q => !acked q)).map (fun q =>
        { q with passed := q.passed + (gone.filter (fun g => seqBefore q.psn g.psn)).length })
      let z := { y with inflight := rest, skips := x.skips.filter (fun k => !(k.hi == cum || seqBefore k.hi cum)) }
      let z := if leAt p.mid 20 2 = 0 then z else s.dev.cutRate z
      let e := (s.dev.setFlow f z).completePassed f (leAt p.mid 16 4) x.msgs.length
      let late := rest.filter (fun q => decide (q.passed ≥ e.aqReorder))
      s.Does (.ack f) ((late.foldl (fun d q => d.retransmit f q.psn) e).pump f)) ∧
    (kind = 2 → op = 0 →
      let i := x.msgs.findIdx (fun m => m.msn == some (leAt p.mid 8 4))
      s.Does (.mstat f) (if i < x.msgs.length then (d.aqComplete f i (leAt p.mid 12 2)).pump f else d)) ∧
    (kind = 3 → op = 1 → s.Does (.hello f) (if leAt p.mid 4 4 = x.rflow then ((d.setFlow f meet).sendHello f 2).maybeOpen f else d)) ∧
    (kind = 3 → op = 2 → s.Does (.helloAck f) (if leAt p.mid 4 4 = x.rflow then (d.setFlow f { meet with acked := true }).maybeOpen f else d)) ∧
    (kind = 3 → op = 3 → s.Does (.close f) (d.sendPacket f 3 4 0 (List.replicate 32 0#8) []).1) ∧
    (kind = 3 → op = 4 → s.Does (.closeAck f) (if x.phase = .closing then d.endFlow f 0 else d)) ∧
    (kind = 3 → op = 5 →
      let lo := leAt p.mid 0 4
      let ps := (List.range (min 4096 (wrap 32 ((leAt p.mid 4 4 : Int) - lo)))).map (fun i => (lo + i) % 0x100000000)
      let z := { y with inbox := y.inbox.filter (fun q => !(q.kind == 0 && ps.contains q.psn)) }
      let z := { z with above := z.above ++ ps.filter (fun q => z.fresh q) }.advance 4096
      s.Does (.skip f) (d.setFlow f z.noteEffects).checkPfc)

/-- The descriptors: a doorbell takes the entries from the consumer index to PROD, in ring order, and a bad PROD leaves a record; the oldest
taken descriptor, by its OP, becomes a message of its flow, or ends with the status of its first failed check. The timers of a flow: what
has waited AQ_RTO is sent again, an ACK goes 2 µs after the first unacknowledged packet, HELLO goes every 100 µs, a flow that does not open
or close within 1 s ends, and a quiet period raises the rate (R419, R420, R424, R425, R433-R435). Enabling and draining the work queues of a
partition, and the ports of the spray set: an enable during a drain is held, one outside it reads the table and arms the queues; a disable
stops the taking and drains; a port leaves the spray set when SPRAY is cleared, a recalibration is asked for, or its link goes down, drains,
and comes back when SPRAY is 1 and nothing holds it (R422, R441-R444). -/
def Obligations.DescriptorsTimersAndQueues : Prop :=
  (∀ (s : State) (f : Fin 262144),
    let d := s.dev
    (∀ row ∈ ([(1, .aqDescWrite), (2, .aqDescRead), (4, .aqDescRacc), (5, .aqDescAtomic), (7, .aqDescSend), (8, .aqDescFence)] : List (Nat × Instr)),
      ∀ t rest, d.aq.taken = t :: rest → leAt t.bytes 0 1 = row.1 →
        let e := { d with aq := { d.aq with taken := rest } }
        (∀ d1 m, e.descMessage t = (d1, .ok m) → s.Does row.2 (d1.aqPost (leAt t.bytes 4 4) m)) ∧
        (∀ d1 st, e.descMessage t = (d1, .error st) → s.Does row.2 (d1.aqRecord t.part (leAt t.bytes 32 8) st t.stroke (dSignal t.bytes))) ∧
        (bit (leAt t.bytes 1 1) 0 = false → strokeOlder t.stroke (d.strokeOf t.part) = true → e.descMessage t = (e, .error 0x0020))) ∧
    (∀ y q, d.takeSeen 1 = some (y, { d with seen := d.seen.erase y }) → d.aq.queues.filter (fun q => q.unit == 1 && q.cw == y.cw) = [q] →
      let e := { d with seen := d.seen.erase y }
      let prod := leAt y.bytes 0 4
      let n := 2 ^ q.log2
      let ahead := fun i => (i + n - q.cons) % n
      let stroke := leAt y.bytes 4 4
      let take := fun (d : Device) (i : Nat) =>
        let r := d.readVa q.part (q.ring + 64 * i) 64
        if r.2.2.1 ≠ 0 then r.1.aqFault q.part stroke r.2.2.1 q.entry r.2.2.2 0
        else if leAt r.2.1 0 1 ∈ [1, 2, 4, 5, 7, 8] then
          { r.1 with aq := { r.1.aq with taken := r.1.aq.taken ++ [{ part := q.part, entry := q.entry, stroke := stroke, bytes := r.2.1 }] } }
        else r.1.aqRecord q.part (leAt r.2.1 32 8) 0x0010 stroke (dSignal r.2.1)
      (n ≤ prod ∨ ahead prod < ahead q.last → s.Does .wqDoorbell (e.aqFault q.part stroke 0x0012 q.entry 0 0)) ∧
      (prod < n → ahead q.last ≤ ahead prod → prod ≠ q.last →
        s.Does .wqDoorbell (((List.range (ahead prod)).foldl (fun d i => take d ((q.cons + i) % n)) e).setQueueIdx q prod prod))) ∧
    (∀ x t, d.flow f = some x → x.firstUnacked = some t → s.Does (.ackTimer f) ({ d with now := max d.now (t + 2000 * nsUnit) }.sendAck f)) ∧
    (∀ x, d.flow f = some x →
      (x.phase = .opening →
        let e := { d with now := max d.now (x.helloAt + 100000 * nsUnit) }
        s.Does (.helloRetry f) ((e.setFlow f { x with helloAt := e.now }).sendHello f 1) ∧
        s.Does (.flowOpenTimeout f) ({ d with now := max d.now (x.since + secUnit) }.endFlow f 0x0061)) ∧
      (x.phase = .closing → s.Does (.flowCloseTimeout f) ({ d with now := max d.now (x.since + secUnit) }.endFlow f 0)) ∧
      (let quiet := ∀ t, x.ceAt = some t → t + d.aqPeriod ≤ d.now
       (quiet → s.Does (.ratePeriod f)
          (d.setFlow f { x with rate := max x.rate (min d.lineRate (x.rate + d.fld Reg.AQ_CC 23 16 * 1000000000)) })) ∧
       (¬ quiet → s.Does (.ratePeriod f) (d.setFlow f x))) ∧
      (x.skips = [] → ∀ q t, x.inflight = [q] → q.sentAt = some t →
        let e := { d with now := max d.now (t + d.aqRto) }
        s.Does (.retransmitTimeout f)
          (if q.sends ≥ d.aqLimit + 1 then e.breakFlow f
           else (e.setFlow f { x with inflight := [{ q with sentAt := none, passed := 0 }] }).pump f)))) ∧
  (∀ (s : State) (p : PartId) (i : PortId) (iface : Fin 3),
    let d := s.dev
    let pen := d.flag Reg.AQ_CTL (16 + p)
    let pdrain := d.flag Reg.AQ_STATUS (16 + p)
    let withdrawn := { d with aq := { d.aq with heldEnable := d.aq.heldEnable.filter (· != p.val) } }.answerEnable p 0x0020
    (pen = false → pdrain = false → s.Does (.aqPenEnable p) (d.aqEnableNow p)) ∧
    (pen = false → pdrain = true → p.val ∉ d.aq.heldEnable →
      s.Does (.aqPenEnable p) { d with aq := { d.aq with heldEnable := d.aq.heldEnable ++ [p.val] } }) ∧
    (withdrawn.flag Reg.AQ_CTL (16 + p) = true →
      let e := (withdrawn.setFlag Reg.AQ_CTL (16 + p) false).disarmQueues 1 p
      s.Does (.aqPenDisable p) (e.setFlag Reg.AQ_STATUS (16 + p) (!e.aqDrained p))) ∧
    (pdrain = true → d.aqDrained p = true →
      let e := d.setFlag Reg.AQ_STATUS (16 + p) false
      (p.val ∉ d.aq.heldEnable → s.Does (.aqPdrainEnd p) e) ∧
      (p.val ∈ d.aq.heldEnable → s.Does (.aqPdrainEnd p)
        (({ e with aq := { e.aq with heldEnable := e.aq.heldEnable.filter (· != p.val) } }.aqEnableNow p).answerEnable p 0x0080))) ∧
    (let gone := (d.setPortFlag i 28 false).answerPort i 0x0020
     gone.flag (Reg.AQ_PORT_CTL i) 31 = true → s.Does (.portRemove i) ((gone.setFlag (Reg.AQ_PORT_CTL i) 31 false).portLeave i)) ∧
    (let e := d.setFlag (Reg.AQ_PORT_CTL i) 31 true
     (e.portHolds i = false → s.Does (.portReadmit i) (e.portJoin i)) ∧
     (e.portHolds i = true → d.flag (Reg.AQ_PORT_CTL i) 31 = false → s.Does (.portReadmit i) (e.setPortFlag i 28 true))) ∧
    (d.flag (Reg.AQ_PORT_CTL i) 30 = true → s.Does (.portRecal i) d) ∧
    (d.flag (Reg.AQ_PORT_CTL i) 30 = false → s.Does (.portRecal i) (((d.setFlag (Reg.AQ_PORT_CTL i) 30 true).portLeave i).portRecalStart i)) ∧
    (d.portFlag i 29 = true →
      s.Does (.portDrainEnd i) (((({ d with aq := { d.aq with txq := d.aq.txq.filter (fun f => f.port != i.val) } }.setPortFlag i 29 false).portRecalStart i).portDeferred i))) ∧
    (d.portFlag i 27 = true → ∃ d', s.Does (.recalEnd i) d' ∧
      let e := ((d.setPortFlag i 27 false).setFlag (Reg.AQ_PORT_CTL i) 30 false).fire (Evt.PORT i)
      let q := e.port i
      let e := q.recalWaiters.foldl (fun d id => d.complete id 0 0) (e.setPort i { q with recalWaiters := [] })
      d' = (if e.portFlag i 28 then e.portDeferred i else e.portJoin i)) ∧
    (d.portFlag i 31 = true → s.Does (.portLinkDown i)
      ((((((d.setPortFlag i 31 false).setFld (Reg.AQ_PORT_STATUS i) 7 0 0).setFlag Reg.AQ_STATUS (8 + i) false).setSpray i false).bump
        (Reg.AQ_LINK_DOWN i) 1).fire (Evt.PORT i)).showPtpPort) ∧
    (d.noImage 2 = false → d.portFlag i 31 = false →
      let e := (((d.setPortFlag i 31 true).setFld (Reg.AQ_PORT_STATUS i) 7 0 0xFF).setFlag Reg.AQ_STATUS (8 + i) true).fire (Evt.PORT i)
      s.Does (.portLinkUp i) (if e.portFlag i 28 then e else e.portJoin i).showPtpPort) ∧
    (d.fld (Reg.AQ_PORT_CTL i) 1 0 = iface → s.Does (.aqPortIfaceWrite i iface) d) ∧
    (d.fld (Reg.AQ_PORT_CTL i) 1 0 ≠ iface → s.Does (.aqPortIfaceWrite i iface) ((d.setFld (Reg.AQ_PORT_CTL i) 1 0 iface).portLinkDown i)))

/-! ## The update sequencer -/

/-- The update sequencer serves a partition's queues by rotating priority. The descriptor it takes up is cancelled when its stroke is over,
refused when its group or its fields are wrong, kept waiting behind earlier ones of its group, and otherwise meets the group's record: a
frozen row or a step that disagrees refuses it; one at LOC VECTOR is resolved into the local SRAM of its core; one at LOC CISTERN goes to
its chiplet's engine, which starts the first one handed over when it is free and executes it whole (R454, R456, R458, R459, R463, R464,
R466). A doorbell of an update queue takes its entries, each read whole; the sequencer of a partition is enabled at once or, during a drain,
when that ends; a disable stops the taking, withdraws a held enable, and drains. A stroke start tears the groups still open from an earlier
stroke, at once where nothing of them runs and otherwise when their last running descriptor completes (R455, R456). -/
def Obligations.UpdatesServedAndControlled : Prop :=
  (∀ (s : State) (p : PartId) (c : Fin 2),
    let d := s.dev
    (∀ row ∈ ([(0, .updDescVector p), (1, .updDescCistern p), (2, .updNormpass p)] : List (Nat × Instr)), ∀ q t,
      rotate 64 (Cells.get 0 d.upd.ptr p) (fun q => ((d.updHead p q).map d.updReady).getD false) = some q → d.updHead p q = some t →
      (if uNorm t.bytes then 2 else if uVector t.bytes then 0 else 1) = row.1 →
      let e0 := if uVector t.bytes then d.exitIdle else d
      let e := { e0 with upd := { e0.upd with ptr := Cells.put e0.upd.ptr p ((q + 1) % 64) } }
      let g := uGroup t.bytes
      (e.updStale t = true → s.Does row.2 (e.updDone t { status := 0x0020 })) ∧
      (e.updStale t = false → e.fld (Reg.UPD_NGROUP t.part) 16 0 ≤ g →
        s.Does row.2 (e.updDone t { status := 0x0010, refused := true, early := true })) ∧
      (e.updStale t = false → g < e.fld (Reg.UPD_NGROUP t.part) 16 0 → t.row = none →
        let r := e.readVa t.part (e.redTable (Reg.UPD_COEF_LO t.part) + 128 * g) 128
        let k := r.1.updCheck t.part t.bytes r.2.1
        let t' := { t with row := some r.2.1 }
        r.2.2.1 = 0 →
        (k.2.1 ≠ 0 → s.Does row.2 (k.1.updDone t { status := k.2.1, refused := true, early := true })) ∧
        (k.2.1 = 0 → (k.1.setUpd t').updWaits t' = true → s.Does row.2 (k.1.setUpd t')) ∧
        (k.2.1 = 0 → (k.1.setUpd t').updWaits t' = false → s.Does row.2 ((k.1.setUpd t').updBegin t' k.2.2)))) ∧
    (∀ t ch, (d.readGrec t.part (uGroup t.bytes)).2.2.1 = 0 →
      let g := d.readGrec t.part (uGroup t.bytes)
      let k := g.1.updSkew t.part t.bytes g.2.1
      let t1 := (leAt g.2.1 0 4 + 1) % 0x100000000
      let refusal := fun (d : Device) (st : Nat) =>
        (if uVector t.bytes then (d.sramStore (uCore t.bytes) (uRrec t.bytes) (toLe 2 st ++ toLe 2 0 ++ toLe 4 0)).1 else d).updDone t
          { status := st, refused := true }
      (uNorm t.bytes = false → CoefRow.frozen (t.row.getD []) = true → d.updBegin t ch = refusal g.1 0x0053) ∧
      (uNorm t.bytes = false → CoefRow.frozen (t.row.getD []) = false → k.2.1 = 0x0052 → d.updBegin t ch = refusal k.1 0x0052) ∧
      (uNorm t.bytes = false → CoefRow.frozen (t.row.getD []) = false → k.2.1 = 0 →
        d.updBegin t ch = if uVector t.bytes then (k.1.openGroup t).resolve t t1
          else (k.1.setUpd { t with t1 := t1 }).handOver { t with t1 := t1 } ch)) ∧
    (∀ t, d.engineFree c = true → d.standby = false →
      d.upd.handed.findSome? (fun i => d.upd.taken.find? (fun t => t.id == i && t.chiplet == some c.val)) = some t →
      ∃ d', s.Does (.cisternEngineStart c) d' ∧ d' = d.engineRun t c ∧ d'.reg (Reg.CIS_UPD_STATUS c) = BitVec.ofNat 32 (0x80000000 + uGroup t.bytes)) ∧
    (d.engineFree c = false ∨ d.standby = true → s.Does (.cisternEngineStart c) d) ∧
    (∀ t, d.upd.taken.find? (fun t => t.running && t.chiplet == some c.val) = some t →
      s.Does (.cisternDescComplete c) ((d.updRun t c).setFlag (Reg.CIS_UPD_STATUS c) 31 false))) ∧
  (∀ (s : State) (p : PartId),
    let d := s.dev
    let en := d.flag (Reg.UPD_CTL p) 0
    let draining := d.flag (Reg.UPD_STATUS p) 30
    let withdrawn := (d.setFlag (Reg.UPD_STATUS p) 29 false).answerUpd p 0x0020
    (en = false → draining = false → s.Does (.updEnable p) (d.updEnableNow p)) ∧
    (en = false → draining = true → s.Does (.updEnable p) (d.setFlag (Reg.UPD_STATUS p) 29 true)) ∧
    (withdrawn.flag (Reg.UPD_CTL p) 0 = true →
      let e := (withdrawn.setFlag (Reg.UPD_CTL p) 0 false).disarmQueues 2 p
      s.Does (.updDisable p) (e.setFlag (Reg.UPD_STATUS p) 30 (!e.updDrained p))) ∧
    (draining = true → d.updDrained p = true →
      let e := d.setFlag (Reg.UPD_STATUS p) 30 false
      s.Does (.updDrainEnd p)
        (if e.flag (Reg.UPD_STATUS p) 29 then ((e.setFlag (Reg.UPD_STATUS p) 29 false).updEnableNow p).answerUpd p 0x0080 else e)) ∧
    (∀ y q, d.takeSeen 2 = some (y, { d with seen := d.seen.erase y }) → d.aq.queues.filter (fun q => q.unit == 2 && q.cw == y.cw) = [q] →
      let e := { d with seen := d.seen.erase y }
      let prod := leAt y.bytes 0 4
      let n := 2 ^ q.log2
      let ahead := fun i => (i + n - q.cons) % n
      let stroke := leAt y.bytes 4 4
      let take := fun (d : Device) (i : Nat) =>
        let r := d.readVa q.part (q.ring + 128 * i) 128
        if r.2.2.1 ≠ 0 then r.1.updFault q.part stroke r.2.2.1 9 q.entry 0 r.2.2.2
        else { r.1 with upd := { r.1.upd with
          next := r.1.upd.next + 1
          taken := r.1.upd.taken ++ [{ id := r.1.upd.next, part := q.part, queue := q.entry, stroke := stroke, bytes := r.2.1 }] } }
      (n ≤ prod ∨ ahead prod < ahead q.last → s.Does .updDoorbell (e.updFault q.part stroke 0x0012 9 q.entry 0 0)) ∧
      (prod < n → ahead q.last ≤ ahead prod → prod ≠ q.last →
        s.Does .updDoorbell (((List.range (ahead prod)).foldl (fun d i => take d ((q.cons + i) % n)) e).setQueueIdx q prod prod))) ∧
    (∀ g o, d.upd.opened = [(p.val, g, o)] →
      (strokeOlder o (d.strokeOf p) = false → d.updStrokeStart p = d) ∧
      (strokeOlder o (d.strokeOf p) = true → d.groupRuns p g = false →
        d.updStrokeStart p = ((((d.putGroupFlags p g false true).forgetOpen p g).bump (Reg.UPD_TORN p) 1).updFault p (d.strokeOf p) 0x0052 9 0 g 0).firePart p 5) ∧
      (strokeOlder o (d.strokeOf p) = true → d.groupRuns p g = true → d.upd.judge = [] →
        d.updStrokeStart p = { d with upd := { d.upd with judge := [(p.val, g)] } })))

/-! ## Checkpoint slices and live service -/

/-- Checkpoint slices. The schedule's request at a drain, else the oldest waiting one of the host, starts a slice, and one that comes while
another is at work is missed and recorded; a slice whose plan fails its checks ends with that status before it touches anything. A write to
a held page makes the slice copy it first; the last copies are made and the slot becomes VALID, at once without a mirror and when the last
WRITE has completed with one (R355, R473, R475, R478). -/
def Obligations.CheckpointSlicesRun : Prop :=
  ∀ (s : State) (p : PartId) (page : Nat),
    let d := s.dev
    let k := d.stroke p
    let busy := (Cells.find? d.svc.ckpt p).isSome
    let result := fun (d : Device) (owner st : Nat) =>
      (((d.setFlag (Reg.CIS_CKPT_STATUS p) 29 true).setFld (Reg.CIS_CKPT_STATUS p) 15 0 st).firePart p 6).complete owner st 0
    (∀ i, d.standby = false → k.ckpt = some i → d.drained p = true →
      let e := d.setStroke p { k with ckpt := none }
      (busy = true → s.Does (.ckptSliceStart p)
        (((e.bump (Reg.CIS_CKPT_MISSED p) 1).raise
          { status := 0x0082, source := 14, part := p, index := i, stroke := d.strokeOf p }).firePart p 6)) ∧
      (busy = false → s.Does (.ckptSliceStart p) ((e.hiddenCmd p i).1.sliceStart p i (e.hiddenCmd p i).2))) ∧
    (∀ id c, d.standby = false → k.ckpt = none → busy = false → (d.stkState p = 0 ∨ d.drained p = true) → d.waitingSlice p = some (id, c) →
      s.Does (.ckptSliceStart p)
        (({ d with zn := { d.zn with cmds := Cells.put d.zn.cmds id { c with state := .running, ran := true } } }).sliceStart p (leAt c.pkt 16 2) id)) ∧
    (∀ i owner st e, (d.setFld (Reg.CIS_CKPT_STATUS p) 23 16 i).planCheck p i .read .write = (e, .error st) → st ≠ 0 →
      d.sliceStart p i owner = result e owner st) ∧
    (d.heldPages.find? (fun h => h.page == page) = none → s.Does (.ckptCopyAhead page) d) ∧
    (∀ h, d.heldPages = [h] → h.page = page →
      s.Does (.ckptCopyAhead page)
        ((({ d with heldPages := [] }.copyPage page h.dst).bump (Reg.CIS_CKPT_COW h.part) 1).bump64 (Reg.CIS_CKPT_PAGES_LO h.part) 1)) ∧
    (∀ x, Cells.find? d.svc.ckpt p = some x → d.opWorks x.owner = true → d.standby = false → Cells.find? d.aq.failed p = none →
      (x.sent = false → x.mirror = none → s.Does (.ckptValidate p) ((d.copyHeld p d.heldPages.length).sliceValid p x)) ∧
      (∀ f a, x.sent = false → x.mirror = some (f, a) → s.Does (.ckptValidate p) ((d.copyHeld p d.heldPages.length).mirrorSend p x f a)) ∧
      (x.sent = true → d.awaiting p = false → s.Does (.ckptValidate p) (d.sliceValid p x)) ∧
      (x.sent = true → d.awaiting p = true → s.Does (.ckptValidate p) d))

/-- The copying of a held page: every byte of the target page takes the byte of the source page, with its poison, and every byte outside the
target page stays; the page written is marked dirty (R285, R475, R476). Live service. A failed slot asks for a sparing move where the spare
is free, and otherwise leaves its core without a slot and its cluster DEGRADED; a move that may go takes the core's state to slot 8 and
rewrites the slot map; a page the policy has asked for moves to a spare page of its controller, or its granule is retired; a chiplet that
has scrubbed and a function that has drained or been scrubbed change their service state (R20, R485-R487, R489, R490). -/
def Obligations.PagesCopyAndServiceRuns : Prop :=
  (∀ (d : Device) (p q : Nat), d.Sound → p ≠ q → Cells.wf (fun _ => false) d.poison = true →
    let e := d.copyPage p q
    (∀ i, i < 0x10000 → e.memBytes (q * 0x10000 + i) 1 = d.memBytes (p * 0x10000 + i) 1) ∧
    (∀ a, a / 0x10000 ≠ q → e.memBytes a 1 = d.memBytes a 1) ∧
    (∀ i, i < 0x400 → Cells.get false e.poison (q * 0x400 + i) = Cells.get false d.poison (p * 0x400 + i)) ∧
    (∀ c, c / 0x400 ≠ q → Cells.get false e.poison c = Cells.get false d.poison c) ∧
    e.heldPages = d.heldPages ∧ e.cores = d.cores ∧ e.hostMem = d.hostMem) ∧
  (∀ (s : State) (c : CoreId) (readable : Bool) (a : Nat) (ch : Fin 2) (i : Fin 16),
    let d := s.dev
    let g := c.val / 8
    let free := d.flag (Reg.HUB_SLOTSTAT g) 14 = false ∧ d.flag (Reg.HUB_SLOTSTAT g) 8 = false
    (d.hasSlot c = true → free → (∀ m ∈ d.svc.spare, m.core ≠ c.val) →
      s.Does (.slotFailure c readable) { d with svc := { d.svc with spare := d.svc.spare ++ [{ core := c, readable := readable }] } }) ∧
    (d.hasSlot c = true → ¬ free → s.Does (.slotFailure c readable) (d.loseSlot c)) ∧
    (d.hasSlot c = false → s.Does (.slotFailure c readable) d) ∧
    (∀ m, d.spareWanted c = some m → d.hasSlot c = true →
      (free → d.moveNow m = .go → s.Does (.coreSpareMove c) (d.exitIdle.spareInto m)) ∧
      (free → d.moveNow m = .wait → s.Does (.coreSpareMove c) d) ∧
      (¬ free → m.readable = true → s.Does (.coreSpareMove c) (d.endSpare c 0x0081))) ∧
    (∀ m : SpareMove, m.core = c.val → m.readable = true →
      d.spareInto m = ((((((d.retireSlot c).putSlot c 8).setFlag (Reg.HUB_SLOTSTAT g) 14 true).storeSlotMap).fire Evt.CORE_SPARED).endSpare c 0)) ∧
    (d.standby = false → isDram (regionOf a) = true → pageKey a ∈ d.fault.retireAsked → s.Does (.pageRetire a) (d.exitIdle.retirePage a)) ∧
    (d.svcState 1 ch = 2 →
      let base := 0x10000000000 + ch.val * 0x8000000000
      let z := { d with
        mem := Cells.clear d.mem base 0x8000000000
        poison := Cells.clear d.poison (base / 64) (0x8000000000 / 64)
        symErr := Cells.clear d.symErr (base / 64) (0x8000000000 / 64)
        granules := Cells.clear d.granules (base / 0x200000) 0x40000
        boot := { d.boot with zeroing := d.boot.zeroing.filter (· != ch.val) } }
      let e := ((((z.setFlag Reg.HUB_CAPS (12 + ch) true).setSvc 1 ch 0).setDefer 1 ch false).answerSvc 1 ch false 0).answerSvc 1 ch true 0x0080
      s.Does (.cisScrubEnd ch) (if z.enableHeld 1 ch then e.fire Evt.SERVICE else e) ∧
      (d.svc.waiters = [] → e.svcState 1 ch = 0 ∧ e.mem = z.mem)) ∧
    (d.svcState 0 i = 1 → i.val < 4 → d.clustersEmpty (0xF * 2 ^ (4 * i.val)) = true →
      s.Does (.shutdownComplete 0 i) ((d.clearClusters (0xF * 2 ^ (4 * i.val))).setSvc 0 i 2)) ∧
    (d.svcState 2 i = 1 → d.partDrained i = true → s.Does (.shutdownComplete 2 i) ((d.partScrub i).setSvc 2 i 2)) ∧
    (d.svcState 0 i = 2 → i.val < 4 → s.Does (.shutdownComplete 0 i) (d.svcOff 0 i)) ∧
    (d.svcState 2 i = 2 → s.Does (.shutdownComplete 2 i) (d.svcOff 2 i)) ∧
    (d.svcState 1 i = 1 → i.val < 2 → (∀ x ∈ d.upd.taken, x.chiplet ≠ some i.val) →
      s.Does (.shutdownComplete 1 i) ((d.setFlag Reg.HUB_CAPS (12 + i) false).svcOff 1 i)))

/-! ## The Zennus interface -/

/-- Where the arbiter's next command, after what every step of the interface does first, is one of an opcode and passes that opcode's
checks, the opcode's row starts it and carries out its effect: rings, functions, partitions, memory, cores (R502, R508, R510). The same of
flows, keys, ports, enables, groups, checkpoints and restores (R418-R420, R422, R439, R440, R453, R473, R481, R513). -/
def Obligations.ZennusRingAndTransportCommands : Prop :=
  (∀ (s : State) (id : Nat) (c0 : ZCmd), s.dev.znPump.znNext = some (id, c0) →
    let c := { c0 with state := .started }
    let e := s.dev.znPump.znStart id c0
    let go := fun (code : Nat) (i : Instr) (ok : Prop) (e' : Device) => c0.opcode = code → ok → s.Does i e'.znPump
    let queued := e.setCmd id { c with state := .queued }
    let v := c.arg 16 1
    let p := c.part
    go 0x0001 .znNop True (e.complete id 0 0) ∧
    go 0x0002 .znIdentify (c.fn ≠ mctpFn ∧ c.arg 16 8 % 4096 = 0) ((e.hostWrite (c.arg 16 8) (e.identifyPage c.fn)).complete id 0 0) ∧
    (let ev := c.arg 34 2
     let held := e.fld (Reg.ZN_RINGS c.fn) 15 0
     let taken := (e.zn.rings.filter (fun x => decide (17 ≤ x.1))).length
     let g := firstUnused (fun g => e.zn.rings.any (fun x => x.1 == g)) 17 (taken + 1)
     let l := if c.fn = 0 then g else firstUnused (fun l => e.zn.rings.any (fun x => x.2.fn == c.fn && x.2.loc == l)) 1 (held + 1)
     let r : Ring := {
       fn := c.fn, loc := l, part := p, sqBase := c.arg 16 8, cqBase := c.arg 24 8, log2 := c.arg 32 1, sqDev := bit (c.arg 33 1) 0
       cqDev := bit (c.arg 33 1) 1, event := if ev = 0xFFFF then none else some ev }
     go 0x0003 .znRingCreate
       (4 ≤ c.arg 32 1 ∧ c.arg 32 1 ≤ 16 ∧ c.arg 16 8 % 4096 = 0 ∧ c.arg 24 8 % 4096 = 0 ∧
         (ev = 0xFFFF ∨ ev < (if c.fn = 0 then 4096 else e.fld (Reg.EVT_FN_WIN c.fn) 24 16)) ∧ taken < 32751 ∧
         held < e.fld (Reg.ZN_RINGS c.fn) 31 16)
       ((((e.setRing g r).showPool).showHeld c.fn).complete id 0 (g * 0x10000 + l))) ∧
    (∀ g r, e.localRing c.fn (c.arg 16 2) = some (g, r) →
      let busy := (e.zn.cmds.filter (fun x => x.2.ring == g)).map (·.1)
      go 0x0004 .znRingDelete (c.arg 16 2 ≠ 0 ∧ g ≠ c.ring ∧ (busy = [] ∨ bit (c.arg 18 1) 0 = true))
        (((busy.foldl (fun d k => d.znCancel k) e).dropRing g).complete id 0 0)) ∧
    go 0x0005 .znVfConfig (1 ≤ v ∧ v ≤ 16 ∧ (c.arg 17 1 = 0xFF ∨ c.arg 17 1 ≤ 15) ∧ 1 ≤ c.arg 18 2 ∧ c.arg 18 2 ≤ 2048 ∧ e.lifecycle = 1)
      ((((e.setFlag (Reg.ZN_STATUS v) 15 (c.arg 17 1 != 0xFF)).setFld (Reg.ZN_STATUS v) 11 8 (if c.arg 17 1 = 0xFF then 0 else c.arg 17 1)).setFld
        (Reg.ZN_RINGS v) 31 16 (c.arg 18 2)).complete id 0 0) ∧
    go 0x0006 .znPrepareRemove True queued ∧
    (let m := c.arg 16 2
     let moved := (List.range 16).filter (fun g => (e.clustersOf p).toNat.testBit g != m.testBit g)
     let e' := moved.foldl (fun (d : Device) g =>
       (List.range 8).foldl (fun (d : Device) k => d.modCore (8 * g + k) (fun k => { k with tlb := [] })) ((d.acquireAll g).setCluster g {})) e
     go 0x0200 .znPartConfig
       (e.svcState 2 p = 3 ∧ m ≠ 0 ∧ (∀ g, g < 16 → m.testBit g = true → (e.partOfCluster g = none ∨ e.partOfCluster g = some p) ∧
         e.svcState 0 (g / 4) ≠ 3))
       ({ e' with partMask := Cells.set 0#16 e'.partMask p (BitVec.ofNat 16 m) }.complete id 0 0)) ∧
    go 0x0201 .znPartEnable (e.clustersOf p ≠ 0#16 ∧ e.noImage 1 = false ∧ e.noImage 3 = false) (e.svcEnable 2 p id) ∧
    go 0x0202 .znPartDisable True queued ∧
    (let aligned := c.arg 16 8 % 0x200000 = 0 ∧ c.arg 24 4 ≤ 0x100000
     let gs := (List.range (c.arg 24 4)).map (fun i => c.arg 16 8 / 0x200000 + i)
     let dram := ∀ g ∈ gs, isDram (regionOf (g * 0x200000)) = true
     let mine := ∀ g ∈ gs, Cells.find? e.granules g = some p
     go 0x0203 .znGranuleAssign
       (aligned ∧ dram ∧ (∀ g ∈ gs, ∀ k, regionOf (g * 0x200000) = .cistern k → e.cisOnline k = true) ∧
         (∀ g ∈ gs, ∀ q, Cells.find? e.granules g = some q → q = p) ∧ (∀ g ∈ gs, g ∉ e.svc.granules))
       ({ e with granules := gs.foldl (fun m g => Cells.put m g p) e.granules }.complete id 0 (c.arg 24 4)) ∧
     go 0x0204 .znGranuleRelease (aligned ∧ dram ∧ mine) queued ∧
     go 0x0208 .znScrub (aligned ∧ dram ∧ mine) queued) ∧
    (let a := c.arg 16 8
     let n := c.arg 24 1
     let w := e.memWrite a ((c.pkt.drop 32).take (8 * n))
     go 0x0205 .znPtWrite
       (a % 8 = 0 ∧ 1 ≤ n ∧ n ≤ 124 ∧ regionOf a = .hbm ∧ regionOf (a + 8 * n - 1) = .hbm ∧ e.granuleOwner a = some p ∧
         e.granuleOwner (a + 8 * n - 1) = some p)
       (w.1.complete id (if w.2 then 0x0021 else 0) 0) ∧
     go 0x0206 .znPtRoot (a = 0) ((e.setFlag (Reg.HUB_PT_ROOT_LO p) 0 false).complete id 0 0) ∧
     go 0x0206 .znPtRoot (a ≠ 0 ∧ a % 4096 = 0 ∧ regionOf a = .hbm ∧ e.granuleOwner a = some p)
       (((e.setReg (Reg.HUB_PT_ROOT_LO p) (BitVec.ofNat 32 (a + 1))).setReg (Reg.HUB_PT_ROOT_HI p) (BitVec.ofNat 32 (a / 0x100000000))).complete id 0 0)) ∧
    (let keep := fun (t : List TlbEntry) => t.filter (fun x => !x.meets (c.arg 16 8) (c.arg 24 8))
     let e1 := (e.coresOf p).foldl (fun d k => d.modCore k (fun k => { k with tlb := keep k.tlb })) e
     let gs := (List.range 16).filter (fun g => (e1.clustersOf p).toNat.testBit g)
     go 0x0207 .znXlateInval True
       ((gs.foldl (fun (d : Device) g => d.setCluster g { d.cluster g with tlb := keep (d.cluster g).tlb }) e1).complete id 0 0)) ∧
    (let here := e.partOf v = some p ∧ e.hasSlot v = true ∧ e.standby = false ∧ v ≤ 127
     let bank := c.arg 17 1
     let ws := bytesToWords 8 ((c.pkt.drop 32).take 32)
     let x := e.exitIdle
     let k := x.core v
     let fits := here ∧ bank ≤ 1 ∧ c.arg 18 2 ≤ 1023
     go 0x0300 .znImemLoad (fits ∧ (k.switchPending = false ∨ bank = k.bank) ∧ (k.run ≠ .running ∨ bank ≠ k.bank))
       ((x.modCore v (fun k => k.writeImem bank (8 * c.arg 18 2) ws)).complete id 0 0) ∧
     go 0x0300 .znImemLoad (fits ∧ k.run = .running ∧ bank = k.bank ∧ k.held.length < 64)
       (x.modCore v (fun k => { k with held := k.held ++ [{ bank := bank, index := 8 * c.arg 18 2, words := ws, owner := some id }] })) ∧
     go 0x0304 .znCoreSpare (here ∧ e.flag (Reg.HUB_SLOTSTAT (v / 8)) 14 = false ∧ e.flag (Reg.HUB_SLOTSTAT (v / 8)) 8 = false) queued) ∧
    (let ks := (List.range 128).filter (fun k => (c.arg 16 16).testBit k)
     go 0x0301 .znCoreReset (e.standby = false ∧ ∀ k ∈ ks, e.partOf k = some p ∧ e.hasSlot k = true)
       ((ks.foldl (fun d k => d.coreReset k) e.exitIdle).complete id 0 0)) ∧
    go 0x0303 .znTableBuild (c.arg 32 4 ≠ 0 ∧ bits (c.arg 36 1) 2 1 ≠ 3 ∧ c.arg 38 2 ≠ 0) queued) ∧
  (∀ (s : State) (id : Nat) (c0 : ZCmd), s.dev.znPump.znNext = some (id, c0) →
    let c := { c0 with state := .started }
    let e := s.dev.znPump.znStart id c0
    let go := fun (code : Nat) (i : Instr) (ok : Prop) (e' : Device) => c0.opcode = code → ok → s.Does i e'.znPump
    let queued := e.setCmd id { c with state := .queued }
    let p := c.part
    let f := c.arg 16 4
    (let v6 := bit (c.arg 32 1) 0
     let enc := bit (c.arg 32 1) 1
     let mine := (e.aq.flows.filter (fun x => x.2.part == p)).length
     let quota := e.fld (Reg.AQ_QUOTA p) 17 0
     let key : AqKey := { key := c.arg 64 32, salt := c.arg 96 4 }
     go 0x0500 .znFlowOpen
       ((enc = false ∨ e.lifecycle = 1) ∧ e.noImage 2 = false ∧ e.aq.flows.length < 200000 ∧ (quota = 0 ∨ mine < quota) ∧ e.partIp p v6 ≠ 0)
       (e.openFlow p v6 (if v6 then c.arg 16 16 else c.arg 16 4) (c.arg 36 4) (if enc then some key else none) (some id)).1) ∧
    go 0x0502 .znFlowQuery (f < 200000 ∧ e.flow f = none) (e.complete id 0 (Cells.get 0 e.aq.gens f * 0x40000)) ∧
    (∀ x, e.flow f = some x → x.part = p →
      go 0x0501 .znFlowClose (f < 200000 ∧ (x.phase = .live ∨ x.phase = .broken)) (e.closeFlow f (some id)) ∧
      go 0x0502 .znFlowQuery (f < 200000)
        (e.complete id 0 (x.gen * 0x40000 + (match x.phase with | .opening => 1 | .live => 2 | .closing => 3 | .broken => 4))) ∧
      (let slot := c.arg 20 1
       let key : AqKey := { key := c.arg 64 32, salt := c.arg 96 4 }
       let ok := f < 200000 ∧ slot ≤ 1 ∧ x.phase ≠ .closing ∧ x.enc = true
       let other := x.keyid ≠ decide (slot = 1)
       go 0x0503 .znKeyInstall (ok ∧ other ∧ e.lifecycle = 1)
         ((e.setFlow f (if slot = 0 then { x with key0 := some key } else { x with key1 := some key })).complete id 0 0) ∧
       go 0x0504 .znKeySwitch (ok ∧ (if slot = 0 then x.key0 else x.key1).isSome) ((e.setFlow f { x with keyid := decide (slot = 1) }).complete id 0 0) ∧
       go 0x0505 .znKeyClear (ok ∧ other) ((e.setFlow f (if slot = 0 then { x with key0 := none } else { x with key1 := none })).complete id 0 0))) ∧
    (let i := c.arg 16 1
     go 0x0506 .znPortAdmit (i ≤ 7 ∧ bit (c.arg 17 1) 0 = false) ((e.portRemove i).complete id 0 0) ∧
     go 0x0506 .znPortAdmit (i ≤ 7 ∧ bit (c.arg 17 1) 0 = true ∧ e.portHolds i = false) ((e.portReadmit i).complete id 0 0) ∧
     go 0x0507 .znPortRecal (i ≤ 7) queued) ∧
    (let r : RxRing := { base := c.arg 24 8, log2 := c.arg 32 1, entryLog2 := c.arg 33 1, prod := c.arg 40 8, cons := c.arg 48 8 }
     let n := 256 * p + c.arg 16 1
     go 0x0508 .znRxringSet (r.base = 0) ({ e with zn := { e.zn with rx := Cells.erase e.zn.rx n } }.complete id 0 0) ∧
     go 0x0508 .znRxringSet (r.base ≠ 0 ∧ 4 ≤ r.log2 ∧ r.log2 ≤ 16 ∧ 6 ≤ r.entryLog2 ∧ r.entryLog2 ≤ 13 ∧ r.prod % 64 = 0 ∧ r.cons % 64 = 0)
       ({ e with zn := { e.zn with rx := Cells.put e.zn.rx n r } }.complete id 0 0)) ∧
    (let on := bit (c.arg 16 1) 0 = true
     let aqHeld := e.flag Reg.AQ_CTL (16 + p) = false ∧ e.flag Reg.AQ_STATUS (16 + p) = true
     let updHeld := e.flag (Reg.UPD_CTL p) 0 = false ∧ e.flag (Reg.UPD_STATUS p) 30 = true
     go 0x0509 .znAqEnable (¬ on) ((e.aqPenDisable p).complete id 0 0) ∧
     go 0x0509 .znAqEnable (on ∧ ¬ aqHeld) ((e.aqPenEnable p).complete id 0 0) ∧
     go 0x0509 .znAqEnable (on ∧ aqHeld) ({ e with aq := { e.aq with enableWaiters := e.aq.enableWaiters ++ [(p, id)] } }.aqPenEnable p) ∧
     go 0x0601 .znUpdEnable (¬ on) ((e.updDisable p).complete id 0 0) ∧
     go 0x0601 .znUpdEnable (on ∧ ¬ updHeld) ((e.updEnable p).complete id 0 0) ∧
     go 0x0601 .znUpdEnable (on ∧ updHeld) ({ e with upd := { e.upd with waiters := e.upd.waiters ++ [(p, id)] } }.updEnable p)) ∧
    go 0x0600 .znGroupSet (c.arg 16 2 < e.fld (Reg.UPD_NGROUP p) 16 0)
      (e.groupSet { part := p, group := c.arg 16 2, setStep := bit (c.arg 18 1) 0, clearTorn := bit (c.arg 18 1) 1, step := c.arg 20 4, owner := some id }) ∧
    go 0x0602 .znCkpt (c.arg 16 2 ≤ 255 ∧ Cells.find? e.svc.ckpt p = none) queued ∧
    go 0x0602 .znCkpt (c.arg 16 2 ≤ 255 ∧ (Cells.find? e.svc.ckpt p).isSome) ((e.sliceBusy p (c.arg 16 2)).complete id 0x0082 0) ∧
    go 0x0603 .znRestore
      (c.arg 16 2 ≤ 255 ∧ c.arg 18 1 ≤ 1 ∧ (c.arg 18 1 = 1 → c.arg 20 4 < 200000) ∧ e.stkState p = 0) queued ∧
    (∀ k, k = c.arg 16 1 → (∀ x ∈ s.dev.zn.cmds, x.2.opcode ≠ 0x0302 ∨ x.2.state ≠ .started) →
      go 0x0302 .znTableLoad
        (c.arg 17 1 ≤ 15 ∧ k ≤ 127 ∧ e.partOf k = some p ∧ e.hasSlot k = true ∧ e.standby = false ∧ c.arg 24 8 < 2 ^ 48 ∧
          occupancy ((e.core k).queue 4) < 64)
        ((e.setCmd id { c with progress := 1 }).exitIdle.enqueue k 4
          { cmd := BitVec.ofNat 256 c.table, gate := {}, stroke := e.strokeOf p, owner := some id })))

/-- The same of dies, chiplets, pages, firmware, lifecycle, debug, power and the configuration store (R486-R490, R551, R563, R567-R569,
R581, R594). -/
def Obligations.ZennusModuleCommands : Prop :=
  ∀ (s : State) (id : Nat) (c0 : ZCmd) (image : List Byte), s.dev.znPump.znNext = some (id, c0) →
    let c := { c0 with state := .started }
    let e := s.dev.znPump.znStart id c0
    let go := fun (code : Nat) (i : Instr) (ok : Prop) (e' : Device) => c0.opcode = code → ok → s.Does i e'.znPump
    let queued := e.setCmd id { c with state := .queued }
    let v := c.arg 16 1
    go 0x0700 .znDieEnable (v ≤ 3 ∧ e.standby = false) (e.exitIdle.svcEnable 0 v id) ∧
    go 0x0701 .znDieDisable
      (v ≤ 3 ∧ (e.svcState 0 v = 0 → ∀ p, p < 16 → (e.clustersOf p).toNat &&& 0xF * 2 ^ (4 * v) = 0 ∨ e.stkState p = 0)) queued ∧
    go 0x0702 .znCisEnable (v ≤ 1 ∧ e.standby = false) queued ∧
    go 0x0703 .znCisDisable
      (v ≤ 1 ∧ (e.svcState 1 v = 0 → (∀ x ∈ e.granules, regionOf (x.1 * 0x200000) ≠ .cistern v) ∧ e.sliceOn v = false)) queued ∧
    (let b := image.take (c.arg 32 4)
     go 0x0704 (.znFwStage image) (v ≤ 6 ∧ imageBad v (c.arg 32 4) b = false) (e.setCmd id { c with data := b, state := .queued })) ∧
    ((∀ x ∈ s.dev.zn.cmds, x.2.opcode ≠ 0x0705 ∨ x.2.state ≠ .started) →
      go 0x0705 .znFwActivate (v ≤ 6 ∧ e.subsystemBusy v = false ∧ e.activateStatus v = 0)
        ((e.setCmd id { c with progress := 1 }).activateStart v (some id))) ∧
    go 0x0706 .znFwRollback (v ≤ 6 ∧ e.rollbackStatus v = 0) queued ∧
    (let a := c.arg 16 8
     go 0x0707 .znPageRetire (isDram (regionOf a) = true ∧ (∀ k, regionOf a = .cistern k → e.cisOnline k = true) ∧ e.standby = false)
       ((e.exitIdle.retirePage a).complete id 0 0)) ∧
    go 0x0708 .znCalibrate (v ≤ 2) queued ∧
    (let off := ∀ p, p < 16 → e.svcState 2 p = 3
     let jumper := e.flag Reg.SEC_STATE 27 = true
     go 0x0800 .lifecycleSecured (v = 1 ∧ e.standby = false ∧ (e.lifecycle = 0 ∨ (e.lifecycle = 2 ∧ off))) queued ∧
     go 0x0800 .lifecycleService (v = 2 ∧ e.standby = false ∧ (e.lifecycle = 0 ∨ e.lifecycle = 1) ∧ off ∧ jumper) queued ∧
     go 0x0800 .lifecycleRetired (v = 3 ∧ e.standby = false ∧ e.lifecycle ≠ 3 ∧ jumper) queued ∧
     go 0x0800 .lifecycleRetired (v = 3 ∧ e.lifecycle ≠ 3 ∧ ¬ jumper) (e.complete id 0x0019 0)) ∧
    go 0x0801 .znDebugOpen
      (1 ≤ v ∧ v ≤ 3 ∧ (v = 3 → e.lifecycle = 2) ∧ (v < 3 → e.svcState 2 c.part = 0) ∧ (e.dbgLevel = 0 ∨ e.fld Reg.SEC_STATE 19 16 = c.part)) queued ∧
    (let opens := (e.zn.cmds.filter (fun x => x.2.opcode == 0x0801 && x.2.begun)).map (·.1)
     go 0x0802 .znDebugClose True (((opens.foldl (fun d k => d.endOp k 0x0020) e).closeDebug).complete id 0 0)) ∧
    go 0x0803 .znZeroise True queued ∧
    go 0x0804 .znCfgFactory (e.flag Reg.CFG_STATUS 25 = false) queued ∧
    (let w := c.arg 16 4
     let e' := e.setReg Reg.PWR_LIMIT (BitVec.ofNat 32 w)
     go 0x0805 .znPowerLimit (w < 300 ∨ 1000 < w) (e.complete id 0x0010 0) ∧
     go 0x0805 .znPowerLimit (900 < w ∧ w ≤ 1000) queued ∧
     go 0x0805 .znPowerLimit (300 ≤ w ∧ w ≤ 900 ∧ e'.flag Reg.CFG_STATUS 25 = false) (e'.storeChange { sets := [(0x0010, some (toLe 2 w))], owner := some id })) ∧
    go 0x0806 .znPowerState (v ≤ 3 ∧ e.noImage 6 = false) (((e.setFld Reg.PWR_STATE 25 24 v).showPower).complete id 0 0) ∧
    go 0x0806 .znPowerState (6 < v) (e.complete id 0x0010 0) ∧
    go 0x0806 .idleEntry (v = 4 ∧ e.fld Reg.PWR_STATE 31 29 ≠ 4 ∧ e.standby = false ∧ e.quiescent = true)
      ((e.setFld Reg.PWR_STATE 31 29 4).complete id 0 0) ∧
    go 0x0806 .standbyEntry (v = 5 ∧ e.standby = false ∧ e.quiescent = true)
      (let e1 := ((List.range 16).foldl (fun d g => d.releaseAll g) e).closeDebug
       let e2 := (e1.sysSuspend (fun c => !c.worksInStandby)).resetDies
       ({ e2 with pwr := { e2.pwr with diesOn := false } }.setFld Reg.PWR_STATE 31 29 5).complete id 0 0) ∧
    go 0x0806 .activeReturn (v = 6 ∧ e.standby = true) (((e.diesOn.setFld Reg.PWR_STATE 31 29 e.diesOn.pState).sysResume).complete id 0 0) ∧
    go 0x0806 .activeReturn (v = 6 ∧ e.standby = false) (e.exitIdle.complete id 0 0) ∧
    (∀ b, e.storeGet (c.arg 16 2) = some b →
      go 0x0807 .znCfgRead (1 ≤ c.arg 16 2 ∧ c.arg 16 2 < 0x8000 ∧ c.fn ≠ mctpFn)
        ((e.hostWrite (c.arg 24 8) (b ++ List.replicate (4096 - b.length) 0#8)).complete id 0 b.length)) ∧
    (let k := c.arg 16 2
     let n := c.arg 18 2
     let ch : StoreChange := { sets := [(k, if n = 0 then none else some ((c.pkt.drop 32).take n))], owner := some id }
     go 0x0808 .znCfgWrite (0x100 ≤ k ∧ k < 0x8000 ∧ n ≤ 992 ∧ storeBytes (ch.apply e.storeAhead) ≤ bankSize) (e.storeChange ch))

/-- Rings and refusals. A tail in range makes the module read the packets of the new entries, and each becomes an outstanding command; a
doorbell out of range does nothing but count; a head frees its entries. EN of a function that is ready makes its admin ring from the ring
registers; clearing it drops the ring and its commands without completions. The arbiter's next command, where a common check refuses it,
completes with the first failed check's status before anything else is done for it (R498, R500, R501, R505, R508). -/
def Obligations.ZennusRingsAndRefusals : Prop :=
  ∀ (s : State) (fn : FnId) (l : Fin 32768) (v : Word) (entries : List Byte),
    let d := s.dev
    let x := v.toNat
    (d.localRing fn l = none → s.Does (.sqTailWrite fn l v entries) d.znPump ∧ s.Does (.cqHeadWrite fn l v) d.znPump) ∧
    (∀ g r, d.localRing fn l = some (g, r) →
      let n := (x + 2 ^ r.log2 - r.tail) % 2 ^ r.log2
      (2 ^ r.log2 ≤ x → s.Does (.sqTailWrite fn l v entries) (d.bump (Reg.ZN_DB_ERR fn) 1).znPump ∧
        s.Does (.cqHeadWrite fn l v) (d.bump (Reg.ZN_DB_ERR fn) 1).znPump) ∧
      (x < 2 ^ r.log2 → s.Does (.cqHeadWrite fn l v) (d.setRing g { r with cqHead := x }).znPump) ∧
      (x < 2 ^ r.log2 → n ≠ 0 → d.flag (Reg.ZN_STATUS 0) 30 = false → r.sqDev = false → entries.length = 64 * n →
        s.Does (.sqTailWrite fn l v entries)
          ((d.setRing g { r with tail := x }).readPackets g (r.partialPkt ++ entries) (r.partialPkt.length + n + 1)).znPump)) ∧
    (∀ g (r : Ring) (pkt : List Byte) n, Cells.find? d.zn.rings g = some r → pkt.length = 64 →
      bits (leAt pkt 2 1) 3 0 = 0 →
      let d' := d.readPackets g pkt (n + 2)
      d'.zn.nextCmd = d.zn.nextCmd + 1 ∧
      ∃ c, Cells.find? d'.zn.cmds d.zn.nextCmd = some c ∧ c.opcode = leAt pkt 0 2 ∧ c.fn = r.fn ∧ c.ring = g ∧ c.cmdId = leAt pkt 4 4 ∧ c.pkt = pkt) ∧
    (d.flag (Reg.ZN_STATUS fn) 31 = true → d.flag (Reg.ZN_CTL fn) 0 = false →
      let r : Ring := {
        fn := fn, loc := 0
        sqBase := d.fld (Reg.ZN_ASQ_LO fn) 31 12 * 0x1000 + (d.reg (Reg.ZN_ASQ_HI fn)).toNat * 0x100000000
        cqBase := d.fld (Reg.ZN_ACQ_LO fn) 31 12 * 0x1000 + (d.reg (Reg.ZN_ACQ_HI fn)).toNat * 0x100000000
        log2 := max 4 (min 16 (d.fld (Reg.ZN_AQ_CFG fn) 4 0)), event := some 0 }
      s.Does (.znCtlEnable fn) (((d.setFlag (Reg.ZN_CTL fn) 0 true).setRing fn r).showHeld fn)) ∧
    (d.flag (Reg.ZN_CTL fn) 0 = true → s.Does (.znCtlDisable fn) ((d.setFlag (Reg.ZN_CTL fn) 0 false).wipeRing fn).znPump) ∧
    (∀ id c st n, d.znNext = some (id, c) → d.refusal c = some st →
      d.refuseAll (n + 1) = ({ d with zn := { d.zn with arb := (c.ring + 1) % (mctpRing + 1) } }.complete id st 0).refuseAll n) ∧
    (∀ c : ZCmd, opRow c.opcode = none → d.refusalFence c = none → d.refusal c = some 0x0001)

/-- Long operations. A suspend, a resume, a cancel and a query reach the command they name or find none; at a safe point a SUSPENDING
operation becomes SUSPENDED; the work of a RUNNING one is done when it ends, and a cancelled one ends with ST_CANCELLED; the writes of the
configuration store are carried out one by one, and the first start of an image decides between it and the other slot (R514-R516, R582,
R590, R592). -/
def Obligations.LongOperationsProceed : Prop :=
  ∀ (s : State) (op : Nat) (sub : Fin 7),
    let d := s.dev
    (∀ t, Cells.find? d.zn.cmds op = some t → t.long = true → t.state = .suspending →
      let e := if d.hasWindow op then d.closeWindow else d
      s.Does (.longOpSafePoint op)
        ((e.setCmd op { t with state := .suspended, sys := e.sysHolds t }).settleControls op ((e.setCmd op { t with state := .suspended, sys := e.sysHolds t }).zn.cmds.length + 1)).znPump) ∧
    (∀ t, Cells.find? d.zn.cmds op = some t → t.long = true →
      ((t.state = .running ∨ t.state = .suspending) → d.sysHolds t = false → d.hasWindow op = false → s.Does (.longOpDone op) (d.opFinish op t).znPump) ∧
      (t.state = .cancelling → s.Does (.longOpDone op) (d.endOp op 0x0020).znPump) ∧
      ((t.state = .queued ∨ t.state = .suspended) → s.Does (.longOpDone op) d.znPump)) ∧
    (∀ id c0, d.znPump.znNext = some (id, c0) →
      let c := { c0 with state := .started }
      let e := d.znPump.znStart id c0
      let bad := c.arg 20 1 > 1 ∨ (c.fn = 0 ∧ c.arg 21 1 > 16 ∧ c.arg 21 1 ≠ mctpFn)
      (∀ row ∈ ([(0x0100, .znOpQuery), (0x0101, .znOpSuspend), (0x0102, .znOpResume), (0x0103, .znOpCancel)] : List (Nat × Instr)),
        c0.opcode = row.1 →
        (bad → s.Does row.2 (e.complete id 0x0010 0).znPump) ∧
        (¬ bad → e.controlTarget id c = none → s.Does row.2 (e.complete id 0x0018 0).znPump)) ∧
      (∀ k t, ¬ bad → e.controlTarget id c = some (k, t) →
        let waits := fun (d : Device) => (d.setCmd id { c with target := some k }).znPump
        (t.long = true → t.state ≠ .waiting →
          (c0.opcode = 0x0100 → ∃ p, p < 1001 ∧ ((t.state = .queued ∨ t.ran = false) → p = 0) ∧
            s.Does .znOpQuery (e.useFree.complete id 0 (t.state.code * 0x10000000 + (if t.sys then 0x8000000 else 0) + p)).znPump) ∧
          (c0.opcode = 0x0101 →
            ((t.state = .queued ∨ t.state = .suspended) →
              s.Does .znOpSuspend ((e.setCmd k { t with state := .suspended, hostSusp := true }).complete id 0 0).znPump) ∧
            (t.state = .running → s.Does .znOpSuspend (waits (e.setCmd k { t with state := .suspending, hostSusp := true })))) ∧
          (c0.opcode = 0x0102 →
            ((t.state = .queued ∨ t.state = .running) → s.Does .znOpResume (e.complete id 0 0).znPump) ∧
            (t.state = .resuming → s.Does .znOpResume (waits e))) ∧
          (c0.opcode = 0x0103 →
            (t.state = .queued → s.Does .znOpCancel ((e.endOp k 0x0020).complete id 0 0).znPump) ∧
            (t.state = .running → e.needsPresence t = false → (t.opcode ≠ 0x0800 ∨ t.progress ≠ 1) →
              s.Does .znOpCancel (waits (e.setCmd k { t with state := .cancelling }))))) ∧
        (t.state = .waiting → c0.opcode = 0x0103 → s.Does .znOpCancel ((e.complete k 0x0020 0).complete id 0 0).znPump))) ∧
    (∀ c rest, d.boot.changes = c :: rest →
      s.Does (.cfgStoreWriteDone true) (d.storeDone c rest).znPump ∧
      (d.boot.fails = 0 →
        let e := (d.setBank d.nextBank none).bump Reg.CFG_WRITES 1
        s.Does (.cfgStoreWriteDone false) ({ e with boot := { e.boot with fails := 1 } }).znPump)) ∧
    (d.boot.changes = [] → ∀ ok, s.Does (.cfgStoreWriteDone ok) d.znPump) ∧
    (∀ x ok, d.boot.firstStart.find? (fun x => x.1 == sub.val) = some x → ∃ d' : Device, s.Does (.fwFirstStartResult sub ok) d'.znPump ∧
      (d.Sound → x.2 = none → d'.evtState 0x008 = (match d.evtState 0x008 with | 0 => 1 | 2 => 3 | n => n) ∧ d'.boot.firstStart = d.boot.firstStart.erase x)) ∧
    (d.boot.firstStart.find? (fun x => x.1 == sub.val) = none → ∀ ok, s.Does (.fwFirstStartResult sub ok) d.znPump)

/-! ## The host port, events and faults -/

/-- A register write by the host. With a 1 in a reserved field it stops (R11); one that the function may not make does nothing but count;
any other stores the plain fields and then carries out the actions that the value asks for. In one write of CORE_CTL, SWITCH, RESUME, START
and HALT act in that order, and STOP, ARM and COMMIT in one write of STK_CTL (R10, R11, R248, R493, R496). -/
def Obligations.RegisterWritesStoreAndAct : Prop :=
  ∀ (s : State) (fn : FnId) (off : Fin 67108864) (v : Word),
    let d := s.dev
    (d.regKey fn off = none → s.Does (.registerWrite fn off v) (d.denied fn)) ∧
    (∀ key, d.regKey fn off = some key →
      (v &&& Reg.reserved key ≠ 0#32 → exec (.registerWrite fn off v) s = .fault .reservedField) ∧
      (v &&& Reg.reserved key = 0#32 → ¬ (key = Reg.SEC_DBG_CTL ∧ bit v.toNat 30 = true ∧ bit v.toNat 31 = false) →
        (d.storedValue fn key v.toNat = none → s.Does (.registerWrite fn off v) (d.denied fn)) ∧
        (∀ x, d.storedValue fn key v.toNat = some x → s.Does (.registerWrite fn off v) ((d.plainWrite key x).regAction fn key v.toNat)))) ∧
    (∀ key x, d.Sound → ¬ (Reg.HUB_LINK_ERR 0 ≤ key ∧ key ≤ Reg.HUB_LINK_ERR 9) →
      let m := Reg.writable key
      (d.plainWrite key x).reg key = (d.reg key &&& ~~~m) ||| (BitVec.ofNat 32 x &&& m) ∧
      (∀ r, r ≠ key → (d.plainWrite key x).reg r = d.reg r) ∧ d.plainWrite key x = { d with regs := (d.plainWrite key x).regs }) ∧
    (∀ (c : CoreId) (p : PartId) (d : Device),
      d.coreAction c 0 0xF = (((d.ctlSwitch c).ctlResume c).ctlStart c).ctlHalt c ∧ d.stkAction p 0 0xE = ((d.stkStop p).stkArm p).stkCommit p)

/-- BAR4, configuration requests and management messages. An access inside the BAR whose pages translate reads or writes memory, and a
failing one reads all ones, or is dropped, and leaves a record; a configuration request is answered with Retry Status while the module
starts, and otherwise sets what it names; each message that the management firmware takes is answered (R497, R519, R523, R524). -/
def Obligations.HostAccessesAndMessages : Prop :=
  ∀ (s : State) (fn : FnId) (off len : Nat) (data req : List Byte) (value : Nat) (eid : Fin 256) (sub : Fin 7),
    let d := s.dev
    let base := d.reg64 (Reg.ZN_BAR4_BASE_LO fn) % 2 ^ 48
    let size := 2 ^ (if fn.val = 0 then d.zn.bar4Pf else d.zn.bar4Vf)
    let at' := base - base % size + off
    let answered := { d with zn := { d.zn with mctpOut := d.zn.mctpOut ++ [Config.mgmtAnswer 2 req] } }
    (d.standby = false → off + len ≤ size →
      (∀ d1 ps, d.bar4Pieces fn .read (pieces 0x10000 at' len) = (d1, .ok ps) → (d1.bar4Fetch ps).2.2 = false →
        s.Does (.bar4Read fn off len) { (d1.bar4Fetch ps).1 with zn := { (d1.bar4Fetch ps).1.zn with bar4Data := (d1.bar4Fetch ps).2.1 } }) ∧
      (∀ d1 st a, d.bar4Pieces fn .read (pieces 0x10000 at' len) = (d1, .error (st, a)) → ∃ d' : Device, s.Does (.bar4Read fn off len) d' ∧
        d'.zn.bar4Data = List.replicate len 0xFF#8 ∧ d'.mem = d1.mem ∧ d'.cores = d1.cores)) ∧
    (d.standby = false → off + data.length ≤ size →
      (∀ d1 ps, d.bar4Pieces fn .write (pieces 0x10000 at' data.length) = (d1, .ok ps) → s.Does (.bar4Write fn off data) (d1.bar4Store ps data)) ∧
      (∀ d1 st a, d.bar4Pieces fn .write (pieces 0x10000 at' data.length) = (d1, .error (st, a)) → ∃ d' : Device, s.Does (.bar4Write fn off data) d' ∧
        d'.mem = d1.mem ∧ d'.cores = d1.cores ∧ d'.hostMem = d1.hostMem)) ∧
    (d.boot.starting = true → ∀ f, s.Does (.configurationRequest fn f value) { d with zn := { d.zn with cfgRetry := true } }) ∧
    (d.boot.starting = false →
      (∃ d' : Device, s.Does (.configurationRequest fn 1 value) d' ∧ d'.pci fn = { d.pci fn with busMaster := value % 2 == 1 } ∧ d'.zn.cfgRetry = false) ∧
      (∃ d' : Device, s.Does (.configurationRequest fn 2 value) d' ∧ d'.pci fn = { d.pci fn with msixEnable := value % 2 == 1 }) ∧
      (∃ d' : Device, s.Does (.configurationRequest fn 3 value) d' ∧ d'.pci fn = { d.pci fn with msixMask := value % 2 == 1 }) ∧
      (fn.val = 0 → 30 ≤ value → value ≤ 41 →
        (∃ d' : Device, s.Does (.configurationRequest fn 4 value) d' ∧ d'.zn.bar4Pf = value ∧ d'.zn.bar4Vf = d.zn.bar4Vf) ∧
        (∃ d' : Device, s.Does (.configurationRequest fn 5 value) d' ∧ d'.zn.bar4Vf = value ∧ d'.zn.bar4Pf = d.zn.bar4Pf))) ∧
    s.Does .linkRetrain d.znPump ∧
    (d.pwr.pgOut = true → d.mgmtRuns = true →
      (∃ d' : Device, s.Does (.mctpControlMessage (some eid) req) d' ∧ d'.zn.eid = eid ∧ d'.zn.mctpOut.length = d.zn.mctpOut.length + 1) ∧
      (∃ d' : Device, s.Does (.pldmType0 req) d' ∧ d'.zn.mctpOut.length = d.zn.mctpOut.length + 1 ∧ d' = { d with zn := d'.zn }) ∧
      s.Does (.pldmSensorRead req) answered ∧
      s.Does (.mctpZennus req) (d.receive mctpFn mctpRing ((req ++ List.replicate 64 0#8).take (max 64 req.length))).znPump ∧
      (let e := { d with zn := { d.zn with mctpOut := d.zn.mctpOut ++ [Config.mgmtAnswer 5 data] } }
       d.stage ≠ 6 →
        (e.activateStatus sub = 0 → e.subsystemBusy sub = false → s.Does (.pldmFwUpdate sub true data) (e.activateStart sub none)) ∧
        (imageBad sub data.length data = true → s.Does (.pldmFwUpdate sub false data) (e.fire 0x008)))) ∧
    (d.pwr.pgOut = true → d.mgmtRuns = false → s.Does (.pldmSensorRead req) d)

/-- The states of an event source: firing, completing and delivering move a source as R534 says and count what they ignore; software raises
and completes, on a VF only inside its window; a window that may not be is refused; a delivery goes to the source chosen by rotating
priority, at the member its set's pointer finds first, which an MSI-X message, a semaphore or the journal then shows (R531, R534, R535,
R540-R543, R545, R547). -/
def Obligations.EventSourcesMove : Prop :=
  ∀ (s : State) (fn : FnId) (src : Fin 4096) (base : Fin 4096) (count : Fin 512),
    let d := s.dev
    (∀ (d : Device) (n : Nat), d.Sound → n < 4096 →
      let go := fun (f : Device → Device) (from' dest' : Nat) (k : Nat) => d.evtState n = from' →
        (f d).evtState n = dest' ∧ (∀ m, m ≠ n → m < 4096 → (f d).evtState m = d.evtState m) ∧
        (f d).reg k = (if from' = dest' ∨ (from' = 0 ∧ dest' = 0) then BitVec.ofNat 32 (min 0xFFFFFFFF ((d.reg k).toNat + 1)) else d.reg k)
      go (·.fire n) 0 1 Reg.EVT_COALESCED ∧ go (·.fire n) 1 1 Reg.EVT_COALESCED ∧ go (·.fire n) 2 3 Reg.EVT_COALESCED ∧ go (·.fire n) 3 3 Reg.EVT_COALESCED ∧
      go (·.evtComplete n) 0 0 Reg.EVT_STRAY ∧ go (·.evtComplete n) 1 1 Reg.EVT_STRAY ∧ go (·.evtComplete n) 2 0 Reg.EVT_STRAY ∧
      go (·.evtComplete n) 3 1 Reg.EVT_STRAY) ∧
    (fn.val = 0 → (src.val < 0x19 ∨ 0xFF < src.val) → s.Does (.evtRaise fn src) (d.fire src)) ∧
    (fn.val = 0 → s.Does (.evtComplete fn src) (d.evtComplete src)) ∧
    (fn.val ≠ 0 →
      let b := d.fld (Reg.EVT_FN_WIN fn) 11 0
      let n := d.fld (Reg.EVT_FN_WIN fn) 24 16
      (src.val < n → 0x200 ≤ b → s.Does (.evtRaise fn src) (d.fire (b + src)) ∧ s.Does (.evtComplete fn src) (d.evtComplete (b + src))) ∧
      (n ≤ src.val → s.Does (.evtRaise fn src) (d.bump (Reg.ZN_BAR_DENY fn) 1) ∧ s.Does (.evtComplete fn src) (d.bump (Reg.ZN_BAR_DENY fn) 1)) ∧
      (let old := d.fld (Reg.EVT_FN_WIN fn) 24 16
       let quiet := (List.range old).foldl (fun (d : Device) i => (d.setFld (Reg.EVT_SRC (b + i)) 30 29 0).setFlag (Reg.EVT_SRC (b + i)) 31 false) d
       (256 < count.val → s.Does (.evtFnWinWrite fn base count) (d.setFlag Reg.EVT_STATUS 30 true)) ∧
       (count.val = 0 → s.Does (.evtFnWinWrite fn base count) (quiet.setReg (Reg.EVT_FN_WIN fn) (BitVec.ofNat 32 base))))) ∧
    (∀ en, s.Does (.evtEnable en) ((d.setFlag Reg.EVT_CTL 0 en).setFlag Reg.EVT_STATUS 31 en)) ∧
    (d.flag Reg.EVT_CTL 0 = false → s.Does .eventDelivery d) ∧
    (∀ n i, d.flag Reg.EVT_CTL 0 = true →
      let e := d.noteHeld
      let ready := e.pendingSources.filter (fun n => (e.readyMember n).isSome)
      (ready.find? (fun n => decide (e.evt.arb ≤ n))).or ready.head? = some n → e.readyMember n = some i →
      s.Does .eventDelivery (e.deliver n i)) ∧
    (∀ x rest, d.evt.mgmt = x :: rest → d.mgmtRuns = true → ∃ d' : Device, s.Does .mgmtEventHandled d' ∧ d'.evt.mgmt = rest ∧
      d'.evt.jrnlSeq = (d.evt.jrnlSeq + 1) % 0x10000 ∧
      (d.Sound → d'.reg (Reg.EVT_JRNL (d.fld Reg.EVT_JRNL_HEAD 5 0)) = BitVec.ofNat 32 (0x80000000 + x % 0x1000 * 0x10000 + d.evt.jrnlSeq)))

/-- Fault records and the counters beside them. The oldest waiting record goes, once the module is READY, to the ring of the PF and of the
VFs of its partition, each of which writes or loses it, counts in HUB_FAULTS, and fires its source; two records of one cause merge, and a
full queue loses a new one; enabling a ring reads its address and starts it at zero; a link that fails its check counts and is reported once
past its limit; stall counters clear, latch, and the retirement window expires (R621, R623-R626, R629, R631, R637, R639, R640). -/
def Obligations.FaultRecordsAndCounters : Prop :=
  ∀ (s : State) (fn : FnId) (link : Fin 10) (c : CoreId) (row : Fin 7) (counter : Fin 12),
    let d := s.dev
    (∀ r rest, d.fault.queue = r :: rest →
      let e := { d with fault := { d.fault with queue := rest } }
      let all := (0 :: (List.range 17).filter (fun f => decide (r.part < 16) && d.boundPart f == some r.part)).foldl (fun (d : Device) f => d.writeFault r f) e
      (d.boot.starting = true → s.Does .faultRecordDelivery d) ∧
      (d.boot.starting = false → r.part < 16 → s.Does .faultRecordDelivery ((all.bump Reg.HUB_FAULTS 1).fire (0x100 + 16 * r.part))) ∧
      (d.boot.starting = false → 16 ≤ r.part → s.Does .faultRecordDelivery ((all.bump Reg.HUB_FAULTS 1).fire Evt.DEVICE_FAULT))) ∧
    (∀ r f, d.flag (Reg.ZN_FAULT_CFG f) 31 = true →
      let n := 2 ^ max 4 (min 16 (d.fld (Reg.ZN_FAULT_CFG f) 4 0))
      let t := d.fld (Reg.ZN_FAULT_IDX f) 31 16 % n
      let h := d.fld (Reg.ZN_FAULT_IDX f) 15 0 % n
      ((t + 1) % n = h → d.writeFault r f = d.bump (Reg.ZN_FAULT_LOST f) 1) ∧
      ((t + 1) % n ≠ h → d.flag (Reg.ZN_STATUS 0) 30 = false →
        (d.writeFault r f).hostMem = (d.hostWrite (Cells.get 0 d.fault.ringBase f + 64 * t) (r.bytes (Cells.get true d.fault.ringPhase f))).hostMem)) ∧
    (∀ r : FaultRec, (∀ q ∈ d.fault.queue, q.sameAs r = false) →
      (1024 ≤ d.fault.queue.length → d.raise r = d.bump Reg.HUB_FAULT_LOST r.count) ∧
      (d.fault.queue.length < 1024 → ∃ q : FaultRec, (d.raise r).fault.queue = d.fault.queue ++ [q] ∧
        q = { r with time := d.now, seq := Cells.get 0 d.fault.seq (if r.part < 16 then r.part else 16) })) ∧
    (d.flag (Reg.ZN_FAULT_CFG fn) 31 = false →
      let e := (d.setFlag (Reg.ZN_FAULT_CFG fn) 31 true).setReg (Reg.ZN_FAULT_IDX fn) 0#32
      s.Does (.faultRingEnable fn) { e with fault := { e.fault with
        ringPhase := Cells.set true e.fault.ringPhase fn true
        ringBase := Cells.set 0 e.fault.ringBase fn (d.fld (Reg.ZN_FAULT_LO fn) 31 12 * 0x1000 + (d.reg (Reg.ZN_FAULT_HI fn)).toNat * 0x100000000) } }) ∧
    (let e := d.bump (Reg.HUB_LINK_ERR link) 1
     let n := (e.reg (Reg.HUB_LINK_ERR link)).toNat
     (n < (e.reg Reg.HUB_LINK_CFG).toNat ∨ link.val ∈ d.fault.linkReported → s.Does (.linkCheckFail link) e) ∧
     ((e.reg Reg.HUB_LINK_CFG).toNat ≤ n → link.val ∉ d.fault.linkReported → ∃ st, s.Does (.linkCheckFail link)
       (({ e with fault := { e.fault with linkReported := e.fault.linkReported ++ [link.val] } }.fire Evt.LINK).raise
         { status := st, source := 13, index := link, detail := n }))) ∧
    (d.flag Reg.SEC_TRACE_CFG 31 = false → s.Does .traceEnable ((d.setFlag Reg.SEC_TRACE_CFG 31 true).setReg Reg.SEC_TRACE_TAIL 0#32)) ∧
    (∃ d' : Device, s.Does (.stallClear c) d' ∧ d' = { d with regs := d'.regs } ∧
      (d.Sound → (∀ (e : Fin 7) (k : Fin 12), d'.reg64 (Reg.CORE_STALL_LO c e k) = 0) ∧ ∀ r, r < Reg.CORE_STALL_LO c 0 0 → d'.reg r = d.reg r)) ∧
    s.Does (.coreStallLoRead c row counter)
      (d.modCore c (fun x => { x with stallLatch := Cells.put x.stallLatch (Reg.CORE_STALL_HI c row counter) (d.reg (Reg.CORE_STALL_HI c row counter)) })) ∧
    (let t := d.fault.windowStart + max 1 (d.fld Reg.HUB_RETIRE_CFG 7 0) * 3600 * secUnit
     s.Does .retireWindowExpire
       { d with now := max d.now t, fault := { d.fault with pages := [], bankCe := [], bankFired := [], windowStart := t } })

/-! ## Security, power, start-up -/

/-- Presence, seal, jumper and the debug port. A press with a window open from before it closes the window and lets its command go on, any
other press counts as stray; a window runs out at its deadline; an open seal latches TAMPER once, records it and retires the module;
removing the jumper closes a session of level 3. A debug access or step that the session does not reach ends with ST_NOT_PERMITTED; a read
shows the register; a step of a halted core issues its instruction and leaves it HALTED. JTAG shows the identity, one zero bit, the pins or
the debug registers (R556-R558, R562-R565). -/
def Obligations.PresenceSealAndDebug : Prop :=
  ∀ (s : State) (fell : Nat) (pins data : List Bool) (ctl : Word) (a x : Nat),
    let d := s.dev
    let t := max d.now (fell + 50000000 * nsUnit)
    let e := { d with now := t }
    (d.pwr.pgOut = false → s.Does (.presencePress fell) d) ∧
    (d.pwr.pgOut = true → d.sec.window = none → s.Does (.presencePress fell) (e.bump Reg.SEC_PRES_STRAY 1)) ∧
    (∀ w c, d.pwr.pgOut = true → d.sec.window = some w → t ≤ w.deadline → Cells.find? d.zn.cmds w.cmd = some c →
      (w.opened ≤ fell → d.standing c = true → s.Does (.presencePress fell) (e.pressCounts w.cmd c)) ∧
      (fell < w.opened ∨ d.standing c = false → s.Does (.presencePress fell) (e.bump Reg.SEC_PRES_STRAY 1))) ∧
    (d.sec.window = none → s.Does .presenceTimeout d) ∧
    (∀ w, d.sec.window = some w →
      s.Does .presenceTimeout (((({ d with now := max d.now w.deadline }.closeWindow).bump Reg.SEC_PRES_TIMEOUT 1).endOp w.cmd 0x0090).znPump)) ∧
    (let o := d.setFlag Reg.SEC_STATE 28 false
     (d.flag Reg.SEC_STATE 29 = true → s.Does .sealOpen o.znPump) ∧
     (d.flag Reg.SEC_STATE 29 = false →
       let l := (o.zeroise.setFlag Reg.SEC_STATE 29 true).fire Evt.TAMPER
       let f := { l with sec := { l.sec with fuseTamper := true } }
       s.Does .sealOpen (if l.lifecycle = 3 then f else f.retireModule none).znPump)) ∧
    (∀ fitted, let o := d.setFlag Reg.SEC_STATE 27 fitted
      s.Does (.svcJumperChange fitted) (if fitted = false ∧ d.dbgLevel = 3 then o.setDebug 0 0 else o)) ∧
    (let c : CoreId := Fin.ofNat 128 (d.fld Reg.SEC_DBG_CTL 23 17)
     let space := d.fld Reg.SEC_DBG_CTL 28 27
     let at' := d.reg64 Reg.SEC_DBG_ADDR_LO
     let reach := d.dbgLevel = 3 ∨ (d.dbgLevel = 2 ∧ space = 0 ∧ d.partOf c = some (d.fld Reg.SEC_STATE 19 16))
     (¬ reach → s.Does .debugAccess (d.dbgEnd 0x0016)) ∧
     (¬ (d.dbgLevel = 3 ∨ (d.dbgLevel = 2 ∧ d.partOf c = some (d.fld Reg.SEC_STATE 19 16))) → s.Does .debugStep (d.dbgEnd 0x0016)) ∧
     (reach → space = 0 → d.exitIdle.dbgCore c = true → (d.exitIdle.core c).run = .halted → (d.exitIdle.core c).empty = true →
       (∀ v wide, (d.exitIdle.core c).dbgReg at' = some (v, wide, false) → d.flag Reg.SEC_DBG_CTL 29 = false →
         ∃ d' : Device, s.Does .debugAccess d' ∧ (d.Sound → d'.fld Reg.SEC_DBG_STATUS 15 0 = 0 ∧ d'.flag Reg.SEC_DBG_STATUS 31 = false ∧
           d'.reg Reg.SEC_DBG_DATA_LO = BitVec.ofNat 32 v ∧
           (wide = true → d'.reg Reg.SEC_DBG_DATA_HI = BitVec.ofNat 32 (v / 2 ^ 32)) ∧ ∀ k : CoreId, d'.core k = d.exitIdle.core k)) ∧
       ((d.exitIdle.core c).dbgReg at' = none → s.Does .debugAccess (d.exitIdle.dbgEnd 0x0012))) ∧
     (∀ w, d.stepRefusal c = none → d.stepWord c = some w → ∃ u, issueWord c w { s with dev := d.stepBegin c } = .next u ∧
       s.Does .debugStep (u.dev.stepEnd c w (d.core c).pc) ∧ (u.dev.cores.length = 128 → ((u.dev.stepEnd c w (d.core c).pc).core c).run = .halted))) ∧
    (let shows := fun (i : Instr) (j : JtagInstr) (out boundary : List Bool) =>
       s.Does i { d with sec := { d.sec with jtagInstr := j, jtagOut := out, extestDriving := j == .extest, boundary := boundary } }
     let scans := (d.lifecycle = 0 ∨ d.lifecycle = 2) ∧ d.allOff = true
     shows .idcode .idcode (shiftOut 32 0x124000B3) d.sec.boundary ∧ shows .bypass .bypass [false] d.sec.boundary ∧
     (scans → shows (.samplePreload pins data) .samplePreload pins data ∧ shows (.extest pins data) .extest pins data) ∧
     (¬ scans → shows (.samplePreload pins data) .bypass [false] d.sec.boundary ∧ shows (.extest pins data) .bypass [false] d.sec.boundary) ∧
     (d.lifecycle = 3 → shows (.dbgport ctl a x) .bypass [false] d.sec.boundary) ∧
     (d.lifecycle ≠ 3 → ctl.toNat.testBit 31 = false → ctl.toNat.testBit 30 = false →
       s.Does (.dbgport ctl a x) ((d.jtag .dbgport d.dbgPort).dbgPortLoad ctl a x)))

/-- The 19 temperature sensors. A sample shows what each working sensor reads, sets WARN where one stands at its warning point and begins a
thermal hold where one stands at its throttle point; each step of a hold lowers the governor's level or, once all have stayed cool for 10
ms, ends the hold; a sensor 1 ms at its shutdown point takes the module down, and it restarts 10 s later once the power stage has cooled
(R612-R614). -/
def Obligations.TemperaturesHoldAndShutDown : Prop :=
  ∀ (s : State) (temps : List Int) (n : Fin 19) (temp : Int),
    let d := s.dev
    (∃ d' : Device, s.Does (.thermalSample temps) d' ∧ d'.now = max d.now (d.pwr.thermAt + 100000 * nsUnit) ∧ d'.cores = d.cores ∧ d'.mem = d.mem ∧
      (d.Sound →
        d'.reg (Reg.PWR_TEMP n) = (if d.sensorOff n then 0#32 else BitVec.ofNat 32 (2 ^ 31 + wrap 16 (temps.getD n 0))) ∧
        d'.flag Reg.PWR_THERM 31 = (List.range 19).any (fun k => d'.atPoint k warnPoint) ∧
        d'.flag Reg.PWR_THERM 30 = (d.flag Reg.PWR_THERM 30 || (List.range 19).any (fun k => d'.atPoint k throttlePoint)) ∧
        d'.reg Reg.PWR_THROTTLES = (if d.flag Reg.PWR_THERM 30 = false ∧ d'.flag Reg.PWR_THERM 30 = true
          then BitVec.ofNat 32 (min 0xFFFFFFFF ((d.reg Reg.PWR_THROTTLES).toNat + 1)) else d.reg Reg.PWR_THROTTLES))) ∧
    (d.flag Reg.PWR_THERM 30 = false → s.Does .thermalHoldStep d) ∧
    (d.flag Reg.PWR_THERM 30 = true →
      let t := max d.now (d.pwr.holdAt + 1000000 * nsUnit)
      let e := { d with now := t, pwr := { d.pwr with holdAt := t } }
      (d.anyAt throttlePoint = true → s.Does .thermalHoldStep (e.setLevel (min 5 (d.level + 1)))) ∧
      (∀ c, d.anyAt throttlePoint = false → d.pwr.coolSince = some c →
        (c + 10000000 * nsUnit ≤ t → s.Does .thermalHoldStep (e.setHold false)) ∧ (t < c + 10000000 * nsUnit → s.Does .thermalHoldStep e)) ∧
      (d.anyAt throttlePoint = false → d.pwr.coolSince = none → s.Does .thermalHoldStep e)) ∧
    (∀ h, d.pwr.hotSince = some h → d.pwr.pgOut = true →
      ∃ d' : Device, s.Does .thermalShutdown d' ∧ d'.now = max d.now (h + 1000000 * nsUnit) ∧ d'.pwr.pgOut = false ∧ d'.pwr.nextCause = 3 ∧
        d'.pwr.thermalOff = some d'.now) ∧
    (d.pwr.hotSince = none ∨ d.pwr.pgOut = false → s.Does .thermalShutdown d) ∧
    (∀ h, d.pwr.thermalOff = some h →
      (temp < 16 * 70 → s.Does (.thermalRestart temp) { d with now := max d.now (h + 10000000000 * nsUnit), pwr := { d.pwr with thermalOff := none } }) ∧
      (16 * 70 ≤ temp → s.Does (.thermalRestart temp) d)) ∧
    (d.pwr.thermalOff = none → s.Does (.thermalRestart temp) d)

/-- The power governor. Every 100 µs its level moves down by one, as far as 5, where the averages exceed their limits, and up by one, not
past the ceiling, where A10 has stayed below 95 % of the limit for 10 ms outside a thermal hold; the pace follows the level, and no command,
queue or memory is touched. A measurement enters the averages that the telemetry shows; without a POWER image it shows nothing (R585,
R615-R617). -/
def Obligations.GovernorMovesItsLevel : Prop :=
  ∀ (s : State) (mv ca watts : Nat),
    let d := s.dev
    let t := max d.now (d.pwr.govAt + 100000 * nsUnit)
    let tm := max d.now (d.pwr.sampleAt + 10000 * nsUnit)
    (∃ d' : Device, s.Does .governorDecision d' ∧ d'.now = t ∧ d'.cores = d.cores ∧ d'.mem = d.mem ∧ d'.hostMem = d.hostMem ∧
      (d.Sound → d.level ≤ 5 →
        let beyond := d.powerOver 1000 (d.fld Reg.PWR_LIMIT 15 0) = true ∨ d.powerOver 100 1000 = true
        (beyond → d'.level = min 5 (d.level + 1)) ∧
        (¬ beyond →
          (∀ b, d.pwr.lowSince = some b → b + 10000000 * nsUnit ≤ t → d.powerLow = true → d.flag Reg.PWR_THERM 30 = false →
            d'.level = if d.fld Reg.PWR_STATE 25 24 < d.level then d.level - 1 else d.level) ∧
          ((∀ b, d.pwr.lowSince = some b → t < b + 10000000 * nsUnit) ∨ d.powerLow = false ∨ d.flag Reg.PWR_THERM 30 = true → d'.level = d.level)))) ∧
    (∀ n, d.Sound → n ≤ 5 → (d.setLevel n).level = n ∧ (d.setLevel n).fld Reg.PWR_GOV 1 0 = n - 3 ∧
      (min n 3 = min d.level 3 → ∀ k, k < 4096 → (d.setLevel n).evtState k = d.evtState k)) ∧
    (d.noImage Sub.POWER = true → s.Does (.powerSample mv ca watts) { d with now := tm, pwr := { d.pwr with sampleAt := tm } }) ∧
    (d.noImage Sub.POWER = false → ∃ d' : Device, s.Does (.powerSample mv ca watts) d' ∧ d'.now = tm ∧
      d'.pwr.samples = ((mv, ca, watts) :: d.pwr.samples).take 1000 ∧ d'.cores = d.cores ∧ d'.mem = d.mem ∧
      (d.Sound → d'.fld Reg.PWR_PIN 15 0 = min 0xFFFF (d'.average 1000 (·.2.2)) ∧ d'.fld Reg.PWR_VIN 15 0 = min 0xFFFF (d'.average 100 (·.1)) ∧
        d'.fld Reg.PWR_IIN 15 0 = min 0xFFFF (d'.average 100 (·.2.1)) ∧
        d'.fld Reg.PWR_PIN_PEAK 15 0 = max (min 0xFFFF (d'.average 100 (·.2.2))) (d.fld Reg.PWR_PIN_PEAK 15 0)))

/-- The power input. What takes the module down makes PG_OUT low with the cause its next start records, once; an over-current or a failed
rail keeps it off until PWR_EN has gone low, a lost input until it has come back; an excursion only counts and fires POWER (R606-R608). -/
def Obligations.InputEventsPowerDown : Prop :=
  ∀ (s : State) (rail : Nat),
    let d := s.dev
    let down := fun (i : Instr) (cause : Nat) (latched wait : Bool) =>
      ∃ d' : Device, s.Does i d' ∧ d'.pwr.pgOut = false ∧ d'.pwr.diesOn = false ∧ d'.pwr.hotSwap = false ∧ d'.pwr.nextCause = cause ∧
        d'.pwr.latchedOff = latched ∧ d'.pwr.inputWait = wait ∧
        (d.flag (Reg.ZN_STATUS 0) 29 = true → d' = { d with pwr := d'.pwr, boot := d'.boot })
    (d.pwr.pgOut = true →
      down .inputLoss 2 d.pwr.latchedOff true ∧ down .inputOvervoltage 2 d.pwr.latchedOff true ∧ down .inputOvercurrent 1 true d.pwr.inputWait ∧
      down (.railFault rail) 1 true d.pwr.inputWait ∧ down .pwrEnFall 1 false d.pwr.inputWait ∧
      (∃ d' : Device, s.Does (.railFault rail) d' ∧ d'.pwr.rail = some rail) ∧
      s.Does .inputExcursion ((d.bump Reg.PWR_INPUT_EXC 1).fire Evt.POWER)) ∧
    (d.pwr.pgOut = false →
      s.Does .inputLoss { d with pwr := { d.pwr with inputWait := true } } ∧
      s.Does .inputOvervoltage { d with pwr := { d.pwr with inputWait := true, hotSwap := false } } ∧
      s.Does .inputOvercurrent { d with pwr := { d.pwr with hotSwap := false, latchedOff := true } } ∧
      s.Does (.railFault rail) d ∧ s.Does .inputExcursion d ∧
      s.Does .pwrEnFall { d with pwr := { d.pwr with pwrEn := false, latchedOff := false, nextCause := 1 } }) ∧
    s.Does .inputRestored { d with pwr := { d.pwr with inputWait := false } } ∧
    s.Does .pwrEnRise { d with pwr := { d.pwr with pwrEn := true } }

/-- Start-up and resets. A cold start needs power, PWR_EN and nothing that holds the module off; it begins at stage ROM with the recorded
cause, host memory, flash and fuses kept. The stages end in their order; READY waits for PERST_N and sets ZN_STATUS.READY of every function.
A warm cause is recorded, and outside a start asks for a warm reset, which keeps device time, memory and the partition layout and runs from
the image choice on (R519, R583-R587, R596-R598, R609). -/
def Obligations.StartsAndResets : Prop :=
  ∀ (s : State) (v : Word) (hbmMask : Fin 256) (chiplets : Fin 4),
    let d := s.dev
    let asked := fun (d : Device) (cause : Nat) =>
      if d.boot.starting then d.setFld Reg.CFG_BOOT 31 28 cause
      else { d.setFld Reg.CFG_BOOT 31 28 cause with boot := { d.boot with warmAsked := some cause } }
    let low := { d with pwr := { d.pwr with perstLow := true } }
    (d.pwr.perstLow = true → s.Does .perstAssert d) ∧
    (d.pwr.perstLow = false → s.Does .perstAssert (if d.pwr.pgOut then asked low 4 else low)) ∧
    s.Does .perstRelease { d with pwr := { d.pwr with perstLow := false } } ∧
    (v.toNat.testBit 31 = true → bits v.toNat 15 0 = 0x574D → s.Does (.cfgWarmWrite v) (asked d 5)) ∧
    (v.toNat.testBit 31 = false ∨ bits v.toNat 15 0 ≠ 0x574D → s.Does (.cfgWarmWrite v) d) ∧
    (d.boot.warmAsked = none → s.Does .warmReset d) ∧
    (∀ cause, d.boot.warmAsked = some cause → d.stage ≠ 6 →
      let n := { d with boot := { d.boot with warmAsked := none } }.warmReset
      s.Does .warmReset ({ n with boot := { n.boot with starting := true, warm := true, startedAt := n.now } }.bootRom) ∧
      (d.boot.changes = [] → (∀ g, g < 16 → (d.cluster g).lines = []) →
        n.mem = d.mem ∧ n.now = d.now ∧ n.partMask = d.partMask ∧ n.granules = d.granules ∧ n.tim = d.tim ∧ n.pwr = d.pwr ∧ n.cores.length = 128)) ∧
    (let due := d.pwr.pwrEn = true ∧ d.pwr.latchedOff = false ∧ d.pwr.inputWait = false ∧ d.pwr.thermalOff = none ∧ d.pwr.pgOut = false
     (¬ due → s.Does .coldStart d) ∧
     (due → ∃ d' : Device, s.Does .coldStart d' ∧ d'.pwr.pgOut = true ∧ d'.boot.starting = true ∧ d'.hostMem = d.hostMem ∧
       d'.boot.bank0 = d.boot.bank0 ∧ d'.boot.bank1 = d.boot.bank1 ∧ d'.boot.image = d.boot.image ∧ d'.now = 0 ∧ d'.cores.length = 128 ∧
       (d.Sound → d.pwr.nextCause < 16 → d'.stage = 0 ∧ d'.fld Reg.CFG_BOOT 31 28 = d.pwr.nextCause ∧ d'.lifecycle = d.lifecycle ∧
         d'.flag Reg.SEC_STATE 29 = d.flag Reg.SEC_STATE 29 ∧ d'.flag (Reg.ZN_STATUS 0) 31 = false))) ∧
    (let go := fun (e : Device) => s.Does (.bootStageComplete hbmMask chiplets) e.znPump
     (d.boot.starting = false ∨ d.pwr.pgOut = false → go d) ∧
     (d.boot.starting = true → d.pwr.pgOut = true →
       (d.stage = 0 → go d.bootRom) ∧ (d.stage = 1 → go (d.setFld Reg.CFG_BOOT 27 24 2)) ∧ (d.stage = 2 → go d.bootImages) ∧
       (d.stage = 3 → go (d.bootMemory hbmMask chiplets)) ∧ (d.stage = 4 → go d.bootDies) ∧
       (d.stage = 5 ∨ d.stage = 7 →
         (d.pwr.perstLow = true → go d) ∧
         (d.pwr.perstLow = false → ∃ d' : Device, go d' ∧ d'.boot.starting = false ∧ d'.zn.linkUp = true ∧
           (d.Sound → (∀ f : FnId, d'.flag (Reg.ZN_STATUS f) 31 = true) ∧ d'.stage = d.stage)))))

/-- Removal and function resets. The first removal of a module that is not prepared fences every function, takes the link down, closes the
presence window and makes every schedule with clusters free; a prepared or fenced module does nothing. A reset of a VF drops its commands
and rings without completions, disables its admin ring and resets its partition, keeping binding and quota; that of the PF does so for every
function and partition (R521, R522). -/
def Obligations.RemovalAndFunctionResets : Prop :=
  ∀ (s : State) (fn : FnId),
    let d := s.dev
    (d.flag (Reg.ZN_STATUS 0) 29 = true ∨ d.flag (Reg.ZN_STATUS 0) 30 = true ∨ d.zn.linkUp = false → s.Does .surpriseRemoval d) ∧
    (let fenced := (List.range 17).foldl (fun (d : Device) f => d.setFlag (Reg.ZN_STATUS f) 30 true) d
     let e := { fenced with zn := { fenced.zn with linkUp := false } }.sluiceAll.closeWindow
     (d.flag (Reg.ZN_STATUS 0) 29 = false → d.flag (Reg.ZN_STATUS 0) 30 = false → d.zn.linkUp = true →
       s.Does .surpriseRemoval (((e.zn.cmds.filter (fun x => x.2.long && x.2.begun)).map (·.1)).foldl (fun (d : Device) k => d.znForget k) e)) ∧
     (d.Sound → (∀ f : FnId, fenced.flag (Reg.ZN_STATUS f) 30 = true) ∧ ∀ k, (∀ f : FnId, k ≠ Reg.ZN_STATUS f) → fenced.reg k = d.reg k) ∧
     (∀ id st r, d.flag (Reg.ZN_STATUS 0) 30 = true → (d.completeOne id st r).hostMem = d.hostMem ∧ (d.completeOne id st r).mem = d.mem)) ∧
    (fn.val ≠ 0 →
      (d.boundPart fn = none → s.Does (.functionLevelReset fn) (d.flrFn fn).znPump) ∧
      (∀ p, (d.flrFn fn).boundPart fn = some p → s.Does (.functionLevelReset fn) ((d.flrFn fn).partFlr p).znPump)) ∧
    (fn.val = 0 → s.Does (.functionLevelReset fn)
      ((List.range 16).foldl (fun (d : Device) p => if d.clustersOf p = 0#16 then d else d.partFlr p)
        ((List.range 17).foldl (fun (d : Device) f => d.flrFn f) d)).znPump) ∧
    (let e := d.flrFn fn
     (∀ x ∈ d.zn.cmds, x.2.fn ≠ fn.val) →
       e.hostMem = d.hostMem ∧ e.mem = d.mem ∧ e.cores = d.cores ∧ e.zn.cmds = d.zn.cmds ∧
       (Cells.rising 0 d.zn.rings = true → ∀ x ∈ e.zn.rings, x.2.fn ≠ fn.val) ∧
       (d.Sound → e.flag (Reg.ZN_CTL fn) 0 = false ∧ e.boundPart fn = d.boundPart fn)) ∧
    (∀ id c, Cells.rising 0 d.zn.cmds = true → Cells.find? d.zn.cmds id = some c → c.long = false → d.hasWindow id = false →
      d.svc.ckpt.find? (fun e => e.2.owner == id) = none → (∀ x ∈ d.zn.cmds, x.2.waitsFor id = false) →
      d.znForget id = { d with zn := { d.zn with cmds := Cells.erase d.zn.cmds id } }.dropHeld id)
end

