-- ==== Sys2Proof/Laws/Cells.lean ====
section
/-!
SUPPORT. Sparse stores: reading after a write, what a write leaves alone, and that every operation keeps the one canonical form.
-/
namespace Sys2Proof
namespace Machine

variable {α : Type}

/-! ## Rising keys -/

theorem Cells.rising_mono {a b : Nat} (h : a ≤ b) : ∀ {m : Cells α}, Cells.rising b m = true → Cells.rising a m = true
  | [], _ => rfl
  | (k, v) :: rest, hm => by
    simp only [Cells.rising, Bool.and_eq_true, decide_eq_true_eq] at hm ⊢
    exact ⟨by omega, hm.2⟩

theorem Cells.rising_le : ∀ {m : Cells α} {lo : Nat}, Cells.rising lo m = true → ∀ e ∈ m, lo ≤ e.1
  | [], _, _, e, he => by cases he
  | (k, v) :: rest, lo, hm, e, he => by
    simp only [Cells.rising, Bool.and_eq_true, decide_eq_true_eq] at hm
    rcases List.mem_cons.1 he with rfl | he
    · exact hm.1
    · have := Cells.rising_le hm.2 e he
      omega

theorem Cells.rising_raise {m : Cells α} {lo hi : Nat} (h : Cells.rising lo m = true) (hm : ∀ e ∈ m, hi ≤ e.1) : Cells.rising hi m = true := by
  cases m with
  | nil => rfl
  | cons e rest =>
    simp only [Cells.rising, Bool.and_eq_true, decide_eq_true_eq] at h ⊢
    exact ⟨hm e (by simp), h.2⟩

theorem Cells.rising_filter (p : Nat × α → Bool) : ∀ {m : Cells α} {lo : Nat}, Cells.rising lo m = true → Cells.rising lo (m.filter p) = true
  | [], _, _ => rfl
  | e :: rest, lo, hm => by
    simp only [Cells.rising, Bool.and_eq_true, decide_eq_true_eq] at hm
    have ih := Cells.rising_filter p hm.2
    by_cases hp : p e = true
    · simp [List.filter, hp, Cells.rising, hm.1, ih]
    · simpa [List.filter, hp] using Cells.rising_mono (by omega) ih

theorem Cells.rising_append : ∀ {a b : Cells α} {lo mid : Nat}, Cells.rising lo a = true → (∀ e ∈ a, e.1 < mid) → lo ≤ mid →
    Cells.rising mid b = true → Cells.rising lo (a ++ b) = true
  | [], _, _, _, _, _, hl, hb => Cells.rising_mono hl hb
  | (k, v) :: rest, b, lo, mid, ha, hm, hl, hb => by
    simp only [Cells.rising, Bool.and_eq_true, decide_eq_true_eq] at ha
    have hk : k < mid := hm (k, v) (by simp)
    simp only [List.cons_append, Cells.rising, Bool.and_eq_true, decide_eq_true_eq]
    exact ⟨ha.1, Cells.rising_append ha.2 (fun e he => hm e (by simp [he])) (by omega) hb⟩

/-! ## One key -/

theorem Cells.erase_mem : ∀ {m : Cells α} {key : Nat} {e : Nat × α}, e ∈ Cells.erase m key → e ∈ m
  | [], _, _, h => by cases h
  | (k, v) :: rest, key, e, h => by
    unfold Cells.erase at h
    split at h
    · exact h
    · split at h
      · exact List.mem_cons_of_mem _ h
      · rcases List.mem_cons.1 h with rfl | h
        · simp
        · exact List.mem_cons_of_mem _ (Cells.erase_mem h)

theorem Cells.put_mem : ∀ {m : Cells α} {key : Nat} {v : α} {e : Nat × α}, e ∈ Cells.put m key v → e = (key, v) ∨ e ∈ m
  | [], _, _, _, h => by simpa [Cells.put] using h
  | (k, w) :: rest, key, v, e, h => by
    unfold Cells.put at h
    split at h
    · rcases List.mem_cons.1 h with rfl | h
      · exact .inl rfl
      · exact .inr h
    · split at h
      · rcases List.mem_cons.1 h with rfl | h
        · exact .inl rfl
        · exact .inr (List.mem_cons_of_mem _ h)
      · rcases List.mem_cons.1 h with rfl | h
        · exact .inr (by simp)
        · rcases Cells.put_mem h with rfl | h
          · exact .inl rfl
          · exact .inr (List.mem_cons_of_mem _ h)

theorem Cells.erase_rising : ∀ {m : Cells α} {lo key : Nat}, Cells.rising lo m = true → Cells.rising lo (Cells.erase m key) = true
  | [], _, _, _ => rfl
  | (k, v) :: rest, lo, key, h => by
    have h' := h
    simp only [Cells.rising, Bool.and_eq_true, decide_eq_true_eq] at h'
    unfold Cells.erase
    split
    · exact h
    · split
      · exact Cells.rising_mono (by omega) h'.2
      · simp only [Cells.rising, Bool.and_eq_true, decide_eq_true_eq]
        exact ⟨h'.1, Cells.erase_rising h'.2⟩

theorem Cells.put_rising : ∀ {m : Cells α} {lo key : Nat} {v : α}, Cells.rising lo m = true → lo ≤ key →
    Cells.rising lo (Cells.put m key v) = true
  | [], _, _, _, _, hk => by simpa [Cells.put, Cells.rising] using hk
  | (k, w) :: rest, lo, key, v, h, hk => by
    have h' := h
    simp only [Cells.rising, Bool.and_eq_true, decide_eq_true_eq] at h'
    unfold Cells.put
    split
    · simp only [Cells.rising, Bool.and_eq_true, decide_eq_true_eq]
      exact ⟨hk, by omega, h'.2⟩
    · split
      · rename_i hlt heq
        subst heq
        simp only [Cells.rising, Bool.and_eq_true, decide_eq_true_eq]
        exact h'
      · simp only [Cells.rising, Bool.and_eq_true, decide_eq_true_eq]
        exact ⟨h'.1, Cells.put_rising h'.2 (by omega)⟩

/-! ## Reading -/

theorem Cells.get_of_lt {dflt : α} : ∀ {m : Cells α} {lo key : Nat}, Cells.rising lo m = true → key < lo → Cells.get dflt m key = dflt
  | [], _, _, _, _ => rfl
  | (k, v) :: rest, lo, key, h, hk => by
    simp only [Cells.rising, Bool.and_eq_true, decide_eq_true_eq] at h
    simp [Cells.get, show key < k by omega]

theorem Cells.get_erase {dflt : α} : ∀ {m : Cells α} {lo key : Nat}, Cells.rising lo m = true → ∀ j,
    Cells.get dflt (Cells.erase m key) j = if j = key then dflt else Cells.get dflt m j
  | [], _, _, _, j => by simp [Cells.erase, Cells.get]
  | (k, v) :: rest, lo, key, h, j => by
    simp only [Cells.rising, Bool.and_eq_true, decide_eq_true_eq] at h
    unfold Cells.erase
    split
    · rename_i hlt
      by_cases hj : j = key
      · simp [hj, Cells.get, hlt]
      · simp [hj]
    · split
      · rename_i hn he
        subst he
        by_cases hj : j = key
        · subst hj; simp [Cells.get_of_lt h.2 (Nat.lt_succ_self _)]
        · by_cases hjl : j < key
          · simp [hj, Cells.get, hjl, Cells.get_of_lt h.2 (by omega : j < key + 1)]
          · simp [hj, Cells.get, hjl]
      · rename_i hn he
        have ih := Cells.get_erase (dflt := dflt) (key := key) h.2 j
        by_cases hj : j = key
        · subst hj; simp [Cells.get, hn, he, ih]
        · simp only [Cells.get, ih, hj, if_false]

theorem Cells.get_put {dflt : α} : ∀ {m : Cells α} {key : Nat} {v : α}, ∀ j,
    Cells.get dflt (Cells.put m key v) j = if j = key then v else Cells.get dflt m j
  | [], key, v, j => by
    by_cases hj : j = key <;> by_cases hl : j < key <;> simp [Cells.put, Cells.get, hj, hl] <;> omega
  | (k, w) :: rest, key, v, j => by
    unfold Cells.put
    split
    · rename_i hlt
      by_cases hj : j = key
      · subst hj; simp [Cells.get]
      · by_cases hl : j < key
        · simp [Cells.get, hj, hl, show j < k by omega]
        · simp [Cells.get, hj, hl]
    · split
      · rename_i hn he
        subst he
        by_cases hj : j = key
        · subst hj; simp [Cells.get]
        · simp [Cells.get, hj]
      · rename_i hn he
        have ih := Cells.get_put (dflt := dflt) (m := rest) (key := key) (v := v) j
        by_cases hj : j = key
        · subst hj; simp [Cells.get, hn, he, ih]
        · simp only [Cells.get, ih, hj, if_false]

theorem Cells.get_set [DecidableEq α] {dflt : α} {m : Cells α} {lo : Nat} (h : Cells.rising lo m = true) (key : Nat) (v : α) (j : Nat) :
    Cells.get dflt (Cells.set dflt m key v) j = if j = key then v else Cells.get dflt m j := by
  unfold Cells.set
  split
  · rename_i hv
    rw [Cells.get_erase h, hv]
  · exact Cells.get_put j

theorem Cells.get_set_same [DecidableEq α] {dflt : α} {m : Cells α} {lo : Nat} (h : Cells.rising lo m = true) (key : Nat) (v : α) :
    Cells.get dflt (Cells.set dflt m key v) key = v := by simp [Cells.get_set h]

theorem Cells.get_set_other [DecidableEq α] {dflt : α} {m : Cells α} {lo : Nat} (h : Cells.rising lo m = true) {key j : Nat} (v : α) (hj : j ≠ key) :
    Cells.get dflt (Cells.set dflt m key v) j = Cells.get dflt m j := by simp [Cells.get_set h, hj]

/-! ## The canonical form -/

theorem Cells.wf_iff [DecidableEq α] {dflt : Nat → α} {m : Cells α} :
    Cells.wf dflt m = true ↔ Cells.rising 0 m = true ∧ ∀ e ∈ m, e.2 ≠ dflt e.1 := by
  simp [Cells.wf, List.all_eq_true]

theorem Cells.wf_rising [DecidableEq α] {dflt : Nat → α} {m : Cells α} (h : Cells.wf dflt m = true) : Cells.rising 0 m = true := (Cells.wf_iff.1 h).1

theorem Cells.wf_nil [DecidableEq α] {dflt : Nat → α} : Cells.wf dflt ([] : Cells α) = true := rfl

theorem Cells.wf_erase [DecidableEq α] {dflt : Nat → α} {m : Cells α} (h : Cells.wf dflt m = true) (key : Nat) :
    Cells.wf dflt (Cells.erase m key) = true := by
  rw [Cells.wf_iff] at h ⊢
  exact ⟨Cells.erase_rising h.1, fun e he => h.2 e (Cells.erase_mem he)⟩

theorem Cells.wf_put [DecidableEq α] {dflt : Nat → α} {m : Cells α} (h : Cells.wf dflt m = true) {key : Nat} {v : α} (hv : v ≠ dflt key) :
    Cells.wf dflt (Cells.put m key v) = true := by
  rw [Cells.wf_iff] at h ⊢
  refine ⟨Cells.put_rising h.1 (Nat.zero_le _), fun e he => ?_⟩
  rcases Cells.put_mem he with rfl | he
  · exact hv
  · exact h.2 e he

theorem Cells.wf_set [DecidableEq α] {dflt : α} {m : Cells α} (h : Cells.wf (fun _ => dflt) m = true) (key : Nat) (v : α) :
    Cells.wf (fun _ => dflt) (Cells.set dflt m key v) = true := by
  unfold Cells.set
  split
  · exact Cells.wf_erase h key
  · exact Cells.wf_put h ‹_›

theorem Cells.wf_filter [DecidableEq α] {dflt : Nat → α} {m : Cells α} (h : Cells.wf dflt m = true) (p : Nat × α → Bool) :
    Cells.wf dflt (m.filter p) = true := by
  rw [Cells.wf_iff] at h ⊢
  exact ⟨Cells.rising_filter p h.1, fun e he => h.2 e (List.mem_filter.1 he).1⟩

theorem Cells.wf_clear [DecidableEq α] {dflt : Nat → α} {m : Cells α} (h : Cells.wf dflt m = true) (lo len : Nat) :
    Cells.wf dflt (Cells.clear m lo len) = true := Cells.wf_filter h _

theorem Cells.wf_slice [DecidableEq α] {dflt : Nat → α} {m : Cells α} (h : Cells.wf dflt m = true) (lo len : Nat) :
    Cells.wf dflt (Cells.slice m lo len) = true := Cells.wf_filter h _

/-! ## Runs of keys -/

theorem Cells.run_spec [DecidableEq α] (dflt : α) : ∀ (vs : List α) (lo : Nat),
    Cells.rising lo (Cells.run dflt lo vs) = true ∧ (∀ e ∈ Cells.run dflt lo vs, e.2 ≠ dflt ∧ lo ≤ e.1 ∧ e.1 < lo + vs.length)
  | [], lo => ⟨rfl, fun _ h => by cases h⟩
  | v :: vs, lo => by
    have ih := Cells.run_spec dflt vs (lo + 1)
    unfold Cells.run
    split
    · refine ⟨Cells.rising_mono (by omega) ih.1, fun e he => ?_⟩
      have := ih.2 e he
      simp only [List.length_cons]
      exact ⟨this.1, by omega, by omega⟩
    · refine ⟨by simp [Cells.rising, ih.1], fun e he => ?_⟩
      rcases List.mem_cons.1 he with rfl | he
      · exact ⟨‹_›, Nat.le_refl _, by simp⟩
      · have := ih.2 e he
        simp only [List.length_cons]
        exact ⟨this.1, by omega, by omega⟩

theorem Cells.wf_setRange [DecidableEq α] {dflt : α} {m : Cells α} (h : Cells.wf (fun _ => dflt) m = true) (lo : Nat) (vs : List α) :
    Cells.wf (fun _ => dflt) (Cells.setRange dflt m lo vs) = true := by
  have hr := Cells.run_spec dflt vs lo
  rw [Cells.wf_iff] at h ⊢
  unfold Cells.setRange
  constructor
  · rw [List.append_assoc]
    refine Cells.rising_append (mid := lo) (Cells.rising_filter _ h.1) (fun e he => by simpa using (List.mem_filter.1 he).2) (Nat.zero_le _) ?_
    refine Cells.rising_append (mid := lo + vs.length) hr.1 (fun e he => (hr.2 e he).2.2) (by omega) ?_
    exact Cells.rising_raise (Cells.rising_filter _ h.1) (fun e he => by simpa using (List.mem_filter.1 he).2)
  · intro e he
    simp only [List.mem_append, List.mem_filter] at he
    rcases he with (he | he) | he
    · exact h.2 e he.1
    · exact (hr.2 e he).1
    · exact h.2 e he.1

/-! ## Reading runs -/

theorem Cells.get_append {dflt : α} : ∀ {a b : Cells α} {lo mid : Nat}, Cells.rising lo a = true → (∀ e ∈ a, e.1 < mid) →
    Cells.rising mid b = true → ∀ j, Cells.get dflt (a ++ b) j = if j < mid then Cells.get dflt a j else Cells.get dflt b j
  | [], b, _, mid, _, _, hb, j => by
    by_cases hj : j < mid
    · simp [hj, Cells.get, Cells.get_of_lt hb hj]
    · simp [hj]
  | (k, v) :: rest, b, lo, mid, ha, hm, hb, j => by
    simp only [Cells.rising, Bool.and_eq_true, decide_eq_true_eq] at ha
    have hk : k < mid := hm (k, v) (by simp)
    have ih := Cells.get_append (dflt := dflt) ha.2 (fun e he => hm e (by simp [he])) hb j
    simp only [List.cons_append, Cells.get, ih]
    by_cases h1 : j < k
    · simp [h1, show j < mid by omega]
    · by_cases h2 : j = k
      · simp [h2, hk]
      · simp [h1, h2]

theorem Cells.get_filter_of {dflt : α} (p : Nat × α → Bool) : ∀ {m : Cells α} {lo : Nat}, Cells.rising lo m = true → ∀ j,
    (∀ v, p (j, v) = true) → Cells.get dflt (m.filter p) j = Cells.get dflt m j
  | [], _, _, _, _ => rfl
  | (k, v) :: rest, lo, h, j, hp => by
    simp only [Cells.rising, Bool.and_eq_true, decide_eq_true_eq] at h
    have ih := Cells.get_filter_of (dflt := dflt) p h.2 j hp
    by_cases hk : p (k, v) = true
    · simp [List.filter, hk, Cells.get, ih]
    · have hne : j ≠ k := fun e => hk (by rw [← e]; exact hp v)
      simp only [List.filter, hk, Cells.get, ih]
      by_cases hl : j < k
      · simp [hl, Cells.get_of_lt h.2 (show j < k + 1 by omega)]
      · simp [hl, hne]

theorem Cells.get_filter_not {dflt : α} (p : Nat × α → Bool) : ∀ {m : Cells α} {lo : Nat}, Cells.rising lo m = true → ∀ j,
    (∀ v, p (j, v) = false) → Cells.get dflt (m.filter p) j = dflt
  | [], _, _, _, _ => rfl
  | (k, v) :: rest, lo, h, j, hp => by
    simp only [Cells.rising, Bool.and_eq_true, decide_eq_true_eq] at h
    have ih := Cells.get_filter_not (dflt := dflt) p h.2 j hp
    by_cases hk : p (k, v) = true
    · have hne : j ≠ k := fun e => by rw [← e, hp v] at hk; cases hk
      simp [List.filter, hk, Cells.get, ih, hne]
    · simp [List.filter, hk, ih]

theorem Cells.get_run [DecidableEq α] (dflt : α) : ∀ (vs : List α) (lo j : Nat), lo ≤ j → Cells.get dflt (Cells.run dflt lo vs) j = vs.getD (j - lo) dflt
  | [], lo, j, _ => by simp [Cells.run, Cells.get]
  | v :: vs, lo, j, hj => by
    by_cases he : j = lo
    · subst he
      unfold Cells.run
      split
      · rename_i hv
        rw [Cells.get_of_lt (Cells.run_spec dflt vs (j + 1)).1 (Nat.lt_succ_self _)]
        simp [hv]
      · simp [Cells.get]
    · have ih := Cells.get_run dflt vs (lo + 1) j (by omega)
      have hs : j - lo = (j - (lo + 1)) + 1 := by omega
      unfold Cells.run
      split
      · rw [ih, hs, List.getD_cons_succ]
      · simp only [Cells.get, show ¬ j < lo by omega, he, if_false]
        rw [ih, hs, List.getD_cons_succ]

/-- Reading after a write of consecutive values. -/
theorem Cells.get_setRange [DecidableEq α] {dflt : α} {m : Cells α} (h : Cells.rising 0 m = true) (lo : Nat) (vs : List α) (j : Nat) :
    Cells.get dflt (Cells.setRange dflt m lo vs) j = if lo ≤ j ∧ j < lo + vs.length then vs.getD (j - lo) dflt else Cells.get dflt m j := by
  have hr := Cells.run_spec dflt vs lo
  have hup : Cells.rising (lo + vs.length) (m.filter (fun e => decide (lo + vs.length ≤ e.1))) = true :=
    Cells.rising_raise (Cells.rising_filter _ h) (fun e he => by simpa using (List.mem_filter.1 he).2)
  have hmid : Cells.rising lo (Cells.run dflt lo vs ++ m.filter (fun e => decide (lo + vs.length ≤ e.1))) = true :=
    Cells.rising_append (mid := lo + vs.length) hr.1 (fun e he => (hr.2 e he).2.2) (by omega) hup
  unfold Cells.setRange
  rw [List.append_assoc, Cells.get_append (mid := lo) (Cells.rising_filter _ h) (fun e he => by simpa using (List.mem_filter.1 he).2) hmid,
    Cells.get_append (mid := lo + vs.length) hr.1 (fun e he => (hr.2 e he).2.2) hup]
  by_cases h1 : j < lo
  · rw [if_pos h1, if_neg (by omega)]
    exact Cells.get_filter_of _ h j (fun v => by simpa using h1)
  · rw [if_neg h1]
    by_cases h2 : j < lo + vs.length
    · rw [if_pos h2, if_pos ⟨by omega, h2⟩]
      exact Cells.get_run dflt vs lo j (by omega)
    · rw [if_neg h2, if_neg (by omega)]
      exact Cells.get_filter_of _ h j (fun v => by simpa using (by omega : lo + vs.length ≤ j))

/-- Reading after a clear. -/
theorem Cells.get_clear {dflt : α} {m : Cells α} (h : Cells.rising 0 m = true) (lo len j : Nat) :
    Cells.get dflt (Cells.clear m lo len) j = if lo ≤ j ∧ j < lo + len then dflt else Cells.get dflt m j := by
  unfold Cells.clear
  split
  · rename_i hj
    exact Cells.get_filter_not _ h j (fun v => by simp; omega)
  · rename_i hj
    exact Cells.get_filter_of _ h j (fun v => by simp; omega)

end Machine
end Sys2Proof
end

