-- ==== Sys2Proof/Laws/State.lean ====
section
/-!
SUPPORT. What each of the named operations over the device and a core leaves as it is, one lemma per field; reading back what
they write.
-/
namespace Sys2Proof
namespace Machine

/-! What `Device.setReg` leaves. -/

@[simp] theorem Device.setReg_now (d : Device) (k : Nat) (v : Word) : (d.setReg k v).now = d.now := rfl
@[simp] theorem Device.setReg_cycles (d : Device) (k : Nat) (v : Word) : (d.setReg k v).cycles = d.cycles := rfl
@[simp] theorem Device.setReg_cores (d : Device) (k : Nat) (v : Word) : (d.setReg k v).cores = d.cores := rfl
@[simp] theorem Device.setReg_mem (d : Device) (k : Nat) (v : Word) : (d.setReg k v).mem = d.mem := rfl
@[simp] theorem Device.setReg_poison (d : Device) (k : Nat) (v : Word) : (d.setReg k v).poison = d.poison := rfl
@[simp] theorem Device.setReg_symErr (d : Device) (k : Nat) (v : Word) : (d.setReg k v).symErr = d.symErr := rfl
@[simp] theorem Device.setReg_granules (d : Device) (k : Nat) (v : Word) : (d.setReg k v).granules = d.granules := rfl
@[simp] theorem Device.setReg_clusters (d : Device) (k : Nat) (v : Word) : (d.setReg k v).clusters = d.clusters := rfl
@[simp] theorem Device.setReg_partMask (d : Device) (k : Nat) (v : Word) : (d.setReg k v).partMask = d.partMask := rfl
@[simp] theorem Device.setReg_increments (d : Device) (k : Nat) (v : Word) : (d.setReg k v).increments = d.increments := rfl
@[simp] theorem Device.setReg_barriers (d : Device) (k : Nat) (v : Word) : (d.setReg k v).barriers = d.barriers := rfl
@[simp] theorem Device.setReg_hostMem (d : Device) (k : Nat) (v : Word) : (d.setReg k v).hostMem = d.hostMem := rfl
@[simp] theorem Device.setReg_watches (d : Device) (k : Nat) (v : Word) : (d.setReg k v).watches = d.watches := rfl
@[simp] theorem Device.setReg_seen (d : Device) (k : Nat) (v : Word) : (d.setReg k v).seen = d.seen := rfl
@[simp] theorem Device.setReg_heldPages (d : Device) (k : Nat) (v : Word) : (d.setReg k v).heldPages = d.heldPages := rfl
@[simp] theorem Device.setReg_dirty (d : Device) (k : Nat) (v : Word) : (d.setReg k v).dirty = d.dirty := rfl
@[simp] theorem Device.setReg_red (d : Device) (k : Nat) (v : Word) : (d.setReg k v).red = d.red := rfl
@[simp] theorem Device.setReg_aq (d : Device) (k : Nat) (v : Word) : (d.setReg k v).aq = d.aq := rfl
@[simp] theorem Device.setReg_upd (d : Device) (k : Nat) (v : Word) : (d.setReg k v).upd = d.upd := rfl
@[simp] theorem Device.setReg_svc (d : Device) (k : Nat) (v : Word) : (d.setReg k v).svc = d.svc := rfl
@[simp] theorem Device.setReg_tim (d : Device) (k : Nat) (v : Word) : (d.setReg k v).tim = d.tim := rfl
@[simp] theorem Device.setReg_strokes (d : Device) (k : Nat) (v : Word) : (d.setReg k v).strokes = d.strokes := rfl
@[simp] theorem Device.setReg_fault (d : Device) (k : Nat) (v : Word) : (d.setReg k v).fault = d.fault := rfl
@[simp] theorem Device.setReg_evt (d : Device) (k : Nat) (v : Word) : (d.setReg k v).evt = d.evt := rfl
@[simp] theorem Device.setReg_zn (d : Device) (k : Nat) (v : Word) : (d.setReg k v).zn = d.zn := rfl
@[simp] theorem Device.setReg_sec (d : Device) (k : Nat) (v : Word) : (d.setReg k v).sec = d.sec := rfl
@[simp] theorem Device.setReg_pwr (d : Device) (k : Nat) (v : Word) : (d.setReg k v).pwr = d.pwr := rfl
@[simp] theorem Device.setReg_boot (d : Device) (k : Nat) (v : Word) : (d.setReg k v).boot = d.boot := rfl
@[simp] theorem Device.setReg_free (d : Device) (k : Nat) (v : Word) : (d.setReg k v).free = d.free := rfl

/-! What `Device.setFld` leaves. -/

@[simp] theorem Device.setFld_now (d : Device) (k hi lo v : Nat) : (d.setFld k hi lo v).now = d.now := rfl
@[simp] theorem Device.setFld_cycles (d : Device) (k hi lo v : Nat) : (d.setFld k hi lo v).cycles = d.cycles := rfl
@[simp] theorem Device.setFld_cores (d : Device) (k hi lo v : Nat) : (d.setFld k hi lo v).cores = d.cores := rfl
@[simp] theorem Device.setFld_mem (d : Device) (k hi lo v : Nat) : (d.setFld k hi lo v).mem = d.mem := rfl
@[simp] theorem Device.setFld_poison (d : Device) (k hi lo v : Nat) : (d.setFld k hi lo v).poison = d.poison := rfl
@[simp] theorem Device.setFld_symErr (d : Device) (k hi lo v : Nat) : (d.setFld k hi lo v).symErr = d.symErr := rfl
@[simp] theorem Device.setFld_granules (d : Device) (k hi lo v : Nat) : (d.setFld k hi lo v).granules = d.granules := rfl
@[simp] theorem Device.setFld_clusters (d : Device) (k hi lo v : Nat) : (d.setFld k hi lo v).clusters = d.clusters := rfl
@[simp] theorem Device.setFld_partMask (d : Device) (k hi lo v : Nat) : (d.setFld k hi lo v).partMask = d.partMask := rfl
@[simp] theorem Device.setFld_increments (d : Device) (k hi lo v : Nat) : (d.setFld k hi lo v).increments = d.increments := rfl
@[simp] theorem Device.setFld_barriers (d : Device) (k hi lo v : Nat) : (d.setFld k hi lo v).barriers = d.barriers := rfl
@[simp] theorem Device.setFld_hostMem (d : Device) (k hi lo v : Nat) : (d.setFld k hi lo v).hostMem = d.hostMem := rfl
@[simp] theorem Device.setFld_watches (d : Device) (k hi lo v : Nat) : (d.setFld k hi lo v).watches = d.watches := rfl
@[simp] theorem Device.setFld_seen (d : Device) (k hi lo v : Nat) : (d.setFld k hi lo v).seen = d.seen := rfl
@[simp] theorem Device.setFld_heldPages (d : Device) (k hi lo v : Nat) : (d.setFld k hi lo v).heldPages = d.heldPages := rfl
@[simp] theorem Device.setFld_dirty (d : Device) (k hi lo v : Nat) : (d.setFld k hi lo v).dirty = d.dirty := rfl
@[simp] theorem Device.setFld_red (d : Device) (k hi lo v : Nat) : (d.setFld k hi lo v).red = d.red := rfl
@[simp] theorem Device.setFld_aq (d : Device) (k hi lo v : Nat) : (d.setFld k hi lo v).aq = d.aq := rfl
@[simp] theorem Device.setFld_upd (d : Device) (k hi lo v : Nat) : (d.setFld k hi lo v).upd = d.upd := rfl
@[simp] theorem Device.setFld_svc (d : Device) (k hi lo v : Nat) : (d.setFld k hi lo v).svc = d.svc := rfl
@[simp] theorem Device.setFld_tim (d : Device) (k hi lo v : Nat) : (d.setFld k hi lo v).tim = d.tim := rfl
@[simp] theorem Device.setFld_strokes (d : Device) (k hi lo v : Nat) : (d.setFld k hi lo v).strokes = d.strokes := rfl
@[simp] theorem Device.setFld_fault (d : Device) (k hi lo v : Nat) : (d.setFld k hi lo v).fault = d.fault := rfl
@[simp] theorem Device.setFld_evt (d : Device) (k hi lo v : Nat) : (d.setFld k hi lo v).evt = d.evt := rfl
@[simp] theorem Device.setFld_zn (d : Device) (k hi lo v : Nat) : (d.setFld k hi lo v).zn = d.zn := rfl
@[simp] theorem Device.setFld_sec (d : Device) (k hi lo v : Nat) : (d.setFld k hi lo v).sec = d.sec := rfl
@[simp] theorem Device.setFld_pwr (d : Device) (k hi lo v : Nat) : (d.setFld k hi lo v).pwr = d.pwr := rfl
@[simp] theorem Device.setFld_boot (d : Device) (k hi lo v : Nat) : (d.setFld k hi lo v).boot = d.boot := rfl
@[simp] theorem Device.setFld_free (d : Device) (k hi lo v : Nat) : (d.setFld k hi lo v).free = d.free := rfl

/-! What `Device.setFlag` leaves. -/

@[simp] theorem Device.setFlag_now (d : Device) (k i : Nat) (b : Bool) : (d.setFlag k i b).now = d.now := rfl
@[simp] theorem Device.setFlag_cycles (d : Device) (k i : Nat) (b : Bool) : (d.setFlag k i b).cycles = d.cycles := rfl
@[simp] theorem Device.setFlag_cores (d : Device) (k i : Nat) (b : Bool) : (d.setFlag k i b).cores = d.cores := rfl
@[simp] theorem Device.setFlag_mem (d : Device) (k i : Nat) (b : Bool) : (d.setFlag k i b).mem = d.mem := rfl
@[simp] theorem Device.setFlag_poison (d : Device) (k i : Nat) (b : Bool) : (d.setFlag k i b).poison = d.poison := rfl
@[simp] theorem Device.setFlag_symErr (d : Device) (k i : Nat) (b : Bool) : (d.setFlag k i b).symErr = d.symErr := rfl
@[simp] theorem Device.setFlag_granules (d : Device) (k i : Nat) (b : Bool) : (d.setFlag k i b).granules = d.granules := rfl
@[simp] theorem Device.setFlag_clusters (d : Device) (k i : Nat) (b : Bool) : (d.setFlag k i b).clusters = d.clusters := rfl
@[simp] theorem Device.setFlag_partMask (d : Device) (k i : Nat) (b : Bool) : (d.setFlag k i b).partMask = d.partMask := rfl
@[simp] theorem Device.setFlag_increments (d : Device) (k i : Nat) (b : Bool) : (d.setFlag k i b).increments = d.increments := rfl
@[simp] theorem Device.setFlag_barriers (d : Device) (k i : Nat) (b : Bool) : (d.setFlag k i b).barriers = d.barriers := rfl
@[simp] theorem Device.setFlag_hostMem (d : Device) (k i : Nat) (b : Bool) : (d.setFlag k i b).hostMem = d.hostMem := rfl
@[simp] theorem Device.setFlag_watches (d : Device) (k i : Nat) (b : Bool) : (d.setFlag k i b).watches = d.watches := rfl
@[simp] theorem Device.setFlag_seen (d : Device) (k i : Nat) (b : Bool) : (d.setFlag k i b).seen = d.seen := rfl
@[simp] theorem Device.setFlag_heldPages (d : Device) (k i : Nat) (b : Bool) : (d.setFlag k i b).heldPages = d.heldPages := rfl
@[simp] theorem Device.setFlag_dirty (d : Device) (k i : Nat) (b : Bool) : (d.setFlag k i b).dirty = d.dirty := rfl
@[simp] theorem Device.setFlag_red (d : Device) (k i : Nat) (b : Bool) : (d.setFlag k i b).red = d.red := rfl
@[simp] theorem Device.setFlag_aq (d : Device) (k i : Nat) (b : Bool) : (d.setFlag k i b).aq = d.aq := rfl
@[simp] theorem Device.setFlag_upd (d : Device) (k i : Nat) (b : Bool) : (d.setFlag k i b).upd = d.upd := rfl
@[simp] theorem Device.setFlag_svc (d : Device) (k i : Nat) (b : Bool) : (d.setFlag k i b).svc = d.svc := rfl
@[simp] theorem Device.setFlag_tim (d : Device) (k i : Nat) (b : Bool) : (d.setFlag k i b).tim = d.tim := rfl
@[simp] theorem Device.setFlag_strokes (d : Device) (k i : Nat) (b : Bool) : (d.setFlag k i b).strokes = d.strokes := rfl
@[simp] theorem Device.setFlag_fault (d : Device) (k i : Nat) (b : Bool) : (d.setFlag k i b).fault = d.fault := rfl
@[simp] theorem Device.setFlag_evt (d : Device) (k i : Nat) (b : Bool) : (d.setFlag k i b).evt = d.evt := rfl
@[simp] theorem Device.setFlag_zn (d : Device) (k i : Nat) (b : Bool) : (d.setFlag k i b).zn = d.zn := rfl
@[simp] theorem Device.setFlag_sec (d : Device) (k i : Nat) (b : Bool) : (d.setFlag k i b).sec = d.sec := rfl
@[simp] theorem Device.setFlag_pwr (d : Device) (k i : Nat) (b : Bool) : (d.setFlag k i b).pwr = d.pwr := rfl
@[simp] theorem Device.setFlag_boot (d : Device) (k i : Nat) (b : Bool) : (d.setFlag k i b).boot = d.boot := rfl
@[simp] theorem Device.setFlag_free (d : Device) (k i : Nat) (b : Bool) : (d.setFlag k i b).free = d.free := rfl

/-! What `Device.setReg64` leaves. -/

@[simp] theorem Device.setReg64_now (d : Device) (k v : Nat) : (d.setReg64 k v).now = d.now := rfl
@[simp] theorem Device.setReg64_cycles (d : Device) (k v : Nat) : (d.setReg64 k v).cycles = d.cycles := rfl
@[simp] theorem Device.setReg64_cores (d : Device) (k v : Nat) : (d.setReg64 k v).cores = d.cores := rfl
@[simp] theorem Device.setReg64_mem (d : Device) (k v : Nat) : (d.setReg64 k v).mem = d.mem := rfl
@[simp] theorem Device.setReg64_poison (d : Device) (k v : Nat) : (d.setReg64 k v).poison = d.poison := rfl
@[simp] theorem Device.setReg64_symErr (d : Device) (k v : Nat) : (d.setReg64 k v).symErr = d.symErr := rfl
@[simp] theorem Device.setReg64_granules (d : Device) (k v : Nat) : (d.setReg64 k v).granules = d.granules := rfl
@[simp] theorem Device.setReg64_clusters (d : Device) (k v : Nat) : (d.setReg64 k v).clusters = d.clusters := rfl
@[simp] theorem Device.setReg64_partMask (d : Device) (k v : Nat) : (d.setReg64 k v).partMask = d.partMask := rfl
@[simp] theorem Device.setReg64_increments (d : Device) (k v : Nat) : (d.setReg64 k v).increments = d.increments := rfl
@[simp] theorem Device.setReg64_barriers (d : Device) (k v : Nat) : (d.setReg64 k v).barriers = d.barriers := rfl
@[simp] theorem Device.setReg64_hostMem (d : Device) (k v : Nat) : (d.setReg64 k v).hostMem = d.hostMem := rfl
@[simp] theorem Device.setReg64_watches (d : Device) (k v : Nat) : (d.setReg64 k v).watches = d.watches := rfl
@[simp] theorem Device.setReg64_seen (d : Device) (k v : Nat) : (d.setReg64 k v).seen = d.seen := rfl
@[simp] theorem Device.setReg64_heldPages (d : Device) (k v : Nat) : (d.setReg64 k v).heldPages = d.heldPages := rfl
@[simp] theorem Device.setReg64_dirty (d : Device) (k v : Nat) : (d.setReg64 k v).dirty = d.dirty := rfl
@[simp] theorem Device.setReg64_red (d : Device) (k v : Nat) : (d.setReg64 k v).red = d.red := rfl
@[simp] theorem Device.setReg64_aq (d : Device) (k v : Nat) : (d.setReg64 k v).aq = d.aq := rfl
@[simp] theorem Device.setReg64_upd (d : Device) (k v : Nat) : (d.setReg64 k v).upd = d.upd := rfl
@[simp] theorem Device.setReg64_svc (d : Device) (k v : Nat) : (d.setReg64 k v).svc = d.svc := rfl
@[simp] theorem Device.setReg64_tim (d : Device) (k v : Nat) : (d.setReg64 k v).tim = d.tim := rfl
@[simp] theorem Device.setReg64_strokes (d : Device) (k v : Nat) : (d.setReg64 k v).strokes = d.strokes := rfl
@[simp] theorem Device.setReg64_fault (d : Device) (k v : Nat) : (d.setReg64 k v).fault = d.fault := rfl
@[simp] theorem Device.setReg64_evt (d : Device) (k v : Nat) : (d.setReg64 k v).evt = d.evt := rfl
@[simp] theorem Device.setReg64_zn (d : Device) (k v : Nat) : (d.setReg64 k v).zn = d.zn := rfl
@[simp] theorem Device.setReg64_sec (d : Device) (k v : Nat) : (d.setReg64 k v).sec = d.sec := rfl
@[simp] theorem Device.setReg64_pwr (d : Device) (k v : Nat) : (d.setReg64 k v).pwr = d.pwr := rfl
@[simp] theorem Device.setReg64_boot (d : Device) (k v : Nat) : (d.setReg64 k v).boot = d.boot := rfl
@[simp] theorem Device.setReg64_free (d : Device) (k v : Nat) : (d.setReg64 k v).free = d.free := rfl

/-! What `Device.noteTag` leaves. -/

@[simp] theorem Device.noteTag_now (d : Device) (k t : Nat) : (d.noteTag k t).now = d.now := rfl
@[simp] theorem Device.noteTag_cycles (d : Device) (k t : Nat) : (d.noteTag k t).cycles = d.cycles := rfl
@[simp] theorem Device.noteTag_cores (d : Device) (k t : Nat) : (d.noteTag k t).cores = d.cores := rfl
@[simp] theorem Device.noteTag_mem (d : Device) (k t : Nat) : (d.noteTag k t).mem = d.mem := rfl
@[simp] theorem Device.noteTag_poison (d : Device) (k t : Nat) : (d.noteTag k t).poison = d.poison := rfl
@[simp] theorem Device.noteTag_symErr (d : Device) (k t : Nat) : (d.noteTag k t).symErr = d.symErr := rfl
@[simp] theorem Device.noteTag_granules (d : Device) (k t : Nat) : (d.noteTag k t).granules = d.granules := rfl
@[simp] theorem Device.noteTag_clusters (d : Device) (k t : Nat) : (d.noteTag k t).clusters = d.clusters := rfl
@[simp] theorem Device.noteTag_partMask (d : Device) (k t : Nat) : (d.noteTag k t).partMask = d.partMask := rfl
@[simp] theorem Device.noteTag_increments (d : Device) (k t : Nat) : (d.noteTag k t).increments = d.increments := rfl
@[simp] theorem Device.noteTag_barriers (d : Device) (k t : Nat) : (d.noteTag k t).barriers = d.barriers := rfl
@[simp] theorem Device.noteTag_hostMem (d : Device) (k t : Nat) : (d.noteTag k t).hostMem = d.hostMem := rfl
@[simp] theorem Device.noteTag_watches (d : Device) (k t : Nat) : (d.noteTag k t).watches = d.watches := rfl
@[simp] theorem Device.noteTag_seen (d : Device) (k t : Nat) : (d.noteTag k t).seen = d.seen := rfl
@[simp] theorem Device.noteTag_heldPages (d : Device) (k t : Nat) : (d.noteTag k t).heldPages = d.heldPages := rfl
@[simp] theorem Device.noteTag_dirty (d : Device) (k t : Nat) : (d.noteTag k t).dirty = d.dirty := rfl
@[simp] theorem Device.noteTag_red (d : Device) (k t : Nat) : (d.noteTag k t).red = d.red := rfl
@[simp] theorem Device.noteTag_aq (d : Device) (k t : Nat) : (d.noteTag k t).aq = d.aq := rfl
@[simp] theorem Device.noteTag_upd (d : Device) (k t : Nat) : (d.noteTag k t).upd = d.upd := rfl
@[simp] theorem Device.noteTag_svc (d : Device) (k t : Nat) : (d.noteTag k t).svc = d.svc := rfl
@[simp] theorem Device.noteTag_tim (d : Device) (k t : Nat) : (d.noteTag k t).tim = d.tim := rfl
@[simp] theorem Device.noteTag_strokes (d : Device) (k t : Nat) : (d.noteTag k t).strokes = d.strokes := rfl
@[simp] theorem Device.noteTag_fault (d : Device) (k t : Nat) : (d.noteTag k t).fault = d.fault := rfl
@[simp] theorem Device.noteTag_evt (d : Device) (k t : Nat) : (d.noteTag k t).evt = d.evt := rfl
@[simp] theorem Device.noteTag_zn (d : Device) (k t : Nat) : (d.noteTag k t).zn = d.zn := rfl
@[simp] theorem Device.noteTag_sec (d : Device) (k t : Nat) : (d.noteTag k t).sec = d.sec := rfl
@[simp] theorem Device.noteTag_pwr (d : Device) (k t : Nat) : (d.noteTag k t).pwr = d.pwr := rfl
@[simp] theorem Device.noteTag_boot (d : Device) (k t : Nat) : (d.noteTag k t).boot = d.boot := rfl
@[simp] theorem Device.noteTag_free (d : Device) (k t : Nat) : (d.noteTag k t).free = d.free := rfl

/-! What `Device.useFree` leaves. -/

@[simp] theorem Device.useFree_now (d : Device) : (d.useFree).now = d.now := rfl
@[simp] theorem Device.useFree_cycles (d : Device) : (d.useFree).cycles = d.cycles := rfl
@[simp] theorem Device.useFree_regs (d : Device) : (d.useFree).regs = d.regs := rfl
@[simp] theorem Device.useFree_cores (d : Device) : (d.useFree).cores = d.cores := rfl
@[simp] theorem Device.useFree_mem (d : Device) : (d.useFree).mem = d.mem := rfl
@[simp] theorem Device.useFree_poison (d : Device) : (d.useFree).poison = d.poison := rfl
@[simp] theorem Device.useFree_symErr (d : Device) : (d.useFree).symErr = d.symErr := rfl
@[simp] theorem Device.useFree_granules (d : Device) : (d.useFree).granules = d.granules := rfl
@[simp] theorem Device.useFree_clusters (d : Device) : (d.useFree).clusters = d.clusters := rfl
@[simp] theorem Device.useFree_partMask (d : Device) : (d.useFree).partMask = d.partMask := rfl
@[simp] theorem Device.useFree_increments (d : Device) : (d.useFree).increments = d.increments := rfl
@[simp] theorem Device.useFree_barriers (d : Device) : (d.useFree).barriers = d.barriers := rfl
@[simp] theorem Device.useFree_hostMem (d : Device) : (d.useFree).hostMem = d.hostMem := rfl
@[simp] theorem Device.useFree_watches (d : Device) : (d.useFree).watches = d.watches := rfl
@[simp] theorem Device.useFree_seen (d : Device) : (d.useFree).seen = d.seen := rfl
@[simp] theorem Device.useFree_heldPages (d : Device) : (d.useFree).heldPages = d.heldPages := rfl
@[simp] theorem Device.useFree_dirty (d : Device) : (d.useFree).dirty = d.dirty := rfl
@[simp] theorem Device.useFree_red (d : Device) : (d.useFree).red = d.red := rfl
@[simp] theorem Device.useFree_aq (d : Device) : (d.useFree).aq = d.aq := rfl
@[simp] theorem Device.useFree_upd (d : Device) : (d.useFree).upd = d.upd := rfl
@[simp] theorem Device.useFree_svc (d : Device) : (d.useFree).svc = d.svc := rfl
@[simp] theorem Device.useFree_tim (d : Device) : (d.useFree).tim = d.tim := rfl
@[simp] theorem Device.useFree_strokes (d : Device) : (d.useFree).strokes = d.strokes := rfl
@[simp] theorem Device.useFree_fault (d : Device) : (d.useFree).fault = d.fault := rfl
@[simp] theorem Device.useFree_evt (d : Device) : (d.useFree).evt = d.evt := rfl
@[simp] theorem Device.useFree_zn (d : Device) : (d.useFree).zn = d.zn := rfl
@[simp] theorem Device.useFree_sec (d : Device) : (d.useFree).sec = d.sec := rfl
@[simp] theorem Device.useFree_pwr (d : Device) : (d.useFree).pwr = d.pwr := rfl
@[simp] theorem Device.useFree_boot (d : Device) : (d.useFree).boot = d.boot := rfl

/-! What `Device.setCore` leaves. -/

@[simp] theorem Device.setCore_now (d : Device) (c : Nat) (k : Core) : (d.setCore c k).now = d.now := rfl
@[simp] theorem Device.setCore_cycles (d : Device) (c : Nat) (k : Core) : (d.setCore c k).cycles = d.cycles := rfl
@[simp] theorem Device.setCore_regs (d : Device) (c : Nat) (k : Core) : (d.setCore c k).regs = d.regs := rfl
@[simp] theorem Device.setCore_mem (d : Device) (c : Nat) (k : Core) : (d.setCore c k).mem = d.mem := rfl
@[simp] theorem Device.setCore_poison (d : Device) (c : Nat) (k : Core) : (d.setCore c k).poison = d.poison := rfl
@[simp] theorem Device.setCore_symErr (d : Device) (c : Nat) (k : Core) : (d.setCore c k).symErr = d.symErr := rfl
@[simp] theorem Device.setCore_granules (d : Device) (c : Nat) (k : Core) : (d.setCore c k).granules = d.granules := rfl
@[simp] theorem Device.setCore_clusters (d : Device) (c : Nat) (k : Core) : (d.setCore c k).clusters = d.clusters := rfl
@[simp] theorem Device.setCore_partMask (d : Device) (c : Nat) (k : Core) : (d.setCore c k).partMask = d.partMask := rfl
@[simp] theorem Device.setCore_increments (d : Device) (c : Nat) (k : Core) : (d.setCore c k).increments = d.increments := rfl
@[simp] theorem Device.setCore_barriers (d : Device) (c : Nat) (k : Core) : (d.setCore c k).barriers = d.barriers := rfl
@[simp] theorem Device.setCore_hostMem (d : Device) (c : Nat) (k : Core) : (d.setCore c k).hostMem = d.hostMem := rfl
@[simp] theorem Device.setCore_watches (d : Device) (c : Nat) (k : Core) : (d.setCore c k).watches = d.watches := rfl
@[simp] theorem Device.setCore_seen (d : Device) (c : Nat) (k : Core) : (d.setCore c k).seen = d.seen := rfl
@[simp] theorem Device.setCore_heldPages (d : Device) (c : Nat) (k : Core) : (d.setCore c k).heldPages = d.heldPages := rfl
@[simp] theorem Device.setCore_dirty (d : Device) (c : Nat) (k : Core) : (d.setCore c k).dirty = d.dirty := rfl
@[simp] theorem Device.setCore_red (d : Device) (c : Nat) (k : Core) : (d.setCore c k).red = d.red := rfl
@[simp] theorem Device.setCore_aq (d : Device) (c : Nat) (k : Core) : (d.setCore c k).aq = d.aq := rfl
@[simp] theorem Device.setCore_upd (d : Device) (c : Nat) (k : Core) : (d.setCore c k).upd = d.upd := rfl
@[simp] theorem Device.setCore_svc (d : Device) (c : Nat) (k : Core) : (d.setCore c k).svc = d.svc := rfl
@[simp] theorem Device.setCore_tim (d : Device) (c : Nat) (k : Core) : (d.setCore c k).tim = d.tim := rfl
@[simp] theorem Device.setCore_strokes (d : Device) (c : Nat) (k : Core) : (d.setCore c k).strokes = d.strokes := rfl
@[simp] theorem Device.setCore_fault (d : Device) (c : Nat) (k : Core) : (d.setCore c k).fault = d.fault := rfl
@[simp] theorem Device.setCore_evt (d : Device) (c : Nat) (k : Core) : (d.setCore c k).evt = d.evt := rfl
@[simp] theorem Device.setCore_zn (d : Device) (c : Nat) (k : Core) : (d.setCore c k).zn = d.zn := rfl
@[simp] theorem Device.setCore_sec (d : Device) (c : Nat) (k : Core) : (d.setCore c k).sec = d.sec := rfl
@[simp] theorem Device.setCore_pwr (d : Device) (c : Nat) (k : Core) : (d.setCore c k).pwr = d.pwr := rfl
@[simp] theorem Device.setCore_boot (d : Device) (c : Nat) (k : Core) : (d.setCore c k).boot = d.boot := rfl
@[simp] theorem Device.setCore_free (d : Device) (c : Nat) (k : Core) : (d.setCore c k).free = d.free := rfl

/-! What `Device.modCore` leaves. -/

@[simp] theorem Device.modCore_now (d : Device) (c : Nat) (f : Core → Core) : (d.modCore c f).now = d.now := rfl
@[simp] theorem Device.modCore_cycles (d : Device) (c : Nat) (f : Core → Core) : (d.modCore c f).cycles = d.cycles := rfl
@[simp] theorem Device.modCore_regs (d : Device) (c : Nat) (f : Core → Core) : (d.modCore c f).regs = d.regs := rfl
@[simp] theorem Device.modCore_mem (d : Device) (c : Nat) (f : Core → Core) : (d.modCore c f).mem = d.mem := rfl
@[simp] theorem Device.modCore_poison (d : Device) (c : Nat) (f : Core → Core) : (d.modCore c f).poison = d.poison := rfl
@[simp] theorem Device.modCore_symErr (d : Device) (c : Nat) (f : Core → Core) : (d.modCore c f).symErr = d.symErr := rfl
@[simp] theorem Device.modCore_granules (d : Device) (c : Nat) (f : Core → Core) : (d.modCore c f).granules = d.granules := rfl
@[simp] theorem Device.modCore_clusters (d : Device) (c : Nat) (f : Core → Core) : (d.modCore c f).clusters = d.clusters := rfl
@[simp] theorem Device.modCore_partMask (d : Device) (c : Nat) (f : Core → Core) : (d.modCore c f).partMask = d.partMask := rfl
@[simp] theorem Device.modCore_increments (d : Device) (c : Nat) (f : Core → Core) : (d.modCore c f).increments = d.increments := rfl
@[simp] theorem Device.modCore_barriers (d : Device) (c : Nat) (f : Core → Core) : (d.modCore c f).barriers = d.barriers := rfl
@[simp] theorem Device.modCore_hostMem (d : Device) (c : Nat) (f : Core → Core) : (d.modCore c f).hostMem = d.hostMem := rfl
@[simp] theorem Device.modCore_watches (d : Device) (c : Nat) (f : Core → Core) : (d.modCore c f).watches = d.watches := rfl
@[simp] theorem Device.modCore_seen (d : Device) (c : Nat) (f : Core → Core) : (d.modCore c f).seen = d.seen := rfl
@[simp] theorem Device.modCore_heldPages (d : Device) (c : Nat) (f : Core → Core) : (d.modCore c f).heldPages = d.heldPages := rfl
@[simp] theorem Device.modCore_dirty (d : Device) (c : Nat) (f : Core → Core) : (d.modCore c f).dirty = d.dirty := rfl
@[simp] theorem Device.modCore_red (d : Device) (c : Nat) (f : Core → Core) : (d.modCore c f).red = d.red := rfl
@[simp] theorem Device.modCore_aq (d : Device) (c : Nat) (f : Core → Core) : (d.modCore c f).aq = d.aq := rfl
@[simp] theorem Device.modCore_upd (d : Device) (c : Nat) (f : Core → Core) : (d.modCore c f).upd = d.upd := rfl
@[simp] theorem Device.modCore_svc (d : Device) (c : Nat) (f : Core → Core) : (d.modCore c f).svc = d.svc := rfl
@[simp] theorem Device.modCore_tim (d : Device) (c : Nat) (f : Core → Core) : (d.modCore c f).tim = d.tim := rfl
@[simp] theorem Device.modCore_strokes (d : Device) (c : Nat) (f : Core → Core) : (d.modCore c f).strokes = d.strokes := rfl
@[simp] theorem Device.modCore_fault (d : Device) (c : Nat) (f : Core → Core) : (d.modCore c f).fault = d.fault := rfl
@[simp] theorem Device.modCore_evt (d : Device) (c : Nat) (f : Core → Core) : (d.modCore c f).evt = d.evt := rfl
@[simp] theorem Device.modCore_zn (d : Device) (c : Nat) (f : Core → Core) : (d.modCore c f).zn = d.zn := rfl
@[simp] theorem Device.modCore_sec (d : Device) (c : Nat) (f : Core → Core) : (d.modCore c f).sec = d.sec := rfl
@[simp] theorem Device.modCore_pwr (d : Device) (c : Nat) (f : Core → Core) : (d.modCore c f).pwr = d.pwr := rfl
@[simp] theorem Device.modCore_boot (d : Device) (c : Nat) (f : Core → Core) : (d.modCore c f).boot = d.boot := rfl
@[simp] theorem Device.modCore_free (d : Device) (c : Nat) (f : Core → Core) : (d.modCore c f).free = d.free := rfl

/-! What `Device.setCluster` leaves. -/

@[simp] theorem Device.setCluster_now (d : Device) (g : Nat) (k : Cluster) : (d.setCluster g k).now = d.now := rfl
@[simp] theorem Device.setCluster_cycles (d : Device) (g : Nat) (k : Cluster) : (d.setCluster g k).cycles = d.cycles := rfl
@[simp] theorem Device.setCluster_regs (d : Device) (g : Nat) (k : Cluster) : (d.setCluster g k).regs = d.regs := rfl
@[simp] theorem Device.setCluster_cores (d : Device) (g : Nat) (k : Cluster) : (d.setCluster g k).cores = d.cores := rfl
@[simp] theorem Device.setCluster_mem (d : Device) (g : Nat) (k : Cluster) : (d.setCluster g k).mem = d.mem := rfl
@[simp] theorem Device.setCluster_poison (d : Device) (g : Nat) (k : Cluster) : (d.setCluster g k).poison = d.poison := rfl
@[simp] theorem Device.setCluster_symErr (d : Device) (g : Nat) (k : Cluster) : (d.setCluster g k).symErr = d.symErr := rfl
@[simp] theorem Device.setCluster_granules (d : Device) (g : Nat) (k : Cluster) : (d.setCluster g k).granules = d.granules := rfl
@[simp] theorem Device.setCluster_partMask (d : Device) (g : Nat) (k : Cluster) : (d.setCluster g k).partMask = d.partMask := rfl
@[simp] theorem Device.setCluster_increments (d : Device) (g : Nat) (k : Cluster) : (d.setCluster g k).increments = d.increments := rfl
@[simp] theorem Device.setCluster_barriers (d : Device) (g : Nat) (k : Cluster) : (d.setCluster g k).barriers = d.barriers := rfl
@[simp] theorem Device.setCluster_hostMem (d : Device) (g : Nat) (k : Cluster) : (d.setCluster g k).hostMem = d.hostMem := rfl
@[simp] theorem Device.setCluster_watches (d : Device) (g : Nat) (k : Cluster) : (d.setCluster g k).watches = d.watches := rfl
@[simp] theorem Device.setCluster_seen (d : Device) (g : Nat) (k : Cluster) : (d.setCluster g k).seen = d.seen := rfl
@[simp] theorem Device.setCluster_heldPages (d : Device) (g : Nat) (k : Cluster) : (d.setCluster g k).heldPages = d.heldPages := rfl
@[simp] theorem Device.setCluster_dirty (d : Device) (g : Nat) (k : Cluster) : (d.setCluster g k).dirty = d.dirty := rfl
@[simp] theorem Device.setCluster_red (d : Device) (g : Nat) (k : Cluster) : (d.setCluster g k).red = d.red := rfl
@[simp] theorem Device.setCluster_aq (d : Device) (g : Nat) (k : Cluster) : (d.setCluster g k).aq = d.aq := rfl
@[simp] theorem Device.setCluster_upd (d : Device) (g : Nat) (k : Cluster) : (d.setCluster g k).upd = d.upd := rfl
@[simp] theorem Device.setCluster_svc (d : Device) (g : Nat) (k : Cluster) : (d.setCluster g k).svc = d.svc := rfl
@[simp] theorem Device.setCluster_tim (d : Device) (g : Nat) (k : Cluster) : (d.setCluster g k).tim = d.tim := rfl
@[simp] theorem Device.setCluster_strokes (d : Device) (g : Nat) (k : Cluster) : (d.setCluster g k).strokes = d.strokes := rfl
@[simp] theorem Device.setCluster_fault (d : Device) (g : Nat) (k : Cluster) : (d.setCluster g k).fault = d.fault := rfl
@[simp] theorem Device.setCluster_evt (d : Device) (g : Nat) (k : Cluster) : (d.setCluster g k).evt = d.evt := rfl
@[simp] theorem Device.setCluster_zn (d : Device) (g : Nat) (k : Cluster) : (d.setCluster g k).zn = d.zn := rfl
@[simp] theorem Device.setCluster_sec (d : Device) (g : Nat) (k : Cluster) : (d.setCluster g k).sec = d.sec := rfl
@[simp] theorem Device.setCluster_pwr (d : Device) (g : Nat) (k : Cluster) : (d.setCluster g k).pwr = d.pwr := rfl
@[simp] theorem Device.setCluster_boot (d : Device) (g : Nat) (k : Cluster) : (d.setCluster g k).boot = d.boot := rfl
@[simp] theorem Device.setCluster_free (d : Device) (g : Nat) (k : Cluster) : (d.setCluster g k).free = d.free := rfl

/-! What `Device.setPoison` leaves. -/

@[simp] theorem Device.setPoison_now (d : Device) (w : Nat) (b : Bool) : (d.setPoison w b).now = d.now := rfl
@[simp] theorem Device.setPoison_cycles (d : Device) (w : Nat) (b : Bool) : (d.setPoison w b).cycles = d.cycles := rfl
@[simp] theorem Device.setPoison_regs (d : Device) (w : Nat) (b : Bool) : (d.setPoison w b).regs = d.regs := rfl
@[simp] theorem Device.setPoison_cores (d : Device) (w : Nat) (b : Bool) : (d.setPoison w b).cores = d.cores := rfl
@[simp] theorem Device.setPoison_mem (d : Device) (w : Nat) (b : Bool) : (d.setPoison w b).mem = d.mem := rfl
@[simp] theorem Device.setPoison_symErr (d : Device) (w : Nat) (b : Bool) : (d.setPoison w b).symErr = d.symErr := rfl
@[simp] theorem Device.setPoison_granules (d : Device) (w : Nat) (b : Bool) : (d.setPoison w b).granules = d.granules := rfl
@[simp] theorem Device.setPoison_clusters (d : Device) (w : Nat) (b : Bool) : (d.setPoison w b).clusters = d.clusters := rfl
@[simp] theorem Device.setPoison_partMask (d : Device) (w : Nat) (b : Bool) : (d.setPoison w b).partMask = d.partMask := rfl
@[simp] theorem Device.setPoison_increments (d : Device) (w : Nat) (b : Bool) : (d.setPoison w b).increments = d.increments := rfl
@[simp] theorem Device.setPoison_barriers (d : Device) (w : Nat) (b : Bool) : (d.setPoison w b).barriers = d.barriers := rfl
@[simp] theorem Device.setPoison_hostMem (d : Device) (w : Nat) (b : Bool) : (d.setPoison w b).hostMem = d.hostMem := rfl
@[simp] theorem Device.setPoison_watches (d : Device) (w : Nat) (b : Bool) : (d.setPoison w b).watches = d.watches := rfl
@[simp] theorem Device.setPoison_seen (d : Device) (w : Nat) (b : Bool) : (d.setPoison w b).seen = d.seen := rfl
@[simp] theorem Device.setPoison_heldPages (d : Device) (w : Nat) (b : Bool) : (d.setPoison w b).heldPages = d.heldPages := rfl
@[simp] theorem Device.setPoison_dirty (d : Device) (w : Nat) (b : Bool) : (d.setPoison w b).dirty = d.dirty := rfl
@[simp] theorem Device.setPoison_red (d : Device) (w : Nat) (b : Bool) : (d.setPoison w b).red = d.red := rfl
@[simp] theorem Device.setPoison_aq (d : Device) (w : Nat) (b : Bool) : (d.setPoison w b).aq = d.aq := rfl
@[simp] theorem Device.setPoison_upd (d : Device) (w : Nat) (b : Bool) : (d.setPoison w b).upd = d.upd := rfl
@[simp] theorem Device.setPoison_svc (d : Device) (w : Nat) (b : Bool) : (d.setPoison w b).svc = d.svc := rfl
@[simp] theorem Device.setPoison_tim (d : Device) (w : Nat) (b : Bool) : (d.setPoison w b).tim = d.tim := rfl
@[simp] theorem Device.setPoison_strokes (d : Device) (w : Nat) (b : Bool) : (d.setPoison w b).strokes = d.strokes := rfl
@[simp] theorem Device.setPoison_fault (d : Device) (w : Nat) (b : Bool) : (d.setPoison w b).fault = d.fault := rfl
@[simp] theorem Device.setPoison_evt (d : Device) (w : Nat) (b : Bool) : (d.setPoison w b).evt = d.evt := rfl
@[simp] theorem Device.setPoison_zn (d : Device) (w : Nat) (b : Bool) : (d.setPoison w b).zn = d.zn := rfl
@[simp] theorem Device.setPoison_sec (d : Device) (w : Nat) (b : Bool) : (d.setPoison w b).sec = d.sec := rfl
@[simp] theorem Device.setPoison_pwr (d : Device) (w : Nat) (b : Bool) : (d.setPoison w b).pwr = d.pwr := rfl
@[simp] theorem Device.setPoison_boot (d : Device) (w : Nat) (b : Bool) : (d.setPoison w b).boot = d.boot := rfl
@[simp] theorem Device.setPoison_free (d : Device) (w : Nat) (b : Bool) : (d.setPoison w b).free = d.free := rfl

/-! The shape of what the register operations answer. -/

theorem Device.setReg_shape (d : Device) (k : Nat) (v : Word) : d.setReg k v = { d with regs := (d.setReg k v).regs } := rfl
theorem Device.setFld_shape (d : Device) (k hi lo v : Nat) : d.setFld k hi lo v = { d with regs := (d.setFld k hi lo v).regs } := by
  unfold Device.setFld; exact Device.setReg_shape _ _ _
theorem Device.setReg64_shape (d : Device) (k v : Nat) : d.setReg64 k v = { d with regs := (d.setReg64 k v).regs } := by
  unfold Device.setReg64; rw [Device.setReg_shape (d.setReg k _)]; rfl

/-! What `Device.bump` leaves. -/

theorem Device.bump_shape (d : Device) (k n : Nat) : d.bump k n = { d with regs := (d.bump k n).regs } := by
  unfold Device.bump; split; · rfl
  · exact Device.setReg_shape _ _ _
@[simp] theorem Device.bump_now (d : Device) (k n : Nat) : (d.bump k n).now = d.now := (congrArg Device.now (Device.bump_shape d k n) :)
@[simp] theorem Device.bump_cycles (d : Device) (k n : Nat) : (d.bump k n).cycles = d.cycles := (congrArg Device.cycles (Device.bump_shape d k n) :)
@[simp] theorem Device.bump_cores (d : Device) (k n : Nat) : (d.bump k n).cores = d.cores := (congrArg Device.cores (Device.bump_shape d k n) :)
@[simp] theorem Device.bump_mem (d : Device) (k n : Nat) : (d.bump k n).mem = d.mem := (congrArg Device.mem (Device.bump_shape d k n) :)
@[simp] theorem Device.bump_poison (d : Device) (k n : Nat) : (d.bump k n).poison = d.poison := (congrArg Device.poison (Device.bump_shape d k n) :)
@[simp] theorem Device.bump_symErr (d : Device) (k n : Nat) : (d.bump k n).symErr = d.symErr := (congrArg Device.symErr (Device.bump_shape d k n) :)
@[simp] theorem Device.bump_granules (d : Device) (k n : Nat) : (d.bump k n).granules = d.granules := (congrArg Device.granules (Device.bump_shape d k n) :)
@[simp] theorem Device.bump_clusters (d : Device) (k n : Nat) : (d.bump k n).clusters = d.clusters := (congrArg Device.clusters (Device.bump_shape d k n) :)
@[simp] theorem Device.bump_partMask (d : Device) (k n : Nat) : (d.bump k n).partMask = d.partMask := (congrArg Device.partMask (Device.bump_shape d k n) :)
@[simp] theorem Device.bump_increments (d : Device) (k n : Nat) : (d.bump k n).increments = d.increments := (congrArg Device.increments (Device.bump_shape d k n) :)
@[simp] theorem Device.bump_barriers (d : Device) (k n : Nat) : (d.bump k n).barriers = d.barriers := (congrArg Device.barriers (Device.bump_shape d k n) :)
@[simp] theorem Device.bump_hostMem (d : Device) (k n : Nat) : (d.bump k n).hostMem = d.hostMem := (congrArg Device.hostMem (Device.bump_shape d k n) :)
@[simp] theorem Device.bump_watches (d : Device) (k n : Nat) : (d.bump k n).watches = d.watches := (congrArg Device.watches (Device.bump_shape d k n) :)
@[simp] theorem Device.bump_seen (d : Device) (k n : Nat) : (d.bump k n).seen = d.seen := (congrArg Device.seen (Device.bump_shape d k n) :)
@[simp] theorem Device.bump_heldPages (d : Device) (k n : Nat) : (d.bump k n).heldPages = d.heldPages := (congrArg Device.heldPages (Device.bump_shape d k n) :)
@[simp] theorem Device.bump_dirty (d : Device) (k n : Nat) : (d.bump k n).dirty = d.dirty := (congrArg Device.dirty (Device.bump_shape d k n) :)
@[simp] theorem Device.bump_red (d : Device) (k n : Nat) : (d.bump k n).red = d.red := (congrArg Device.red (Device.bump_shape d k n) :)
@[simp] theorem Device.bump_aq (d : Device) (k n : Nat) : (d.bump k n).aq = d.aq := (congrArg Device.aq (Device.bump_shape d k n) :)
@[simp] theorem Device.bump_upd (d : Device) (k n : Nat) : (d.bump k n).upd = d.upd := (congrArg Device.upd (Device.bump_shape d k n) :)
@[simp] theorem Device.bump_svc (d : Device) (k n : Nat) : (d.bump k n).svc = d.svc := (congrArg Device.svc (Device.bump_shape d k n) :)
@[simp] theorem Device.bump_tim (d : Device) (k n : Nat) : (d.bump k n).tim = d.tim := (congrArg Device.tim (Device.bump_shape d k n) :)
@[simp] theorem Device.bump_strokes (d : Device) (k n : Nat) : (d.bump k n).strokes = d.strokes := (congrArg Device.strokes (Device.bump_shape d k n) :)
@[simp] theorem Device.bump_fault (d : Device) (k n : Nat) : (d.bump k n).fault = d.fault := (congrArg Device.fault (Device.bump_shape d k n) :)
@[simp] theorem Device.bump_evt (d : Device) (k n : Nat) : (d.bump k n).evt = d.evt := (congrArg Device.evt (Device.bump_shape d k n) :)
@[simp] theorem Device.bump_zn (d : Device) (k n : Nat) : (d.bump k n).zn = d.zn := (congrArg Device.zn (Device.bump_shape d k n) :)
@[simp] theorem Device.bump_sec (d : Device) (k n : Nat) : (d.bump k n).sec = d.sec := (congrArg Device.sec (Device.bump_shape d k n) :)
@[simp] theorem Device.bump_pwr (d : Device) (k n : Nat) : (d.bump k n).pwr = d.pwr := (congrArg Device.pwr (Device.bump_shape d k n) :)
@[simp] theorem Device.bump_boot (d : Device) (k n : Nat) : (d.bump k n).boot = d.boot := (congrArg Device.boot (Device.bump_shape d k n) :)
@[simp] theorem Device.bump_free (d : Device) (k n : Nat) : (d.bump k n).free = d.free := (congrArg Device.free (Device.bump_shape d k n) :)

/-! What `Device.bump64` leaves. -/

theorem Device.bump64_shape (d : Device) (k n : Nat) : d.bump64 k n = { d with regs := (d.bump64 k n).regs } := by
  unfold Device.bump64; split; · rfl
  · exact Device.setReg64_shape _ _ _
@[simp] theorem Device.bump64_now (d : Device) (k n : Nat) : (d.bump64 k n).now = d.now := (congrArg Device.now (Device.bump64_shape d k n) :)
@[simp] theorem Device.bump64_cycles (d : Device) (k n : Nat) : (d.bump64 k n).cycles = d.cycles := (congrArg Device.cycles (Device.bump64_shape d k n) :)
@[simp] theorem Device.bump64_cores (d : Device) (k n : Nat) : (d.bump64 k n).cores = d.cores := (congrArg Device.cores (Device.bump64_shape d k n) :)
@[simp] theorem Device.bump64_mem (d : Device) (k n : Nat) : (d.bump64 k n).mem = d.mem := (congrArg Device.mem (Device.bump64_shape d k n) :)
@[simp] theorem Device.bump64_poison (d : Device) (k n : Nat) : (d.bump64 k n).poison = d.poison := (congrArg Device.poison (Device.bump64_shape d k n) :)
@[simp] theorem Device.bump64_symErr (d : Device) (k n : Nat) : (d.bump64 k n).symErr = d.symErr := (congrArg Device.symErr (Device.bump64_shape d k n) :)
@[simp] theorem Device.bump64_granules (d : Device) (k n : Nat) : (d.bump64 k n).granules = d.granules := (congrArg Device.granules (Device.bump64_shape d k n) :)
@[simp] theorem Device.bump64_clusters (d : Device) (k n : Nat) : (d.bump64 k n).clusters = d.clusters := (congrArg Device.clusters (Device.bump64_shape d k n) :)
@[simp] theorem Device.bump64_partMask (d : Device) (k n : Nat) : (d.bump64 k n).partMask = d.partMask := (congrArg Device.partMask (Device.bump64_shape d k n) :)
@[simp] theorem Device.bump64_increments (d : Device) (k n : Nat) : (d.bump64 k n).increments = d.increments := (congrArg Device.increments (Device.bump64_shape d k n) :)
@[simp] theorem Device.bump64_barriers (d : Device) (k n : Nat) : (d.bump64 k n).barriers = d.barriers := (congrArg Device.barriers (Device.bump64_shape d k n) :)
@[simp] theorem Device.bump64_hostMem (d : Device) (k n : Nat) : (d.bump64 k n).hostMem = d.hostMem := (congrArg Device.hostMem (Device.bump64_shape d k n) :)
@[simp] theorem Device.bump64_watches (d : Device) (k n : Nat) : (d.bump64 k n).watches = d.watches := (congrArg Device.watches (Device.bump64_shape d k n) :)
@[simp] theorem Device.bump64_seen (d : Device) (k n : Nat) : (d.bump64 k n).seen = d.seen := (congrArg Device.seen (Device.bump64_shape d k n) :)
@[simp] theorem Device.bump64_heldPages (d : Device) (k n : Nat) : (d.bump64 k n).heldPages = d.heldPages := (congrArg Device.heldPages (Device.bump64_shape d k n) :)
@[simp] theorem Device.bump64_dirty (d : Device) (k n : Nat) : (d.bump64 k n).dirty = d.dirty := (congrArg Device.dirty (Device.bump64_shape d k n) :)
@[simp] theorem Device.bump64_red (d : Device) (k n : Nat) : (d.bump64 k n).red = d.red := (congrArg Device.red (Device.bump64_shape d k n) :)
@[simp] theorem Device.bump64_aq (d : Device) (k n : Nat) : (d.bump64 k n).aq = d.aq := (congrArg Device.aq (Device.bump64_shape d k n) :)
@[simp] theorem Device.bump64_upd (d : Device) (k n : Nat) : (d.bump64 k n).upd = d.upd := (congrArg Device.upd (Device.bump64_shape d k n) :)
@[simp] theorem Device.bump64_svc (d : Device) (k n : Nat) : (d.bump64 k n).svc = d.svc := (congrArg Device.svc (Device.bump64_shape d k n) :)
@[simp] theorem Device.bump64_tim (d : Device) (k n : Nat) : (d.bump64 k n).tim = d.tim := (congrArg Device.tim (Device.bump64_shape d k n) :)
@[simp] theorem Device.bump64_strokes (d : Device) (k n : Nat) : (d.bump64 k n).strokes = d.strokes := (congrArg Device.strokes (Device.bump64_shape d k n) :)
@[simp] theorem Device.bump64_fault (d : Device) (k n : Nat) : (d.bump64 k n).fault = d.fault := (congrArg Device.fault (Device.bump64_shape d k n) :)
@[simp] theorem Device.bump64_evt (d : Device) (k n : Nat) : (d.bump64 k n).evt = d.evt := (congrArg Device.evt (Device.bump64_shape d k n) :)
@[simp] theorem Device.bump64_zn (d : Device) (k n : Nat) : (d.bump64 k n).zn = d.zn := (congrArg Device.zn (Device.bump64_shape d k n) :)
@[simp] theorem Device.bump64_sec (d : Device) (k n : Nat) : (d.bump64 k n).sec = d.sec := (congrArg Device.sec (Device.bump64_shape d k n) :)
@[simp] theorem Device.bump64_pwr (d : Device) (k n : Nat) : (d.bump64 k n).pwr = d.pwr := (congrArg Device.pwr (Device.bump64_shape d k n) :)
@[simp] theorem Device.bump64_boot (d : Device) (k n : Nat) : (d.bump64 k n).boot = d.boot := (congrArg Device.boot (Device.bump64_shape d k n) :)
@[simp] theorem Device.bump64_free (d : Device) (k n : Nat) : (d.bump64 k n).free = d.free := (congrArg Device.free (Device.bump64_shape d k n) :)

/-! What `Device.bump16` leaves. -/

theorem Device.bump16_shape (d : Device) (k : Nat) (h : Bool) (n : Nat) : d.bump16 k h n = { d with regs := (d.bump16 k h n).regs } := by unfold Device.bump16; split <;> exact Device.setFld_shape _ _ _ _ _
@[simp] theorem Device.bump16_now (d : Device) (k : Nat) (h : Bool) (n : Nat) : (d.bump16 k h n).now = d.now := (congrArg Device.now (Device.bump16_shape d k h n) :)
@[simp] theorem Device.bump16_cycles (d : Device) (k : Nat) (h : Bool) (n : Nat) : (d.bump16 k h n).cycles = d.cycles := (congrArg Device.cycles (Device.bump16_shape d k h n) :)
@[simp] theorem Device.bump16_cores (d : Device) (k : Nat) (h : Bool) (n : Nat) : (d.bump16 k h n).cores = d.cores := (congrArg Device.cores (Device.bump16_shape d k h n) :)
@[simp] theorem Device.bump16_mem (d : Device) (k : Nat) (h : Bool) (n : Nat) : (d.bump16 k h n).mem = d.mem := (congrArg Device.mem (Device.bump16_shape d k h n) :)
@[simp] theorem Device.bump16_poison (d : Device) (k : Nat) (h : Bool) (n : Nat) : (d.bump16 k h n).poison = d.poison := (congrArg Device.poison (Device.bump16_shape d k h n) :)
@[simp] theorem Device.bump16_symErr (d : Device) (k : Nat) (h : Bool) (n : Nat) : (d.bump16 k h n).symErr = d.symErr := (congrArg Device.symErr (Device.bump16_shape d k h n) :)
@[simp] theorem Device.bump16_granules (d : Device) (k : Nat) (h : Bool) (n : Nat) : (d.bump16 k h n).granules = d.granules := (congrArg Device.granules (Device.bump16_shape d k h n) :)
@[simp] theorem Device.bump16_clusters (d : Device) (k : Nat) (h : Bool) (n : Nat) : (d.bump16 k h n).clusters = d.clusters := (congrArg Device.clusters (Device.bump16_shape d k h n) :)
@[simp] theorem Device.bump16_partMask (d : Device) (k : Nat) (h : Bool) (n : Nat) : (d.bump16 k h n).partMask = d.partMask := (congrArg Device.partMask (Device.bump16_shape d k h n) :)
@[simp] theorem Device.bump16_increments (d : Device) (k : Nat) (h : Bool) (n : Nat) : (d.bump16 k h n).increments = d.increments := (congrArg Device.increments (Device.bump16_shape d k h n) :)
@[simp] theorem Device.bump16_barriers (d : Device) (k : Nat) (h : Bool) (n : Nat) : (d.bump16 k h n).barriers = d.barriers := (congrArg Device.barriers (Device.bump16_shape d k h n) :)
@[simp] theorem Device.bump16_hostMem (d : Device) (k : Nat) (h : Bool) (n : Nat) : (d.bump16 k h n).hostMem = d.hostMem := (congrArg Device.hostMem (Device.bump16_shape d k h n) :)
@[simp] theorem Device.bump16_watches (d : Device) (k : Nat) (h : Bool) (n : Nat) : (d.bump16 k h n).watches = d.watches := (congrArg Device.watches (Device.bump16_shape d k h n) :)
@[simp] theorem Device.bump16_seen (d : Device) (k : Nat) (h : Bool) (n : Nat) : (d.bump16 k h n).seen = d.seen := (congrArg Device.seen (Device.bump16_shape d k h n) :)
@[simp] theorem Device.bump16_heldPages (d : Device) (k : Nat) (h : Bool) (n : Nat) : (d.bump16 k h n).heldPages = d.heldPages := (congrArg Device.heldPages (Device.bump16_shape d k h n) :)
@[simp] theorem Device.bump16_dirty (d : Device) (k : Nat) (h : Bool) (n : Nat) : (d.bump16 k h n).dirty = d.dirty := (congrArg Device.dirty (Device.bump16_shape d k h n) :)
@[simp] theorem Device.bump16_red (d : Device) (k : Nat) (h : Bool) (n : Nat) : (d.bump16 k h n).red = d.red := (congrArg Device.red (Device.bump16_shape d k h n) :)
@[simp] theorem Device.bump16_aq (d : Device) (k : Nat) (h : Bool) (n : Nat) : (d.bump16 k h n).aq = d.aq := (congrArg Device.aq (Device.bump16_shape d k h n) :)
@[simp] theorem Device.bump16_upd (d : Device) (k : Nat) (h : Bool) (n : Nat) : (d.bump16 k h n).upd = d.upd := (congrArg Device.upd (Device.bump16_shape d k h n) :)
@[simp] theorem Device.bump16_svc (d : Device) (k : Nat) (h : Bool) (n : Nat) : (d.bump16 k h n).svc = d.svc := (congrArg Device.svc (Device.bump16_shape d k h n) :)
@[simp] theorem Device.bump16_tim (d : Device) (k : Nat) (h : Bool) (n : Nat) : (d.bump16 k h n).tim = d.tim := (congrArg Device.tim (Device.bump16_shape d k h n) :)
@[simp] theorem Device.bump16_strokes (d : Device) (k : Nat) (h : Bool) (n : Nat) : (d.bump16 k h n).strokes = d.strokes := (congrArg Device.strokes (Device.bump16_shape d k h n) :)
@[simp] theorem Device.bump16_fault (d : Device) (k : Nat) (h : Bool) (n : Nat) : (d.bump16 k h n).fault = d.fault := (congrArg Device.fault (Device.bump16_shape d k h n) :)
@[simp] theorem Device.bump16_evt (d : Device) (k : Nat) (h : Bool) (n : Nat) : (d.bump16 k h n).evt = d.evt := (congrArg Device.evt (Device.bump16_shape d k h n) :)
@[simp] theorem Device.bump16_zn (d : Device) (k : Nat) (h : Bool) (n : Nat) : (d.bump16 k h n).zn = d.zn := (congrArg Device.zn (Device.bump16_shape d k h n) :)
@[simp] theorem Device.bump16_sec (d : Device) (k : Nat) (h : Bool) (n : Nat) : (d.bump16 k h n).sec = d.sec := (congrArg Device.sec (Device.bump16_shape d k h n) :)
@[simp] theorem Device.bump16_pwr (d : Device) (k : Nat) (h : Bool) (n : Nat) : (d.bump16 k h n).pwr = d.pwr := (congrArg Device.pwr (Device.bump16_shape d k h n) :)
@[simp] theorem Device.bump16_boot (d : Device) (k : Nat) (h : Bool) (n : Nat) : (d.bump16 k h n).boot = d.boot := (congrArg Device.boot (Device.bump16_shape d k h n) :)
@[simp] theorem Device.bump16_free (d : Device) (k : Nat) (h : Bool) (n : Nat) : (d.bump16 k h n).free = d.free := (congrArg Device.free (Device.bump16_shape d k h n) :)

/-! What `Device.fire` leaves. -/

theorem Device.fire_shape (d : Device) (n : Nat) : d.fire n = { d with regs := (d.fire n).regs } := by
  unfold Device.fire; split
  · exact Device.setFld_shape _ _ _ _ _
  · exact Device.setFld_shape _ _ _ _ _
  · exact Device.bump_shape _ _ _
@[simp] theorem Device.fire_now (d : Device) (n : Nat) : (d.fire n).now = d.now := (congrArg Device.now (Device.fire_shape d n) :)
@[simp] theorem Device.fire_cycles (d : Device) (n : Nat) : (d.fire n).cycles = d.cycles := (congrArg Device.cycles (Device.fire_shape d n) :)
@[simp] theorem Device.fire_cores (d : Device) (n : Nat) : (d.fire n).cores = d.cores := (congrArg Device.cores (Device.fire_shape d n) :)
@[simp] theorem Device.fire_mem (d : Device) (n : Nat) : (d.fire n).mem = d.mem := (congrArg Device.mem (Device.fire_shape d n) :)
@[simp] theorem Device.fire_poison (d : Device) (n : Nat) : (d.fire n).poison = d.poison := (congrArg Device.poison (Device.fire_shape d n) :)
@[simp] theorem Device.fire_symErr (d : Device) (n : Nat) : (d.fire n).symErr = d.symErr := (congrArg Device.symErr (Device.fire_shape d n) :)
@[simp] theorem Device.fire_granules (d : Device) (n : Nat) : (d.fire n).granules = d.granules := (congrArg Device.granules (Device.fire_shape d n) :)
@[simp] theorem Device.fire_clusters (d : Device) (n : Nat) : (d.fire n).clusters = d.clusters := (congrArg Device.clusters (Device.fire_shape d n) :)
@[simp] theorem Device.fire_partMask (d : Device) (n : Nat) : (d.fire n).partMask = d.partMask := (congrArg Device.partMask (Device.fire_shape d n) :)
@[simp] theorem Device.fire_increments (d : Device) (n : Nat) : (d.fire n).increments = d.increments := (congrArg Device.increments (Device.fire_shape d n) :)
@[simp] theorem Device.fire_barriers (d : Device) (n : Nat) : (d.fire n).barriers = d.barriers := (congrArg Device.barriers (Device.fire_shape d n) :)
@[simp] theorem Device.fire_hostMem (d : Device) (n : Nat) : (d.fire n).hostMem = d.hostMem := (congrArg Device.hostMem (Device.fire_shape d n) :)
@[simp] theorem Device.fire_watches (d : Device) (n : Nat) : (d.fire n).watches = d.watches := (congrArg Device.watches (Device.fire_shape d n) :)
@[simp] theorem Device.fire_seen (d : Device) (n : Nat) : (d.fire n).seen = d.seen := (congrArg Device.seen (Device.fire_shape d n) :)
@[simp] theorem Device.fire_heldPages (d : Device) (n : Nat) : (d.fire n).heldPages = d.heldPages := (congrArg Device.heldPages (Device.fire_shape d n) :)
@[simp] theorem Device.fire_dirty (d : Device) (n : Nat) : (d.fire n).dirty = d.dirty := (congrArg Device.dirty (Device.fire_shape d n) :)
@[simp] theorem Device.fire_red (d : Device) (n : Nat) : (d.fire n).red = d.red := (congrArg Device.red (Device.fire_shape d n) :)
@[simp] theorem Device.fire_aq (d : Device) (n : Nat) : (d.fire n).aq = d.aq := (congrArg Device.aq (Device.fire_shape d n) :)
@[simp] theorem Device.fire_upd (d : Device) (n : Nat) : (d.fire n).upd = d.upd := (congrArg Device.upd (Device.fire_shape d n) :)
@[simp] theorem Device.fire_svc (d : Device) (n : Nat) : (d.fire n).svc = d.svc := (congrArg Device.svc (Device.fire_shape d n) :)
@[simp] theorem Device.fire_tim (d : Device) (n : Nat) : (d.fire n).tim = d.tim := (congrArg Device.tim (Device.fire_shape d n) :)
@[simp] theorem Device.fire_strokes (d : Device) (n : Nat) : (d.fire n).strokes = d.strokes := (congrArg Device.strokes (Device.fire_shape d n) :)
@[simp] theorem Device.fire_fault (d : Device) (n : Nat) : (d.fire n).fault = d.fault := (congrArg Device.fault (Device.fire_shape d n) :)
@[simp] theorem Device.fire_evt (d : Device) (n : Nat) : (d.fire n).evt = d.evt := (congrArg Device.evt (Device.fire_shape d n) :)
@[simp] theorem Device.fire_zn (d : Device) (n : Nat) : (d.fire n).zn = d.zn := (congrArg Device.zn (Device.fire_shape d n) :)
@[simp] theorem Device.fire_sec (d : Device) (n : Nat) : (d.fire n).sec = d.sec := (congrArg Device.sec (Device.fire_shape d n) :)
@[simp] theorem Device.fire_pwr (d : Device) (n : Nat) : (d.fire n).pwr = d.pwr := (congrArg Device.pwr (Device.fire_shape d n) :)
@[simp] theorem Device.fire_boot (d : Device) (n : Nat) : (d.fire n).boot = d.boot := (congrArg Device.boot (Device.fire_shape d n) :)
@[simp] theorem Device.fire_free (d : Device) (n : Nat) : (d.fire n).free = d.free := (congrArg Device.free (Device.fire_shape d n) :)

/-! What `Device.evtComplete` leaves. -/

theorem Device.evtComplete_shape (d : Device) (n : Nat) : d.evtComplete n = { d with regs := (d.evtComplete n).regs } := by
  unfold Device.evtComplete; split
  · exact Device.setFld_shape _ _ _ _ _
  · exact Device.setFld_shape _ _ _ _ _
  · exact Device.bump_shape _ _ _
@[simp] theorem Device.evtComplete_now (d : Device) (n : Nat) : (d.evtComplete n).now = d.now := (congrArg Device.now (Device.evtComplete_shape d n) :)
@[simp] theorem Device.evtComplete_cycles (d : Device) (n : Nat) : (d.evtComplete n).cycles = d.cycles := (congrArg Device.cycles (Device.evtComplete_shape d n) :)
@[simp] theorem Device.evtComplete_cores (d : Device) (n : Nat) : (d.evtComplete n).cores = d.cores := (congrArg Device.cores (Device.evtComplete_shape d n) :)
@[simp] theorem Device.evtComplete_mem (d : Device) (n : Nat) : (d.evtComplete n).mem = d.mem := (congrArg Device.mem (Device.evtComplete_shape d n) :)
@[simp] theorem Device.evtComplete_poison (d : Device) (n : Nat) : (d.evtComplete n).poison = d.poison := (congrArg Device.poison (Device.evtComplete_shape d n) :)
@[simp] theorem Device.evtComplete_symErr (d : Device) (n : Nat) : (d.evtComplete n).symErr = d.symErr := (congrArg Device.symErr (Device.evtComplete_shape d n) :)
@[simp] theorem Device.evtComplete_granules (d : Device) (n : Nat) : (d.evtComplete n).granules = d.granules := (congrArg Device.granules (Device.evtComplete_shape d n) :)
@[simp] theorem Device.evtComplete_clusters (d : Device) (n : Nat) : (d.evtComplete n).clusters = d.clusters := (congrArg Device.clusters (Device.evtComplete_shape d n) :)
@[simp] theorem Device.evtComplete_partMask (d : Device) (n : Nat) : (d.evtComplete n).partMask = d.partMask := (congrArg Device.partMask (Device.evtComplete_shape d n) :)
@[simp] theorem Device.evtComplete_increments (d : Device) (n : Nat) : (d.evtComplete n).increments = d.increments := (congrArg Device.increments (Device.evtComplete_shape d n) :)
@[simp] theorem Device.evtComplete_barriers (d : Device) (n : Nat) : (d.evtComplete n).barriers = d.barriers := (congrArg Device.barriers (Device.evtComplete_shape d n) :)
@[simp] theorem Device.evtComplete_hostMem (d : Device) (n : Nat) : (d.evtComplete n).hostMem = d.hostMem := (congrArg Device.hostMem (Device.evtComplete_shape d n) :)
@[simp] theorem Device.evtComplete_watches (d : Device) (n : Nat) : (d.evtComplete n).watches = d.watches := (congrArg Device.watches (Device.evtComplete_shape d n) :)
@[simp] theorem Device.evtComplete_seen (d : Device) (n : Nat) : (d.evtComplete n).seen = d.seen := (congrArg Device.seen (Device.evtComplete_shape d n) :)
@[simp] theorem Device.evtComplete_heldPages (d : Device) (n : Nat) : (d.evtComplete n).heldPages = d.heldPages := (congrArg Device.heldPages (Device.evtComplete_shape d n) :)
@[simp] theorem Device.evtComplete_dirty (d : Device) (n : Nat) : (d.evtComplete n).dirty = d.dirty := (congrArg Device.dirty (Device.evtComplete_shape d n) :)
@[simp] theorem Device.evtComplete_red (d : Device) (n : Nat) : (d.evtComplete n).red = d.red := (congrArg Device.red (Device.evtComplete_shape d n) :)
@[simp] theorem Device.evtComplete_aq (d : Device) (n : Nat) : (d.evtComplete n).aq = d.aq := (congrArg Device.aq (Device.evtComplete_shape d n) :)
@[simp] theorem Device.evtComplete_upd (d : Device) (n : Nat) : (d.evtComplete n).upd = d.upd := (congrArg Device.upd (Device.evtComplete_shape d n) :)
@[simp] theorem Device.evtComplete_svc (d : Device) (n : Nat) : (d.evtComplete n).svc = d.svc := (congrArg Device.svc (Device.evtComplete_shape d n) :)
@[simp] theorem Device.evtComplete_tim (d : Device) (n : Nat) : (d.evtComplete n).tim = d.tim := (congrArg Device.tim (Device.evtComplete_shape d n) :)
@[simp] theorem Device.evtComplete_strokes (d : Device) (n : Nat) : (d.evtComplete n).strokes = d.strokes := (congrArg Device.strokes (Device.evtComplete_shape d n) :)
@[simp] theorem Device.evtComplete_fault (d : Device) (n : Nat) : (d.evtComplete n).fault = d.fault := (congrArg Device.fault (Device.evtComplete_shape d n) :)
@[simp] theorem Device.evtComplete_evt (d : Device) (n : Nat) : (d.evtComplete n).evt = d.evt := (congrArg Device.evt (Device.evtComplete_shape d n) :)
@[simp] theorem Device.evtComplete_zn (d : Device) (n : Nat) : (d.evtComplete n).zn = d.zn := (congrArg Device.zn (Device.evtComplete_shape d n) :)
@[simp] theorem Device.evtComplete_sec (d : Device) (n : Nat) : (d.evtComplete n).sec = d.sec := (congrArg Device.sec (Device.evtComplete_shape d n) :)
@[simp] theorem Device.evtComplete_pwr (d : Device) (n : Nat) : (d.evtComplete n).pwr = d.pwr := (congrArg Device.pwr (Device.evtComplete_shape d n) :)
@[simp] theorem Device.evtComplete_boot (d : Device) (n : Nat) : (d.evtComplete n).boot = d.boot := (congrArg Device.boot (Device.evtComplete_shape d n) :)
@[simp] theorem Device.evtComplete_free (d : Device) (n : Nat) : (d.evtComplete n).free = d.free := (congrArg Device.free (Device.evtComplete_shape d n) :)

/-! What `Device.firePart` leaves. -/

theorem Device.firePart_shape (d : Device) (p j : Nat) : d.firePart p j = { d with regs := (d.firePart p j).regs } := Device.fire_shape _ _
@[simp] theorem Device.firePart_now (d : Device) (p j : Nat) : (d.firePart p j).now = d.now := (congrArg Device.now (Device.firePart_shape d p j) :)
@[simp] theorem Device.firePart_cycles (d : Device) (p j : Nat) : (d.firePart p j).cycles = d.cycles := (congrArg Device.cycles (Device.firePart_shape d p j) :)
@[simp] theorem Device.firePart_cores (d : Device) (p j : Nat) : (d.firePart p j).cores = d.cores := (congrArg Device.cores (Device.firePart_shape d p j) :)
@[simp] theorem Device.firePart_mem (d : Device) (p j : Nat) : (d.firePart p j).mem = d.mem := (congrArg Device.mem (Device.firePart_shape d p j) :)
@[simp] theorem Device.firePart_poison (d : Device) (p j : Nat) : (d.firePart p j).poison = d.poison := (congrArg Device.poison (Device.firePart_shape d p j) :)
@[simp] theorem Device.firePart_symErr (d : Device) (p j : Nat) : (d.firePart p j).symErr = d.symErr := (congrArg Device.symErr (Device.firePart_shape d p j) :)
@[simp] theorem Device.firePart_granules (d : Device) (p j : Nat) : (d.firePart p j).granules = d.granules := (congrArg Device.granules (Device.firePart_shape d p j) :)
@[simp] theorem Device.firePart_clusters (d : Device) (p j : Nat) : (d.firePart p j).clusters = d.clusters := (congrArg Device.clusters (Device.firePart_shape d p j) :)
@[simp] theorem Device.firePart_partMask (d : Device) (p j : Nat) : (d.firePart p j).partMask = d.partMask := (congrArg Device.partMask (Device.firePart_shape d p j) :)
@[simp] theorem Device.firePart_increments (d : Device) (p j : Nat) : (d.firePart p j).increments = d.increments := (congrArg Device.increments (Device.firePart_shape d p j) :)
@[simp] theorem Device.firePart_barriers (d : Device) (p j : Nat) : (d.firePart p j).barriers = d.barriers := (congrArg Device.barriers (Device.firePart_shape d p j) :)
@[simp] theorem Device.firePart_hostMem (d : Device) (p j : Nat) : (d.firePart p j).hostMem = d.hostMem := (congrArg Device.hostMem (Device.firePart_shape d p j) :)
@[simp] theorem Device.firePart_watches (d : Device) (p j : Nat) : (d.firePart p j).watches = d.watches := (congrArg Device.watches (Device.firePart_shape d p j) :)
@[simp] theorem Device.firePart_seen (d : Device) (p j : Nat) : (d.firePart p j).seen = d.seen := (congrArg Device.seen (Device.firePart_shape d p j) :)
@[simp] theorem Device.firePart_heldPages (d : Device) (p j : Nat) : (d.firePart p j).heldPages = d.heldPages := (congrArg Device.heldPages (Device.firePart_shape d p j) :)
@[simp] theorem Device.firePart_dirty (d : Device) (p j : Nat) : (d.firePart p j).dirty = d.dirty := (congrArg Device.dirty (Device.firePart_shape d p j) :)
@[simp] theorem Device.firePart_red (d : Device) (p j : Nat) : (d.firePart p j).red = d.red := (congrArg Device.red (Device.firePart_shape d p j) :)
@[simp] theorem Device.firePart_aq (d : Device) (p j : Nat) : (d.firePart p j).aq = d.aq := (congrArg Device.aq (Device.firePart_shape d p j) :)
@[simp] theorem Device.firePart_upd (d : Device) (p j : Nat) : (d.firePart p j).upd = d.upd := (congrArg Device.upd (Device.firePart_shape d p j) :)
@[simp] theorem Device.firePart_svc (d : Device) (p j : Nat) : (d.firePart p j).svc = d.svc := (congrArg Device.svc (Device.firePart_shape d p j) :)
@[simp] theorem Device.firePart_tim (d : Device) (p j : Nat) : (d.firePart p j).tim = d.tim := (congrArg Device.tim (Device.firePart_shape d p j) :)
@[simp] theorem Device.firePart_strokes (d : Device) (p j : Nat) : (d.firePart p j).strokes = d.strokes := (congrArg Device.strokes (Device.firePart_shape d p j) :)
@[simp] theorem Device.firePart_fault (d : Device) (p j : Nat) : (d.firePart p j).fault = d.fault := (congrArg Device.fault (Device.firePart_shape d p j) :)
@[simp] theorem Device.firePart_evt (d : Device) (p j : Nat) : (d.firePart p j).evt = d.evt := (congrArg Device.evt (Device.firePart_shape d p j) :)
@[simp] theorem Device.firePart_zn (d : Device) (p j : Nat) : (d.firePart p j).zn = d.zn := (congrArg Device.zn (Device.firePart_shape d p j) :)
@[simp] theorem Device.firePart_sec (d : Device) (p j : Nat) : (d.firePart p j).sec = d.sec := (congrArg Device.sec (Device.firePart_shape d p j) :)
@[simp] theorem Device.firePart_pwr (d : Device) (p j : Nat) : (d.firePart p j).pwr = d.pwr := (congrArg Device.pwr (Device.firePart_shape d p j) :)
@[simp] theorem Device.firePart_boot (d : Device) (p j : Nat) : (d.firePart p j).boot = d.boot := (congrArg Device.boot (Device.firePart_shape d p j) :)
@[simp] theorem Device.firePart_free (d : Device) (p j : Nat) : (d.firePart p j).free = d.free := (congrArg Device.free (Device.firePart_shape d p j) :)

/-! What `Device.raise` leaves. -/

theorem Device.raise_shape (d : Device) (r : FaultRec) : d.raise r = { d with regs := (d.raise r).regs, fault := (d.raise r).fault } := by
  unfold Device.raise; split; · rfl
  · split
    · rw [Device.bump_shape]
    · rfl
@[simp] theorem Device.raise_now (d : Device) (r : FaultRec) : (d.raise r).now = d.now := (congrArg Device.now (Device.raise_shape d r) :)
@[simp] theorem Device.raise_cycles (d : Device) (r : FaultRec) : (d.raise r).cycles = d.cycles := (congrArg Device.cycles (Device.raise_shape d r) :)
@[simp] theorem Device.raise_cores (d : Device) (r : FaultRec) : (d.raise r).cores = d.cores := (congrArg Device.cores (Device.raise_shape d r) :)
@[simp] theorem Device.raise_mem (d : Device) (r : FaultRec) : (d.raise r).mem = d.mem := (congrArg Device.mem (Device.raise_shape d r) :)
@[simp] theorem Device.raise_poison (d : Device) (r : FaultRec) : (d.raise r).poison = d.poison := (congrArg Device.poison (Device.raise_shape d r) :)
@[simp] theorem Device.raise_symErr (d : Device) (r : FaultRec) : (d.raise r).symErr = d.symErr := (congrArg Device.symErr (Device.raise_shape d r) :)
@[simp] theorem Device.raise_granules (d : Device) (r : FaultRec) : (d.raise r).granules = d.granules := (congrArg Device.granules (Device.raise_shape d r) :)
@[simp] theorem Device.raise_clusters (d : Device) (r : FaultRec) : (d.raise r).clusters = d.clusters := (congrArg Device.clusters (Device.raise_shape d r) :)
@[simp] theorem Device.raise_partMask (d : Device) (r : FaultRec) : (d.raise r).partMask = d.partMask := (congrArg Device.partMask (Device.raise_shape d r) :)
@[simp] theorem Device.raise_increments (d : Device) (r : FaultRec) : (d.raise r).increments = d.increments := (congrArg Device.increments (Device.raise_shape d r) :)
@[simp] theorem Device.raise_barriers (d : Device) (r : FaultRec) : (d.raise r).barriers = d.barriers := (congrArg Device.barriers (Device.raise_shape d r) :)
@[simp] theorem Device.raise_hostMem (d : Device) (r : FaultRec) : (d.raise r).hostMem = d.hostMem := (congrArg Device.hostMem (Device.raise_shape d r) :)
@[simp] theorem Device.raise_watches (d : Device) (r : FaultRec) : (d.raise r).watches = d.watches := (congrArg Device.watches (Device.raise_shape d r) :)
@[simp] theorem Device.raise_seen (d : Device) (r : FaultRec) : (d.raise r).seen = d.seen := (congrArg Device.seen (Device.raise_shape d r) :)
@[simp] theorem Device.raise_heldPages (d : Device) (r : FaultRec) : (d.raise r).heldPages = d.heldPages := (congrArg Device.heldPages (Device.raise_shape d r) :)
@[simp] theorem Device.raise_dirty (d : Device) (r : FaultRec) : (d.raise r).dirty = d.dirty := (congrArg Device.dirty (Device.raise_shape d r) :)
@[simp] theorem Device.raise_red (d : Device) (r : FaultRec) : (d.raise r).red = d.red := (congrArg Device.red (Device.raise_shape d r) :)
@[simp] theorem Device.raise_aq (d : Device) (r : FaultRec) : (d.raise r).aq = d.aq := (congrArg Device.aq (Device.raise_shape d r) :)
@[simp] theorem Device.raise_upd (d : Device) (r : FaultRec) : (d.raise r).upd = d.upd := (congrArg Device.upd (Device.raise_shape d r) :)
@[simp] theorem Device.raise_svc (d : Device) (r : FaultRec) : (d.raise r).svc = d.svc := (congrArg Device.svc (Device.raise_shape d r) :)
@[simp] theorem Device.raise_tim (d : Device) (r : FaultRec) : (d.raise r).tim = d.tim := (congrArg Device.tim (Device.raise_shape d r) :)
@[simp] theorem Device.raise_strokes (d : Device) (r : FaultRec) : (d.raise r).strokes = d.strokes := (congrArg Device.strokes (Device.raise_shape d r) :)
@[simp] theorem Device.raise_evt (d : Device) (r : FaultRec) : (d.raise r).evt = d.evt := (congrArg Device.evt (Device.raise_shape d r) :)
@[simp] theorem Device.raise_zn (d : Device) (r : FaultRec) : (d.raise r).zn = d.zn := (congrArg Device.zn (Device.raise_shape d r) :)
@[simp] theorem Device.raise_sec (d : Device) (r : FaultRec) : (d.raise r).sec = d.sec := (congrArg Device.sec (Device.raise_shape d r) :)
@[simp] theorem Device.raise_pwr (d : Device) (r : FaultRec) : (d.raise r).pwr = d.pwr := (congrArg Device.pwr (Device.raise_shape d r) :)
@[simp] theorem Device.raise_boot (d : Device) (r : FaultRec) : (d.raise r).boot = d.boot := (congrArg Device.boot (Device.raise_shape d r) :)
@[simp] theorem Device.raise_free (d : Device) (r : FaultRec) : (d.raise r).free = d.free := (congrArg Device.free (Device.raise_shape d r) :)

/-! What `Device.raisePart` leaves. -/

theorem Device.raisePart_shape (d : Device) (p : Option Nat) (r : FaultRec) : d.raisePart p r = { d with regs := (d.raisePart p r).regs, fault := (d.raisePart p r).fault } := by unfold Device.raisePart; split <;> exact Device.raise_shape _ _
@[simp] theorem Device.raisePart_now (d : Device) (p : Option Nat) (r : FaultRec) : (d.raisePart p r).now = d.now := (congrArg Device.now (Device.raisePart_shape d p r) :)
@[simp] theorem Device.raisePart_cycles (d : Device) (p : Option Nat) (r : FaultRec) : (d.raisePart p r).cycles = d.cycles := (congrArg Device.cycles (Device.raisePart_shape d p r) :)
@[simp] theorem Device.raisePart_cores (d : Device) (p : Option Nat) (r : FaultRec) : (d.raisePart p r).cores = d.cores := (congrArg Device.cores (Device.raisePart_shape d p r) :)
@[simp] theorem Device.raisePart_mem (d : Device) (p : Option Nat) (r : FaultRec) : (d.raisePart p r).mem = d.mem := (congrArg Device.mem (Device.raisePart_shape d p r) :)
@[simp] theorem Device.raisePart_poison (d : Device) (p : Option Nat) (r : FaultRec) : (d.raisePart p r).poison = d.poison := (congrArg Device.poison (Device.raisePart_shape d p r) :)
@[simp] theorem Device.raisePart_symErr (d : Device) (p : Option Nat) (r : FaultRec) : (d.raisePart p r).symErr = d.symErr := (congrArg Device.symErr (Device.raisePart_shape d p r) :)
@[simp] theorem Device.raisePart_granules (d : Device) (p : Option Nat) (r : FaultRec) : (d.raisePart p r).granules = d.granules := (congrArg Device.granules (Device.raisePart_shape d p r) :)
@[simp] theorem Device.raisePart_clusters (d : Device) (p : Option Nat) (r : FaultRec) : (d.raisePart p r).clusters = d.clusters := (congrArg Device.clusters (Device.raisePart_shape d p r) :)
@[simp] theorem Device.raisePart_partMask (d : Device) (p : Option Nat) (r : FaultRec) : (d.raisePart p r).partMask = d.partMask := (congrArg Device.partMask (Device.raisePart_shape d p r) :)
@[simp] theorem Device.raisePart_increments (d : Device) (p : Option Nat) (r : FaultRec) : (d.raisePart p r).increments = d.increments := (congrArg Device.increments (Device.raisePart_shape d p r) :)
@[simp] theorem Device.raisePart_barriers (d : Device) (p : Option Nat) (r : FaultRec) : (d.raisePart p r).barriers = d.barriers := (congrArg Device.barriers (Device.raisePart_shape d p r) :)
@[simp] theorem Device.raisePart_hostMem (d : Device) (p : Option Nat) (r : FaultRec) : (d.raisePart p r).hostMem = d.hostMem := (congrArg Device.hostMem (Device.raisePart_shape d p r) :)
@[simp] theorem Device.raisePart_watches (d : Device) (p : Option Nat) (r : FaultRec) : (d.raisePart p r).watches = d.watches := (congrArg Device.watches (Device.raisePart_shape d p r) :)
@[simp] theorem Device.raisePart_seen (d : Device) (p : Option Nat) (r : FaultRec) : (d.raisePart p r).seen = d.seen := (congrArg Device.seen (Device.raisePart_shape d p r) :)
@[simp] theorem Device.raisePart_heldPages (d : Device) (p : Option Nat) (r : FaultRec) : (d.raisePart p r).heldPages = d.heldPages := (congrArg Device.heldPages (Device.raisePart_shape d p r) :)
@[simp] theorem Device.raisePart_dirty (d : Device) (p : Option Nat) (r : FaultRec) : (d.raisePart p r).dirty = d.dirty := (congrArg Device.dirty (Device.raisePart_shape d p r) :)
@[simp] theorem Device.raisePart_red (d : Device) (p : Option Nat) (r : FaultRec) : (d.raisePart p r).red = d.red := (congrArg Device.red (Device.raisePart_shape d p r) :)
@[simp] theorem Device.raisePart_aq (d : Device) (p : Option Nat) (r : FaultRec) : (d.raisePart p r).aq = d.aq := (congrArg Device.aq (Device.raisePart_shape d p r) :)
@[simp] theorem Device.raisePart_upd (d : Device) (p : Option Nat) (r : FaultRec) : (d.raisePart p r).upd = d.upd := (congrArg Device.upd (Device.raisePart_shape d p r) :)
@[simp] theorem Device.raisePart_svc (d : Device) (p : Option Nat) (r : FaultRec) : (d.raisePart p r).svc = d.svc := (congrArg Device.svc (Device.raisePart_shape d p r) :)
@[simp] theorem Device.raisePart_tim (d : Device) (p : Option Nat) (r : FaultRec) : (d.raisePart p r).tim = d.tim := (congrArg Device.tim (Device.raisePart_shape d p r) :)
@[simp] theorem Device.raisePart_strokes (d : Device) (p : Option Nat) (r : FaultRec) : (d.raisePart p r).strokes = d.strokes := (congrArg Device.strokes (Device.raisePart_shape d p r) :)
@[simp] theorem Device.raisePart_evt (d : Device) (p : Option Nat) (r : FaultRec) : (d.raisePart p r).evt = d.evt := (congrArg Device.evt (Device.raisePart_shape d p r) :)
@[simp] theorem Device.raisePart_zn (d : Device) (p : Option Nat) (r : FaultRec) : (d.raisePart p r).zn = d.zn := (congrArg Device.zn (Device.raisePart_shape d p r) :)
@[simp] theorem Device.raisePart_sec (d : Device) (p : Option Nat) (r : FaultRec) : (d.raisePart p r).sec = d.sec := (congrArg Device.sec (Device.raisePart_shape d p r) :)
@[simp] theorem Device.raisePart_pwr (d : Device) (p : Option Nat) (r : FaultRec) : (d.raisePart p r).pwr = d.pwr := (congrArg Device.pwr (Device.raisePart_shape d p r) :)
@[simp] theorem Device.raisePart_boot (d : Device) (p : Option Nat) (r : FaultRec) : (d.raisePart p r).boot = d.boot := (congrArg Device.boot (Device.raisePart_shape d p r) :)
@[simp] theorem Device.raisePart_free (d : Device) (p : Option Nat) (r : FaultRec) : (d.raisePart p r).free = d.free := (congrArg Device.free (Device.raisePart_shape d p r) :)

/-! What `Device.semAdd` leaves. -/

theorem Device.semAdd_shape (d : Device) (c n a : Nat) (t : Option Nat) (s q : Nat) : d.semAdd c n a t s q = { d with regs := (d.semAdd c n a t s q).regs, fault := (d.semAdd c n a t s q).fault, cores := (d.semAdd c n a t s q).cores } := by
  unfold Device.semAdd; simp only []; split; · rfl
  · rw [Device.raise_shape]; rfl
@[simp] theorem Device.semAdd_now (d : Device) (c n a : Nat) (t : Option Nat) (s q : Nat) : (d.semAdd c n a t s q).now = d.now := (congrArg Device.now (Device.semAdd_shape d c n a t s q) :)
@[simp] theorem Device.semAdd_cycles (d : Device) (c n a : Nat) (t : Option Nat) (s q : Nat) : (d.semAdd c n a t s q).cycles = d.cycles := (congrArg Device.cycles (Device.semAdd_shape d c n a t s q) :)
@[simp] theorem Device.semAdd_mem (d : Device) (c n a : Nat) (t : Option Nat) (s q : Nat) : (d.semAdd c n a t s q).mem = d.mem := (congrArg Device.mem (Device.semAdd_shape d c n a t s q) :)
@[simp] theorem Device.semAdd_poison (d : Device) (c n a : Nat) (t : Option Nat) (s q : Nat) : (d.semAdd c n a t s q).poison = d.poison := (congrArg Device.poison (Device.semAdd_shape d c n a t s q) :)
@[simp] theorem Device.semAdd_symErr (d : Device) (c n a : Nat) (t : Option Nat) (s q : Nat) : (d.semAdd c n a t s q).symErr = d.symErr := (congrArg Device.symErr (Device.semAdd_shape d c n a t s q) :)
@[simp] theorem Device.semAdd_granules (d : Device) (c n a : Nat) (t : Option Nat) (s q : Nat) : (d.semAdd c n a t s q).granules = d.granules := (congrArg Device.granules (Device.semAdd_shape d c n a t s q) :)
@[simp] theorem Device.semAdd_clusters (d : Device) (c n a : Nat) (t : Option Nat) (s q : Nat) : (d.semAdd c n a t s q).clusters = d.clusters := (congrArg Device.clusters (Device.semAdd_shape d c n a t s q) :)
@[simp] theorem Device.semAdd_partMask (d : Device) (c n a : Nat) (t : Option Nat) (s q : Nat) : (d.semAdd c n a t s q).partMask = d.partMask := (congrArg Device.partMask (Device.semAdd_shape d c n a t s q) :)
@[simp] theorem Device.semAdd_increments (d : Device) (c n a : Nat) (t : Option Nat) (s q : Nat) : (d.semAdd c n a t s q).increments = d.increments := (congrArg Device.increments (Device.semAdd_shape d c n a t s q) :)
@[simp] theorem Device.semAdd_barriers (d : Device) (c n a : Nat) (t : Option Nat) (s q : Nat) : (d.semAdd c n a t s q).barriers = d.barriers := (congrArg Device.barriers (Device.semAdd_shape d c n a t s q) :)
@[simp] theorem Device.semAdd_hostMem (d : Device) (c n a : Nat) (t : Option Nat) (s q : Nat) : (d.semAdd c n a t s q).hostMem = d.hostMem := (congrArg Device.hostMem (Device.semAdd_shape d c n a t s q) :)
@[simp] theorem Device.semAdd_watches (d : Device) (c n a : Nat) (t : Option Nat) (s q : Nat) : (d.semAdd c n a t s q).watches = d.watches := (congrArg Device.watches (Device.semAdd_shape d c n a t s q) :)
@[simp] theorem Device.semAdd_seen (d : Device) (c n a : Nat) (t : Option Nat) (s q : Nat) : (d.semAdd c n a t s q).seen = d.seen := (congrArg Device.seen (Device.semAdd_shape d c n a t s q) :)
@[simp] theorem Device.semAdd_heldPages (d : Device) (c n a : Nat) (t : Option Nat) (s q : Nat) : (d.semAdd c n a t s q).heldPages = d.heldPages := (congrArg Device.heldPages (Device.semAdd_shape d c n a t s q) :)
@[simp] theorem Device.semAdd_dirty (d : Device) (c n a : Nat) (t : Option Nat) (s q : Nat) : (d.semAdd c n a t s q).dirty = d.dirty := (congrArg Device.dirty (Device.semAdd_shape d c n a t s q) :)
@[simp] theorem Device.semAdd_red (d : Device) (c n a : Nat) (t : Option Nat) (s q : Nat) : (d.semAdd c n a t s q).red = d.red := (congrArg Device.red (Device.semAdd_shape d c n a t s q) :)
@[simp] theorem Device.semAdd_aq (d : Device) (c n a : Nat) (t : Option Nat) (s q : Nat) : (d.semAdd c n a t s q).aq = d.aq := (congrArg Device.aq (Device.semAdd_shape d c n a t s q) :)
@[simp] theorem Device.semAdd_upd (d : Device) (c n a : Nat) (t : Option Nat) (s q : Nat) : (d.semAdd c n a t s q).upd = d.upd := (congrArg Device.upd (Device.semAdd_shape d c n a t s q) :)
@[simp] theorem Device.semAdd_svc (d : Device) (c n a : Nat) (t : Option Nat) (s q : Nat) : (d.semAdd c n a t s q).svc = d.svc := (congrArg Device.svc (Device.semAdd_shape d c n a t s q) :)
@[simp] theorem Device.semAdd_tim (d : Device) (c n a : Nat) (t : Option Nat) (s q : Nat) : (d.semAdd c n a t s q).tim = d.tim := (congrArg Device.tim (Device.semAdd_shape d c n a t s q) :)
@[simp] theorem Device.semAdd_strokes (d : Device) (c n a : Nat) (t : Option Nat) (s q : Nat) : (d.semAdd c n a t s q).strokes = d.strokes := (congrArg Device.strokes (Device.semAdd_shape d c n a t s q) :)
@[simp] theorem Device.semAdd_evt (d : Device) (c n a : Nat) (t : Option Nat) (s q : Nat) : (d.semAdd c n a t s q).evt = d.evt := (congrArg Device.evt (Device.semAdd_shape d c n a t s q) :)
@[simp] theorem Device.semAdd_zn (d : Device) (c n a : Nat) (t : Option Nat) (s q : Nat) : (d.semAdd c n a t s q).zn = d.zn := (congrArg Device.zn (Device.semAdd_shape d c n a t s q) :)
@[simp] theorem Device.semAdd_sec (d : Device) (c n a : Nat) (t : Option Nat) (s q : Nat) : (d.semAdd c n a t s q).sec = d.sec := (congrArg Device.sec (Device.semAdd_shape d c n a t s q) :)
@[simp] theorem Device.semAdd_pwr (d : Device) (c n a : Nat) (t : Option Nat) (s q : Nat) : (d.semAdd c n a t s q).pwr = d.pwr := (congrArg Device.pwr (Device.semAdd_shape d c n a t s q) :)
@[simp] theorem Device.semAdd_boot (d : Device) (c n a : Nat) (t : Option Nat) (s q : Nat) : (d.semAdd c n a t s q).boot = d.boot := (congrArg Device.boot (Device.semAdd_shape d c n a t s q) :)
@[simp] theorem Device.semAdd_free (d : Device) (c n a : Nat) (t : Option Nat) (s q : Nat) : (d.semAdd c n a t s q).free = d.free := (congrArg Device.free (Device.semAdd_shape d c n a t s q) :)

/-! What `Core.setSem` and `Core.sramWrite` leave. -/

@[simp] theorem Core.setSem_sreg (k : Core) (n v : Nat) : (k.setSem n v).sreg = k.sreg := rfl
@[simp] theorem Core.setSem_live (k : Core) (n v : Nat) : (k.setSem n v).live = k.live := rfl
@[simp] theorem Core.setSem_staged (k : Core) (n v : Nat) : (k.setSem n v).staged = k.staged := rfl
@[simp] theorem Core.setSem_dirty (k : Core) (n v : Nat) : (k.setSem n v).dirty = k.dirty := rfl
@[simp] theorem Core.setSem_scratch (k : Core) (n v : Nat) : (k.setSem n v).scratch = k.scratch := rfl
@[simp] theorem Core.setSem_scratchBad (k : Core) (n v : Nat) : (k.setSem n v).scratchBad = k.scratchBad := rfl
@[simp] theorem Core.setSem_imemBad (k : Core) (n v : Nat) : (k.setSem n v).imemBad = k.imemBad := rfl
@[simp] theorem Core.setSem_pc (k : Core) (n v : Nat) : (k.setSem n v).pc = k.pc := rfl
@[simp] theorem Core.setSem_tc (k : Core) (n v : Nat) : (k.setSem n v).tc = k.tc := rfl
@[simp] theorem Core.setSem_gate (k : Core) (n v : Nat) : (k.setSem n v).gate = k.gate := rfl
@[simp] theorem Core.setSem_run (k : Core) (n v : Nat) : (k.setSem n v).run = k.run := rfl
@[simp] theorem Core.setSem_bank (k : Core) (n v : Nat) : (k.setSem n v).bank = k.bank := rfl
@[simp] theorem Core.setSem_faulted (k : Core) (n v : Nat) : (k.setSem n v).faulted = k.faulted := rfl
@[simp] theorem Core.setSem_switchPending (k : Core) (n v : Nat) : (k.setSem n v).switchPending = k.switchPending := rfl
@[simp] theorem Core.setSem_semWait (k : Core) (n v : Nat) : (k.setSem n v).semWait = k.semWait := rfl
@[simp] theorem Core.setSem_imem (k : Core) (n v : Nat) : (k.setSem n v).imem = k.imem := rfl
@[simp] theorem Core.setSem_held (k : Core) (n v : Nat) : (k.setSem n v).held = k.held := rfl
@[simp] theorem Core.setSem_semPtr (k : Core) (n v : Nat) : (k.setSem n v).semPtr = k.semPtr := rfl
@[simp] theorem Core.setSem_resetCycle (k : Core) (n v : Nat) : (k.setSem n v).resetCycle = k.resetCycle := rfl
@[simp] theorem Core.setSem_mxq (k : Core) (n v : Nat) : (k.setSem n v).mxq = k.mxq := rfl
@[simp] theorem Core.setSem_spq (k : Core) (n v : Nat) : (k.setSem n v).spq = k.spq := rfl
@[simp] theorem Core.setSem_vxq (k : Core) (n v : Nat) : (k.setSem n v).vxq = k.vxq := rfl
@[simp] theorem Core.setSem_cpq0 (k : Core) (n v : Nat) : (k.setSem n v).cpq0 = k.cpq0 := rfl
@[simp] theorem Core.setSem_cpq1 (k : Core) (n v : Nat) : (k.setSem n v).cpq1 = k.cpq1 := rfl
@[simp] theorem Core.setSem_syq (k : Core) (n v : Nat) : (k.setSem n v).syq = k.syq := rfl
@[simp] theorem Core.setSem_siphonPtr (k : Core) (n v : Nat) : (k.setSem n v).siphonPtr = k.siphonPtr := rfl
@[simp] theorem Core.setSem_siphonBusy (k : Core) (n v : Nat) : (k.setSem n v).siphonBusy = k.siphonBusy := rfl
@[simp] theorem Core.setSem_vreg (k : Core) (n v : Nat) : (k.setSem n v).vreg = k.vreg := rfl
@[simp] theorem Core.setSem_vregBad (k : Core) (n v : Nat) : (k.setSem n v).vregBad = k.vregBad := rfl
@[simp] theorem Core.setSem_mask (k : Core) (n v : Nat) : (k.setSem n v).mask = k.mask := rfl
@[simp] theorem Core.setSem_vl (k : Core) (n v : Nat) : (k.setSem n v).vl = k.vl := rfl
@[simp] theorem Core.setSem_carry (k : Core) (n v : Nat) : (k.setSem n v).carry = k.carry := rfl
@[simp] theorem Core.setSem_table (k : Core) (n v : Nat) : (k.setSem n v).table = k.table := rfl
@[simp] theorem Core.setSem_sram (k : Core) (n v : Nat) : (k.setSem n v).sram = k.sram := rfl
@[simp] theorem Core.setSem_sramBad (k : Core) (n v : Nat) : (k.setSem n v).sramBad = k.sramBad := rfl
@[simp] theorem Core.setSem_sramCe (k : Core) (n v : Nat) : (k.setSem n v).sramCe = k.sramCe := rfl
@[simp] theorem Core.setSem_slots (k : Core) (n v : Nat) : (k.setSem n v).slots = k.slots := rfl
@[simp] theorem Core.setSem_toIssue (k : Core) (n v : Nat) : (k.setSem n v).toIssue = k.toIssue := rfl
@[simp] theorem Core.setSem_slotPtr (k : Core) (n v : Nat) : (k.setSem n v).slotPtr = k.slotPtr := rfl
@[simp] theorem Core.setSem_tlb (k : Core) (n v : Nat) : (k.setSem n v).tlb = k.tlb := rfl
@[simp] theorem Core.setSem_stallLatch (k : Core) (n v : Nat) : (k.setSem n v).stallLatch = k.stallLatch := rfl
@[simp] theorem Core.sramWrite_sreg (k : Core) (o : Nat) (bs : List Byte) : (k.sramWrite o bs).sreg = k.sreg := rfl
@[simp] theorem Core.sramWrite_live (k : Core) (o : Nat) (bs : List Byte) : (k.sramWrite o bs).live = k.live := rfl
@[simp] theorem Core.sramWrite_staged (k : Core) (o : Nat) (bs : List Byte) : (k.sramWrite o bs).staged = k.staged := rfl
@[simp] theorem Core.sramWrite_dirty (k : Core) (o : Nat) (bs : List Byte) : (k.sramWrite o bs).dirty = k.dirty := rfl
@[simp] theorem Core.sramWrite_scratch (k : Core) (o : Nat) (bs : List Byte) : (k.sramWrite o bs).scratch = k.scratch := rfl
@[simp] theorem Core.sramWrite_scratchBad (k : Core) (o : Nat) (bs : List Byte) : (k.sramWrite o bs).scratchBad = k.scratchBad := rfl
@[simp] theorem Core.sramWrite_imemBad (k : Core) (o : Nat) (bs : List Byte) : (k.sramWrite o bs).imemBad = k.imemBad := rfl
@[simp] theorem Core.sramWrite_pc (k : Core) (o : Nat) (bs : List Byte) : (k.sramWrite o bs).pc = k.pc := rfl
@[simp] theorem Core.sramWrite_tc (k : Core) (o : Nat) (bs : List Byte) : (k.sramWrite o bs).tc = k.tc := rfl
@[simp] theorem Core.sramWrite_gate (k : Core) (o : Nat) (bs : List Byte) : (k.sramWrite o bs).gate = k.gate := rfl
@[simp] theorem Core.sramWrite_run (k : Core) (o : Nat) (bs : List Byte) : (k.sramWrite o bs).run = k.run := rfl
@[simp] theorem Core.sramWrite_bank (k : Core) (o : Nat) (bs : List Byte) : (k.sramWrite o bs).bank = k.bank := rfl
@[simp] theorem Core.sramWrite_faulted (k : Core) (o : Nat) (bs : List Byte) : (k.sramWrite o bs).faulted = k.faulted := rfl
@[simp] theorem Core.sramWrite_switchPending (k : Core) (o : Nat) (bs : List Byte) : (k.sramWrite o bs).switchPending = k.switchPending := rfl
@[simp] theorem Core.sramWrite_semWait (k : Core) (o : Nat) (bs : List Byte) : (k.sramWrite o bs).semWait = k.semWait := rfl
@[simp] theorem Core.sramWrite_imem (k : Core) (o : Nat) (bs : List Byte) : (k.sramWrite o bs).imem = k.imem := rfl
@[simp] theorem Core.sramWrite_held (k : Core) (o : Nat) (bs : List Byte) : (k.sramWrite o bs).held = k.held := rfl
@[simp] theorem Core.sramWrite_sem (k : Core) (o : Nat) (bs : List Byte) : (k.sramWrite o bs).sem = k.sem := rfl
@[simp] theorem Core.sramWrite_semPtr (k : Core) (o : Nat) (bs : List Byte) : (k.sramWrite o bs).semPtr = k.semPtr := rfl
@[simp] theorem Core.sramWrite_resetCycle (k : Core) (o : Nat) (bs : List Byte) : (k.sramWrite o bs).resetCycle = k.resetCycle := rfl
@[simp] theorem Core.sramWrite_mxq (k : Core) (o : Nat) (bs : List Byte) : (k.sramWrite o bs).mxq = k.mxq := rfl
@[simp] theorem Core.sramWrite_spq (k : Core) (o : Nat) (bs : List Byte) : (k.sramWrite o bs).spq = k.spq := rfl
@[simp] theorem Core.sramWrite_vxq (k : Core) (o : Nat) (bs : List Byte) : (k.sramWrite o bs).vxq = k.vxq := rfl
@[simp] theorem Core.sramWrite_cpq0 (k : Core) (o : Nat) (bs : List Byte) : (k.sramWrite o bs).cpq0 = k.cpq0 := rfl
@[simp] theorem Core.sramWrite_cpq1 (k : Core) (o : Nat) (bs : List Byte) : (k.sramWrite o bs).cpq1 = k.cpq1 := rfl
@[simp] theorem Core.sramWrite_syq (k : Core) (o : Nat) (bs : List Byte) : (k.sramWrite o bs).syq = k.syq := rfl
@[simp] theorem Core.sramWrite_siphonPtr (k : Core) (o : Nat) (bs : List Byte) : (k.sramWrite o bs).siphonPtr = k.siphonPtr := rfl
@[simp] theorem Core.sramWrite_siphonBusy (k : Core) (o : Nat) (bs : List Byte) : (k.sramWrite o bs).siphonBusy = k.siphonBusy := rfl
@[simp] theorem Core.sramWrite_vreg (k : Core) (o : Nat) (bs : List Byte) : (k.sramWrite o bs).vreg = k.vreg := rfl
@[simp] theorem Core.sramWrite_vregBad (k : Core) (o : Nat) (bs : List Byte) : (k.sramWrite o bs).vregBad = k.vregBad := rfl
@[simp] theorem Core.sramWrite_mask (k : Core) (o : Nat) (bs : List Byte) : (k.sramWrite o bs).mask = k.mask := rfl
@[simp] theorem Core.sramWrite_vl (k : Core) (o : Nat) (bs : List Byte) : (k.sramWrite o bs).vl = k.vl := rfl
@[simp] theorem Core.sramWrite_carry (k : Core) (o : Nat) (bs : List Byte) : (k.sramWrite o bs).carry = k.carry := rfl
@[simp] theorem Core.sramWrite_table (k : Core) (o : Nat) (bs : List Byte) : (k.sramWrite o bs).table = k.table := rfl
@[simp] theorem Core.sramWrite_slots (k : Core) (o : Nat) (bs : List Byte) : (k.sramWrite o bs).slots = k.slots := rfl
@[simp] theorem Core.sramWrite_toIssue (k : Core) (o : Nat) (bs : List Byte) : (k.sramWrite o bs).toIssue = k.toIssue := rfl
@[simp] theorem Core.sramWrite_slotPtr (k : Core) (o : Nat) (bs : List Byte) : (k.sramWrite o bs).slotPtr = k.slotPtr := rfl
@[simp] theorem Core.sramWrite_tlb (k : Core) (o : Nat) (bs : List Byte) : (k.sramWrite o bs).tlb = k.tlb := rfl
@[simp] theorem Core.sramWrite_stallLatch (k : Core) (o : Nat) (bs : List Byte) : (k.sramWrite o bs).stallLatch = k.stallLatch := rfl

/-! What `Core.setQueue` and `Core.grant` leave. -/

@[simp] theorem Core.setQueue_sreg (k : Core) (q : Nat) (l : List QEntry) : (k.setQueue q l).sreg = k.sreg := by unfold Core.setQueue; split <;> rfl
@[simp] theorem Core.setQueue_live (k : Core) (q : Nat) (l : List QEntry) : (k.setQueue q l).live = k.live := by unfold Core.setQueue; split <;> rfl
@[simp] theorem Core.setQueue_staged (k : Core) (q : Nat) (l : List QEntry) : (k.setQueue q l).staged = k.staged := by unfold Core.setQueue; split <;> rfl
@[simp] theorem Core.setQueue_dirty (k : Core) (q : Nat) (l : List QEntry) : (k.setQueue q l).dirty = k.dirty := by unfold Core.setQueue; split <;> rfl
@[simp] theorem Core.setQueue_scratch (k : Core) (q : Nat) (l : List QEntry) : (k.setQueue q l).scratch = k.scratch := by unfold Core.setQueue; split <;> rfl
@[simp] theorem Core.setQueue_scratchBad (k : Core) (q : Nat) (l : List QEntry) : (k.setQueue q l).scratchBad = k.scratchBad := by unfold Core.setQueue; split <;> rfl
@[simp] theorem Core.setQueue_imemBad (k : Core) (q : Nat) (l : List QEntry) : (k.setQueue q l).imemBad = k.imemBad := by unfold Core.setQueue; split <;> rfl
@[simp] theorem Core.setQueue_pc (k : Core) (q : Nat) (l : List QEntry) : (k.setQueue q l).pc = k.pc := by unfold Core.setQueue; split <;> rfl
@[simp] theorem Core.setQueue_tc (k : Core) (q : Nat) (l : List QEntry) : (k.setQueue q l).tc = k.tc := by unfold Core.setQueue; split <;> rfl
@[simp] theorem Core.setQueue_gate (k : Core) (q : Nat) (l : List QEntry) : (k.setQueue q l).gate = k.gate := by unfold Core.setQueue; split <;> rfl
@[simp] theorem Core.setQueue_run (k : Core) (q : Nat) (l : List QEntry) : (k.setQueue q l).run = k.run := by unfold Core.setQueue; split <;> rfl
@[simp] theorem Core.setQueue_bank (k : Core) (q : Nat) (l : List QEntry) : (k.setQueue q l).bank = k.bank := by unfold Core.setQueue; split <;> rfl
@[simp] theorem Core.setQueue_faulted (k : Core) (q : Nat) (l : List QEntry) : (k.setQueue q l).faulted = k.faulted := by unfold Core.setQueue; split <;> rfl
@[simp] theorem Core.setQueue_switchPending (k : Core) (q : Nat) (l : List QEntry) : (k.setQueue q l).switchPending = k.switchPending := by unfold Core.setQueue; split <;> rfl
@[simp] theorem Core.setQueue_semWait (k : Core) (q : Nat) (l : List QEntry) : (k.setQueue q l).semWait = k.semWait := by unfold Core.setQueue; split <;> rfl
@[simp] theorem Core.setQueue_imem (k : Core) (q : Nat) (l : List QEntry) : (k.setQueue q l).imem = k.imem := by unfold Core.setQueue; split <;> rfl
@[simp] theorem Core.setQueue_held (k : Core) (q : Nat) (l : List QEntry) : (k.setQueue q l).held = k.held := by unfold Core.setQueue; split <;> rfl
@[simp] theorem Core.setQueue_sem (k : Core) (q : Nat) (l : List QEntry) : (k.setQueue q l).sem = k.sem := by unfold Core.setQueue; split <;> rfl
@[simp] theorem Core.setQueue_semPtr (k : Core) (q : Nat) (l : List QEntry) : (k.setQueue q l).semPtr = k.semPtr := by unfold Core.setQueue; split <;> rfl
@[simp] theorem Core.setQueue_resetCycle (k : Core) (q : Nat) (l : List QEntry) : (k.setQueue q l).resetCycle = k.resetCycle := by unfold Core.setQueue; split <;> rfl
@[simp] theorem Core.setQueue_siphonPtr (k : Core) (q : Nat) (l : List QEntry) : (k.setQueue q l).siphonPtr = k.siphonPtr := by unfold Core.setQueue; split <;> rfl
@[simp] theorem Core.setQueue_siphonBusy (k : Core) (q : Nat) (l : List QEntry) : (k.setQueue q l).siphonBusy = k.siphonBusy := by unfold Core.setQueue; split <;> rfl
@[simp] theorem Core.setQueue_vreg (k : Core) (q : Nat) (l : List QEntry) : (k.setQueue q l).vreg = k.vreg := by unfold Core.setQueue; split <;> rfl
@[simp] theorem Core.setQueue_vregBad (k : Core) (q : Nat) (l : List QEntry) : (k.setQueue q l).vregBad = k.vregBad := by unfold Core.setQueue; split <;> rfl
@[simp] theorem Core.setQueue_mask (k : Core) (q : Nat) (l : List QEntry) : (k.setQueue q l).mask = k.mask := by unfold Core.setQueue; split <;> rfl
@[simp] theorem Core.setQueue_vl (k : Core) (q : Nat) (l : List QEntry) : (k.setQueue q l).vl = k.vl := by unfold Core.setQueue; split <;> rfl
@[simp] theorem Core.setQueue_carry (k : Core) (q : Nat) (l : List QEntry) : (k.setQueue q l).carry = k.carry := by unfold Core.setQueue; split <;> rfl
@[simp] theorem Core.setQueue_table (k : Core) (q : Nat) (l : List QEntry) : (k.setQueue q l).table = k.table := by unfold Core.setQueue; split <;> rfl
@[simp] theorem Core.setQueue_sram (k : Core) (q : Nat) (l : List QEntry) : (k.setQueue q l).sram = k.sram := by unfold Core.setQueue; split <;> rfl
@[simp] theorem Core.setQueue_sramBad (k : Core) (q : Nat) (l : List QEntry) : (k.setQueue q l).sramBad = k.sramBad := by unfold Core.setQueue; split <;> rfl
@[simp] theorem Core.setQueue_sramCe (k : Core) (q : Nat) (l : List QEntry) : (k.setQueue q l).sramCe = k.sramCe := by unfold Core.setQueue; split <;> rfl
@[simp] theorem Core.setQueue_slots (k : Core) (q : Nat) (l : List QEntry) : (k.setQueue q l).slots = k.slots := by unfold Core.setQueue; split <;> rfl
@[simp] theorem Core.setQueue_toIssue (k : Core) (q : Nat) (l : List QEntry) : (k.setQueue q l).toIssue = k.toIssue := by unfold Core.setQueue; split <;> rfl
@[simp] theorem Core.setQueue_slotPtr (k : Core) (q : Nat) (l : List QEntry) : (k.setQueue q l).slotPtr = k.slotPtr := by unfold Core.setQueue; split <;> rfl
@[simp] theorem Core.setQueue_tlb (k : Core) (q : Nat) (l : List QEntry) : (k.setQueue q l).tlb = k.tlb := by unfold Core.setQueue; split <;> rfl
@[simp] theorem Core.setQueue_stallLatch (k : Core) (q : Nat) (l : List QEntry) : (k.setQueue q l).stallLatch = k.stallLatch := by unfold Core.setQueue; split <;> rfl
@[simp] theorem Core.grant_sreg (k : Core) (n v r : Nat) : (k.grant n v r).sreg = k.sreg := rfl
@[simp] theorem Core.grant_live (k : Core) (n v r : Nat) : (k.grant n v r).live = k.live := rfl
@[simp] theorem Core.grant_staged (k : Core) (n v r : Nat) : (k.grant n v r).staged = k.staged := rfl
@[simp] theorem Core.grant_dirty (k : Core) (n v r : Nat) : (k.grant n v r).dirty = k.dirty := rfl
@[simp] theorem Core.grant_scratch (k : Core) (n v r : Nat) : (k.grant n v r).scratch = k.scratch := rfl
@[simp] theorem Core.grant_scratchBad (k : Core) (n v r : Nat) : (k.grant n v r).scratchBad = k.scratchBad := rfl
@[simp] theorem Core.grant_imemBad (k : Core) (n v r : Nat) : (k.grant n v r).imemBad = k.imemBad := rfl
@[simp] theorem Core.grant_pc (k : Core) (n v r : Nat) : (k.grant n v r).pc = k.pc := rfl
@[simp] theorem Core.grant_tc (k : Core) (n v r : Nat) : (k.grant n v r).tc = k.tc := rfl
@[simp] theorem Core.grant_gate (k : Core) (n v r : Nat) : (k.grant n v r).gate = k.gate := rfl
@[simp] theorem Core.grant_run (k : Core) (n v r : Nat) : (k.grant n v r).run = k.run := rfl
@[simp] theorem Core.grant_bank (k : Core) (n v r : Nat) : (k.grant n v r).bank = k.bank := rfl
@[simp] theorem Core.grant_faulted (k : Core) (n v r : Nat) : (k.grant n v r).faulted = k.faulted := rfl
@[simp] theorem Core.grant_switchPending (k : Core) (n v r : Nat) : (k.grant n v r).switchPending = k.switchPending := rfl
@[simp] theorem Core.grant_semWait (k : Core) (n v r : Nat) : (k.grant n v r).semWait = k.semWait := rfl
@[simp] theorem Core.grant_imem (k : Core) (n v r : Nat) : (k.grant n v r).imem = k.imem := rfl
@[simp] theorem Core.grant_held (k : Core) (n v r : Nat) : (k.grant n v r).held = k.held := rfl
@[simp] theorem Core.grant_resetCycle (k : Core) (n v r : Nat) : (k.grant n v r).resetCycle = k.resetCycle := rfl
@[simp] theorem Core.grant_mxq (k : Core) (n v r : Nat) : (k.grant n v r).mxq = k.mxq := rfl
@[simp] theorem Core.grant_spq (k : Core) (n v r : Nat) : (k.grant n v r).spq = k.spq := rfl
@[simp] theorem Core.grant_vxq (k : Core) (n v r : Nat) : (k.grant n v r).vxq = k.vxq := rfl
@[simp] theorem Core.grant_cpq0 (k : Core) (n v r : Nat) : (k.grant n v r).cpq0 = k.cpq0 := rfl
@[simp] theorem Core.grant_cpq1 (k : Core) (n v r : Nat) : (k.grant n v r).cpq1 = k.cpq1 := rfl
@[simp] theorem Core.grant_syq (k : Core) (n v r : Nat) : (k.grant n v r).syq = k.syq := rfl
@[simp] theorem Core.grant_siphonPtr (k : Core) (n v r : Nat) : (k.grant n v r).siphonPtr = k.siphonPtr := rfl
@[simp] theorem Core.grant_siphonBusy (k : Core) (n v r : Nat) : (k.grant n v r).siphonBusy = k.siphonBusy := rfl
@[simp] theorem Core.grant_vreg (k : Core) (n v r : Nat) : (k.grant n v r).vreg = k.vreg := rfl
@[simp] theorem Core.grant_vregBad (k : Core) (n v r : Nat) : (k.grant n v r).vregBad = k.vregBad := rfl
@[simp] theorem Core.grant_mask (k : Core) (n v r : Nat) : (k.grant n v r).mask = k.mask := rfl
@[simp] theorem Core.grant_vl (k : Core) (n v r : Nat) : (k.grant n v r).vl = k.vl := rfl
@[simp] theorem Core.grant_carry (k : Core) (n v r : Nat) : (k.grant n v r).carry = k.carry := rfl
@[simp] theorem Core.grant_table (k : Core) (n v r : Nat) : (k.grant n v r).table = k.table := rfl
@[simp] theorem Core.grant_sram (k : Core) (n v r : Nat) : (k.grant n v r).sram = k.sram := rfl
@[simp] theorem Core.grant_sramBad (k : Core) (n v r : Nat) : (k.grant n v r).sramBad = k.sramBad := rfl
@[simp] theorem Core.grant_sramCe (k : Core) (n v r : Nat) : (k.grant n v r).sramCe = k.sramCe := rfl
@[simp] theorem Core.grant_slots (k : Core) (n v r : Nat) : (k.grant n v r).slots = k.slots := rfl
@[simp] theorem Core.grant_toIssue (k : Core) (n v r : Nat) : (k.grant n v r).toIssue = k.toIssue := rfl
@[simp] theorem Core.grant_slotPtr (k : Core) (n v r : Nat) : (k.grant n v r).slotPtr = k.slotPtr := rfl
@[simp] theorem Core.grant_tlb (k : Core) (n v r : Nat) : (k.grant n v r).tlb = k.tlb := rfl
@[simp] theorem Core.grant_stallLatch (k : Core) (n v r : Nat) : (k.grant n v r).stallLatch = k.stallLatch := rfl

/-! What `State.onDev` answers. -/

@[simp] theorem State.onDev_eq (s : State) (f : Device → Device) : s.onDev f = .next { s with dev := f s.dev } := rfl

/-- A command that acts on the device alone leaves the queue of waiting commands. -/
theorem State.onDev_pending {s t : State} {f : Device → Device} (h : s.onDev f = .next t) : t.pending = s.pending := by
  simp only [State.onDev_eq, Host.Outcome.next.injEq] at h; subst h; rfl

/-! Reading a register, a field, a core or a cluster back. -/

theorem Device.reg_setReg (d : Device) (h : Cells.rising 0 d.regs = true) (k : Nat) (v : Word) (j : Nat) :
    (d.setReg k v).reg j = if j = k then v else d.reg j := by
  unfold Device.reg Device.setReg
  by_cases hj : j = k
  · subst hj; simp [Cells.get_set_same h]
  · rw [if_neg hj]; simp only []; unfold Cells.set; split
    · rw [Cells.get_erase h, if_neg hj]
    · rw [Cells.get_put, if_neg hj]

theorem Device.core_setCore (d : Device) (c j : Nat) (k : Core) (h : c < d.cores.length) :
    (d.setCore c k).core j = if j = c then k else d.core j := by
  unfold Device.core Device.setCore
  by_cases hj : j = c
  · subst hj; simp [List.getD_eq_getElem?_getD, h]
  · simp [List.getD_eq_getElem?_getD, List.getElem?_set_ne (Ne.symm hj), hj]

theorem Device.core_modCore (d : Device) (c j : Nat) (f : Core → Core) (h : c < d.cores.length) :
    (d.modCore c f).core j = if j = c then f (d.core c) else d.core j := Device.core_setCore d c j _ h

/-- A change of another core does not show in this one. -/
theorem Device.core_modCore_ne (d : Device) {c j : Nat} (f : Core → Core) (h : j ≠ c) : (d.modCore c f).core j = d.core j := by
  unfold Device.core Device.modCore Device.setCore
  simp [List.getD_eq_getElem?_getD, List.getElem?_set_ne (Ne.symm h)]

theorem Device.cluster_setCluster (d : Device) (g j : Nat) (k : Cluster) (h : g < d.clusters.length) :
    (d.setCluster g k).cluster j = if j = g then k else d.cluster j := by
  unfold Device.cluster Device.setCluster
  by_cases hj : j = g
  · subst hj; simp [List.getD_eq_getElem?_getD, h]
  · simp [List.getD_eq_getElem?_getD, List.getElem?_set_ne (Ne.symm hj), hj]

end Machine
end Sys2Proof
end

