-- ==== Sys2Proof/Laws/Sound.lean ====
section
/-!
SUPPORT. Soundness (Device.Sound): what it says part by part, and that the named operations over registers, cores, clusters and memories keep it.
-/
namespace Sys2Proof
namespace Machine

/-! ## The parts of soundness -/

theorem Device.Sound.wfMem {d : Device} (h : d.Sound) : Memory.wf d.mem = true := h.1
theorem Device.Sound.wfHost {d : Device} (h : d.Sound) : Memory.wf d.hostMem = true := h.2.1
theorem Device.Sound.wfRegs {d : Device} (h : d.Sound) : Cells.wf Reg.reset d.regs = true := h.2.2.1
theorem Device.Sound.cores {d : Device} (h : d.Sound) : d.cores.length = 128 := h.2.2.2.1
theorem Device.Sound.clusters {d : Device} (h : d.Sound) : d.clusters.length = 16 := h.2.2.2.2.1
theorem Device.Sound.ofMem {d : Device} (h : d.Sound) : ∀ k ∈ d.cores, k.Sound := h.2.2.2.2.2

/-- A device that agrees with a sound one in what soundness speaks of is sound. -/
theorem Device.Sound.of_same {d e : Device} (h1 : d.mem = e.mem) (h2 : d.hostMem = e.hostMem) (h3 : d.regs = e.regs) (h4 : d.cores = e.cores)
    (h5 : d.clusters = e.clusters) (h : e.Sound) : d.Sound := by
  unfold Device.Sound; rw [h1, h2, h3, h4, h5]; exact h

/-- A change of the fields that soundness does not speak of. -/
theorem Device.Sound.upd {e : Device}
    {now : Nat} {cycles : Nat} {poison : Cells Bool} {symErr : Cells Nat} {granules : Cells Nat} {partMask : Cells (BitVec 16)}
    {increments : List Increment} {barriers : Cells Barrier} {watches : List Watch} {seen : List Seen} {heldPages : List HeldPage}
    {dirty : Cells Bool} {red : RedState} {aq : AqState} {upd : UpdState} {svc : SvcState} {tim : TimState} {strokes : Cells Stroke}
    {fault : FaultState} {evt : EvtState} {zn : ZnState} {sec : SecState} {pwr : PwrState} {boot : BootState} {free : Nat}
    (h : e.Sound) :
    (Device.mk now cycles e.regs e.cores e.mem poison symErr granules e.clusters partMask increments barriers e.hostMem watches seen
      heldPages dirty red aq upd svc tim strokes fault evt zn sec pwr boot free).Sound := h

/-- A change of the memory that keeps its canonical form, and of fields that soundness does not speak of. -/
theorem Device.Sound.updMem {e : Device}
    {now : Nat} {cycles : Nat} {mem : Cells Byte} {poison : Cells Bool} {symErr : Cells Nat} {granules : Cells Nat}
    {partMask : Cells (BitVec 16)} {increments : List Increment} {barriers : Cells Barrier} {watches : List Watch} {seen : List Seen}
    {heldPages : List HeldPage} {dirty : Cells Bool} {red : RedState} {aq : AqState} {upd : UpdState} {svc : SvcState} {tim : TimState}
    {strokes : Cells Stroke} {fault : FaultState} {evt : EvtState} {zn : ZnState} {sec : SecState} {pwr : PwrState} {boot : BootState}
    {free : Nat}
    (h : e.Sound) (hm : Memory.wf mem = true) :
    (Device.mk now cycles e.regs e.cores mem poison symErr granules e.clusters partMask increments barriers e.hostMem watches seen heldPages
      dirty red aq upd svc tim strokes fault evt zn sec pwr boot free).Sound := 
  ⟨hm, h.wfHost, h.wfRegs, h.cores, h.clusters, h.ofMem⟩

/-- A change of the register file that keeps its canonical form, and of fields that soundness does not speak of. -/
theorem Device.Sound.updRegs {e : Device}
    {now : Nat} {cycles : Nat} {regs : Cells Word} {poison : Cells Bool} {symErr : Cells Nat} {granules : Cells Nat}
    {partMask : Cells (BitVec 16)} {increments : List Increment} {barriers : Cells Barrier} {watches : List Watch} {seen : List Seen}
    {heldPages : List HeldPage} {dirty : Cells Bool} {red : RedState} {aq : AqState} {upd : UpdState} {svc : SvcState} {tim : TimState}
    {strokes : Cells Stroke} {fault : FaultState} {evt : EvtState} {zn : ZnState} {sec : SecState} {pwr : PwrState} {boot : BootState}
    {free : Nat}
    (h : e.Sound) (hm : Cells.wf Reg.reset regs = true) :
    (Device.mk now cycles regs e.cores e.mem poison symErr granules e.clusters partMask increments barriers e.hostMem watches seen heldPages
      dirty red aq upd svc tim strokes fault evt zn sec pwr boot free).Sound := 
  ⟨h.wfMem, h.wfHost, hm, h.cores, h.clusters, h.ofMem⟩

theorem Device.Sound.mk {d : Device} (h1 : Memory.wf d.mem = true) (h2 : Memory.wf d.hostMem = true) (h3 : Cells.wf Reg.reset d.regs = true)
    (h4 : d.cores.length = 128) (h5 : d.clusters.length = 16) (h6 : ∀ k ∈ d.cores, k.Sound) : d.Sound := ⟨h1, h2, h3, h4, h5, h6⟩

theorem Core.reset_sound : Core.reset.Sound := by unfold Core.Sound; decide

theorem Core.reset_sound' (n : Nat) : ({ Core.reset with resetCycle := n } : Core).Sound := Core.reset_sound

theorem Device.default_sound : ({} : Device).Sound := by
  refine ⟨rfl, rfl, rfl, rfl, rfl, fun k hk => ?_⟩
  rw [List.eq_of_mem_replicate (show k ∈ List.replicate 128 Core.reset from hk)]; exact Core.reset_sound

/-- The device after reset is sound: its memory lists nothing. -/
theorem State.reset_memory : Memory.wf State.reset.dev.mem = true := rfl

theorem Device.core_sound {d : Device} (h : d.Sound) (c : Nat) : (d.core c).Sound := by
  unfold Device.core
  rw [List.getD_eq_getElem?_getD]
  rcases hc : d.cores[c]? with _ | k
  · exact Core.reset_sound
  · exact h.ofMem k (List.mem_of_getElem? hc)

/-! ## Branches and folds -/

theorem Device.ite_sound {c : Prop} [Decidable c] {a b : Device} (ha : a.Sound) (hb : b.Sound) : (if c then a else b).Sound := by
  split
  · exact ha
  · exact hb

theorem Device.foldl_sound {α : Type} {g : Device → α → Device} (hg : ∀ d x, d.Sound → (g d x).Sound) :
    ∀ (l : List α) {d : Device}, d.Sound → (l.foldl g d).Sound
  | [], _, h => h
  | x :: l, _, h => Device.foldl_sound hg l (hg _ x h)

theorem Core.ite_sound {c : Prop} [Decidable c] {a b : Core} (ha : a.Sound) (hb : b.Sound) : (if c then a else b).Sound := by
  split
  · exact ha
  · exact hb

theorem Core.foldl_sound {α : Type} {g : Core → α → Core} (hg : ∀ k x, k.Sound → (g k x).Sound) :
    ∀ (l : List α) {k : Core}, k.Sound → (l.foldl g k).Sound
  | [], _, h => h
  | x :: l, _, h => Core.foldl_sound hg l (hg _ x h)

/-- The first of a pair folded along with something else. -/
theorem Device.foldl_fst_sound {α β : Type} {g : Device × β → α → Device × β} (hg : ∀ d b x, d.Sound → (g (d, b) x).1.Sound) :
    ∀ (l : List α) {r : Device × β}, r.1.Sound → (l.foldl g r).1.Sound
  | [], _, h => h
  | x :: l, r, h => Device.foldl_fst_sound hg l (hg r.1 r.2 x h)

theorem Device.ite_fst_sound {α : Type} {c : Prop} [Decidable c] {a b : Device × α} (ha : a.1.Sound) (hb : b.1.Sound) : (if c then a else b).1.Sound := by
  split
  · exact ha
  · exact hb

theorem CopyRun.ite_sound {c : Prop} [Decidable c] {a b : CopyRun} (ha : a.d.Sound) (hb : b.d.Sound) : (if c then a else b).d.Sound := by
  split
  · exact ha
  · exact hb

theorem CopyRun.ite_fst_sound {α : Type} {c : Prop} [Decidable c] {a b : CopyRun × α} (ha : a.1.d.Sound) (hb : b.1.d.Sound) :
    (if c then a else b).1.d.Sound := by
  split
  · exact ha
  · exact hb

theorem NdRun.ite_fst_sound {α : Type} {c : Prop} [Decidable c] {a b : NdRun × α} (ha : a.1.x.d.Sound) (hb : b.1.x.d.Sound) :
    (if c then a else b).1.x.d.Sound := by
  split
  · exact ha
  · exact hb

theorem CopyRun.foldl_sound {α : Type} {g : CopyRun → α → CopyRun} (hg : ∀ d x, d.d.Sound → (g d x).d.Sound) :
    ∀ (l : List α) {d : CopyRun}, d.d.Sound → (l.foldl g d).d.Sound
  | [], _, h => h
  | x :: l, _, h => CopyRun.foldl_sound hg l (hg _ x h)

theorem Device.pair_sound {α : Type} {d : Device} {x : α} (h : d.Sound) : (d, x).1.Sound := h

/-- The run of a pair that is known to be the answer of something sound. -/
theorem CopyRun.fst_eq {α : Type} {r : CopyRun × α} {d : CopyRun} {x : α} (e : r = (d, x)) (h : r.1.d.Sound) : d.d.Sound := by
  subst e; exact h

theorem NdRun.fst_eq {α : Type} {r : NdRun × α} {d : NdRun} {x : α} (e : r = (d, x)) (h : r.1.x.d.Sound) : d.x.d.Sound := by
  subst e; exact h

/-- The device of a pair that is known to be the answer of something sound. -/
theorem Device.fst_eq {α : Type} {r : Device × α} {d : Device} {x : α} (e : r = (d, x)) (h : r.1.Sound) : d.Sound := by
  subst e; exact h

/-- A command that acts on the device alone keeps soundness where what it does keeps it. -/
theorem State.onDev_sound {s t : State} {f : Device → Device} (hf : (f s.dev).Sound) (h : s.onDev f = .next t) : t.dev.Sound := by
  simp only [State.onDev_eq, Host.Outcome.next.injEq] at h; subst h; exact hf

/-! ## Registers -/

theorem Cells.wf_setReg {m : Cells Word} (h : Cells.wf Reg.reset m = true) (k : Nat) (v : Word) : Cells.wf Reg.reset (Cells.set (Reg.reset k) m k v) = true := by
  unfold Cells.set
  split
  · exact Cells.wf_erase h k
  · exact Cells.wf_put h ‹_›

theorem Cells.wf_foldRegs {α : Type} {g : Cells Word → α → Cells Word}
    (hg : ∀ m x, Cells.wf Reg.reset m = true → Cells.wf Reg.reset (g m x) = true) :
    ∀ (l : List α) {m : Cells Word}, Cells.wf Reg.reset m = true → Cells.wf Reg.reset (l.foldl g m) = true
  | [], _, h => h
  | x :: l, _, h => Cells.wf_foldRegs hg l (hg _ x h)

theorem Cells.wf_eraseAll {m : Cells Word} (h : Cells.wf Reg.reset m = true) (l : List Nat) :
    Cells.wf Reg.reset (l.foldl (fun m r => Cells.erase m r) m) = true := Cells.wf_foldRegs (fun _ _ h => Cells.wf_erase h _) l h

theorem Device.withRegs_sound {d : Device} (h : d.Sound) {m : Cells Word} (hm : Cells.wf Reg.reset m = true) : ({ d with regs := m } : Device).Sound :=
  ⟨h.wfMem, h.wfHost, hm, h.cores, h.clusters, h.ofMem⟩

theorem Device.setReg_sound {d : Device} (h : d.Sound) (k : Nat) (v : Word) : (d.setReg k v).Sound := Device.withRegs_sound h (Cells.wf_setReg h.wfRegs k v)
theorem Device.setFld_sound {d : Device} (h : d.Sound) (k hi lo v : Nat) : (d.setFld k hi lo v).Sound := Device.setReg_sound h _ _
theorem Device.setFlag_sound {d : Device} (h : d.Sound) (k i : Nat) (b : Bool) : (d.setFlag k i b).Sound := Device.setReg_sound h _ _
theorem Device.bump_sound {d : Device} (h : d.Sound) (k n : Nat) : (d.bump k n).Sound := Device.ite_sound h (Device.setReg_sound h _ _)
theorem Device.setReg64_sound {d : Device} (h : d.Sound) (k v : Nat) : (d.setReg64 k v).Sound := Device.setReg_sound (Device.setReg_sound h _ _) _ _
theorem Device.bump64_sound {d : Device} (h : d.Sound) (k n : Nat) : (d.bump64 k n).Sound := Device.ite_sound h (Device.setReg64_sound h _ _)
theorem Device.noteTag_sound {d : Device} (h : d.Sound) (k t : Nat) : (d.noteTag k t).Sound := Device.setReg_sound h _ _
theorem Device.bump16_sound {d : Device} (h : d.Sound) (k : Nat) (b : Bool) (n : Nat) : (d.bump16 k b n).Sound :=
  Device.ite_sound (Device.setFld_sound h _ _ _ _) (Device.setFld_sound h _ _ _ _)

/-! ## Cores and clusters -/

theorem Device.setCore_sound {d : Device} (h : d.Sound) (c : Nat) {k : Core} (hk : k.Sound) : (d.setCore c k).Sound := by
  refine ⟨h.wfMem, h.wfHost, h.wfRegs, ?_, h.clusters, fun x hx => ?_⟩
  · exact (List.length_set ..).trans h.cores
  · rcases List.mem_or_eq_of_mem_set hx with hx | rfl
    · exact h.ofMem x hx
    · exact hk

theorem Device.modCore_sound {d : Device} (h : d.Sound) (c : Nat) {f : Core → Core} (hf : ∀ k, k.Sound → (f k).Sound) : (d.modCore c f).Sound :=
  Device.setCore_sound h c (hf _ (Device.core_sound h c))

theorem Device.setCluster_sound {d : Device} (h : d.Sound) (g : Nat) (k : Cluster) : (d.setCluster g k).Sound :=
  ⟨h.wfMem, h.wfHost, h.wfRegs, h.cores, (List.length_set ..).trans h.clusters, h.ofMem⟩

theorem Device.mapCores_sound {d : Device} (h : d.Sound) {f : Core → Core} (hf : ∀ k, k.Sound → (f k).Sound) :
    ({ d with cores := d.cores.map f } : Device).Sound := by
  refine ⟨h.wfMem, h.wfHost, h.wfRegs, (List.length_map ..).trans h.cores, h.clusters, fun x hx => ?_⟩
  obtain ⟨k, hk, rfl⟩ := List.mem_map.1 hx
  exact hf k (h.ofMem k hk)

/-! ## The stores of a core -/

/-- A change of the fields that soundness does not speak of. -/
theorem Core.Sound.upd {e : Core}
    {dirty : DWord} {scratchBad : List Nat} {imemBad : List Nat} {pc : Nat} {tc : Nat} {gate : Option Gate} {run : RunState} {bank : Nat}
    {faulted : Bool} {switchPending : Bool} {semWait : Option Nat} {held : List HeldWrite} {semPtr : Cells Nat} {resetCycle : Nat}
    {mxq : List QEntry} {spq : List QEntry} {vxq : List QEntry} {cpq0 : List QEntry} {cpq1 : List QEntry} {syq : List QEntry}
    {siphonPtr : Nat} {siphonBusy : Option Nat} {vregBad : List (Nat × Nat)} {vl : Nat} {table : Cells (List Word)} {sramBad : List Nat}
    {sramCe : List Nat} {slots : List Slot} {toIssue : List Slot} {slotPtr : Nat} {tlb : List TlbEntry} {stallLatch : Cells Word}
    (h : e.Sound) :
    (Core.mk e.sreg e.live e.staged dirty e.scratch scratchBad imemBad pc tc gate run bank faulted switchPending semWait e.imem held e.sem
      semPtr resetCycle mxq spq vxq cpq0 cpq1 syq siphonPtr siphonBusy e.vreg vregBad e.mask vl e.carry table e.sram sramBad sramCe slots
      toIssue slotPtr tlb stallLatch).Sound := h

theorem Core.setQueue_sound {k : Core} (h : k.Sound) (q : Nat) (l : List QEntry) : (k.setQueue q l).Sound := by
  unfold Core.setQueue; split <;> exact h

theorem Core.setSem_sound {k : Core} (h : k.Sound) (n v : Nat) : (k.setSem n v).Sound :=
  ⟨h.1, h.2.1, h.2.2.1, h.2.2.2.1, h.2.2.2.2.1, Cells.wf_set h.2.2.2.2.2.1 n v, h.2.2.2.2.2.2⟩

theorem Core.clearSem_sound {k : Core} (h : k.Sound) : ({ k with sem := [] } : Core).Sound :=
  ⟨h.1, h.2.1, h.2.2.1, h.2.2.2.1, h.2.2.2.2.1, rfl, h.2.2.2.2.2.2⟩

theorem Core.withSram_sound {k : Core} (h : k.Sound) {m : Cells Byte} (hm : Memory.wf m = true) (b c : List Nat) :
    ({ k with sram := m, sramBad := b, sramCe := c } : Core).Sound :=
  ⟨h.1, h.2.1, h.2.2.1, h.2.2.2.1, h.2.2.2.2.1, h.2.2.2.2.2.1, hm, h.2.2.2.2.2.2.2⟩

theorem Core.withImem_sound {k : Core} (h : k.Sound) {m : Cells Word} (hm : Cells.wf (fun _ => 0#32) m = true) (b : List Nat) :
    ({ k with imem := m, imemBad := b } : Core).Sound :=
  ⟨h.1, h.2.1, h.2.2.1, h.2.2.2.1, hm, h.2.2.2.2.2⟩

theorem Core.grant_sound {k : Core} (h : k.Sound) (n v r : Nat) : (k.grant n v r).Sound := Core.setSem_sound h _ _

theorem Core.sramWrite_sound {k : Core} (h : k.Sound) (o : Nat) (bs : List Byte) : (k.sramWrite o bs).Sound :=
  Core.withSram_sound h (Cells.wf_setRange h.2.2.2.2.2.2.1 o bs) _ _

theorem Core.setS_sound {k : Core} (h : k.Sound) (i : Nat) (v : DWord) : (k.setS i v).Sound := by
  unfold Core.setS
  exact Core.ite_sound h ⟨Cells.wf_set h.1 i v, h.2⟩

theorem Core.setLive_sound {k : Core} (h : k.Sound) (n : Nat) (v : DWord) : ({ k with live := Cells.set 0#64 k.live n v } : Core).Sound :=
  ⟨h.1, Cells.wf_set h.2.1 n v, h.2.2⟩

theorem Core.stage_sound {k : Core} (h : k.Sound) (n : Nat) (v : DWord) : (k.stage n v).Sound :=
  ⟨h.1, h.2.1, Cells.wf_set h.2.2.1 n v, h.2.2.2⟩

theorem Core.copyDirty_sound {k : Core} (h : k.Sound) : ∀ n : Nat, (k.copyDirty n).Sound
  | 0 => h
  | n + 1 => Core.ite_sound (Core.setLive_sound (Core.copyDirty_sound h n) _ _) (Core.copyDirty_sound h n)

theorem Core.next_sound {k : Core} (h : k.Sound) : k.next.Sound := h

theorem Core.scratchWrite_sound {k : Core} (h : k.Sound) (a : Nat) (bs : List Byte) : (k.scratchWrite a bs).Sound :=
  ⟨h.1, h.2.1, h.2.2.1, Cells.wf_setRange h.2.2.2.1 a bs, h.2.2.2.2⟩

theorem Core.writeImem_sound {k : Core} (h : k.Sound) (b i : Nat) (ws : List Word) : (k.writeImem b i ws).Sound :=
  Core.withImem_sound h (Cells.wf_setRange h.2.2.2.2.1 _ ws) _

theorem Core.withdraw_sound {k : Core} (h : k.Sound) (e : Nat) : (k.withdraw e).Sound := h

theorem Core.sramMark_sound {k : Core} (h : k.Sound) (o : Nat) (bs : List (Byte × Bool)) : (k.sramMark o bs).Sound := by
  refine Core.foldl_sound (fun k _ hk => ?_) _ h
  simp only []
  split <;> exact hk

theorem Core.issueSlots_sound : ∀ (n : Nat) {k : Core}, k.Sound → (k.issueSlots n).Sound
  | 0, _, h => h
  | n + 1, k, h => by
    unfold Core.issueSlots
    split
    · exact h
    · split
      · exact h
      · exact Core.issueSlots_sound n h

theorem Core.setM_sound {k : Core} (h : k.Sound) (r : Nat) (v : BitVec 2048) : (k.setM r v).Sound :=
  ⟨h.1, h.2.1, h.2.2.1, h.2.2.2.1, h.2.2.2.2.1, h.2.2.2.2.2.1, h.2.2.2.2.2.2.1, h.2.2.2.2.2.2.2.1, h.2.2.2.2.2.2.2.2.1, h.2.2.2.2.2.2.2.2.2.1,
    h.2.2.2.2.2.2.2.2.2.2.1, Cells.wf_set h.2.2.2.2.2.2.2.2.2.2.2 r v⟩

theorem Core.id_sound {k : Core} (h : k.Sound) : (id k).Sound := h

theorem Core.clear_sound {k : Core} (h : k.Sound) (b c : List Nat) : ({ k with sram := [], sramBad := b, sramCe := c } : Core).Sound :=
  Core.withSram_sound h rfl b c

theorem Core.blank_sound {k : Core} (h : k.Sound) (b : List Nat) : ({ k with imem := [], imemBad := b } : Core).Sound :=
  Core.withImem_sound h rfl b

/-! ### Vector and carry registers -/

theorem lanesMerge_length (n : Nat) : ∀ (ws : List Word) (xs : List (Option Nat)), (lanesMerge n ws xs).length = ws.length
  | [], _ => rfl
  | w :: ws, xs => by
    unfold lanesMerge
    split
    · rfl
    · simp [lanesMerge_length n ws]

theorem zeroReg_length : zeroReg.length = 512 := List.length_replicate

/-- The listed value, or the default: what a get answers. -/
theorem Cells.get_cases {α : Type} (dflt : α) : ∀ (m : Cells α) (key : Nat), Cells.get dflt m key = dflt ∨ ∃ e ∈ m, e.2 = Cells.get dflt m key
  | [], _ => .inl rfl
  | (j, v) :: rest, key => by
    unfold Cells.get
    split
    · exact .inl rfl
    · split
      · exact .inr ⟨_, List.mem_cons_self, rfl⟩
      · rcases Cells.get_cases dflt rest key with h | ⟨e, he, h⟩
        · exact .inl h
        · exact .inr ⟨e, List.mem_cons_of_mem _ he, h⟩

theorem Cells.set_mem {α : Type} [DecidableEq α] {dflt : α} {m : Cells α} {key : Nat} {v : α} {e : Nat × α} (h : e ∈ Cells.set dflt m key v) :
    e = (key, v) ∨ e ∈ m := by
  unfold Cells.set at h
  split at h
  · exact .inr (Cells.erase_mem h)
  · exact Cells.put_mem h

theorem lanes_set {m : Cells (List Word)} (hm : ∀ e ∈ m, e.2.length = 512) (r : Nat) {ws : List Word} (hw : ws.length = 512) :
    ∀ e ∈ Cells.set zeroReg m r ws, e.2.length = 512 := fun _ he => by
  rcases Cells.set_mem he with rfl | he
  · exact hw
  · exact hm _ he

theorem lanes_get {m : Cells (List Word)} (hm : ∀ e ∈ m, e.2.length = 512) (r : Nat) : (Cells.get zeroReg m r).length = 512 := by
  rcases Cells.get_cases zeroReg m r with h | ⟨e, he, h⟩
  · rw [h]; exact zeroReg_length
  · rw [← h]; exact hm e he

theorem Core.withVreg_sound {k : Core} (h : k.Sound) (r : Nat) {ws : List Word} (hw : ws.length = 512) (b : List (Nat × Nat)) :
    ({ k with vreg := Cells.set zeroReg k.vreg r ws, vregBad := b } : Core).Sound :=
  ⟨h.1, h.2.1, h.2.2.1, h.2.2.2.1, h.2.2.2.2.1, h.2.2.2.2.2.1, h.2.2.2.2.2.2.1, Cells.wf_set h.2.2.2.2.2.2.2.1 r ws,
    lanes_set h.2.2.2.2.2.2.2.2.1 r hw, h.2.2.2.2.2.2.2.2.2⟩

theorem Core.withCarry_sound {k : Core} (h : k.Sound) (r : Nat) {ws : List Word} (hw : ws.length = 512) (b : List (Nat × Nat)) :
    ({ k with carry := Cells.set zeroReg k.carry r ws, vregBad := b } : Core).Sound :=
  ⟨h.1, h.2.1, h.2.2.1, h.2.2.2.1, h.2.2.2.2.1, h.2.2.2.2.2.1, h.2.2.2.2.2.2.1, h.2.2.2.2.2.2.2.1, h.2.2.2.2.2.2.2.2.1,
    Cells.wf_set h.2.2.2.2.2.2.2.2.2.1 r ws, lanes_set h.2.2.2.2.2.2.2.2.2.2.1 r hw, h.2.2.2.2.2.2.2.2.2.2.2⟩

theorem Core.v_length {k : Core} (h : k.Sound) (r : Nat) : (k.v r).length = 512 := lanes_get h.2.2.2.2.2.2.2.2.1 r
theorem Core.sc_length {k : Core} (h : k.Sound) (r : Nat) : (k.sc r).length = 512 := lanes_get h.2.2.2.2.2.2.2.2.2.2.1 r

theorem Core.putElems_sound {k : Core} (h : k.Sound) (r fmt : Nat) (xs : List (Option Nat)) : (k.putElems r fmt xs).Sound :=
  Core.withVreg_sound h r ((lanesMerge_length _ _ _).trans (Core.v_length h r)) _

theorem Core.putCarry_sound {k : Core} (h : k.Sound) (r fmt : Nat) (xs : List (Option Nat)) : (k.putCarry r fmt xs).Sound :=
  Core.withCarry_sound h r ((lanesMerge_length _ _ _).trans (Core.sc_length h r)) _

theorem Core.dbgLane_sound {k : Core} (h : k.Sound) (r i : Nat) (v : Word) : (k.dbgLane r i v).Sound := by
  have h' : ({ k with vregBad := k.vregBad.filter (fun b => b != (r, i)) } : Core).Sound := h
  unfold Core.dbgLane
  refine Core.ite_sound ?_ ?_
  · exact Core.withVreg_sound h' r ((List.length_set ..).trans (Core.v_length h' r)) _
  · exact Core.withCarry_sound h' _ ((List.length_set ..).trans (Core.sc_length h' _)) _

theorem Core.dbgSet_sound {k : Core} (h : k.Sound) (a v : Nat) : (k.dbgSet a v).Sound := by
  unfold Core.dbgSet
  refine Core.ite_sound (Core.setS_sound h _ _) (Core.ite_sound (Core.setLive_sound h _ _) (Core.ite_sound h (Core.ite_sound h
    (Core.ite_sound (Core.dbgLane_sound h _ _ _) (Core.ite_sound (Core.setM_sound h _ _) (Core.ite_sound h (Core.dbgLane_sound h _ _ _)))))))

theorem Core.tableSet_sound {k : Core} (h : k.Sound) (i o : Nat) (bs : List Byte) : (k.tableSet i o bs).Sound := h

theorem Core.dbgPrivSet_sound {k k' : Core} (h : k.Sound) {a : Nat} {bs : List Byte} (e : k.dbgPrivSet a bs = some k') : k'.Sound := by
  unfold Core.dbgPrivSet at e
  split at e
  · cases e; exact Core.scratchWrite_sound h _ _
  · split at e
    · simp only [] at e
      split at e
      · cases e
      · cases e; exact h
      · cases e; exact Core.writeImem_sound h _ _ _
    · cases e; exact Core.tableSet_sound h _ _ _

/-! ## Watched codewords -/

/-- Taking a seen write changes only the list of them. -/
theorem Device.takeSeen_sound {d e : Device} {unit : Nat} {s : Seen} (h : d.Sound) (he : d.takeSeen unit = some (s, e)) : e.Sound := by
  unfold Device.takeSeen at he
  obtain ⟨x, _, hx⟩ := Option.map_eq_some_iff.1 he
  cases hx
  exact h

/-! ## Memories -/

theorem Device.withMem_sound {d : Device} (h : d.Sound) {m : Cells Byte} (hm : Memory.wf m = true) : ({ d with mem := m } : Device).Sound :=
  ⟨hm, h.wfHost, h.wfRegs, h.cores, h.clusters, h.ofMem⟩

theorem Device.hostWrite_sound {d : Device} (h : d.Sound) (a : Nat) (bs : List Byte) : (d.hostWrite a bs).Sound :=
  Device.ite_sound h ⟨h.wfMem, Cells.wf_setRange h.wfHost a bs, h.wfRegs, h.cores, h.clusters, h.ofMem⟩

/-- Entries moved by a constant distance still rise. -/
theorem Cells.rising_shift {α : Type} {p q : Nat} : ∀ {m : Cells α} {lo : Nat}, Cells.rising lo m = true → p ≤ lo →
    Cells.rising (lo - p + q) (m.map (fun e => (e.1 - p + q, e.2))) = true
  | [], _, _, _ => rfl
  | (k, v) :: m, lo, h, hp => by
    simp only [Cells.rising, Bool.and_eq_true, decide_eq_true_eq] at h
    have ih := Cells.rising_shift (p := p) (q := q) h.2 (by omega)
    simp only [List.map_cons, Cells.rising, Bool.and_eq_true, decide_eq_true_eq]
    refine ⟨by omega, ?_⟩
    have e : k - p + q + 1 = k + 1 - p + q := by omega
    rw [e]; exact ih

/-- A memory with one range replaced by a copy of another keeps its canonical form. -/
theorem Cells.wf_move {α : Type} [DecidableEq α] {dflt : α} {m : Cells α} (h : Cells.wf (fun _ => dflt) m = true) (a b n : Nat) :
    Cells.wf (fun _ => dflt) (m.filter (fun e => decide (e.1 < b)) ++ (Cells.slice m a n).map (fun e => (e.1 - a + b, e.2))
      ++ m.filter (fun e => decide (b + n ≤ e.1))) = true := by
  rw [Cells.wf_iff] at h ⊢
  have hs : Cells.rising a (Cells.slice m a n) = true := Cells.rising_raise (Cells.rising_filter _ h.1) (fun e he => by
    have := (List.mem_filter.1 he).2; simp only [Bool.and_eq_true, decide_eq_true_eq] at this; exact this.1)
  have hb := Cells.rising_shift (p := a) (q := b) hs (Nat.le_refl _)
  constructor
  · rw [List.append_assoc]
    refine Cells.rising_append (mid := b) (Cells.rising_filter _ h.1) (fun e he => by simpa using (List.mem_filter.1 he).2) (Nat.zero_le _) ?_
    refine Cells.rising_append (mid := b + n) (by simpa using hb) (fun e he => ?_) (by omega) ?_
    · obtain ⟨x, hx, rfl⟩ := List.mem_map.1 he
      have := (List.mem_filter.1 hx).2
      simp only [Bool.and_eq_true, decide_eq_true_eq] at this
      show x.1 - a + b < b + n
      omega
    · exact Cells.rising_raise (Cells.rising_filter _ h.1) (fun e he => by simpa using (List.mem_filter.1 he).2)
  · intro e he
    simp only [List.mem_append] at he
    rcases he with (he | he) | he
    · exact h.2 e (List.mem_filter.1 he).1
    · obtain ⟨x, hx, rfl⟩ := List.mem_map.1 he
      exact h.2 x (List.mem_filter.1 hx).1
    · exact h.2 e (List.mem_filter.1 he).1

end Machine
end Sys2Proof
end

