-- ==== Sys2Proof/Laws/SoundOps.lean ====
section
/-!
SUPPORT. Soundness is kept by the operations of Machine/Ops.lean.
-/
namespace Sys2Proof
namespace Machine

theorem Device.useFree_sound {d : Device} :
    d.Sound → (Device.useFree d).Sound := by
  intro h0; unfold Device.useFree
  with_reducible
    apply Device.Sound.upd; assumption

theorem Device.fire_sound {d : Device} {n : Nat} :
    d.Sound → (Device.fire d n).Sound := by
  intro h0; unfold Device.fire
  with_reducible
    split; apply Device.setFld_sound; assumption; apply Device.setFld_sound; assumption; apply Device.bump_sound; assumption

theorem Device.evtComplete_sound {d : Device} {n : Nat} :
    d.Sound → (Device.evtComplete d n).Sound := by
  intro h0; unfold Device.evtComplete
  with_reducible
    split; apply Device.setFld_sound; assumption; apply Device.setFld_sound; assumption; apply Device.bump_sound; assumption

theorem Device.firePart_sound {d : Device} {p j : Nat} :
    d.Sound → (Device.firePart d p j).Sound := by
  intro h0; unfold Device.firePart
  with_reducible
    apply Device.fire_sound; assumption

theorem Device.raise_sound {d : Device} {r : FaultRec} :
    d.Sound → (Device.raise d r).Sound := by
  intro h0; unfold Device.raise
  with_reducible
    split; dsimp only; apply Device.Sound.upd; assumption; apply Device.ite_sound; apply Device.bump_sound; assumption; dsimp only
    apply Device.Sound.upd; assumption

theorem Device.raisePart_sound {d : Device} {p : Option Nat} {r : FaultRec} :
    d.Sound → (Device.raisePart d p r).Sound := by
  intro h0; unfold Device.raisePart
  with_reducible
    split; apply Device.raise_sound; assumption; apply Device.raise_sound; assumption

theorem Device.semAdd_sound {d : Device} {c n amount : Nat} {tag : Option Nat} {signaller port : Nat} :
    d.Sound → (Device.semAdd d c n amount tag signaller port).Sound := by
  intro h0; unfold Device.semAdd
  with_reducible
    apply Device.ite_sound; apply Device.modCore_sound; assumption; intro _; intro _; apply Core.setSem_sound; assumption
    apply Device.raise_sound; apply Device.modCore_sound; assumption; intro _; intro _; apply Core.setSem_sound; assumption

theorem Device.setPoison_sound {d : Device} {cw : Nat} {b : Bool} :
    d.Sound → (Device.setPoison d cw b).Sound := by
  intro h0; unfold Device.setPoison
  with_reducible
    apply Device.Sound.upd; assumption

theorem Device.coverPoison_sound {d : Device} {a e cw : Nat} {y0 : Nat} :
    d.Sound → (Device.coverPoison d a e cw y0).Sound := by
  fun_induction Device.coverPoison d a e cw y0 <;> intro h0
  with_reducible
    assumption; apply_assumption -exfalso -symm; apply Device.ite_sound; apply_assumption -exfalso -symm; assumption

theorem Device.askRetire_sound {d : Device} {key : Nat} :
    d.Sound → (Device.askRetire d key).Sound := by
  intro h0; unfold Device.askRetire
  with_reducible
    apply Device.ite_sound; assumption; dsimp only; apply Device.Sound.upd; assumption

theorem Device.memCe_sound {d : Device} {a symbols : Nat} :
    d.Sound → (Device.memCe d a symbols).Sound := by
  intro h0; unfold Device.memCe
  with_reducible
    apply Device.ite_sound; apply Device.ite_sound; apply Device.askRetire_sound; split; dsimp only; apply Device.Sound.upd
    apply Device.fire_sound; apply Device.Sound.upd; apply Device.bump16_sound; assumption; dsimp only; apply Device.Sound.upd
    apply Device.bump16_sound; assumption; split; dsimp only; apply Device.Sound.upd; apply Device.fire_sound; apply Device.Sound.upd
    apply Device.bump16_sound; assumption; dsimp only; apply Device.Sound.upd; apply Device.bump16_sound; assumption
    apply Device.ite_sound; apply Device.fire_sound; dsimp only; apply Device.Sound.upd; apply Device.bump16_sound; assumption
    dsimp only; apply Device.Sound.upd; apply Device.bump16_sound; assumption

theorem Device.memUe_sound {d : Device} {a : Nat} :
    d.Sound → (Device.memUe d a).Sound := by
  intro h0; unfold Device.memUe
  with_reducible
    apply Device.ite_sound; apply Device.askRetire_sound; apply Device.raisePart_sound; apply Device.fire_sound
    apply Device.bump16_sound; assumption; apply Device.raisePart_sound; apply Device.fire_sound; apply Device.bump16_sound; assumption

theorem Device.readCodewords_sound {d : Device} {cw : Nat} {y0 : Nat} :
    d.Sound → (Device.readCodewords d cw y0).1.Sound := by
  fun_induction Device.readCodewords d cw y0 <;> intro h0
  with_reducible
    assumption; apply_assumption -exfalso -symm; apply Device.memUe_sound; assumption; apply_assumption -exfalso -symm
    apply Device.ite_sound; assumption; apply Device.memCe_sound; apply_assumption -exfalso -symm

theorem Device.copyPage_sound {d : Device} {p q : Nat} :
    d.Sound → (Device.copyPage d p q).Sound := by
  intro h0
  unfold Device.copyPage
  have h1 := Device.readCodewords_sound (cw := p * 0x400) (y0 := 0x400) h0
  refine Device.ite_sound h0 ?_
  exact Device.Sound.updMem h1 (Cells.wf_move h1.wfMem _ _ _)

theorem Device.copyAhead_sound {d : Device} {page : Nat} {y0 : Nat} :
    d.Sound → (Device.copyAhead d page y0).Sound := by
  fun_induction Device.copyAhead d page y0 <;> intro h0
  with_reducible
    assumption; assumption; apply_assumption -exfalso -symm; apply Device.bump64_sound; apply Device.bump_sound
    apply Device.copyPage_sound; apply_assumption -exfalso -symm; apply_assumption -exfalso -symm

theorem Device.openPages_sound {d : Device} {page : Nat} {y0 : Nat} :
    d.Sound → (Device.openPages d page y0).Sound := by
  fun_induction Device.openPages d page y0 <;> intro h0
  with_reducible
    assumption; apply_assumption -exfalso -symm; apply Device.Sound.upd; apply Device.ite_sound; assumption
    apply Device.copyAhead_sound; assumption

theorem Device.notify_sound {d : Device} {cw n : Nat} :
    d.Sound → (Device.notify d cw n).Sound := by
  intro h0; unfold Device.notify
  with_reducible
    apply Device.ite_sound; assumption; apply Device.Sound.upd; assumption

theorem Device.memWrite_sound {d : Device} {a : Nat} {bs : List Byte} :
    d.Sound → (Device.memWrite d a bs).1.Sound := by
  intro h0
  unfold Device.memWrite
  split
  · exact h0
  · have h1 := Device.openPages_sound (page := a / 0x10000) (y0 := (a + bs.length - 1) / 0x10000 - a / 0x10000 + 1) h0
    exact Device.notify_sound (Device.coverPoison_sound (Device.withMem_sound h1 (Cells.wf_setRange h1.wfMem a bs)))

theorem Device.dramRead_sound {d : Device} {a n : Nat} :
    d.Sound → (Device.dramRead d a n).1.Sound := by
  intro h0; unfold Device.dramRead
  with_reducible
    apply Device.readCodewords_sound; assumption

theorem Device.noteBadWord_sound {d : Device} {c w : Nat} :
    d.Sound → (Device.noteBadWord d c w).Sound := by
  intro h0; unfold Device.noteBadWord
  with_reducible
    apply Device.ite_sound; dsimp only; apply Device.Sound.upd; assumption; dsimp only; apply Device.Sound.upd; assumption

theorem Device.sramRead_sound {d : Device} {c off n : Nat} :
    d.Sound → (Device.sramRead d c off n).1.Sound := by
  intro h0; unfold Device.sramRead
  with_reducible
    apply Device.ite_sound; apply Device.ite_sound; assumption; apply Device.bump16_sound; apply Device.modCore_sound; assumption
    intro _; intro _; apply Core.Sound.upd; assumption; apply Device.foldl_sound; intro _; intro _; intro _
    apply Device.noteBadWord_sound; assumption; apply Device.bump16_sound; apply Device.ite_sound; assumption; apply Device.bump16_sound
    apply Device.modCore_sound; assumption; intro _; intro _; apply Core.Sound.upd; assumption

theorem Device.sramStore_sound {d : Device} {c off : Nat} {bs : List Byte} :
    d.Sound → (Device.sramStore d c off bs).1.Sound := by
  intro h0; unfold Device.sramStore
  with_reducible
    apply Device.modCore_sound; assumption; intro _; intro _; apply Core.sramWrite_sound; assumption

theorem Device.exitIdle_sound {d : Device} :
    d.Sound → (Device.exitIdle d).Sound := by
  intro h0; unfold Device.exitIdle
  with_reducible
    apply Device.ite_sound; apply Device.setFld_sound; assumption; assumption

end Machine
end Sys2Proof
end

