-- ==== Sys2Proof/Laws/SoundMemory.lean ====
section
/-!
SUPPORT. Soundness is kept by the operations of Machine/Memory.lean.
-/
namespace Sys2Proof
namespace Machine

theorem Device.walkFrom_sound {d : Device} {p va table level : Nat} {y0 : Nat} :
    d.Sound → (Device.walkFrom d p va table level y0).1.Sound := by
  fun_induction Device.walkFrom d p va table level y0 <;> intro h0
  with_reducible
    assumption; apply Device.dramRead_sound; assumption; apply Device.dramRead_sound; assumption; apply_assumption -exfalso -symm
    apply Device.dramRead_sound; assumption

theorem Device.walk_sound {d : Device} {p va : Nat} :
    d.Sound → (Device.walk d p va).1.Sound := by
  intro h0; unfold Device.walk
  with_reducible
    apply Device.ite_fst_sound; apply Device.walkFrom_sound; assumption; assumption

theorem Device.translate_sound {d : Device} {p : Nat} {acc : Access} {va : Nat} :
    d.Sound → (Device.translate d p acc va).1.Sound := by
  intro h0; unfold Device.translate
  with_reducible
    split; refine Device.fst_eq ‹_ = (_, _)› ?_; apply Device.walk_sound; assumption; refine Device.fst_eq ‹_ = (_, _)› ?_
    apply Device.walk_sound; assumption

theorem Device.coreXlate_sound {d : Device} {c p : Nat} {acc : Access} {va : Nat} :
    d.Sound → (Device.coreXlate d c p acc va).1.Sound := by
  intro h0; unfold Device.coreXlate
  with_reducible
    split; apply Device.ite_fst_sound; apply Device.useFree_sound; assumption; apply Device.translate_sound; apply Device.useFree_sound
    assumption; dsimp only; split; apply Device.useFree_sound; apply Device.modCore_sound; apply Device.bump_sound; assumption; intro _
    intro _; apply Core.Sound.upd; assumption; split; refine Device.fst_eq ‹_ = (_, _)› ?_; apply Device.walk_sound
    apply Device.bump_sound; apply Device.bump_sound; assumption; apply Device.useFree_sound; apply Device.setCluster_sound
    apply Device.modCore_sound; refine Device.fst_eq ‹_ = (_, _)› ?_; apply Device.walk_sound; apply Device.bump_sound
    apply Device.bump_sound; assumption; intro _; intro _; apply Core.Sound.upd; assumption

theorem Device.writeBackHalf_sound {d : Device} {l : CacheLine} {h : Nat} :
    d.Sound → (Device.writeBackHalf d l h).Sound := by
  intro h0; unfold Device.writeBackHalf
  with_reducible
    apply Device.ite_sound; assumption; apply Device.ite_sound; apply Device.setPoison_sound; split; apply Device.Sound.upd
    apply Device.memWrite_sound; assumption; apply Device.Sound.upd; apply Device.memWrite_sound; assumption; split
    apply Device.Sound.upd; apply Device.memWrite_sound; assumption; apply Device.Sound.upd; apply Device.memWrite_sound; assumption

theorem Device.writeBack_sound {d : Device} {g : Nat} {l : CacheLine} :
    d.Sound → (Device.writeBack d g l).Sound := by
  intro h0; unfold Device.writeBack
  with_reducible
    apply Device.ite_sound; assumption; apply Device.bump64_sound; apply Device.writeBackHalf_sound; apply Device.writeBackHalf_sound
    assumption

theorem Device.makeRoom_sound {d : Device} {g line : Nat} :
    d.Sound → (Device.makeRoom d g line).Sound := by
  intro h0; unfold Device.makeRoom
  with_reducible
    apply Device.ite_sound; assumption; split; assumption; apply Device.setCluster_sound; apply Device.writeBack_sound; assumption

theorem Device.allocLine_sound {d : Device} {g line : Nat} :
    d.Sound → (Device.allocLine d g line).1.Sound := by
  intro h0; unfold Device.allocLine
  with_reducible
    split; assumption; apply Device.setCluster_sound; apply Device.makeRoom_sound; assumption

theorem Device.fillLine_sound {d : Device} {g : Nat} {l : CacheLine} :
    d.Sound → (Device.fillLine d g l).1.Sound := by
  intro h0; unfold Device.fillLine
  with_reducible
    apply Device.bump64_sound; apply Device.dramRead_sound; assumption

theorem Device.cacheRead_sound {d : Device} {g pa n : Nat} {more : Bool} :
    d.Sound → (Device.cacheRead d g pa n more).1.Sound := by
  intro h0; unfold Device.cacheRead
  with_reducible
    apply Device.setCluster_sound; apply Device.ite_fst_sound; apply Device.fillLine_sound; apply Device.allocLine_sound; assumption
    apply Device.ite_sound; apply Device.allocLine_sound; assumption; apply Device.bump64_sound; apply Device.allocLine_sound
    assumption

theorem Device.cacheWrite_sound {d : Device} {g pa : Nat} {bs : List Byte} {run : BitVec 128} {marks : BitVec 2} {more : Bool} :
    d.Sound → (Device.cacheWrite d g pa bs run marks more).Sound := by
  intro h0; unfold Device.cacheWrite
  with_reducible
    apply Device.ite_sound; apply Device.bump64_sound; apply Device.setCluster_sound; apply Device.allocLine_sound; assumption
    apply Device.setCluster_sound; apply Device.allocLine_sound; assumption

theorem Device.releaseAll_sound {d : Device} {g : Nat} :
    d.Sound → (Device.releaseAll d g).Sound := by
  intro h0; unfold Device.releaseAll
  with_reducible
    apply Device.setCluster_sound; apply Device.foldl_sound; intro _; intro _; intro _; apply Device.writeBack_sound; assumption
    assumption

theorem Device.acquireAll_sound {d : Device} {g : Nat} :
    d.Sound → (Device.acquireAll d g).Sound := by
  intro h0; unfold Device.acquireAll
  with_reducible
    apply Device.setCluster_sound; apply Device.releaseAll_sound; assumption

theorem Device.dropCache_sound {d : Device} {g : Nat} :
    d.Sound → (Device.dropCache d g).Sound := by
  intro h0; unfold Device.dropCache
  with_reducible
    apply Device.setCluster_sound; assumption

theorem Device.physRead_sound {d : Device} {pa n : Nat} :
    d.Sound → (Device.physRead d pa n).1.Sound := by
  intro h0; unfold Device.physRead
  with_reducible
    split; apply Device.sramRead_sound; assumption; assumption; apply Device.dramRead_sound; assumption

theorem Device.physWrite_sound {d : Device} {pa : Nat} {bs : List Byte} :
    d.Sound → (Device.physWrite d pa bs).1.Sound := by
  intro h0; unfold Device.physWrite
  with_reducible
    split; apply Device.sramStore_sound; assumption; assumption; apply Device.memWrite_sound; assumption

theorem Device.vread_sound {d : Device} {p : Nat} {y0 : List (Nat × Nat)} :
    d.Sound → (Device.vread d p y0).1.Sound := by
  fun_induction Device.vread d p y0 <;> intro h0
  with_reducible
    assumption; refine Device.fst_eq ‹_ = (_, _)› ?_; apply Device.translate_sound; assumption; apply_assumption -exfalso -symm
    apply Device.physRead_sound; refine Device.fst_eq ‹_ = (_, _)› ?_; apply Device.translate_sound; assumption

theorem Device.readVa_sound {d : Device} {p va n : Nat} :
    d.Sound → (Device.readVa d p va n).1.Sound := by
  intro h0; unfold Device.readVa
  with_reducible
    apply Device.vread_sound; assumption

theorem Device.vwrite_sound {d : Device} {p : Nat} {y0 : List (Nat × Nat)} {y1 : List Byte} :
    d.Sound → (Device.vwrite d p y0 y1).1.Sound := by
  fun_induction Device.vwrite d p y0 y1 <;> intro h0
  with_reducible
    assumption; refine Device.fst_eq ‹_ = (_, _)› ?_; apply Device.translate_sound; assumption; apply_assumption -exfalso -symm
    apply Device.physWrite_sound; refine Device.fst_eq ‹_ = (_, _)› ?_; apply Device.translate_sound; assumption

theorem Device.writeVa_sound {d : Device} {p va : Nat} {bs : List Byte} :
    d.Sound → (Device.writeVa d p va bs).1.Sound := by
  intro h0; unfold Device.writeVa
  with_reducible
    apply Device.vwrite_sound; assumption

theorem Device.patrol_sound {d : Device} {cw : Nat} :
    d.Sound → (Device.patrol d cw).Sound := by
  intro h0; unfold Device.patrol
  with_reducible
    split; apply Device.readCodewords_sound; assumption; apply Device.ite_sound; apply Device.readCodewords_sound; assumption
    assumption; assumption

end Machine
end Sys2Proof
end

