-- ==== Sys2Proof/Laws/SoundCompletion.lean ====
section
/-!
SUPPORT. Soundness is kept by the operations of Machine/Completion.lean.
-/
namespace Sys2Proof
namespace Machine

theorem Device.fireFn_sound {d : Device} {fn i : Nat} :
    d.Sound → (Device.fireFn d fn i).Sound := by
  intro h0; unfold Device.fireFn
  with_reducible
    split; apply Device.fire_sound; assumption; assumption

theorem Device.writeCompletion_sound {d : Device} {r : Ring} {part : Nat} {bs : List Byte} :
    d.Sound → (Device.writeCompletion d r part bs).Sound := by
  intro h0; unfold Device.writeCompletion
  with_reducible
    apply Device.ite_sound; apply Device.writeVa_sound; assumption; apply Device.hostWrite_sound; assumption

theorem Device.countCompletion_sound {d : Device} {fn status : Nat} :
    d.Sound → (Device.countCompletion d fn status).Sound := by
  intro h0; unfold Device.countCompletion
  with_reducible
    apply Device.ite_sound; apply Device.bump64_sound; assumption; apply Device.bump_sound; apply Device.bump64_sound; assumption

theorem Device.completeOne_sound {d : Device} {id status result : Nat} :
    d.Sound → (Device.completeOne d id status result).Sound := by
  intro h0; unfold Device.completeOne
  with_reducible
    split; assumption; apply Device.ite_sound; dsimp only; apply Device.Sound.upd; assumption; apply Device.ite_sound; assumption; split
    dsimp only; apply Device.Sound.upd; assumption; apply Device.ite_sound; apply Device.countCompletion_sound; dsimp only
    apply Device.Sound.upd; apply Device.writeCompletion_sound; assumption; split; apply Device.fireFn_sound
    apply Device.countCompletion_sound; dsimp only; apply Device.Sound.upd; apply Device.writeCompletion_sound; assumption
    apply Device.countCompletion_sound; dsimp only; apply Device.Sound.upd; apply Device.writeCompletion_sound; assumption

theorem Device.complete_sound {d : Device} {id status result : Nat} :
    d.Sound → (Device.complete d id status result).Sound := by
  intro h0; unfold Device.complete
  with_reducible
    apply Device.foldl_sound; intro _; intro _; intro _; apply Device.completeOne_sound; assumption; apply Device.completeOne_sound
    assumption

end Machine
end Sys2Proof
end

