-- ==== Sys2Proof/Laws/SoundQueues.lean ====
section
/-!
SUPPORT. Soundness is kept by the operations of Machine/Queues.lean.
-/
namespace Sys2Proof
namespace Machine

theorem Device.setFront_sound {d : Device} {c q : Nat} {e : QEntry} :
    d.Sound → (Device.setFront d c q e).Sound := by
  intro h0; unfold Device.setFront
  with_reducible
    apply Device.modCore_sound; assumption; intro _; intro _; apply Core.setQueue_sound; assumption

theorem Device.dropFront_sound {d : Device} {c q : Nat} :
    d.Sound → (Device.dropFront d c q).Sound := by
  intro h0; unfold Device.dropFront
  with_reducible
    apply Device.modCore_sound; assumption; intro _; intro _; apply Core.setQueue_sound; assumption

theorem Device.runFront_sound {d : Device} {c q : Nat} {isOp : QEntry → Bool} {f : Device → QEntry → Device × CmdResult} :
    d.Sound → (∀ (x0 : Device) (x1 : QEntry), x0.Sound → (f x0 x1).1.Sound) → (Device.runFront d c q isOp f).Sound := by
  intro h0 h1; unfold Device.runFront
  with_reducible
    split; assumption; apply Device.ite_sound; apply Device.setFront_sound; apply h1; assumption; assumption

theorem Device.runChecked_sound {d : Device} {c q : Nat} {isOp : QEntry → Bool} {check : Device → QEntry → Option Nat} {f : Device → QEntry → Device × CmdResult} :
    d.Sound → (∀ (x0 : Device) (x1 : QEntry), x0.Sound → (f x0 x1).1.Sound) → (Device.runChecked d c q isOp check f).Sound := by
  intro h0 h1; unfold Device.runChecked
  with_reducible
    apply Device.runFront_sound; assumption; intro _; intro _; intro _; split; assumption; apply h1; assumption

theorem Device.trace_sound {d : Device} {c q : Nat} {e : QEntry} {r : CmdResult} :
    d.Sound → (Device.trace d c q e r).Sound := by
  intro h0; unfold Device.trace
  with_reducible
    apply Device.ite_sound; apply Device.setFld_sound; apply Device.hostWrite_sound; assumption; assumption

theorem Device.cmdFault_sound {d : Device} {c q : Nat} {e : QEntry} {f : CmdFault} :
    d.Sound → (Device.cmdFault d c q e f).Sound := by
  intro h0; unfold Device.cmdFault
  with_reducible
    apply Device.raise_sound; assumption

theorem Device.cmdFaults_sound {d : Device} {c q : Nat} {e : QEntry} {r : CmdResult} :
    d.Sound → (Device.cmdFaults d c q e r).Sound := by
  intro h0; unfold Device.cmdFaults
  with_reducible
    apply Device.ite_sound; apply Device.cmdFault_sound; apply Device.foldl_sound; intro _; intro _; intro _
    apply Device.cmdFault_sound; assumption; assumption; apply Device.foldl_sound; intro _; intro _; intro _
    apply Device.cmdFault_sound; assumption; assumption

theorem Device.cmdCounts_sound {d : Device} {e : QEntry} {r : CmdResult} :
    d.Sound → (Device.cmdCounts d e r).Sound := by
  intro h0; unfold Device.cmdCounts
  with_reducible
    apply Device.foldl_sound; intro _; intro _; intro _; apply Device.noteTag_sound; assumption; apply Device.foldl_sound; intro _
    intro _; intro _; apply Device.bump64_sound; assumption; apply Device.foldl_sound; intro _; intro _; intro _
    apply Device.bump_sound; assumption; assumption

theorem Device.gateSignal_sound {d : Device} {c q : Nat} {e : QEntry} :
    d.Sound → (Device.gateSignal d c q e).Sound := by
  intro h0; unfold Device.gateSignal
  with_reducible
    apply Device.ite_sound; apply Device.semAdd_sound; assumption; assumption

theorem Device.noteRetire_sound {d : Device} {c q : Nat} {e : QEntry} :
    d.Sound → (Device.noteRetire d c q e).Sound := by
  intro h0; unfold Device.noteRetire
  with_reducible
    split; apply Device.setFld_sound; assumption; apply Device.ite_sound; apply Device.bump_sound; assumption; assumption
    apply Device.setFld_sound; apply Device.bump64_sound; assumption; apply Device.setFld_sound; apply Device.bump_sound; assumption
    apply Device.setFld_sound; apply Device.bump_sound; assumption; assumption

theorem Device.settleEntry_sound {d : Device} {c q : Nat} {e : QEntry} {r : CmdResult} :
    d.Sound → (Device.settleEntry d c q e r).Sound := by
  intro h0; unfold Device.settleEntry
  with_reducible
    apply Device.trace_sound; apply Device.cmdFaults_sound; apply Device.noteRetire_sound; apply Device.cmdCounts_sound; assumption

theorem Device.answerOwner_sound {d : Device} {e : QEntry} {status : Nat} :
    d.Sound → (Device.answerOwner d e status).Sound := by
  intro h0; unfold Device.answerOwner
  with_reducible
    split; apply Device.complete_sound; assumption; assumption

theorem Device.retire_sound {d : Device} {c q : Nat} {e : QEntry} {r : CmdResult} :
    d.Sound → (Device.retire d c q e r).Sound := by
  intro h0; unfold Device.retire
  with_reducible
    apply Device.answerOwner_sound; apply Device.gateSignal_sound; apply Device.dropFront_sound; apply Device.settleEntry_sound
    assumption

end Machine
end Sys2Proof
end

