-- ==== Sys2Proof/Laws/SoundGlaze.lean ====
section
/-!
SUPPORT. Soundness is kept by the operations of Machine/Glaze.lean.
-/
namespace Sys2Proof
namespace Machine

theorem Device.storeNoting_sound {d : Device} {c a : Nat} {bs : List Byte} {out : Nat} :
    d.Sound → (Device.storeNoting d c a bs out).1.Sound := by
  intro h0; unfold Device.storeNoting
  with_reducible
    apply Device.sramStore_sound; assumption

theorem Device.glazeRow_sound {d : Device} {c : Nat} {g : GlazeDesc} {k : Core} {t : Table} {cAddr ldc cfmt n m : Nat} {vs : List Num} :
    d.Sound → k.Sound → (Device.glazeRow d c g k t cAddr ldc cfmt n m vs).1.Sound := by
  intro h0 h1; unfold Device.glazeRow
  with_reducible
    apply Device.ite_fst_sound; apply Device.storeNoting_sound; apply Device.storeNoting_sound; assumption
    apply Device.storeNoting_sound; assumption

end Machine
end Sys2Proof
end

