-- ==== Sys2Proof/Laws/SoundVector.lean ====
section
/-!
SUPPORT. Soundness is kept by the operations of Machine/Vector.lean.
-/
namespace Sys2Proof
namespace Machine

theorem Device.vx_sound {d : Device} {c : Nat} {o : VxOp} {f : Device → Nat → Device × VxOut} :
    d.Sound → (∀ (x0 : Device) (x1 : Nat), x0.Sound → (f x0 x1).1.Sound) → (Device.vx d c o f).Sound := by
  intro h0 h1; unfold Device.vx
  with_reducible
    apply Device.runChecked_sound; assumption; intro _; intro _; intro _; apply Device.ite_fst_sound; assumption; apply h1; assumption

theorem Device.vxMap_sound {d : Device} {c w : Nat} {srcs : List Nat} {f : List Nat → Nat × Tally} :
    d.Sound → (Device.vxMap d c w srcs f).1.Sound := by
  intro h0; unfold Device.vxMap
  with_reducible
    apply Device.modCore_sound; assumption; intro _; intro _; apply Core.putElems_sound; assumption

theorem Device.floatWork_sound {d : Device} {c n : Nat} {f : List Num → Num} {w : Nat} :
    d.Sound → (Device.floatWork d c n f w).1.Sound := by
  intro h0; unfold Device.floatWork
  with_reducible
    apply Device.vxMap_sound; assumption

theorem Device.vxFloat_sound {d : Device} {c func n : Nat} {f : List Num → Num} :
    d.Sound → (Device.vxFloat d c func n f).Sound := by
  intro h0; unfold Device.vxFloat
  with_reducible
    apply Device.vx_sound; assumption; intro _; intro _; intro _; apply Device.floatWork_sound; assumption

theorem Device.signWork_sound {d : Device} {c n : Nat} {f : FloatFmt → List Nat → Nat} {w : Nat} :
    d.Sound → (Device.signWork d c n f w).1.Sound := by
  intro h0; unfold Device.signWork
  with_reducible
    apply Device.vxMap_sound; assumption

theorem Device.vxSign_sound {d : Device} {c func n : Nat} {f : FloatFmt → List Nat → Nat} :
    d.Sound → (Device.vxSign d c func n f).Sound := by
  intro h0; unfold Device.vxSign
  with_reducible
    apply Device.vx_sound; assumption; intro _; intro _; intro _; apply Device.signWork_sound; assumption

theorem Device.intWork_sound {d : Device} {c n : Nat} {f : Nat → List Nat → Nat × Tally} {w : Nat} :
    d.Sound → (Device.intWork d c n f w).1.Sound := by
  intro h0; unfold Device.intWork
  with_reducible
    apply Device.vxMap_sound; assumption

theorem Device.vxInt_sound {d : Device} {c func n : Nat} {f : Nat → List Nat → Nat × Tally} :
    d.Sound → (Device.vxInt d c func n f).Sound := by
  intro h0; unfold Device.vxInt
  with_reducible
    apply Device.vx_sound; assumption; intro _; intro _; intro _; apply Device.intWork_sound; assumption

theorem Device.iotaWork_sound {d : Device} {c w : Nat} :
    d.Sound → (Device.iotaWork d c w).1.Sound := by
  intro h0; unfold Device.iotaWork
  with_reducible
    apply Device.modCore_sound; assumption; intro _; intro _; apply Core.putElems_sound; assumption

theorem Device.vxIota_sound {d : Device} {c : Nat} :
    d.Sound → (Device.vxIota d c).Sound := by
  intro h0; unfold Device.vxIota
  with_reducible
    apply Device.vx_sound; assumption; intro _; intro _; intro _; apply Device.iotaWork_sound; assumption

theorem Device.cmpWork_sound {d : Device} {c : Nat} {f : Num → Num → Bool} {w : Nat} :
    d.Sound → (Device.cmpWork d c f w).1.Sound := by
  intro h0; unfold Device.cmpWork
  with_reducible
    apply Device.modCore_sound; assumption; intro _; intro _; apply Core.setM_sound; assumption

theorem Device.vxCmp_sound {d : Device} {c func : Nat} {f : Num → Num → Bool} :
    d.Sound → (Device.vxCmp d c func f).Sound := by
  intro h0; unfold Device.vxCmp
  with_reducible
    apply Device.vx_sound; assumption; intro _; intro _; intro _; apply Device.cmpWork_sound; assumption

theorem Device.maskOpWork_sound {d : Device} {c : Nat} {f : BitVec 2048 → BitVec 2048 → BitVec 2048} {w : Nat} :
    d.Sound → (Device.maskOpWork d c f w).1.Sound := by
  intro h0; unfold Device.maskOpWork
  with_reducible
    apply Device.modCore_sound; assumption; intro _; intro _; apply Core.setM_sound; assumption

theorem Device.vxMaskOp_sound {d : Device} {c func n : Nat} {f : BitVec 2048 → BitVec 2048 → BitVec 2048} :
    d.Sound → (Device.vxMaskOp d c func n f).Sound := by
  intro h0; unfold Device.vxMaskOp
  with_reducible
    apply Device.vx_sound; assumption; intro _; intro _; intro _; apply Device.maskOpWork_sound; assumption

theorem Device.maskQueryWork_sound {d : Device} {c : Nat} {f : Nat → Nat → Nat} {w : Nat} :
    d.Sound → (Device.maskQueryWork d c f w).1.Sound := by
  intro h0; unfold Device.maskQueryWork
  with_reducible
    apply Device.modCore_sound; assumption; intro _; intro _; apply Core.putElems_sound; assumption

theorem Device.vxMaskQuery_sound {d : Device} {c func : Nat} {f : Nat → Nat → Nat} :
    d.Sound → (Device.vxMaskQuery d c func f).Sound := by
  intro h0; unfold Device.vxMaskQuery
  with_reducible
    apply Device.vx_sound; assumption; intro _; intro _; intro _; apply Device.maskQueryWork_sound; assumption

theorem Device.selWork_sound {d : Device} {c : Nat} {w : Nat} :
    d.Sound → (Device.selWork d c w).1.Sound := by
  intro h0; unfold Device.selWork
  with_reducible
    apply Device.modCore_sound; assumption; intro _; intro _; apply Core.putElems_sound; assumption

theorem Device.vxSel_sound {d : Device} {c : Nat} :
    d.Sound → (Device.vxSel d c).Sound := by
  intro h0; unfold Device.vxSel
  with_reducible
    apply Device.vx_sound; assumption; intro _; intro _; intro _; apply Device.selWork_sound; assumption

theorem Device.movWork_sound {d : Device} {c : Nat} {w : Nat} :
    d.Sound → (Device.movWork d c w).1.Sound := by
  intro h0; unfold Device.movWork
  with_reducible
    apply Device.vxMap_sound; assumption

theorem Device.vxMov_sound {d : Device} {c : Nat} :
    d.Sound → (Device.vxMov d c).Sound := by
  intro h0; unfold Device.vxMov
  with_reducible
    apply Device.vx_sound; assumption; intro _; intro _; intro _; apply Device.movWork_sound; assumption

theorem Device.vxSetvl_sound {d : Device} {c : Nat} :
    d.Sound → (Device.vxSetvl d c).Sound := by
  intro h0; unfold Device.vxSetvl
  with_reducible
    apply Device.runChecked_sound; assumption; intro _; intro _; intro _; apply Device.modCore_sound; assumption; intro _; intro _
    apply Core.Sound.upd; assumption

theorem Device.cvtWork_sound {d : Device} {c : Nat} {w : Nat} :
    d.Sound → (Device.cvtWork d c w).1.Sound := by
  intro h0; unfold Device.cvtWork
  with_reducible
    apply Device.ite_fst_sound; apply Device.modCore_sound; assumption; intro _; intro _; apply Core.putElems_sound; assumption
    apply Device.ite_fst_sound; apply Device.modCore_sound; assumption; intro _; intro _; apply Core.putElems_sound; assumption
    apply Device.modCore_sound; assumption; intro _; intro _; apply Core.foldl_sound; intro _; intro _; intro _
    apply Core.putElems_sound; assumption; assumption

theorem Device.vxCvt_sound {d : Device} {c : Nat} :
    d.Sound → (Device.vxCvt d c).Sound := by
  intro h0; unfold Device.vxCvt
  with_reducible
    apply Device.vx_sound; assumption; intro _; intro _; intro _; apply Device.cvtWork_sound; assumption

theorem Device.reduceWork_sound {d : Device} {c : Nat} {func : Nat} {w : Nat} :
    d.Sound → (Device.reduceWork d c func w).1.Sound := by
  intro h0; unfold Device.reduceWork
  with_reducible
    apply Device.modCore_sound; assumption; intro _; intro _; apply Core.putElems_sound; assumption

theorem Device.vxReduce_sound {d : Device} {c func : Nat} :
    d.Sound → (Device.vxReduce d c func).Sound := by
  intro h0; unfold Device.vxReduce
  with_reducible
    apply Device.vx_sound; assumption; intro _; intro _; intro _; apply Device.reduceWork_sound; assumption

theorem Device.vxRead_sound {d : Device} {c w s bad : Nat} {y0 : List (Bool × Nat)} :
    d.Sound → (Device.vxRead d c w s bad y0).1.Sound := by
  fun_induction Device.vxRead d c w s bad y0 <;> intro h0
  with_reducible
    assumption; apply_assumption -exfalso -symm; apply Device.sramRead_sound; assumption; apply_assumption -exfalso -symm
    apply Device.sramRead_sound; assumption; apply_assumption -exfalso -symm; assumption

theorem Device.vxWrite_sound {d : Device} {c w s : Nat} {y0 : List (Bool × Nat × Nat)} :
    d.Sound → (Device.vxWrite d c w s y0).1.Sound := by
  fun_induction Device.vxWrite d c w s y0 <;> intro h0
  with_reducible
    assumption; apply_assumption -exfalso -symm; apply Device.sramStore_sound; assumption; apply_assumption -exfalso -symm; assumption

theorem Device.ldWork_sound {d : Device} {c : Nat} {w : Nat} :
    d.Sound → (Device.ldWork d c w).1.Sound := by
  intro h0; unfold Device.ldWork
  with_reducible
    apply Device.modCore_sound; apply Device.vxRead_sound; assumption; intro _; intro _; apply Core.putElems_sound; assumption

theorem Device.vxLd_sound {d : Device} {c : Nat} :
    d.Sound → (Device.vxLd d c).Sound := by
  intro h0; unfold Device.vxLd
  with_reducible
    apply Device.vx_sound; assumption; intro _; intro _; intro _; apply Device.ldWork_sound; assumption

theorem Device.stWork_sound {d : Device} {c : Nat} {w : Nat} :
    d.Sound → (Device.stWork d c w).1.Sound := by
  intro h0; unfold Device.stWork
  with_reducible
    apply Device.vxWrite_sound; assumption

theorem Device.vxSt_sound {d : Device} {c : Nat} :
    d.Sound → (Device.vxSt d c).Sound := by
  intro h0; unfold Device.vxSt
  with_reducible
    apply Device.vx_sound; assumption; intro _; intro _; intro _; apply Device.stWork_sound; assumption

theorem Device.vxLoadBlock_sound {d : Device} {c w : Nat} {en : List Bool} {j : Nat} :
    d.Sound → (Device.vxLoadBlock d c w en j).1.Sound := by
  intro h0; unfold Device.vxLoadBlock
  with_reducible
    apply Device.ite_fst_sound; apply Device.sramRead_sound; apply Device.sramRead_sound; assumption; assumption

theorem Device.vxLoadBlocks_sound {d : Device} {c w : Nat} {en : List Bool} {y0 : List Nat} :
    d.Sound → (Device.vxLoadBlocks d c w en y0).1.Sound := by
  fun_induction Device.vxLoadBlocks d c w en y0 <;> intro h0
  with_reducible
    assumption; apply_assumption -exfalso -symm; apply Device.vxLoadBlock_sound; assumption

theorem Device.ldcvtWork_sound {d : Device} {c : Nat} {w : Nat} :
    d.Sound → (Device.ldcvtWork d c w).1.Sound := by
  intro h0; unfold Device.ldcvtWork
  with_reducible
    apply Device.ite_fst_sound; apply Device.modCore_sound; apply Device.vxLoadBlocks_sound; assumption; intro _; intro _
    apply Core.putElems_sound; assumption; apply Device.modCore_sound; apply Device.vxRead_sound; assumption; intro _; intro _
    apply Core.putElems_sound; assumption

theorem Device.vxLdcvt_sound {d : Device} {c : Nat} :
    d.Sound → (Device.vxLdcvt d c).Sound := by
  intro h0; unfold Device.vxLdcvt
  with_reducible
    apply Device.vx_sound; assumption; intro _; intro _; intro _; apply Device.ldcvtWork_sound; assumption

theorem Device.vxStoreBlock_sound {d : Device} {c w : Nat} {en : List Bool} {xs : List Nat} {j : Nat} :
    d.Sound → (Device.vxStoreBlock d c w en xs j).1.Sound := by
  intro h0; unfold Device.vxStoreBlock
  with_reducible
    apply Device.ite_fst_sound; apply Device.sramStore_sound; apply Device.sramStore_sound; assumption; assumption

theorem Device.vxStoreBlocks_sound {d : Device} {c w : Nat} {en : List Bool} {xs : List Nat} {y0 : List Nat} :
    d.Sound → (Device.vxStoreBlocks d c w en xs y0).1.Sound := by
  fun_induction Device.vxStoreBlocks d c w en xs y0 <;> intro h0
  with_reducible
    assumption; apply_assumption -exfalso -symm; apply Device.vxStoreBlock_sound; assumption

theorem Device.stcvtWork_sound {d : Device} {c : Nat} {w : Nat} :
    d.Sound → (Device.stcvtWork d c w).1.Sound := by
  intro h0; unfold Device.stcvtWork
  with_reducible
    apply Device.ite_fst_sound; apply Device.vxStoreBlocks_sound; assumption; apply Device.vxWrite_sound; assumption

theorem Device.vxStcvt_sound {d : Device} {c : Nat} :
    d.Sound → (Device.vxStcvt d c).Sound := by
  intro h0; unfold Device.vxStcvt
  with_reducible
    apply Device.vx_sound; assumption; intro _; intro _; intro _; apply Device.stcvtWork_sound; assumption

theorem Device.ldmWork_sound {d : Device} {c : Nat} {w : Nat} :
    d.Sound → (Device.ldmWork d c w).1.Sound := by
  intro h0; unfold Device.ldmWork
  with_reducible
    apply Device.modCore_sound; apply Device.sramRead_sound; assumption; intro _; intro _; apply Core.setM_sound; assumption

theorem Device.vxLdm_sound {d : Device} {c : Nat} :
    d.Sound → (Device.vxLdm d c).Sound := by
  intro h0; unfold Device.vxLdm
  with_reducible
    apply Device.vx_sound; assumption; intro _; intro _; intro _; apply Device.ldmWork_sound; assumption

theorem Device.stmWork_sound {d : Device} {c : Nat} {w : Nat} :
    d.Sound → (Device.stmWork d c w).1.Sound := by
  intro h0; unfold Device.stmWork
  with_reducible
    apply Device.sramStore_sound; assumption

theorem Device.vxStm_sound {d : Device} {c : Nat} :
    d.Sound → (Device.vxStm d c).Sound := by
  intro h0; unfold Device.vxStm
  with_reducible
    apply Device.vx_sound; assumption; intro _; intro _; intro _; apply Device.stmWork_sound; assumption

end Machine
end Sys2Proof
end

