-- ==== Sys2Proof/Laws/SoundMatrix.lean ====
section
/-!
SUPPORT. Soundness is kept by the operations of Machine/Matrix.lean.
-/
namespace Sys2Proof
namespace Machine

theorem Device.readSpans_sound {d : Device} {c : Nat} {y0 : List (Span × (Nat → Nat))} :
    d.Sound → (Device.readSpans d c y0).1.Sound := by
  fun_induction Device.readSpans d c y0 <;> intro h0
  with_reducible
    assumption; apply_assumption -exfalso -symm; apply Device.ite_sound; assumption; apply Device.sramRead_sound; assumption

theorem Device.glazeRows_sound {d : Device} {c : Nat} {g : GlazeDesc} {k : Core} {t : Table} {cAddr ldc cfmt n : Nat} {y0 : List (Nat × List Num)} :
    d.Sound → k.Sound → (Device.glazeRows d c g k t cAddr ldc cfmt n y0).1.Sound := by
  fun_induction Device.glazeRows d c g k t cAddr ldc cfmt n y0 <;> intro h0 h1
  with_reducible
    assumption; apply_assumption -exfalso -symm; apply Device.glazeRow_sound; assumption; assumption; assumption

theorem Device.recordRows_sound {d : Device} {c cAddr stride n : Nat} {y0 : List (Nat × List WinRec)} :
    d.Sound → (Device.recordRows d c cAddr stride n y0).1.Sound := by
  fun_induction Device.recordRows d c cAddr stride n y0 <;> intro h0
  with_reducible
    assumption; apply_assumption -exfalso -symm; apply Device.storeNoting_sound; assumption

theorem Device.mmExact_sound {d : Device} {c : Nat} {x : Mm} {g : GlazeDesc} {t : Table} :
    d.Sound → (Device.mmExact d c x g t).1.Sound := by
  intro h0; unfold Device.mmExact
  with_reducible
    apply Device.ite_fst_sound; apply Device.storeNoting_sound; apply Device.readSpans_sound; assumption; apply Device.ite_fst_sound
    apply Device.ite_fst_sound; apply Device.readSpans_sound; apply Device.readSpans_sound; assumption; apply Device.recordRows_sound
    apply Device.readSpans_sound; apply Device.readSpans_sound; assumption; apply Device.glazeRows_sound; apply Device.readSpans_sound
    apply Device.readSpans_sound; assumption; apply Device.core_sound; apply Device.readSpans_sound; assumption

theorem Device.mmFp32_sound {d : Device} {c : Nat} {x : Mm} {g : GlazeDesc} {t : Table} :
    d.Sound → (Device.mmFp32 d c x g t).1.Sound := by
  intro h0; unfold Device.mmFp32
  with_reducible
    apply Device.glazeRows_sound; apply Device.readSpans_sound; assumption; apply Device.core_sound; apply Device.readSpans_sound
    assumption

theorem Device.gangRelease_sound {d : Device} {q : Nat} :
    d.Sound → (Device.gangRelease d q).Sound := by
  intro h0; unfold Device.gangRelease
  with_reducible
    apply Device.foldl_sound; intro _; intro _; intro _; apply Device.modCore_sound; assumption; intro _; intro _
    apply Core.setQueue_sound; assumption; assumption

theorem Device.gangArrive_sound {d : Device} {c q : Nat} {e : QEntry} :
    d.Sound → (Device.gangArrive d c q e).1.Sound := by
  intro h0; unfold Device.gangArrive
  with_reducible
    apply Device.ite_fst_sound; assumption; apply Device.modCore_sound; assumption; intro _; intro _; apply Core.setQueue_sound
    assumption

theorem Device.mmBody_sound {d : Device} {c : Nat} {x : Mm} {g : GlazeDesc} {half : Option Nat} {acc : Bool} :
    d.Sound → (Device.mmBody d c x g half acc).1.Sound := by
  intro h0; unfold Device.mmBody
  with_reducible
    apply Device.ite_fst_sound; assumption; apply Device.ite_fst_sound; apply Device.mmFp32_sound; apply Device.ite_fst_sound
    apply Device.readSpans_sound; assumption; assumption; apply Device.mmExact_sound; apply Device.ite_fst_sound
    apply Device.readSpans_sound; assumption; assumption

theorem Device.mmExecute_sound {d : Device} {c q : Nat} {e : QEntry} {acc siphon : Bool} :
    d.Sound → (Device.mmExecute d c q e acc siphon).Sound := by
  fun_cases Device.mmExecute d c q e acc siphon <;> intro h0
  with_reducible
    apply Device.setFront_sound; assumption; assumption; apply Device.setFront_sound; assumption; apply Device.setFront_sound
    apply Device.mmBody_sound; assumption

theorem Device.mxMm_sound {d : Device} {c : Nat} :
    d.Sound → (Device.mxMm d c).Sound := by
  intro h0; unfold Device.mxMm
  with_reducible
    split; assumption; apply Device.ite_sound; assumption; apply Device.ite_sound; apply Device.runFront_sound; assumption; intro _
    intro _; intro _; assumption; apply Device.ite_sound; apply Device.ite_fst_sound; apply Device.gangArrive_sound; assumption
    assumption; split; apply Device.ite_fst_sound; apply Device.gangArrive_sound; assumption; assumption; apply Device.ite_sound
    apply Device.ite_sound; apply Device.mmExecute_sound; apply Device.ite_fst_sound; apply Device.gangArrive_sound; assumption
    assumption; apply Device.ite_fst_sound; apply Device.gangArrive_sound; assumption; assumption; apply Device.mmExecute_sound
    apply Device.ite_fst_sound; apply Device.gangArrive_sound; assumption; assumption

theorem Device.spMv_sound {d : Device} {c : Nat} :
    d.Sound → (Device.spMv d c).Sound := by
  intro h0; unfold Device.spMv
  with_reducible
    split; assumption; apply Device.ite_sound; assumption; apply Device.ite_sound; apply Device.runFront_sound; assumption; intro _
    intro _; intro _; assumption; apply Device.ite_sound; apply Device.ite_fst_sound; apply Device.gangArrive_sound; assumption
    assumption; split; apply Device.ite_fst_sound; apply Device.gangArrive_sound; assumption; assumption; apply Device.ite_sound
    apply Device.mmExecute_sound; apply Device.ite_fst_sound; apply Device.gangArrive_sound; assumption; assumption
    apply Device.ite_fst_sound; apply Device.gangArrive_sound; assumption; assumption

theorem Device.siphonTake_sound {d : Device} {c : Nat} :
    d.Sound → (Device.siphonTake d c).Sound := by
  intro h0; unfold Device.siphonTake
  with_reducible
    apply Device.ite_sound; assumption; split; assumption; dsimp only; split; apply Device.setFld_sound; apply Device.setFront_sound
    apply Device.modCore_sound; assumption; intro _; intro _; apply Core.Sound.upd; assumption; apply Device.modCore_sound; assumption
    intro _; intro _; apply Core.Sound.upd; assumption

theorem Device.setSecond_sound {d : Device} {c q : Nat} {f : QEntry} :
    d.Sound → (Device.setSecond d c q f).Sound := by
  intro h0; unfold Device.setSecond
  with_reducible
    apply Device.modCore_sound; assumption; intro _; intro _; split; apply Core.setQueue_sound; assumption; assumption

theorem Device.earlyStart_sound {d : Device} {c q : Nat} :
    d.Sound → (Device.earlyStart d c q).Sound := by
  intro h0; unfold Device.earlyStart
  with_reducible
    split; assumption; apply Device.ite_sound; apply Device.setSecond_sound; assumption; assumption

theorem Device.mxWsum_sound {d : Device} {c : Nat} :
    d.Sound → (Device.mxWsum d c).Sound := by
  intro h0; unfold Device.mxWsum
  with_reducible
    apply Device.runChecked_sound; assumption; intro _; intro _; intro _; apply Device.recordRows_sound; apply Device.readSpans_sound
    assumption

theorem Device.mxWfin_sound {d : Device} {c : Nat} :
    d.Sound → (Device.mxWfin d c).Sound := by
  intro h0; unfold Device.mxWfin
  with_reducible
    split; assumption; apply Device.ite_sound; assumption; apply Device.runChecked_sound; assumption; intro _; intro _; intro _
    apply Device.ite_fst_sound; assumption; apply Device.glazeRows_sound; apply Device.readSpans_sound; assumption
    apply Device.core_sound; apply Device.readSpans_sound; assumption

end Machine
end Sys2Proof
end

