-- ==== Sys2Proof/Laws/SoundTime.lean ====
section
/-!
SUPPORT. Soundness is kept by the operations of Machine/Time.lean.
-/
namespace Sys2Proof
namespace Machine

theorem Device.setLock_sound {d : Device} {v : Nat} :
    d.Sound → (Device.setLock d v).Sound := by
  intro h0; unfold Device.setLock
  with_reducible
    apply Device.ite_sound; assumption; apply Device.fire_sound; apply Device.setFld_sound; assumption

theorem Device.stepTime_sound {d : Device} {t : Nat} :
    d.Sound → (Device.stepTime d t).Sound := by
  intro h0; unfold Device.stepTime
  with_reducible
    apply Device.bump_sound; apply Device.Sound.upd; assumption

theorem Device.timStep_sound {d : Device} :
    d.Sound → (Device.timStep d).Sound := by
  intro h0; unfold Device.timStep
  with_reducible
    apply Device.ite_sound; apply Device.setFlag_sound; assumption; apply Device.stepTime_sound; assumption

theorem Device.showPtpPort_sound {d : Device} :
    d.Sound → (Device.showPtpPort d).Sound := by
  intro h0; unfold Device.showPtpPort
  with_reducible
    apply Device.setFld_sound; assumption

theorem Device.timSrcWrite_sound {d : Device} {v : Nat} :
    d.Sound → (Device.timSrcWrite d v).Sound := by
  intro h0; unfold Device.timSrcWrite
  with_reducible
    apply Device.ite_sound; assumption; apply Device.showPtpPort_sound; apply Device.ite_sound; apply Device.setLock_sound; dsimp only
    apply Device.Sound.upd; apply Device.setFld_sound; assumption; apply Device.ite_sound; apply Device.setLock_sound; dsimp only
    apply Device.Sound.upd; apply Device.setFld_sound; assumption; apply Device.setLock_sound; dsimp only; apply Device.Sound.upd
    apply Device.setFld_sound; assumption

theorem Device.timPtpCfgWrite_sound {d : Device} {v : Nat} :
    d.Sound → (Device.timPtpCfgWrite d v).Sound := by
  intro h0; unfold Device.timPtpCfgWrite
  with_reducible
    apply Device.ite_sound; split; dsimp only; apply Device.Sound.upd; apply Device.setLock_sound; apply Device.setReg_sound; assumption
    split; dsimp only; apply Device.Sound.upd; apply Device.setReg_sound; assumption; dsimp only; apply Device.Sound.upd
    apply Device.setLock_sound; apply Device.setReg_sound; assumption; apply Device.setReg_sound; assumption

theorem Device.timNowRead_sound {d : Device} {f : Nat} :
    d.Sound → (Device.timNowRead d f).Sound := by
  intro h0; unfold Device.timNowRead
  with_reducible
    apply Device.setReg_sound; apply Device.setReg_sound; apply Device.setReg_sound; assumption

theorem Device.measure_sound {d : Device} {off : Int} :
    d.Sound → (Device.measure d off).Sound := by
  intro h0; unfold Device.measure
  with_reducible
    apply Device.ite_sound; apply Device.ite_sound; apply Device.setLock_sound; apply Device.useFree_sound; apply Device.setReg_sound
    apply Device.useFree_sound; apply Device.setReg_sound; split; dsimp only; apply Device.Sound.upd; assumption; dsimp only
    apply Device.Sound.upd; assumption; apply Device.ite_sound; split; dsimp only; apply Device.Sound.upd; apply Device.setLock_sound
    apply Device.useFree_sound; apply Device.setReg_sound; apply Device.useFree_sound; apply Device.setReg_sound; apply Device.Sound.upd
    assumption; dsimp only; apply Device.Sound.upd; apply Device.setLock_sound; apply Device.useFree_sound; apply Device.setReg_sound
    apply Device.useFree_sound; apply Device.setReg_sound; apply Device.Sound.upd; assumption; apply Device.stepTime_sound; split
    dsimp only; apply Device.Sound.upd; apply Device.setLock_sound; apply Device.useFree_sound; apply Device.setReg_sound
    apply Device.useFree_sound; apply Device.setReg_sound; apply Device.Sound.upd; assumption; dsimp only; apply Device.Sound.upd
    apply Device.setLock_sound; apply Device.useFree_sound; apply Device.setReg_sound; apply Device.useFree_sound
    apply Device.setReg_sound; apply Device.Sound.upd; assumption; apply Device.useFree_sound; apply Device.setReg_sound
    apply Device.useFree_sound; apply Device.setReg_sound; split; dsimp only; apply Device.Sound.upd; assumption; dsimp only
    apply Device.Sound.upd; assumption

theorem Device.ppsEdge_sound {d : Device} {ref : Bool} :
    d.Sound → (Device.ppsEdge d ref).Sound := by
  intro h0; unfold Device.ppsEdge
  with_reducible
    apply Device.ite_sound; apply Device.measure_sound; apply Device.setFlag_sound; apply Device.setFlag_sound; assumption; dsimp only
    apply Device.Sound.upd; apply Device.setFlag_sound; apply Device.setFlag_sound; assumption

theorem Device.sourceTimeout_sound {d : Device} :
    d.Sound → (Device.sourceTimeout d).Sound := by
  intro h0; unfold Device.sourceTimeout
  with_reducible
    apply Device.ite_sound; apply Device.setLock_sound; split; dsimp only; apply Device.Sound.upd; apply Device.setFlag_sound
    apply Device.Sound.upd; assumption; dsimp only; apply Device.Sound.upd; assumption; split; dsimp only; apply Device.Sound.upd
    apply Device.setFlag_sound; apply Device.Sound.upd; assumption; dsimp only; apply Device.Sound.upd; assumption

theorem Device.syncMeasured_sound {d : Device} {t1 t2 : Int} :
    d.Sound → (Device.syncMeasured d t1 t2).Sound := by
  intro h0; unfold Device.syncMeasured
  with_reducible
    apply Device.measure_sound; dsimp only; apply Device.Sound.upd; assumption

theorem Device.ptpSync_sound {d : Device} {port domain transport sender seq stamp : Nat} {corr : Int} {twoStep : Bool} :
    d.Sound → (Device.ptpSync d port domain transport sender seq stamp corr twoStep).Sound := by
  intro h0; unfold Device.ptpSync
  with_reducible
    apply Device.ite_sound; apply Device.ite_sound; dsimp only; apply Device.Sound.upd; apply Device.showPtpPort_sound
    apply Device.Sound.upd; assumption; apply Device.syncMeasured_sound; apply Device.showPtpPort_sound; dsimp only
    apply Device.Sound.upd; assumption; apply Device.showPtpPort_sound; dsimp only; apply Device.Sound.upd; assumption

theorem Device.ptpFollowUp_sound {d : Device} {port domain transport sender seq stamp : Nat} {corr : Int} :
    d.Sound → (Device.ptpFollowUp d port domain transport sender seq stamp corr).Sound := by
  intro h0; unfold Device.ptpFollowUp
  with_reducible
    split; apply Device.ite_sound; apply Device.syncMeasured_sound; assumption; assumption; assumption

theorem Device.ptpAnnounce_sound {d : Device} {port domain transport : Nat} {m : PtpMaster} :
    d.Sound → (Device.ptpAnnounce d port domain transport m).Sound := by
  intro h0; unfold Device.ptpAnnounce
  with_reducible
    apply Device.ite_sound; apply Device.ite_sound; dsimp only; apply Device.Sound.upd; assumption; assumption; assumption

theorem Device.ptpDelayReq_sound {d : Device} :
    d.Sound → (Device.ptpDelayReq d).Sound := by
  intro h0; unfold Device.ptpDelayReq
  with_reducible
    apply Device.ite_sound; dsimp only; apply Device.Sound.upd; assumption; assumption

theorem Device.ptpDelayResp_sound {d : Device} {port domain transport sender seq stamp : Nat} {corr : Int} :
    d.Sound → (Device.ptpDelayResp d port domain transport sender seq stamp corr).Sound := by
  intro h0; unfold Device.ptpDelayResp
  with_reducible
    split; apply Device.ite_sound; dsimp only; apply Device.Sound.upd; assumption; assumption; assumption

theorem Device.advance_sound {d : Device} {units : Nat} :
    d.Sound → (Device.advance d units).Sound := by
  intro h0; unfold Device.advance
  with_reducible
    dsimp only; apply Device.Sound.upd; assumption

end Machine
end Sys2Proof
end

