-- ==== Sys2Proof/Laws/SoundSync.lean ====
section
/-!
SUPPORT. Soundness is kept by the operations of Machine/Sync.lean.
-/
namespace Sys2Proof
namespace Machine

theorem Device.setStroke_sound {d : Device} {p : Nat} {k : Stroke} :
    d.Sound → (Device.setStroke d p k).Sound := by
  intro h0; unfold Device.setStroke
  with_reducible
    apply Device.Sound.upd; assumption

theorem Device.gateRelease_sound {d : Device} {c n : Nat} :
    d.Sound → (Device.gateRelease d c n).Sound := by
  intro h0; unfold Device.gateRelease
  with_reducible
    split; apply Device.ite_sound; apply Device.modCore_sound; assumption; intro _; intro _; apply Core.setQueue_sound
    apply Core.grant_sound; assumption; assumption; assumption

theorem Device.engineRetire_sound {d : Device} {c q : Nat} :
    d.Sound → (Device.engineRetire d c q).Sound := by
  intro h0; unfold Device.engineRetire
  with_reducible
    split; assumption; split; apply Device.ite_sound; assumption; apply Device.ite_sound; apply Device.modCore_sound
    apply Device.retire_sound; assumption; intro _; intro _; apply Core.Sound.upd; assumption; apply Device.retire_sound; assumption
    apply Device.ite_sound; apply Device.retire_sound; assumption; assumption

theorem Device.sy_sound {d : Device} {c opc : Nat} {check : Device → Nat → Option Nat} {f : Device → QEntry → Device} :
    d.Sound → (∀ (x0 : Device) (x1 : QEntry), x0.Sound → (f x0 x1).Sound) → (Device.sy d c opc check f).Sound := by
  intro h0 h1; unfold Device.sy
  with_reducible
    split; assumption; apply Device.ite_sound; assumption; dsimp only; split; apply Device.setFront_sound; assumption; apply h1
    apply Device.setFront_sound; assumption

theorem Device.sySig_sound {d : Device} {c : Nat} :
    d.Sound → (Device.sySig d c).Sound := by
  intro h0; unfold Device.sySig
  with_reducible
    apply Device.sy_sound; assumption; intro _; intro _; intro _; apply Device.Sound.upd; assumption

theorem Device.incrementArrival_sound {d : Device} {i : Nat} :
    d.Sound → (Device.incrementArrival d i).Sound := by
  intro h0; unfold Device.incrementArrival
  with_reducible
    split; assumption; apply Device.ite_sound; split; apply Device.ite_sound; apply Device.retire_sound; apply Device.ite_sound
    apply Device.Sound.upd; assumption; apply Device.semAdd_sound; apply Device.Sound.upd; assumption; apply Device.ite_sound
    apply Device.Sound.upd; assumption; apply Device.semAdd_sound; apply Device.Sound.upd; assumption; apply Device.ite_sound
    apply Device.Sound.upd; assumption; apply Device.semAdd_sound; apply Device.Sound.upd; assumption; apply Device.ite_sound
    apply Device.Sound.upd; assumption; apply Device.semAdd_sound; apply Device.Sound.upd; assumption

theorem Device.syWait_sound {d : Device} {c : Nat} :
    d.Sound → (Device.syWait d c).Sound := by
  intro h0; unfold Device.syWait
  with_reducible
    apply Device.sy_sound; assumption; intro _; intro _; intro _; assumption

theorem Device.syWaitGrant_sound {d : Device} {c : Nat} :
    d.Sound → (Device.syWaitGrant d c).Sound := by
  intro h0; unfold Device.syWaitGrant
  with_reducible
    split; apply Device.ite_sound; apply Device.retire_sound; apply Device.modCore_sound; assumption; intro _; intro _
    apply Core.grant_sound; assumption; assumption; assumption

theorem Device.syArrive_sound {d : Device} {c : Nat} :
    d.Sound → (Device.syArrive d c).Sound := by
  intro h0; unfold Device.syArrive
  with_reducible
    apply Device.sy_sound; assumption; intro _; intro _; intro _; apply Device.ite_sound; apply Device.setFront_sound; assumption
    dsimp only; split; apply Device.Sound.upd; assumption; apply Device.Sound.upd; assumption

theorem Device.barrierRelease_sound {d : Device} {key : Nat} :
    d.Sound → (Device.barrierRelease d key).Sound := by
  intro h0; unfold Device.barrierRelease
  with_reducible
    split; assumption; split; assumption; apply Device.foldl_sound; intro _; intro _; intro _; split; apply Device.ite_sound
    apply Device.retire_sound; assumption; assumption; assumption; apply Device.Sound.upd; assumption

theorem Device.syTime_sound {d : Device} {c : Nat} :
    d.Sound → (Device.syTime d c).Sound := by
  intro h0; unfold Device.syTime
  with_reducible
    apply Device.sy_sound; assumption; intro _; intro _; intro _; apply Device.setFront_sound; assumption

theorem Device.syTimeReached_sound {d : Device} {c : Nat} :
    d.Sound → (Device.syTimeReached d c).Sound := by
  intro h0; unfold Device.syTimeReached
  with_reducible
    dsimp only; split; assumption; apply Device.foldl_sound; intro _; intro _; intro _; split; apply Device.ite_sound
    apply Device.retire_sound; assumption; assumption; assumption; apply Device.Sound.upd; assumption

end Machine
end Sys2Proof
end

