-- ==== Sys2Proof/Laws/SoundAqSend.lean ====
section
/-!
SUPPORT. Soundness is kept by the operations of Machine/AqSend.lean.
-/
namespace Sys2Proof
namespace Machine

theorem Device.setPort_sound {d : Device} {i : Nat} {p : Port} :
    d.Sound → (Device.setPort d i p).Sound := by
  intro h0; unfold Device.setPort
  with_reducible
    dsimp only; apply Device.Sound.upd; assumption

theorem Device.setSpray_sound {d : Device} {i : Nat} {b : Bool} :
    d.Sound → (Device.setSpray d i b).Sound := by
  intro h0; unfold Device.setSpray
  with_reducible
    apply Device.setFlag_sound; apply Device.setFlag_sound; assumption

theorem Device.setFlow_sound {d : Device} {f : Nat} {x : Flow} :
    d.Sound → (Device.setFlow d f x).Sound := by
  intro h0; unfold Device.setFlow
  with_reducible
    dsimp only; apply Device.Sound.upd; assumption

theorem Device.modFlow_sound {d : Device} {f : Nat} {g : Flow → Flow} :
    d.Sound → (Device.modFlow d f g).Sound := by
  intro h0; unfold Device.modFlow
  with_reducible
    split; apply Device.setFlow_sound; assumption; assumption

theorem Device.freeFlow_sound {d : Device} {f : Nat} :
    d.Sound → (Device.freeFlow d f).Sound := by
  intro h0; unfold Device.freeFlow
  with_reducible
    dsimp only; apply Device.Sound.upd; assumption

theorem Device.queueFrame_sound {d : Device} {port prio : Nat} {bs : List Byte} :
    d.Sound → (Device.queueFrame d port prio bs).Sound := by
  intro h0; unfold Device.queueFrame
  with_reducible
    dsimp only; apply Device.Sound.upd; assumption

theorem Device.sendPacket_sound {d : Device} {f kind op flags : Nat} {mid payload : List Byte} :
    d.Sound → (Device.sendPacket d f kind op flags mid payload).1.Sound := by
  intro h0; unfold Device.sendPacket
  with_reducible
    split; assumption; split; assumption; apply Device.ite_fst_sound; assumption; apply Device.bump64_sound; apply Device.setFlow_sound
    apply Device.queueFrame_sound; assumption

theorem Device.hubSignal_sound {d : Device} {core sem stroke : Nat} :
    d.Sound → (Device.hubSignal d core sem stroke).Sound := by
  intro h0; unfold Device.hubSignal
  with_reducible
    apply Device.Sound.upd; assumption

theorem Device.descSignal_sound {d : Device} {part core sem stroke : Nat} :
    d.Sound → (Device.descSignal d part core sem stroke).Sound := by
  intro h0; unfold Device.descSignal
  with_reducible
    apply Device.ite_sound; apply Device.hubSignal_sound; assumption; assumption

theorem Device.aqRecord_sound {d : Device} {part comp status stroke : Nat} {signal : Option (Nat × Nat)} :
    d.Sound → (Device.aqRecord d part comp status stroke signal).Sound := by
  intro h0; unfold Device.aqRecord
  with_reducible
    split; apply Device.descSignal_sound; apply Device.writeVa_sound; assumption; apply Device.writeVa_sound; assumption

theorem Device.aqFinish_sound {d : Device} {part : Nat} {m : TxMsg} {status : Nat} :
    d.Sound → (Device.aqFinish d part m status).Sound := by
  intro h0; unfold Device.aqFinish
  with_reducible
    split; apply Device.aqRecord_sound; assumption; apply Device.ite_sound; assumption; dsimp only; apply Device.Sound.upd; assumption
    apply Device.ite_sound; assumption; dsimp only; apply Device.Sound.upd; assumption; apply Device.ite_sound; assumption; dsimp only
    apply Device.Sound.upd; assumption; assumption

theorem Device.aqComplete_sound {d : Device} {f i status : Nat} :
    d.Sound → (Device.aqComplete d f i status).Sound := by
  intro h0; unfold Device.aqComplete
  with_reducible
    split; assumption; split; assumption; apply Device.aqFinish_sound; apply Device.setFlow_sound; assumption

theorem Device.aqCompleteAll_sound {d : Device} {f status : Nat} {y0 : Nat} :
    d.Sound → (Device.aqCompleteAll d f status y0).Sound := by
  fun_induction Device.aqCompleteAll d f status y0 <;> intro h0
  with_reducible
    assumption; apply_assumption -exfalso -symm; apply Device.aqComplete_sound; assumption

theorem Device.breakFlow_sound {d : Device} {f : Nat} :
    d.Sound → (Device.breakFlow d f).Sound := by
  intro h0; unfold Device.breakFlow
  with_reducible
    split; assumption; apply Device.firePart_sound; apply Device.bump_sound; apply Device.aqCompleteAll_sound
    apply Device.setFlow_sound; assumption

theorem Device.pumpFlow_sound {d : Device} {f : Nat} {y0 : Nat} :
    d.Sound → (Device.pumpFlow d f y0).Sound := by
  fun_induction Device.pumpFlow d f y0 <;> intro h0
  with_reducible
    assumption; assumption; assumption; assumption; apply_assumption -exfalso -symm; apply Device.bump_sound; apply Device.modFlow_sound
    apply Device.sendPacket_sound; assumption; assumption; assumption; assumption; assumption; assumption
    apply_assumption -exfalso -symm; apply Device.modFlow_sound; apply Device.sendPacket_sound; assumption

theorem Device.pump_sound {d : Device} {f : Nat} :
    d.Sound → (Device.pump d f).Sound := by
  intro h0; unfold Device.pump
  with_reducible
    split; assumption; dsimp only; split; apply Device.pumpFlow_sound; assumption; apply Device.ite_sound; apply Device.ite_sound
    apply Device.modFlow_sound; apply Device.sendPacket_sound; apply Device.pumpFlow_sound; assumption; apply Device.pumpFlow_sound
    assumption; apply Device.pumpFlow_sound; assumption

theorem Device.pumpAll_sound {d : Device} :
    d.Sound → (Device.pumpAll d).Sound := by
  intro h0; unfold Device.pumpAll
  with_reducible
    apply Device.foldl_sound; intro _; intro _; intro _; apply Device.pump_sound; assumption; assumption

theorem Device.aqPost_sound {d : Device} {f : Nat} {m : TxMsg} :
    d.Sound → (Device.aqPost d f m).Sound := by
  intro h0; unfold Device.aqPost
  with_reducible
    apply Device.pump_sound; apply Device.modFlow_sound; assumption

theorem Device.aqReduction_sound {d : Device} {part f stroke : Nat} {piece : Bool} {xfmt dest : Nat} {bs : List Byte} :
    d.Sound → (Device.aqReduction d part f stroke piece xfmt dest bs).Sound := by
  intro h0; unfold Device.aqReduction
  with_reducible
    split; assumption; apply Device.ite_sound; apply Device.aqPost_sound; assumption; assumption

theorem Device.sendSkip_sound {d : Device} {f : Nat} {k : AqSkip} :
    d.Sound → (Device.sendSkip d f k).Sound := by
  intro h0; unfold Device.sendSkip
  with_reducible
    apply Device.ite_sound; apply Device.modFlow_sound; apply Device.sendPacket_sound; assumption; assumption

theorem Device.cancelFlow_sound {d : Device} {f stroke : Nat} :
    d.Sound → (Device.cancelFlow d f stroke).Sound := by
  intro h0; unfold Device.cancelFlow
  with_reducible
    split; assumption; apply Device.pump_sound; apply Device.foldl_sound; intro _; intro _; intro _; apply Device.sendSkip_sound
    assumption; apply Device.foldl_sound; intro _; intro _; intro _; apply Device.aqFinish_sound; assumption; apply Device.setFlow_sound
    assumption

theorem Device.aqStrokeStart_sound {d : Device} {p : Nat} :
    d.Sound → (Device.aqStrokeStart d p).Sound := by
  intro h0; unfold Device.aqStrokeStart
  with_reducible
    apply Device.foldl_sound; intro _; intro _; intro _; apply Device.ite_sound; apply Device.cancelFlow_sound; assumption; assumption
    assumption

end Machine
end Sys2Proof
end

