-- ==== Sys2Proof/Laws/SoundCopies.lean ====
section
/-!
SUPPORT. Soundness is kept by the operations of Machine/Copies.lean.
-/
namespace Sys2Proof
namespace Machine

theorem Device.pumpSlots_sound {d : Device} {c : Nat} :
    d.Sound → (Device.pumpSlots d c).Sound := by
  intro h0; unfold Device.pumpSlots
  with_reducible
    apply Device.setFld_sound; apply Device.setFld_sound; apply Device.modCore_sound; assumption; intro _; intro _
    apply Core.issueSlots_sound; assumption

theorem Device.requestResponse_sound {d : Device} {c i : Nat} :
    d.Sound → (Device.requestResponse d c i).Sound := by
  intro h0; unfold Device.requestResponse
  with_reducible
    apply Device.pumpSlots_sound; apply Device.modCore_sound; assumption; intro _; intro _; apply Core.Sound.upd; assumption

theorem Device.withdrawalConfirm_sound {d : Device} {c i : Nat} :
    d.Sound → (Device.withdrawalConfirm d c i).Sound := by
  intro h0; unfold Device.withdrawalConfirm
  with_reducible
    split; apply Device.ite_sound; apply Device.requestResponse_sound; assumption; assumption; assumption

theorem CopyRun.noteBad_sound {x : CopyRun} {akind addr : Nat} :
    (x.d).Sound → (CopyRun.noteBad x akind addr).d.Sound := by
  intro h0; unfold CopyRun.noteBad
  with_reducible
    split; assumption; assumption

theorem CopyRun.setLast_sound {x : CopyRun} {st unit : Nat} {run : BitVec 128} {marks : BitVec 2} :
    (x.d).Sound → (CopyRun.setLast x st unit run marks).d.Sound := by
  intro h0; unfold CopyRun.setLast
  with_reducible
    assumption

theorem CopyRun.fresh_sound {x : CopyRun} :
    (x.d).Sound → (CopyRun.fresh x).d.Sound := by
  intro h0; unfold CopyRun.fresh
  with_reducible
    assumption

theorem CopyRun.take_sound {x : CopyRun} {bank : Option Nat} :
    (x.d).Sound → (CopyRun.take x bank).d.Sound := by
  intro h0; unfold CopyRun.take
  with_reducible
    assumption

theorem CopyRun.locate_sound {x : CopyRun} {sp : Bool} {acc : Access} {a : Nat} :
    (x.d).Sound → (CopyRun.locate x sp acc a).1.d.Sound := by
  intro h0; unfold CopyRun.locate
  with_reducible
    apply CopyRun.ite_fst_sound; split; refine Device.fst_eq ‹_ = (_, _)› ?_; apply Device.coreXlate_sound; assumption
    refine Device.fst_eq ‹_ = (_, _)› ?_; apply Device.coreXlate_sound; assumption; assumption

theorem CopyRun.locateParts_sound {x : CopyRun} {sp : Bool} {acc : Access} {y0 : List (Nat × Nat)} :
    (x.d).Sound → (CopyRun.locateParts x sp acc y0).1.d.Sound := by
  fun_induction CopyRun.locateParts x sp acc y0 <;> intro h0
  with_reducible
    assumption; refine CopyRun.fst_eq ‹_ = (_, _)› ?_; apply CopyRun.locate_sound; assumption; refine CopyRun.fst_eq ‹_ = (_, _)› ?_
    apply_assumption -exfalso -symm; refine CopyRun.fst_eq ‹_ = (_, _)› ?_; apply CopyRun.locate_sound; assumption
    refine CopyRun.fst_eq ‹_ = (_, _)› ?_; apply_assumption -exfalso -symm; refine CopyRun.fst_eq ‹_ = (_, _)› ?_
    apply CopyRun.locate_sound; assumption

theorem CopyRun.locateAll_sound {x : CopyRun} {sp : Bool} {acc : Access} {a n : Nat} :
    (x.d).Sound → (CopyRun.locateAll x sp acc a n).1.d.Sound := by
  intro h0; unfold CopyRun.locateAll
  with_reducible
    apply CopyRun.locateParts_sound; assumption

theorem CopyRun.windowRequests_sound {x : CopyRun} {st : Nat} {y0 : List (Nat × Nat)} :
    (x.d).Sound → (CopyRun.windowRequests x st y0).d.Sound := by
  fun_induction CopyRun.windowRequests x st y0 <;> intro h0
  with_reducible
    assumption; apply_assumption -exfalso -symm; apply CopyRun.ite_sound; assumption; apply CopyRun.take_sound
    apply CopyRun.setLast_sound; assumption

theorem CopyRun.readPlace_sound {x : CopyRun} {st : Nat} {pl : Place} {n : Nat} :
    (x.d).Sound → (CopyRun.readPlace x st pl n).1.d.Sound := by
  intro h0; unfold CopyRun.readPlace
  with_reducible
    split; dsimp only; split; apply CopyRun.noteBad_sound; apply Device.sramRead_sound; assumption; apply Device.sramRead_sound
    assumption; dsimp only; split; apply CopyRun.noteBad_sound; apply CopyRun.windowRequests_sound; apply Device.sramRead_sound
    assumption; apply CopyRun.windowRequests_sound; apply Device.sramRead_sound; assumption; apply CopyRun.ite_sound
    apply CopyRun.noteBad_sound; apply CopyRun.ite_sound; apply CopyRun.take_sound; apply CopyRun.setLast_sound
    apply Device.cacheRead_sound; assumption; apply CopyRun.ite_sound; apply CopyRun.setLast_sound; apply Device.cacheRead_sound
    assumption; apply CopyRun.take_sound; apply CopyRun.setLast_sound; apply Device.cacheRead_sound; assumption; apply CopyRun.ite_sound
    apply CopyRun.take_sound; apply CopyRun.setLast_sound; apply Device.cacheRead_sound; assumption; apply CopyRun.ite_sound
    apply CopyRun.setLast_sound; apply Device.cacheRead_sound; assumption; apply CopyRun.take_sound; apply CopyRun.setLast_sound
    apply Device.cacheRead_sound; assumption

theorem CopyRun.readParts_sound {x : CopyRun} {st : Nat} {y0 : List (Place × Nat)} :
    (x.d).Sound → (CopyRun.readParts x st y0).1.d.Sound := by
  fun_induction CopyRun.readParts x st y0 <;> intro h0
  with_reducible
    assumption; apply_assumption -exfalso -symm; apply CopyRun.readPlace_sound; assumption

theorem Device.sramPlace_sound {d : Device} {k off : Nat} {bs : List (Byte × Bool)} :
    d.Sound → (Device.sramPlace d k off bs).1.Sound := by
  intro h0; unfold Device.sramPlace
  with_reducible
    apply Device.modCore_sound; apply Device.sramStore_sound; assumption; intro _; intro _; apply Core.sramMark_sound; assumption

theorem CopyRun.writePlace_sound {x : CopyRun} {st : Nat} {pl : Place} {bs : List (Byte × Bool)} :
    (x.d).Sound → (CopyRun.writePlace x st pl bs).d.Sound := by
  intro h0; unfold CopyRun.writePlace
  with_reducible
    split; apply CopyRun.ite_sound; apply CopyRun.noteBad_sound; apply Device.sramPlace_sound; assumption; apply Device.sramPlace_sound
    assumption; apply CopyRun.ite_sound; apply CopyRun.noteBad_sound; apply CopyRun.windowRequests_sound; apply Device.sramPlace_sound
    assumption; apply CopyRun.windowRequests_sound; apply Device.sramPlace_sound; assumption; apply CopyRun.ite_sound
    apply CopyRun.setLast_sound; apply Device.cacheWrite_sound; assumption; apply CopyRun.take_sound; apply CopyRun.setLast_sound
    apply Device.cacheWrite_sound; assumption

theorem CopyRun.writeParts_sound {x : CopyRun} {st : Nat} {y0 : List (Place × Nat)} {y1 : List (Byte × Bool)} :
    (x.d).Sound → (CopyRun.writeParts x st y0 y1).d.Sound := by
  fun_induction CopyRun.writeParts x st y0 y1 <;> intro h0
  with_reducible
    assumption; apply_assumption -exfalso -symm; apply CopyRun.writePlace_sound; assumption

theorem CopyRun.finish_sound {x : CopyRun} {f : Option CmdFault} :
    (x.d).Sound → (CopyRun.finish x f).1.Sound := by
  intro h0; unfold CopyRun.finish
  with_reducible
    apply Device.pumpSlots_sound; apply Device.modCore_sound; assumption; intro _; intro _; apply Core.Sound.upd; assumption

theorem Device.copyCommand_sound {d : Device} {c m : Nat} {isOp : QEntry → Bool} {check : Device → Nat → Option Nat} {run : CopyRun → Nat → CopyRun × Option CmdFault} :
    d.Sound → (∀ (x0 : CopyRun) (x1 : Nat), x0.d.Sound → (run x0 x1).1.d.Sound) → (Device.copyCommand d c m isOp check run).Sound := by
  intro h0 h1; unfold Device.copyCommand
  with_reducible
    apply Device.runFront_sound; assumption; intro _; intro _; intro _; split; assumption; apply CopyRun.finish_sound; apply h1
    assumption

theorem CopyRun.moveBytes_sound {x : CopyRun} {ssp dsp : Bool} {src dst : Nat} {down : Bool} {y0 : List (Nat × Nat)} :
    (x.d).Sound → (CopyRun.moveBytes x ssp dsp src dst down y0).1.d.Sound := by
  fun_induction CopyRun.moveBytes x ssp dsp src dst down y0 <;> intro h0
  with_reducible
    assumption; refine CopyRun.fst_eq ‹_ = (_, _)› ?_; apply CopyRun.locate_sound; assumption; refine CopyRun.fst_eq ‹_ = (_, _)› ?_
    apply CopyRun.locate_sound; refine CopyRun.fst_eq ‹_ = (_, _)› ?_; apply CopyRun.locate_sound; assumption
    apply_assumption -exfalso -symm; apply CopyRun.writePlace_sound; apply CopyRun.readPlace_sound
    refine CopyRun.fst_eq ‹_ = (_, _)› ?_; apply CopyRun.locate_sound; refine CopyRun.fst_eq ‹_ = (_, _)› ?_; apply CopyRun.locate_sound
    assumption

theorem linRun_sound {run : CopyRun} {x : Nat} :
    (run.d).Sound → (linRun run x).1.d.Sound := by
  intro h0; unfold linRun
  with_reducible
    apply CopyRun.moveBytes_sound; assumption

theorem Device.cpLin_sound {d : Device} {c m : Nat} :
    d.Sound → (Device.cpLin d c m).Sound := by
  intro h0; unfold Device.cpLin
  with_reducible
    apply Device.copyCommand_sound; assumption; intro _; intro _; intro _; apply linRun_sound; assumption

theorem CopyRun.cacheLine_sound {x : CopyRun} {drop : Bool} {l : CacheLine} :
    (x.d).Sound → (CopyRun.cacheLine x drop l).d.Sound := by
  intro h0; unfold CopyRun.cacheLine
  with_reducible
    apply Device.setCluster_sound; apply Device.bump_sound; apply Device.writeBack_sound; apply CopyRun.ite_sound; assumption
    apply CopyRun.take_sound; assumption

theorem CopyRun.cachePages_sound {x : CopyRun} {drop : Bool} {base : Nat} {y0 : List (Nat × Nat)} :
    (x.d).Sound → (CopyRun.cachePages x drop base y0).1.d.Sound := by
  fun_induction CopyRun.cachePages x drop base y0 <;> intro h0
  · exact h0
  · rename_i e
    exact Device.fst_eq e (Device.coreXlate_sound h0)
  · rename_i e _ y ih
    have h1 := Device.fst_eq e (Device.coreXlate_sound h0)
    refine ih ?_
    simp only [y]
    split
    · exact h1
    · exact CopyRun.foldl_sound (fun _ _ h => CopyRun.cacheLine_sound h) _ h1

theorem cacheRun_sound {drop : Bool} {run : CopyRun} {x : Nat} :
    (run.d).Sound → (cacheRun drop run x).1.d.Sound := by
  intro h0; unfold cacheRun
  with_reducible
    apply CopyRun.ite_fst_sound; apply CopyRun.foldl_sound; intro _; intro _; intro _; apply CopyRun.cacheLine_sound; assumption
    assumption; apply CopyRun.cachePages_sound; assumption

theorem Device.cacheCommand_sound {d : Device} {c m opc : Nat} {drop : Bool} :
    d.Sound → (Device.cacheCommand d c m opc drop).Sound := by
  intro h0; unfold Device.cacheCommand
  with_reducible
    apply Device.copyCommand_sound; assumption; intro _; intro _; intro _; apply cacheRun_sound; assumption

theorem CopyRun.readImage_sound {x : CopyRun} {ssp : Bool} {y0 : List (Nat × Nat)} :
    (x.d).Sound → (CopyRun.readImage x ssp y0).1.d.Sound := by
  fun_induction CopyRun.readImage x ssp y0 <;> intro h0
  with_reducible
    assumption; refine CopyRun.fst_eq ‹_ = (_, _)› ?_; apply CopyRun.locate_sound; assumption; apply_assumption -exfalso -symm
    apply CopyRun.readPlace_sound; refine CopyRun.fst_eq ‹_ = (_, _)› ?_; apply CopyRun.locate_sound; assumption

theorem Device.startLoad_sound {d : Device} {c m : Nat} {e : QEntry} :
    d.Sound → (Device.startLoad d c m e).Sound := by
  intro h0; unfold Device.startLoad
  with_reducible
    apply Device.ite_sound; apply Device.setFront_sound; apply Device.setFlag_sound; apply Device.setFlag_sound
    apply Device.modCore_sound; apply CopyRun.finish_sound; apply CopyRun.readImage_sound; assumption; intro _; intro _
    apply Core.Sound.upd; assumption; apply Device.setFront_sound; apply Device.setFlag_sound; apply Device.modCore_sound
    apply CopyRun.finish_sound; apply CopyRun.readImage_sound; assumption; intro _; intro _; apply Core.Sound.upd; assumption

theorem Device.cpTable_sound {d : Device} {c m : Nat} :
    d.Sound → (Device.cpTable d c m).Sound := by
  intro h0; unfold Device.cpTable
  with_reducible
    split; assumption; apply Device.ite_sound; assumption; dsimp only; split; apply Device.setFront_sound; assumption
    apply Device.ite_sound; apply Device.startLoad_sound; assumption; apply Device.setFront_sound; assumption

theorem Device.tableLoadStart_sound {d : Device} {c m : Nat} :
    d.Sound → (Device.tableLoadStart d c m).Sound := by
  intro h0; unfold Device.tableLoadStart
  with_reducible
    split; assumption; apply Device.ite_sound; apply Device.startLoad_sound; assumption; assumption

theorem Device.publish_sound {d : Device} {c m : Nat} {e : QEntry} {h : Nat} :
    d.Sound → (Device.publish d c m e h).Sound := by
  intro h0; unfold Device.publish
  with_reducible
    dsimp only; split; apply Device.setFront_sound; apply Device.bump_sound; apply Device.setFld_sound; apply Device.setFlag_sound
    apply Device.setFld_sound; apply Device.setFld_sound; apply Device.setFld_sound; apply Device.setFlag_sound
    apply Device.setFlag_sound; assumption; apply Device.setFront_sound; apply Device.noteTag_sound; apply Device.setReg_sound
    apply Device.bump_sound; apply Device.setFlag_sound; apply Device.setFlag_sound; assumption

theorem Device.tablePublish_sound {d : Device} {c s : Nat} :
    d.Sound → (Device.tablePublish d c s).Sound := by
  intro h0; unfold Device.tablePublish
  with_reducible
    dsimp only; split; assumption; split; split; apply Device.publish_sound; assumption; assumption; assumption

end Machine
end Sys2Proof
end

