-- ==== Sys2Proof/Laws/SoundScan.lean ====
section
/-!
SUPPORT. Soundness is kept by the operations of Machine/Scan.lean.
-/
namespace Sys2Proof
namespace Machine

theorem Device.sfMap_sound {d : Device} {c w fn : Nat} {t : Table} :
    d.Sound → (Device.sfMap d c w fn t).1.Sound := by
  intro h0; unfold Device.sfMap
  with_reducible
    apply Device.vxMap_sound; assumption

theorem Device.sfBuiltin_sound {d : Device} {c fn : Nat} :
    d.Sound → (Device.sfBuiltin d c fn).Sound := by
  intro h0; unfold Device.sfBuiltin
  with_reducible
    apply Device.vx_sound; assumption; intro _; intro _; intro _; apply Device.sfMap_sound; assumption

theorem Device.sfTab_sound {d : Device} {c : Nat} :
    d.Sound → (Device.sfTab d c).Sound := by
  intro h0; unfold Device.sfTab
  with_reducible
    split; assumption; apply Device.ite_sound; assumption; apply Device.runChecked_sound; assumption; intro _; intro _; intro _
    apply Device.ite_fst_sound; assumption; apply Device.sfMap_sound; assumption

theorem Device.scanWork_sound {d : Device} {c : Nat} {kind : Nat} {w : Nat} :
    d.Sound → (Device.scanWork d c kind w).1.Sound := by
  intro h0; unfold Device.scanWork
  with_reducible
    apply Device.modCore_sound; assumption; intro _; intro _; apply Core.ite_sound; split; apply Core.putCarry_sound
    apply Core.ite_sound; apply Core.putElems_sound; apply Core.putElems_sound; assumption; apply Core.putElems_sound; assumption
    apply Core.ite_sound; apply Core.putElems_sound; apply Core.putElems_sound; assumption; apply Core.putElems_sound; assumption
    apply Core.ite_sound; apply Core.putElems_sound; apply Core.putElems_sound; assumption; apply Core.putElems_sound; assumption

theorem Device.vxScan_sound {d : Device} {c kind : Nat} :
    d.Sound → (Device.vxScan d c kind).Sound := by
  intro h0; unfold Device.vxScan
  with_reducible
    apply Device.vx_sound; assumption; intro _; intro _; intro _; apply Device.scanWork_sound; assumption

theorem Device.bscanWork_sound {d : Device} {c : Nat} {kind : Nat} {w : Nat} :
    d.Sound → (Device.bscanWork d c kind w).1.Sound := by
  intro h0; unfold Device.bscanWork
  with_reducible
    apply Device.modCore_sound; assumption; intro _; intro _; apply Core.ite_sound; apply Core.putCarry_sound; apply Core.ite_sound
    apply Core.foldl_sound; intro _; intro _; intro _; apply Core.putElems_sound; assumption; apply Core.foldl_sound; intro _; intro _
    intro _; apply Core.putElems_sound; assumption; assumption; apply Core.foldl_sound; intro _; intro _; intro _
    apply Core.putElems_sound; assumption; assumption; apply Core.ite_sound; apply Core.foldl_sound; intro _; intro _; intro _
    apply Core.putElems_sound; assumption; apply Core.foldl_sound; intro _; intro _; intro _; apply Core.putElems_sound; assumption
    assumption; apply Core.foldl_sound; intro _; intro _; intro _; apply Core.putElems_sound; assumption; assumption

theorem Device.vxBscan_sound {d : Device} {c kind : Nat} :
    d.Sound → (Device.vxBscan d c kind).Sound := by
  intro h0; unfold Device.vxBscan
  with_reducible
    apply Device.vx_sound; assumption; intro _; intro _; intro _; apply Device.bscanWork_sound; assumption

theorem Device.cgetWork_sound {d : Device} {c : Nat} {w : Nat} :
    d.Sound → (Device.cgetWork d c w).1.Sound := by
  intro h0; unfold Device.cgetWork
  with_reducible
    apply Device.modCore_sound; assumption; intro _; intro _; apply Core.putElems_sound; assumption

theorem Device.vxCget_sound {d : Device} {c : Nat} :
    d.Sound → (Device.vxCget d c).Sound := by
  intro h0; unfold Device.vxCget
  with_reducible
    apply Device.vx_sound; assumption; intro _; intro _; intro _; apply Device.cgetWork_sound; assumption

theorem Device.csetWork_sound {d : Device} {c : Nat} {w : Nat} :
    d.Sound → (Device.csetWork d c w).1.Sound := by
  intro h0; unfold Device.csetWork
  with_reducible
    apply Device.modCore_sound; assumption; intro _; intro _; apply Core.putCarry_sound; assumption

theorem Device.vxCset_sound {d : Device} {c : Nat} :
    d.Sound → (Device.vxCset d c).Sound := by
  intro h0; unfold Device.vxCset
  with_reducible
    apply Device.vx_sound; assumption; intro _; intro _; intro _; apply Device.csetWork_sound; assumption

theorem Device.rstatWork_sound {d : Device} {c : Nat} {w : Nat} :
    d.Sound → (Device.rstatWork d c w).1.Sound := by
  intro h0; unfold Device.rstatWork
  with_reducible
    apply Device.modCore_sound; assumption; intro _; intro _; apply Core.foldl_sound; intro _; intro _; intro _
    apply Core.putElems_sound; assumption; assumption

theorem Device.vxRstat_sound {d : Device} {c : Nat} :
    d.Sound → (Device.vxRstat d c).Sound := by
  intro h0; unfold Device.vxRstat
  with_reducible
    apply Device.vx_sound; assumption; intro _; intro _; intro _; apply Device.rstatWork_sound; assumption

theorem Device.rstatcWork_sound {d : Device} {c : Nat} {w : Nat} :
    d.Sound → (Device.rstatcWork d c w).1.Sound := by
  intro h0; unfold Device.rstatcWork
  with_reducible
    apply Device.modCore_sound; assumption; intro _; intro _; apply Core.foldl_sound; intro _; intro _; intro _
    apply Core.putElems_sound; assumption; assumption

theorem Device.vxRstatc_sound {d : Device} {c : Nat} :
    d.Sound → (Device.vxRstatc d c).Sound := by
  intro h0; unfold Device.vxRstatc
  with_reducible
    apply Device.vx_sound; assumption; intro _; intro _; intro _; apply Device.rstatcWork_sound; assumption

theorem Device.smxMaxWork_sound {d : Device} {c : Nat} {w : Nat} :
    d.Sound → (Device.smxMaxWork d c w).1.Sound := by
  intro h0; unfold Device.smxMaxWork
  with_reducible
    apply Device.modCore_sound; assumption; intro _; intro _; apply Core.foldl_sound; intro _; intro _; intro _
    apply Core.putElems_sound; assumption; assumption

theorem Device.vxSmxMax_sound {d : Device} {c : Nat} :
    d.Sound → (Device.vxSmxMax d c).Sound := by
  intro h0; unfold Device.vxSmxMax
  with_reducible
    apply Device.vx_sound; assumption; intro _; intro _; intro _; apply Device.smxMaxWork_sound; assumption

theorem Device.smxSumWork_sound {d : Device} {c : Nat} {w : Nat} :
    d.Sound → (Device.smxSumWork d c w).1.Sound := by
  intro h0; unfold Device.smxSumWork
  with_reducible
    apply Device.modCore_sound; assumption; intro _; intro _; apply Core.putElems_sound; apply Core.putElems_sound; assumption

theorem Device.vxSmxSum_sound {d : Device} {c : Nat} :
    d.Sound → (Device.vxSmxSum d c).Sound := by
  intro h0; unfold Device.vxSmxSum
  with_reducible
    apply Device.vx_sound; assumption; intro _; intro _; intro _; apply Device.smxSumWork_sound; assumption

end Machine
end Sys2Proof
end

