-- ==== Sys2Proof/Laws/SoundReduction.lean ====
section
/-!
SUPPORT. Soundness is kept by the operations of Machine/Reduction.lean.
-/
namespace Sys2Proof
namespace Machine

theorem Device.redCount_sound {d : Device} {p : Nat} {k : RedCounts} :
    d.Sound → (Device.redCount d p k).Sound := by
  intro h0; unfold Device.redCount
  with_reducible
    apply Device.bump_sound; apply Device.bump_sound; apply Device.bump_sound; apply Device.bump_sound; assumption

theorem Device.setBucket_sound {d : Device} {i : Nat} {b : Bucket} :
    d.Sound → (Device.setBucket d i b).Sound := by
  intro h0; unfold Device.setBucket
  with_reducible
    dsimp only; apply Device.Sound.upd; assumption

theorem Device.readMarked_sound {d : Device} {pa n : Nat} :
    d.Sound → (Device.readMarked d pa n).1.Sound := by
  intro h0; unfold Device.readMarked
  with_reducible
    split; apply Device.sramRead_sound; assumption; assumption; apply Device.dramRead_sound; assumption

theorem Device.readPages_sound {d : Device} {m : Cells Nat} {y0 : List (Nat × Nat)} :
    d.Sound → (Device.readPages d m y0).1.Sound := by
  induction y0 generalizing d with
  | nil => intro h0; rw [Device.readPages]; exact h0
  | cons x rest ih =>
    obtain ⟨va, n⟩ := x
    intro h0
    rw [Device.readPages]
    exact Device.pair_sound (ih (Device.readMarked_sound h0))

theorem Device.writePages_sound {d : Device} {m : Cells Nat} {y0 : List (Nat × Nat)} {y1 : List Byte} :
    d.Sound → (Device.writePages d m y0 y1).1.Sound := by
  induction y0 generalizing d y1 with
  | nil => intro h0; rw [Device.writePages]; exact h0
  | cons x rest ih =>
    obtain ⟨va, n⟩ := x
    intro h0
    rw [Device.writePages]
    exact Device.pair_sound (ih (Device.physWrite_sound h0))

theorem Device.redRead_sound {d : Device} {b : Bucket} {rs : List (Nat × Nat)} :
    d.Sound → (Device.redRead d b rs).1.Sound := by
  intro h0; unfold Device.redRead
  with_reducible
    apply Device.readPages_sound; assumption

theorem Device.redPut_sound {d : Device} {b : Bucket} {va : Nat} {bs : List Byte} :
    d.Sound → (Device.redPut d b va bs).Sound := by
  intro h0; unfold Device.redPut
  with_reducible
    apply Device.writePages_sound; assumption

theorem Device.redFault_sound {d : Device} {p stroke tag status index addr : Nat} :
    d.Sound → (Device.redFault d p stroke tag status index addr).Sound := by
  intro h0; unfold Device.redFault
  with_reducible
    apply Device.raise_sound; assumption

theorem Device.redPayload_sound {d : Device} {b : Bucket} {va n index : Nat} :
    d.Sound → (Device.redPayload d b va n index).1.Sound := by
  intro h0; unfold Device.redPayload
  with_reducible
    apply Device.ite_sound; apply Device.redFault_sound; apply Device.redRead_sound; assumption; apply Device.redRead_sound; assumption

theorem Device.redSend_sound {d : Device} {b : Bucket} {sender parent pslot : Nat} {piece : Bool} {bs : List Byte} :
    d.Sound → (Device.redSend d b sender parent pslot piece bs).Sound := by
  intro h0; unfold Device.redSend
  with_reducible
    apply Device.ite_sound; dsimp only; apply Device.Sound.upd; assumption; apply Device.aqReduction_sound; assumption

theorem Device.leafPiece_sound {d : Device} {b : Bucket} {l : RedLeaf} {step i : Nat} :
    d.Sound → (Device.leafPiece d b l step i).Sound := by
  intro h0; unfold Device.leafPiece
  with_reducible
    apply Device.redSend_sound; apply Device.bump64_sound; apply Device.redCount_sound; apply Device.redPayload_sound; assumption

theorem Device.leafPieces_sound {d : Device} {b : Bucket} {l : RedLeaf} {step : Nat} :
    d.Sound → (Device.leafPieces d b l step).Sound := by
  intro h0; unfold Device.leafPieces
  with_reducible
    apply Device.ite_sound; assumption; apply Device.foldl_sound; intro _; intro _; intro _; apply Device.leafPiece_sound; assumption
    assumption

theorem Device.leafAbsent_sound {d : Device} {b : Bucket} {l : RedLeaf} :
    d.Sound → (Device.leafAbsent d b l).Sound := by
  intro h0; unfold Device.leafAbsent
  with_reducible
    apply Device.ite_sound; assumption; apply Device.foldl_sound; intro _; intro _; intro _; apply Device.redSend_sound
    apply Device.bump_sound; assumption; apply Device.redSend_sound; assumption

theorem Device.leafFill_sound {d : Device} {i j : Nat} {bs : List Byte} :
    d.Sound → (Device.leafFill d i j bs).Sound := by
  intro h0; unfold Device.leafFill
  with_reducible
    split; assumption; split; assumption; apply Device.ite_sound; apply Device.leafPieces_sound; apply Device.setBucket_sound
    assumption; assumption

theorem Device.leavesAbsent_sound {d : Device} {i : Nat} :
    d.Sound → (Device.leavesAbsent d i).Sound := by
  intro h0; unfold Device.leavesAbsent
  with_reducible
    split; assumption; apply Device.foldl_sound; intro _; intro _; intro _; split; assumption; split; apply Device.ite_sound
    apply Device.leafAbsent_sound; split; dsimp only; apply Device.Sound.upd; apply Device.setBucket_sound; assumption
    apply Device.setBucket_sound; assumption; assumption; assumption; assumption

theorem Device.rewatch_sound {d : Device} :
    d.Sound → (Device.rewatch d).Sound := by
  intro h0; unfold Device.rewatch
  with_reducible
    dsimp only; apply Device.Sound.upd; assumption

theorem Device.redFree_sound {d : Device} :
    d.Sound → (Device.redFree d).Sound := by
  intro h0; unfold Device.redFree
  with_reducible
    apply Device.ite_sound; apply Device.rewatch_sound; dsimp only; apply Device.Sound.upd; assumption; assumption

theorem Device.redStrokeStart_sound {d : Device} {p : Nat} :
    d.Sound → (Device.redStrokeStart d p).Sound := by
  intro h0; unfold Device.redStrokeStart
  with_reducible
    apply Device.rewatch_sound; dsimp only; apply Device.Sound.upd; assumption

theorem Device.slotForward_sound {d : Device} {b : Bucket} {s : RedSlot} {settled : Bool} {bs : List Byte} :
    d.Sound → (Device.slotForward d b s settled bs).Sound := by
  intro h0; unfold Device.slotForward
  with_reducible
    apply Device.ite_sound; apply Device.ite_sound; apply Device.bump_sound; assumption; assumption; apply Device.redSend_sound
    apply Device.ite_sound; apply Device.bump_sound; assumption; assumption

theorem Device.slotRead_sound {d : Device} {b : Bucket} {s : RedSlot} {right : Bool} {i : Nat} :
    d.Sound → (Device.slotRead d b s right i).1.Sound := by
  intro h0; unfold Device.slotRead
  with_reducible
    apply Device.redCount_sound; apply Device.redPayload_sound; assumption

theorem Device.slotResolve_sound {d : Device} {b : Bucket} {s : RedSlot} {i : Nat} {fresh : Option (Bool × List Byte)} :
    d.Sound → (Device.slotResolve d b s i fresh).Sound := by
  intro h0; unfold Device.slotResolve
  with_reducible
    split; split; apply Device.slotForward_sound; apply Device.bump64_sound; apply Device.redCount_sound; apply Device.ite_sound
    apply Device.ite_fst_sound; apply Device.ite_fst_sound; assumption; apply Device.slotRead_sound; assumption
    apply Device.slotRead_sound; apply Device.ite_fst_sound; assumption; apply Device.slotRead_sound; assumption
    apply Device.redPut_sound; apply Device.ite_fst_sound; apply Device.ite_fst_sound; assumption; apply Device.slotRead_sound
    assumption; apply Device.slotRead_sound; apply Device.ite_fst_sound; assumption; apply Device.slotRead_sound; assumption
    apply Device.slotForward_sound; apply Device.ite_fst_sound; assumption; apply Device.slotRead_sound; assumption
    apply Device.slotForward_sound; apply Device.ite_fst_sound; assumption; apply Device.slotRead_sound; assumption
    apply Device.slotForward_sound; assumption; assumption; split; apply Device.slotForward_sound; apply Device.bump64_sound
    apply Device.redCount_sound; apply Device.ite_sound; apply Device.slotRead_sound; apply Device.slotRead_sound; assumption
    apply Device.redPut_sound; apply Device.slotRead_sound; apply Device.slotRead_sound; assumption; apply Device.slotForward_sound
    apply Device.slotRead_sound; assumption; apply Device.slotForward_sound; apply Device.slotRead_sound; assumption
    apply Device.slotForward_sound; assumption; assumption

theorem Device.setSlot_sound {d : Device} {i k : Nat} {s : RedSlot} :
    d.Sound → (Device.setSlot d i k s).Sound := by
  intro h0; unfold Device.setSlot
  with_reducible
    split; apply Device.setBucket_sound; assumption; assumption

theorem Device.slotTake_sound {d : Device} {i k : Nat} {right : Bool} {bs : List Byte} :
    d.Sound → (Device.slotTake d i k right bs).Sound := by
  intro h0; unfold Device.slotTake
  with_reducible
    split; assumption; split; assumption; dsimp only; split; apply Device.bump_sound; assumption; apply Device.redFault_sound
    apply Device.bump_sound; assumption; split; apply Device.setSlot_sound; apply Device.ite_sound; assumption
    apply Device.redPut_sound; assumption; apply Device.slotResolve_sound; apply Device.setSlot_sound; apply Device.ite_sound
    apply Device.redPut_sound; assumption; assumption

theorem Device.slotMissing_sound {d : Device} {i k : Nat} {right : Bool} :
    d.Sound → (Device.slotMissing d i k right).Sound := by
  intro h0; unfold Device.slotMissing
  with_reducible
    split; assumption; split; assumption; apply Device.ite_sound; assumption; apply Device.foldl_sound; intro _; intro _; intro _
    apply Device.slotResolve_sound; assumption; apply Device.setSlot_sound; apply Device.ite_sound; assumption
    apply Device.redSend_sound; assumption

theorem Device.ownerMask_sound {d : Device} {b : Bucket} {o : RedOwner} :
    d.Sound → (Device.ownerMask d b o).Sound := by
  intro h0; unfold Device.ownerMask
  with_reducible
    apply Device.redPut_sound; assumption

theorem Device.ownerStore_sound {d : Device} {b : Bucket} {o : RedOwner} {h : PieceHdr} {bs : List Byte} :
    d.Sound → (Device.ownerStore d b o h bs).Sound := by
  intro h0; unfold Device.ownerStore
  with_reducible
    apply Device.redPut_sound; apply Device.ite_sound; assumption; apply Device.ite_sound; apply Device.redPut_sound
    apply Device.redPut_sound; apply Device.redPut_sound; assumption; apply Device.redPut_sound; assumption

theorem Device.ownerComplete_sound {d : Device} {i : Nat} {incomplete : Bool} :
    d.Sound → (Device.ownerComplete d i incomplete).Sound := by
  intro h0; unfold Device.ownerComplete
  with_reducible
    split; assumption; split; assumption; apply Device.ite_sound; apply Device.hubSignal_sound; apply Device.ite_sound
    apply Device.firePart_sound; apply Device.bump_sound; apply Device.bump_sound; apply Device.setBucket_sound
    apply Device.redPut_sound; assumption; apply Device.bump_sound; apply Device.setBucket_sound; apply Device.redPut_sound; assumption
    apply Device.ite_sound; apply Device.firePart_sound; apply Device.bump_sound; apply Device.bump_sound; apply Device.setBucket_sound
    apply Device.redPut_sound; assumption; apply Device.bump_sound; apply Device.setBucket_sound; apply Device.redPut_sound; assumption

theorem Device.ownerTake_sound {d : Device} {i : Nat} {bs : List Byte} :
    d.Sound → (Device.ownerTake d i bs).Sound := by
  intro h0; unfold Device.ownerTake
  with_reducible
    split; assumption; split; assumption; apply Device.ite_sound; apply Device.bump_sound; assumption; apply Device.ite_sound
    apply Device.redFault_sound; apply Device.bump_sound; assumption; apply Device.ite_sound; apply Device.ownerComplete_sound
    apply Device.setBucket_sound; apply Device.ownerStore_sound; assumption; apply Device.setBucket_sound; apply Device.ownerStore_sound
    assumption

theorem Device.ownerIncomplete_sound {d : Device} {i : Nat} :
    d.Sound → (Device.ownerIncomplete d i).Sound := by
  intro h0; unfold Device.ownerIncomplete
  with_reducible
    split; assumption; split; assumption; apply Device.ite_sound; assumption; apply Device.ownerComplete_sound
    apply Device.setBucket_sound; apply Device.ownerMask_sound; apply Device.foldl_sound; intro _; intro _; intro _
    apply Device.redPut_sound; assumption; assumption

theorem Device.ownerSettle_sound {d : Device} {i lo hi : Nat} :
    d.Sound → (Device.ownerSettle d i lo hi).Sound := by
  intro h0; unfold Device.ownerSettle
  with_reducible
    split; assumption; split; assumption; apply Device.ite_sound; assumption; apply Device.setBucket_sound; apply Device.ownerMask_sound
    assumption

theorem Device.redArrive_sound {d : Device} {p dest : Nat} {piece : Bool} {bs : List Byte} :
    d.Sound → (Device.redArrive d p dest piece bs).Sound := by
  intro h0; unfold Device.redArrive
  with_reducible
    apply Device.ite_sound; apply Device.bump_sound; assumption; apply Device.ite_sound; apply Device.bump_sound; assumption; split
    apply Device.bump_sound; assumption; split; apply Device.bump_sound; assumption; apply Device.ite_sound; apply Device.bump_sound
    assumption; apply Device.ite_sound; apply Device.ite_sound; apply Device.bump_sound; assumption; apply Device.redFree_sound
    apply Device.ite_sound; apply Device.ownerTake_sound; assumption; apply Device.ownerSettle_sound; assumption; apply Device.ite_sound
    apply Device.ite_sound; apply Device.redFree_sound; apply Device.slotTake_sound; assumption; split; apply Device.ite_sound
    assumption; apply Device.redSend_sound; assumption; assumption; apply Device.bump_sound; assumption

theorem Device.redDeliver_sound {d : Device} {j : Nat} {piece : Bool} :
    d.Sound → (Device.redDeliver d j piece).Sound := by
  intro h0; unfold Device.redDeliver
  with_reducible
    split; assumption; apply Device.ite_sound; apply Device.redArrive_sound; dsimp only; apply Device.Sound.upd; assumption; assumption

theorem Device.redRefuse_sound {d : Device} {p tag status addr : Nat} :
    d.Sound → (Device.redRefuse d p tag status addr).Sound := by
  intro h0; unfold Device.redRefuse
  with_reducible
    apply Device.firePart_sound; apply Device.setReg_sound; apply Device.setFld_sound; apply Device.setFlag_sound
    apply Device.redFault_sound; assumption

theorem Device.mapPages_sound {d : Device} {p : Nat} {accs : List Access} {y0 : List (Nat × Nat)} {y1 : Cells Nat} :
    d.Sound → (Device.mapPages d p accs y0 y1).1.Sound := by
  fun_induction Device.mapPages d p accs y0 y1 <;> intro h0
  with_reducible
    assumption; apply Device.foldl_fst_sound; intro _; intro _; intro _; intro _; split; assumption; apply Device.translate_sound
    assumption; assumption; apply_assumption -exfalso -symm; apply Device.foldl_fst_sound; intro _; intro _; intro _; intro _; split
    assumption; apply Device.translate_sound; assumption; assumption

theorem Device.mapRanges_sound {d : Device} {p : Nat} {y0 : List (Nat × Nat × List Access)} {y1 : Cells Nat} :
    d.Sound → (Device.mapRanges d p y0 y1).1.Sound := by
  fun_induction Device.mapRanges d p y0 y1 <;> intro h0
  with_reducible
    assumption; refine Device.fst_eq ‹_ = (_, _)› ?_; apply Device.mapPages_sound; assumption; apply_assumption -exfalso -symm
    refine Device.fst_eq ‹_ = (_, _)› ?_; apply Device.mapPages_sound; assumption

theorem Device.readFills_sound {d : Device} {i : Nat} {b : Bucket} :
    d.Sound → (Device.readFills d i b).Sound := by
  intro h0; unfold Device.readFills
  with_reducible
    apply Device.foldl_sound; intro _; intro _; intro _; split; assumption; apply Device.leafFill_sound; apply Device.physRead_sound
    assumption; assumption

theorem Device.redOpen_sound {d : Device} {p w t : Nat} :
    d.Sound → (Device.redOpen d p w t).Sound := by
  fun_cases Device.redOpen d p w t <;> intro h0
  with_reducible
    apply Device.redRefuse_sound; assumption; apply Device.redRefuse_sound; assumption; apply Device.redRefuse_sound
    apply Device.readVa_sound; assumption; apply Device.redRefuse_sound; apply Device.ite_fst_sound; apply Device.readVa_sound
    apply Device.readVa_sound; assumption; apply Device.readVa_sound; assumption; apply Device.redRefuse_sound
    apply Device.ite_fst_sound; apply Device.readVa_sound; apply Device.readVa_sound; assumption; apply Device.readVa_sound; assumption
    apply Device.redRefuse_sound; apply Device.readVa_sound; apply Device.ite_fst_sound; apply Device.readVa_sound
    apply Device.readVa_sound; assumption; apply Device.readVa_sound; assumption; apply Device.redRefuse_sound
    apply Device.readVa_sound; apply Device.ite_fst_sound; apply Device.readVa_sound; apply Device.readVa_sound; assumption
    apply Device.readVa_sound; assumption; apply Device.redRefuse_sound; apply Device.readVa_sound; apply Device.ite_fst_sound
    apply Device.readVa_sound; apply Device.readVa_sound; assumption; apply Device.readVa_sound; assumption
    apply Device.redRefuse_sound; refine Device.fst_eq ‹_ = (_, _)› ?_; apply Device.mapRanges_sound; apply Device.readVa_sound
    apply Device.ite_fst_sound; apply Device.readVa_sound; apply Device.readVa_sound; assumption; apply Device.readVa_sound; assumption
    apply Device.redRefuse_sound; apply Device.ite_fst_sound; apply Device.readVa_sound; refine Device.fst_eq ‹_ = (_, _)› ?_
    apply Device.mapRanges_sound; apply Device.readVa_sound; apply Device.ite_fst_sound; apply Device.readVa_sound
    apply Device.readVa_sound; assumption; apply Device.readVa_sound; assumption; refine Device.fst_eq ‹_ = (_, _)› ?_
    apply Device.mapRanges_sound; apply Device.readVa_sound; apply Device.ite_fst_sound; apply Device.readVa_sound
    apply Device.readVa_sound; assumption; apply Device.readVa_sound; assumption; apply Device.redFree_sound
    apply Device.readFills_sound; apply Device.Sound.upd; split; apply Device.ownerMask_sound; apply Device.rewatch_sound; dsimp only
    apply Device.Sound.upd; apply Device.ite_fst_sound; apply Device.readVa_sound; refine Device.fst_eq ‹_ = (_, _)› ?_
    apply Device.mapRanges_sound; apply Device.readVa_sound; apply Device.ite_fst_sound; apply Device.readVa_sound
    apply Device.readVa_sound; assumption; apply Device.readVa_sound; assumption; refine Device.fst_eq ‹_ = (_, _)› ?_
    apply Device.mapRanges_sound; apply Device.readVa_sound; apply Device.ite_fst_sound; apply Device.readVa_sound
    apply Device.readVa_sound; assumption; apply Device.readVa_sound; assumption; apply Device.rewatch_sound; dsimp only
    apply Device.Sound.upd; apply Device.ite_fst_sound; apply Device.readVa_sound; refine Device.fst_eq ‹_ = (_, _)› ?_
    apply Device.mapRanges_sound; apply Device.readVa_sound; apply Device.ite_fst_sound; apply Device.readVa_sound
    apply Device.readVa_sound; assumption; apply Device.readVa_sound; assumption; refine Device.fst_eq ‹_ = (_, _)› ?_
    apply Device.mapRanges_sound; apply Device.readVa_sound; apply Device.ite_fst_sound; apply Device.readVa_sound
    apply Device.readVa_sound; assumption; apply Device.readVa_sound; assumption

theorem Device.windowOpen_sound {d : Device} {p w : Nat} :
    d.Sound → (Device.windowOpen d p w).Sound := by
  intro h0; unfold Device.windowOpen
  with_reducible
    apply Device.ite_sound; assumption; apply Device.ite_sound; apply Device.redRefuse_sound; apply Device.readVa_sound; assumption
    apply Device.ite_sound; apply Device.redRefuse_sound; apply Device.readVa_sound; assumption; apply Device.ite_sound
    apply Device.redRefuse_sound; apply Device.readVa_sound; apply Device.readVa_sound; assumption; apply Device.foldl_sound; intro _
    intro _; intro _; apply Device.redOpen_sound; assumption; apply Device.readVa_sound; apply Device.readVa_sound; assumption

theorem Device.eachBucket_sound {d : Device} {f : Bucket → Bool} {g : Device → Nat → Device} :
    d.Sound → (∀ (x0 : Device) (x1 : Nat), x0.Sound → (g x0 x1).Sound) → (Device.eachBucket d f g).Sound := by
  intro h0 h1; unfold Device.eachBucket
  with_reducible
    apply Device.foldl_sound; intro _; intro _; intro _; split; apply h1; assumption; assumption; assumption

theorem Device.windowClose_sound {d : Device} {p w : Nat} :
    d.Sound → (Device.windowClose d p w).Sound := by
  intro h0; unfold Device.windowClose
  with_reducible
    apply Device.redFree_sound; apply Device.eachBucket_sound; assumption; intro _; intro _; intro _; apply Device.leavesAbsent_sound
    assumption

theorem Device.redSettle_sound {d : Device} {t i : Nat} :
    d.Sound → (Device.redSettle d t i).Sound := by
  intro h0; unfold Device.redSettle
  with_reducible
    split; assumption; apply Device.leavesAbsent_sound; apply Device.setBucket_sound; assumption

theorem Device.redSluice_sound {d : Device} {p t : Nat} :
    d.Sound → (Device.redSluice d p t).Sound := by
  intro h0; unfold Device.redSluice
  with_reducible
    apply Device.redFree_sound; apply Device.eachBucket_sound; assumption; intro _; intro _; intro _; apply Device.redSettle_sound
    assumption

theorem Device.slotSettle_sound {d : Device} {p tag slot : Nat} {downRank : Option (Nat × Bool)} :
    d.Sound → (Device.slotSettle d p tag slot downRank).Sound := by
  intro h0; unfold Device.slotSettle
  with_reducible
    split; assumption; split; assumption; split; dsimp only; split; apply Device.redFree_sound; apply Device.slotMissing_sound
    apply Device.slotMissing_sound; apply Device.Sound.upd; assumption; assumption; split; dsimp only; split; apply Device.redFree_sound
    apply Device.slotMissing_sound; assumption; assumption; dsimp only; split; assumption; assumption

theorem Device.ownerFinish_sound {d : Device} {p tag height : Nat} :
    d.Sound → (Device.ownerFinish d p tag height).Sound := by
  intro h0; unfold Device.ownerFinish
  with_reducible
    split; assumption; split; assumption; split; apply Device.redFree_sound; apply Device.ownerIncomplete_sound; apply Device.Sound.upd
    assumption; assumption

theorem Device.redCommand_sound {d : Device} {p : Nat} {f : Device → Device} :
    d.Sound → (∀ (x0 : Device), x0.Sound → (f x0).Sound) → (Device.redCommand d p f).Sound := by
  intro h0 h1; unfold Device.redCommand
  with_reducible
    apply Device.ite_sound; apply h1; assumption; apply Device.setFlag_sound; assumption

theorem Device.redSettleCmd_sound {d : Device} {p : Nat} :
    d.Sound → (Device.redSettleCmd d p).Sound := by
  intro h0; unfold Device.redSettleCmd
  with_reducible
    apply Device.redCommand_sound; assumption; intro _; intro _; split; apply Device.redFree_sound; apply Device.redSettle_sound
    assumption; assumption

theorem Device.fillWrite_sound {d : Device} :
    d.Sound → (Device.fillWrite d).Sound := by
  intro h0
  unfold Device.fillWrite
  split
  · exact h0
  · rename_i s e he
    have h1 : e.Sound := Device.takeSeen_sound h0 he
    refine Device.redFree_sound (Device.eachBucket_sound (Device.foldl_sound (fun _ _ h => Device.bump_sound h _ _) _ h1) ?_)
    intro d i h
    split
    · exact h
    · refine Device.foldl_sound (fun d j hd => ?_) _ h
      split
      · refine Device.ite_sound hd (Device.ite_sound (Device.leafFill_sound hd) (Device.bump_sound hd _ _))
      · exact hd

end Machine
end Sys2Proof
end

