-- ==== Sys2Proof/Laws/SoundAqReceive.lean ====
section
/-!
SUPPORT. Soundness is kept by the operations of Machine/AqReceive.lean.
-/
namespace Sys2Proof
namespace Machine

theorem Device.sendAck_sound {d : Device} {f : Nat} :
    d.Sound → (Device.sendAck d f).Sound := by
  intro h0; unfold Device.sendAck
  with_reducible
    split; assumption; apply Device.ite_sound; apply Device.modFlow_sound; apply Device.sendPacket_sound; apply Device.foldl_sound
    intro _; intro _; intro _; apply Device.sendPacket_sound; assumption; assumption; apply Device.sendPacket_sound
    apply Device.foldl_sound; intro _; intro _; intro _; apply Device.sendPacket_sound; assumption; assumption

theorem Device.sendPfc_sound {d : Device} {pause : Bool} :
    d.Sound → (Device.sendPfc d pause).Sound := by
  intro h0; unfold Device.sendPfc
  with_reducible
    apply Device.foldl_sound; intro _; intro _; intro _; apply Device.ite_sound; apply Device.queueFrame_sound; assumption; assumption
    assumption

theorem Device.checkPfc_sound {d : Device} :
    d.Sound → (Device.checkPfc d).Sound := by
  intro h0; unfold Device.checkPfc
  with_reducible
    apply Device.ite_sound; dsimp only; apply Device.Sound.upd; apply Device.sendPfc_sound; assumption; apply Device.ite_sound
    dsimp only; apply Device.Sound.upd; apply Device.sendPfc_sound; assumption; assumption

theorem Device.acceptData_sound {d : Device} {f : Nat} {x : Flow} {p : RxPkt} {ce : Bool} :
    d.Sound → (Device.acceptData d f x p ce).Sound := by
  intro h0; unfold Device.acceptData
  with_reducible
    apply Device.ite_sound; assumption; apply Device.ite_sound; apply Device.sendAck_sound; apply Device.setFlow_sound; assumption
    apply Device.ite_sound; apply Device.bump_sound; assumption; apply Device.checkPfc_sound; apply Device.ite_sound
    apply Device.sendAck_sound; apply Device.bump_sound; apply Device.setFlow_sound; apply Device.bump_sound; apply Device.bump64_sound
    assumption; apply Device.bump_sound; apply Device.setFlow_sound; apply Device.bump_sound; apply Device.bump64_sound; assumption

theorem Device.aqPacket_sound {d : Device} {g : Datagram} :
    d.Sound → (Device.aqPacket d g).Sound := by
  intro h0; unfold Device.aqPacket
  with_reducible
    apply Device.ite_sound; apply Device.bump_sound; assumption; apply Device.ite_sound; apply Device.bump_sound; assumption; split
    split; dsimp only; split; apply Device.bump_sound; assumption; apply Device.ite_sound; apply Device.bump_sound; assumption; split
    apply Device.fire_sound; apply Device.bump_sound; assumption; apply Device.ite_sound; assumption; apply Device.acceptData_sound
    assumption; dsimp only; split; apply Device.bump_sound; assumption; apply Device.ite_sound; apply Device.bump_sound; assumption
    split; apply Device.fire_sound; apply Device.bump_sound; assumption; apply Device.ite_sound; assumption; apply Device.bump64_sound
    apply Device.setFlow_sound; assumption; split; dsimp only; split; apply Device.bump_sound; assumption; apply Device.ite_sound
    apply Device.bump_sound; assumption; split; apply Device.fire_sound; apply Device.bump_sound; assumption; apply Device.ite_sound
    assumption; apply Device.acceptData_sound; assumption; dsimp only; split; apply Device.bump_sound; assumption
    apply Device.ite_sound; apply Device.bump_sound; assumption; split; apply Device.fire_sound; apply Device.bump_sound; assumption
    apply Device.ite_sound; assumption; apply Device.bump64_sound; apply Device.setFlow_sound; assumption

theorem Device.frameReceive_sound {d : Device} {port : Nat} {f : List Byte} :
    d.Sound → (Device.frameReceive d port f).Sound := by
  intro h0; unfold Device.frameReceive
  with_reducible
    apply Device.ite_sound; apply Device.bump_sound; assumption; apply Device.ite_sound; apply Device.bump_sound; assumption
    apply Device.ite_sound; assumption; apply Device.ite_sound; apply Device.ite_sound; assumption; apply Device.bump_sound; assumption
    apply Device.ite_sound; apply Device.ite_sound; assumption; apply Device.bump_sound; assumption; apply Device.ite_sound
    apply Device.ite_sound; assumption; apply Device.bump_sound; assumption; split; apply Device.bump_sound; assumption
    apply Device.ite_sound; assumption; apply Device.ite_sound; apply Device.aqPacket_sound; assumption; apply Device.bump_sound
    assumption

theorem Device.answer_sound {d : Device} {port : Nat} {dst type : Nat} {body : List Byte} :
    d.Sound → (Device.answer d port dst type body).Sound := by
  intro h0; unfold Device.answer
  with_reducible
    apply Device.ite_sound; assumption; apply Device.queueFrame_sound; apply Device.setPort_sound; assumption

theorem Device.arpRequest_sound {d : Device} {port mac ip target : Nat} :
    d.Sound → (Device.arpRequest d port mac ip target).Sound := by
  intro h0; unfold Device.arpRequest
  with_reducible
    split; apply Device.bump_sound; assumption; apply Device.answer_sound; assumption

theorem Device.neighborSolicit_sound {d : Device} {port mac ip target : Nat} :
    d.Sound → (Device.neighborSolicit d port mac ip target).Sound := by
  intro h0; unfold Device.neighborSolicit
  with_reducible
    split; apply Device.bump_sound; assumption; apply Device.answer_sound; assumption

theorem Device.pfcFrame_sound {d : Device} {port enable : Nat} {times : List Nat} :
    d.Sound → (Device.pfcFrame d port enable times).Sound := by
  intro h0; unfold Device.pfcFrame
  with_reducible
    apply Device.setPort_sound; assumption

theorem Device.pfcExpire_sound {d : Device} {port prio : Nat} :
    d.Sound → (Device.pfcExpire d port prio).Sound := by
  intro h0; unfold Device.pfcExpire
  with_reducible
    dsimp only; split; assumption; apply Device.setPort_sound; apply Device.Sound.upd; assumption

theorem Device.drainPorts_sound {d : Device} :
    d.Sound → (Device.drainPorts d).Sound := by
  intro h0; unfold Device.drainPorts
  with_reducible
    dsimp only; apply Device.Sound.upd; assumption

theorem Device.aqFault_sound {d : Device} {part stroke status index addr detail : Nat} :
    d.Sound → (Device.aqFault d part stroke status index addr detail).Sound := by
  intro h0; unfold Device.aqFault
  with_reducible
    apply Device.raise_sound; assumption

theorem Device.reportMsg_sound {d : Device} {f : Nat} {p : RxPkt} {status addr : Nat} {record : Bool} :
    d.Sound → (Device.reportMsg d f p status addr record).Sound := by
  intro h0; unfold Device.reportMsg
  with_reducible
    split; assumption; apply Device.ite_sound; assumption; apply Device.sendPacket_sound; apply Device.ite_sound
    apply Device.aqFault_sound; apply Device.setFlow_sound; assumption; apply Device.setFlow_sound; assumption

theorem Device.handled_sound {d : Device} {f : Nat} {ps : List RxPkt} :
    d.Sound → (Device.handled d f ps).Sound := by
  intro h0; unfold Device.handled
  with_reducible
    apply Device.checkPfc_sound; apply Device.ite_sound; apply Device.sendAck_sound; apply Device.modFlow_sound; assumption
    apply Device.modFlow_sound; assumption

theorem Device.rxData_sound {d : Device} {f op : Nat} {ordered : Bool} {sel : RxPkt → Bool} {g : Device → Flow → RxPkt → Device} :
    d.Sound → (∀ (x0 : Device) (x1 : Flow) (x2 : RxPkt), x0.Sound → (g x0 x1 x2).Sound) → (Device.rxData d f op ordered sel g).Sound := by
  intro h0 h1; unfold Device.rxData
  with_reducible
    split; assumption; split; assumption; apply Device.handled_sound; apply h1; assumption

theorem Device.writeNow_sound {d : Device} {f : Nat} {x : Flow} {p : RxPkt} :
    d.Sound → (Device.writeNow d f x p).Sound := by
  intro h0; unfold Device.writeNow
  with_reducible
    apply Device.ite_sound; assumption; apply Device.ite_sound; apply Device.writeVa_sound; assumption; apply Device.reportMsg_sound
    apply Device.writeVa_sound; assumption

theorem Device.rxWrite_sound {d : Device} {f : Nat} :
    d.Sound → (Device.rxWrite d f).Sound := by
  intro h0; unfold Device.rxWrite
  with_reducible
    apply Device.rxData_sound; assumption; intro _; intro _; intro _; intro _; apply Device.writeNow_sound; assumption

theorem Device.readNow_sound {d : Device} {f : Nat} {x : Flow} {p : RxPkt} :
    d.Sound → (Device.readNow d f x p).Sound := by
  intro h0; unfold Device.readNow
  with_reducible
    apply Device.ite_sound; apply Device.ite_sound; apply Device.readVa_sound; assumption; apply Device.reportMsg_sound
    apply Device.readVa_sound; assumption; apply Device.aqPost_sound; apply Device.ite_sound; apply Device.readVa_sound; assumption
    apply Device.reportMsg_sound; apply Device.readVa_sound; assumption

theorem Device.rxRead_sound {d : Device} {f : Nat} :
    d.Sound → (Device.rxRead d f).Sound := by
  intro h0; unfold Device.rxRead
  with_reducible
    apply Device.rxData_sound; assumption; intro _; intro _; intro _; intro _; apply Device.readNow_sound; assumption

theorem Device.responseNow_sound {d : Device} {f req : Nat} {x : Flow} {p : RxPkt} :
    d.Sound → (Device.responseNow d f req x p).Sound := by
  intro h0; unfold Device.responseNow
  with_reducible
    split; assumption; apply Device.ite_sound; apply Device.aqComplete_sound; split; dsimp only; apply Device.Sound.upd; assumption
    apply Device.writeVa_sound; assumption; apply Device.ite_sound; apply Device.pump_sound; apply Device.aqComplete_sound
    apply Device.modFlow_sound; split; dsimp only; apply Device.Sound.upd; assumption; apply Device.writeVa_sound; assumption
    apply Device.modFlow_sound; split; dsimp only; apply Device.Sound.upd; assumption; apply Device.writeVa_sound; assumption

theorem Device.rxResponse_sound {d : Device} {f op req : Nat} {ordered : Bool} :
    d.Sound → (Device.rxResponse d f op req ordered).Sound := by
  intro h0; unfold Device.rxResponse
  with_reducible
    apply Device.rxData_sound; assumption; intro _; intro _; intro _; intro _; apply Device.responseNow_sound; assumption

theorem Device.rxMessage_sound {d : Device} {f op : Nat} {sel : RxPkt → Bool} {g : Device → Flow → RxPkt → List Byte → Device} :
    d.Sound → (∀ (x0 : Device) (x1 : Flow) (x2 : RxPkt) (x3 : List Byte), x0.Sound → (g x0 x1 x2 x3).Sound) → (Device.rxMessage d f op sel g).Sound := by
  intro h0 h1; unfold Device.rxMessage
  with_reducible
    split; assumption; split; assumption; split; apply Device.handled_sound; apply h1; assumption; assumption
    apply Device.handled_sound; assumption

theorem Device.raccSlotNow_sound {d : Device} {x : Flow} {p : RxPkt} {bs : List Byte} :
    d.Sound → (Device.raccSlotNow d x p bs).Sound := by
  intro h0; unfold Device.raccSlotNow
  with_reducible
    apply Device.redArrive_sound; assumption

theorem Device.rxRaccSlot_sound {d : Device} {f : Nat} :
    d.Sound → (Device.rxRaccSlot d f).Sound := by
  intro h0; unfold Device.rxRaccSlot
  with_reducible
    apply Device.rxMessage_sound; assumption; intro _; intro _; intro _; intro _; intro _; apply Device.raccSlotNow_sound; assumption

theorem Device.settleNow_sound {d : Device} {x : Flow} {p : RxPkt} {bs : List Byte} :
    d.Sound → (Device.settleNow d x p bs).Sound := by
  intro h0; unfold Device.settleNow
  with_reducible
    apply Device.redArrive_sound; assumption

theorem Device.rxSettle_sound {d : Device} {f : Nat} :
    d.Sound → (Device.rxSettle d f).Sound := by
  intro h0; unfold Device.rxSettle
  with_reducible
    apply Device.rxMessage_sound; assumption; intro _; intro _; intro _; intro _; intro _; apply Device.settleNow_sound; assumption

theorem Device.accumulate_sound {d : Device} {part : Nat} {y0 : List (Nat × Nat)} {y1 : List Num} :
    d.Sound → (Device.accumulate d part y0 y1).1.Sound := by
  fun_induction Device.accumulate d part y0 y1 <;> intro h0
  with_reducible
    assumption; refine Device.fst_eq ‹_ = (_, _)› ?_; apply Device.translate_sound; assumption; apply_assumption -exfalso -symm
    apply Device.physWrite_sound; apply Device.readMarked_sound; refine Device.fst_eq ‹_ = (_, _)› ?_; apply Device.translate_sound
    assumption

theorem Device.raccAddrNow_sound {d : Device} {f : Nat} {x : Flow} {p : RxPkt} :
    d.Sound → (Device.raccAddrNow d f x p).Sound := by
  intro h0; unfold Device.raccAddrNow
  with_reducible
    apply Device.ite_sound; assumption; apply Device.ite_sound; apply Device.reportMsg_sound; assumption; apply Device.ite_sound
    apply Device.accumulate_sound; assumption; apply Device.reportMsg_sound; apply Device.accumulate_sound; assumption

theorem Device.rxRaccAddr_sound {d : Device} {f : Nat} :
    d.Sound → (Device.rxRaccAddr d f).Sound := by
  intro h0; unfold Device.rxRaccAddr
  with_reducible
    apply Device.rxData_sound; assumption; intro _; intro _; intro _; intro _; apply Device.raccAddrNow_sound; assumption

theorem Device.atomicNow_sound {d : Device} {f fn : Nat} {x : Flow} {p : RxPkt} :
    d.Sound → (Device.atomicNow d f fn x p).Sound := by
  intro h0; unfold Device.atomicNow
  with_reducible
    apply Device.ite_sound; apply Device.reportMsg_sound; assumption; split; apply Device.reportMsg_sound
    refine Device.fst_eq ‹_ = (_, _)› ?_; apply Device.translate_sound; assumption; apply Device.ite_sound; apply Device.reportMsg_sound
    apply Device.physRead_sound; refine Device.fst_eq ‹_ = (_, _)› ?_; apply Device.translate_sound; assumption
    apply Device.aqPost_sound; apply Device.physWrite_sound; apply Device.physRead_sound; refine Device.fst_eq ‹_ = (_, _)› ?_
    apply Device.translate_sound; assumption

theorem Device.rxAtomic_sound {d : Device} {f fn : Nat} :
    d.Sound → (Device.rxAtomic d f fn).Sound := by
  intro h0; unfold Device.rxAtomic
  with_reducible
    apply Device.rxData_sound; assumption; intro _; intro _; intro _; intro _; apply Device.atomicNow_sound; assumption

theorem Device.ringNow_sound {d : Device} {f : Nat} {x : Flow} {p : RxPkt} {bs : List Byte} :
    d.Sound → (Device.ringNow d f x p bs).Sound := by
  intro h0; unfold Device.ringNow
  with_reducible
    split; apply Device.reportMsg_sound; assumption; apply Device.ite_sound; apply Device.reportMsg_sound; assumption
    apply Device.ite_sound; apply Device.reportMsg_sound; apply Device.readVa_sound; apply Device.readVa_sound; assumption
    apply Device.ite_sound; apply Device.reportMsg_sound; apply Device.readVa_sound; apply Device.readVa_sound; assumption
    apply Device.ite_sound; apply Device.reportMsg_sound; apply Device.writeVa_sound; apply Device.readVa_sound
    apply Device.readVa_sound; assumption; apply Device.ite_sound; apply Device.reportMsg_sound; apply Device.writeVa_sound
    apply Device.writeVa_sound; apply Device.readVa_sound; apply Device.readVa_sound; assumption; apply Device.writeVa_sound
    apply Device.writeVa_sound; apply Device.readVa_sound; apply Device.readVa_sound; assumption

theorem Device.rxRing_sound {d : Device} {f : Nat} :
    d.Sound → (Device.rxRing d f).Sound := by
  intro h0; unfold Device.rxRing
  with_reducible
    apply Device.rxMessage_sound; assumption; intro _; intro _; intro _; intro _; intro _; apply Device.ringNow_sound; assumption

theorem Device.rxFence_sound {d : Device} {f : Nat} :
    d.Sound → (Device.rxFence d f).Sound := by
  intro h0; unfold Device.rxFence
  with_reducible
    apply Device.rxData_sound; assumption; intro _; intro _; intro _; intro _; assumption

theorem Device.rxCtl_sound {d : Device} {f kind op : Nat} {g : Device → Flow → RxPkt → Device} :
    d.Sound → (∀ (x0 : Device) (x1 : Flow) (x2 : RxPkt), x0.Sound → (g x0 x1 x2).Sound) → (Device.rxCtl d f kind op g).Sound := by
  intro h0 h1; unfold Device.rxCtl
  with_reducible
    split; assumption; split; assumption; apply h1; apply Device.setFlow_sound; assumption

theorem Device.retransmit_sound {d : Device} {f psn : Nat} :
    d.Sound → (Device.retransmit d f psn).Sound := by
  intro h0; unfold Device.retransmit
  with_reducible
    split; assumption; split; assumption; apply Device.ite_sound; apply Device.breakFlow_sound; assumption; apply Device.pump_sound
    apply Device.setFlow_sound; assumption

theorem Device.completePassed_sound {d : Device} {f mcum : Nat} {y0 : Nat} :
    d.Sound → (Device.completePassed d f mcum y0).Sound := by
  fun_induction Device.completePassed d f mcum y0 <;> intro h0
  with_reducible
    assumption; assumption; apply_assumption -exfalso -symm; apply Device.aqComplete_sound; assumption; assumption

theorem Device.ackNow_sound {d : Device} {f : Nat} {x : Flow} {p : RxPkt} :
    d.Sound → (Device.ackNow d f x p).Sound := by
  intro h0; unfold Device.ackNow
  with_reducible
    apply Device.pump_sound; apply Device.foldl_sound; intro _; intro _; intro _; apply Device.retransmit_sound; assumption
    apply Device.completePassed_sound; apply Device.setFlow_sound; assumption

theorem Device.rxAck_sound {d : Device} {f : Nat} :
    d.Sound → (Device.rxAck d f).Sound := by
  intro h0; unfold Device.rxAck
  with_reducible
    apply Device.rxCtl_sound; assumption; intro _; intro _; intro _; intro _; apply Device.ackNow_sound; assumption

theorem Device.mstatNow_sound {d : Device} {f : Nat} {x : Flow} {p : RxPkt} :
    d.Sound → (Device.mstatNow d f x p).Sound := by
  intro h0; unfold Device.mstatNow
  with_reducible
    apply Device.ite_sound; apply Device.pump_sound; apply Device.aqComplete_sound; assumption; assumption

theorem Device.rxMstat_sound {d : Device} {f : Nat} :
    d.Sound → (Device.rxMstat d f).Sound := by
  intro h0; unfold Device.rxMstat
  with_reducible
    apply Device.rxCtl_sound; assumption; intro _; intro _; intro _; intro _; apply Device.mstatNow_sound; assumption

theorem Device.rtoExpire_sound {d : Device} {f : Nat} :
    d.Sound → (Device.rtoExpire d f).Sound := by
  intro h0; unfold Device.rtoExpire
  with_reducible
    split; assumption; dsimp only; split; apply Device.pump_sound; apply Device.foldl_sound; intro _; intro _; intro _
    apply Device.sendSkip_sound; assumption; assumption; apply Device.foldl_sound; intro _; intro _; intro _
    apply Device.sendSkip_sound; assumption; apply Device.foldl_sound; intro _; intro _; intro _; apply Device.retransmit_sound
    assumption; apply Device.Sound.upd; assumption

theorem Device.ackTimer_sound {d : Device} {f : Nat} :
    d.Sound → (Device.ackTimer d f).Sound := by
  intro h0; unfold Device.ackTimer
  with_reducible
    split; assumption; apply Device.sendAck_sound; apply Device.Sound.upd; assumption

theorem Device.ratePeriod_sound {d : Device} {f : Nat} :
    d.Sound → (Device.ratePeriod d f).Sound := by
  intro h0; unfold Device.ratePeriod
  with_reducible
    apply Device.modFlow_sound; assumption

theorem Device.sendHello_sound {d : Device} {f op : Nat} :
    d.Sound → (Device.sendHello d f op).Sound := by
  intro h0; unfold Device.sendHello
  with_reducible
    split; assumption; apply Device.sendPacket_sound; assumption

theorem Device.openFlow_sound {d : Device} {part : Nat} {v6 : Bool} {remote rflow : Nat} {key : Option AqKey} {owner : Option Nat} :
    d.Sound → (Device.openFlow d part v6 remote rflow key owner).1.Sound := by
  intro h0; unfold Device.openFlow
  with_reducible
    apply Device.sendHello_sound; apply Device.setFlow_sound; apply Device.useFree_sound; apply Device.useFree_sound; dsimp only
    apply Device.Sound.upd; assumption

theorem Device.maybeOpen_sound {d : Device} {f : Nat} :
    d.Sound → (Device.maybeOpen d f).Sound := by
  intro h0; unfold Device.maybeOpen
  with_reducible
    split; assumption; apply Device.ite_sound; apply Device.pump_sound; split; apply Device.complete_sound; apply Device.setFlow_sound
    assumption; apply Device.setFlow_sound; assumption; assumption

theorem Device.helloNow_sound {d : Device} {f : Nat} {x : Flow} {p : RxPkt} :
    d.Sound → (Device.helloNow d f x p).Sound := by
  intro h0; unfold Device.helloNow
  with_reducible
    apply Device.ite_sound; apply Device.maybeOpen_sound; apply Device.sendHello_sound; apply Device.setFlow_sound; assumption
    assumption

theorem Device.rxHello_sound {d : Device} {f : Nat} :
    d.Sound → (Device.rxHello d f).Sound := by
  intro h0; unfold Device.rxHello
  with_reducible
    apply Device.rxCtl_sound; assumption; intro _; intro _; intro _; intro _; apply Device.helloNow_sound; assumption

theorem Device.helloAckNow_sound {d : Device} {f : Nat} {x : Flow} {p : RxPkt} :
    d.Sound → (Device.helloAckNow d f x p).Sound := by
  intro h0; unfold Device.helloAckNow
  with_reducible
    apply Device.ite_sound; apply Device.maybeOpen_sound; apply Device.setFlow_sound; assumption; assumption

theorem Device.rxHelloAck_sound {d : Device} {f : Nat} :
    d.Sound → (Device.rxHelloAck d f).Sound := by
  intro h0; unfold Device.rxHelloAck
  with_reducible
    apply Device.rxCtl_sound; assumption; intro _; intro _; intro _; intro _; apply Device.helloAckNow_sound; assumption

theorem Device.closeNow_sound {d : Device} {f : Nat} {w0 : Flow} {w1 : RxPkt} :
    d.Sound → (Device.closeNow d f w0 w1).Sound := by
  intro h0; unfold Device.closeNow
  with_reducible
    apply Device.sendPacket_sound; assumption

theorem Device.rxClose_sound {d : Device} {f : Nat} :
    d.Sound → (Device.rxClose d f).Sound := by
  intro h0; unfold Device.rxClose
  with_reducible
    apply Device.rxCtl_sound; assumption; intro _; intro _; intro _; intro _; apply Device.closeNow_sound; assumption

theorem Device.endFlow_sound {d : Device} {f status : Nat} :
    d.Sound → (Device.endFlow d f status).Sound := by
  intro h0; unfold Device.endFlow
  with_reducible
    split; assumption; split; apply Device.complete_sound; apply Device.freeFlow_sound; apply Device.aqCompleteAll_sound; assumption
    apply Device.freeFlow_sound; apply Device.aqCompleteAll_sound; assumption

theorem Device.closeAckNow_sound {d : Device} {f : Nat} {x : Flow} {w0 : RxPkt} :
    d.Sound → (Device.closeAckNow d f x w0).Sound := by
  intro h0; unfold Device.closeAckNow
  with_reducible
    apply Device.ite_sound; apply Device.endFlow_sound; assumption; assumption

theorem Device.rxCloseAck_sound {d : Device} {f : Nat} :
    d.Sound → (Device.rxCloseAck d f).Sound := by
  intro h0; unfold Device.rxCloseAck
  with_reducible
    apply Device.rxCtl_sound; assumption; intro _; intro _; intro _; intro _; apply Device.closeAckNow_sound; assumption

theorem Device.skipNow_sound {d : Device} {f : Nat} {x : Flow} {p : RxPkt} :
    d.Sound → (Device.skipNow d f x p).Sound := by
  intro h0; unfold Device.skipNow
  with_reducible
    apply Device.checkPfc_sound; apply Device.setFlow_sound; assumption

theorem Device.rxSkip_sound {d : Device} {f : Nat} :
    d.Sound → (Device.rxSkip d f).Sound := by
  intro h0; unfold Device.rxSkip
  with_reducible
    apply Device.rxCtl_sound; assumption; intro _; intro _; intro _; intro _; apply Device.skipNow_sound; assumption

theorem Device.helloRetry_sound {d : Device} {f : Nat} :
    d.Sound → (Device.helloRetry d f).Sound := by
  intro h0; unfold Device.helloRetry
  with_reducible
    split; assumption; apply Device.ite_sound; apply Device.sendHello_sound; apply Device.modFlow_sound; apply Device.Sound.upd
    assumption; assumption

theorem Device.flowTimeout_sound {d : Device} {f : Nat} {phase : FlowPhase} {status : Nat} :
    d.Sound → (Device.flowTimeout d f phase status).Sound := by
  intro h0; unfold Device.flowTimeout
  with_reducible
    split; assumption; apply Device.ite_sound; apply Device.endFlow_sound; apply Device.Sound.upd; assumption; assumption

theorem Device.closeFlow_sound {d : Device} {f : Nat} {owner : Option Nat} :
    d.Sound → (Device.closeFlow d f owner).Sound := by
  intro h0; unfold Device.closeFlow
  with_reducible
    apply Device.pump_sound; apply Device.modFlow_sound; assumption

end Machine
end Sys2Proof
end

