-- ==== Sys2Proof/Laws/SoundAqWork.lean ====
section
/-!
SUPPORT. Soundness is kept by the operations of Machine/AqWork.lean.
-/
namespace Sys2Proof
namespace Machine

theorem Device.rewatchQueues_sound {d : Device} :
    d.Sound → (Device.rewatchQueues d).Sound := by
  intro h0; unfold Device.rewatchQueues
  with_reducible
    dsimp only; apply Device.Sound.upd; assumption

theorem Device.armQueue_sound {d : Device} {unit p i : Nat} {e : List Byte} :
    d.Sound → (Device.armQueue d unit p i e).1.Sound := by
  intro h0; unfold Device.armQueue
  refine Device.ite_fst_sound h0 (Device.ite_fst_sound h0 ?_)
  extract_lets log2
  generalize he : d.mapRanges _ _ _ = r
  obtain ⟨e, x | m⟩ := r
  · exact Device.pair_sound (Device.fst_eq he (Device.mapRanges_sound h0))
  · have h1 : e.Sound := Device.fst_eq he (Device.mapRanges_sound h0)
    dsimp only
    generalize regionOf _ = rg
    cases rg
    · exact Device.pair_sound (Device.Sound.upd h1)
    · exact Device.pair_sound (Device.Sound.upd h1)
    · exact h1
    · exact h1

theorem Device.armQueues_sound {d : Device} {unit source p table n : Nat} :
    d.Sound → (Device.armQueues d unit source p table n).Sound := by
  intro h0; unfold Device.armQueues
  with_reducible
    apply Device.ite_sound; apply Device.raise_sound; apply Device.readVa_sound; assumption; apply Device.rewatchQueues_sound
    apply Device.foldl_sound; intro _; intro _; intro _; dsimp only; split; apply Device.armQueue_sound; assumption
    apply Device.raise_sound; apply Device.armQueue_sound; assumption; apply Device.readVa_sound; assumption

theorem Device.disarmQueues_sound {d : Device} {unit p : Nat} :
    d.Sound → (Device.disarmQueues d unit p).Sound := by
  intro h0; unfold Device.disarmQueues
  with_reducible
    apply Device.rewatchQueues_sound; dsimp only; apply Device.Sound.upd; assumption

theorem Device.setQueueIdx_sound {d : Device} {q : WorkQueue} {cons last : Nat} :
    d.Sound → (Device.setQueueIdx d q cons last).Sound := by
  intro h0; unfold Device.setQueueIdx
  with_reducible
    dsimp only; apply Device.Sound.upd; assumption

theorem Device.doorbell_sound {d : Device} {unit : Nat} {bad : Device → WorkQueue → Nat → Device} {take : Device → WorkQueue → Nat → Nat → Device} :
    d.Sound → (∀ (x0 : Device) (x1 : WorkQueue) (x2 : Nat), x0.Sound → (bad x0 x1 x2).Sound) → (∀ (x0 : Device) (x1 : WorkQueue) (x2 : Nat) (x3 : Nat), x0.Sound → (take x0 x1 x2 x3).Sound) → (Device.doorbell d unit bad take).Sound := by
  intro h0 h1 h2
  unfold Device.doorbell
  split
  · exact h0
  · rename_i s e he
    refine Device.foldl_sound (fun d q hd => ?_) _ (Device.takeSeen_sound h0 he)
    split
    · exact h1 _ _ _ hd
    · exact hd
    · exact Device.setQueueIdx_sound (Device.foldl_sound (fun _ _ h => h2 _ _ _ _ h) _ hd)

theorem Device.descDone_sound {d : Device} {t : Taken} {status : Nat} :
    d.Sound → (Device.descDone d t status).Sound := by
  intro h0; unfold Device.descDone
  with_reducible
    apply Device.aqRecord_sound; assumption

theorem Device.wqDoorbell_sound {d : Device} :
    d.Sound → (Device.wqDoorbell d).Sound := by
  intro h0; unfold Device.wqDoorbell
  with_reducible
    apply Device.doorbell_sound; assumption; intro _; intro _; intro _; intro _; apply Device.aqFault_sound; assumption; intro _
    intro _; intro _; intro _; intro _; apply Device.ite_sound; apply Device.aqFault_sound; apply Device.readVa_sound; assumption
    apply Device.ite_sound; apply Device.descDone_sound; apply Device.readVa_sound; assumption; dsimp only; apply Device.Sound.upd
    apply Device.readVa_sound; assumption

theorem Device.descMessage_sound {d : Device} {t : Taken} :
    d.Sound → (Device.descMessage d t).1.Sound := by
  fun_cases Device.descMessage d t <;> intro h0
  with_reducible
    assumption; assumption; assumption; refine Device.fst_eq ‹_ = (_, _)› ?_; apply Device.mapRanges_sound; assumption
    refine Device.fst_eq ‹_ = (_, _)› ?_; apply Device.mapRanges_sound; assumption; refine Device.fst_eq ‹_ = (_, _)› ?_
    apply Device.mapRanges_sound; assumption; refine Device.fst_eq ‹_ = (_, _)› ?_; apply Device.mapRanges_sound; assumption
    apply Device.ite_fst_sound; apply Device.readVa_sound; refine Device.fst_eq ‹_ = (_, _)› ?_; apply Device.mapRanges_sound
    assumption; refine Device.fst_eq ‹_ = (_, _)› ?_; apply Device.mapRanges_sound; assumption; apply Device.ite_fst_sound
    apply Device.readVa_sound; refine Device.fst_eq ‹_ = (_, _)› ?_; apply Device.mapRanges_sound; assumption
    refine Device.fst_eq ‹_ = (_, _)› ?_; apply Device.mapRanges_sound; assumption

theorem Device.aqDesc_sound {d : Device} {op : Nat} :
    d.Sound → (Device.aqDesc d op).Sound := by
  intro h0; unfold Device.aqDesc
  with_reducible
    split; assumption; apply Device.ite_sound; assumption; split; apply Device.descDone_sound; refine Device.fst_eq ‹_ = (_, _)› ?_
    apply Device.descMessage_sound; dsimp only; apply Device.Sound.upd; assumption; apply Device.aqPost_sound
    refine Device.fst_eq ‹_ = (_, _)› ?_; apply Device.descMessage_sound; dsimp only; apply Device.Sound.upd; assumption

theorem Device.answerEnable_sound {d : Device} {p status : Nat} :
    d.Sound → (Device.answerEnable d p status).Sound := by
  intro h0; unfold Device.answerEnable
  with_reducible
    apply Device.foldl_sound; intro _; intro _; intro _; apply Device.complete_sound; assumption; dsimp only; apply Device.Sound.upd
    assumption

theorem Device.aqEnableNow_sound {d : Device} {p : Nat} :
    d.Sound → (Device.aqEnableNow d p).Sound := by
  intro h0; unfold Device.aqEnableNow
  with_reducible
    apply Device.armQueues_sound; apply Device.setFlag_sound; assumption

theorem Device.aqPenEnable_sound {d : Device} {p : Nat} :
    d.Sound → (Device.aqPenEnable d p).Sound := by
  intro h0; unfold Device.aqPenEnable
  with_reducible
    apply Device.ite_sound; assumption; apply Device.ite_sound; apply Device.ite_sound; assumption; dsimp only; apply Device.Sound.upd
    assumption; apply Device.aqEnableNow_sound; assumption

theorem Device.aqPenDisable_sound {d : Device} {p : Nat} :
    d.Sound → (Device.aqPenDisable d p).Sound := by
  intro h0; unfold Device.aqPenDisable
  with_reducible
    apply Device.ite_sound; apply Device.answerEnable_sound; dsimp only; apply Device.Sound.upd; assumption; apply Device.setFlag_sound
    apply Device.disarmQueues_sound; apply Device.setFlag_sound; apply Device.answerEnable_sound; dsimp only; apply Device.Sound.upd
    assumption

theorem Device.aqDrainEnd_sound {d : Device} {p : Nat} :
    d.Sound → (Device.aqDrainEnd d p).Sound := by
  intro h0; unfold Device.aqDrainEnd
  with_reducible
    apply Device.ite_sound; apply Device.ite_sound; apply Device.answerEnable_sound; apply Device.aqEnableNow_sound; dsimp only
    apply Device.Sound.upd; apply Device.setFlag_sound; assumption; apply Device.setFlag_sound; assumption; assumption

theorem Device.setPortFlag_sound {d : Device} {i b : Nat} {v : Bool} :
    d.Sound → (Device.setPortFlag d i b v).Sound := by
  intro h0; unfold Device.setPortFlag
  with_reducible
    apply Device.setFlag_sound; assumption

theorem Device.answerPort_sound {d : Device} {i status : Nat} :
    d.Sound → (Device.answerPort d i status).Sound := by
  intro h0; unfold Device.answerPort
  with_reducible
    apply Device.foldl_sound; intro _; intro _; intro _; apply Device.complete_sound; assumption; apply Device.setPort_sound; assumption

theorem Device.portJoin_sound {d : Device} {i : Nat} :
    d.Sound → (Device.portJoin d i).Sound := by
  intro h0; unfold Device.portJoin
  with_reducible
    apply Device.ite_sound; apply Device.pumpAll_sound; apply Device.setSpray_sound; assumption; assumption

theorem Device.portLeave_sound {d : Device} {i : Nat} :
    d.Sound → (Device.portLeave d i).Sound := by
  intro h0; unfold Device.portLeave
  with_reducible
    apply Device.setPortFlag_sound; apply Device.setSpray_sound; assumption

theorem Device.portRecalStart_sound {d : Device} {i : Nat} :
    d.Sound → (Device.portRecalStart d i).Sound := by
  intro h0; unfold Device.portRecalStart
  with_reducible
    apply Device.ite_sound; apply Device.setPortFlag_sound; assumption; assumption

theorem Device.portDeferred_sound {d : Device} {i : Nat} :
    d.Sound → (Device.portDeferred d i).Sound := by
  intro h0; unfold Device.portDeferred
  with_reducible
    apply Device.ite_sound; apply Device.answerPort_sound; apply Device.portJoin_sound; apply Device.setPortFlag_sound; assumption
    assumption

theorem Device.portRemove_sound {d : Device} {i : Nat} :
    d.Sound → (Device.portRemove d i).Sound := by
  intro h0; unfold Device.portRemove
  with_reducible
    apply Device.ite_sound; apply Device.portLeave_sound; apply Device.setFlag_sound; apply Device.answerPort_sound
    apply Device.setPortFlag_sound; assumption; apply Device.answerPort_sound; apply Device.setPortFlag_sound; assumption

theorem Device.portReadmit_sound {d : Device} {i : Nat} :
    d.Sound → (Device.portReadmit d i).Sound := by
  intro h0; unfold Device.portReadmit
  with_reducible
    apply Device.ite_sound; apply Device.ite_sound; apply Device.setFlag_sound; assumption; apply Device.setPortFlag_sound
    apply Device.setFlag_sound; assumption; apply Device.portJoin_sound; apply Device.setFlag_sound; assumption

theorem Device.portRecal_sound {d : Device} {i : Nat} :
    d.Sound → (Device.portRecal d i).Sound := by
  intro h0; unfold Device.portRecal
  with_reducible
    apply Device.ite_sound; assumption; apply Device.portRecalStart_sound; apply Device.portLeave_sound; apply Device.setFlag_sound
    assumption

theorem Device.portDrainEnd_sound {d : Device} {i : Nat} :
    d.Sound → (Device.portDrainEnd d i).Sound := by
  intro h0; unfold Device.portDrainEnd
  with_reducible
    apply Device.ite_sound; apply Device.portDeferred_sound; apply Device.portRecalStart_sound; apply Device.setPortFlag_sound
    dsimp only; apply Device.Sound.upd; assumption; dsimp only; apply Device.Sound.upd; assumption

theorem Device.recalEnd_sound {d : Device} {i : Nat} :
    d.Sound → (Device.recalEnd d i).Sound := by
  intro h0; unfold Device.recalEnd
  with_reducible
    apply Device.ite_sound; assumption; apply Device.ite_sound; apply Device.portDeferred_sound; apply Device.foldl_sound; intro _
    intro _; intro _; apply Device.complete_sound; assumption; apply Device.setPort_sound; apply Device.fire_sound
    apply Device.setFlag_sound; apply Device.setPortFlag_sound; assumption; apply Device.portJoin_sound; apply Device.foldl_sound
    intro _; intro _; intro _; apply Device.complete_sound; assumption; apply Device.setPort_sound; apply Device.fire_sound
    apply Device.setFlag_sound; apply Device.setPortFlag_sound; assumption

theorem Device.portLinkDown_sound {d : Device} {i : Nat} :
    d.Sound → (Device.portLinkDown d i).Sound := by
  intro h0; unfold Device.portLinkDown
  with_reducible
    apply Device.ite_sound; assumption; apply Device.showPtpPort_sound; apply Device.fire_sound; apply Device.bump_sound
    apply Device.setSpray_sound; apply Device.setFlag_sound; apply Device.setFld_sound; apply Device.setPortFlag_sound; assumption

theorem Device.portLinkUp_sound {d : Device} {i : Nat} :
    d.Sound → (Device.portLinkUp d i).Sound := by
  intro h0; unfold Device.portLinkUp
  with_reducible
    apply Device.ite_sound; assumption; apply Device.showPtpPort_sound; apply Device.ite_sound; apply Device.ite_sound
    apply Device.setFlag_sound; apply Device.setFld_sound; apply Device.setPortFlag_sound; assumption; apply Device.fire_sound
    apply Device.setFlag_sound; apply Device.setFld_sound; apply Device.setPortFlag_sound; assumption; apply Device.portJoin_sound
    apply Device.ite_sound; apply Device.setFlag_sound; apply Device.setFld_sound; apply Device.setPortFlag_sound; assumption
    apply Device.fire_sound; apply Device.setFlag_sound; apply Device.setFld_sound; apply Device.setPortFlag_sound; assumption

theorem Device.portIface_sound {d : Device} {i v : Nat} :
    d.Sound → (Device.portIface d i v).Sound := by
  intro h0; unfold Device.portIface
  with_reducible
    apply Device.ite_sound; assumption; apply Device.portLinkDown_sound; apply Device.setFld_sound; assumption

end Machine
end Sys2Proof
end

