-- ==== Sys2Proof/Laws/SoundControl.lean ====
section
/-!
SUPPORT. Soundness is kept by the operations of Machine/Control.lean.
-/
namespace Sys2Proof
namespace Machine

theorem Device.boundary_sound {d : Device} {c : Nat} :
    d.Sound → (Device.boundary d c).Sound := by
  intro h0; unfold Device.boundary
  with_reducible
    apply Device.foldl_sound; intro _; intro _; intro _; split; apply Device.complete_sound; assumption; assumption
    apply Device.modCore_sound; assumption; intro _; intro _; split; dsimp only; split; dsimp only; apply Core.Sound.upd
    apply Core.foldl_sound; intro _; intro _; intro _; apply Core.writeImem_sound; assumption; assumption; dsimp only
    apply Core.Sound.upd; apply Core.foldl_sound; intro _; intro _; intro _; apply Core.writeImem_sound; assumption; assumption
    dsimp only; split; apply Core.Sound.upd; apply Core.copyDirty_sound; apply Core.Sound.upd; apply Core.foldl_sound; intro _; intro _
    intro _; apply Core.writeImem_sound; assumption; assumption; apply Core.Sound.upd; apply Core.copyDirty_sound; apply Core.Sound.upd
    apply Core.foldl_sound; intro _; intro _; intro _; apply Core.writeImem_sound; assumption; assumption

theorem Device.startActions_sound {d : Device} {c : Nat} :
    d.Sound → (Device.startActions d c).Sound := by
  intro h0; unfold Device.startActions
  with_reducible
    apply Device.bump64_sound; apply Device.modCore_sound; assumption; intro _; intro _; apply Core.Sound.upd; assumption

theorem Device.coreRecord_sound {d : Device} {c status akind addr : Nat} :
    d.Sound → (Device.coreRecord d c status akind addr).Sound := by
  intro h0; unfold Device.coreRecord
  with_reducible
    apply Device.raise_sound; assumption

theorem Device.fireCore_sound {d : Device} {c : Nat} :
    d.Sound → (Device.fireCore d c).Sound := by
  intro h0; unfold Device.fireCore
  with_reducible
    split; apply Device.firePart_sound; assumption; assumption

theorem Device.replayStart_sound {d : Device} {c : Nat} :
    d.Sound → (Device.replayStart d c).Sound := by
  intro h0; unfold Device.replayStart
  with_reducible
    apply Device.ite_sound; assumption; apply Device.ite_sound; apply Device.startActions_sound; assumption; apply Device.fireCore_sound
    apply Device.coreRecord_sound; apply Device.bump_sound; assumption

theorem Device.ctlFault_sound {d : Device} {c status akind addr : Nat} :
    d.Sound → (Device.ctlFault d c status akind addr).Sound := by
  intro h0; unfold Device.ctlFault
  with_reducible
    apply Device.fireCore_sound; apply Device.boundary_sound; apply Device.modCore_sound; apply Device.setReg_sound
    apply Device.coreRecord_sound; assumption; intro _; intro _; apply Core.Sound.upd; assumption

theorem Device.pcFault_sound {d : Device} {c status : Nat} :
    d.Sound → (Device.pcFault d c status).Sound := by
  intro h0; unfold Device.pcFault
  with_reducible
    apply Device.ctlFault_sound; assumption

theorem Device.issue_sound {d : Device} {c : Nat} {isIns : Nat → Bool} {f : Device → Nat → Device} :
    d.Sound → (∀ (x0 : Device) (x1 : Nat), x0.Sound → (f x0 x1).Sound) → (Device.issue d c isIns f).Sound := by
  intro h0 h1; unfold Device.issue
  with_reducible
    split; assumption; apply Device.ite_sound; apply h1; assumption; assumption

theorem Device.rOp_sound {d : Device} {c fn : Nat} {f : DWord → DWord → DWord → DWord} :
    d.Sound → (Device.rOp d c fn f).Sound := by
  intro h0; unfold Device.rOp
  with_reducible
    apply Device.issue_sound; assumption; intro _; intro _; intro _; apply Device.modCore_sound; assumption; intro _; intro _
    apply Core.next_sound; apply Core.setS_sound; assumption

theorem Device.iOp_sound {d : Device} {c op : Nat} {resv : Nat → Bool} {f : DWord → DWord → Nat → DWord} :
    d.Sound → (Device.iOp d c op resv f).Sound := by
  intro h0; unfold Device.iOp
  with_reducible
    apply Device.issue_sound; assumption; intro _; intro _; intro _; apply Device.ite_sound; apply Device.pcFault_sound; assumption
    apply Device.modCore_sound; assumption; intro _; intro _; apply Core.next_sound; apply Core.setS_sound; assumption

theorem Device.loadOp_sound {d : Device} {c op n : Nat} {ext : Nat → DWord} :
    d.Sound → (Device.loadOp d c op n ext).Sound := by
  intro h0; unfold Device.loadOp
  with_reducible
    apply Device.issue_sound; assumption; intro _; intro _; intro _; apply Device.ite_sound; apply Device.ctlFault_sound; assumption
    apply Device.ite_sound; apply Device.ctlFault_sound; assumption; apply Device.ite_sound; apply Device.ctlFault_sound; assumption
    apply Device.modCore_sound; assumption; intro _; intro _; apply Core.next_sound; apply Core.setS_sound; assumption

theorem Device.storeOp_sound {d : Device} {c op n : Nat} :
    d.Sound → (Device.storeOp d c op n).Sound := by
  intro h0; unfold Device.storeOp
  with_reducible
    apply Device.issue_sound; assumption; intro _; intro _; intro _; apply Device.ite_sound; apply Device.ctlFault_sound; assumption
    apply Device.ite_sound; apply Device.ctlFault_sound; assumption; apply Device.modCore_sound; assumption; intro _; intro _
    apply Core.next_sound; apply Core.scratchWrite_sound; assumption

theorem Device.lsldOp_sound {d : Device} {c : Nat} :
    d.Sound → (Device.lsldOp d c).Sound := by
  intro h0; unfold Device.lsldOp
  with_reducible
    apply Device.issue_sound; assumption; intro _; intro _; intro _; apply Device.ite_sound; apply Device.ctlFault_sound; assumption
    apply Device.ite_sound; apply Device.ctlFault_sound; assumption; apply Device.ite_sound; apply Device.ctlFault_sound
    apply Device.sramRead_sound; assumption; apply Device.modCore_sound; apply Device.sramRead_sound; assumption; intro _; intro _
    apply Core.next_sound; apply Core.setS_sound; assumption

theorem Device.lsstOp_sound {d : Device} {c : Nat} :
    d.Sound → (Device.lsstOp d c).Sound := by
  intro h0; unfold Device.lsstOp
  with_reducible
    apply Device.issue_sound; assumption; intro _; intro _; intro _; apply Device.ite_sound; apply Device.ctlFault_sound; assumption
    apply Device.ite_sound; apply Device.ctlFault_sound; assumption; apply Device.modCore_sound; assumption; intro _; intro _
    apply Core.next_sound; apply Core.sramWrite_sound; assumption

theorem Device.lscpOp_sound {d : Device} {c : Nat} :
    d.Sound → (Device.lscpOp d c).Sound := by
  intro h0; unfold Device.lscpOp
  with_reducible
    apply Device.issue_sound; assumption; intro _; intro _; intro _; apply Device.ite_sound; apply Device.ctlFault_sound; assumption
    apply Device.ite_sound; apply Device.ctlFault_sound; assumption; apply Device.ite_sound; apply Device.ctlFault_sound; assumption
    apply Device.ite_sound; apply Device.ctlFault_sound; assumption; dsimp only; split; apply Device.ctlFault_sound
    apply Device.sramRead_sound; assumption; apply Device.modCore_sound; apply Device.sramRead_sound; assumption; intro _; intro _
    apply Core.next_sound; apply Core.scratchWrite_sound; assumption

theorem Device.jumpTo_sound {d : Device} {c : Nat} {t : Int} {f : Core → Core} :
    d.Sound → (∀ (x0 : Core), x0.Sound → (f x0).Sound) → (Device.jumpTo d c t f).Sound := by
  intro h0 h1; unfold Device.jumpTo
  with_reducible
    apply Device.ite_sound; apply Device.pcFault_sound; assumption; apply Device.modCore_sound; assumption; intro _; intro _; dsimp only
    apply Core.Sound.upd; apply h1; assumption

theorem Device.branchOp_sound {d : Device} {c op : Nat} {cond : DWord → DWord → Bool} :
    d.Sound → (Device.branchOp d c op cond).Sound := by
  intro h0; unfold Device.branchOp
  with_reducible
    apply Device.issue_sound; assumption; intro _; intro _; intro _; apply Device.ite_sound; apply Device.jumpTo_sound; assumption
    intro _; intro _; apply Core.id_sound; assumption; apply Device.modCore_sound; assumption; intro _; intro _; apply Core.next_sound
    assumption

theorem Device.jalOp_sound {d : Device} {c : Nat} :
    d.Sound → (Device.jalOp d c).Sound := by
  intro h0; unfold Device.jalOp
  with_reducible
    apply Device.issue_sound; assumption; intro _; intro _; intro _; apply Device.ite_sound; apply Device.pcFault_sound; assumption
    apply Device.jumpTo_sound; assumption; intro _; intro _; apply Core.setS_sound; assumption

theorem Device.jrOp_sound {d : Device} {c : Nat} :
    d.Sound → (Device.jrOp d c).Sound := by
  intro h0; unfold Device.jrOp
  with_reducible
    apply Device.issue_sound; assumption; intro _; intro _; intro _; apply Device.ite_sound; apply Device.pcFault_sound; assumption
    apply Device.jumpTo_sound; assumption; intro _; intro _; apply Core.id_sound; assumption

theorem Device.dbnzOp_sound {d : Device} {c : Nat} :
    d.Sound → (Device.dbnzOp d c).Sound := by
  intro h0; unfold Device.dbnzOp
  with_reducible
    apply Device.issue_sound; assumption; intro _; intro _; intro _; apply Device.ite_sound; apply Device.pcFault_sound; assumption
    apply Device.ite_sound; apply Device.jumpTo_sound; assumption; intro _; intro _; apply Core.setS_sound; assumption
    apply Device.modCore_sound; assumption; intro _; intro _; apply Core.next_sound; apply Core.setS_sound; assumption

theorem Device.pgetOp_sound {d : Device} {c : Nat} :
    d.Sound → (Device.pgetOp d c).Sound := by
  intro h0; unfold Device.pgetOp
  with_reducible
    apply Device.issue_sound; assumption; intro _; intro _; intro _; apply Device.ite_sound; apply Device.pcFault_sound; assumption
    apply Device.modCore_sound; assumption; intro _; intro _; apply Core.next_sound; apply Core.setS_sound; assumption

theorem Device.psetOp_sound {d : Device} {c : Nat} :
    d.Sound → (Device.psetOp d c).Sound := by
  intro h0; unfold Device.psetOp
  with_reducible
    apply Device.issue_sound; assumption; intro _; intro _; intro _; apply Device.ite_sound; apply Device.pcFault_sound; assumption
    apply Device.modCore_sound; assumption; intro _; intro _; apply Core.next_sound; apply Core.stage_sound; assumption

theorem Device.rdsrOp_sound {d : Device} {c : Nat} :
    d.Sound → (Device.rdsrOp d c).Sound := by
  intro h0; unfold Device.rdsrOp
  with_reducible
    apply Device.issue_sound; assumption; intro _; intro _; intro _; apply Device.ite_sound; apply Device.pcFault_sound; assumption
    split; apply Device.pcFault_sound; assumption; apply Device.modCore_sound; assumption; intro _; intro _; apply Core.next_sound
    apply Core.setS_sound; assumption

theorem Device.finsOp_sound {d : Device} {c : Nat} :
    d.Sound → (Device.finsOp d c).Sound := by
  intro h0; unfold Device.finsOp
  with_reducible
    apply Device.issue_sound; assumption; intro _; intro _; intro _; apply Device.ite_sound; apply Device.pcFault_sound; assumption
    split; apply Device.ctlFault_sound; assumption; apply Device.modCore_sound; assumption; intro _; intro _; apply Core.next_sound
    apply Core.scratchWrite_sound; assumption

theorem Device.enqueue_sound {d : Device} {c q : Nat} {e : QEntry} :
    d.Sound → (Device.enqueue d c q e).Sound := by
  intro h0; unfold Device.enqueue
  with_reducible
    apply Device.modCore_sound; assumption; intro _; intro _; apply Core.setQueue_sound; assumption

theorem Device.pushOp_sound {d : Device} {c : Nat} :
    d.Sound → (Device.pushOp d c).Sound := by
  intro h0; unfold Device.pushOp
  with_reducible
    apply Device.issue_sound; assumption; intro _; intro _; intro _; apply Device.ite_sound; apply Device.pcFault_sound; assumption
    split; apply Device.ctlFault_sound; assumption; apply Device.ite_sound; assumption; apply Device.modCore_sound
    apply Device.enqueue_sound; assumption; intro _; intro _; split; dsimp only; apply Core.Sound.upd; apply Core.next_sound; assumption
    dsimp only; apply Core.Sound.upd; apply Core.next_sound; assumption

theorem Device.gateOp_sound {d : Device} {c : Nat} :
    d.Sound → (Device.gateOp d c).Sound := by
  intro h0; unfold Device.gateOp
  with_reducible
    apply Device.issue_sound; assumption; intro _; intro _; intro _; apply Device.ite_sound; apply Device.pcFault_sound; assumption
    apply Device.modCore_sound; assumption; intro _; intro _; dsimp only; apply Core.Sound.upd; apply Core.next_sound; assumption

theorem Device.semsigOp_sound {d : Device} {c : Nat} :
    d.Sound → (Device.semsigOp d c).Sound := by
  intro h0; unfold Device.semsigOp
  with_reducible
    apply Device.issue_sound; assumption; intro _; intro _; intro _; apply Device.ite_sound; apply Device.pcFault_sound; assumption
    apply Device.modCore_sound; apply Device.semAdd_sound; assumption; intro _; intro _; apply Core.next_sound; assumption

theorem Device.semwaitOp_sound {d : Device} {c : Nat} :
    d.Sound → (Device.semwaitOp d c).Sound := by
  intro h0; unfold Device.semwaitOp
  with_reducible
    apply Device.issue_sound; assumption; intro _; intro _; intro _; apply Device.ite_sound; apply Device.pcFault_sound; assumption
    apply Device.modCore_sound; assumption; intro _; intro _; apply Core.Sound.upd; assumption

theorem Device.semwaitGrantOp_sound {d : Device} {c : Nat} :
    d.Sound → (Device.semwaitGrantOp d c).Sound := by
  intro h0; unfold Device.semwaitGrantOp
  with_reducible
    split; assumption; apply Device.ite_sound; apply Device.modCore_sound; assumption; intro _; intro _; dsimp only
    apply Core.Sound.upd; apply Core.next_sound; apply Core.grant_sound; assumption; assumption

theorem Device.semrdOp_sound {d : Device} {c : Nat} :
    d.Sound → (Device.semrdOp d c).Sound := by
  intro h0; unfold Device.semrdOp
  with_reducible
    apply Device.issue_sound; assumption; intro _; intro _; intro _; apply Device.ite_sound; apply Device.pcFault_sound; assumption
    apply Device.modCore_sound; assumption; intro _; intro _; apply Core.next_sound; apply Core.setS_sound; assumption

theorem Device.plainOp_sound {d : Device} {c op : Nat} {f : Device → Device} :
    d.Sound → (∀ (x0 : Device), x0.Sound → (f x0).Sound) → (Device.plainOp d c op f).Sound := by
  intro h0 h1; unfold Device.plainOp
  with_reducible
    apply Device.issue_sound; assumption; intro _; intro _; intro _; apply Device.ite_sound; apply Device.pcFault_sound; assumption
    apply h1; assumption

theorem Device.nopOp_sound {d : Device} {c : Nat} :
    d.Sound → (Device.nopOp d c).Sound := by
  intro h0; unfold Device.nopOp
  with_reducible
    apply Device.plainOp_sound; assumption; intro _; intro _; apply Device.modCore_sound; assumption; intro _; intro _
    apply Core.next_sound; assumption

theorem Device.rendOp_sound {d : Device} {c : Nat} :
    d.Sound → (Device.rendOp d c).Sound := by
  intro h0; unfold Device.rendOp
  with_reducible
    apply Device.plainOp_sound; assumption; intro _; intro _; apply Device.ite_sound; apply Device.startActions_sound
    apply Device.boundary_sound; apply Device.modCore_sound; assumption; intro _; intro _; apply Core.Sound.upd; assumption
    apply Device.boundary_sound; apply Device.modCore_sound; assumption; intro _; intro _; apply Core.Sound.upd; assumption

theorem Device.haltOp_sound {d : Device} {c : Nat} :
    d.Sound → (Device.haltOp d c).Sound := by
  intro h0; unfold Device.haltOp
  with_reducible
    apply Device.plainOp_sound; assumption; intro _; intro _; apply Device.boundary_sound; apply Device.modCore_sound; assumption
    intro _; intro _; dsimp only; apply Core.Sound.upd; apply Core.next_sound; assumption

theorem Device.illegalOp_sound {d : Device} {c : Nat} :
    d.Sound → (Device.illegalOp d c).Sound := by
  intro h0; unfold Device.illegalOp
  with_reducible
    apply Device.ite_sound; apply Device.ite_sound; apply Device.pcFault_sound; assumption; apply Device.ite_sound
    apply Device.pcFault_sound; apply Device.ite_sound; dsimp only; apply Device.Sound.upd; apply Device.bump16_sound; assumption
    apply Device.bump16_sound; assumption; apply Device.ite_sound; assumption; apply Device.pcFault_sound; assumption; assumption

theorem Device.cancelEntry_sound {d : Device} {c q : Nat} {e : QEntry} :
    d.Sound → (Device.cancelEntry d c q e).Sound := by
  intro h0; unfold Device.cancelEntry
  with_reducible
    apply Device.answerOwner_sound; apply Device.settleEntry_sound; assumption

theorem Device.leaveBarriers_sound {d : Device} {c : Nat} :
    d.Sound → (Device.leaveBarriers d c).Sound := by
  intro h0; unfold Device.leaveBarriers
  with_reducible
    dsimp only; apply Device.Sound.upd; assumption

theorem Device.dropLoad_sound {d : Device} {c : Nat} {e : QEntry} :
    d.Sound → (Device.dropLoad d c e).Sound := by
  intro h0; unfold Device.dropLoad
  with_reducible
    split; apply Device.ite_sound; apply Device.setFlag_sound; apply Device.setFlag_sound; assumption; assumption; assumption

theorem Device.cancelQueue_sound {d : Device} {c q : Nat} :
    d.Sound → (Device.cancelQueue d c q).Sound := by
  intro h0; unfold Device.cancelQueue
  with_reducible
    apply Device.modCore_sound; apply Device.ite_sound; apply Device.foldl_sound; intro _; intro _; intro _; apply Device.dropLoad_sound
    assumption; apply Device.foldl_sound; intro _; intro _; intro _; apply Device.cancelEntry_sound; assumption; assumption
    apply Device.foldl_sound; intro _; intro _; intro _; apply Device.cancelEntry_sound; assumption; assumption; intro _; intro _
    apply Core.ite_sound; split; split; apply Core.Sound.upd; apply Core.withdraw_sound; apply Core.setQueue_sound; assumption
    apply Core.withdraw_sound; apply Core.setQueue_sound; assumption; split; split; apply Core.Sound.upd; apply Core.withdraw_sound
    apply Core.setQueue_sound; assumption; apply Core.withdraw_sound; apply Core.setQueue_sound; assumption; split; apply Core.Sound.upd
    apply Core.setQueue_sound; assumption; apply Core.setQueue_sound; assumption; apply Core.ite_sound; apply Core.withdraw_sound
    apply Core.setQueue_sound; assumption; apply Core.ite_sound; apply Core.withdraw_sound; apply Core.setQueue_sound; assumption
    apply Core.setQueue_sound; assumption

theorem Device.coreReset_sound {d : Device} {c : Nat} :
    d.Sound → (Device.coreReset d c).Sound := by
  intro h0
  unfold Device.coreReset
  extract_lets held d1 d2 d3 d4
  have h1 : d1.Sound := Device.foldl_sound (fun _ _ h => Device.cancelQueue_sound h) _ h0
  have h2 : d2.Sound := Device.leaveBarriers_sound (Device.foldl_sound (fun _ _ h => by
    split
    · exact Device.complete_sound h
    · exact h) _ h1)
  have h3 : d3.Sound := Device.foldl_sound (fun _ _ h => Device.setReg_sound h _ _) _ h2
  have h4 : d4.Sound := by
    simp only [d4]
    split
    · exact Device.setReg_sound h3 _ _
    · exact h3
  refine Device.modCore_sound h4 c (fun k hk => ?_)
  exact ⟨rfl, rfl, rfl, rfl, hk.2.2.2.2.1, rfl, hk.2.2.2.2.2.2.1, rfl, (fun _ h => by cases h), rfl, (fun _ h => by cases h), rfl⟩

theorem Device.coreControl_sound {d : Device} {c : Nat} {f : Device → Device} :
    d.Sound → (∀ (x0 : Device), x0.Sound → (f x0).Sound) → (Device.coreControl d c f).Sound := by
  intro h0 h1; unfold Device.coreControl
  with_reducible
    apply Device.ite_sound; assumption; apply h1; assumption

theorem Device.ctlSwitch_sound {d : Device} {c : Nat} :
    d.Sound → (Device.ctlSwitch d c).Sound := by
  intro h0; unfold Device.ctlSwitch
  with_reducible
    apply Device.coreControl_sound; assumption; intro _; intro _; apply Device.modCore_sound; assumption; intro _; intro _
    apply Core.ite_sound; apply Core.Sound.upd; assumption; apply Core.Sound.upd; assumption

theorem Device.ctlStart_sound {d : Device} {c : Nat} :
    d.Sound → (Device.ctlStart d c).Sound := by
  intro h0; unfold Device.ctlStart
  with_reducible
    apply Device.coreControl_sound; assumption; intro _; intro _; apply Device.replayStart_sound; apply Device.exitIdle_sound
    assumption

theorem Device.ctlResume_sound {d : Device} {c : Nat} :
    d.Sound → (Device.ctlResume d c).Sound := by
  intro h0; unfold Device.ctlResume
  with_reducible
    apply Device.coreControl_sound; assumption; intro _; intro _; apply Device.modCore_sound; assumption; intro _; intro _
    apply Core.ite_sound; apply Core.Sound.upd; assumption; assumption

theorem Device.ctlHalt_sound {d : Device} {c : Nat} :
    d.Sound → (Device.ctlHalt d c).Sound := by
  intro h0; unfold Device.ctlHalt
  with_reducible
    split; apply Device.boundary_sound; apply Device.modCore_sound; assumption; intro _; intro _; apply Core.Sound.upd; assumption
    apply Device.modCore_sound; assumption; intro _; intro _; apply Core.Sound.upd; assumption; assumption

theorem Device.pstageWrite_sound {d : Device} {c n : Nat} {high : Bool} {v : Word} :
    d.Sound → (Device.pstageWrite d c n high v).Sound := by
  intro h0; unfold Device.pstageWrite
  with_reducible
    apply Device.modCore_sound; assumption; intro _; intro _; apply Core.stage_sound; assumption

theorem Device.pdirtyWrite_sound {d : Device} {c : Nat} {high : Bool} {v : Word} :
    d.Sound → (Device.pdirtyWrite d c high v).Sound := by
  intro h0; unfold Device.pdirtyWrite
  with_reducible
    apply Device.modCore_sound; assumption; intro _; intro _; split; apply Core.Sound.upd; assumption; apply Core.Sound.upd; assumption

end Machine
end Sys2Proof
end

