-- ==== Sys2Proof/Laws/SoundCopyTensor.lean ====
section
/-!
SUPPORT. Soundness is kept by the operations of Machine/CopyTensor.lean.
-/
namespace Sys2Proof
namespace Machine

theorem NdRun.run_sound {y : NdRun} {t : Tensor} {row : List Nat} {b : Nat} :
    (y.x.d).Sound → (NdRun.run y t row b).1.x.d.Sound := by
  intro h0; unfold NdRun.run
  with_reducible
    split; assumption; dsimp only; split; refine CopyRun.fst_eq ‹_ = (_, _)› ?_; apply CopyRun.locateAll_sound; assumption; split
    refine CopyRun.fst_eq ‹_ = (_, _)› ?_; apply CopyRun.locateAll_sound; refine CopyRun.fst_eq ‹_ = (_, _)› ?_
    apply CopyRun.locateAll_sound; assumption; apply CopyRun.readParts_sound; apply CopyRun.readParts_sound
    refine CopyRun.fst_eq ‹_ = (_, _)› ?_; apply CopyRun.locateAll_sound; refine CopyRun.fst_eq ‹_ = (_, _)› ?_
    apply CopyRun.locateAll_sound; assumption

theorem NdRun.elem_sound {y : NdRun} {t : Tensor} {x : List Nat} :
    (y.x.d).Sound → (NdRun.elem y t x).1.x.d.Sound := by
  intro h0; unfold NdRun.elem
  with_reducible
    apply NdRun.ite_fst_sound; split; refine NdRun.fst_eq ‹_ = (_, _)› ?_; apply NdRun.run_sound; assumption
    refine NdRun.fst_eq ‹_ = (_, _)› ?_; apply NdRun.run_sound; assumption; split; refine CopyRun.fst_eq ‹_ = (_, _)› ?_
    apply CopyRun.locateAll_sound; assumption; apply CopyRun.readParts_sound; refine CopyRun.fst_eq ‹_ = (_, _)› ?_
    apply CopyRun.locateAll_sound; assumption

theorem NdRun.convert_sound {y : NdRun} {n : NdCopy} {key : Nat} {e : SrcElem} :
    (y.x.d).Sound → (NdRun.convert y n key e).1.x.d.Sound := by
  intro h0; unfold NdRun.convert
  with_reducible
    apply NdRun.ite_fst_sound; assumption; assumption

theorem NdRun.elems_sound {y : NdRun} {n : NdCopy} {filled : Bool} {y0 : List (List Nat)} :
    (y.x.d).Sound → (NdRun.elems y n filled y0).1.d.Sound := by
  fun_induction NdRun.elems y n filled y0 <;> intro h0
  with_reducible
    assumption; refine CopyRun.fst_eq ‹_ = (_, _)› ?_; apply CopyRun.locateAll_sound; assumption; apply_assumption -exfalso -symm
    apply CopyRun.writeParts_sound; apply CopyRun.ite_sound; refine CopyRun.fst_eq ‹_ = (_, _)› ?_; apply CopyRun.locateAll_sound
    assumption; dsimp only; refine CopyRun.fst_eq ‹_ = (_, _)› ?_; apply CopyRun.locateAll_sound; assumption
    refine NdRun.fst_eq ‹_ = (_, _)› ?_; apply NdRun.elem_sound; assumption; refine CopyRun.fst_eq ‹_ = (_, _)› ?_
    apply CopyRun.locateAll_sound; refine NdRun.fst_eq ‹_ = (_, _)› ?_; apply NdRun.elem_sound; assumption
    apply_assumption -exfalso -symm; apply CopyRun.writeParts_sound; apply NdRun.convert_sound; refine CopyRun.fst_eq ‹_ = (_, _)› ?_
    apply CopyRun.locateAll_sound; refine NdRun.fst_eq ‹_ = (_, _)› ?_; apply NdRun.elem_sound; assumption

theorem NdRun.gather_sound {y : NdRun} {n : NdCopy} {y0 : List (Nat × List Nat)} :
    (y.x.d).Sound → (NdRun.gather y n y0).1.x.d.Sound := by
  fun_induction NdRun.gather y n y0 <;> intro h0
  with_reducible
    assumption; refine NdRun.fst_eq ‹_ = (_, _)› ?_; apply_assumption -exfalso -symm; assumption; refine NdRun.fst_eq ‹_ = (_, _)› ?_
    apply_assumption -exfalso -symm; assumption; refine NdRun.fst_eq ‹_ = (_, _)› ?_; apply NdRun.elem_sound; assumption
    refine NdRun.fst_eq ‹_ = (_, _)› ?_; apply_assumption -exfalso -symm; refine NdRun.fst_eq ‹_ = (_, _)› ?_; apply NdRun.elem_sound
    assumption; refine NdRun.fst_eq ‹_ = (_, _)› ?_; apply_assumption -exfalso -symm; refine NdRun.fst_eq ‹_ = (_, _)› ?_
    apply NdRun.elem_sound; assumption

theorem CopyRun.locateRows_sound {x : CopyRun} {t : Tensor} {b : Nat} {y0 : List (List Nat)} :
    (x.d).Sound → (CopyRun.locateRows x t b y0).1.d.Sound := by
  fun_induction CopyRun.locateRows x t b y0 <;> intro h0
  with_reducible
    assumption; refine CopyRun.fst_eq ‹_ = (_, _)› ?_; apply CopyRun.locateAll_sound; assumption; refine CopyRun.fst_eq ‹_ = (_, _)› ?_
    apply_assumption -exfalso -symm; refine CopyRun.fst_eq ‹_ = (_, _)› ?_; apply CopyRun.locateAll_sound; assumption
    refine CopyRun.fst_eq ‹_ = (_, _)› ?_; apply_assumption -exfalso -symm; refine CopyRun.fst_eq ‹_ = (_, _)› ?_
    apply CopyRun.locateAll_sound; assumption

theorem NdRun.writeBlock_sound {y : NdRun} {n : NdCopy} {bl : DstBlock} {l : List (Nat × Option (List Nat × SrcElem))} :
    (y.x.d).Sound → (NdRun.writeBlock y n bl l).1.x.d.Sound := by
  intro h0; unfold NdRun.writeBlock
  with_reducible
    dsimp only; split; refine CopyRun.fst_eq ‹_ = (_, _)› ?_; apply CopyRun.locateRows_sound; assumption; split
    refine CopyRun.fst_eq ‹_ = (_, _)› ?_; apply CopyRun.locateAll_sound; refine CopyRun.fst_eq ‹_ = (_, _)› ?_
    apply CopyRun.locateRows_sound; assumption; apply CopyRun.writeParts_sound; apply CopyRun.foldl_sound; intro _; intro _; intro _
    apply CopyRun.writeParts_sound; assumption; dsimp only; refine CopyRun.fst_eq ‹_ = (_, _)› ?_; apply CopyRun.locateAll_sound
    refine CopyRun.fst_eq ‹_ = (_, _)› ?_; apply CopyRun.locateRows_sound; assumption

theorem NdRun.blocks_sound {y : NdRun} {n : NdCopy} {y0 : List DstBlock} :
    (y.x.d).Sound → (NdRun.blocks y n y0).1.d.Sound := by
  fun_induction NdRun.blocks y n y0 <;> intro h0
  with_reducible
    assumption; refine NdRun.fst_eq ‹_ = (_, _)› ?_; apply NdRun.gather_sound; assumption; refine NdRun.fst_eq ‹_ = (_, _)› ?_
    apply NdRun.writeBlock_sound; refine NdRun.fst_eq ‹_ = (_, _)› ?_; apply NdRun.gather_sound; assumption
    apply_assumption -exfalso -symm; refine NdRun.fst_eq ‹_ = (_, _)› ?_; apply NdRun.writeBlock_sound
    refine NdRun.fst_eq ‹_ = (_, _)› ?_; apply NdRun.gather_sound; assumption

theorem NdRun.readAhead_sound {y : NdRun} {n : NdCopy} {y0 : List DstBlock} :
    (y.x.d).Sound → (NdRun.readAhead y n y0).x.d.Sound := by
  fun_induction NdRun.readAhead y n y0 <;> intro h0
  with_reducible
    assumption; refine NdRun.fst_eq ‹_ = (_, _)› ?_; apply NdRun.gather_sound; assumption; apply_assumption -exfalso -symm
    refine NdRun.fst_eq ‹_ = (_, _)› ?_; apply NdRun.gather_sound; assumption

theorem CopyRun.probe_sound {x : CopyRun} {t : Tensor} {y0 : List (List Nat)} :
    (x.d).Sound → (CopyRun.probe x t y0).1.d.Sound := by
  fun_induction CopyRun.probe x t y0 <;> intro h0
  with_reducible
    assumption; refine CopyRun.fst_eq ‹_ = (_, _)› ?_; apply CopyRun.locate_sound; assumption; refine CopyRun.fst_eq ‹_ = (_, _)› ?_
    apply CopyRun.locate_sound; refine CopyRun.fst_eq ‹_ = (_, _)› ?_; apply CopyRun.locate_sound; assumption
    apply_assumption -exfalso -symm; refine CopyRun.fst_eq ‹_ = (_, _)› ?_; apply CopyRun.locate_sound
    refine CopyRun.fst_eq ‹_ = (_, _)› ?_; apply CopyRun.locate_sound; assumption

theorem CopyRun.readCells_sound {x : CopyRun} {t : Tensor} {y0 : List (List Nat)} :
    (x.d).Sound → (CopyRun.readCells x t y0).1.d.Sound := by
  fun_induction CopyRun.readCells x t y0 <;> intro h0
  with_reducible
    assumption; apply_assumption -exfalso -symm; refine CopyRun.fst_eq ‹_ = (_, _)› ?_; apply CopyRun.locate_sound; assumption
    apply_assumption -exfalso -symm; apply CopyRun.readPlace_sound; refine CopyRun.fst_eq ‹_ = (_, _)› ?_; apply CopyRun.locate_sound
    assumption

theorem CopyRun.writeCells_sound {x : CopyRun} {t : Tensor} {y0 : List (List Nat × List (Byte × Bool))} :
    (x.d).Sound → (CopyRun.writeCells x t y0).d.Sound := by
  fun_induction CopyRun.writeCells x t y0 <;> intro h0
  with_reducible
    assumption; apply_assumption -exfalso -symm; refine CopyRun.fst_eq ‹_ = (_, _)› ?_; apply CopyRun.locate_sound; assumption
    apply_assumption -exfalso -symm; apply CopyRun.writePlace_sound; refine CopyRun.fst_eq ‹_ = (_, _)› ?_; apply CopyRun.locate_sound
    assumption

theorem CopyRun.swapPair_sound {x : CopyRun} {t : Tensor} {rest : List Nat} {u v : Nat} :
    (x.d).Sound → (CopyRun.swapPair x t rest u v).1.d.Sound := by
  intro h0; unfold CopyRun.swapPair
  with_reducible
    split; dsimp only; split; refine CopyRun.fst_eq ‹_ = (_, _)› ?_; apply CopyRun.probe_sound; assumption
    apply CopyRun.writeCells_sound; apply CopyRun.readCells_sound; refine CopyRun.fst_eq ‹_ = (_, _)› ?_; apply CopyRun.probe_sound
    assumption; dsimp only; split; refine CopyRun.fst_eq ‹_ = (_, _)› ?_; apply CopyRun.probe_sound; assumption
    apply CopyRun.writeCells_sound; apply CopyRun.readCells_sound; refine CopyRun.fst_eq ‹_ = (_, _)› ?_; apply CopyRun.probe_sound
    assumption

theorem CopyRun.swapPairs_sound {x : CopyRun} {t : Tensor} {y0 : List (List Nat × Nat × Nat)} :
    (x.d).Sound → (CopyRun.swapPairs x t y0).1.d.Sound := by
  fun_induction CopyRun.swapPairs x t y0 <;> intro h0
  with_reducible
    assumption; refine CopyRun.fst_eq ‹_ = (_, _)› ?_; apply CopyRun.swapPair_sound; assumption; apply_assumption -exfalso -symm
    refine CopyRun.fst_eq ‹_ = (_, _)› ?_; apply CopyRun.swapPair_sound; assumption

theorem NdCopy.move_sound {n : NdCopy} {x : CopyRun} :
    (x.d).Sound → (NdCopy.move n x).1.d.Sound := by
  intro h0; unfold NdCopy.move
  with_reducible
    apply CopyRun.ite_fst_sound; apply CopyRun.swapPairs_sound; assumption; apply CopyRun.ite_fst_sound; apply NdRun.blocks_sound; split
    apply NdRun.readAhead_sound; assumption; assumption; apply NdRun.elems_sound; assumption

theorem CopyRun.readRecord_sound {x : CopyRun} {off n : Nat} {f : CopyRun → CopyRun × Option CmdFault} :
    (x.d).Sound → (∀ (x0 : CopyRun), x0.d.Sound → (f x0).1.d.Sound) → (CopyRun.readRecord x off n f).1.d.Sound := by
  intro h0 h1; unfold CopyRun.readRecord
  with_reducible
    dsimp only; split; apply Device.sramRead_sound; assumption; apply h1; apply Device.sramRead_sound; assumption

theorem ndRun_sound {run : CopyRun} {x : Nat} :
    (run.d).Sound → (ndRun run x).1.d.Sound := by
  intro h0; unfold ndRun
  with_reducible
    apply CopyRun.readRecord_sound; assumption; intro _; intro _; apply NdCopy.move_sound; assumption

theorem Device.cpNd_sound {d : Device} {c m : Nat} :
    d.Sound → (Device.cpNd d c m).Sound := by
  intro h0; unfold Device.cpNd
  with_reducible
    apply Device.copyCommand_sound; assumption; intro _; intro _; intro _; apply ndRun_sound; assumption

theorem CopyRun.index_sound {x : CopyRun} {r : RowCopy} {j : Nat} :
    (x.d).Sound → (CopyRun.index x r j).1.d.Sound := by
  intro h0; unfold CopyRun.index
  with_reducible
    split; refine CopyRun.fst_eq ‹_ = (_, _)› ?_; apply CopyRun.locateAll_sound; assumption; apply CopyRun.readParts_sound
    refine CopyRun.fst_eq ‹_ = (_, _)› ?_; apply CopyRun.locateAll_sound; assumption

theorem CopyRun.fillRow_sound {x : CopyRun} {r : RowCopy} {base : Nat} {y0 : List (Nat × Nat)} :
    (x.d).Sound → (CopyRun.fillRow x r base y0).1.d.Sound := by
  fun_induction CopyRun.fillRow x r base y0 <;> intro h0
  with_reducible
    assumption; refine CopyRun.fst_eq ‹_ = (_, _)› ?_; apply CopyRun.locate_sound; assumption; apply_assumption -exfalso -symm
    apply CopyRun.writePlace_sound; refine CopyRun.fst_eq ‹_ = (_, _)› ?_; apply CopyRun.locate_sound; assumption

theorem CopyRun.addSource_sound {x : CopyRun} {r : RowCopy} {a : Nat} {y0 : Nat} :
    (x.d).Sound → (CopyRun.addSource x r a y0).1.d.Sound := by
  fun_induction CopyRun.addSource x r a y0 <;> intro h0
  with_reducible
    assumption; refine CopyRun.fst_eq ‹_ = (_, _)› ?_; apply CopyRun.locate_sound; assumption; apply_assumption -exfalso -symm
    apply CopyRun.readPlace_sound; refine CopyRun.fst_eq ‹_ = (_, _)› ?_; apply CopyRun.locate_sound; assumption

theorem CopyRun.addWord_sound {x : CopyRun} {r : RowCopy} {src dst n : Nat} :
    (x.d).Sound → (CopyRun.addWord x r src dst n).1.d.Sound := by
  intro h0; unfold CopyRun.addWord
  with_reducible
    split; refine CopyRun.fst_eq ‹_ = (_, _)› ?_; apply CopyRun.addSource_sound; assumption; split
    refine CopyRun.fst_eq ‹_ = (_, _)› ?_; apply CopyRun.locate_sound; refine CopyRun.fst_eq ‹_ = (_, _)› ?_
    apply CopyRun.addSource_sound; assumption; split; refine CopyRun.fst_eq ‹_ = (_, _)› ?_; apply CopyRun.locate_sound
    refine CopyRun.fst_eq ‹_ = (_, _)› ?_; apply CopyRun.locate_sound; refine CopyRun.fst_eq ‹_ = (_, _)› ?_
    apply CopyRun.addSource_sound; assumption; apply CopyRun.writePlace_sound; apply CopyRun.readPlace_sound
    refine CopyRun.fst_eq ‹_ = (_, _)› ?_; apply CopyRun.locate_sound; refine CopyRun.fst_eq ‹_ = (_, _)› ?_; apply CopyRun.locate_sound
    refine CopyRun.fst_eq ‹_ = (_, _)› ?_; apply CopyRun.addSource_sound; assumption

theorem CopyRun.addRow_sound {x : CopyRun} {r : RowCopy} {src dst : Nat} {y0 : List (Nat × Nat)} :
    (x.d).Sound → (CopyRun.addRow x r src dst y0).1.d.Sound := by
  fun_induction CopyRun.addRow x r src dst y0 <;> intro h0
  with_reducible
    assumption; refine CopyRun.fst_eq ‹_ = (_, _)› ?_; apply CopyRun.addWord_sound; assumption; apply_assumption -exfalso -symm
    refine CopyRun.fst_eq ‹_ = (_, _)› ?_; apply CopyRun.addWord_sound; assumption

theorem CopyRun.row_sound {x : CopyRun} {r : RowCopy} {scatter : Bool} {j : Nat} {i : Option Nat} :
    (x.d).Sound → (CopyRun.row x r scatter j i).1.d.Sound := by
  intro h0; unfold CopyRun.row
  with_reducible
    split; apply CopyRun.moveBytes_sound; assumption; apply CopyRun.ite_sound; apply CopyRun.fillRow_sound; assumption
    apply CopyRun.fillRow_sound; assumption; assumption; apply CopyRun.ite_fst_sound; apply CopyRun.addRow_sound; assumption
    apply CopyRun.moveBytes_sound; assumption

theorem CopyRun.rowsOf_sound {x : CopyRun} {r : RowCopy} {scatter : Bool} {y0 : List Nat} :
    (x.d).Sound → (CopyRun.rowsOf x r scatter y0).1.d.Sound := by
  fun_induction CopyRun.rowsOf x r scatter y0 <;> intro h0
  with_reducible
    assumption; refine CopyRun.fst_eq ‹_ = (_, _)› ?_; apply CopyRun.index_sound; assumption; refine CopyRun.fst_eq ‹_ = (_, _)› ?_
    apply CopyRun.row_sound; refine CopyRun.fst_eq ‹_ = (_, _)› ?_; apply CopyRun.index_sound; assumption
    apply_assumption -exfalso -symm; refine CopyRun.fst_eq ‹_ = (_, _)› ?_; apply CopyRun.row_sound
    refine CopyRun.fst_eq ‹_ = (_, _)› ?_; apply CopyRun.index_sound; assumption

theorem rowRun_sound {scatter : Bool} {run : CopyRun} {x : Nat} :
    (run.d).Sound → (rowRun scatter run x).1.d.Sound := by
  intro h0; unfold rowRun
  with_reducible
    apply CopyRun.ite_fst_sound; assumption; apply CopyRun.readRecord_sound; assumption; intro _; intro _; apply CopyRun.rowsOf_sound
    assumption

theorem Device.rowCommand_sound {d : Device} {c m opc : Nat} {scatter : Bool} {modes : Nat → Bool} :
    d.Sound → (Device.rowCommand d c m opc scatter modes).Sound := by
  intro h0; unfold Device.rowCommand
  with_reducible
    apply Device.copyCommand_sound; assumption; intro _; intro _; intro _; apply rowRun_sound; assumption

theorem Device.cpGather_sound {d : Device} {c m : Nat} :
    d.Sound → (Device.cpGather d c m).Sound := by
  intro h0; unfold Device.cpGather
  with_reducible
    apply Device.rowCommand_sound; assumption

theorem Device.cpScatterWrite_sound {d : Device} {c m : Nat} :
    d.Sound → (Device.cpScatterWrite d c m).Sound := by
  intro h0; unfold Device.cpScatterWrite
  with_reducible
    apply Device.rowCommand_sound; assumption

theorem Device.cpScatterAdd_sound {d : Device} {c m : Nat} :
    d.Sound → (Device.cpScatterAdd d c m).Sound := by
  intro h0; unfold Device.cpScatterAdd
  with_reducible
    apply Device.rowCommand_sound; assumption

end Machine
end Sys2Proof
end

