-- ==== Sys2Proof/Laws/SoundUpdate.lean ====
section
/-!
SUPPORT. Soundness is kept by the operations of Machine/Update.lean.
-/
namespace Sys2Proof
namespace Machine

theorem Device.putGrec_sound {d : Device} {p g off : Nat} {bs : List Byte} :
    d.Sound → (Device.putGrec d p g off bs).Sound := by
  intro h0; unfold Device.putGrec
  with_reducible
    apply Device.writeVa_sound; assumption

theorem Device.readGrec_sound {d : Device} {p g : Nat} :
    d.Sound → (Device.readGrec d p g).1.Sound := by
  intro h0; unfold Device.readGrec
  with_reducible
    apply Device.readVa_sound; assumption

theorem Device.putGroupFlags_sound {d : Device} {p g : Nat} {op torn : Bool} :
    d.Sound → (Device.putGroupFlags d p g op torn).Sound := by
  intro h0; unfold Device.putGroupFlags
  with_reducible
    apply Device.putGrec_sound; assumption

theorem Device.openGroup_sound {d : Device} {t : UpdDesc} :
    d.Sound → (Device.openGroup d t).Sound := by
  intro h0; unfold Device.openGroup
  with_reducible
    apply Device.ite_sound; apply Device.readGrec_sound; assumption; dsimp only; apply Device.Sound.upd
    apply Device.putGroupFlags_sound; apply Device.putGrec_sound; apply Device.readGrec_sound; assumption

theorem Device.forgetOpen_sound {d : Device} {p g : Nat} :
    d.Sound → (Device.forgetOpen d p g).Sound := by
  intro h0; unfold Device.forgetOpen
  with_reducible
    dsimp only; apply Device.Sound.upd; assumption

theorem Device.updFault_sound {d : Device} {part stroke status source index group addr : Nat} :
    d.Sound → (Device.updFault d part stroke status source index group addr).Sound := by
  intro h0; unfold Device.updFault
  with_reducible
    apply Device.raise_sound; assumption

theorem Device.tear_sound {d : Device} {p g : Nat} :
    d.Sound → (Device.tear d p g).Sound := by
  intro h0; unfold Device.tear
  with_reducible
    apply Device.firePart_sound; apply Device.updFault_sound; apply Device.bump_sound; apply Device.forgetOpen_sound
    apply Device.putGroupFlags_sound; assumption

theorem Device.judgeGroup_sound {d : Device} {p g : Nat} :
    d.Sound → (Device.judgeGroup d p g).Sound := by
  intro h0; unfold Device.judgeGroup
  with_reducible
    apply Device.ite_sound; apply Device.ite_sound; apply Device.tear_sound; dsimp only; apply Device.Sound.upd; assumption; dsimp only
    apply Device.Sound.upd; assumption; assumption

theorem Device.applySet_sound {d : Device} {s : UpdSet} :
    d.Sound → (Device.applySet d s).Sound := by
  intro h0; unfold Device.applySet
  with_reducible
    split; split; split; apply Device.complete_sound; apply Device.putGroupFlags_sound; apply Device.putGrec_sound
    apply Device.readGrec_sound; assumption; apply Device.putGroupFlags_sound; apply Device.putGrec_sound; apply Device.readGrec_sound
    assumption; split; apply Device.complete_sound; apply Device.putGrec_sound; apply Device.readGrec_sound; assumption
    apply Device.putGrec_sound; apply Device.readGrec_sound; assumption; split; split; apply Device.complete_sound
    apply Device.putGroupFlags_sound; apply Device.readGrec_sound; assumption; apply Device.putGroupFlags_sound
    apply Device.readGrec_sound; assumption; split; apply Device.complete_sound; apply Device.readGrec_sound; assumption
    apply Device.readGrec_sound; assumption

theorem Device.releaseSets_sound {d : Device} {p g : Nat} :
    d.Sound → (Device.releaseSets d p g).Sound := by
  intro h0; unfold Device.releaseSets
  with_reducible
    apply Device.ite_sound; assumption; apply Device.foldl_sound; intro _; intro _; intro _; apply Device.applySet_sound; assumption
    dsimp only; apply Device.Sound.upd; assumption

theorem Device.groupSet_sound {d : Device} {s : UpdSet} :
    d.Sound → (Device.groupSet d s).Sound := by
  intro h0; unfold Device.groupSet
  with_reducible
    apply Device.ite_sound; dsimp only; apply Device.Sound.upd; assumption; apply Device.applySet_sound; assumption

theorem Device.countUpd_sound {d : Device} {p st : Nat} :
    d.Sound → (Device.countUpd d p st).Sound := by
  intro h0; unfold Device.countUpd
  with_reducible
    apply Device.ite_sound; apply Device.bump_sound; assumption; apply Device.ite_sound; apply Device.bump_sound; assumption
    apply Device.ite_sound; apply Device.bump_sound; assumption; apply Device.ite_sound; apply Device.bump_sound; assumption; assumption

theorem Device.noteRefusal_sound {d : Device} {p g st : Nat} :
    d.Sound → (Device.noteRefusal d p g st).Sound := by
  intro h0; unfold Device.noteRefusal
  with_reducible
    apply Device.firePart_sound; apply Device.setReg_sound; apply Device.setFld_sound; apply Device.setFlag_sound; assumption

theorem Device.closeGroup_sound {d : Device} {t : UpdDesc} {e : UpdEnd} :
    d.Sound → (Device.closeGroup d t e).Sound := by
  intro h0; unfold Device.closeGroup
  with_reducible
    apply Device.ite_sound; assumption; apply Device.ite_sound; apply Device.forgetOpen_sound; apply Device.putGroupFlags_sound
    apply Device.putGrec_sound; apply Device.readGrec_sound; apply Device.putGrec_sound; assumption; apply Device.putGrec_sound
    assumption

theorem Device.updDone_sound {d : Device} {t : UpdDesc} {e : UpdEnd} :
    d.Sound → (Device.updDone d t e).Sound := by
  intro h0; unfold Device.updDone
  with_reducible
    apply Device.releaseSets_sound; apply Device.judgeGroup_sound; split; split; split; dsimp only; apply Device.Sound.upd
    apply Device.closeGroup_sound; apply Device.noteRefusal_sound; apply Device.countUpd_sound; apply Device.descSignal_sound
    apply Device.writeVa_sound; assumption; dsimp only; apply Device.Sound.upd; apply Device.closeGroup_sound
    apply Device.noteRefusal_sound; apply Device.countUpd_sound; apply Device.descSignal_sound; apply Device.updFault_sound
    apply Device.writeVa_sound; assumption; split; dsimp only; apply Device.Sound.upd; apply Device.closeGroup_sound
    apply Device.noteRefusal_sound; apply Device.countUpd_sound; apply Device.writeVa_sound; assumption; dsimp only
    apply Device.Sound.upd; apply Device.closeGroup_sound; apply Device.noteRefusal_sound; apply Device.countUpd_sound
    apply Device.updFault_sound; apply Device.writeVa_sound; assumption; split; split; dsimp only; apply Device.Sound.upd
    apply Device.closeGroup_sound; apply Device.countUpd_sound; apply Device.descSignal_sound; apply Device.writeVa_sound; assumption
    dsimp only; apply Device.Sound.upd; apply Device.closeGroup_sound; apply Device.countUpd_sound; apply Device.descSignal_sound
    apply Device.updFault_sound; apply Device.writeVa_sound; assumption; split; dsimp only; apply Device.Sound.upd
    apply Device.closeGroup_sound; apply Device.countUpd_sound; apply Device.writeVa_sound; assumption; dsimp only
    apply Device.Sound.upd; apply Device.closeGroup_sound; apply Device.countUpd_sound; apply Device.updFault_sound
    apply Device.writeVa_sound; assumption

theorem Device.tierOf_sound {d : Device} {p : Nat} {y0 : List (Nat × Nat)} :
    d.Sound → (Device.tierOf d p y0).1.Sound := by
  fun_induction Device.tierOf d p y0 <;> intro h0
  with_reducible
    assumption; apply_assumption -exfalso -symm; refine Device.fst_eq ‹_ = (_, _)› ?_; apply Device.walk_sound; assumption
    apply_assumption -exfalso -symm; refine Device.fst_eq ‹_ = (_, _)› ?_; apply Device.walk_sound; assumption

theorem Device.updCheck_sound {d : Device} {p : Nat} {b : List Byte} {r : CoefRow} :
    d.Sound → (Device.updCheck d p b r).1.Sound := by
  intro h0; unfold Device.updCheck
  with_reducible
    apply Device.ite_fst_sound; assumption; apply Device.ite_fst_sound; assumption; apply Device.ite_fst_sound; assumption
    apply Device.ite_fst_sound; assumption; apply Device.ite_fst_sound; apply Device.tierOf_sound; assumption; apply Device.tierOf_sound
    assumption

theorem Device.updSkew_sound {d : Device} {p : Nat} {b grec : List Byte} :
    d.Sound → (Device.updSkew d p b grec).1.Sound := by
  intro h0; unfold Device.updSkew
  with_reducible
    apply Device.ite_fst_sound; assumption; apply Device.ite_fst_sound; assumption; apply Device.ite_fst_sound
    apply Device.readVa_sound; assumption; apply Device.readVa_sound; assumption

theorem Device.putElements_sound {d : Device} {m : Cells Nat} {sz va : Nat} {xs : List (Option (List Byte))} :
    d.Sound → (Device.putElements d m sz va xs).1.Sound := by
  intro h0; unfold Device.putElements
  with_reducible
    apply Device.foldl_fst_sound; intro _; intro _; intro _; intro _; apply Device.writePages_sound; assumption; assumption

theorem Device.readNums_sound {d : Device} {m : Cells Nat} {va fmt n : Nat} :
    d.Sound → (Device.readNums d m va fmt n).1.Sound := by
  intro h0; unfold Device.readNums
  with_reducible
    apply Device.readPages_sound; assumption

theorem UpdJob.work_sound {j : UpdJob} {d : Device} {u : UpdRun} {m : Cells Nat} {wi gi n : Nat} {gsc cA cB : Num} :
    d.Sound → (UpdJob.work j d u m wi gi n gsc cA cB).1.Sound := by
  intro h0
  unfold UpdJob.work
  extract_lets b gr sc w xs bad0 sq a s' ins outs held put d1 d2 d3 d4 nh
  have hg : gr.1.Sound := Device.readPages_sound h0
  have hs : sc.1.Sound := Device.ite_fst_sound (Device.readPages_sound hg) hg
  have hw : w.1.Sound := Device.readNums_sound hs
  have ha : a.1.Sound := Device.ite_fst_sound (Device.readNums_sound hw) hw
  have hs' : s'.1.Sound := Device.ite_fst_sound (Device.readNums_sound ha) ha
  have h1 : d1.1.Sound := Device.putElements_sound hs'
  have h2 : d2.1.Sound := Device.ite_fst_sound (Device.putElements_sound h1) h1
  have h3 : d3.1.Sound := Device.ite_fst_sound (Device.putElements_sound h2) h2
  have h4 : d4.1.Sound := Device.ite_fst_sound (Device.putElements_sound h3) h3
  exact Device.ite_fst_sound hw h4

theorem UpdJob.elems_sound {j : UpdJob} {d : Device} {u : UpdRun} {wi gi n : Nat} {gsc cA cB : Num} :
    d.Sound → (UpdJob.elems j d u wi gi n gsc cA cB).1.Sound := by
  intro h0; unfold UpdJob.elems
  with_reducible
    split; apply UpdJob.work_sound; refine Device.fst_eq ‹_ = (_, _)› ?_; apply Device.mapRanges_sound; assumption
    apply Device.foldl_fst_sound; intro _; intro _; intro _; intro _; apply Device.ite_fst_sound; assumption; split
    apply UpdJob.work_sound; refine Device.fst_eq ‹_ = (_, _)› ?_; apply Device.mapRanges_sound; assumption
    refine Device.fst_eq ‹_ = (_, _)› ?_; apply Device.mapRanges_sound; assumption; refine Device.fst_eq ‹_ = (_, _)› ?_
    apply Device.mapRanges_sound; assumption

theorem UpdJob.enter_sound {j : UpdJob} {d : Device} {u : UpdRun} {e : Nat} :
    d.Sound → (UpdJob.enter j d u e).1.Sound := by
  intro h0; unfold UpdJob.enter
  with_reducible
    apply Device.ite_fst_sound; assumption; apply Device.ite_fst_sound; apply Device.readVa_sound; assumption; apply Device.readVa_sound
    assumption

theorem UpdJob.dense_sound {j : UpdJob} {d : Device} {u : UpdRun} {e : Nat} {y0 : Nat} :
    d.Sound → (UpdJob.dense j d u e y0).1.Sound := by
  fun_induction UpdJob.dense j d u e y0 <;> intro h0
  with_reducible
    assumption; assumption; apply_assumption -exfalso -symm; apply UpdJob.elems_sound; assumption; apply UpdJob.enter_sound; assumption
    apply_assumption -exfalso -symm; apply Device.ite_fst_sound; apply UpdJob.enter_sound; assumption; apply UpdJob.elems_sound
    apply UpdJob.enter_sound; assumption

theorem UpdJob.rowElems_sound {j : UpdJob} {d : Device} {u : UpdRun} {row at' c : Nat} {gsc cA cB : Num} {y0 : Nat} :
    d.Sound → (UpdJob.rowElems j d u row at' c gsc cA cB y0).1.Sound := by
  fun_induction UpdJob.rowElems j d u row at' c gsc cA cB y0 <;> intro h0
  with_reducible
    assumption; assumption; apply_assumption -exfalso -symm; apply UpdJob.elems_sound; assumption

theorem UpdJob.row_sound {j : UpdJob} {d : Device} {u : UpdRun} {row at' : Nat} :
    d.Sound → (UpdJob.row j d u row at').1.Sound := by
  fun_cases UpdJob.row j d u row at' <;> intro h0
  with_reducible
    refine Device.fst_eq ‹_ = (_, _)› ?_; apply Device.ite_fst_sound; apply Device.mapRanges_sound; assumption; assumption
    apply UpdJob.rowElems_sound; apply Device.ite_fst_sound; apply Device.readPages_sound; refine Device.fst_eq ‹_ = (_, _)› ?_
    apply Device.ite_fst_sound; apply Device.mapRanges_sound; assumption; assumption; refine Device.fst_eq ‹_ = (_, _)› ?_
    apply Device.ite_fst_sound; apply Device.mapRanges_sound; assumption; assumption; apply Device.ite_sound
    apply Device.writePages_sound; apply UpdJob.rowElems_sound; apply Device.ite_fst_sound; apply Device.readPages_sound
    refine Device.fst_eq ‹_ = (_, _)› ?_; apply Device.ite_fst_sound; apply Device.mapRanges_sound; assumption; assumption
    refine Device.fst_eq ‹_ = (_, _)› ?_; apply Device.ite_fst_sound; apply Device.mapRanges_sound; assumption; assumption
    apply UpdJob.rowElems_sound; apply Device.ite_fst_sound; apply Device.readPages_sound; refine Device.fst_eq ‹_ = (_, _)› ?_
    apply Device.ite_fst_sound; apply Device.mapRanges_sound; assumption; assumption; refine Device.fst_eq ‹_ = (_, _)› ?_
    apply Device.ite_fst_sound; apply Device.mapRanges_sound; assumption; assumption

theorem UpdJob.sparse_sound {j : UpdJob} {d : Device} {u : UpdRun} {k : Nat} {y0 : Nat} :
    d.Sound → (UpdJob.sparse j d u k y0).1.Sound := by
  fun_induction UpdJob.sparse j d u k y0 <;> intro h0
  with_reducible
    assumption; assumption; refine Device.fst_eq ‹_ = (_, _)› ?_; apply Device.mapRanges_sound; assumption
    apply_assumption -exfalso -symm; apply Device.readPages_sound; refine Device.fst_eq ‹_ = (_, _)› ?_; apply Device.mapRanges_sound
    assumption; apply_assumption -exfalso -symm; apply UpdJob.row_sound; apply Device.readPages_sound
    refine Device.fst_eq ‹_ = (_, _)› ?_; apply Device.mapRanges_sound; assumption

theorem UpdJob.run_sound {j : UpdJob} {d : Device} :
    d.Sound → (UpdJob.run j d).1.Sound := by
  intro h0; unfold UpdJob.run
  with_reducible
    apply Device.ite_fst_sound; apply UpdJob.sparse_sound; assumption; apply UpdJob.dense_sound; assumption

theorem Device.updRun_sound {d : Device} {t : UpdDesc} {c : Nat} :
    d.Sound → (Device.updRun d t c).Sound := by
  intro h0; unfold Device.updRun
  with_reducible
    apply Device.updDone_sound; split; apply Device.updFault_sound; apply Device.bump_sound; apply Device.bump_sound
    apply Device.bump_sound; apply Device.bump_sound; apply Device.bump64_sound; apply UpdJob.run_sound; assumption
    apply Device.bump_sound; apply Device.bump_sound; apply Device.bump_sound; apply Device.bump_sound; apply Device.bump64_sound
    apply UpdJob.run_sound; assumption

theorem UpdJob.unit_sound {j : UpdJob} {d : Device} {u : UpdRun} {i : Nat} :
    d.Sound → (UpdJob.unit j d u i).1.Sound := by
  intro h0; unfold UpdJob.unit
  with_reducible
    apply Device.ite_fst_sound; apply Device.ite_fst_sound; apply Device.sramStore_sound; apply Device.sramRead_sound; assumption
    assumption; apply Device.ite_fst_sound; assumption; apply UpdJob.enter_sound; assumption

theorem Device.resolve_sound {d : Device} {t : UpdDesc} {t1 : Nat} :
    d.Sound → (Device.resolve d t t1).Sound := by
  intro h0; unfold Device.resolve
  with_reducible
    dsimp only; split; apply Device.updDone_sound; apply Device.updFault_sound; apply Device.bump_sound; apply Device.foldl_fst_sound
    intro _; intro _; intro _; intro _; apply Device.ite_fst_sound; assumption; apply UpdJob.unit_sound; assumption; assumption
    apply Device.updDone_sound; apply Device.sramStore_sound; apply Device.bump_sound; apply Device.foldl_fst_sound; intro _; intro _
    intro _; intro _; apply Device.ite_fst_sound; assumption; apply UpdJob.unit_sound; assumption; assumption

theorem Device.setUpd_sound {d : Device} {t : UpdDesc} :
    d.Sound → (Device.setUpd d t).Sound := by
  intro h0; unfold Device.setUpd
  with_reducible
    dsimp only; apply Device.Sound.upd; assumption

theorem Device.handOver_sound {d : Device} {t : UpdDesc} {c : Nat} :
    d.Sound → (Device.handOver d t c).Sound := by
  intro h0; unfold Device.handOver
  with_reducible
    dsimp only; apply Device.Sound.upd; apply Device.setUpd_sound; assumption

theorem Device.engineRun_sound {d : Device} {t : UpdDesc} {c : Nat} :
    d.Sound → (Device.engineRun d t c).Sound := by
  intro h0; unfold Device.engineRun
  with_reducible
    apply Device.setReg_sound; apply Device.ite_sound; dsimp only; apply Device.Sound.upd; apply Device.setUpd_sound; assumption
    apply Device.openGroup_sound; dsimp only; apply Device.Sound.upd; apply Device.setUpd_sound; assumption

theorem Device.engineEnd_sound {d : Device} {t : UpdDesc} {c : Nat} :
    d.Sound → (Device.engineEnd d t c).Sound := by
  intro h0; unfold Device.engineEnd
  with_reducible
    apply Device.setFlag_sound; apply Device.updRun_sound; assumption

theorem Device.updBegin_sound {d : Device} {t : UpdDesc} {c : Nat} :
    d.Sound → (Device.updBegin d t c).Sound := by
  fun_cases Device.updBegin d t c <;> intro h0
  with_reducible
    apply Device.updDone_sound; apply Device.updFault_sound; apply Device.readGrec_sound; assumption; apply Device.updDone_sound
    apply Device.ite_sound; apply Device.sramStore_sound; apply Device.ite_fst_sound; apply Device.readGrec_sound; assumption
    apply Device.ite_fst_sound; apply Device.readGrec_sound; assumption; apply Device.updSkew_sound; apply Device.readGrec_sound
    assumption; apply Device.ite_fst_sound; apply Device.readGrec_sound; assumption; apply Device.ite_fst_sound
    apply Device.readGrec_sound; assumption; apply Device.updSkew_sound; apply Device.readGrec_sound; assumption
    apply Device.updDone_sound; apply Device.updFault_sound; apply Device.ite_fst_sound; apply Device.readGrec_sound; assumption
    apply Device.ite_fst_sound; apply Device.readGrec_sound; assumption; apply Device.updSkew_sound; apply Device.readGrec_sound
    assumption; apply Device.updDone_sound; apply Device.ite_fst_sound; apply Device.readGrec_sound; assumption
    apply Device.ite_fst_sound; apply Device.readGrec_sound; assumption; apply Device.updSkew_sound; apply Device.readGrec_sound
    assumption; apply Device.resolve_sound; apply Device.openGroup_sound; apply Device.ite_fst_sound; apply Device.readGrec_sound
    assumption; apply Device.ite_fst_sound; apply Device.readGrec_sound; assumption; apply Device.updSkew_sound
    apply Device.readGrec_sound; assumption; apply Device.engineEnd_sound; apply Device.engineRun_sound; apply Device.setUpd_sound
    apply Device.ite_fst_sound; apply Device.readGrec_sound; assumption; apply Device.ite_fst_sound; apply Device.readGrec_sound
    assumption; apply Device.updSkew_sound; apply Device.readGrec_sound; assumption; apply Device.handOver_sound
    apply Device.setUpd_sound; apply Device.ite_fst_sound; apply Device.readGrec_sound; assumption; apply Device.ite_fst_sound
    apply Device.readGrec_sound; assumption; apply Device.updSkew_sound; apply Device.readGrec_sound; assumption

theorem Device.updTake_sound {d : Device} {t : UpdDesc} :
    d.Sound → (Device.updTake d t).Sound := by
  intro h0; unfold Device.updTake
  with_reducible
    apply Device.ite_sound; apply Device.updDone_sound; assumption; apply Device.ite_sound; apply Device.updDone_sound; assumption
    apply Device.ite_sound; apply Device.updDone_sound; split; assumption; apply Device.readVa_sound; assumption; apply Device.ite_sound
    apply Device.updDone_sound; apply Device.updCheck_sound; split; assumption; apply Device.readVa_sound; assumption
    apply Device.ite_sound; apply Device.setUpd_sound; apply Device.updCheck_sound; split; assumption; apply Device.readVa_sound
    assumption; apply Device.updBegin_sound; apply Device.setUpd_sound; apply Device.updCheck_sound; split; assumption
    apply Device.readVa_sound; assumption

theorem Device.updServe_sound {d : Device} {p kind : Nat} :
    d.Sound → (Device.updServe d p kind).Sound := by
  intro h0; unfold Device.updServe
  with_reducible
    dsimp only; split; assumption; split; assumption; apply Device.ite_sound; assumption; apply Device.updTake_sound; split
    apply Device.Sound.upd; apply Device.exitIdle_sound; assumption; apply Device.Sound.upd; assumption

theorem Device.engineStart_sound {d : Device} {c : Nat} :
    d.Sound → (Device.engineStart d c).Sound := by
  intro h0; unfold Device.engineStart
  with_reducible
    apply Device.ite_sound; assumption; split; assumption; apply Device.engineRun_sound; assumption

theorem Device.engineComplete_sound {d : Device} {c : Nat} :
    d.Sound → (Device.engineComplete d c).Sound := by
  intro h0; unfold Device.engineComplete
  with_reducible
    split; assumption; apply Device.engineEnd_sound; assumption

theorem Device.updDoorbell_sound {d : Device} :
    d.Sound → (Device.updDoorbell d).Sound := by
  intro h0; unfold Device.updDoorbell
  with_reducible
    apply Device.doorbell_sound; assumption; intro _; intro _; intro _; intro _; apply Device.updFault_sound; assumption; intro _
    intro _; intro _; intro _; intro _; apply Device.ite_sound; apply Device.updFault_sound; apply Device.readVa_sound; assumption
    dsimp only; apply Device.Sound.upd; apply Device.readVa_sound; assumption

theorem Device.answerUpd_sound {d : Device} {p status : Nat} :
    d.Sound → (Device.answerUpd d p status).Sound := by
  intro h0; unfold Device.answerUpd
  with_reducible
    apply Device.foldl_sound; intro _; intro _; intro _; apply Device.complete_sound; assumption; dsimp only; apply Device.Sound.upd
    assumption

theorem Device.updEnableNow_sound {d : Device} {p : Nat} :
    d.Sound → (Device.updEnableNow d p).Sound := by
  intro h0; unfold Device.updEnableNow
  with_reducible
    apply Device.armQueues_sound; apply Device.setFlag_sound; assumption

theorem Device.updEnable_sound {d : Device} {p : Nat} :
    d.Sound → (Device.updEnable d p).Sound := by
  intro h0; unfold Device.updEnable
  with_reducible
    apply Device.ite_sound; assumption; apply Device.ite_sound; apply Device.setFlag_sound; assumption; apply Device.updEnableNow_sound
    assumption

theorem Device.updDisable_sound {d : Device} {p : Nat} :
    d.Sound → (Device.updDisable d p).Sound := by
  intro h0; unfold Device.updDisable
  with_reducible
    apply Device.ite_sound; apply Device.answerUpd_sound; apply Device.setFlag_sound; assumption; apply Device.setFlag_sound
    apply Device.disarmQueues_sound; apply Device.setFlag_sound; apply Device.answerUpd_sound; apply Device.setFlag_sound; assumption

theorem Device.updDrainEnd_sound {d : Device} {p : Nat} :
    d.Sound → (Device.updDrainEnd d p).Sound := by
  intro h0; unfold Device.updDrainEnd
  with_reducible
    apply Device.ite_sound; apply Device.ite_sound; apply Device.answerUpd_sound; apply Device.updEnableNow_sound
    apply Device.setFlag_sound; apply Device.setFlag_sound; assumption; apply Device.setFlag_sound; assumption; assumption

theorem Device.updSluice_sound {d : Device} {p : Nat} :
    d.Sound → (Device.updSluice d p).Sound := by
  intro h0; unfold Device.updSluice
  with_reducible
    apply Device.foldl_sound; intro _; intro _; intro _; apply Device.updDone_sound; assumption; assumption

theorem Device.updStrokeStart_sound {d : Device} {p : Nat} :
    d.Sound → (Device.updStrokeStart d p).Sound := by
  intro h0; unfold Device.updStrokeStart
  with_reducible
    apply Device.foldl_sound; intro _; intro _; intro _; apply Device.ite_sound; split; assumption; dsimp only; apply Device.Sound.upd
    assumption; apply Device.tear_sound; assumption; assumption

end Machine
end Sys2Proof
end

