-- ==== Sys2Proof/Laws/SoundStrokes.lean ====
section
/-!
SUPPORT. Soundness is kept by the operations of Machine/Strokes.lean.
-/
namespace Sys2Proof
namespace Machine

theorem Device.setStk_sound {d : Device} {p v : Nat} :
    d.Sound → (Device.setStk d p v).Sound := by
  intro h0; unfold Device.setStk
  with_reducible
    apply Device.ite_sound; assumption; apply Device.firePart_sound; apply Device.ite_sound; apply Device.setFlag_sound
    apply Device.setFlag_sound; apply Device.setFld_sound; assumption; apply Device.setFlag_sound; apply Device.setFld_sound; assumption

theorem Device.stkErr_sound {d : Device} {p st entry : Nat} :
    d.Sound → (Device.stkErr d p st entry).Sound := by
  intro h0; unfold Device.stkErr
  with_reducible
    apply Device.firePart_sound; apply Device.setFld_sound; apply Device.setFld_sound; apply Device.setFlag_sound; assumption

theorem Device.stkArm_sound {d : Device} {p : Nat} :
    d.Sound → (Device.stkArm d p).Sound := by
  intro h0; unfold Device.stkArm
  with_reducible
    apply Device.ite_sound; apply Device.stkErr_sound; assumption; dsimp only; split; apply Device.stkErr_sound; assumption
    apply Device.setStk_sound; apply Device.setStroke_sound; apply Device.exitIdle_sound; assumption

theorem Device.stkStop_sound {d : Device} {p : Nat} :
    d.Sound → (Device.stkStop d p).Sound := by
  intro h0; unfold Device.stkStop
  with_reducible
    split; apply Device.setStk_sound; assumption; apply Device.setStk_sound; assumption; apply Device.setFlag_sound; assumption
    assumption

theorem Device.stkCommit_sound {d : Device} {p : Nat} :
    d.Sound → (Device.stkCommit d p).Sound := by
  intro h0; unfold Device.stkCommit
  with_reducible
    apply Device.ite_sound; apply Device.setFlag_sound; assumption; assumption

theorem Device.stkStartWrite_sound {d : Device} {p i : Nat} {v : Word} :
    d.Sound → (Device.stkStartWrite d p i v).Sound := by
  intro h0; unfold Device.stkStartWrite
  with_reducible
    apply Device.ite_sound; apply Device.setReg_sound; assumption; apply Device.stkErr_sound; assumption

theorem Device.applyCommit_sound {d : Device} {p : Nat} :
    d.Sound → (Device.applyCommit d p).Sound := by
  intro h0; unfold Device.applyCommit
  with_reducible
    apply Device.ite_sound; assumption; dsimp only; split; apply Device.stkErr_sound; apply Device.setFlag_sound; assumption
    apply Device.ite_sound; apply Device.setStroke_sound; apply Device.setFlag_sound; assumption; apply Device.setStroke_sound
    apply Device.setReg_sound; apply Device.setReg_sound; apply Device.setReg_sound; apply Device.setReg_sound
    apply Device.setFlag_sound; assumption

theorem Device.reach_sound {d : Device} {t : Int} :
    d.Sound → (Device.reach d t).Sound := by
  intro h0; unfold Device.reach
  with_reducible
    apply Device.Sound.upd; assumption

theorem Device.strokeBegin_sound {d : Device} {p : Nat} :
    d.Sound → (Device.strokeBegin d p).Sound := by
  intro h0; unfold Device.strokeBegin
  with_reducible
    apply Device.ite_sound; apply Device.bump64_sound; apply Device.setStroke_sound; assumption; apply Device.firePart_sound
    apply Device.raise_sound; apply Device.bump_sound; apply Device.setStroke_sound; assumption

theorem Device.strokeStart_sound {d : Device} {p : Nat} :
    d.Sound → (Device.strokeStart d p).Sound := by
  intro h0; unfold Device.strokeStart
  with_reducible
    apply Device.ite_sound; apply Device.strokeBegin_sound; apply Device.updStrokeStart_sound; apply Device.aqStrokeStart_sound
    apply Device.redStrokeStart_sound; apply Device.setFlag_sound; apply Device.applyCommit_sound; apply Device.setStk_sound
    apply Device.setStroke_sound; apply Device.setReg_sound; apply Device.reach_sound; assumption; apply Device.ite_sound
    apply Device.setStroke_sound; apply Device.setFlag_sound; apply Device.reach_sound; assumption; assumption

theorem Device.phase_sound {d : Device} {p i action : Nat} {f : Device → PhaseEntry → Device} :
    d.Sound → (∀ (x0 : Device) (x1 : PhaseEntry), x0.Sound → (f x0 x1).Sound) → (Device.phase d p i action f).Sound := by
  intro h0 h1; unfold Device.phase
  with_reducible
    apply Device.ite_sound; apply h1; apply Device.bump_sound; apply Device.setStroke_sound; apply Device.reach_sound; assumption
    assumption

theorem Device.phaseFault_sound {d : Device} {p i status source detail : Nat} :
    d.Sound → (Device.phaseFault d p i status source detail).Sound := by
  intro h0; unfold Device.phaseFault
  with_reducible
    apply Device.raise_sound; assumption

theorem Device.startCores_sound {d : Device} {p mask : Nat} :
    d.Sound → (Device.startCores d p mask).Sound := by
  intro h0; unfold Device.startCores
  with_reducible
    apply Device.foldl_sound; intro _; intro _; intro _; apply Device.replayStart_sound; assumption; assumption

theorem Device.gangStart_sound {d : Device} {p i : Nat} :
    d.Sound → (Device.gangStart d p i).Sound := by
  intro h0; unfold Device.gangStart
  with_reducible
    apply Device.phase_sound; assumption; intro _; intro _; intro _; apply Device.startCores_sound; assumption

theorem Device.replayPhase_sound {d : Device} {p i : Nat} :
    d.Sound → (Device.replayPhase d p i).Sound := by
  intro h0; unfold Device.replayPhase
  with_reducible
    apply Device.phase_sound; assumption; intro _; intro _; intro _; apply Device.startCores_sound; assumption

theorem Device.bucketPhase_sound {d : Device} {p i action : Nat} {f : Device → Nat → Device} :
    d.Sound → (∀ (x0 : Device) (x1 : Nat), x0.Sound → (f x0 x1).Sound) → (Device.bucketPhase d p i action f).Sound := by
  intro h0 h1; unfold Device.bucketPhase
  with_reducible
    apply Device.phase_sound; assumption; intro _; intro _; intro _; apply Device.ite_sound; apply Device.phaseFault_sound; assumption
    apply h1; assumption

theorem Device.ckptPhase_sound {d : Device} {p i : Nat} :
    d.Sound → (Device.ckptPhase d p i).Sound := by
  intro h0; unfold Device.ckptPhase
  with_reducible
    apply Device.phase_sound; assumption; intro _; intro _; intro _; apply Device.ite_sound; apply Device.setStroke_sound; assumption
    assumption

theorem Device.eventPhase_sound {d : Device} {p i : Nat} :
    d.Sound → (Device.eventPhase d p i).Sound := by
  intro h0; unfold Device.eventPhase
  with_reducible
    apply Device.phase_sound; assumption; intro _; intro _; intro _; apply Device.ite_sound; apply Device.fire_sound; assumption
    apply Device.phaseFault_sound; assumption

theorem Device.coreSluice_sound {d : Device} {p c : Nat} :
    d.Sound → (Device.coreSluice d p c).Sound := by
  intro h0; unfold Device.coreSluice
  with_reducible
    apply Device.bump_sound; apply Device.leaveBarriers_sound; apply Device.foldl_sound; intro _; intro _; intro _
    apply Device.cancelQueue_sound; assumption; apply Device.ite_sound; apply Device.boundary_sound; apply Device.modCore_sound
    assumption; intro _; intro _; apply Core.Sound.upd; assumption; assumption

theorem Device.sluice_sound {d : Device} {p : Nat} :
    d.Sound → (Device.sluice d p).Sound := by
  intro h0; unfold Device.sluice
  with_reducible
    apply Device.ite_sound; apply Device.setStroke_sound; apply Device.updSluice_sound; apply Device.redSluice_sound
    apply Device.foldl_sound; intro _; intro _; intro _; apply Device.coreSluice_sound; assumption; apply Device.setFlag_sound
    apply Device.setFlag_sound; apply Device.reach_sound; assumption; assumption

theorem Device.drainComplete_sound {d : Device} {p : Nat} :
    d.Sound → (Device.drainComplete d p).Sound := by
  intro h0
  unfold Device.drainComplete
  split
  · exact h0
  · refine Device.ite_sound h0 ?_
    extract_lets d1 _ d2 ns d3
    have h1 : d1.Sound := Device.foldl_sound (fun _ _ h => Device.modCore_sound h _ (fun _ hk => Core.clearSem_sound hk)) _ h0
    have h2 : d2.Sound := Device.setFlag_sound (Device.setStroke_sound h1) _ _ _
    have h3 : d3.Sound := Device.ite_sound (Device.firePart_sound (Device.setReg_sound h2 _ _)) h2
    exact Device.ite_sound (Device.setStk_sound h3) h3

theorem Device.strokeReset_sound {d : Device} {p : Nat} :
    d.Sound → (Device.strokeReset d p).Sound := by
  intro h0
  unfold Device.strokeReset
  extract_lets d1 d2 d3
  have h1 : d1.Sound := Device.setFlag_sound (Device.setFlag_sound (Device.setStk_sound h0) _ _ _) _ _ _
  have h2 : d2.Sound := Device.foldl_sound (fun _ _ h => Device.setReg_sound h _ _) _ h1
  have h3 : d3.Sound := Device.foldl_sound (fun _ _ h => Device.setReg_sound h _ _) _ h2
  exact Device.Sound.upd h3

end Machine
end Sys2Proof
end

