-- ==== Sys2Proof/Laws/SoundCheckpoint.lean ====
section
/-!
SUPPORT. Soundness is kept by the operations of Machine/Checkpoint.lean.
-/
namespace Sys2Proof
namespace Machine

theorem Device.readPlan_sound {d : Device} {p i : Nat} :
    d.Sound → (Device.readPlan d p i).1.Sound := by
  intro h0; unfold Device.readPlan
  with_reducible
    apply Device.ite_fst_sound; apply Device.readVa_sound; assumption; apply Device.readVa_sound; assumption

theorem Device.xlatePages_sound {d : Device} {p : Nat} {acc : Access} {ok : Region → Bool} {va : Nat} {y0 : Nat} :
    d.Sound → (Device.xlatePages d p acc ok va y0).1.Sound := by
  fun_induction Device.xlatePages d p acc ok va y0 <;> intro h0
  with_reducible
    assumption; refine Device.fst_eq ‹_ = (_, _)› ?_; apply Device.translate_sound; assumption; refine Device.fst_eq ‹_ = (_, _)› ?_
    apply Device.translate_sound; assumption; refine Device.fst_eq ‹_ = (_, _)› ?_; apply_assumption -exfalso -symm
    refine Device.fst_eq ‹_ = (_, _)› ?_; apply Device.translate_sound; assumption; refine Device.fst_eq ‹_ = (_, _)› ?_
    apply_assumption -exfalso -symm; refine Device.fst_eq ‹_ = (_, _)› ?_; apply Device.translate_sound; assumption

theorem Device.regionPages_sound {d : Device} {p : Nat} {acc : Access} {y0 : List (List Byte)} :
    d.Sound → (Device.regionPages d p acc y0).1.Sound := by
  fun_induction Device.regionPages d p acc y0 <;> intro h0
  with_reducible
    assumption; refine Device.fst_eq ‹_ = (_, _)› ?_; apply Device.xlatePages_sound; assumption; refine Device.fst_eq ‹_ = (_, _)› ?_
    apply_assumption -exfalso -symm; refine Device.fst_eq ‹_ = (_, _)› ?_; apply Device.xlatePages_sound; assumption
    refine Device.fst_eq ‹_ = (_, _)› ?_; apply_assumption -exfalso -symm; refine Device.fst_eq ‹_ = (_, _)› ?_
    apply Device.xlatePages_sound; assumption

theorem Device.planPages_sound {d : Device} {p : Nat} {acc : Access} {x : Plan} :
    d.Sound → (Device.planPages d p acc x).1.Sound := by
  intro h0; unfold Device.planPages
  with_reducible
    apply Device.ite_fst_sound; apply Device.readVa_sound; assumption; apply Device.ite_fst_sound; apply Device.readVa_sound; assumption
    apply Device.regionPages_sound; apply Device.readVa_sound; assumption

theorem Device.incrPlans_sound {d : Device} {p : Nat} {y0 : List Nat} :
    d.Sound → (Device.incrPlans d p y0).1.Sound := by
  fun_induction Device.incrPlans d p y0 <;> intro h0
  with_reducible
    assumption; refine Device.fst_eq ‹_ = (_, _)› ?_; apply Device.readPlan_sound; assumption; refine Device.fst_eq ‹_ = (_, _)› ?_
    apply_assumption -exfalso -symm; refine Device.fst_eq ‹_ = (_, _)› ?_; apply Device.readPlan_sound; assumption
    refine Device.fst_eq ‹_ = (_, _)› ?_; apply_assumption -exfalso -symm; refine Device.fst_eq ‹_ = (_, _)› ?_
    apply Device.readPlan_sound; assumption

theorem Device.planCheck_sound {d : Device} {p i : Nat} {regions area : Access} :
    d.Sound → (Device.planCheck d p i regions area).1.Sound := by
  intro h0; unfold Device.planCheck
  with_reducible
    apply Device.ite_fst_sound; assumption; split; refine Device.fst_eq ‹_ = (_, _)› ?_; apply Device.readPlan_sound; assumption
    apply Device.ite_fst_sound; refine Device.fst_eq ‹_ = (_, _)› ?_; apply Device.readPlan_sound; assumption; split
    refine Device.fst_eq ‹_ = (_, _)› ?_; apply Device.incrPlans_sound; refine Device.fst_eq ‹_ = (_, _)› ?_
    apply Device.readPlan_sound; assumption; apply Device.ite_fst_sound; refine Device.fst_eq ‹_ = (_, _)› ?_
    apply Device.incrPlans_sound; refine Device.fst_eq ‹_ = (_, _)› ?_; apply Device.readPlan_sound; assumption; split
    refine Device.fst_eq ‹_ = (_, _)› ?_; apply Device.planPages_sound; refine Device.fst_eq ‹_ = (_, _)› ?_
    apply Device.incrPlans_sound; refine Device.fst_eq ‹_ = (_, _)› ?_; apply Device.readPlan_sound; assumption; split
    refine Device.fst_eq ‹_ = (_, _)› ?_; apply Device.xlatePages_sound; refine Device.fst_eq ‹_ = (_, _)› ?_
    apply Device.planPages_sound; refine Device.fst_eq ‹_ = (_, _)› ?_; apply Device.incrPlans_sound
    refine Device.fst_eq ‹_ = (_, _)› ?_; apply Device.readPlan_sound; assumption; refine Device.fst_eq ‹_ = (_, _)› ?_
    apply Device.xlatePages_sound; refine Device.fst_eq ‹_ = (_, _)› ?_; apply Device.planPages_sound
    refine Device.fst_eq ‹_ = (_, _)› ?_; apply Device.incrPlans_sound; refine Device.fst_eq ‹_ = (_, _)› ?_
    apply Device.readPlan_sound; assumption

theorem Device.readHeaders_sound {d : Device} {area : List (Nat × Nat)} {np : Nat} :
    d.Sound → (Device.readHeaders d area np).1.Sound := by
  intro h0; unfold Device.readHeaders
  extract_lets page r0 r1
  exact Device.pair_sound (Device.dramRead_sound (Device.dramRead_sound h0))

theorem Device.foldPlan_sound {d : Device} {p : Nat} {x : Plan} :
    d.Sound → (Device.foldPlan d p x).1.Sound := by
  intro h0; unfold Device.foldPlan
  with_reducible
    split; refine Device.fst_eq ‹_ = (_, _)› ?_; apply Device.planPages_sound; assumption; apply Device.readVa_sound
    refine Device.fst_eq ‹_ = (_, _)› ?_; apply Device.planPages_sound; assumption

theorem Device.foldPlans_sound {d : Device} {p : Nat} {y0 : List (Nat × Plan)} :
    d.Sound → (Device.foldPlans d p y0).1.Sound := by
  fun_induction Device.foldPlans d p y0 <;> intro h0
  with_reducible
    assumption; apply_assumption -exfalso -symm; apply Device.foldPlan_sound; assumption; apply_assumption -exfalso -symm
    apply Device.foldPlan_sound; assumption

theorem Device.sliceResult_sound {d : Device} {p owner st seq : Nat} :
    d.Sound → (Device.sliceResult d p owner st seq).Sound := by
  intro h0; unfold Device.sliceResult
  with_reducible
    apply Device.complete_sound; apply Device.firePart_sound; apply Device.ite_sound; apply Device.bump_sound; assumption
    apply Device.setFld_sound; apply Device.setFlag_sound; assumption

theorem Device.orphan_sound {d : Device} {p : Nat} :
    d.Sound → (Device.orphan d p).Sound := by
  intro h0; unfold Device.orphan
  with_reducible
    dsimp only; apply Device.Sound.upd; assumption

theorem Device.sliceEnd_sound {d : Device} {p st : Nat} :
    d.Sound → (Device.sliceEnd d p st).Sound := by
  intro h0; unfold Device.sliceEnd
  with_reducible
    split; assumption; apply Device.sliceResult_sound; apply Device.orphan_sound; dsimp only; apply Device.Sound.upd; assumption

theorem Device.flowPost_sound {d : Device} {p f : Nat} {m : TxMsg} :
    d.Sound → (Device.flowPost d p f m).Sound := by
  intro h0; unfold Device.flowPost
  with_reducible
    split; apply Device.aqFinish_sound; assumption; apply Device.ite_sound; apply Device.aqFinish_sound; assumption
    apply Device.ite_sound; apply Device.aqFinish_sound; assumption; apply Device.aqPost_sound; assumption

theorem Device.mirrorWrite_sound {d : Device} {p f addr : Nat} {bs : List Byte} :
    d.Sound → (Device.mirrorWrite d p f addr bs).Sound := by
  intro h0; unfold Device.mirrorWrite
  with_reducible
    apply Device.flowPost_sound; assumption

theorem Device.sliceCapture_sound {d : Device} {p i owner : Nat} {x : PlanOk} :
    d.Sound → (Device.sliceCapture d p i owner x).Sound := by
  fun_cases Device.sliceCapture d p i owner x <;> intro h0
  with_reducible
    apply Device.mirrorWrite_sound; apply Device.memWrite_sound; apply Device.foldl_sound; intro _; intro _; intro _
    apply Device.writeVa_sound; assumption; apply Device.setFlag_sound; apply Device.Sound.upd; apply Device.Sound.upd
    apply Device.ite_sound; apply Device.bump_sound; apply Device.ite_sound; apply Device.readVa_sound; apply Device.foldPlans_sound
    apply Device.readHeaders_sound; apply Device.foldl_sound; intro _; intro _; intro _; apply Device.releaseAll_sound; assumption
    assumption; apply Device.foldPlans_sound; apply Device.readHeaders_sound; apply Device.foldl_sound; intro _; intro _; intro _
    apply Device.releaseAll_sound; assumption; assumption; apply Device.ite_sound; apply Device.readVa_sound
    apply Device.foldPlans_sound; apply Device.readHeaders_sound; apply Device.foldl_sound; intro _; intro _; intro _
    apply Device.releaseAll_sound; assumption; assumption; apply Device.foldPlans_sound; apply Device.readHeaders_sound
    apply Device.foldl_sound; intro _; intro _; intro _; apply Device.releaseAll_sound; assumption; assumption
    apply Device.memWrite_sound; apply Device.foldl_sound; intro _; intro _; intro _; apply Device.writeVa_sound; assumption
    apply Device.setFlag_sound; apply Device.Sound.upd; apply Device.Sound.upd; apply Device.ite_sound; apply Device.bump_sound
    apply Device.ite_sound; apply Device.readVa_sound; apply Device.foldPlans_sound; apply Device.readHeaders_sound
    apply Device.foldl_sound; intro _; intro _; intro _; apply Device.releaseAll_sound; assumption; assumption
    apply Device.foldPlans_sound; apply Device.readHeaders_sound; apply Device.foldl_sound; intro _; intro _; intro _
    apply Device.releaseAll_sound; assumption; assumption; apply Device.ite_sound; apply Device.readVa_sound
    apply Device.foldPlans_sound; apply Device.readHeaders_sound; apply Device.foldl_sound; intro _; intro _; intro _
    apply Device.releaseAll_sound; assumption; assumption; apply Device.foldPlans_sound; apply Device.readHeaders_sound
    apply Device.foldl_sound; intro _; intro _; intro _; apply Device.releaseAll_sound; assumption; assumption

theorem Device.sliceStart_sound {d : Device} {p i owner : Nat} :
    d.Sound → (Device.sliceStart d p i owner).Sound := by
  intro h0; unfold Device.sliceStart
  with_reducible
    dsimp only; split; apply Device.sliceResult_sound; refine Device.fst_eq ‹_ = (_, _)› ?_; apply Device.planCheck_sound
    apply Device.setFld_sound; assumption; apply Device.sliceCapture_sound; refine Device.fst_eq ‹_ = (_, _)› ?_
    apply Device.planCheck_sound; apply Device.setFld_sound; assumption

theorem Device.sliceBusy_sound {d : Device} {p i : Nat} :
    d.Sound → (Device.sliceBusy d p i).Sound := by
  intro h0; unfold Device.sliceBusy
  with_reducible
    apply Device.firePart_sound; apply Device.raise_sound; apply Device.bump_sound; assumption

theorem Device.hiddenCmd_sound {d : Device} {p i : Nat} :
    d.Sound → (Device.hiddenCmd d p i).1.Sound := by
  intro h0; unfold Device.hiddenCmd
  with_reducible
    dsimp only; apply Device.Sound.upd; assumption

theorem Device.ckptStart_sound {d : Device} {p : Nat} :
    d.Sound → (Device.ckptStart d p).Sound := by
  intro h0; unfold Device.ckptStart
  with_reducible
    apply Device.ite_sound; assumption; split; apply Device.ite_sound; assumption; apply Device.ite_sound; apply Device.sliceBusy_sound
    apply Device.setStroke_sound; assumption; apply Device.sliceStart_sound; apply Device.hiddenCmd_sound; apply Device.setStroke_sound
    assumption; apply Device.ite_sound; assumption; split; assumption; apply Device.sliceStart_sound; dsimp only; apply Device.Sound.upd
    assumption

theorem Device.copyHeld_sound {d : Device} {p : Nat} {y0 : Nat} :
    d.Sound → (Device.copyHeld d p y0).Sound := by
  fun_induction Device.copyHeld d p y0 <;> intro h0
  with_reducible
    assumption; assumption; apply_assumption -exfalso -symm; apply Device.bump64_sound; apply Device.copyPage_sound
    apply Device.copyAhead_sound; apply_assumption -exfalso -symm

theorem Device.sliceValid_sound {d : Device} {p : Nat} {s : Slice} :
    d.Sound → (Device.sliceValid d p s).Sound := by
  intro h0; unfold Device.sliceValid
  with_reducible
    apply Device.sliceEnd_sound; apply Device.ite_sound; apply Device.writeVa_sound; apply Device.readVa_sound
    apply Device.memWrite_sound; assumption; apply Device.memWrite_sound; assumption

theorem Device.mirrorSend_sound {d : Device} {p : Nat} {s : Slice} {f addr : Nat} :
    d.Sound → (Device.mirrorSend d p s f addr).Sound := by
  intro h0; unfold Device.mirrorSend
  with_reducible
    dsimp only; apply Device.Sound.upd; apply Device.mirrorWrite_sound; apply Device.flowPost_sound; apply Device.foldl_sound; intro _
    intro _; intro _; apply Device.ite_sound; apply Device.Sound.upd; apply Device.dramRead_sound; assumption
    apply Device.mirrorWrite_sound; apply Device.dramRead_sound; assumption; assumption

theorem Device.ckptValidate_sound {d : Device} {p : Nat} :
    d.Sound → (Device.ckptValidate d p).Sound := by
  intro h0; unfold Device.ckptValidate
  with_reducible
    split; assumption; apply Device.ite_sound; assumption; split; apply Device.sliceEnd_sound; assumption; apply Device.ite_sound
    apply Device.ite_sound; assumption; apply Device.sliceValid_sound; assumption; split; apply Device.sliceValid_sound
    apply Device.copyHeld_sound; assumption; apply Device.mirrorSend_sound; apply Device.copyHeld_sound; assumption

theorem Device.restoreRead_sound {d : Device} {p f : Nat} {owner : AqOwner} {raddr laddr n : Nat} :
    d.Sound → (Device.restoreRead d p f owner raddr laddr n).Sound := by
  intro h0; unfold Device.restoreRead
  with_reducible
    apply Device.flowPost_sound; assumption

theorem Device.restorePages_sound {d : Device} {y0 : List (Nat × Nat)} :
    d.Sound → (Device.restorePages d y0).Sound := by
  fun_induction Device.restorePages d y0 <;> intro h0
  with_reducible
    assumption; apply_assumption -exfalso -symm; apply Device.notify_sound; apply Device.copyPage_sound; apply Device.openPages_sound
    assumption

theorem Device.restoreWork_sound {d : Device} {c : ZCmd} :
    d.Sound → (Device.restoreWork d c).1.Sound := by
  fun_cases Device.restoreWork d c <;> intro h0
  with_reducible
    refine Device.fst_eq ‹_ = (_, _)› ?_; apply Device.planCheck_sound; assumption; apply Device.readHeaders_sound
    refine Device.fst_eq ‹_ = (_, _)› ?_; apply Device.planCheck_sound; assumption; apply Device.restorePages_sound
    apply Device.readHeaders_sound; refine Device.fst_eq ‹_ = (_, _)› ?_; apply Device.planCheck_sound; assumption
    apply Device.orphan_sound; refine Device.fst_eq ‹_ = (_, _)› ?_; apply Device.planCheck_sound; assumption
    apply Device.restoreRead_sound; apply Device.restoreRead_sound; apply Device.Sound.upd; refine Device.fst_eq ‹_ = (_, _)› ?_
    apply Device.planCheck_sound; assumption; refine Device.fst_eq ‹_ = (_, _)› ?_; apply Device.planCheck_sound; assumption
    refine Device.fst_eq ‹_ = (_, _)› ?_; apply Device.planCheck_sound; assumption; apply Device.foldl_sound; intro _; intro _; intro _
    apply Device.restoreRead_sound; assumption; refine Device.fst_eq ‹_ = (_, _)› ?_; apply Device.planCheck_sound; assumption
    refine Device.fst_eq ‹_ = (_, _)› ?_; apply Device.planCheck_sound; assumption

end Machine
end Sys2Proof
end

