-- ==== Sys2Proof/Laws/SoundStore.lean ====
section
/-!
SUPPORT. Soundness is kept by the operations of Machine/Store.lean.
-/
namespace Sys2Proof
namespace Machine

theorem Device.showStore_sound {d : Device} :
    d.Sound → (Device.showStore d).Sound := by
  intro h0; unfold Device.showStore
  with_reducible
    split; apply Device.setReg_sound; apply Device.setReg_sound; assumption; apply Device.setReg_sound; apply Device.setReg_sound
    assumption

theorem Device.showSlots_sound {d : Device} :
    d.Sound → (Device.showSlots d).Sound := by
  intro h0; unfold Device.showSlots
  with_reducible
    apply Device.foldl_sound; intro _; intro _; intro _; apply Device.setReg_sound; assumption; assumption

theorem Device.refuseChange_sound {d : Device} {c : StoreChange} :
    d.Sound → (Device.refuseChange d c).Sound := by
  intro h0; unfold Device.refuseChange
  with_reducible
    split; apply Device.complete_sound; assumption; dsimp only; apply Device.Sound.upd; assumption

theorem Device.storeChange_sound {d : Device} {c : StoreChange} :
    d.Sound → (Device.storeChange d c).Sound := by
  intro h0; unfold Device.storeChange
  with_reducible
    apply Device.ite_sound; apply Device.refuseChange_sound; assumption; apply Device.showSlots_sound; apply Device.setFlag_sound
    dsimp only; apply Device.Sound.upd; assumption

theorem Device.storePut_sound {d : Device} {k : Nat} {bs : List Byte} :
    d.Sound → (Device.storePut d k bs).Sound := by
  intro h0; unfold Device.storePut
  with_reducible
    apply Device.storeChange_sound; assumption

theorem Device.storeSlots_sound {d : Device} {s : Nat} {e : SlotEntry} {owner : Option Nat} :
    d.Sound → (Device.storeSlots d s e owner).Sound := by
  intro h0; unfold Device.storeSlots
  with_reducible
    apply Device.storeChange_sound; assumption

theorem Device.setBank_sound {d : Device} {b : Nat} {c : Option StoreCopy} :
    d.Sound → (Device.setBank d b c).Sound := by
  intro h0; unfold Device.setBank
  with_reducible
    apply Device.ite_sound; apply Device.setFlag_sound; dsimp only; apply Device.Sound.upd; assumption; apply Device.setFlag_sound
    dsimp only; apply Device.Sound.upd; assumption

theorem Device.storeDone_sound {d : Device} {c : StoreChange} {rest : List StoreChange} :
    d.Sound → (Device.storeDone d c rest).Sound := by
  intro h0; unfold Device.storeDone
  with_reducible
    split; split; apply Device.complete_sound; apply Device.showSlots_sound; apply Device.showStore_sound; dsimp only
    apply Device.Sound.upd; apply Device.bump_sound; apply Device.setFlag_sound; apply Device.setFlag_sound; apply Device.setBank_sound
    assumption; apply Device.showSlots_sound; apply Device.showStore_sound; dsimp only; apply Device.Sound.upd; apply Device.bump_sound
    apply Device.setFlag_sound; apply Device.setFlag_sound; apply Device.setBank_sound; assumption; split; apply Device.complete_sound
    apply Device.showSlots_sound; apply Device.showStore_sound; dsimp only; apply Device.Sound.upd; apply Device.bump_sound
    apply Device.setFlag_sound; apply Device.setFlag_sound; apply Device.setBank_sound; assumption; apply Device.showSlots_sound
    apply Device.showStore_sound; dsimp only; apply Device.Sound.upd; apply Device.bump_sound; apply Device.setFlag_sound
    apply Device.setFlag_sound; apply Device.setBank_sound; assumption

theorem Device.storeWriteDone_sound {d : Device} {ok : Bool} :
    d.Sound → (Device.storeWriteDone d ok).Sound := by
  intro h0; unfold Device.storeWriteDone
  with_reducible
    split; assumption; apply Device.ite_sound; apply Device.storeDone_sound; assumption; apply Device.ite_sound; dsimp only
    apply Device.Sound.upd; apply Device.bump_sound; apply Device.setBank_sound; assumption; apply Device.fire_sound
    apply Device.showSlots_sound; apply Device.foldl_sound; intro _; intro _; intro _; apply Device.refuseChange_sound; assumption
    split; apply Device.complete_sound; dsimp only; apply Device.Sound.upd; apply Device.setFlag_sound; apply Device.setFlag_sound
    apply Device.setFlag_sound; apply Device.bump_sound; apply Device.setBank_sound; assumption; dsimp only; apply Device.Sound.upd
    apply Device.setFlag_sound; apply Device.setFlag_sound; apply Device.setFlag_sound; apply Device.bump_sound
    apply Device.setBank_sound; assumption

theorem Device.storeSlotMap_sound {d : Device} :
    d.Sound → (Device.storeSlotMap d).Sound := by
  intro h0; unfold Device.storeSlotMap
  with_reducible
    apply Device.storePut_sound; assumption

end Machine
end Sys2Proof
end

