-- ==== Sys2Proof/Laws/SoundService.lean ====
section
/-!
SUPPORT. Soundness is kept by the operations of Machine/Service.lean.
-/
namespace Sys2Proof
namespace Machine

theorem Device.setDebug_sound {d : Device} {level p : Nat} :
    d.Sound → (Device.setDebug d level p).Sound := by
  intro h0; unfold Device.setDebug
  with_reducible
    apply Device.ite_sound; apply Device.setFld_sound; apply Device.setFld_sound; assumption; apply Device.fire_sound
    apply Device.setFld_sound; apply Device.setFld_sound; assumption

theorem Device.closeDebug_sound {d : Device} :
    d.Sound → (Device.closeDebug d).Sound := by
  intro h0; unfold Device.closeDebug
  with_reducible
    apply Device.setDebug_sound; assumption

theorem Device.putSlot_sound {d : Device} {c v : Nat} :
    d.Sound → (Device.putSlot d c v).Sound := by
  intro h0; unfold Device.putSlot
  with_reducible
    apply Device.setFld_sound; assumption

theorem Device.retireSlot_sound {d : Device} {c : Nat} :
    d.Sound → (Device.retireSlot d c).Sound := by
  intro h0; unfold Device.retireSlot
  with_reducible
    apply Device.ite_sound; apply Device.setFlag_sound; assumption; assumption

theorem Device.blankCore_sound {d : Device} {c : Nat} :
    d.Sound → (Device.blankCore d c).Sound := by
  intro h0
  exact Device.modCore_sound (Device.coreReset_sound h0) c (fun _ hk => Core.blank_sound (Core.clear_sound hk [] []) [])

theorem Device.endSpare_sound {d : Device} {c st : Nat} :
    d.Sound → (Device.endSpare d c st).Sound := by
  intro h0; unfold Device.endSpare
  with_reducible
    apply Device.foldl_sound; intro _; intro _; intro _; split; apply Device.complete_sound; assumption; assumption; dsimp only
    apply Device.Sound.upd; assumption

theorem Device.loseSlot_sound {d : Device} {c : Nat} :
    d.Sound → (Device.loseSlot d c).Sound := by
  intro h0; unfold Device.loseSlot
  with_reducible
    apply Device.storeSlotMap_sound; apply Device.endSpare_sound; apply Device.setFlag_sound; apply Device.putSlot_sound
    apply Device.blankCore_sound; apply Device.retireSlot_sound; assumption

theorem Device.slotFailure_sound {d : Device} {c : Nat} {readable : Bool} :
    d.Sound → (Device.slotFailure d c readable).Sound := by
  intro h0; unfold Device.slotFailure
  with_reducible
    apply Device.ite_sound; assumption; apply Device.ite_sound; apply Device.loseSlot_sound; assumption; apply Device.ite_sound
    dsimp only; apply Device.Sound.upd; assumption; dsimp only; apply Device.Sound.upd; assumption

theorem Device.spareInto_sound {d : Device} {m : SpareMove} :
    d.Sound → (Device.spareInto d m).Sound := by
  intro h0; unfold Device.spareInto
  with_reducible
    apply Device.endSpare_sound; apply Device.fire_sound; apply Device.storeSlotMap_sound; apply Device.setFlag_sound
    apply Device.putSlot_sound; apply Device.retireSlot_sound; apply Device.ite_sound; assumption; apply Device.blankCore_sound
    assumption

theorem Device.spareMove_sound {d : Device} {c : Nat} :
    d.Sound → (Device.spareMove d c).Sound := by
  intro h0; unfold Device.spareMove
  with_reducible
    split; assumption; apply Device.ite_sound; apply Device.endSpare_sound; assumption; apply Device.ite_sound; apply Device.ite_sound
    apply Device.endSpare_sound; assumption; apply Device.loseSlot_sound; assumption; split; assumption; apply Device.spareInto_sound
    apply Device.exitIdle_sound; assumption; apply Device.spareInto_sound; apply Device.setStroke_sound; assumption; split; dsimp only
    apply Device.Sound.upd; assumption; dsimp only; apply Device.Sound.upd; assumption

theorem Device.storeRemap_sound {d : Device} :
    d.Sound → (Device.storeRemap d).Sound := by
  intro h0; unfold Device.storeRemap
  with_reducible
    apply Device.storePut_sound; assumption

theorem Device.storeGranules_sound {d : Device} :
    d.Sound → (Device.storeGranules d).Sound := by
  intro h0; unfold Device.storeGranules
  with_reducible
    apply Device.storePut_sound; assumption

theorem Device.retirePage_sound {d : Device} {a : Nat} :
    d.Sound → (Device.retirePage d a).Sound := by
  intro h0; unfold Device.retirePage
  with_reducible
    apply Device.ite_sound; apply Device.storeRemap_sound; dsimp only; apply Device.Sound.upd; apply Device.fire_sound
    apply Device.setFld_sound; apply Device.Sound.upd; assumption; apply Device.storeGranules_sound; apply Device.fire_sound
    apply Device.ite_sound; dsimp only; apply Device.Sound.upd; assumption; dsimp only; apply Device.Sound.upd; assumption

theorem Device.pageRetire_sound {d : Device} {a : Nat} :
    d.Sound → (Device.pageRetire d a).Sound := by
  intro h0; unfold Device.pageRetire
  with_reducible
    apply Device.ite_sound; assumption; apply Device.ite_sound; apply Device.retirePage_sound; apply Device.exitIdle_sound; assumption
    assumption

theorem Device.setSvc_sound {d : Device} {kind i v : Nat} :
    d.Sound → (Device.setSvc d kind i v).Sound := by
  intro h0; unfold Device.setSvc
  with_reducible
    apply Device.ite_sound; assumption; apply Device.ite_sound; apply Device.closeDebug_sound; apply Device.fire_sound
    apply Device.setFld_sound; assumption; apply Device.fire_sound; apply Device.setFld_sound; assumption

theorem Device.setDefer_sound {d : Device} {kind i : Nat} {b : Bool} :
    d.Sound → (Device.setDefer d kind i b).Sound := by
  intro h0; unfold Device.setDefer
  with_reducible
    apply Device.ite_sound; apply Device.setFlag_sound; assumption; apply Device.ite_sound; apply Device.setFlag_sound; assumption
    apply Device.setFlag_sound; assumption

theorem Device.answerSvc_sound {d : Device} {kind i : Nat} {held : Bool} {st : Nat} :
    d.Sound → (Device.answerSvc d kind i held st).Sound := by
  intro h0; unfold Device.answerSvc
  with_reducible
    apply Device.foldl_sound; intro _; intro _; intro _; apply Device.complete_sound; assumption; dsimp only; apply Device.Sound.upd
    assumption

theorem Device.awaitSvc_sound {d : Device} {kind i : Nat} {held : Bool} {id : Nat} :
    d.Sound → (Device.awaitSvc d kind i held id).Sound := by
  intro h0; unfold Device.awaitSvc
  with_reducible
    dsimp only; apply Device.Sound.upd; assumption

theorem Device.comeBack_sound {d : Device} {kind i : Nat} :
    d.Sound → (Device.comeBack d kind i).Sound := by
  intro h0; unfold Device.comeBack
  with_reducible
    apply Device.setSvc_sound; assumption

theorem Device.svcEnable_sound {d : Device} {kind i id : Nat} :
    d.Sound → (Device.svcEnable d kind i id).Sound := by
  intro h0; unfold Device.svcEnable
  with_reducible
    split; apply Device.complete_sound; assumption; apply Device.ite_sound; apply Device.awaitSvc_sound; apply Device.comeBack_sound
    assumption; apply Device.complete_sound; apply Device.comeBack_sound; assumption; apply Device.awaitSvc_sound
    apply Device.setDefer_sound; assumption

theorem Device.withdrawEnable_sound {d : Device} {kind i : Nat} :
    d.Sound → (Device.withdrawEnable d kind i).Sound := by
  intro h0; unfold Device.withdrawEnable
  with_reducible
    apply Device.answerSvc_sound; apply Device.setDefer_sound; assumption

theorem Device.svcDisable_sound {d : Device} {kind i id : Nat} {start : Device → Device} :
    d.Sound → (∀ (x0 : Device), x0.Sound → (start x0).Sound) → (Device.svcDisable d kind i id start).Sound := by
  intro h0 h1; unfold Device.svcDisable
  with_reducible
    split; apply Device.complete_sound; assumption; apply Device.awaitSvc_sound; apply h1; apply Device.setSvc_sound; assumption
    apply Device.ite_sound; apply Device.complete_sound; apply Device.setSvc_sound; apply Device.answerSvc_sound
    apply Device.withdrawEnable_sound; assumption; apply Device.awaitSvc_sound; apply Device.withdrawEnable_sound; assumption

theorem Device.zeroDram_sound {d : Device} {a n : Nat} :
    d.Sound → (Device.zeroDram d a n).Sound := by
  intro h0
  exact Device.Sound.updMem h0 (Cells.wf_clear h0.wfMem a n)

theorem Device.freeGranule_sound {d : Device} {g : Nat} :
    d.Sound → (Device.freeGranule d g).Sound := by
  intro h0; unfold Device.freeGranule
  with_reducible
    dsimp only; apply Device.Sound.upd; apply Device.zeroDram_sound; apply Device.openPages_sound; assumption

theorem Device.clearClusters_sound {d : Device} {mask : Nat} :
    d.Sound → (Device.clearClusters d mask).Sound := by
  intro h0
  refine Device.foldl_sound (fun _ _ h => Device.setCluster_sound h _ _) _ ?_
  exact Device.foldl_sound (fun _ _ h => Device.modCore_sound h _ (fun k hk => Core.clear_sound (k := { k with tlb := [] }) hk [] [])) _ h0

theorem Device.partStop_sound {d : Device} {p : Nat} :
    d.Sound → (Device.partStop d p).Sound := by
  intro h0; unfold Device.partStop
  with_reducible
    apply Device.updDisable_sound; apply Device.aqPenDisable_sound; apply Device.foldl_sound; intro _; intro _; intro _
    apply Device.closeFlow_sound; assumption; apply Device.stkStop_sound; assumption

theorem Device.partScrub_sound {d : Device} {p : Nat} :
    d.Sound → (Device.partScrub d p).Sound := by
  intro h0; unfold Device.partScrub
  with_reducible
    apply Device.foldl_sound; intro _; intro _; intro _; apply Device.freeGranule_sound; assumption; apply Device.clearClusters_sound
    apply Device.foldl_sound; intro _; intro _; intro _; apply Device.coreReset_sound; assumption; assumption

theorem Device.svcOff_sound {d : Device} {kind i : Nat} :
    d.Sound → (Device.svcOff d kind i).Sound := by
  intro h0; unfold Device.svcOff
  with_reducible
    apply Device.ite_sound; apply Device.answerSvc_sound; apply Device.setSvc_sound; assumption; apply Device.ite_sound
    apply Device.comeBack_sound; apply Device.answerSvc_sound; apply Device.setSvc_sound; assumption; apply Device.fire_sound
    apply Device.answerSvc_sound; apply Device.comeBack_sound; apply Device.setDefer_sound; apply Device.answerSvc_sound
    apply Device.setSvc_sound; assumption

theorem Device.shutdownComplete_sound {d : Device} {kind i : Nat} :
    d.Sound → (Device.shutdownComplete d kind i).Sound := by
  intro h0; unfold Device.shutdownComplete
  with_reducible
    split; apply Device.ite_sound; apply Device.setSvc_sound; apply Device.clearClusters_sound; assumption; assumption
    apply Device.ite_sound; apply Device.svcOff_sound; apply Device.setFlag_sound; assumption; assumption; apply Device.ite_sound
    apply Device.setSvc_sound; apply Device.partScrub_sound; assumption; assumption; apply Device.svcOff_sound; assumption
    apply Device.svcOff_sound; assumption; assumption

theorem Device.shutdownRow_sound {d : Device} {kind i : Nat} :
    d.Sound → (Device.shutdownRow d kind i).Sound := by
  intro h0; unfold Device.shutdownRow
  with_reducible
    apply Device.ite_sound; assumption; apply Device.shutdownComplete_sound; assumption

theorem Device.cisScrubEnd_sound {d : Device} {c : Nat} :
    d.Sound → (Device.cisScrubEnd d c).Sound := by
  intro h0; unfold Device.cisScrubEnd
  with_reducible
    apply Device.ite_sound; assumption; apply Device.ite_sound; apply Device.fire_sound; apply Device.answerSvc_sound
    apply Device.answerSvc_sound; apply Device.setDefer_sound; apply Device.setSvc_sound; apply Device.setFlag_sound; dsimp only
    apply Device.Sound.upd; apply Device.zeroDram_sound; assumption; apply Device.answerSvc_sound; apply Device.answerSvc_sound
    apply Device.setDefer_sound; apply Device.setSvc_sound; apply Device.setFlag_sound; dsimp only; apply Device.Sound.upd
    apply Device.zeroDram_sound; assumption

end Machine
end Sys2Proof
end

