-- ==== Sys2Proof/Laws/SoundResets.lean ====
section
/-!
SUPPORT. Soundness is kept by the operations of Machine/Resets.lean.
-/
namespace Sys2Proof
namespace Machine

theorem Device.forceSluice_sound {d : Device} {p : Nat} :
    d.Sound → (Device.forceSluice d p).Sound := by
  intro h0; unfold Device.forceSluice
  with_reducible
    apply Device.setStroke_sound; apply Device.updSluice_sound; apply Device.redSluice_sound; apply Device.foldl_sound; intro _; intro _
    intro _; apply Device.coreSluice_sound; assumption; apply Device.setFlag_sound; assumption

theorem Device.sluiceAll_sound {d : Device} :
    d.Sound → (Device.sluiceAll d).Sound := by
  intro h0; unfold Device.sluiceAll
  with_reducible
    apply Device.foldl_sound; intro _; intro _; intro _; apply Device.ite_sound; assumption; apply Device.setStk_sound
    apply Device.forceSluice_sound; assumption; assumption

theorem Device.dropFlow_sound {d : Device} {f st : Nat} :
    d.Sound → (Device.dropFlow d f st).Sound := by
  intro h0; unfold Device.dropFlow
  with_reducible
    apply Device.endFlow_sound; assumption

theorem Device.dropFlows_sound {d : Device} {sel : Flow → Bool} {st : Nat} :
    d.Sound → (Device.dropFlows d sel st).Sound := by
  intro h0; unfold Device.dropFlows
  with_reducible
    apply Device.foldl_sound; intro _; intro _; intro _; apply Device.dropFlow_sound; assumption; assumption

theorem Device.zeroise_sound {d : Device} :
    d.Sound → (Device.zeroise d).Sound := by
  intro h0; unfold Device.zeroise
  with_reducible
    apply Device.fire_sound; apply Device.foldl_sound; intro _; intro _; intro _; apply Device.breakFlow_sound; assumption; dsimp only
    apply Device.Sound.upd; assumption

theorem Device.dropTables_sound {d : Device} {c : Nat} :
    d.Sound → (Device.dropTables d c).Sound := by
  intro h0; unfold Device.dropTables
  with_reducible
    apply Device.foldl_sound; intro _; intro _; intro _; apply Device.setReg_sound; assumption; apply Device.modCore_sound; assumption
    intro _; intro _; apply Core.Sound.upd; assumption

theorem Device.scrubAll_sound {d : Device} :
    d.Sound → (Device.scrubAll d).Sound := by
  intro h0
  unfold Device.scrubAll
  extract_lets d1 d2
  have h1 : d1.Sound := Device.clearClusters_sound h0
  have h2 : d2.Sound := Device.foldl_sound (fun _ _ h => Device.dropTables_sound (Device.modCore_sound h _ (fun _ hk => Core.blank_sound hk []))) _ h1
  exact Device.Sound.updMem h2 rfl

theorem Device.closeWindow_sound {d : Device} :
    d.Sound → (Device.closeWindow d).Sound := by
  intro h0; unfold Device.closeWindow
  with_reducible
    split; assumption; apply Device.fire_sound; apply Device.setFld_sound; apply Device.setFlag_sound; dsimp only
    apply Device.Sound.upd; assumption

theorem Device.dropOp_sound {d : Device} {id : Nat} {c : ZCmd} :
    d.Sound → (Device.dropOp d id c).Sound := by
  intro h0; unfold Device.dropOp
  with_reducible
    apply Device.ite_sound; apply Device.orphan_sound; split; dsimp only; apply Device.Sound.upd; assumption; split; dsimp only
    apply Device.Sound.upd; assumption; dsimp only; apply Device.Sound.upd; assumption; apply Device.ite_sound; split; dsimp only
    apply Device.Sound.upd; assumption; split; dsimp only; apply Device.Sound.upd; assumption; dsimp only; apply Device.Sound.upd
    assumption; split; dsimp only; apply Device.Sound.upd; assumption; split; dsimp only; apply Device.Sound.upd; assumption; dsimp only
    apply Device.Sound.upd; assumption

theorem Device.endOp_sound {d : Device} {id st : Nat} :
    d.Sound → (Device.endOp d id st).Sound := by
  intro h0; unfold Device.endOp
  with_reducible
    split; assumption; split; dsimp only; split; apply Device.sliceEnd_sound; apply Device.ite_sound; apply Device.closeWindow_sound
    assumption; assumption; apply Device.complete_sound; apply Device.dropOp_sound; apply Device.ite_sound
    apply Device.closeWindow_sound; assumption; assumption; dsimp only; split; apply Device.sliceEnd_sound; apply Device.ite_sound
    apply Device.closeWindow_sound; assumption; assumption; apply Device.complete_sound; apply Device.dropOp_sound
    apply Device.ite_sound; apply Device.closeWindow_sound; assumption; assumption

theorem Device.endOps_sound {d : Device} {sel : ZCmd → Bool} {st : Nat} :
    d.Sound → (Device.endOps d sel st).Sound := by
  intro h0; unfold Device.endOps
  with_reducible
    apply Device.foldl_sound; intro _; intro _; intro _; apply Device.endOp_sound; assumption; assumption

theorem Device.setLifecycle_sound {d : Device} {v : Nat} :
    d.Sound → (Device.setLifecycle d v).Sound := by
  intro h0; unfold Device.setLifecycle
  with_reducible
    dsimp only; apply Device.Sound.upd; apply Device.fire_sound; apply Device.setFld_sound; assumption

theorem Device.diesOff_sound {d : Device} :
    d.Sound → (Device.diesOff d).Sound := by
  intro h0; unfold Device.diesOff
  with_reducible
    dsimp only; apply Device.Sound.upd; apply Device.foldl_sound; intro _; intro _; intro _; apply Device.setFlag_sound
    apply Device.setSvc_sound; assumption; apply Device.foldl_sound; intro _; intro _; intro _; apply Device.setSvc_sound; assumption
    assumption

theorem Device.retireModule_sound {d : Device} {keep : Option Nat} :
    d.Sound → (Device.retireModule d keep).Sound := by
  intro h0; unfold Device.retireModule
  with_reducible
    apply Device.setLifecycle_sound; apply Device.diesOff_sound; apply Device.closeDebug_sound; apply Device.scrubAll_sound
    apply Device.zeroise_sound; apply Device.closeWindow_sound; apply Device.foldl_sound; intro _; intro _; intro _
    apply Device.endOp_sound; assumption; apply Device.dropFlows_sound; apply Device.sluiceAll_sound; assumption

theorem Device.latchTamper_sound {d : Device} :
    d.Sound → (Device.latchTamper d).Sound := by
  intro h0; unfold Device.latchTamper
  with_reducible
    apply Device.ite_sound; dsimp only; apply Device.Sound.upd; apply Device.fire_sound; apply Device.setFlag_sound
    apply Device.zeroise_sound; assumption; apply Device.retireModule_sound; dsimp only; apply Device.Sound.upd; apply Device.fire_sound
    apply Device.setFlag_sound; apply Device.zeroise_sound; assumption

theorem Device.tamper_sound {d : Device} :
    d.Sound → (Device.tamper d).Sound := by
  intro h0; unfold Device.tamper
  with_reducible
    apply Device.ite_sound; apply Device.setFlag_sound; assumption; apply Device.latchTamper_sound; apply Device.setFlag_sound
    assumption

theorem Device.resetPartRegs_sound {d : Device} {p : Nat} :
    d.Sound → (Device.resetPartRegs d p).Sound := by
  intro h0
  refine Device.Sound.updRegs h0 ?_
  exact Cells.wf_eraseAll h0.wfRegs _

theorem Device.dropSequencers_sound {d : Device} {p : Nat} :
    d.Sound → (Device.dropSequencers d p).Sound := by
  intro h0; unfold Device.dropSequencers
  with_reducible
    apply Device.foldl_sound; intro _; intro _; intro _; apply Device.complete_sound; assumption; apply Device.foldl_sound; intro _
    intro _; intro _; split; apply Device.complete_sound; assumption; assumption; dsimp only; apply Device.Sound.upd
    apply Device.disarmQueues_sound; assumption

theorem Device.quietPart_sound {d : Device} {p : Nat} :
    d.Sound → (Device.quietPart d p).Sound := by
  intro h0; unfold Device.quietPart
  with_reducible
    apply Device.foldl_sound; intro _; intro _; intro _; apply Device.setFld_sound; assumption; assumption

theorem Device.flushPart_sound {d : Device} {p : Nat} :
    d.Sound → (Device.flushPart d p).Sound := by
  intro h0; unfold Device.flushPart
  with_reducible
    apply Device.foldl_sound; intro _; intro _; intro _; apply Device.acquireAll_sound; assumption; assumption

theorem Device.partFlr_sound {d : Device} {p : Nat} :
    d.Sound → (Device.partFlr d p).Sound := by
  intro h0; unfold Device.partFlr
  with_reducible
    apply Device.ite_sound; apply Device.closeDebug_sound; apply Device.quietPart_sound; apply Device.strokeReset_sound
    apply Device.resetPartRegs_sound; apply Device.dropSequencers_sound; apply Device.foldl_sound; intro _; intro _; intro _
    apply Device.coreReset_sound; assumption; apply Device.dropFlows_sound; apply Device.sliceEnd_sound; apply Device.endOps_sound
    apply Device.flushPart_sound; assumption; apply Device.quietPart_sound; apply Device.strokeReset_sound
    apply Device.resetPartRegs_sound; apply Device.dropSequencers_sound; apply Device.foldl_sound; intro _; intro _; intro _
    apply Device.coreReset_sound; assumption; apply Device.dropFlows_sound; apply Device.sliceEnd_sound; apply Device.endOps_sound
    apply Device.flushPart_sound; assumption

theorem Device.resetDies_sound {d : Device} :
    d.Sound → (Device.resetDies d).Sound := by
  intro h0
  refine ⟨h0.wfMem, h0.wfHost, Cells.wf_filter h0.wfRegs _, List.length_replicate, List.length_replicate, fun k hk => ?_⟩
  rw [List.eq_of_mem_replicate hk]
  exact Core.reset_sound' _

theorem Device.coldReset_sound {d : Device} {cause : Nat} :
    d.Sound → (Device.coldReset d cause).Sound := by
  intro h0
  unfold Device.coldReset
  extract_lets keep n
  have h1 : n.Sound := ⟨h0.wfMem, h0.wfHost, Cells.wf_filter h0.wfRegs _, Device.default_sound.cores, Device.default_sound.clusters,
    Device.default_sound.ofMem⟩
  exact Device.setFld_sound (Device.setFld_sound (Device.setFld_sound h1 _ _ _ _) _ _ _ _) _ _ _ _

theorem Device.warmReset_sound {d : Device} :
    d.Sound → (Device.warmReset d).Sound := by
  intro h0
  unfold Device.warmReset
  extract_lets d1 quiet bind bind2 _ _ _ _ n
  have h1 : d1.Sound := Device.storeWriteDone_sound (Device.closeDebug_sound (Device.foldl_sound (fun _ _ h => Device.acquireAll_sound h) _ h0))
  have hq : Cells.wf Reg.reset quiet = true :=
    Cells.wf_filter (Device.setFld_sound (Device.setFld_sound h1 Reg.AQ_CTL 31 16 0) Reg.AQ_STATUS 31 16 0).wfRegs _
  have hb : Cells.wf Reg.reset bind = true := Cells.wf_foldRegs (fun _ _ h => Cells.wf_setReg h _ _) _ hq
  have hb2 : Cells.wf Reg.reset bind2 = true := Cells.wf_foldRegs (fun _ _ h => Cells.wf_setReg h _ _) _ hb
  have hn : n.Sound := by
    refine ⟨h1.wfMem, h1.wfHost, hb2, List.length_replicate, Device.default_sound.clusters, fun k hk => ?_⟩
    rw [List.eq_of_mem_replicate hk]
    exact Core.reset_sound' _
  exact Device.setReg_sound (Device.setReg_sound hn _ _) _ _

end Machine
end Sys2Proof
end

