-- ==== Sys2Proof/Laws/SoundFirmware.lean ====
section
/-!
SUPPORT. Soundness is kept by the operations of Machine/Firmware.lean.
-/
namespace Sys2Proof
namespace Machine

theorem Device.stageBegin_sound {d : Device} {s : Nat} :
    d.Sound → (Device.stageBegin d s).Sound := by
  intro h0; unfold Device.stageBegin
  with_reducible
    apply Device.storeSlots_sound; assumption

theorem Device.stageEnd_sound {d : Device} {s id : Nat} {b : List Byte} :
    d.Sound → (Device.stageEnd d s id b).Sound := by
  intro h0; unfold Device.stageEnd
  with_reducible
    apply Device.ite_sound; apply Device.fire_sound; apply Device.complete_sound; dsimp only; apply Device.Sound.upd; assumption
    apply Device.fire_sound; apply Device.storeSlots_sound; dsimp only; apply Device.Sound.upd; assumption

theorem Device.sysSuspend_sound {d : Device} {sel : ZCmd → Bool} :
    d.Sound → (Device.sysSuspend d sel).Sound := by
  intro h0; unfold Device.sysSuspend
  with_reducible
    dsimp only; apply Device.Sound.upd; apply Device.closeWindow_sound; assumption

theorem Device.sysResume_sound {d : Device} :
    d.Sound → (Device.sysResume d).Sound := by
  intro h0; unfold Device.sysResume
  with_reducible
    dsimp only; apply Device.Sound.upd; assumption

theorem Device.setPaused_sound {d : Device} {b : Bool} :
    d.Sound → (Device.setPaused d b).Sound := by
  intro h0; unfold Device.setPaused
  with_reducible
    apply Device.foldl_sound; intro _; intro _; intro _; apply Device.setFlag_sound; assumption; assumption

theorem Device.activateStart_sound {d : Device} {s : Nat} {owner : Option Nat} :
    d.Sound → (Device.activateStart d s owner).Sound := by
  intro h0; unfold Device.activateStart
  with_reducible
    apply Device.ite_sound; apply Device.setPaused_sound; apply Device.sysSuspend_sound; split; dsimp only; apply Device.Sound.upd
    apply Device.storeSlots_sound; assumption; dsimp only; apply Device.Sound.upd; apply Device.storeSlots_sound; assumption; split
    dsimp only; apply Device.Sound.upd; apply Device.storeSlots_sound; assumption; dsimp only; apply Device.Sound.upd
    apply Device.storeSlots_sound; assumption

theorem Device.runs_sound {d : Device} {s : Nat} :
    d.Sound → (Device.runs d s).Sound := by
  intro h0; unfold Device.runs
  with_reducible
    apply Device.ite_sound; apply Device.setReg_sound; apply Device.ite_sound; assumption; dsimp only; apply Device.Sound.upd
    assumption; apply Device.ite_sound; assumption; dsimp only; apply Device.Sound.upd; assumption

theorem Device.revokeBelow_sound {d : Device} {n : Nat} :
    d.Sound → (Device.revokeBelow d n).Sound := by
  intro h0; unfold Device.revokeBelow
  with_reducible
    dsimp only; apply Device.Sound.upd; assumption

theorem Device.firstStart_sound {d : Device} {s : Nat} {ok : Bool} :
    d.Sound → (Device.firstStart d s ok).Sound := by
  intro h0
  unfold Device.firstStart
  split
  · exact h0
  · rename_i x _
    extract_lets _ d1 e i b a1 a2 _ a3 _ d2 d3 d4 d5
    have h1 : d1.Sound := Device.Sound.upd h0
    have k1 : a1.Sound := Device.storeSlots_sound h1
    have k2 : a2.Sound := Device.ite_sound (Device.setFld_sound k1 _ _ _ _) k1
    have k3 : a3.Sound := Device.storeSlots_sound h1
    have h2 : d2.Sound := Device.ite_sound (Device.revokeBelow_sound k2) (Device.Sound.upd k3)
    have h3 : d3.Sound := Device.setFld_sound (Device.runs_sound h2) _ _ _ _
    have h4 : d4.Sound := Device.ite_sound (Device.sysResume_sound (Device.setPaused_sound h3)) h3
    have h5 : d5.Sound := by
      simp only [d5]
      split
      · exact Device.complete_sound h4
      · exact h4
    exact Device.fire_sound (Device.showSlots_sound h5)

end Machine
end Sys2Proof
end

