-- ==== Sys2Proof/Laws/SoundBoot.lean ====
section
/-!
SUPPORT. Soundness is kept by the operations of Machine/Boot.lean.
-/
namespace Sys2Proof
namespace Machine

theorem Device.setStage_sound {d : Device} {n : Nat} :
    d.Sound → (Device.setStage d n).Sound := by
  intro h0; unfold Device.setStage
  with_reducible
    apply Device.setFld_sound; assumption

theorem Device.chooseStore_sound {d : Device} :
    d.Sound → (Device.chooseStore d).Sound := by
  intro h0; unfold Device.chooseStore
  with_reducible
    apply Device.showStore_sound; apply Device.ite_sound; apply Device.setFlag_sound; apply Device.setFlag_sound
    apply Device.setFlag_sound; apply Device.setFlag_sound; assumption; apply Device.setFld_sound; apply Device.setFlag_sound
    apply Device.setFlag_sound; apply Device.setFlag_sound; apply Device.setFlag_sound; assumption

theorem Device.findSlots_sound {d : Device} :
    d.Sound → (Device.findSlots d).Sound := by
  intro h0; unfold Device.findSlots
  with_reducible
    split; assumption; apply Device.storePut_sound; assumption

theorem Device.chooseImage_sound {d : Device} {s : Nat} :
    d.Sound → (Device.chooseImage d s).Sound := by
  intro h0; unfold Device.chooseImage
  with_reducible
    apply Device.ite_sound; apply Device.runs_sound; apply Device.ite_sound; dsimp only; apply Device.Sound.upd
    apply Device.setFlag_sound; assumption; assumption; apply Device.ite_sound; apply Device.runs_sound; apply Device.setFlag_sound
    apply Device.storeSlots_sound; assumption; apply Device.setFlag_sound; apply Device.setFlag_sound; assumption

theorem Device.bootRom_sound {d : Device} :
    d.Sound → (Device.bootRom d).Sound := by
  intro h0
  unfold Device.bootRom
  extract_lets d1 a1 _ d2 d3 d4 a2 _ a3 _
  have h1 : d1.Sound := Device.ite_sound (Device.latchTamper_sound h0) h0
  have h2 : d2.Sound := Device.Sound.upd (e := a1) (Device.setFld_sound h1 _ _ _ _)
  have h3 : d3.Sound := Device.ite_sound h2 (Device.setFld_sound h2 _ _ _ _)
  have h4 : d4.Sound := Device.showSlots_sound (Device.chooseImage_sound (Device.findSlots_sound (Device.chooseStore_sound h3)))
  refine Device.ite_sound (Device.Sound.upd (e := a2) (Device.setStage_sound h4)) ?_
  split
  · exact Device.Sound.upd (e := a3) (Device.setStage_sound h4)
  · exact Device.setStage_sound h4

theorem Device.bootImages_sound {d : Device} :
    d.Sound → (Device.bootImages d).Sound := by
  intro h0
  unfold Device.bootImages
  extract_lets d1 _ d2
  have h1 : d1.Sound := Device.foldl_sound (fun _ _ h => Device.chooseImage_sound h) _ h0
  have h2 : d2.Sound := Device.showSlots_sound (Device.ite_sound (Device.Sound.upd h1) h1)
  exact Device.ite_sound (Device.setStage_sound (Device.diesOff_sound h2)) (Device.setStage_sound h2)

theorem Device.trainingFault_sound {d : Device} {index : Nat} :
    d.Sound → (Device.trainingFault d index).Sound := by
  intro h0; unfold Device.trainingFault
  with_reducible
    apply Device.raise_sound; assumption

theorem Device.restoreRemap_sound {d : Device} :
    d.Sound → (Device.restoreRemap d).Sound := by
  intro h0; unfold Device.restoreRemap
  with_reducible
    apply Device.foldl_sound; intro _; intro _; intro _; apply Device.setFld_sound; assumption; dsimp only; apply Device.Sound.upd
    assumption

theorem Device.bootMemory_sound {d : Device} {hbmMask chiplets : Nat} :
    d.Sound → (Device.bootMemory d hbmMask chiplets).Sound := by
  intro h0; unfold Device.bootMemory
  with_reducible
    apply Device.setStage_sound; apply Device.foldl_sound; intro _; intro _; intro _; apply Device.ite_sound; apply Device.setFlag_sound
    apply Device.setFld_sound; apply Device.ite_sound; apply Device.trainingFault_sound; assumption; assumption; apply Device.ite_sound
    apply Device.ite_sound; apply Device.trainingFault_sound; assumption; assumption; split; dsimp only; apply Device.Sound.upd
    apply Device.setFld_sound; apply Device.trainingFault_sound; assumption; dsimp only; apply Device.Sound.upd
    apply Device.setFld_sound; assumption; apply Device.foldl_sound; intro _; intro _; intro _; apply Device.setFld_sound
    apply Device.trainingFault_sound; assumption; apply Device.ite_sound; apply Device.restoreRemap_sound; assumption
    apply Device.zeroDram_sound; apply Device.restoreRemap_sound; assumption

theorem Device.applyKey_sound {d : Device} {k : Nat} {ok : List Byte → Bool} {f : Device → List Byte → Device} :
    d.Sound → (∀ (x0 : Device) (x1 : List Byte), x0.Sound → (f x0 x1).Sound) → (Device.applyKey d k ok f).Sound := by
  intro h0 h1; unfold Device.applyKey
  with_reducible
    split; assumption; apply Device.ite_sound; apply h1; assumption; apply Device.raise_sound; assumption

theorem Device.applyOwner_sound {d : Device} :
    d.Sound → (Device.applyOwner d).Sound := by
  intro h0; unfold Device.applyOwner
  with_reducible
    apply Device.applyKey_sound; apply Device.applyKey_sound; apply Device.applyKey_sound; apply Device.applyKey_sound; assumption
    intro _; intro _; intro _; apply Device.setFld_sound; assumption; intro _; intro _; intro _; apply Device.timPtpCfgWrite_sound
    apply Device.timSrcWrite_sound; assumption; intro _; intro _; intro _; apply Device.foldl_sound; intro _; intro _; intro _
    apply Device.setReg_sound; assumption; assumption; intro _; intro _; intro _; apply Device.setFld_sound; assumption

theorem Device.restoreSlots_sound {d : Device} :
    d.Sound → (Device.restoreSlots d).Sound := by
  intro h0; unfold Device.restoreSlots
  with_reducible
    split; apply Device.ite_sound; apply Device.foldl_sound; intro _; intro _; intro _; apply Device.setReg_sound
    apply Device.setReg_sound; assumption; assumption; assumption; assumption

theorem Device.diesOn_sound {d : Device} :
    d.Sound → (Device.diesOn d).Sound := by
  intro h0; unfold Device.diesOn
  with_reducible
    dsimp only; split; apply Device.Sound.upd; apply Device.foldl_sound; intro _; intro _; intro _; apply Device.setReg_sound
    assumption; apply Device.resetDies_sound; assumption; apply Device.Sound.upd; apply Device.resetDies_sound; assumption

theorem Device.bootDies_sound {d : Device} :
    d.Sound → (Device.bootDies d).Sound := by
  intro h0; unfold Device.bootDies
  with_reducible
    apply Device.setStage_sound; apply Device.setFld_sound; apply Device.ite_sound; apply Device.setFld_sound; apply Device.setReg_sound
    apply Device.applyOwner_sound; apply Device.restoreSlots_sound; apply Device.diesOn_sound; apply Device.ite_sound; assumption
    dsimp only; apply Device.Sound.upd; assumption; apply Device.setReg_sound; apply Device.applyOwner_sound
    apply Device.restoreSlots_sound; apply Device.diesOn_sound; apply Device.ite_sound; assumption; dsimp only; apply Device.Sound.upd
    assumption

theorem Device.bootReady_sound {d : Device} :
    d.Sound → (Device.bootReady d).Sound := by
  intro h0; unfold Device.bootReady
  with_reducible
    apply Device.ite_sound; assumption; apply Device.ite_sound; apply Device.fire_sound; dsimp only; apply Device.Sound.upd
    apply Device.setReg_sound; apply Device.foldl_sound; intro _; intro _; intro _; apply Device.setFlag_sound; assumption; assumption
    dsimp only; apply Device.Sound.upd; apply Device.setReg_sound; apply Device.foldl_sound; intro _; intro _; intro _
    apply Device.setFlag_sound; assumption; assumption

theorem Device.bootStage_sound {d : Device} {hbmMask chiplets : Nat} :
    d.Sound → (Device.bootStage d hbmMask chiplets).Sound := by
  intro h0; unfold Device.bootStage
  with_reducible
    apply Device.ite_sound; assumption; split; apply Device.bootRom_sound; assumption; apply Device.setStage_sound; assumption
    apply Device.bootImages_sound; assumption; apply Device.bootMemory_sound; assumption; apply Device.bootDies_sound; assumption
    apply Device.bootReady_sound; assumption; apply Device.bootReady_sound; assumption; assumption

theorem Device.askWarm_sound {d : Device} {cause : Nat} :
    d.Sound → (Device.askWarm d cause).Sound := by
  intro h0; unfold Device.askWarm
  with_reducible
    apply Device.ite_sound; apply Device.setFld_sound; assumption; dsimp only; apply Device.Sound.upd; apply Device.setFld_sound
    assumption

theorem Device.warmStart_sound {d : Device} :
    d.Sound → (Device.warmStart d).Sound := by
  intro h0; unfold Device.warmStart
  with_reducible
    split; assumption; apply Device.bootRom_sound; split; dsimp only; apply Device.Sound.upd; assumption; dsimp only
    apply Device.Sound.upd; apply Device.warmReset_sound; apply Device.Sound.upd; assumption

theorem Device.coldStart_sound {d : Device} :
    d.Sound → (Device.coldStart d).Sound := by
  intro h0; unfold Device.coldStart
  with_reducible
    apply Device.ite_sound; dsimp only; apply Device.Sound.upd; apply Device.coldReset_sound; assumption; assumption

end Machine
end Sys2Proof
end

