-- ==== Sys2Proof/Laws/SoundZnRings.lean ====
section
/-!
SUPPORT. Soundness is kept by the operations of Machine/ZnRings.lean.
-/
namespace Sys2Proof
namespace Machine

theorem Device.setCmd_sound {d : Device} {id : Nat} {c : ZCmd} :
    d.Sound → (Device.setCmd d id c).Sound := by
  intro h0; unfold Device.setCmd
  with_reducible
    dsimp only; apply Device.Sound.upd; assumption

theorem Device.served_sound {d : Device} {g : Nat} :
    d.Sound → (Device.served d g).Sound := by
  intro h0; unfold Device.served
  with_reducible
    dsimp only; apply Device.Sound.upd; assumption

theorem Device.znStart_sound {d : Device} {id : Nat} {c : ZCmd} :
    d.Sound → (Device.znStart d id c).Sound := by
  intro h0; unfold Device.znStart
  with_reducible
    apply Device.setCmd_sound; dsimp only; apply Device.Sound.upd; apply Device.served_sound; assumption

theorem Device.markStalls_sound {d : Device} :
    d.Sound → (Device.markStalls d).Sound := by
  intro h0; unfold Device.markStalls
  with_reducible
    apply Device.foldl_sound; intro _; intro _; intro _; split; assumption; apply Device.ite_sound; apply Device.bump_sound
    apply Device.setCmd_sound; assumption; assumption; assumption

theorem Device.refuseAll_sound {d : Device} {y0 : Nat} :
    d.Sound → (Device.refuseAll d y0).Sound := by
  fun_induction Device.refuseAll d y0 <;> intro h0
  with_reducible
    assumption; assumption; assumption; apply_assumption -exfalso -symm; apply Device.complete_sound; apply Device.served_sound
    assumption

theorem Device.setRing_sound {d : Device} {g : Nat} {r : Ring} :
    d.Sound → (Device.setRing d g r).Sound := by
  intro h0; unfold Device.setRing
  with_reducible
    dsimp only; apply Device.Sound.upd; assumption

theorem Device.receive_sound {d : Device} {fn ring : Nat} {pkt : List Byte} :
    d.Sound → (Device.receive d fn ring pkt).Sound := by
  intro h0; unfold Device.receive
  with_reducible
    dsimp only; apply Device.Sound.upd; assumption

theorem Device.readPackets_sound {d : Device} {g : Nat} {bs : List Byte} {y0 : Nat} :
    d.Sound → (Device.readPackets d g bs y0).Sound := by
  fun_induction Device.readPackets d g bs y0 <;> intro h0
  with_reducible
    assumption; assumption; apply Device.setRing_sound; assumption; apply_assumption -exfalso -symm; apply Device.receive_sound
    apply Device.setRing_sound; assumption

theorem Device.readEntries_sound {d : Device} {r : Ring} {i : Nat} {y0 : Nat} :
    d.Sound → (Device.readEntries d r i y0).1.Sound := by
  fun_induction Device.readEntries d r i y0 <;> intro h0
  with_reducible
    assumption; apply_assumption -exfalso -symm; apply Device.readVa_sound; assumption

theorem Device.sqTail_sound {d : Device} {fn l v : Nat} {host : List Byte} :
    d.Sound → (Device.sqTail d fn l v host).Sound := by
  intro h0; unfold Device.sqTail
  with_reducible
    split; assumption; apply Device.ite_sound; apply Device.bump_sound; assumption; apply Device.ite_sound; assumption
    apply Device.readPackets_sound; apply Device.setRing_sound; apply Device.ite_fst_sound; apply Device.readEntries_sound; assumption
    assumption

theorem Device.cqHeadWrite_sound {d : Device} {fn l v : Nat} :
    d.Sound → (Device.cqHeadWrite d fn l v).Sound := by
  intro h0; unfold Device.cqHeadWrite
  with_reducible
    split; assumption; apply Device.ite_sound; apply Device.bump_sound; assumption; apply Device.setRing_sound; assumption

end Machine
end Sys2Proof
end

