-- ==== Sys2Proof/Laws/SoundZnOps.lean ====
section
/-!
SUPPORT. Soundness is kept by the operations of Machine/ZnOps.lean.
-/
namespace Sys2Proof
namespace Machine

theorem Device.openWindow_sound {d : Device} {id opcode : Nat} :
    d.Sound → (Device.openWindow d id opcode).Sound := by
  intro h0; unfold Device.openWindow
  with_reducible
    apply Device.fire_sound; dsimp only; apply Device.Sound.upd; apply Device.setFld_sound; apply Device.setFld_sound
    apply Device.setFlag_sound; assumption

theorem Device.prepareBegin_sound {d : Device} {id : Nat} :
    d.Sound → (Device.prepareBegin d id).Sound := by
  intro h0; unfold Device.prepareBegin
  with_reducible
    apply Device.foldl_sound; intro _; intro _; intro _; apply Device.endOp_sound; assumption; apply Device.foldl_sound; intro _
    intro _; intro _; split; apply Device.closeFlow_sound; assumption; apply Device.closeFlow_sound; assumption
    apply Device.endFlow_sound; assumption; assumption; apply Device.foldl_sound; intro _; intro _; intro _; apply Device.ite_sound
    assumption; apply Device.ite_sound; apply Device.forceSluice_sound; assumption; apply Device.stkStop_sound; assumption; dsimp only
    apply Device.Sound.upd; assumption

theorem Device.prepareEnd_sound {d : Device} {id : Nat} :
    d.Sound → (Device.prepareEnd d id).Sound := by
  intro h0; unfold Device.prepareEnd
  with_reducible
    apply Device.ite_sound; apply Device.foldl_sound; intro _; intro _; intro _; apply Device.setFlag_sound; assumption
    apply Device.complete_sound; apply Device.foldl_sound; intro _; intro _; intro _; apply Device.complete_sound; assumption
    apply Device.foldl_sound; intro _; intro _; intro _; apply Device.complete_sound; assumption; assumption; assumption

theorem Device.releaseGranules_sound {d : Device} {id : Nat} {c : ZCmd} :
    d.Sound → (Device.releaseGranules d id c).Sound := by
  intro h0; unfold Device.releaseGranules
  with_reducible
    apply Device.complete_sound; apply Device.foldl_sound; intro _; intro _; intro _; apply Device.freeGranule_sound; assumption
    assumption

theorem Device.scrubGranules_sound {d : Device} {id : Nat} {c : ZCmd} :
    d.Sound → (Device.scrubGranules d id c).Sound := by
  intro h0; unfold Device.scrubGranules
  with_reducible
    apply Device.complete_sound; apply Device.foldl_sound; intro _; intro _; intro _; apply Device.readCodewords_sound; assumption
    assumption

theorem Device.buildTable_sound {d : Device} {id : Nat} {c : ZCmd} :
    d.Sound → (Device.buildTable d id c).Sound := by
  intro h0; unfold Device.buildTable
  with_reducible
    apply Device.ite_sound; apply Device.complete_sound; apply Device.readVa_sound; assumption; apply Device.ite_sound
    apply Device.complete_sound; apply Device.readVa_sound; assumption; split; apply Device.complete_sound; apply Device.readVa_sound
    assumption; apply Device.ite_sound; apply Device.complete_sound; apply Device.writeVa_sound; apply Device.readVa_sound; assumption
    apply Device.complete_sound; apply Device.readVa_sound; assumption

theorem Device.restoreGoOn_sound {d : Device} {id : Nat} {c : ZCmd} :
    d.Sound → (Device.restoreGoOn d id c).Sound := by
  intro h0; unfold Device.restoreGoOn
  with_reducible
    apply Device.ite_sound; assumption; split; apply Device.complete_sound; refine Device.fst_eq ‹_ = (_, _)› ?_
    apply Device.restoreWork_sound; assumption; apply Device.setCmd_sound; refine Device.fst_eq ‹_ = (_, _)› ?_
    apply Device.restoreWork_sound; assumption

theorem Device.lifecycleBegin_sound {d : Device} {id : Nat} {c : ZCmd} :
    d.Sound → (Device.lifecycleBegin d id c).Sound := by
  intro h0; unfold Device.lifecycleBegin
  with_reducible
    split; apply Device.ite_sound; apply Device.complete_sound; apply Device.setLifecycle_sound; apply Device.exitIdle_sound; assumption
    apply Device.setCmd_sound; dsimp only; apply Device.Sound.upd; apply Device.closeDebug_sound; apply Device.exitIdle_sound
    assumption; apply Device.setCmd_sound; dsimp only; apply Device.Sound.upd; apply Device.zeroise_sound; apply Device.closeDebug_sound
    apply Device.exitIdle_sound; assumption; apply Device.complete_sound; apply Device.retireModule_sound; apply Device.exitIdle_sound
    assumption

theorem Device.lifecycleEnd_sound {d : Device} {id : Nat} {c : ZCmd} :
    d.Sound → (Device.lifecycleEnd d id c).Sound := by
  intro h0
  unfold Device.lifecycleEnd
  refine Device.ite_sound h0 ?_
  exact Device.complete_sound (Device.setLifecycle_sound (Device.Sound.upd (Device.scrubAll_sound h0)))

theorem Device.presenceGo_sound {d : Device} {id : Nat} {c : ZCmd} :
    d.Sound → (Device.presenceGo d id c).Sound := by
  intro h0; unfold Device.presenceGo
  with_reducible
    split; apply Device.ite_sound; apply Device.activateStart_sound; assumption; apply Device.complete_sound; assumption
    apply Device.lifecycleBegin_sound; assumption; apply Device.complete_sound; apply Device.setDebug_sound; assumption
    apply Device.complete_sound; apply Device.zeroise_sound; assumption; apply Device.storeChange_sound; assumption
    apply Device.complete_sound; apply Device.setReg_sound; assumption; assumption

theorem Device.opBegin_sound {d : Device} {id : Nat} {c : ZCmd} :
    d.Sound → (Device.opBegin d id c).Sound := by
  intro h0; unfold Device.opBegin
  with_reducible
    apply Device.ite_sound; apply Device.openWindow_sound; assumption; split; apply Device.prepareBegin_sound; assumption
    apply Device.svcDisable_sound; assumption; intro _; intro _; apply Device.partStop_sound; assumption; dsimp only
    apply Device.Sound.upd; assumption; apply Device.portRecal_sound; apply Device.setPort_sound; assumption; apply Device.ite_sound
    apply Device.restoreGoOn_sound; assumption; assumption; apply Device.svcDisable_sound; assumption; intro _; intro _; assumption
    apply Device.svcEnable_sound; apply Device.exitIdle_sound; assumption; apply Device.svcDisable_sound; assumption; intro _; intro _
    assumption; apply Device.stageBegin_sound; assumption; apply Device.presenceGo_sound; assumption; apply Device.presenceGo_sound
    assumption; assumption

theorem Device.opFinish_sound {d : Device} {id : Nat} {c : ZCmd} :
    d.Sound → (Device.opFinish d id c).Sound := by
  intro h0; unfold Device.opFinish
  with_reducible
    split; apply Device.prepareEnd_sound; assumption; apply Device.releaseGranules_sound; assumption; apply Device.scrubGranules_sound
    assumption; apply Device.buildTable_sound; assumption; apply Device.restoreGoOn_sound; assumption; apply Device.ite_sound
    apply Device.stageEnd_sound; apply Device.setCmd_sound; assumption; assumption; apply Device.complete_sound; assumption
    apply Device.lifecycleEnd_sound; assumption; assumption

theorem Device.promote_sound {d : Device} {y0 : Nat} :
    d.Sound → (Device.promote d y0).Sound := by
  fun_induction Device.promote d y0 <;> intro h0
  with_reducible
    assumption; assumption; apply_assumption -exfalso -symm; apply Device.opBegin_sound; apply Device.setCmd_sound; assumption

theorem Device.znPump_sound {d : Device} :
    d.Sound → (Device.znPump d).Sound := by
  intro h0; unfold Device.znPump
  with_reducible
    apply Device.markStalls_sound; apply Device.promote_sound; apply Device.refuseAll_sound; apply Device.promote_sound; assumption

theorem Device.resumeOp_sound {d : Device} {id : Nat} {t : ZCmd} :
    d.Sound → (Device.resumeOp d id t).Sound := by
  intro h0; unfold Device.resumeOp
  with_reducible
    apply Device.ite_sound; apply Device.setCmd_sound; assumption; apply Device.setCmd_sound; assumption

theorem Device.settleControls_sound {d : Device} {id : Nat} {y0 : Nat} :
    d.Sound → (Device.settleControls d id y0).Sound := by
  fun_induction Device.settleControls d id y0 <;> intro h0
  with_reducible
    assumption; apply_assumption -exfalso -symm; apply Device.complete_sound; assumption; apply Device.setCmd_sound; assumption
    assumption; apply_assumption -exfalso -symm; apply Device.complete_sound; assumption; apply_assumption -exfalso -symm
    apply Device.complete_sound; assumption; assumption; apply_assumption -exfalso -symm; apply Device.resumeOp_sound; assumption
    assumption; assumption; assumption

theorem Device.safePoint_sound {d : Device} {id : Nat} :
    d.Sound → (Device.safePoint d id).Sound := by
  intro h0; unfold Device.safePoint
  with_reducible
    split; assumption; apply Device.ite_sound; apply Device.settleControls_sound; apply Device.setCmd_sound; apply Device.ite_sound
    apply Device.closeWindow_sound; assumption; assumption; assumption

theorem Device.restoreOp_sound {d : Device} {id : Nat} :
    d.Sound → (Device.restoreOp d id).Sound := by
  intro h0; unfold Device.restoreOp
  with_reducible
    split; assumption; apply Device.ite_sound; assumption; apply Device.ite_sound; assumption; apply Device.settleControls_sound
    apply Device.ite_sound; apply Device.openWindow_sound; apply Device.setCmd_sound; assumption; apply Device.setCmd_sound; assumption

theorem Device.restoreOps_sound {d : Device} :
    d.Sound → (Device.restoreOps d).Sound := by
  intro h0; unfold Device.restoreOps
  with_reducible
    apply Device.foldl_sound; intro _; intro _; intro _; apply Device.restoreOp_sound; assumption; assumption

theorem Device.longOpDone_sound {d : Device} {id : Nat} :
    d.Sound → (Device.longOpDone d id).Sound := by
  intro h0; unfold Device.longOpDone
  with_reducible
    dsimp only; split; apply Device.restoreOp_sound; assumption; apply Device.ite_sound; apply Device.restoreOp_sound; assumption; split
    apply Device.ite_sound; apply Device.restoreOp_sound; assumption; apply Device.opFinish_sound; apply Device.restoreOp_sound
    assumption; apply Device.ite_sound; apply Device.restoreOp_sound; assumption; apply Device.opFinish_sound
    apply Device.restoreOp_sound; assumption; apply Device.endOp_sound; apply Device.restoreOp_sound; assumption
    apply Device.restoreOp_sound; assumption

theorem Device.dropHeld_sound {d : Device} {id : Nat} :
    d.Sound → (Device.dropHeld d id).Sound := by
  intro h0
  exact Device.mapCores_sound h0 (fun _ hk => hk)

theorem Device.controlWaits_sound {d : Device} {k : Nat} {c : ZCmd} {id : Nat} :
    d.Sound → (Device.controlWaits d k c id).Sound := by
  intro h0; unfold Device.controlWaits
  with_reducible
    apply Device.setCmd_sound; assumption

theorem Device.suspendMeets_sound {d : Device} {k : Nat} {c : ZCmd} {id : Nat} {t : ZCmd} :
    d.Sound → (Device.suspendMeets d k c id t).Sound := by
  intro h0; unfold Device.suspendMeets
  with_reducible
    split; apply Device.complete_sound; apply Device.setCmd_sound; assumption; apply Device.complete_sound; apply Device.setCmd_sound
    assumption; apply Device.controlWaits_sound; apply Device.setCmd_sound; assumption; apply Device.controlWaits_sound; assumption
    apply Device.controlWaits_sound; assumption; apply Device.complete_sound; assumption

theorem Device.resumeMeets_sound {d : Device} {k : Nat} {c : ZCmd} {id : Nat} {t : ZCmd} :
    d.Sound → (Device.resumeMeets d k c id t).Sound := by
  intro h0; unfold Device.resumeMeets
  with_reducible
    split; apply Device.complete_sound; assumption; apply Device.complete_sound; assumption; apply Device.settleControls_sound
    apply Device.controlWaits_sound; apply Device.resumeOp_sound; assumption; apply Device.controlWaits_sound; assumption
    apply Device.controlWaits_sound; assumption; apply Device.complete_sound; assumption

theorem Device.cancelMeets_sound {d : Device} {k : Nat} {c : ZCmd} {id : Nat} {t : ZCmd} :
    d.Sound → (Device.cancelMeets d k c id t).Sound := by
  intro h0; unfold Device.cancelMeets
  with_reducible
    apply Device.ite_sound; apply Device.complete_sound; apply Device.endOp_sound; assumption; apply Device.ite_sound
    apply Device.controlWaits_sound; assumption; apply Device.controlWaits_sound; apply Device.setCmd_sound; assumption

theorem Device.opControl_sound {d : Device} {k : Nat} {c : ZCmd} :
    d.Sound → (Device.opControl d k c).Sound := by
  intro h0; unfold Device.opControl
  with_reducible
    apply Device.ite_sound; apply Device.complete_sound; assumption; split; apply Device.complete_sound; assumption
    apply Device.ite_sound; apply Device.ite_sound; apply Device.complete_sound; apply Device.complete_sound; assumption
    apply Device.complete_sound; assumption; apply Device.ite_sound; apply Device.ite_sound; apply Device.complete_sound
    apply Device.complete_sound; apply Device.dropHeld_sound; assumption; apply Device.complete_sound; assumption
    apply Device.ite_sound; apply Device.suspendMeets_sound; assumption; apply Device.ite_sound; apply Device.resumeMeets_sound
    assumption; apply Device.cancelMeets_sound; assumption

theorem Device.opQuery_sound {d : Device} {k : Nat} {c : ZCmd} :
    d.Sound → (Device.opQuery d k c).Sound := by
  intro h0; unfold Device.opQuery
  with_reducible
    apply Device.ite_sound; apply Device.complete_sound; assumption; split; apply Device.complete_sound; assumption
    apply Device.ite_sound; apply Device.complete_sound; assumption; apply Device.complete_sound; apply Device.useFree_sound; assumption

theorem Device.znForget_sound {d : Device} {id : Nat} :
    d.Sound → (Device.znForget d id).Sound := by
  intro h0; unfold Device.znForget
  with_reducible
    split; assumption; apply Device.complete_sound; split; apply Device.sliceEnd_sound; split; dsimp only; apply Device.Sound.upd
    apply Device.closeWindow_sound; assumption; dsimp only; apply Device.Sound.upd; assumption; apply Device.ite_sound
    apply Device.dropOp_sound; split; dsimp only; apply Device.Sound.upd; apply Device.closeWindow_sound; assumption; dsimp only
    apply Device.Sound.upd; assumption; apply Device.dropHeld_sound; split; dsimp only; apply Device.Sound.upd
    apply Device.closeWindow_sound; assumption; dsimp only; apply Device.Sound.upd; assumption

theorem Device.znCancel_sound {d : Device} {id : Nat} :
    d.Sound → (Device.znCancel d id).Sound := by
  intro h0; unfold Device.znCancel
  with_reducible
    split; assumption; apply Device.ite_sound; apply Device.endOp_sound; assumption; apply Device.complete_sound
    apply Device.dropHeld_sound; assumption

end Machine
end Sys2Proof
end

