-- ==== Sys2Proof/Laws/SoundStalls.lean ====
section
/-!
SUPPORT. Soundness is kept by the operations of Machine/Stalls.lean.
-/
namespace Sys2Proof
namespace Machine

theorem Device.stallCount_sound {d : Device} {c e cause : Nat} :
    d.Sound → (Device.stallCount d c e cause).Sound := by
  intro h0; unfold Device.stallCount
  with_reducible
    apply Device.bump64_sound; apply Device.bump64_sound; assumption

theorem Device.stallQueue_sound {d : Device} {c q : Nat} :
    d.Sound → (Device.stallQueue d c q).Sound := by
  intro h0; unfold Device.stallQueue
  with_reducible
    apply Device.ite_sound; assumption; apply Device.stallCount_sound; assumption

theorem Device.stallCore_sound {d : Device} {c : Nat} :
    d.Sound → (Device.stallCore d c).Sound := by
  intro h0; unfold Device.stallCore
  with_reducible
    apply Device.ite_sound; assumption; apply Device.foldl_sound; intro _; intro _; intro _; apply Device.stallQueue_sound; assumption
    apply Device.ite_sound; apply Device.stallCount_sound; assumption; assumption

theorem Device.stallAll_sound {d : Device} :
    d.Sound → (Device.stallAll d).Sound := by
  intro h0; unfold Device.stallAll
  with_reducible
    apply Device.ite_sound; apply Device.bump64_sound; apply Device.foldl_sound; intro _; intro _; intro _; apply Device.stallCore_sound
    assumption; assumption; apply Device.foldl_sound; intro _; intro _; intro _; apply Device.stallCore_sound; assumption; assumption

theorem Device.netWait_sound {d : Device} {ns : Nat} :
    d.Sound → (Device.netWait d ns).Sound := by
  intro h0; unfold Device.netWait
  with_reducible
    apply Device.foldl_sound; intro _; intro _; intro _; apply Device.ite_sound; apply Device.bump64_sound; assumption; assumption
    assumption

end Machine
end Sys2Proof
end

