-- ==== Sys2Proof/Laws/SoundTick.lean ====
section
/-!
SUPPORT. Soundness is kept by the operations of Machine/Tick.lean.
-/
namespace Sys2Proof
namespace Machine

theorem Device.tick_sound {d : Device} :
    d.Sound → (Device.tick d).Sound := by
  intro h0
  unfold Device.tick
  extract_lets stands t a1 d1 d2 _ d3
  have h1 : d1.Sound := Device.ite_sound h0 (Device.Sound.upd (e := d.stallAll) (Device.stallAll_sound h0))
  have h2 : d2.Sound := Device.netWait_sound h1
  have h3 : d3.Sound := Device.Sound.upd h2
  exact Device.znPump_sound (Device.restoreOps_sound (Device.drainPorts_sound (Device.advance_sound h3)))

end Machine
end Sys2Proof
end

