-- ==== Sys2Proof/Laws/SoundFaults.lean ====
section
/-!
SUPPORT. Soundness is kept by the operations of Machine/Faults.lean.
-/
namespace Sys2Proof
namespace Machine

theorem Device.writeFault_sound {d : Device} {r : FaultRec} {fn : Nat} :
    d.Sound → (Device.writeFault d r fn).Sound := by
  intro h0; unfold Device.writeFault
  with_reducible
    apply Device.ite_sound; assumption; apply Device.ite_sound; apply Device.bump_sound; assumption; apply Device.ite_sound; dsimp only
    apply Device.Sound.upd; apply Device.setFld_sound; apply Device.hostWrite_sound; assumption; apply Device.setFld_sound
    apply Device.hostWrite_sound; assumption

theorem Device.faultDelivery_sound {d : Device} :
    d.Sound → (Device.faultDelivery d).Sound := by
  intro h0; unfold Device.faultDelivery
  with_reducible
    split; assumption; apply Device.ite_sound; assumption; apply Device.ite_sound; apply Device.firePart_sound; apply Device.bump_sound
    apply Device.foldl_sound; intro _; intro _; intro _; apply Device.writeFault_sound; assumption; dsimp only; apply Device.Sound.upd
    assumption; apply Device.fire_sound; apply Device.bump_sound; apply Device.foldl_sound; intro _; intro _; intro _
    apply Device.writeFault_sound; assumption; dsimp only; apply Device.Sound.upd; assumption

theorem Device.faultRingEnable_sound {d : Device} {fn : Nat} :
    d.Sound → (Device.faultRingEnable d fn).Sound := by
  intro h0; unfold Device.faultRingEnable
  with_reducible
    apply Device.ite_sound; assumption; dsimp only; apply Device.Sound.upd; apply Device.setReg_sound; apply Device.setFlag_sound
    assumption

theorem Device.linkRetry_sound {d : Device} {l : Nat} :
    d.Sound → (Device.linkRetry d l).Sound := by
  intro h0; unfold Device.linkRetry
  with_reducible
    apply Device.ite_sound; apply Device.bump_sound; assumption; apply Device.raise_sound; apply Device.fire_sound; dsimp only
    apply Device.Sound.upd; apply Device.bump_sound; assumption

theorem Device.traceEnable_sound {d : Device} :
    d.Sound → (Device.traceEnable d).Sound := by
  intro h0; unfold Device.traceEnable
  with_reducible
    apply Device.ite_sound; assumption; apply Device.setReg_sound; apply Device.setFlag_sound; assumption

theorem Device.stallClear_sound {d : Device} {c : Nat} :
    d.Sound → (Device.stallClear d c).Sound := by
  intro h0
  exact Device.Sound.updRegs h0 (Cells.wf_clear h0.wfRegs _ _)

theorem Device.stallLoRead_sound {d : Device} {c e k : Nat} :
    d.Sound → (Device.stallLoRead d c e k).Sound := by
  intro h0; unfold Device.stallLoRead
  with_reducible
    apply Device.modCore_sound; assumption; intro _; intro _; apply Core.Sound.upd; assumption

theorem Device.windowExpire_sound {d : Device} :
    d.Sound → (Device.windowExpire d).Sound := by
  intro h0; unfold Device.windowExpire
  with_reducible
    dsimp only; apply Device.Sound.upd; assumption

end Machine
end Sys2Proof
end

