-- ==== Sys2Proof/Laws/SoundEvents.lean ====
section
/-!
SUPPORT. Soundness is kept by the operations of Machine/Events.lean.
-/
namespace Sys2Proof
namespace Machine

theorem Device.evtRaise_sound {d : Device} {fn src : Nat} :
    d.Sound → (Device.evtRaise d fn src).Sound := by
  intro h0; unfold Device.evtRaise
  with_reducible
    split; apply Device.bump_sound; assumption; apply Device.ite_sound; assumption; apply Device.fire_sound; assumption

theorem Device.evtDone_sound {d : Device} {fn src : Nat} :
    d.Sound → (Device.evtDone d fn src).Sound := by
  intro h0; unfold Device.evtDone
  with_reducible
    split; apply Device.bump_sound; assumption; apply Device.evtComplete_sound; assumption

theorem Device.evtOff_sound {d : Device} {n : Nat} :
    d.Sound → (Device.evtOff d n).Sound := by
  intro h0; unfold Device.evtOff
  with_reducible
    apply Device.setFlag_sound; apply Device.setFld_sound; assumption

theorem Device.fnWindow_sound {d : Device} {v base count : Nat} :
    d.Sound → (Device.fnWindow d v base count).Sound := by
  intro h0; unfold Device.fnWindow
  with_reducible
    apply Device.ite_sound; assumption; apply Device.ite_sound; apply Device.setFlag_sound; assumption; apply Device.setReg_sound
    apply Device.foldl_sound; intro _; intro _; intro _; apply Device.evtOff_sound; assumption; assumption

theorem Device.evtEnable_sound {d : Device} {en : Bool} :
    d.Sound → (Device.evtEnable d en).Sound := by
  intro h0; unfold Device.evtEnable
  with_reducible
    apply Device.setFlag_sound; apply Device.setFlag_sound; assumption

theorem Device.noteHeld_sound {d : Device} :
    d.Sound → (Device.noteHeld d).Sound := by
  intro h0; unfold Device.noteHeld
  with_reducible
    apply Device.bump_sound; dsimp only; apply Device.Sound.upd; assumption

theorem Device.msixWrite_sound {d : Device} {fn vec : Nat} :
    d.Sound → (Device.msixWrite d fn vec).Sound := by
  intro h0; unfold Device.msixWrite
  with_reducible
    apply Device.hostWrite_sound; assumption

theorem Device.toMgmt_sound {d : Device} {n : Nat} {done : Bool} :
    d.Sound → (Device.toMgmt d n done).Sound := by
  intro h0; unfold Device.toMgmt
  with_reducible
    split; dsimp only; apply Device.Sound.upd; assumption; dsimp only; apply Device.Sound.upd; assumption

theorem Device.deliverTo_sound {d : Device} {n m : Nat} {auto : Bool} :
    d.Sound → (Device.deliverTo d n m auto).Sound := by
  intro h0; unfold Device.deliverTo
  with_reducible
    split; apply Device.msixWrite_sound; assumption; apply Device.toMgmt_sound; assumption; apply Device.semAdd_sound; assumption

theorem Device.deliver_sound {d : Device} {n i : Nat} :
    d.Sound → (Device.deliver d n i).Sound := by
  intro h0; unfold Device.deliver
  with_reducible
    apply Device.deliverTo_sound; split; dsimp only; apply Device.Sound.upd; apply Device.bump64_sound; apply Device.setFld_sound
    apply Device.setFld_sound; assumption; dsimp only; apply Device.Sound.upd; apply Device.bump64_sound; apply Device.setFld_sound
    apply Device.setFld_sound; assumption

theorem Device.eventDelivery_sound {d : Device} :
    d.Sound → (Device.eventDelivery d).Sound := by
  intro h0; unfold Device.eventDelivery
  with_reducible
    apply Device.ite_sound; assumption; dsimp only; split; apply Device.noteHeld_sound; assumption; split; apply Device.deliver_sound
    apply Device.noteHeld_sound; assumption; apply Device.noteHeld_sound; assumption

theorem Device.mgmtHandled_sound {d : Device} :
    d.Sound → (Device.mgmtHandled d).Sound := by
  intro h0; unfold Device.mgmtHandled
  with_reducible
    split; assumption; apply Device.ite_sound; assumption; apply Device.ite_sound; apply Device.evtComplete_sound; dsimp only
    apply Device.Sound.upd; apply Device.setFld_sound; apply Device.setReg_sound; assumption; dsimp only; apply Device.Sound.upd
    apply Device.setFld_sound; apply Device.setReg_sound; assumption

end Machine
end Sys2Proof
end

