-- ==== Sys2Proof/Laws/SoundZnWork.lean ====
section
/-!
SUPPORT. Soundness is kept by the operations of Machine/ZnWork.lean.
-/
namespace Sys2Proof
namespace Machine

theorem Device.znRow_sound {d : Device} {sel : ZCmd → Bool} {f : Device → Nat → ZCmd → Device} :
    d.Sound → (∀ (x0 : Device) (x1 : Nat) (x2 : ZCmd), x0.Sound → (f x0 x1 x2).Sound) → (Device.znRow d sel f).Sound := by
  intro h0 h1; unfold Device.znRow
  with_reducible
    dsimp only; split; apply Device.znPump_sound; assumption; apply Device.ite_sound; apply Device.znPump_sound; apply h1
    apply Device.znStart_sound; apply Device.znPump_sound; assumption; apply Device.znPump_sound; assumption

theorem Device.znOp_sound {d : Device} {op : Nat} {f : Device → Nat → ZCmd → Device} :
    d.Sound → (∀ (x0 : Device) (x1 : Nat) (x2 : ZCmd), x0.Sound → (f x0 x1 x2).Sound) → (Device.znOp d op f).Sound := by
  intro h0 h1; unfold Device.znOp
  with_reducible
    apply Device.znRow_sound; assumption; assumption

theorem Device.znCheck_sound {d : Device} {id : Nat} {checks : List (Bool × Nat)} {f : Device → Device} :
    d.Sound → (∀ (x0 : Device), x0.Sound → (f x0).Sound) → (Device.znCheck d id checks f).Sound := by
  intro h0 h1; unfold Device.znCheck
  with_reducible
    split; apply Device.complete_sound; assumption; apply h1; assumption

theorem Device.znQueue_sound {d : Device} {id : Nat} {c : ZCmd} {checks : List (Bool × Nat)} :
    d.Sound → (Device.znQueue d id c checks).Sound := by
  intro h0; unfold Device.znQueue
  with_reducible
    apply Device.znCheck_sound; assumption; intro _; intro _; apply Device.setCmd_sound; assumption

theorem Device.bulk_sound {d : Device} {id : Nat} {c : ZCmd} {addr : Nat} {bs : List Byte} :
    d.Sound → (Device.bulk d id c addr bs).Sound := by
  intro h0; unfold Device.bulk
  with_reducible
    apply Device.ite_sound; apply Device.setCmd_sound; assumption; apply Device.hostWrite_sound; assumption

theorem Device.doIdentify_sound {d : Device} {id : Nat} {c : ZCmd} :
    d.Sound → (Device.doIdentify d id c).Sound := by
  intro h0; unfold Device.doIdentify
  with_reducible
    apply Device.znCheck_sound; assumption; intro _; intro _; apply Device.complete_sound; apply Device.bulk_sound; assumption

theorem Device.showPool_sound {d : Device} :
    d.Sound → (Device.showPool d).Sound := by
  intro h0; unfold Device.showPool
  with_reducible
    apply Device.foldl_sound; intro _; intro _; intro _; apply Device.setFld_sound; assumption; assumption

theorem Device.showHeld_sound {d : Device} {fn : Nat} :
    d.Sound → (Device.showHeld d fn).Sound := by
  intro h0; unfold Device.showHeld
  with_reducible
    apply Device.setFld_sound; assumption

theorem Device.doRingCreate_sound {d : Device} {id : Nat} {c : ZCmd} :
    d.Sound → (Device.doRingCreate d id c).Sound := by
  intro h0; unfold Device.doRingCreate
  with_reducible
    apply Device.znCheck_sound; assumption; intro _; intro _; apply Device.complete_sound; apply Device.showHeld_sound
    apply Device.showPool_sound; apply Device.setRing_sound; assumption

theorem Device.dropRing_sound {d : Device} {g : Nat} :
    d.Sound → (Device.dropRing d g).Sound := by
  intro h0; unfold Device.dropRing
  with_reducible
    split; assumption; apply Device.showHeld_sound; apply Device.showPool_sound; dsimp only; apply Device.Sound.upd; assumption

theorem Device.doRingDelete_sound {d : Device} {id : Nat} {c : ZCmd} :
    d.Sound → (Device.doRingDelete d id c).Sound := by
  intro h0; unfold Device.doRingDelete
  with_reducible
    dsimp only; split; apply Device.complete_sound; assumption; apply Device.znCheck_sound; assumption; intro _; intro _
    apply Device.complete_sound; apply Device.dropRing_sound; apply Device.foldl_sound; intro _; intro _; intro _
    apply Device.znCancel_sound; assumption; assumption

theorem Device.doVfConfig_sound {d : Device} {id : Nat} {c : ZCmd} :
    d.Sound → (Device.doVfConfig d id c).Sound := by
  intro h0; unfold Device.doVfConfig
  with_reducible
    apply Device.znCheck_sound; assumption; intro _; intro _; apply Device.complete_sound; apply Device.setFld_sound
    apply Device.setFld_sound; apply Device.setFlag_sound; assumption

theorem Device.doPrepareRemove_sound {d : Device} {id : Nat} {c : ZCmd} :
    d.Sound → (Device.doPrepareRemove d id c).Sound := by
  intro h0; unfold Device.doPrepareRemove
  with_reducible
    apply Device.znQueue_sound; assumption

theorem Device.doPartConfig_sound {d : Device} {id : Nat} {c : ZCmd} :
    d.Sound → (Device.doPartConfig d id c).Sound := by
  intro h0; unfold Device.doPartConfig
  with_reducible
    apply Device.znCheck_sound; assumption; intro _; intro _; apply Device.complete_sound; dsimp only; apply Device.Sound.upd
    apply Device.foldl_sound; intro _; intro _; intro _; apply Device.foldl_sound; intro _; intro _; intro _; apply Device.modCore_sound
    assumption; intro _; intro _; apply Core.Sound.upd; assumption; apply Device.setCluster_sound; apply Device.acquireAll_sound
    assumption; assumption

theorem Device.doPartEnable_sound {d : Device} {id : Nat} {c : ZCmd} :
    d.Sound → (Device.doPartEnable d id c).Sound := by
  intro h0; unfold Device.doPartEnable
  with_reducible
    apply Device.znCheck_sound; assumption; intro _; intro _; apply Device.svcEnable_sound; assumption

theorem Device.doPartDisable_sound {d : Device} {id : Nat} {c : ZCmd} :
    d.Sound → (Device.doPartDisable d id c).Sound := by
  intro h0; unfold Device.doPartDisable
  with_reducible
    apply Device.znQueue_sound; assumption

theorem Device.doGranuleAssign_sound {d : Device} {id : Nat} {c : ZCmd} :
    d.Sound → (Device.doGranuleAssign d id c).Sound := by
  intro h0; unfold Device.doGranuleAssign
  with_reducible
    apply Device.znCheck_sound; assumption; intro _; intro _; apply Device.complete_sound; apply Device.Sound.upd; assumption

theorem Device.doGranuleRelease_sound {d : Device} {id : Nat} {c : ZCmd} :
    d.Sound → (Device.doGranuleRelease d id c).Sound := by
  intro h0; unfold Device.doGranuleRelease
  with_reducible
    apply Device.znQueue_sound; assumption

theorem Device.doScrub_sound {d : Device} {id : Nat} {c : ZCmd} :
    d.Sound → (Device.doScrub d id c).Sound := by
  intro h0; unfold Device.doScrub
  with_reducible
    apply Device.znQueue_sound; assumption

theorem Device.doPtWrite_sound {d : Device} {id : Nat} {c : ZCmd} :
    d.Sound → (Device.doPtWrite d id c).Sound := by
  intro h0; unfold Device.doPtWrite
  with_reducible
    apply Device.znCheck_sound; assumption; intro _; intro _; apply Device.complete_sound; apply Device.memWrite_sound; assumption

theorem Device.doPtRoot_sound {d : Device} {id : Nat} {c : ZCmd} :
    d.Sound → (Device.doPtRoot d id c).Sound := by
  intro h0; unfold Device.doPtRoot
  with_reducible
    apply Device.ite_sound; apply Device.complete_sound; apply Device.setFlag_sound; assumption; apply Device.znCheck_sound; assumption
    intro _; intro _; apply Device.complete_sound; apply Device.setReg_sound; apply Device.setReg_sound; assumption

theorem Device.doXlateInval_sound {d : Device} {id : Nat} {c : ZCmd} :
    d.Sound → (Device.doXlateInval d id c).Sound := by
  intro h0; unfold Device.doXlateInval
  with_reducible
    apply Device.complete_sound; apply Device.foldl_sound; intro _; intro _; intro _; apply Device.setCluster_sound; assumption
    apply Device.foldl_sound; intro _; intro _; intro _; apply Device.modCore_sound; assumption; intro _; intro _; dsimp only
    apply Core.Sound.upd; assumption; assumption

theorem Device.doImemLoad_sound {d : Device} {id : Nat} {c : ZCmd} :
    d.Sound → (Device.doImemLoad d id c).Sound := by
  intro h0; unfold Device.doImemLoad
  with_reducible
    apply Device.znCheck_sound; assumption; intro _; intro _; apply Device.ite_sound; apply Device.complete_sound
    apply Device.exitIdle_sound; assumption; apply Device.ite_sound; apply Device.ite_sound; apply Device.complete_sound
    apply Device.exitIdle_sound; assumption; apply Device.modCore_sound; apply Device.exitIdle_sound; assumption; intro _; intro _
    apply Core.Sound.upd; assumption; apply Device.complete_sound; apply Device.modCore_sound; apply Device.exitIdle_sound; assumption
    intro _; intro _; apply Core.writeImem_sound; assumption

theorem Device.doCoreReset_sound {d : Device} {id : Nat} {c : ZCmd} :
    d.Sound → (Device.doCoreReset d id c).Sound := by
  intro h0; unfold Device.doCoreReset
  with_reducible
    apply Device.znCheck_sound; assumption; intro _; intro _; apply Device.complete_sound; apply Device.foldl_sound; intro _; intro _
    intro _; apply Device.coreReset_sound; assumption; apply Device.exitIdle_sound; assumption

theorem Device.appendTable_sound {d : Device} {id : Nat} {c : ZCmd} :
    d.Sound → (Device.appendTable d id c).Sound := by
  intro h0; unfold Device.appendTable
  with_reducible
    apply Device.ite_sound; assumption; apply Device.enqueue_sound; apply Device.exitIdle_sound; apply Device.setCmd_sound; assumption

theorem Device.doTableLoad_sound {d : Device} {id : Nat} {c : ZCmd} :
    d.Sound → (Device.doTableLoad d id c).Sound := by
  intro h0; unfold Device.doTableLoad
  with_reducible
    apply Device.znCheck_sound; assumption; intro _; intro _; apply Device.appendTable_sound; assumption

theorem Device.znRetry_sound {d : Device} {op : Nat} {ready : Device → ZCmd → Bool} {again f : Device → Nat → ZCmd → Device} :
    d.Sound → (∀ (x0 : Device) (x1 : Nat) (x2 : ZCmd), x0.Sound → (again x0 x1 x2).Sound) → (∀ (x0 : Device) (x1 : Nat) (x2 : ZCmd), x0.Sound → (f x0 x1 x2).Sound) → (Device.znRetry d op ready again f).Sound := by
  intro h0 h1 h2; unfold Device.znRetry
  with_reducible
    split; apply Device.znPump_sound; apply h1; assumption; apply Device.znOp_sound; assumption; assumption

theorem Device.tableLoadRow_sound {d : Device} :
    d.Sound → (Device.tableLoadRow d).Sound := by
  intro h0; unfold Device.tableLoadRow
  with_reducible
    apply Device.znRetry_sound; assumption; intro _; intro _; intro _; intro _; apply Device.appendTable_sound; assumption; intro _
    intro _; intro _; intro _; apply Device.doTableLoad_sound; assumption

theorem Device.doTableBuild_sound {d : Device} {id : Nat} {c : ZCmd} :
    d.Sound → (Device.doTableBuild d id c).Sound := by
  intro h0; unfold Device.doTableBuild
  with_reducible
    apply Device.znQueue_sound; assumption

theorem Device.doCoreSpare_sound {d : Device} {id : Nat} {c : ZCmd} :
    d.Sound → (Device.doCoreSpare d id c).Sound := by
  intro h0; unfold Device.doCoreSpare
  with_reducible
    apply Device.znQueue_sound; assumption

theorem Device.doFlowOpen_sound {d : Device} {id : Nat} {c : ZCmd} :
    d.Sound → (Device.doFlowOpen d id c).Sound := by
  intro h0; unfold Device.doFlowOpen
  with_reducible
    apply Device.ite_sound; apply Device.complete_sound; assumption; apply Device.ite_sound; apply Device.complete_sound; assumption
    apply Device.ite_sound; apply Device.complete_sound; apply Device.bump_sound; assumption; apply Device.ite_sound
    apply Device.complete_sound; assumption; apply Device.openFlow_sound; assumption

theorem Device.doFlowClose_sound {d : Device} {id : Nat} {c : ZCmd} :
    d.Sound → (Device.doFlowClose d id c).Sound := by
  intro h0; unfold Device.doFlowClose
  with_reducible
    apply Device.ite_sound; apply Device.complete_sound; assumption; split; apply Device.complete_sound; assumption; split
    apply Device.complete_sound; assumption; apply Device.complete_sound; assumption; apply Device.closeFlow_sound; assumption

theorem Device.doFlowQuery_sound {d : Device} {id : Nat} {c : ZCmd} :
    d.Sound → (Device.doFlowQuery d id c).Sound := by
  intro h0; unfold Device.doFlowQuery
  with_reducible
    apply Device.ite_sound; apply Device.complete_sound; assumption; split; apply Device.complete_sound; assumption
    apply Device.ite_sound; apply Device.complete_sound; assumption; apply Device.complete_sound; assumption

theorem Device.onKey_sound {d : Device} {id : Nat} {c : ZCmd} {refuse : Flow → Bool} {f : Flow → Flow} :
    d.Sound → (Device.onKey d id c refuse f).Sound := by
  intro h0; unfold Device.onKey
  with_reducible
    apply Device.ite_sound; apply Device.complete_sound; assumption; split; apply Device.complete_sound; assumption
    apply Device.ite_sound; apply Device.complete_sound; assumption; apply Device.ite_sound; apply Device.complete_sound; assumption
    apply Device.complete_sound; apply Device.setFlow_sound; assumption

theorem Device.doKeyInstall_sound {d : Device} {id : Nat} {c : ZCmd} :
    d.Sound → (Device.doKeyInstall d id c).Sound := by
  intro h0; unfold Device.doKeyInstall
  with_reducible
    apply Device.ite_sound; apply Device.complete_sound; assumption; apply Device.onKey_sound; assumption

theorem Device.doKeySwitch_sound {d : Device} {id : Nat} {c : ZCmd} :
    d.Sound → (Device.doKeySwitch d id c).Sound := by
  intro h0; unfold Device.doKeySwitch
  with_reducible
    apply Device.onKey_sound; assumption

theorem Device.doKeyClear_sound {d : Device} {id : Nat} {c : ZCmd} :
    d.Sound → (Device.doKeyClear d id c).Sound := by
  intro h0; unfold Device.doKeyClear
  with_reducible
    apply Device.onKey_sound; assumption

theorem Device.doRxRingSet_sound {d : Device} {id : Nat} {c : ZCmd} :
    d.Sound → (Device.doRxRingSet d id c).Sound := by
  intro h0; unfold Device.doRxRingSet
  with_reducible
    apply Device.ite_sound; apply Device.complete_sound; dsimp only; apply Device.Sound.upd; assumption; apply Device.znCheck_sound
    assumption; intro _; intro _; apply Device.complete_sound; dsimp only; apply Device.Sound.upd; assumption

theorem Device.doPortAdmit_sound {d : Device} {id : Nat} {c : ZCmd} :
    d.Sound → (Device.doPortAdmit d id c).Sound := by
  intro h0; unfold Device.doPortAdmit
  with_reducible
    apply Device.znCheck_sound; assumption; intro _; intro _; apply Device.ite_sound; apply Device.complete_sound
    apply Device.portRemove_sound; assumption; apply Device.ite_sound; apply Device.setPort_sound; apply Device.setPortFlag_sound
    apply Device.setFlag_sound; assumption; apply Device.complete_sound; apply Device.portReadmit_sound; assumption

theorem Device.doPortRecal_sound {d : Device} {id : Nat} {c : ZCmd} :
    d.Sound → (Device.doPortRecal d id c).Sound := by
  intro h0; unfold Device.doPortRecal
  with_reducible
    apply Device.znQueue_sound; assumption

theorem Device.doAqEnable_sound {d : Device} {id : Nat} {c : ZCmd} :
    d.Sound → (Device.doAqEnable d id c).Sound := by
  intro h0; unfold Device.doAqEnable
  with_reducible
    apply Device.ite_sound; apply Device.complete_sound; apply Device.aqPenDisable_sound; assumption; apply Device.ite_sound
    apply Device.aqPenEnable_sound; dsimp only; apply Device.Sound.upd; assumption; apply Device.complete_sound
    apply Device.aqPenEnable_sound; assumption

theorem Device.doGroupSet_sound {d : Device} {id : Nat} {c : ZCmd} :
    d.Sound → (Device.doGroupSet d id c).Sound := by
  intro h0; unfold Device.doGroupSet
  with_reducible
    apply Device.znCheck_sound; assumption; intro _; intro _; apply Device.groupSet_sound; assumption

theorem Device.doUpdEnable_sound {d : Device} {id : Nat} {c : ZCmd} :
    d.Sound → (Device.doUpdEnable d id c).Sound := by
  intro h0; unfold Device.doUpdEnable
  with_reducible
    apply Device.ite_sound; apply Device.complete_sound; apply Device.updDisable_sound; assumption; apply Device.ite_sound
    apply Device.updEnable_sound; dsimp only; apply Device.Sound.upd; assumption; apply Device.complete_sound
    apply Device.updEnable_sound; assumption

theorem Device.doCkpt_sound {d : Device} {id : Nat} {c : ZCmd} :
    d.Sound → (Device.doCkpt d id c).Sound := by
  intro h0; unfold Device.doCkpt
  with_reducible
    apply Device.ite_sound; apply Device.complete_sound; assumption; apply Device.ite_sound; apply Device.complete_sound
    apply Device.sliceBusy_sound; assumption; apply Device.setCmd_sound; assumption

theorem Device.doRestore_sound {d : Device} {id : Nat} {c : ZCmd} :
    d.Sound → (Device.doRestore d id c).Sound := by
  intro h0; unfold Device.doRestore
  with_reducible
    apply Device.znQueue_sound; assumption

theorem Device.doDieEnable_sound {d : Device} {id : Nat} {c : ZCmd} :
    d.Sound → (Device.doDieEnable d id c).Sound := by
  intro h0; unfold Device.doDieEnable
  with_reducible
    apply Device.znCheck_sound; assumption; intro _; intro _; apply Device.svcEnable_sound; apply Device.exitIdle_sound; assumption

theorem Device.doDieDisable_sound {d : Device} {id : Nat} {c : ZCmd} :
    d.Sound → (Device.doDieDisable d id c).Sound := by
  intro h0; unfold Device.doDieDisable
  with_reducible
    apply Device.znQueue_sound; assumption

theorem Device.doCisEnable_sound {d : Device} {id : Nat} {c : ZCmd} :
    d.Sound → (Device.doCisEnable d id c).Sound := by
  intro h0; unfold Device.doCisEnable
  with_reducible
    apply Device.znQueue_sound; assumption

theorem Device.doCisDisable_sound {d : Device} {id : Nat} {c : ZCmd} :
    d.Sound → (Device.doCisDisable d id c).Sound := by
  intro h0; unfold Device.doCisDisable
  with_reducible
    apply Device.znQueue_sound; assumption

theorem Device.doPageRetire_sound {d : Device} {id : Nat} {c : ZCmd} :
    d.Sound → (Device.doPageRetire d id c).Sound := by
  intro h0; unfold Device.doPageRetire
  with_reducible
    apply Device.znCheck_sound; assumption; intro _; intro _; apply Device.complete_sound; apply Device.retirePage_sound
    apply Device.exitIdle_sound; assumption

theorem Device.doCalibrate_sound {d : Device} {id : Nat} {c : ZCmd} :
    d.Sound → (Device.doCalibrate d id c).Sound := by
  intro h0; unfold Device.doCalibrate
  with_reducible
    apply Device.znQueue_sound; assumption

theorem Device.doFwStage_sound {d : Device} {image : List Byte} {id : Nat} {c : ZCmd} :
    d.Sound → (Device.doFwStage d image id c).Sound := by
  intro h0; unfold Device.doFwStage
  with_reducible
    apply Device.znQueue_sound; assumption

theorem Device.activateNow_sound {d : Device} {id : Nat} {c : ZCmd} :
    d.Sound → (Device.activateNow d id c).Sound := by
  intro h0; unfold Device.activateNow
  with_reducible
    apply Device.ite_sound; apply Device.activateStart_sound; apply Device.setCmd_sound; assumption; apply Device.complete_sound
    assumption

theorem Device.doFwActivate_sound {d : Device} {id : Nat} {c : ZCmd} :
    d.Sound → (Device.doFwActivate d id c).Sound := by
  intro h0; unfold Device.doFwActivate
  with_reducible
    apply Device.znCheck_sound; assumption; intro _; intro _; apply Device.ite_sound; assumption; apply Device.activateNow_sound
    assumption

theorem Device.fwActivateRow_sound {d : Device} :
    d.Sound → (Device.fwActivateRow d).Sound := by
  intro h0; unfold Device.fwActivateRow
  with_reducible
    apply Device.znRetry_sound; assumption; intro _; intro _; intro _; intro _; apply Device.activateNow_sound; assumption; intro _
    intro _; intro _; intro _; apply Device.doFwActivate_sound; assumption

theorem Device.doFwRollback_sound {d : Device} {id : Nat} {c : ZCmd} :
    d.Sound → (Device.doFwRollback d id c).Sound := by
  intro h0; unfold Device.doFwRollback
  with_reducible
    apply Device.ite_sound; apply Device.complete_sound; assumption; apply Device.znQueue_sound; assumption

theorem Device.doLifecycle_sound {d : Device} {id : Nat} {c : ZCmd} :
    d.Sound → (Device.doLifecycle d id c).Sound := by
  intro h0; unfold Device.doLifecycle
  with_reducible
    apply Device.ite_sound; apply Device.complete_sound; assumption; apply Device.znQueue_sound; assumption

theorem Device.doDebugOpen_sound {d : Device} {id : Nat} {c : ZCmd} :
    d.Sound → (Device.doDebugOpen d id c).Sound := by
  intro h0; unfold Device.doDebugOpen
  with_reducible
    apply Device.znQueue_sound; assumption

theorem Device.doDebugClose_sound {d : Device} {id : Nat} {w0 : ZCmd} :
    d.Sound → (Device.doDebugClose d id w0).Sound := by
  intro h0; unfold Device.doDebugClose
  with_reducible
    apply Device.complete_sound; apply Device.closeDebug_sound; apply Device.foldl_sound; intro _; intro _; intro _
    apply Device.endOp_sound; assumption; assumption

theorem Device.doZeroise_sound {d : Device} {id : Nat} {c : ZCmd} :
    d.Sound → (Device.doZeroise d id c).Sound := by
  intro h0; unfold Device.doZeroise
  with_reducible
    apply Device.znQueue_sound; assumption

theorem Device.doCfgFactory_sound {d : Device} {id : Nat} {c : ZCmd} :
    d.Sound → (Device.doCfgFactory d id c).Sound := by
  intro h0; unfold Device.doCfgFactory
  with_reducible
    apply Device.znQueue_sound; assumption

theorem Device.doPowerLimit_sound {d : Device} {id : Nat} {c : ZCmd} :
    d.Sound → (Device.doPowerLimit d id c).Sound := by
  intro h0; unfold Device.doPowerLimit
  with_reducible
    apply Device.ite_sound; apply Device.complete_sound; assumption; apply Device.ite_sound; apply Device.setCmd_sound; assumption
    apply Device.ite_sound; apply Device.complete_sound; apply Device.storePut_sound; apply Device.setReg_sound; assumption
    apply Device.storeChange_sound; apply Device.setReg_sound; assumption

theorem Device.showPower_sound {d : Device} :
    d.Sound → (Device.showPower d).Sound := by
  intro h0; unfold Device.showPower
  with_reducible
    apply Device.ite_sound; apply Device.setFld_sound; apply Device.setFlag_sound; assumption; apply Device.setFlag_sound; assumption

theorem Device.doPowerState_sound {d : Device} {id : Nat} {c : ZCmd} :
    d.Sound → (Device.doPowerState d id c).Sound := by
  intro h0; unfold Device.doPowerState
  with_reducible
    apply Device.znCheck_sound; assumption; intro _; intro _; apply Device.complete_sound; apply Device.showPower_sound
    apply Device.setFld_sound; assumption

theorem Device.doIdle_sound {d : Device} {id : Nat} {w0 : ZCmd} :
    d.Sound → (Device.doIdle d id w0).Sound := by
  intro h0; unfold Device.doIdle
  with_reducible
    apply Device.ite_sound; apply Device.complete_sound; assumption; apply Device.znCheck_sound; assumption; intro _; intro _
    apply Device.complete_sound; apply Device.setFld_sound; assumption

theorem Device.doStandby_sound {d : Device} {id : Nat} {w0 : ZCmd} :
    d.Sound → (Device.doStandby d id w0).Sound := by
  intro h0; unfold Device.doStandby
  with_reducible
    apply Device.ite_sound; apply Device.complete_sound; assumption; apply Device.znCheck_sound; assumption; intro _; intro _
    apply Device.complete_sound; apply Device.setFld_sound; dsimp only; apply Device.Sound.upd; apply Device.resetDies_sound
    apply Device.sysSuspend_sound; apply Device.closeDebug_sound; apply Device.foldl_sound; intro _; intro _; intro _
    apply Device.releaseAll_sound; assumption; assumption

theorem Device.doActive_sound {d : Device} {id : Nat} {w0 : ZCmd} :
    d.Sound → (Device.doActive d id w0).Sound := by
  intro h0; unfold Device.doActive
  with_reducible
    apply Device.complete_sound; apply Device.ite_sound; apply Device.sysResume_sound; apply Device.setFld_sound
    apply Device.diesOn_sound; assumption; apply Device.exitIdle_sound; assumption

theorem Device.doCfgRead_sound {d : Device} {id : Nat} {c : ZCmd} :
    d.Sound → (Device.doCfgRead d id c).Sound := by
  intro h0; unfold Device.doCfgRead
  with_reducible
    apply Device.ite_sound; apply Device.complete_sound; assumption; split; apply Device.complete_sound; assumption
    apply Device.complete_sound; apply Device.bulk_sound; assumption

theorem Device.doCfgWrite_sound {d : Device} {id : Nat} {c : ZCmd} :
    d.Sound → (Device.doCfgWrite d id c).Sound := by
  intro h0; unfold Device.doCfgWrite
  with_reducible
    apply Device.znCheck_sound; assumption; intro _; intro _; apply Device.storeChange_sound; assumption

theorem Device.ctlEnable_sound {d : Device} {fn : Nat} :
    d.Sound → (Device.ctlEnable d fn).Sound := by
  intro h0; unfold Device.ctlEnable
  with_reducible
    apply Device.ite_sound; assumption; apply Device.showHeld_sound; apply Device.setRing_sound; apply Device.setFlag_sound; assumption

theorem Device.wipeRing_sound {d : Device} {g : Nat} :
    d.Sound → (Device.wipeRing d g).Sound := by
  intro h0; unfold Device.wipeRing
  with_reducible
    apply Device.dropRing_sound; apply Device.foldl_sound; intro _; intro _; intro _; apply Device.znForget_sound; assumption
    assumption

theorem Device.ctlDisable_sound {d : Device} {fn : Nat} :
    d.Sound → (Device.ctlDisable d fn).Sound := by
  intro h0; unfold Device.ctlDisable
  with_reducible
    apply Device.ite_sound; apply Device.znPump_sound; apply Device.wipeRing_sound; apply Device.setFlag_sound; assumption; assumption

theorem Device.surpriseRemoval_sound {d : Device} :
    d.Sound → (Device.surpriseRemoval d).Sound := by
  intro h0; unfold Device.surpriseRemoval
  with_reducible
    apply Device.ite_sound; assumption; apply Device.foldl_sound; intro _; intro _; intro _; apply Device.znForget_sound; assumption
    apply Device.closeWindow_sound; apply Device.sluiceAll_sound; dsimp only; apply Device.Sound.upd; apply Device.foldl_sound; intro _
    intro _; intro _; apply Device.setFlag_sound; assumption; assumption

theorem Device.quietFn_sound {d : Device} {fn : Nat} :
    d.Sound → (Device.quietFn d fn).Sound := by
  intro h0; unfold Device.quietFn
  with_reducible
    apply Device.foldl_sound; intro _; intro _; intro _; apply Device.foldl_sound; intro _; intro _; intro _; apply Device.setReg_sound
    assumption; assumption; apply Device.foldl_sound; intro _; intro _; intro _; split; apply Device.setFld_sound; assumption
    apply Device.setFld_sound; assumption; assumption; apply Device.foldl_sound; intro _; intro _; intro _; apply Device.setFlag_sound
    apply Device.setFld_sound; assumption; assumption

theorem Device.flrFn_sound {d : Device} {fn : Nat} :
    d.Sound → (Device.flrFn d fn).Sound := by
  intro h0; unfold Device.flrFn
  with_reducible
    dsimp only; apply Device.Sound.upd; apply Device.quietFn_sound; apply Device.setFlag_sound; apply Device.foldl_sound; intro _
    intro _; intro _; apply Device.dropRing_sound; assumption; apply Device.foldl_sound; intro _; intro _; intro _
    apply Device.znForget_sound; assumption; assumption

theorem Device.flr_sound {d : Device} {fn : Nat} :
    d.Sound → (Device.flr d fn).Sound := by
  intro h0; unfold Device.flr
  with_reducible
    apply Device.ite_sound; apply Device.znPump_sound; apply Device.foldl_sound; intro _; intro _; intro _; apply Device.ite_sound
    assumption; apply Device.partFlr_sound; assumption; apply Device.foldl_sound; intro _; intro _; intro _; apply Device.flrFn_sound
    assumption; assumption; apply Device.znPump_sound; split; apply Device.partFlr_sound; apply Device.flrFn_sound; assumption
    apply Device.flrFn_sound; assumption

end Machine
end Sys2Proof
end

