-- ==== Sys2Proof/Laws/SoundDebug.lean ====
section
/-!
SUPPORT. Soundness is kept by the operations of Machine/Debug.lean.
-/
namespace Sys2Proof
namespace Machine

theorem Device.presTimeout_sound {d : Device} :
    d.Sound → (Device.presTimeout d).Sound := by
  intro h0; unfold Device.presTimeout
  with_reducible
    split; assumption; apply Device.znPump_sound; apply Device.endOp_sound; apply Device.bump_sound; apply Device.closeWindow_sound
    apply Device.Sound.upd; assumption

theorem Device.pressCounts_sound {d : Device} {id : Nat} {c : ZCmd} :
    d.Sound → (Device.pressCounts d id c).Sound := by
  intro h0; unfold Device.pressCounts
  with_reducible
    apply Device.znPump_sound; apply Device.presenceGo_sound; apply Device.setCmd_sound; apply Device.closeWindow_sound; assumption

theorem Device.stray_sound {d : Device} :
    d.Sound → (Device.stray d).Sound := by
  intro h0; unfold Device.stray
  with_reducible
    apply Device.bump_sound; assumption

theorem Device.press_sound {d : Device} {fell : Nat} :
    d.Sound → (Device.press d fell).Sound := by
  intro h0; unfold Device.press
  with_reducible
    apply Device.ite_sound; assumption; split; dsimp only; split; apply Device.stray_sound; split; apply Device.Sound.upd
    apply Device.presTimeout_sound; assumption; apply Device.Sound.upd; assumption; split; apply Device.stray_sound; split
    apply Device.Sound.upd; apply Device.presTimeout_sound; assumption; apply Device.Sound.upd; assumption; apply Device.ite_sound
    apply Device.pressCounts_sound; split; apply Device.Sound.upd; apply Device.presTimeout_sound; assumption; apply Device.Sound.upd
    assumption; apply Device.stray_sound; split; apply Device.Sound.upd; apply Device.presTimeout_sound; assumption
    apply Device.Sound.upd; assumption; dsimp only; split; apply Device.stray_sound; split; apply Device.Sound.upd
    apply Device.presTimeout_sound; assumption; apply Device.Sound.upd; assumption; split; apply Device.stray_sound; split
    apply Device.Sound.upd; apply Device.presTimeout_sound; assumption; apply Device.Sound.upd; assumption; apply Device.ite_sound
    apply Device.pressCounts_sound; split; apply Device.Sound.upd; apply Device.presTimeout_sound; assumption; apply Device.Sound.upd
    assumption; apply Device.stray_sound; split; apply Device.Sound.upd; apply Device.presTimeout_sound; assumption
    apply Device.Sound.upd; assumption

theorem Device.jumperChange_sound {d : Device} {fitted : Bool} :
    d.Sound → (Device.jumperChange d fitted).Sound := by
  intro h0; unfold Device.jumperChange
  with_reducible
    apply Device.ite_sound; apply Device.closeDebug_sound; apply Device.setFlag_sound; assumption; apply Device.setFlag_sound
    assumption

theorem Device.dbgEnd_sound {d : Device} {st : Nat} :
    d.Sound → (Device.dbgEnd d st).Sound := by
  intro h0; unfold Device.dbgEnd
  with_reducible
    apply Device.setFld_sound; apply Device.setFlag_sound; assumption

theorem Device.dbgRead_sound {d : Device} {v : Nat} {wide bad : Bool} :
    d.Sound → (Device.dbgRead d v wide bad).Sound := by
  intro h0; unfold Device.dbgRead
  with_reducible
    apply Device.dbgEnd_sound; apply Device.ite_sound; apply Device.setReg_sound; apply Device.setReg_sound; apply Device.ite_sound
    apply Device.useFree_sound; assumption; assumption; apply Device.setReg_sound; apply Device.ite_sound; apply Device.useFree_sound
    assumption; assumption

theorem Device.dbgRegSpace_sound {d : Device} {c a : Nat} {write : Bool} :
    d.Sound → (Device.dbgRegSpace d c a write).Sound := by
  intro h0; unfold Device.dbgRegSpace
  with_reducible
    apply Device.ite_sound; apply Device.dbgEnd_sound; assumption; split; apply Device.dbgEnd_sound; assumption; apply Device.ite_sound
    apply Device.dbgRead_sound; apply Device.ite_sound; apply Device.bump16_sound; assumption; assumption; apply Device.ite_sound
    apply Device.dbgEnd_sound; assumption; apply Device.dbgEnd_sound; apply Device.modCore_sound; assumption; intro _; intro _
    apply Core.dbgSet_sound; assumption

theorem Device.dbgPrivSpace_sound {d : Device} {c a : Nat} {write : Bool} :
    d.Sound → (Device.dbgPrivSpace d c a write).Sound := by
  intro h0
  unfold Device.dbgPrivSpace
  refine Device.ite_sound (Device.dbgEnd_sound h0) ?_
  split
  · exact Device.dbgEnd_sound h0
  · refine Device.ite_sound (Device.dbgRead_sound (Device.ite_sound (Device.bump16_sound h0 _ _ _) h0)) ?_
    split
    · exact Device.dbgEnd_sound h0
    · exact Device.dbgEnd_sound (Device.setCore_sound h0 c (Core.dbgPrivSet_sound (Device.core_sound h0 c) ‹_›))

theorem Device.dbgPhysSpace_sound {d : Device} {a : Nat} {write : Bool} :
    d.Sound → (Device.dbgPhysSpace d a write).Sound := by
  intro h0; unfold Device.dbgPhysSpace
  with_reducible
    apply Device.ite_sound; apply Device.dbgEnd_sound; assumption; apply Device.ite_sound; apply Device.dbgEnd_sound
    apply Device.physWrite_sound; assumption; apply Device.dbgRead_sound; apply Device.physRead_sound; assumption

theorem Device.debugAccess_sound {d : Device} :
    d.Sound → (Device.debugAccess d).Sound := by
  intro h0; unfold Device.debugAccess
  with_reducible
    apply Device.ite_sound; apply Device.dbgEnd_sound; assumption; split; apply Device.dbgRegSpace_sound; apply Device.exitIdle_sound
    assumption; apply Device.dbgPrivSpace_sound; apply Device.exitIdle_sound; assumption; apply Device.dbgPhysSpace_sound; assumption
    apply Device.dbgEnd_sound; assumption

theorem Device.stepBegin_sound {d : Device} {c : Nat} :
    d.Sound → (Device.stepBegin d c).Sound := by
  intro h0; unfold Device.stepBegin
  with_reducible
    apply Device.modCore_sound; apply Device.setFlag_sound; apply Device.exitIdle_sound; assumption; intro _; intro _
    apply Core.Sound.upd; assumption

theorem Device.stepEnd_sound {d : Device} {c w pc : Nat} :
    d.Sound → (Device.stepEnd d c w pc).Sound := by
  intro h0; unfold Device.stepEnd
  with_reducible
    apply Device.ite_sound; apply Device.modCore_sound; assumption; intro _; intro _; apply Core.Sound.upd; assumption
    apply Device.dbgEnd_sound; apply Device.modCore_sound; assumption; intro _; intro _; apply Core.Sound.upd; assumption

theorem Device.stepNothing_sound {d : Device} {c : Nat} :
    d.Sound → (Device.stepNothing d c).Sound := by
  intro h0; unfold Device.stepNothing
  with_reducible
    apply Device.ite_sound; apply Device.setFlag_sound; assumption; apply Device.stepEnd_sound; apply Device.illegalOp_sound
    apply Device.stepBegin_sound; assumption

theorem Device.jtag_sound {d : Device} {i : JtagInstr} {out : List Bool} :
    d.Sound → (Device.jtag d i out).Sound := by
  intro h0; unfold Device.jtag
  with_reducible
    dsimp only; apply Device.Sound.upd; assumption

theorem Device.jtagIdcode_sound {d : Device} :
    d.Sound → (Device.jtagIdcode d).Sound := by
  intro h0; unfold Device.jtagIdcode
  with_reducible
    apply Device.jtag_sound; assumption

theorem Device.jtagBypass_sound {d : Device} :
    d.Sound → (Device.jtagBypass d).Sound := by
  intro h0; unfold Device.jtagBypass
  with_reducible
    apply Device.jtag_sound; assumption

theorem Device.jtagSample_sound {d : Device} {pins data : List Bool} :
    d.Sound → (Device.jtagSample d pins data).Sound := by
  intro h0; unfold Device.jtagSample
  with_reducible
    apply Device.ite_sound; dsimp only; apply Device.Sound.upd; apply Device.jtag_sound; assumption; apply Device.jtagBypass_sound
    assumption

theorem Device.jtagExtest_sound {d : Device} {pins data : List Bool} :
    d.Sound → (Device.jtagExtest d pins data).Sound := by
  intro h0; unfold Device.jtagExtest
  with_reducible
    apply Device.ite_sound; dsimp only; apply Device.Sound.upd; apply Device.jtag_sound; assumption; apply Device.jtagBypass_sound
    assumption

theorem Device.dbgPortLoad_sound {d : Device} {ctl : Word} {addr data : Nat} :
    d.Sound → (Device.dbgPortLoad d ctl addr data).Sound := by
  intro h0; unfold Device.dbgPortLoad
  with_reducible
    apply Device.setReg_sound; apply Device.setReg_sound; apply Device.setReg_sound; apply Device.setReg_sound
    apply Device.setReg_sound; assumption

end Machine
end Sys2Proof
end

