-- ==== Sys2Proof/Laws/SoundPower.lean ====
section
/-!
SUPPORT. Soundness is kept by the operations of Machine/Power.lean.
-/
namespace Sys2Proof
namespace Machine

theorem Device.powerDown_sound {d : Device} {cause : Nat} :
    d.Sound → (Device.powerDown d cause).Sound := by
  intro h0; unfold Device.powerDown
  with_reducible
    apply Device.ite_sound; assumption; dsimp only; apply Device.Sound.upd; apply Device.surpriseRemoval_sound; assumption

theorem Device.pwrEnRise_sound {d : Device} :
    d.Sound → (Device.pwrEnRise d).Sound := by
  intro h0; unfold Device.pwrEnRise
  with_reducible
    dsimp only; apply Device.Sound.upd; assumption

theorem Device.pwrEnFall_sound {d : Device} :
    d.Sound → (Device.pwrEnFall d).Sound := by
  intro h0; unfold Device.pwrEnFall
  with_reducible
    dsimp only; apply Device.Sound.upd; apply Device.powerDown_sound; assumption

theorem Device.inputExcursion_sound {d : Device} :
    d.Sound → (Device.inputExcursion d).Sound := by
  intro h0; unfold Device.inputExcursion
  with_reducible
    apply Device.ite_sound; apply Device.fire_sound; apply Device.bump_sound; assumption; assumption

theorem Device.inputLost_sound {d : Device} :
    d.Sound → (Device.inputLost d).Sound := by
  intro h0; unfold Device.inputLost
  with_reducible
    dsimp only; apply Device.Sound.upd; apply Device.powerDown_sound; assumption

theorem Device.inputOver_sound {d : Device} :
    d.Sound → (Device.inputOver d).Sound := by
  intro h0; unfold Device.inputOver
  with_reducible
    dsimp only; apply Device.Sound.upd; apply Device.inputLost_sound; assumption

theorem Device.inputCurrent_sound {d : Device} :
    d.Sound → (Device.inputCurrent d).Sound := by
  intro h0; unfold Device.inputCurrent
  with_reducible
    dsimp only; apply Device.Sound.upd; apply Device.powerDown_sound; assumption

theorem Device.inputRestored_sound {d : Device} :
    d.Sound → (Device.inputRestored d).Sound := by
  intro h0; unfold Device.inputRestored
  with_reducible
    dsimp only; apply Device.Sound.upd; assumption

theorem Device.railFault_sound {d : Device} {rail : Nat} :
    d.Sound → (Device.railFault d rail).Sound := by
  intro h0; unfold Device.railFault
  with_reducible
    apply Device.ite_sound; assumption; dsimp only; apply Device.Sound.upd; apply Device.powerDown_sound; assumption

theorem Device.perstAssert_sound {d : Device} :
    d.Sound → (Device.perstAssert d).Sound := by
  intro h0; unfold Device.perstAssert
  with_reducible
    apply Device.ite_sound; assumption; apply Device.ite_sound; apply Device.askWarm_sound; dsimp only; apply Device.Sound.upd
    assumption; dsimp only; apply Device.Sound.upd; assumption

theorem Device.perstRelease_sound {d : Device} :
    d.Sound → (Device.perstRelease d).Sound := by
  intro h0; unfold Device.perstRelease
  with_reducible
    dsimp only; apply Device.Sound.upd; assumption

theorem Device.cfgWarm_sound {d : Device} {v : Nat} :
    d.Sound → (Device.cfgWarm d v).Sound := by
  intro h0; unfold Device.cfgWarm
  with_reducible
    apply Device.ite_sound; apply Device.askWarm_sound; assumption; assumption

theorem Device.setLevel_sound {d : Device} {n : Nat} :
    d.Sound → (Device.setLevel d n).Sound := by
  intro h0; unfold Device.setLevel
  with_reducible
    apply Device.ite_sound; apply Device.showPower_sound; apply Device.setFld_sound; apply Device.setFld_sound; assumption
    apply Device.fire_sound; apply Device.showPower_sound; apply Device.setFld_sound; apply Device.setFld_sound; assumption

theorem Device.powerSample_sound {d : Device} {mv ca watts : Nat} :
    d.Sound → (Device.powerSample d mv ca watts).Sound := by
  intro h0; unfold Device.powerSample
  with_reducible
    apply Device.ite_sound; dsimp only; apply Device.Sound.upd; assumption; apply Device.setFld_sound; apply Device.setFld_sound
    apply Device.setFld_sound; apply Device.setFld_sound; split; dsimp only; apply Device.Sound.upd; assumption; dsimp only
    apply Device.Sound.upd; assumption

theorem Device.watchOver_sound {d : Device} :
    d.Sound → (Device.watchOver d).Sound := by
  intro h0; unfold Device.watchOver
  with_reducible
    apply Device.ite_sound; dsimp only; apply Device.Sound.upd; assumption; apply Device.ite_sound; dsimp only; apply Device.Sound.upd
    assumption; apply Device.fire_sound; apply Device.setFlag_sound; dsimp only; apply Device.Sound.upd; assumption

theorem Device.governor_sound {d : Device} :
    d.Sound → (Device.governor d).Sound := by
  intro h0; unfold Device.governor
  with_reducible
    apply Device.watchOver_sound; apply Device.ite_sound; apply Device.setLevel_sound; dsimp only; apply Device.Sound.upd; assumption
    apply Device.ite_sound; apply Device.setLevel_sound; dsimp only; apply Device.Sound.upd; assumption; dsimp only
    apply Device.Sound.upd; assumption

theorem Device.putTemp_sound {d : Device} {n : Nat} {t : Int} :
    d.Sound → (Device.putTemp d n t).Sound := by
  intro h0; unfold Device.putTemp
  with_reducible
    apply Device.ite_sound; apply Device.setReg_sound; assumption; apply Device.setReg_sound; assumption

theorem Device.noteCrossing_sound {d : Device} {n : Nat} :
    d.Sound → (Device.noteCrossing d n).Sound := by
  intro h0; unfold Device.noteCrossing
  with_reducible
    apply Device.ite_sound; dsimp only; apply Device.Sound.upd; assumption; apply Device.foldl_sound; intro _; intro _; intro _
    apply Device.fire_sound; assumption; dsimp only; apply Device.Sound.upd; assumption

theorem Device.showTherm_sound {d : Device} :
    d.Sound → (Device.showTherm d).Sound := by
  intro h0; unfold Device.showTherm
  with_reducible
    dsimp only; split; apply Device.setFld_sound; apply Device.setFld_sound; apply Device.setFlag_sound; assumption
    apply Device.setFld_sound; apply Device.setFld_sound; apply Device.setFlag_sound; assumption

theorem Device.setHold_sound {d : Device} {b : Bool} :
    d.Sound → (Device.setHold d b).Sound := by
  intro h0; unfold Device.setHold
  with_reducible
    apply Device.setFlag_sound; apply Device.setFlag_sound; assumption

theorem Device.thermalSample_sound {d : Device} {temps : List Int} :
    d.Sound → (Device.thermalSample d temps).Sound := by
  fun_cases Device.thermalSample d temps <;> intro h0
  with_reducible
    dsimp only; apply Device.Sound.upd; apply Device.bump_sound; apply Device.setHold_sound; apply Device.Sound.upd
    apply Device.showTherm_sound; apply Device.foldl_sound; intro _; intro _; intro _; apply Device.noteCrossing_sound; assumption
    apply Device.foldl_sound; intro _; intro _; intro _; apply Device.putTemp_sound; assumption; apply Device.Sound.upd; assumption
    apply Device.Sound.upd; apply Device.showTherm_sound; apply Device.foldl_sound; intro _; intro _; intro _
    apply Device.noteCrossing_sound; assumption; apply Device.foldl_sound; intro _; intro _; intro _; apply Device.putTemp_sound
    assumption; apply Device.Sound.upd; assumption

theorem Device.holdStep_sound {d : Device} :
    d.Sound → (Device.holdStep d).Sound := by
  intro h0; unfold Device.holdStep
  with_reducible
    apply Device.ite_sound; assumption; apply Device.ite_sound; apply Device.setLevel_sound; dsimp only; apply Device.Sound.upd
    assumption; split; apply Device.ite_sound; apply Device.setHold_sound; dsimp only; apply Device.Sound.upd; assumption; dsimp only
    apply Device.Sound.upd; assumption; dsimp only; apply Device.Sound.upd; assumption

theorem Device.thermalShutdown_sound {d : Device} :
    d.Sound → (Device.thermalShutdown d).Sound := by
  intro h0; unfold Device.thermalShutdown
  with_reducible
    split; assumption; apply Device.ite_sound; assumption; dsimp only; apply Device.Sound.upd; apply Device.powerDown_sound
    apply Device.Sound.upd; assumption

theorem Device.thermalRestart_sound {d : Device} {temp : Int} :
    d.Sound → (Device.thermalRestart d temp).Sound := by
  intro h0; unfold Device.thermalRestart
  with_reducible
    split; assumption; apply Device.ite_sound; assumption; dsimp only; apply Device.Sound.upd; assumption

end Machine
end Sys2Proof
end

