-- ==== Sys2Proof/Laws/SoundHostRegs.lean ====
section
/-!
SUPPORT. Soundness is kept by the operations of Machine/HostRegs.lean.
-/
namespace Sys2Proof
namespace Machine

theorem Device.denied_sound {d : Device} {fn : Nat} :
    d.Sound → (Device.denied d fn).Sound := by
  intro h0; unfold Device.denied
  with_reducible
    apply Device.ite_sound; assumption; apply Device.bump_sound; assumption

theorem Device.plainWrite_sound {d : Device} {key v : Nat} :
    d.Sound → (Device.plainWrite d key v).Sound := by
  intro h0; unfold Device.plainWrite
  with_reducible
    apply Device.ite_sound; dsimp only; apply Device.Sound.upd; apply Device.setReg_sound; assumption; apply Device.setReg_sound
    assumption

theorem Device.onBit_sound {d : Device} {v i : Nat} {f : Device → Device} :
    d.Sound → (∀ (x0 : Device), x0.Sound → (f x0).Sound) → (Device.onBit d v i f).Sound := by
  intro h0 h1; unfold Device.onBit
  with_reducible
    apply Device.ite_sound; apply h1; assumption; assumption

theorem Device.coreAction_sound {d : Device} {c o v : Nat} :
    d.Sound → (Device.coreAction d c o v).Sound := by
  intro h0; unfold Device.coreAction
  with_reducible
    apply Device.ite_sound; apply Device.onBit_sound; apply Device.onBit_sound; apply Device.onBit_sound; apply Device.onBit_sound
    assumption; intro _; intro _; apply Device.ctlSwitch_sound; assumption; intro _; intro _; apply Device.ctlResume_sound; assumption
    intro _; intro _; apply Device.ctlStart_sound; assumption; intro _; intro _; apply Device.ctlHalt_sound; assumption
    apply Device.ite_sound; apply Device.pdirtyWrite_sound; assumption; apply Device.ite_sound; apply Device.modCore_sound; assumption
    intro _; intro _; apply Core.setSem_sound; assumption; apply Device.ite_sound; apply Device.pstageWrite_sound; assumption
    apply Device.ite_sound; apply Device.onBit_sound; assumption; intro _; intro _; apply Device.stallClear_sound; assumption
    assumption

theorem Device.stkAction_sound {d : Device} {p o v : Nat} :
    d.Sound → (Device.stkAction d p o v).Sound := by
  intro h0; unfold Device.stkAction
  with_reducible
    apply Device.ite_sound; apply Device.onBit_sound; apply Device.onBit_sound; apply Device.onBit_sound; assumption; intro _; intro _
    apply Device.stkStop_sound; assumption; intro _; intro _; apply Device.stkArm_sound; assumption; intro _; intro _
    apply Device.stkCommit_sound; assumption; apply Device.ite_sound; apply Device.stkStartWrite_sound; assumption; assumption

theorem Device.redAction_sound {d : Device} {p o v : Nat} :
    d.Sound → (Device.redAction d p o v).Sound := by
  intro h0; unfold Device.redAction
  with_reducible
    apply Device.ite_sound; apply Device.onBit_sound; assumption; intro _; intro _; apply Device.redSettleCmd_sound; assumption
    apply Device.ite_sound; apply Device.onBit_sound; apply Device.onBit_sound; assumption; intro _; intro _
    apply Device.redCommand_sound; assumption; intro _; intro _; apply Device.windowOpen_sound; assumption; intro _; intro _
    apply Device.redCommand_sound; assumption; intro _; intro _; apply Device.windowClose_sound; assumption; assumption

theorem Device.timAction_sound {d : Device} {key v : Nat} :
    d.Sound → (Device.timAction d key v).Sound := by
  intro h0; unfold Device.timAction
  with_reducible
    apply Device.ite_sound; apply Device.onBit_sound; apply Device.timSrcWrite_sound; assumption; intro _; intro _
    apply Device.timStep_sound; assumption; apply Device.ite_sound; apply Device.timPtpCfgWrite_sound; assumption; assumption

theorem Device.aqAction_sound {d : Device} {key v : Nat} :
    d.Sound → (Device.aqAction d key v).Sound := by
  intro h0; unfold Device.aqAction
  with_reducible
    apply Device.ite_sound; apply Device.foldl_sound; intro _; intro _; intro _; apply Device.ite_sound; assumption
    apply Device.ite_sound; apply Device.aqPenEnable_sound; assumption; apply Device.aqPenDisable_sound; assumption; assumption
    apply Device.ite_sound; apply Device.onBit_sound; apply Device.ite_sound; apply Device.ite_sound; assumption
    apply Device.portIface_sound; assumption; apply Device.ite_sound; apply Device.portReadmit_sound; apply Device.ite_sound; assumption
    apply Device.portIface_sound; assumption; apply Device.portRemove_sound; apply Device.ite_sound; assumption
    apply Device.portIface_sound; assumption; intro _; intro _; apply Device.portRecal_sound; assumption; assumption

theorem Device.evtAction_sound {d : Device} {fn key v : Nat} :
    d.Sound → (Device.evtAction d fn key v).Sound := by
  intro h0; unfold Device.evtAction
  with_reducible
    apply Device.ite_sound; apply Device.evtEnable_sound; assumption; apply Device.ite_sound; apply Device.evtRaise_sound; assumption
    apply Device.ite_sound; apply Device.evtDone_sound; assumption; apply Device.ite_sound; apply Device.fnWindow_sound; assumption
    assumption

theorem Device.secAction_sound {d : Device} {key v : Nat} :
    d.Sound → (Device.secAction d key v).Sound := by
  intro h0; unfold Device.secAction
  with_reducible
    apply Device.ite_sound; apply Device.onBit_sound; assumption; intro _; intro _; apply Device.debugAccess_sound; assumption
    apply Device.ite_sound; apply Device.ite_sound; apply Device.traceEnable_sound; assumption; apply Device.setFlag_sound; assumption
    apply Device.ite_sound; apply Device.cfgWarm_sound; assumption; assumption

theorem Device.znAction_sound {d : Device} {fn key v : Nat} :
    d.Sound → (Device.znAction d fn key v).Sound := by
  intro h0; unfold Device.znAction
  with_reducible
    apply Device.ite_sound; apply Device.ite_sound; apply Device.ctlEnable_sound; assumption; apply Device.ctlDisable_sound; assumption
    apply Device.ite_sound; apply Device.ite_sound; apply Device.faultRingEnable_sound; assumption; apply Device.setFlag_sound
    assumption; assumption

theorem Device.updAction_sound {d : Device} {p o v : Nat} :
    d.Sound → (Device.updAction d p o v).Sound := by
  intro h0; unfold Device.updAction
  with_reducible
    apply Device.ite_sound; apply Device.ite_sound; apply Device.updEnable_sound; assumption; apply Device.updDisable_sound; assumption
    assumption

theorem Device.regAction_sound {d : Device} {fn key v : Nat} :
    d.Sound → (Device.regAction d fn key v).Sound := by
  intro h0; unfold Device.regAction
  with_reducible
    apply Device.ite_sound; apply Device.coreAction_sound; assumption; apply Device.ite_sound; apply Device.stkAction_sound; assumption
    apply Device.ite_sound; apply Device.redAction_sound; assumption; apply Device.ite_sound; apply Device.updAction_sound; assumption
    apply Device.ite_sound; apply Device.timAction_sound; assumption; apply Device.ite_sound; apply Device.aqAction_sound; assumption
    apply Device.ite_sound; apply Device.evtAction_sound; assumption; apply Device.ite_sound; apply Device.znAction_sound; assumption
    apply Device.secAction_sound; assumption

theorem Device.regWrite_sound {d : Device} {fn key v : Nat} :
    d.Sound → (Device.regWrite d fn key v).Sound := by
  intro h0; unfold Device.regWrite
  with_reducible
    split; apply Device.denied_sound; assumption; apply Device.regAction_sound; apply Device.plainWrite_sound; assumption

end Machine
end Sys2Proof
end

