-- ==== Sys2Proof/Laws/SoundHostPort.lean ====
section
/-!
SUPPORT. Soundness is kept by the operations of Machine/HostPort.lean.
-/
namespace Sys2Proof
namespace Machine

theorem Device.bar4Xlate_sound {d : Device} {fn : Nat} {acc : Access} {a : Nat} :
    d.Sound → (Device.bar4Xlate d fn acc a).1.Sound := by
  intro h0; unfold Device.bar4Xlate
  with_reducible
    apply Device.ite_fst_sound; assumption; split; assumption; apply Device.translate_sound; assumption

theorem Device.bar4Pieces_sound {d : Device} {fn : Nat} {acc : Access} {y0 : List (Nat × Nat)} :
    d.Sound → (Device.bar4Pieces d fn acc y0).1.Sound := by
  fun_induction Device.bar4Pieces d fn acc y0 <;> intro h0
  with_reducible
    assumption; refine Device.fst_eq ‹_ = (_, _)› ?_; apply Device.bar4Xlate_sound; assumption; refine Device.fst_eq ‹_ = (_, _)› ?_
    apply_assumption -exfalso -symm; refine Device.fst_eq ‹_ = (_, _)› ?_; apply Device.bar4Xlate_sound; assumption
    refine Device.fst_eq ‹_ = (_, _)› ?_; apply_assumption -exfalso -symm; refine Device.fst_eq ‹_ = (_, _)› ?_
    apply Device.bar4Xlate_sound; assumption

theorem Device.bar4Record_sound {d : Device} {fn st a : Nat} :
    d.Sound → (Device.bar4Record d fn st a).Sound := by
  intro h0; unfold Device.bar4Record
  with_reducible
    apply Device.raisePart_sound; assumption

theorem Device.bar4Fail_sound {d : Device} {fn st a : Nat} :
    d.Sound → (Device.bar4Fail d fn st a).Sound := by
  intro h0; unfold Device.bar4Fail
  with_reducible
    apply Device.bump_sound; apply Device.bar4Record_sound; assumption

theorem Device.bar4Fetch_sound {d : Device} {y0 : List (Nat × Nat)} :
    d.Sound → (Device.bar4Fetch d y0).1.Sound := by
  fun_induction Device.bar4Fetch d y0 <;> intro h0
  with_reducible
    assumption; apply_assumption -exfalso -symm; apply Device.physRead_sound; assumption

theorem Device.bar4Store_sound {d : Device} {y0 : List (Nat × Nat)} {y1 : List Byte} :
    d.Sound → (Device.bar4Store d y0 y1).Sound := by
  fun_induction Device.bar4Store d y0 y1 <;> intro h0
  with_reducible
    assumption; apply_assumption -exfalso -symm; apply Device.physWrite_sound; assumption

theorem Device.bar4Answer_sound {d : Device} {bs : List Byte} :
    d.Sound → (Device.bar4Answer d bs).Sound := by
  intro h0; unfold Device.bar4Answer
  with_reducible
    dsimp only; apply Device.Sound.upd; assumption

theorem Device.bar4Bad_sound {d : Device} {fn off n : Nat} :
    d.Sound → (Device.bar4Bad d fn off n).Sound := by
  intro h0; unfold Device.bar4Bad
  with_reducible
    apply Device.bar4Answer_sound; apply Device.bar4Record_sound; apply Device.useFree_sound; assumption

theorem Device.bar4Read_sound {d : Device} {fn off n : Nat} :
    d.Sound → (Device.bar4Read d fn off n).Sound := by
  intro h0; unfold Device.bar4Read
  with_reducible
    apply Device.ite_sound; assumption; split; apply Device.bar4Answer_sound; apply Device.bar4Fail_sound
    refine Device.fst_eq ‹_ = (_, _)› ?_; apply Device.bar4Pieces_sound; assumption; apply Device.ite_sound; apply Device.bar4Bad_sound
    apply Device.bar4Fetch_sound; refine Device.fst_eq ‹_ = (_, _)› ?_; apply Device.bar4Pieces_sound; assumption
    apply Device.bar4Answer_sound; apply Device.bar4Fetch_sound; refine Device.fst_eq ‹_ = (_, _)› ?_; apply Device.bar4Pieces_sound
    assumption

theorem Device.bar4Write_sound {d : Device} {fn off : Nat} {bs : List Byte} :
    d.Sound → (Device.bar4Write d fn off bs).Sound := by
  intro h0; unfold Device.bar4Write
  with_reducible
    apply Device.ite_sound; assumption; split; apply Device.bar4Fail_sound; refine Device.fst_eq ‹_ = (_, _)› ?_
    apply Device.bar4Pieces_sound; assumption; apply Device.bar4Store_sound; refine Device.fst_eq ‹_ = (_, _)› ?_
    apply Device.bar4Pieces_sound; assumption

theorem Device.cfgSet_sound {d : Device} {fn field v : Nat} :
    d.Sound → (Device.cfgSet d fn field v).Sound := by
  intro h0; unfold Device.cfgSet
  with_reducible
    split; dsimp only; apply Device.Sound.upd; assumption; dsimp only; apply Device.Sound.upd; assumption; dsimp only
    apply Device.Sound.upd; assumption; apply Device.ite_sound; dsimp only; apply Device.Sound.upd; assumption; assumption
    apply Device.ite_sound; dsimp only; apply Device.Sound.upd; assumption; assumption; assumption

theorem Device.cfgRequest_sound {d : Device} {fn field v : Nat} :
    d.Sound → (Device.cfgRequest d fn field v).Sound := by
  intro h0; unfold Device.cfgRequest
  with_reducible
    apply Device.ite_sound; dsimp only; apply Device.Sound.upd; assumption; dsimp only; apply Device.Sound.upd
    apply Device.cfgSet_sound; assumption

theorem Device.mctpAnswer_sound {d : Device} {kind : Nat} {req : List Byte} :
    d.Sound → (Device.mctpAnswer d kind req).Sound := by
  intro h0; unfold Device.mctpAnswer
  with_reducible
    dsimp only; apply Device.Sound.upd; assumption

theorem Device.mctpControl_sound {d : Device} {setEid : Option Nat} {req : List Byte} :
    d.Sound → (Device.mctpControl d setEid req).Sound := by
  intro h0; unfold Device.mctpControl
  with_reducible
    apply Device.ite_sound; assumption; apply Device.mctpAnswer_sound; split; dsimp only; apply Device.Sound.upd; assumption; assumption

theorem Device.pldmBase_sound {d : Device} {req : List Byte} :
    d.Sound → (Device.pldmBase d req).Sound := by
  intro h0; unfold Device.pldmBase
  with_reducible
    apply Device.ite_sound; apply Device.mctpAnswer_sound; assumption; assumption

theorem Device.pldmSensor_sound {d : Device} {req : List Byte} :
    d.Sound → (Device.pldmSensor d req).Sound := by
  intro h0; unfold Device.pldmSensor
  with_reducible
    apply Device.ite_sound; apply Device.mctpAnswer_sound; assumption; assumption

theorem Device.pldmPut_sound {d : Device} {s i : Nat} {b : List Byte} :
    d.Sound → (Device.pldmPut d s i b).Sound := by
  intro h0; unfold Device.pldmPut
  with_reducible
    apply Device.ite_sound; apply Device.storeSlots_sound; dsimp only; apply Device.Sound.upd; assumption; dsimp only
    apply Device.Sound.upd; assumption

theorem Device.pldmImage_sound {d : Device} {s i : Nat} {b : List Byte} :
    d.Sound → (Device.pldmImage d s i b).Sound := by
  intro h0; unfold Device.pldmImage
  with_reducible
    apply Device.ite_sound; assumption; apply Device.pldmPut_sound; apply Device.storeSlots_sound; assumption

theorem Device.pldmRecover_sound {d : Device} {s : Nat} {b : List Byte} :
    d.Sound → (Device.pldmRecover d s b).Sound := by
  intro h0; unfold Device.pldmRecover
  with_reducible
    apply Device.ite_sound; assumption; apply Device.ite_sound; apply Device.askWarm_sound; apply Device.pldmImage_sound; assumption
    apply Device.pldmImage_sound; assumption

theorem Device.pldmActivate_sound {d : Device} {s : Nat} :
    d.Sound → (Device.pldmActivate d s).Sound := by
  intro h0; unfold Device.pldmActivate
  with_reducible
    apply Device.ite_sound; assumption; apply Device.activateStart_sound; assumption

theorem Device.pldmUpdate_sound {d : Device} {s : Nat} {activate : Bool} {b : List Byte} :
    d.Sound → (Device.pldmUpdate d s activate b).Sound := by
  intro h0; unfold Device.pldmUpdate
  with_reducible
    apply Device.ite_sound; assumption; apply Device.ite_sound; apply Device.ite_sound; apply Device.mctpAnswer_sound; assumption
    apply Device.pldmRecover_sound; apply Device.mctpAnswer_sound; assumption; apply Device.ite_sound; apply Device.pldmActivate_sound
    apply Device.mctpAnswer_sound; assumption; apply Device.fire_sound; apply Device.pldmImage_sound; apply Device.mctpAnswer_sound
    assumption

theorem Device.mctpZennus_sound {d : Device} {pkt : List Byte} :
    d.Sound → (Device.mctpZennus d pkt).Sound := by
  intro h0; unfold Device.mctpZennus
  with_reducible
    apply Device.ite_sound; apply Device.znPump_sound; apply Device.receive_sound; assumption; assumption

end Machine
end Sys2Proof
end

