-- ==== Sys2Proof/Laws/SoundRows.lean ====
section
/-!
SUPPORT. Each command keeps soundness where it answers a next state: one lemma per meaning.
-/
namespace Sys2Proof
namespace Machine

theorem execSlotFailure_sound {core : CoreId} {readable : Bool} {s : State} {t : State} (h : s.dev.Sound)
    (e : execSlotFailure core readable s = .next t) : t.dev.Sound := by
  refine State.onDev_sound ?_ e; exact Device.slotFailure_sound h

theorem execLinkCheckFail_sound {link : Fin 10} {s : State} {t : State} (h : s.dev.Sound)
    (e : execLinkCheckFail link s = .next t) : t.dev.Sound := by
  refine State.onDev_sound ?_ e; exact Device.linkRetry_sound h

theorem execMxMm_sound {core : CoreId} {s : State} {t : State} (h : s.dev.Sound) (e : execMxMm core s = .next t) : t.dev.Sound := by
  refine State.onDev_sound ?_ e; exact Device.mxMm_sound h

theorem execMxEarlyStart_sound {core : CoreId} {s : State} {t : State} (h : s.dev.Sound)
    (e : execMxEarlyStart core s = .next t) : t.dev.Sound := by
  refine State.onDev_sound ?_ e; exact Device.earlyStart_sound h

theorem execMxGangRelease_sound {s : State} {t : State} (h : s.dev.Sound) (e : execMxGangRelease s = .next t) : t.dev.Sound := by
  refine State.onDev_sound ?_ e; exact Device.gangRelease_sound h

theorem execMxWsum_sound {core : CoreId} {s : State} {t : State} (h : s.dev.Sound) (e : execMxWsum core s = .next t) : t.dev.Sound := by
  refine State.onDev_sound ?_ e; exact Device.mxWsum_sound h

theorem execMxWfin_sound {core : CoreId} {s : State} {t : State} (h : s.dev.Sound) (e : execMxWfin core s = .next t) : t.dev.Sound := by
  refine State.onDev_sound ?_ e; exact Device.mxWfin_sound h

theorem execSpMv_sound {core : CoreId} {s : State} {t : State} (h : s.dev.Sound) (e : execSpMv core s = .next t) : t.dev.Sound := by
  refine State.onDev_sound ?_ e; exact Device.spMv_sound h

theorem execSpGangRelease_sound {s : State} {t : State} (h : s.dev.Sound) (e : execSpGangRelease s = .next t) : t.dev.Sound := by
  refine State.onDev_sound ?_ e; exact Device.gangRelease_sound h

theorem execSiphonTakeCommand_sound {core : CoreId} {s : State} {t : State} (h : s.dev.Sound)
    (e : execSiphonTakeCommand core s = .next t) : t.dev.Sound := by
  refine State.onDev_sound ?_ e; exact Device.siphonTake_sound h

theorem execSiphonEarlyStart_sound {core : CoreId} {s : State} {t : State} (h : s.dev.Sound)
    (e : execSiphonEarlyStart core s = .next t) : t.dev.Sound := by
  refine State.onDev_sound ?_ e; exact Device.earlyStart_sound h

theorem execEngineCommandRetire_sound {core : CoreId} {queue : Fin 6} {s : State} {t : State} (h : s.dev.Sound)
    (e : execEngineCommandRetire core queue s = .next t) : t.dev.Sound := by
  refine State.onDev_sound ?_ e; exact Device.engineRetire_sound h

theorem execGateRelease_sound {core : CoreId} {sem : Fin 64} {s : State} {t : State} (h : s.dev.Sound)
    (e : execGateRelease core sem s = .next t) : t.dev.Sound := by
  refine State.onDev_sound ?_ e; exact Device.gateRelease_sound h

theorem execVxSetvl_sound {core : CoreId} {s : State} {t : State} (h : s.dev.Sound) (e : execVxSetvl core s = .next t) : t.dev.Sound := by
  refine State.onDev_sound ?_ e; exact Device.vxSetvl_sound h

theorem execVxLd_sound {core : CoreId} {s : State} {t : State} (h : s.dev.Sound) (e : execVxLd core s = .next t) : t.dev.Sound := by
  refine State.onDev_sound ?_ e; exact Device.vxLd_sound h

theorem execVxSt_sound {core : CoreId} {s : State} {t : State} (h : s.dev.Sound) (e : execVxSt core s = .next t) : t.dev.Sound := by
  refine State.onDev_sound ?_ e; exact Device.vxSt_sound h

theorem execVxLdcvt_sound {core : CoreId} {s : State} {t : State} (h : s.dev.Sound) (e : execVxLdcvt core s = .next t) : t.dev.Sound := by
  refine State.onDev_sound ?_ e; exact Device.vxLdcvt_sound h

theorem execVxStcvt_sound {core : CoreId} {s : State} {t : State} (h : s.dev.Sound) (e : execVxStcvt core s = .next t) : t.dev.Sound := by
  refine State.onDev_sound ?_ e; exact Device.vxStcvt_sound h

theorem execVxLdm_sound {core : CoreId} {s : State} {t : State} (h : s.dev.Sound) (e : execVxLdm core s = .next t) : t.dev.Sound := by
  refine State.onDev_sound ?_ e; exact Device.vxLdm_sound h

theorem execVxStm_sound {core : CoreId} {s : State} {t : State} (h : s.dev.Sound) (e : execVxStm core s = .next t) : t.dev.Sound := by
  refine State.onDev_sound ?_ e; exact Device.vxStm_sound h

theorem execVxAdd_sound {core : CoreId} {s : State} {t : State} (h : s.dev.Sound) (e : execVxAdd core s = .next t) : t.dev.Sound := by
  refine State.onDev_sound ?_ e; exact Device.vxFloat_sound h

theorem execVxSub_sound {core : CoreId} {s : State} {t : State} (h : s.dev.Sound) (e : execVxSub core s = .next t) : t.dev.Sound := by
  refine State.onDev_sound ?_ e; exact Device.vxFloat_sound h

theorem execVxMul_sound {core : CoreId} {s : State} {t : State} (h : s.dev.Sound) (e : execVxMul core s = .next t) : t.dev.Sound := by
  refine State.onDev_sound ?_ e; exact Device.vxFloat_sound h

theorem execVxFma_sound {core : CoreId} {s : State} {t : State} (h : s.dev.Sound) (e : execVxFma core s = .next t) : t.dev.Sound := by
  refine State.onDev_sound ?_ e; exact Device.vxFloat_sound h

theorem execVxFms_sound {core : CoreId} {s : State} {t : State} (h : s.dev.Sound) (e : execVxFms core s = .next t) : t.dev.Sound := by
  refine State.onDev_sound ?_ e; exact Device.vxFloat_sound h

theorem execVxFnma_sound {core : CoreId} {s : State} {t : State} (h : s.dev.Sound) (e : execVxFnma core s = .next t) : t.dev.Sound := by
  refine State.onDev_sound ?_ e; exact Device.vxFloat_sound h

theorem execVxMin_sound {core : CoreId} {s : State} {t : State} (h : s.dev.Sound) (e : execVxMin core s = .next t) : t.dev.Sound := by
  refine State.onDev_sound ?_ e; exact Device.vxFloat_sound h

theorem execVxMax_sound {core : CoreId} {s : State} {t : State} (h : s.dev.Sound) (e : execVxMax core s = .next t) : t.dev.Sound := by
  refine State.onDev_sound ?_ e; exact Device.vxFloat_sound h

theorem execVxAbs_sound {core : CoreId} {s : State} {t : State} (h : s.dev.Sound) (e : execVxAbs core s = .next t) : t.dev.Sound := by
  refine State.onDev_sound ?_ e; exact Device.vxSign_sound h

theorem execVxNeg_sound {core : CoreId} {s : State} {t : State} (h : s.dev.Sound) (e : execVxNeg core s = .next t) : t.dev.Sound := by
  refine State.onDev_sound ?_ e; exact Device.vxSign_sound h

theorem execVxCopysign_sound {core : CoreId} {s : State} {t : State} (h : s.dev.Sound)
    (e : execVxCopysign core s = .next t) : t.dev.Sound := by
  refine State.onDev_sound ?_ e; exact Device.vxSign_sound h

theorem execVxIadd_sound {core : CoreId} {s : State} {t : State} (h : s.dev.Sound) (e : execVxIadd core s = .next t) : t.dev.Sound := by
  refine State.onDev_sound ?_ e; exact Device.vxInt_sound h

theorem execVxIsub_sound {core : CoreId} {s : State} {t : State} (h : s.dev.Sound) (e : execVxIsub core s = .next t) : t.dev.Sound := by
  refine State.onDev_sound ?_ e; exact Device.vxInt_sound h

theorem execVxImul_sound {core : CoreId} {s : State} {t : State} (h : s.dev.Sound) (e : execVxImul core s = .next t) : t.dev.Sound := by
  refine State.onDev_sound ?_ e; exact Device.vxInt_sound h

theorem execVxIadds_sound {core : CoreId} {s : State} {t : State} (h : s.dev.Sound) (e : execVxIadds core s = .next t) : t.dev.Sound := by
  refine State.onDev_sound ?_ e; exact Device.vxInt_sound h

theorem execVxIsubs_sound {core : CoreId} {s : State} {t : State} (h : s.dev.Sound) (e : execVxIsubs core s = .next t) : t.dev.Sound := by
  refine State.onDev_sound ?_ e; exact Device.vxInt_sound h

theorem execVxImin_sound {core : CoreId} {s : State} {t : State} (h : s.dev.Sound) (e : execVxImin core s = .next t) : t.dev.Sound := by
  refine State.onDev_sound ?_ e; exact Device.vxInt_sound h

theorem execVxImax_sound {core : CoreId} {s : State} {t : State} (h : s.dev.Sound) (e : execVxImax core s = .next t) : t.dev.Sound := by
  refine State.onDev_sound ?_ e; exact Device.vxInt_sound h

theorem execVxIabs_sound {core : CoreId} {s : State} {t : State} (h : s.dev.Sound) (e : execVxIabs core s = .next t) : t.dev.Sound := by
  refine State.onDev_sound ?_ e; exact Device.vxInt_sound h

theorem execVxAnd_sound {core : CoreId} {s : State} {t : State} (h : s.dev.Sound) (e : execVxAnd core s = .next t) : t.dev.Sound := by
  refine State.onDev_sound ?_ e; exact Device.vxInt_sound h

theorem execVxOr_sound {core : CoreId} {s : State} {t : State} (h : s.dev.Sound) (e : execVxOr core s = .next t) : t.dev.Sound := by
  refine State.onDev_sound ?_ e; exact Device.vxInt_sound h

theorem execVxXor_sound {core : CoreId} {s : State} {t : State} (h : s.dev.Sound) (e : execVxXor core s = .next t) : t.dev.Sound := by
  refine State.onDev_sound ?_ e; exact Device.vxInt_sound h

theorem execVxShl_sound {core : CoreId} {s : State} {t : State} (h : s.dev.Sound) (e : execVxShl core s = .next t) : t.dev.Sound := by
  refine State.onDev_sound ?_ e; exact Device.vxInt_sound h

theorem execVxShra_sound {core : CoreId} {s : State} {t : State} (h : s.dev.Sound) (e : execVxShra core s = .next t) : t.dev.Sound := by
  refine State.onDev_sound ?_ e; exact Device.vxInt_sound h

theorem execVxShrl_sound {core : CoreId} {s : State} {t : State} (h : s.dev.Sound) (e : execVxShrl core s = .next t) : t.dev.Sound := by
  refine State.onDev_sound ?_ e; exact Device.vxInt_sound h

theorem execVxIota_sound {core : CoreId} {s : State} {t : State} (h : s.dev.Sound) (e : execVxIota core s = .next t) : t.dev.Sound := by
  refine State.onDev_sound ?_ e; exact Device.vxIota_sound h

theorem execVxCmpEq_sound {core : CoreId} {s : State} {t : State} (h : s.dev.Sound) (e : execVxCmpEq core s = .next t) : t.dev.Sound := by
  refine State.onDev_sound ?_ e; exact Device.vxCmp_sound h

theorem execVxCmpNe_sound {core : CoreId} {s : State} {t : State} (h : s.dev.Sound) (e : execVxCmpNe core s = .next t) : t.dev.Sound := by
  refine State.onDev_sound ?_ e; exact Device.vxCmp_sound h

theorem execVxCmpLt_sound {core : CoreId} {s : State} {t : State} (h : s.dev.Sound) (e : execVxCmpLt core s = .next t) : t.dev.Sound := by
  refine State.onDev_sound ?_ e; exact Device.vxCmp_sound h

theorem execVxCmpLe_sound {core : CoreId} {s : State} {t : State} (h : s.dev.Sound) (e : execVxCmpLe core s = .next t) : t.dev.Sound := by
  refine State.onDev_sound ?_ e; exact Device.vxCmp_sound h

theorem execVxCmpGt_sound {core : CoreId} {s : State} {t : State} (h : s.dev.Sound) (e : execVxCmpGt core s = .next t) : t.dev.Sound := by
  refine State.onDev_sound ?_ e; exact Device.vxCmp_sound h

theorem execVxCmpGe_sound {core : CoreId} {s : State} {t : State} (h : s.dev.Sound) (e : execVxCmpGe core s = .next t) : t.dev.Sound := by
  refine State.onDev_sound ?_ e; exact Device.vxCmp_sound h

theorem execVxCmpUno_sound {core : CoreId} {s : State} {t : State} (h : s.dev.Sound) (e : execVxCmpUno core s = .next t) : t.dev.Sound := by
  refine State.onDev_sound ?_ e; exact Device.vxCmp_sound h

theorem execVxSel_sound {core : CoreId} {s : State} {t : State} (h : s.dev.Sound) (e : execVxSel core s = .next t) : t.dev.Sound := by
  refine State.onDev_sound ?_ e; exact Device.vxSel_sound h

theorem execVxCvt_sound {core : CoreId} {s : State} {t : State} (h : s.dev.Sound) (e : execVxCvt core s = .next t) : t.dev.Sound := by
  refine State.onDev_sound ?_ e; exact Device.vxCvt_sound h

theorem execVxRsum_sound {core : CoreId} {s : State} {t : State} (h : s.dev.Sound) (e : execVxRsum core s = .next t) : t.dev.Sound := by
  refine State.onDev_sound ?_ e; exact Device.vxReduce_sound h

theorem execVxRmax_sound {core : CoreId} {s : State} {t : State} (h : s.dev.Sound) (e : execVxRmax core s = .next t) : t.dev.Sound := by
  refine State.onDev_sound ?_ e; exact Device.vxReduce_sound h

theorem execVxRmin_sound {core : CoreId} {s : State} {t : State} (h : s.dev.Sound) (e : execVxRmin core s = .next t) : t.dev.Sound := by
  refine State.onDev_sound ?_ e; exact Device.vxReduce_sound h

theorem execVxMand_sound {core : CoreId} {s : State} {t : State} (h : s.dev.Sound) (e : execVxMand core s = .next t) : t.dev.Sound := by
  refine State.onDev_sound ?_ e; exact Device.vxMaskOp_sound h

theorem execVxMor_sound {core : CoreId} {s : State} {t : State} (h : s.dev.Sound) (e : execVxMor core s = .next t) : t.dev.Sound := by
  refine State.onDev_sound ?_ e; exact Device.vxMaskOp_sound h

theorem execVxMxor_sound {core : CoreId} {s : State} {t : State} (h : s.dev.Sound) (e : execVxMxor core s = .next t) : t.dev.Sound := by
  refine State.onDev_sound ?_ e; exact Device.vxMaskOp_sound h

theorem execVxMandn_sound {core : CoreId} {s : State} {t : State} (h : s.dev.Sound) (e : execVxMandn core s = .next t) : t.dev.Sound := by
  refine State.onDev_sound ?_ e; exact Device.vxMaskOp_sound h

theorem execVxMnot_sound {core : CoreId} {s : State} {t : State} (h : s.dev.Sound) (e : execVxMnot core s = .next t) : t.dev.Sound := by
  refine State.onDev_sound ?_ e; exact Device.vxMaskOp_sound h

theorem execVxMset_sound {core : CoreId} {s : State} {t : State} (h : s.dev.Sound) (e : execVxMset core s = .next t) : t.dev.Sound := by
  refine State.onDev_sound ?_ e; exact Device.vxMaskOp_sound h

theorem execVxMclr_sound {core : CoreId} {s : State} {t : State} (h : s.dev.Sound) (e : execVxMclr core s = .next t) : t.dev.Sound := by
  refine State.onDev_sound ?_ e; exact Device.vxMaskOp_sound h

theorem execVxMcnt_sound {core : CoreId} {s : State} {t : State} (h : s.dev.Sound) (e : execVxMcnt core s = .next t) : t.dev.Sound := by
  refine State.onDev_sound ?_ e; exact Device.vxMaskQuery_sound h

theorem execVxMfirst_sound {core : CoreId} {s : State} {t : State} (h : s.dev.Sound) (e : execVxMfirst core s = .next t) : t.dev.Sound := by
  refine State.onDev_sound ?_ e; exact Device.vxMaskQuery_sound h

theorem execVxMov_sound {core : CoreId} {s : State} {t : State} (h : s.dev.Sound) (e : execVxMov core s = .next t) : t.dev.Sound := by
  refine State.onDev_sound ?_ e; exact Device.vxMov_sound h

theorem execSfExp_sound {core : CoreId} {s : State} {t : State} (h : s.dev.Sound) (e : execSfExp core s = .next t) : t.dev.Sound := by
  refine State.onDev_sound ?_ e; exact Device.sfBuiltin_sound h

theorem execSfExp2_sound {core : CoreId} {s : State} {t : State} (h : s.dev.Sound) (e : execSfExp2 core s = .next t) : t.dev.Sound := by
  refine State.onDev_sound ?_ e; exact Device.sfBuiltin_sound h

theorem execSfLog_sound {core : CoreId} {s : State} {t : State} (h : s.dev.Sound) (e : execSfLog core s = .next t) : t.dev.Sound := by
  refine State.onDev_sound ?_ e; exact Device.sfBuiltin_sound h

theorem execSfLog2_sound {core : CoreId} {s : State} {t : State} (h : s.dev.Sound) (e : execSfLog2 core s = .next t) : t.dev.Sound := by
  refine State.onDev_sound ?_ e; exact Device.sfBuiltin_sound h

theorem execSfRecip_sound {core : CoreId} {s : State} {t : State} (h : s.dev.Sound) (e : execSfRecip core s = .next t) : t.dev.Sound := by
  refine State.onDev_sound ?_ e; exact Device.sfBuiltin_sound h

theorem execSfSqrt_sound {core : CoreId} {s : State} {t : State} (h : s.dev.Sound) (e : execSfSqrt core s = .next t) : t.dev.Sound := by
  refine State.onDev_sound ?_ e; exact Device.sfBuiltin_sound h

theorem execSfRsqrt_sound {core : CoreId} {s : State} {t : State} (h : s.dev.Sound) (e : execSfRsqrt core s = .next t) : t.dev.Sound := by
  refine State.onDev_sound ?_ e; exact Device.sfBuiltin_sound h

theorem execSfTanh_sound {core : CoreId} {s : State} {t : State} (h : s.dev.Sound) (e : execSfTanh core s = .next t) : t.dev.Sound := by
  refine State.onDev_sound ?_ e; exact Device.sfBuiltin_sound h

theorem execSfSigmoid_sound {core : CoreId} {s : State} {t : State} (h : s.dev.Sound) (e : execSfSigmoid core s = .next t) : t.dev.Sound := by
  refine State.onDev_sound ?_ e; exact Device.sfBuiltin_sound h

theorem execSfErf_sound {core : CoreId} {s : State} {t : State} (h : s.dev.Sound) (e : execSfErf core s = .next t) : t.dev.Sound := by
  refine State.onDev_sound ?_ e; exact Device.sfBuiltin_sound h

theorem execSfGelu_sound {core : CoreId} {s : State} {t : State} (h : s.dev.Sound) (e : execSfGelu core s = .next t) : t.dev.Sound := by
  refine State.onDev_sound ?_ e; exact Device.sfBuiltin_sound h

theorem execSfGeluTanh_sound {core : CoreId} {s : State} {t : State} (h : s.dev.Sound)
    (e : execSfGeluTanh core s = .next t) : t.dev.Sound := by
  refine State.onDev_sound ?_ e; exact Device.sfBuiltin_sound h

theorem execSfSilu_sound {core : CoreId} {s : State} {t : State} (h : s.dev.Sound) (e : execSfSilu core s = .next t) : t.dev.Sound := by
  refine State.onDev_sound ?_ e; exact Device.sfBuiltin_sound h

theorem execSfSoftplus_sound {core : CoreId} {s : State} {t : State} (h : s.dev.Sound)
    (e : execSfSoftplus core s = .next t) : t.dev.Sound := by
  refine State.onDev_sound ?_ e; exact Device.sfBuiltin_sound h

theorem execSfSin_sound {core : CoreId} {s : State} {t : State} (h : s.dev.Sound) (e : execSfSin core s = .next t) : t.dev.Sound := by
  refine State.onDev_sound ?_ e; exact Device.sfBuiltin_sound h

theorem execSfCos_sound {core : CoreId} {s : State} {t : State} (h : s.dev.Sound) (e : execSfCos core s = .next t) : t.dev.Sound := by
  refine State.onDev_sound ?_ e; exact Device.sfBuiltin_sound h

theorem execSfTab_sound {core : CoreId} {s : State} {t : State} (h : s.dev.Sound) (e : execSfTab core s = .next t) : t.dev.Sound := by
  refine State.onDev_sound ?_ e; exact Device.sfTab_sound h

theorem execVxScanAdd_sound {core : CoreId} {s : State} {t : State} (h : s.dev.Sound) (e : execVxScanAdd core s = .next t) : t.dev.Sound := by
  refine State.onDev_sound ?_ e; exact Device.vxScan_sound h

theorem execVxScanMax_sound {core : CoreId} {s : State} {t : State} (h : s.dev.Sound) (e : execVxScanMax core s = .next t) : t.dev.Sound := by
  refine State.onDev_sound ?_ e; exact Device.vxScan_sound h

theorem execVxScanMin_sound {core : CoreId} {s : State} {t : State} (h : s.dev.Sound) (e : execVxScanMin core s = .next t) : t.dev.Sound := by
  refine State.onDev_sound ?_ e; exact Device.vxScan_sound h

theorem execVxScanProd_sound {core : CoreId} {s : State} {t : State} (h : s.dev.Sound)
    (e : execVxScanProd core s = .next t) : t.dev.Sound := by
  refine State.onDev_sound ?_ e; exact Device.vxScan_sound h

theorem execVxScanLse_sound {core : CoreId} {s : State} {t : State} (h : s.dev.Sound) (e : execVxScanLse core s = .next t) : t.dev.Sound := by
  refine State.onDev_sound ?_ e; exact Device.vxScan_sound h

theorem execVxScanAffine_sound {core : CoreId} {s : State} {t : State} (h : s.dev.Sound)
    (e : execVxScanAffine core s = .next t) : t.dev.Sound := by
  refine State.onDev_sound ?_ e; exact Device.vxScan_sound h

theorem execVxScanAffinePair_sound {core : CoreId} {s : State} {t : State} (h : s.dev.Sound)
    (e : execVxScanAffinePair core s = .next t) : t.dev.Sound := by
  refine State.onDev_sound ?_ e; exact Device.vxScan_sound h

theorem execVxBscanAdd_sound {core : CoreId} {s : State} {t : State} (h : s.dev.Sound)
    (e : execVxBscanAdd core s = .next t) : t.dev.Sound := by
  refine State.onDev_sound ?_ e; exact Device.vxBscan_sound h

theorem execVxBscanMax_sound {core : CoreId} {s : State} {t : State} (h : s.dev.Sound)
    (e : execVxBscanMax core s = .next t) : t.dev.Sound := by
  refine State.onDev_sound ?_ e; exact Device.vxBscan_sound h

theorem execVxBscanMin_sound {core : CoreId} {s : State} {t : State} (h : s.dev.Sound)
    (e : execVxBscanMin core s = .next t) : t.dev.Sound := by
  refine State.onDev_sound ?_ e; exact Device.vxBscan_sound h

theorem execVxBscanProd_sound {core : CoreId} {s : State} {t : State} (h : s.dev.Sound)
    (e : execVxBscanProd core s = .next t) : t.dev.Sound := by
  refine State.onDev_sound ?_ e; exact Device.vxBscan_sound h

theorem execVxBscanLse_sound {core : CoreId} {s : State} {t : State} (h : s.dev.Sound)
    (e : execVxBscanLse core s = .next t) : t.dev.Sound := by
  refine State.onDev_sound ?_ e; exact Device.vxBscan_sound h

theorem execVxBscanAffine_sound {core : CoreId} {s : State} {t : State} (h : s.dev.Sound)
    (e : execVxBscanAffine core s = .next t) : t.dev.Sound := by
  refine State.onDev_sound ?_ e; exact Device.vxBscan_sound h

theorem execVxBscanAffinePair_sound {core : CoreId} {s : State} {t : State} (h : s.dev.Sound)
    (e : execVxBscanAffinePair core s = .next t) : t.dev.Sound := by
  refine State.onDev_sound ?_ e; exact Device.vxBscan_sound h

theorem execVxCget_sound {core : CoreId} {s : State} {t : State} (h : s.dev.Sound) (e : execVxCget core s = .next t) : t.dev.Sound := by
  refine State.onDev_sound ?_ e; exact Device.vxCget_sound h

theorem execVxCset_sound {core : CoreId} {s : State} {t : State} (h : s.dev.Sound) (e : execVxCset core s = .next t) : t.dev.Sound := by
  refine State.onDev_sound ?_ e; exact Device.vxCset_sound h

theorem execVxRstat_sound {core : CoreId} {s : State} {t : State} (h : s.dev.Sound) (e : execVxRstat core s = .next t) : t.dev.Sound := by
  refine State.onDev_sound ?_ e; exact Device.vxRstat_sound h

theorem execVxRstatc_sound {core : CoreId} {s : State} {t : State} (h : s.dev.Sound) (e : execVxRstatc core s = .next t) : t.dev.Sound := by
  refine State.onDev_sound ?_ e; exact Device.vxRstatc_sound h

theorem execVxSmxMax_sound {core : CoreId} {s : State} {t : State} (h : s.dev.Sound) (e : execVxSmxMax core s = .next t) : t.dev.Sound := by
  refine State.onDev_sound ?_ e; exact Device.vxSmxMax_sound h

theorem execVxSmxSum_sound {core : CoreId} {s : State} {t : State} (h : s.dev.Sound) (e : execVxSmxSum core s = .next t) : t.dev.Sound := by
  refine State.onDev_sound ?_ e; exact Device.vxSmxSum_sound h

theorem execAdd_sound {core : CoreId} {s : State} {t : State} (h : s.dev.Sound) (e : execAdd core s = .next t) : t.dev.Sound := by
  refine State.onDev_sound ?_ e; exact Device.rOp_sound h

theorem execSub_sound {core : CoreId} {s : State} {t : State} (h : s.dev.Sound) (e : execSub core s = .next t) : t.dev.Sound := by
  refine State.onDev_sound ?_ e; exact Device.rOp_sound h

theorem execMul_sound {core : CoreId} {s : State} {t : State} (h : s.dev.Sound) (e : execMul core s = .next t) : t.dev.Sound := by
  refine State.onDev_sound ?_ e; exact Device.rOp_sound h

theorem execMla_sound {core : CoreId} {s : State} {t : State} (h : s.dev.Sound) (e : execMla core s = .next t) : t.dev.Sound := by
  refine State.onDev_sound ?_ e; exact Device.rOp_sound h

theorem execAnd_sound {core : CoreId} {s : State} {t : State} (h : s.dev.Sound) (e : execAnd core s = .next t) : t.dev.Sound := by
  refine State.onDev_sound ?_ e; exact Device.rOp_sound h

theorem execOr_sound {core : CoreId} {s : State} {t : State} (h : s.dev.Sound) (e : execOr core s = .next t) : t.dev.Sound := by
  refine State.onDev_sound ?_ e; exact Device.rOp_sound h

theorem execXor_sound {core : CoreId} {s : State} {t : State} (h : s.dev.Sound) (e : execXor core s = .next t) : t.dev.Sound := by
  refine State.onDev_sound ?_ e; exact Device.rOp_sound h

theorem execShl_sound {core : CoreId} {s : State} {t : State} (h : s.dev.Sound) (e : execShl core s = .next t) : t.dev.Sound := by
  refine State.onDev_sound ?_ e; exact Device.rOp_sound h

theorem execShr_sound {core : CoreId} {s : State} {t : State} (h : s.dev.Sound) (e : execShr core s = .next t) : t.dev.Sound := by
  refine State.onDev_sound ?_ e; exact Device.rOp_sound h

theorem execSra_sound {core : CoreId} {s : State} {t : State} (h : s.dev.Sound) (e : execSra core s = .next t) : t.dev.Sound := by
  refine State.onDev_sound ?_ e; exact Device.rOp_sound h

theorem execMin_sound {core : CoreId} {s : State} {t : State} (h : s.dev.Sound) (e : execMin core s = .next t) : t.dev.Sound := by
  refine State.onDev_sound ?_ e; exact Device.rOp_sound h

theorem execMax_sound {core : CoreId} {s : State} {t : State} (h : s.dev.Sound) (e : execMax core s = .next t) : t.dev.Sound := by
  refine State.onDev_sound ?_ e; exact Device.rOp_sound h

theorem execMinu_sound {core : CoreId} {s : State} {t : State} (h : s.dev.Sound) (e : execMinu core s = .next t) : t.dev.Sound := by
  refine State.onDev_sound ?_ e; exact Device.rOp_sound h

theorem execMaxu_sound {core : CoreId} {s : State} {t : State} (h : s.dev.Sound) (e : execMaxu core s = .next t) : t.dev.Sound := by
  refine State.onDev_sound ?_ e; exact Device.rOp_sound h

theorem execSlt_sound {core : CoreId} {s : State} {t : State} (h : s.dev.Sound) (e : execSlt core s = .next t) : t.dev.Sound := by
  refine State.onDev_sound ?_ e; exact Device.rOp_sound h

theorem execSltu_sound {core : CoreId} {s : State} {t : State} (h : s.dev.Sound) (e : execSltu core s = .next t) : t.dev.Sound := by
  refine State.onDev_sound ?_ e; exact Device.rOp_sound h

theorem execSeq_sound {core : CoreId} {s : State} {t : State} (h : s.dev.Sound) (e : execSeq core s = .next t) : t.dev.Sound := by
  refine State.onDev_sound ?_ e; exact Device.rOp_sound h

theorem execAddi_sound {core : CoreId} {s : State} {t : State} (h : s.dev.Sound) (e : execAddi core s = .next t) : t.dev.Sound := by
  refine State.onDev_sound ?_ e; exact Device.iOp_sound h

theorem execAndi_sound {core : CoreId} {s : State} {t : State} (h : s.dev.Sound) (e : execAndi core s = .next t) : t.dev.Sound := by
  refine State.onDev_sound ?_ e; exact Device.iOp_sound h

theorem execOri_sound {core : CoreId} {s : State} {t : State} (h : s.dev.Sound) (e : execOri core s = .next t) : t.dev.Sound := by
  refine State.onDev_sound ?_ e; exact Device.iOp_sound h

theorem execXori_sound {core : CoreId} {s : State} {t : State} (h : s.dev.Sound) (e : execXori core s = .next t) : t.dev.Sound := by
  refine State.onDev_sound ?_ e; exact Device.iOp_sound h

theorem execShli_sound {core : CoreId} {s : State} {t : State} (h : s.dev.Sound) (e : execShli core s = .next t) : t.dev.Sound := by
  refine State.onDev_sound ?_ e; exact Device.iOp_sound h

theorem execShri_sound {core : CoreId} {s : State} {t : State} (h : s.dev.Sound) (e : execShri core s = .next t) : t.dev.Sound := by
  refine State.onDev_sound ?_ e; exact Device.iOp_sound h

theorem execSrai_sound {core : CoreId} {s : State} {t : State} (h : s.dev.Sound) (e : execSrai core s = .next t) : t.dev.Sound := by
  refine State.onDev_sound ?_ e; exact Device.iOp_sound h

theorem execSlti_sound {core : CoreId} {s : State} {t : State} (h : s.dev.Sound) (e : execSlti core s = .next t) : t.dev.Sound := by
  refine State.onDev_sound ?_ e; exact Device.iOp_sound h

theorem execMovk_sound {core : CoreId} {s : State} {t : State} (h : s.dev.Sound) (e : execMovk core s = .next t) : t.dev.Sound := by
  refine State.onDev_sound ?_ e; exact Device.iOp_sound h

theorem execLui_sound {core : CoreId} {s : State} {t : State} (h : s.dev.Sound) (e : execLui core s = .next t) : t.dev.Sound := by
  refine State.onDev_sound ?_ e; exact Device.iOp_sound h

theorem execLd8u_sound {core : CoreId} {s : State} {t : State} (h : s.dev.Sound) (e : execLd8u core s = .next t) : t.dev.Sound := by
  refine State.onDev_sound ?_ e; exact Device.loadOp_sound h

theorem execLd16u_sound {core : CoreId} {s : State} {t : State} (h : s.dev.Sound) (e : execLd16u core s = .next t) : t.dev.Sound := by
  refine State.onDev_sound ?_ e; exact Device.loadOp_sound h

theorem execLd32u_sound {core : CoreId} {s : State} {t : State} (h : s.dev.Sound) (e : execLd32u core s = .next t) : t.dev.Sound := by
  refine State.onDev_sound ?_ e; exact Device.loadOp_sound h

theorem execLd32s_sound {core : CoreId} {s : State} {t : State} (h : s.dev.Sound) (e : execLd32s core s = .next t) : t.dev.Sound := by
  refine State.onDev_sound ?_ e; exact Device.loadOp_sound h

theorem execLd64_sound {core : CoreId} {s : State} {t : State} (h : s.dev.Sound) (e : execLd64 core s = .next t) : t.dev.Sound := by
  refine State.onDev_sound ?_ e; exact Device.loadOp_sound h

theorem execSt8_sound {core : CoreId} {s : State} {t : State} (h : s.dev.Sound) (e : execSt8 core s = .next t) : t.dev.Sound := by
  refine State.onDev_sound ?_ e; exact Device.storeOp_sound h

theorem execSt16_sound {core : CoreId} {s : State} {t : State} (h : s.dev.Sound) (e : execSt16 core s = .next t) : t.dev.Sound := by
  refine State.onDev_sound ?_ e; exact Device.storeOp_sound h

theorem execSt32_sound {core : CoreId} {s : State} {t : State} (h : s.dev.Sound) (e : execSt32 core s = .next t) : t.dev.Sound := by
  refine State.onDev_sound ?_ e; exact Device.storeOp_sound h

theorem execSt64_sound {core : CoreId} {s : State} {t : State} (h : s.dev.Sound) (e : execSt64 core s = .next t) : t.dev.Sound := by
  refine State.onDev_sound ?_ e; exact Device.storeOp_sound h

theorem execLsld_sound {core : CoreId} {s : State} {t : State} (h : s.dev.Sound) (e : execLsld core s = .next t) : t.dev.Sound := by
  refine State.onDev_sound ?_ e; exact Device.lsldOp_sound h

theorem execLsst_sound {core : CoreId} {s : State} {t : State} (h : s.dev.Sound) (e : execLsst core s = .next t) : t.dev.Sound := by
  refine State.onDev_sound ?_ e; exact Device.lsstOp_sound h

theorem execLscp_sound {core : CoreId} {s : State} {t : State} (h : s.dev.Sound) (e : execLscp core s = .next t) : t.dev.Sound := by
  refine State.onDev_sound ?_ e; exact Device.lscpOp_sound h

theorem execBeq_sound {core : CoreId} {s : State} {t : State} (h : s.dev.Sound) (e : execBeq core s = .next t) : t.dev.Sound := by
  refine State.onDev_sound ?_ e; exact Device.branchOp_sound h

theorem execBne_sound {core : CoreId} {s : State} {t : State} (h : s.dev.Sound) (e : execBne core s = .next t) : t.dev.Sound := by
  refine State.onDev_sound ?_ e; exact Device.branchOp_sound h

theorem execBlt_sound {core : CoreId} {s : State} {t : State} (h : s.dev.Sound) (e : execBlt core s = .next t) : t.dev.Sound := by
  refine State.onDev_sound ?_ e; exact Device.branchOp_sound h

theorem execBge_sound {core : CoreId} {s : State} {t : State} (h : s.dev.Sound) (e : execBge core s = .next t) : t.dev.Sound := by
  refine State.onDev_sound ?_ e; exact Device.branchOp_sound h

theorem execBltu_sound {core : CoreId} {s : State} {t : State} (h : s.dev.Sound) (e : execBltu core s = .next t) : t.dev.Sound := by
  refine State.onDev_sound ?_ e; exact Device.branchOp_sound h

theorem execBgeu_sound {core : CoreId} {s : State} {t : State} (h : s.dev.Sound) (e : execBgeu core s = .next t) : t.dev.Sound := by
  refine State.onDev_sound ?_ e; exact Device.branchOp_sound h

theorem execJal_sound {core : CoreId} {s : State} {t : State} (h : s.dev.Sound) (e : execJal core s = .next t) : t.dev.Sound := by
  refine State.onDev_sound ?_ e; exact Device.jalOp_sound h

theorem execJr_sound {core : CoreId} {s : State} {t : State} (h : s.dev.Sound) (e : execJr core s = .next t) : t.dev.Sound := by
  refine State.onDev_sound ?_ e; exact Device.jrOp_sound h

theorem execDbnz_sound {core : CoreId} {s : State} {t : State} (h : s.dev.Sound) (e : execDbnz core s = .next t) : t.dev.Sound := by
  refine State.onDev_sound ?_ e; exact Device.dbnzOp_sound h

theorem execPget_sound {core : CoreId} {s : State} {t : State} (h : s.dev.Sound) (e : execPget core s = .next t) : t.dev.Sound := by
  refine State.onDev_sound ?_ e; exact Device.pgetOp_sound h

theorem execPset_sound {core : CoreId} {s : State} {t : State} (h : s.dev.Sound) (e : execPset core s = .next t) : t.dev.Sound := by
  refine State.onDev_sound ?_ e; exact Device.psetOp_sound h

theorem execRdsr_sound {core : CoreId} {s : State} {t : State} (h : s.dev.Sound) (e : execRdsr core s = .next t) : t.dev.Sound := by
  refine State.onDev_sound ?_ e; exact Device.rdsrOp_sound h

theorem execFins_sound {core : CoreId} {s : State} {t : State} (h : s.dev.Sound) (e : execFins core s = .next t) : t.dev.Sound := by
  refine State.onDev_sound ?_ e; exact Device.finsOp_sound h

theorem execPush_sound {core : CoreId} {s : State} {t : State} (h : s.dev.Sound) (e : execPush core s = .next t) : t.dev.Sound := by
  refine State.onDev_sound ?_ e; exact Device.pushOp_sound h

theorem execGate_sound {core : CoreId} {s : State} {t : State} (h : s.dev.Sound) (e : execGate core s = .next t) : t.dev.Sound := by
  refine State.onDev_sound ?_ e; exact Device.gateOp_sound h

theorem execSemsig_sound {core : CoreId} {s : State} {t : State} (h : s.dev.Sound) (e : execSemsig core s = .next t) : t.dev.Sound := by
  refine State.onDev_sound ?_ e; exact Device.semsigOp_sound h

theorem execSemwait_sound {core : CoreId} {s : State} {t : State} (h : s.dev.Sound) (e : execSemwait core s = .next t) : t.dev.Sound := by
  refine State.onDev_sound ?_ e; exact Device.semwaitOp_sound h

theorem execSemwaitGrant_sound {core : CoreId} {s : State} {t : State} (h : s.dev.Sound)
    (e : execSemwaitGrant core s = .next t) : t.dev.Sound := by
  refine State.onDev_sound ?_ e; exact Device.semwaitGrantOp_sound h

theorem execSemrd_sound {core : CoreId} {s : State} {t : State} (h : s.dev.Sound) (e : execSemrd core s = .next t) : t.dev.Sound := by
  refine State.onDev_sound ?_ e; exact Device.semrdOp_sound h

theorem execNop_sound {core : CoreId} {s : State} {t : State} (h : s.dev.Sound) (e : execNop core s = .next t) : t.dev.Sound := by
  refine State.onDev_sound ?_ e; exact Device.nopOp_sound h

theorem execRend_sound {core : CoreId} {s : State} {t : State} (h : s.dev.Sound) (e : execRend core s = .next t) : t.dev.Sound := by
  refine State.onDev_sound ?_ e; exact Device.rendOp_sound h

theorem execHalt_sound {core : CoreId} {s : State} {t : State} (h : s.dev.Sound) (e : execHalt core s = .next t) : t.dev.Sound := by
  refine State.onDev_sound ?_ e; exact Device.haltOp_sound h

theorem execSySig_sound {core : CoreId} {s : State} {t : State} (h : s.dev.Sound) (e : execSySig core s = .next t) : t.dev.Sound := by
  refine State.onDev_sound ?_ e; exact Device.sySig_sound h

theorem execSemIncrementArrival_sound {index : Nat} {s : State} {t : State} (h : s.dev.Sound)
    (e : execSemIncrementArrival index s = .next t) : t.dev.Sound := by
  refine State.onDev_sound ?_ e; exact Device.incrementArrival_sound h

theorem execSyWait_sound {core : CoreId} {s : State} {t : State} (h : s.dev.Sound) (e : execSyWait core s = .next t) : t.dev.Sound := by
  refine State.onDev_sound ?_ e; exact Device.syWait_sound h

theorem execSyWaitGrant_sound {core : CoreId} {s : State} {t : State} (h : s.dev.Sound)
    (e : execSyWaitGrant core s = .next t) : t.dev.Sound := by
  refine State.onDev_sound ?_ e; exact Device.syWaitGrant_sound h

theorem execSyBar_sound {core : CoreId} {s : State} {t : State} (h : s.dev.Sound) (e : execSyBar core s = .next t) : t.dev.Sound := by
  refine State.onDev_sound ?_ e; exact Device.syArrive_sound h

theorem execBarrierRelease_sound {barrier : Fin 512} {s : State} {t : State} (h : s.dev.Sound)
    (e : execBarrierRelease barrier s = .next t) : t.dev.Sound := by
  refine State.onDev_sound ?_ e; exact Device.barrierRelease_sound h

theorem execSyTime_sound {core : CoreId} {s : State} {t : State} (h : s.dev.Sound) (e : execSyTime core s = .next t) : t.dev.Sound := by
  refine State.onDev_sound ?_ e; exact Device.syTime_sound h

theorem execSyTimeReached_sound {core : CoreId} {s : State} {t : State} (h : s.dev.Sound)
    (e : execSyTimeReached core s = .next t) : t.dev.Sound := by
  refine State.onDev_sound ?_ e; exact Device.syTimeReached_sound h

theorem execCoreCtlSwitch_sound {core : CoreId} {s : State} {t : State} (h : s.dev.Sound)
    (e : execCoreCtlSwitch core s = .next t) : t.dev.Sound := by
  refine State.onDev_sound ?_ e; exact Device.ctlSwitch_sound h

theorem execCoreCtlStart_sound {core : CoreId} {s : State} {t : State} (h : s.dev.Sound)
    (e : execCoreCtlStart core s = .next t) : t.dev.Sound := by
  refine State.onDev_sound ?_ e; exact Device.ctlStart_sound h

theorem execCoreCtlResume_sound {core : CoreId} {s : State} {t : State} (h : s.dev.Sound)
    (e : execCoreCtlResume core s = .next t) : t.dev.Sound := by
  refine State.onDev_sound ?_ e; exact Device.ctlResume_sound h

theorem execCoreCtlHalt_sound {core : CoreId} {s : State} {t : State} (h : s.dev.Sound)
    (e : execCoreCtlHalt core s = .next t) : t.dev.Sound := by
  refine State.onDev_sound ?_ e; exact Device.ctlHalt_sound h

theorem execReplayStart_sound {part : PartId} {entry : Fin 256} {s : State} {t : State} (h : s.dev.Sound)
    (e : execReplayStart part entry s = .next t) : t.dev.Sound := by
  refine State.onDev_sound ?_ e; exact Device.replayPhase_sound h

theorem execCoreSemWrite_sound {core : CoreId} {sem : Fin 64} {value : Word} {s : State} {t : State} (h : s.dev.Sound)
    (e : execCoreSemWrite core sem value s = .next t) : t.dev.Sound := by
  refine State.onDev_sound ?_ e
  with_reducible
    apply Device.modCore_sound; assumption; intro _; intro _; apply Core.setSem_sound; assumption

theorem execCorePstageWrite_sound {core : CoreId} {param : Fin 64} {high : Bool} {value : Word} {s : State} {t : State} (h : s.dev.Sound)
    (e : execCorePstageWrite core param high value s = .next t) : t.dev.Sound := by
  refine State.onDev_sound ?_ e; exact Device.pstageWrite_sound h

theorem execCorePdirtyWithdraw_sound {core : CoreId} {high : Bool} {value : Word} {s : State} {t : State} (h : s.dev.Sound)
    (e : execCorePdirtyWithdraw core high value s = .next t) : t.dev.Sound := by
  refine State.onDev_sound ?_ e; exact Device.pdirtyWrite_sound h

theorem execCpRelease_sound {core : CoreId} {engine : Fin 2} {s : State} {t : State} (h : s.dev.Sound)
    (e : execCpRelease core engine s = .next t) : t.dev.Sound := by
  refine State.onDev_sound ?_ e; exact Device.cacheCommand_sound h

theorem execCpAcquire_sound {core : CoreId} {engine : Fin 2} {s : State} {t : State} (h : s.dev.Sound)
    (e : execCpAcquire core engine s = .next t) : t.dev.Sound := by
  refine State.onDev_sound ?_ e; exact Device.cacheCommand_sound h

theorem execRequestResponse_sound {core : CoreId} {slot : Nat} {s : State} {t : State} (h : s.dev.Sound)
    (e : execRequestResponse core slot s = .next t) : t.dev.Sound := by
  refine State.onDev_sound ?_ e; exact Device.requestResponse_sound h

theorem execRequestWithdrawalConfirm_sound {core : CoreId} {slot : Nat} {s : State} {t : State} (h : s.dev.Sound)
    (e : execRequestWithdrawalConfirm core slot s = .next t) : t.dev.Sound := by
  refine State.onDev_sound ?_ e; exact Device.withdrawalConfirm_sound h

theorem execPatrolScrub_sound {codeword : Nat} {s : State} {t : State} (h : s.dev.Sound)
    (e : execPatrolScrub codeword s = .next t) : t.dev.Sound := by
  refine State.onDev_sound ?_ e; exact Device.patrol_sound h

theorem execCpLin_sound {core : CoreId} {engine : Fin 2} {s : State} {t : State} (h : s.dev.Sound)
    (e : execCpLin core engine s = .next t) : t.dev.Sound := by
  refine State.onDev_sound ?_ e; exact Device.cpLin_sound h

theorem execCpNd_sound {core : CoreId} {engine : Fin 2} {s : State} {t : State} (h : s.dev.Sound)
    (e : execCpNd core engine s = .next t) : t.dev.Sound := by
  refine State.onDev_sound ?_ e; exact Device.cpNd_sound h

theorem execCpGather_sound {core : CoreId} {engine : Fin 2} {s : State} {t : State} (h : s.dev.Sound)
    (e : execCpGather core engine s = .next t) : t.dev.Sound := by
  refine State.onDev_sound ?_ e; exact Device.cpGather_sound h

theorem execCpScatterWrite_sound {core : CoreId} {engine : Fin 2} {s : State} {t : State} (h : s.dev.Sound)
    (e : execCpScatterWrite core engine s = .next t) : t.dev.Sound := by
  refine State.onDev_sound ?_ e; exact Device.cpScatterWrite_sound h

theorem execCpScatterAdd_sound {core : CoreId} {engine : Fin 2} {s : State} {t : State} (h : s.dev.Sound)
    (e : execCpScatterAdd core engine s = .next t) : t.dev.Sound := by
  refine State.onDev_sound ?_ e; exact Device.cpScatterAdd_sound h

theorem execCpTable_sound {core : CoreId} {engine : Fin 2} {s : State} {t : State} (h : s.dev.Sound)
    (e : execCpTable core engine s = .next t) : t.dev.Sound := by
  refine State.onDev_sound ?_ e; exact Device.cpTable_sound h

theorem execTableLoadStart_sound {core : CoreId} {engine : Fin 2} {s : State} {t : State} (h : s.dev.Sound)
    (e : execTableLoadStart core engine s = .next t) : t.dev.Sound := by
  refine State.onDev_sound ?_ e; exact Device.tableLoadStart_sound h

theorem execTablePublish_sound {core : CoreId} {slot : Fin 16} {s : State} {t : State} (h : s.dev.Sound)
    (e : execTablePublish core slot s = .next t) : t.dev.Sound := by
  refine State.onDev_sound ?_ e; exact Device.tablePublish_sound h

theorem execTimStep_sound {s : State} {t : State} (h : s.dev.Sound) (e : execTimStep s = .next t) : t.dev.Sound := by
  refine State.onDev_sound ?_ e; exact Device.timStep_sound h

theorem execTimSrcWrite_sound {src : Fin 8} {s : State} {t : State} (h : s.dev.Sound) (e : execTimSrcWrite src s = .next t) : t.dev.Sound := by
  refine State.onDev_sound ?_ e; exact Device.timSrcWrite_sound h

theorem execTimPtpCfgWrite_sound {value : Word} {s : State} {t : State} (h : s.dev.Sound)
    (e : execTimPtpCfgWrite value s = .next t) : t.dev.Sound := by
  refine State.onDev_sound ?_ e; exact Device.timPtpCfgWrite_sound h

theorem execTimNowRead_sound {fn : FnId} {s : State} {t : State} (h : s.dev.Sound) (e : execTimNowRead fn s = .next t) : t.dev.Sound := by
  refine State.onDev_sound ?_ e; exact Device.timNowRead_sound h

theorem execPtpSync_sound {port : PortId} {domain : Fin 128} {transport : Fin 3} {sender : Nat} {seq : Fin 65536} {stamp : Nat} {corr : Int} {twoStep : Bool} {s : State} {t : State} (h : s.dev.Sound)
    (e : execPtpSync port domain transport sender seq stamp corr twoStep s = .next t) : t.dev.Sound := by
  refine State.onDev_sound ?_ e; exact Device.ptpSync_sound h

theorem execPtpFollowUp_sound {port : PortId} {domain : Fin 128} {transport : Fin 3} {sender : Nat} {seq : Fin 65536} {stamp : Nat} {corr : Int} {s : State} {t : State} (h : s.dev.Sound)
    (e : execPtpFollowUp port domain transport sender seq stamp corr s = .next t) : t.dev.Sound := by
  refine State.onDev_sound ?_ e; exact Device.ptpFollowUp_sound h

theorem execPtpAnnounce_sound {port : PortId} {domain : Fin 128} {transport : Fin 3} {sender : Nat} {priority1 : Nat} {clockClass : Nat} {accuracy : Nat} {variance : Nat} {priority2 : Nat} {identity : Nat} {steps : Nat} {s : State} {t : State} (h : s.dev.Sound)
    (e : execPtpAnnounce port domain transport sender priority1 clockClass accuracy variance priority2 identity steps s = .next t) : t.dev.Sound := by
  refine State.onDev_sound ?_ e; exact Device.ptpAnnounce_sound h

theorem execPtpDelayReq_sound {s : State} {t : State} (h : s.dev.Sound) (e : execPtpDelayReq s = .next t) : t.dev.Sound := by
  refine State.onDev_sound ?_ e; exact Device.ptpDelayReq_sound h

theorem execPtpDelayResp_sound {port : PortId} {domain : Fin 128} {transport : Fin 3} {sender : Nat} {seq : Fin 65536} {stamp : Nat} {corr : Int} {s : State} {t : State} (h : s.dev.Sound)
    (e : execPtpDelayResp port domain transport sender seq stamp corr s = .next t) : t.dev.Sound := by
  refine State.onDev_sound ?_ e; exact Device.ptpDelayResp_sound h

theorem execPpsEdge_sound {ref : Bool} {s : State} {t : State} (h : s.dev.Sound) (e : execPpsEdge ref s = .next t) : t.dev.Sound := by
  refine State.onDev_sound ?_ e; exact Device.ppsEdge_sound h

theorem execTimeSourceTimeout_sound {s : State} {t : State} (h : s.dev.Sound) (e : execTimeSourceTimeout s = .next t) : t.dev.Sound := by
  refine State.onDev_sound ?_ e; exact Device.sourceTimeout_sound h

theorem execStkArm_sound {part : PartId} {s : State} {t : State} (h : s.dev.Sound) (e : execStkArm part s = .next t) : t.dev.Sound := by
  refine State.onDev_sound ?_ e; exact Device.stkArm_sound h

theorem execStkStop_sound {part : PartId} {s : State} {t : State} (h : s.dev.Sound) (e : execStkStop part s = .next t) : t.dev.Sound := by
  refine State.onDev_sound ?_ e; exact Device.stkStop_sound h

theorem execStkCommit_sound {part : PartId} {s : State} {t : State} (h : s.dev.Sound) (e : execStkCommit part s = .next t) : t.dev.Sound := by
  refine State.onDev_sound ?_ e; exact Device.stkCommit_sound h

theorem execStkStartWrite_sound {part : PartId} {word : Fin 4} {value : Word} {s : State} {t : State} (h : s.dev.Sound)
    (e : execStkStartWrite part word value s = .next t) : t.dev.Sound := by
  refine State.onDev_sound ?_ e; exact Device.stkStartWrite_sound h

theorem execStrokeStart_sound {part : PartId} {s : State} {t : State} (h : s.dev.Sound)
    (e : execStrokeStart part s = .next t) : t.dev.Sound := by
  refine State.onDev_sound ?_ e; exact Device.strokeStart_sound h

theorem execGangStart_sound {part : PartId} {entry : Fin 256} {s : State} {t : State} (h : s.dev.Sound)
    (e : execGangStart part entry s = .next t) : t.dev.Sound := by
  refine State.onDev_sound ?_ e; exact Device.gangStart_sound h

theorem execBucketOpen_sound {part : PartId} {entry : Fin 256} {s : State} {t : State} (h : s.dev.Sound)
    (e : execBucketOpen part entry s = .next t) : t.dev.Sound := by
  refine State.onDev_sound ?_ e
  with_reducible
    apply Device.bucketPhase_sound; assumption; intro _; intro _; intro _; apply Device.windowOpen_sound; assumption

theorem execBucketClose_sound {part : PartId} {entry : Fin 256} {s : State} {t : State} (h : s.dev.Sound)
    (e : execBucketClose part entry s = .next t) : t.dev.Sound := by
  refine State.onDev_sound ?_ e
  with_reducible
    apply Device.bucketPhase_sound; assumption; intro _; intro _; intro _; apply Device.windowClose_sound; assumption

theorem execCheckpoint_sound {part : PartId} {entry : Fin 256} {s : State} {t : State} (h : s.dev.Sound)
    (e : execCheckpoint part entry s = .next t) : t.dev.Sound := by
  refine State.onDev_sound ?_ e; exact Device.ckptPhase_sound h

theorem execEvent_sound {part : PartId} {entry : Fin 256} {s : State} {t : State} (h : s.dev.Sound)
    (e : execEvent part entry s = .next t) : t.dev.Sound := by
  refine State.onDev_sound ?_ e; exact Device.eventPhase_sound h

theorem execSluice_sound {part : PartId} {s : State} {t : State} (h : s.dev.Sound) (e : execSluice part s = .next t) : t.dev.Sound := by
  refine State.onDev_sound ?_ e; exact Device.sluice_sound h

theorem execDrainComplete_sound {part : PartId} {s : State} {t : State} (h : s.dev.Sound)
    (e : execDrainComplete part s = .next t) : t.dev.Sound := by
  refine State.onDev_sound ?_ e; exact Device.drainComplete_sound h

theorem execFillRecordWrite_sound {s : State} {t : State} (h : s.dev.Sound) (e : execFillRecordWrite s = .next t) : t.dev.Sound := by
  refine State.onDev_sound ?_ e; exact Device.fillWrite_sound h

theorem execPieceArrival_sound {index : Nat} {s : State} {t : State} (h : s.dev.Sound)
    (e : execPieceArrival index s = .next t) : t.dev.Sound := by
  refine State.onDev_sound ?_ e; exact Device.redDeliver_sound h

theorem execSettleRecord_sound {index : Nat} {s : State} {t : State} (h : s.dev.Sound)
    (e : execSettleRecord index s = .next t) : t.dev.Sound := by
  refine State.onDev_sound ?_ e; exact Device.redDeliver_sound h

theorem execSlotSettle_sound {part : PartId} {tag : Fin 65536} {slot : Fin 65536} {downRank : Option (Nat × Bool)} {s : State} {t : State} (h : s.dev.Sound)
    (e : execSlotSettle part tag slot downRank s = .next t) : t.dev.Sound := by
  refine State.onDev_sound ?_ e; exact Device.slotSettle_sound h

theorem execOwnerFinish_sound {part : PartId} {tag : Fin 65536} {height : Fin 65} {s : State} {t : State} (h : s.dev.Sound)
    (e : execOwnerFinish part tag height s = .next t) : t.dev.Sound := by
  refine State.onDev_sound ?_ e; exact Device.ownerFinish_sound h

theorem execRedSettle_sound {part : PartId} {s : State} {t : State} (h : s.dev.Sound) (e : execRedSettle part s = .next t) : t.dev.Sound := by
  refine State.onDev_sound ?_ e; exact Device.redSettleCmd_sound h

theorem execRedWinOpen_sound {part : PartId} {window : Fin 256} {s : State} {t : State} (h : s.dev.Sound)
    (e : execRedWinOpen part window s = .next t) : t.dev.Sound := by
  refine State.onDev_sound ?_ e
  with_reducible
    apply Device.redCommand_sound; assumption; intro _; intro _; apply Device.windowOpen_sound; assumption

theorem execRedWinClose_sound {part : PartId} {window : Fin 256} {s : State} {t : State} (h : s.dev.Sound)
    (e : execRedWinClose part window s = .next t) : t.dev.Sound := by
  refine State.onDev_sound ?_ e
  with_reducible
    apply Device.redCommand_sound; assumption; intro _; intro _; apply Device.windowClose_sound; assumption

theorem execFrameReceive_sound {port : PortId} {frame : List Byte} {s : State} {t : State} (h : s.dev.Sound)
    (e : execFrameReceive port frame s = .next t) : t.dev.Sound := by
  refine State.onDev_sound ?_ e; exact Device.frameReceive_sound h

theorem execArpRequest_sound {port : PortId} {mac : Nat} {ip : Nat} {target : Nat} {s : State} {t : State} (h : s.dev.Sound)
    (e : execArpRequest port mac ip target s = .next t) : t.dev.Sound := by
  refine State.onDev_sound ?_ e; exact Device.arpRequest_sound h

theorem execNeighborSolicitation_sound {port : PortId} {mac : Nat} {ip : Nat} {target : Nat} {s : State} {t : State} (h : s.dev.Sound)
    (e : execNeighborSolicitation port mac ip target s = .next t) : t.dev.Sound := by
  refine State.onDev_sound ?_ e; exact Device.neighborSolicit_sound h

theorem execPfcFrame_sound {port : PortId} {enable : Fin 256} {times : List Nat} {s : State} {t : State} (h : s.dev.Sound)
    (e : execPfcFrame port enable times s = .next t) : t.dev.Sound := by
  refine State.onDev_sound ?_ e; exact Device.pfcFrame_sound h

theorem execWrite_sound {flow : Fin 262144} {s : State} {t : State} (h : s.dev.Sound) (e : execWrite flow s = .next t) : t.dev.Sound := by
  refine State.onDev_sound ?_ e; exact Device.rxWrite_sound h

theorem execRead_sound {flow : Fin 262144} {s : State} {t : State} (h : s.dev.Sound) (e : execRead flow s = .next t) : t.dev.Sound := by
  refine State.onDev_sound ?_ e; exact Device.rxRead_sound h

theorem execReadResp_sound {flow : Fin 262144} {s : State} {t : State} (h : s.dev.Sound)
    (e : execReadResp flow s = .next t) : t.dev.Sound := by
  refine State.onDev_sound ?_ e; exact Device.rxResponse_sound h

theorem execRaccSlot_sound {flow : Fin 262144} {s : State} {t : State} (h : s.dev.Sound)
    (e : execRaccSlot flow s = .next t) : t.dev.Sound := by
  refine State.onDev_sound ?_ e; exact Device.rxRaccSlot_sound h

theorem execRaccAddress_sound {flow : Fin 262144} {s : State} {t : State} (h : s.dev.Sound)
    (e : execRaccAddress flow s = .next t) : t.dev.Sound := by
  refine State.onDev_sound ?_ e; exact Device.rxRaccAddr_sound h

theorem execAtomicFadd_sound {flow : Fin 262144} {s : State} {t : State} (h : s.dev.Sound)
    (e : execAtomicFadd flow s = .next t) : t.dev.Sound := by
  refine State.onDev_sound ?_ e; exact Device.rxAtomic_sound h

theorem execAtomicSwap_sound {flow : Fin 262144} {s : State} {t : State} (h : s.dev.Sound)
    (e : execAtomicSwap flow s = .next t) : t.dev.Sound := by
  refine State.onDev_sound ?_ e; exact Device.rxAtomic_sound h

theorem execAtomicCswp_sound {flow : Fin 262144} {s : State} {t : State} (h : s.dev.Sound)
    (e : execAtomicCswp flow s = .next t) : t.dev.Sound := by
  refine State.onDev_sound ?_ e; exact Device.rxAtomic_sound h

theorem execAtomicResp_sound {flow : Fin 262144} {s : State} {t : State} (h : s.dev.Sound)
    (e : execAtomicResp flow s = .next t) : t.dev.Sound := by
  refine State.onDev_sound ?_ e; exact Device.rxResponse_sound h

theorem execSendRing_sound {flow : Fin 262144} {s : State} {t : State} (h : s.dev.Sound)
    (e : execSendRing flow s = .next t) : t.dev.Sound := by
  refine State.onDev_sound ?_ e; exact Device.rxRing_sound h

theorem execSendReduction_sound {flow : Fin 262144} {s : State} {t : State} (h : s.dev.Sound)
    (e : execSendReduction flow s = .next t) : t.dev.Sound := by
  refine State.onDev_sound ?_ e; exact Device.rxSettle_sound h

theorem execFence_sound {flow : Fin 262144} {s : State} {t : State} (h : s.dev.Sound) (e : execFence flow s = .next t) : t.dev.Sound := by
  refine State.onDev_sound ?_ e; exact Device.rxFence_sound h

theorem execAck_sound {flow : Fin 262144} {s : State} {t : State} (h : s.dev.Sound) (e : execAck flow s = .next t) : t.dev.Sound := by
  refine State.onDev_sound ?_ e; exact Device.rxAck_sound h

theorem execMstat_sound {flow : Fin 262144} {s : State} {t : State} (h : s.dev.Sound) (e : execMstat flow s = .next t) : t.dev.Sound := by
  refine State.onDev_sound ?_ e; exact Device.rxMstat_sound h

theorem execHello_sound {flow : Fin 262144} {s : State} {t : State} (h : s.dev.Sound) (e : execHello flow s = .next t) : t.dev.Sound := by
  refine State.onDev_sound ?_ e; exact Device.rxHello_sound h

theorem execHelloAck_sound {flow : Fin 262144} {s : State} {t : State} (h : s.dev.Sound)
    (e : execHelloAck flow s = .next t) : t.dev.Sound := by
  refine State.onDev_sound ?_ e; exact Device.rxHelloAck_sound h

theorem execClose_sound {flow : Fin 262144} {s : State} {t : State} (h : s.dev.Sound) (e : execClose flow s = .next t) : t.dev.Sound := by
  refine State.onDev_sound ?_ e; exact Device.rxClose_sound h

theorem execCloseAck_sound {flow : Fin 262144} {s : State} {t : State} (h : s.dev.Sound)
    (e : execCloseAck flow s = .next t) : t.dev.Sound := by
  refine State.onDev_sound ?_ e; exact Device.rxCloseAck_sound h

theorem execSkip_sound {flow : Fin 262144} {s : State} {t : State} (h : s.dev.Sound) (e : execSkip flow s = .next t) : t.dev.Sound := by
  refine State.onDev_sound ?_ e; exact Device.rxSkip_sound h

theorem execWqDoorbell_sound {s : State} {t : State} (h : s.dev.Sound) (e : execWqDoorbell s = .next t) : t.dev.Sound := by
  refine State.onDev_sound ?_ e; exact Device.wqDoorbell_sound h

theorem execAqDescWrite_sound {s : State} {t : State} (h : s.dev.Sound) (e : execAqDescWrite s = .next t) : t.dev.Sound := by
  refine State.onDev_sound ?_ e; exact Device.aqDesc_sound h

theorem execAqDescRead_sound {s : State} {t : State} (h : s.dev.Sound) (e : execAqDescRead s = .next t) : t.dev.Sound := by
  refine State.onDev_sound ?_ e; exact Device.aqDesc_sound h

theorem execAqDescRacc_sound {s : State} {t : State} (h : s.dev.Sound) (e : execAqDescRacc s = .next t) : t.dev.Sound := by
  refine State.onDev_sound ?_ e; exact Device.aqDesc_sound h

theorem execAqDescAtomic_sound {s : State} {t : State} (h : s.dev.Sound) (e : execAqDescAtomic s = .next t) : t.dev.Sound := by
  refine State.onDev_sound ?_ e; exact Device.aqDesc_sound h

theorem execAqDescSend_sound {s : State} {t : State} (h : s.dev.Sound) (e : execAqDescSend s = .next t) : t.dev.Sound := by
  refine State.onDev_sound ?_ e; exact Device.aqDesc_sound h

theorem execAqDescFence_sound {s : State} {t : State} (h : s.dev.Sound) (e : execAqDescFence s = .next t) : t.dev.Sound := by
  refine State.onDev_sound ?_ e; exact Device.aqDesc_sound h

theorem execRetransmitTimeout_sound {flow : Fin 262144} {s : State} {t : State} (h : s.dev.Sound)
    (e : execRetransmitTimeout flow s = .next t) : t.dev.Sound := by
  refine State.onDev_sound ?_ e; exact Device.rtoExpire_sound h

theorem execAckTimer_sound {flow : Fin 262144} {s : State} {t : State} (h : s.dev.Sound)
    (e : execAckTimer flow s = .next t) : t.dev.Sound := by
  refine State.onDev_sound ?_ e; exact Device.ackTimer_sound h

theorem execHelloRetry_sound {flow : Fin 262144} {s : State} {t : State} (h : s.dev.Sound)
    (e : execHelloRetry flow s = .next t) : t.dev.Sound := by
  refine State.onDev_sound ?_ e; exact Device.helloRetry_sound h

theorem execFlowOpenTimeout_sound {flow : Fin 262144} {s : State} {t : State} (h : s.dev.Sound)
    (e : execFlowOpenTimeout flow s = .next t) : t.dev.Sound := by
  refine State.onDev_sound ?_ e; exact Device.flowTimeout_sound h

theorem execFlowCloseTimeout_sound {flow : Fin 262144} {s : State} {t : State} (h : s.dev.Sound)
    (e : execFlowCloseTimeout flow s = .next t) : t.dev.Sound := by
  refine State.onDev_sound ?_ e; exact Device.flowTimeout_sound h

theorem execRatePeriod_sound {flow : Fin 262144} {s : State} {t : State} (h : s.dev.Sound)
    (e : execRatePeriod flow s = .next t) : t.dev.Sound := by
  refine State.onDev_sound ?_ e; exact Device.ratePeriod_sound h

theorem execAqPenEnable_sound {part : PartId} {s : State} {t : State} (h : s.dev.Sound)
    (e : execAqPenEnable part s = .next t) : t.dev.Sound := by
  refine State.onDev_sound ?_ e; exact Device.aqPenEnable_sound h

theorem execAqPenDisable_sound {part : PartId} {s : State} {t : State} (h : s.dev.Sound)
    (e : execAqPenDisable part s = .next t) : t.dev.Sound := by
  refine State.onDev_sound ?_ e; exact Device.aqPenDisable_sound h

theorem execAqPdrainEnd_sound {part : PartId} {s : State} {t : State} (h : s.dev.Sound)
    (e : execAqPdrainEnd part s = .next t) : t.dev.Sound := by
  refine State.onDev_sound ?_ e; exact Device.aqDrainEnd_sound h

theorem execPortRemove_sound {port : PortId} {s : State} {t : State} (h : s.dev.Sound)
    (e : execPortRemove port s = .next t) : t.dev.Sound := by
  refine State.onDev_sound ?_ e; exact Device.portRemove_sound h

theorem execPortReadmit_sound {port : PortId} {s : State} {t : State} (h : s.dev.Sound)
    (e : execPortReadmit port s = .next t) : t.dev.Sound := by
  refine State.onDev_sound ?_ e; exact Device.portReadmit_sound h

theorem execPortRecal_sound {port : PortId} {s : State} {t : State} (h : s.dev.Sound) (e : execPortRecal port s = .next t) : t.dev.Sound := by
  refine State.onDev_sound ?_ e; exact Device.portRecal_sound h

theorem execPortDrainEnd_sound {port : PortId} {s : State} {t : State} (h : s.dev.Sound)
    (e : execPortDrainEnd port s = .next t) : t.dev.Sound := by
  refine State.onDev_sound ?_ e; exact Device.portDrainEnd_sound h

theorem execRecalEnd_sound {port : PortId} {s : State} {t : State} (h : s.dev.Sound) (e : execRecalEnd port s = .next t) : t.dev.Sound := by
  refine State.onDev_sound ?_ e; exact Device.recalEnd_sound h

theorem execPortLinkDown_sound {port : PortId} {s : State} {t : State} (h : s.dev.Sound)
    (e : execPortLinkDown port s = .next t) : t.dev.Sound := by
  refine State.onDev_sound ?_ e; exact Device.portLinkDown_sound h

theorem execPortLinkUp_sound {port : PortId} {s : State} {t : State} (h : s.dev.Sound)
    (e : execPortLinkUp port s = .next t) : t.dev.Sound := by
  refine State.onDev_sound ?_ e; exact Device.portLinkUp_sound h

theorem execAqPortIfaceWrite_sound {port : PortId} {iface : Fin 3} {s : State} {t : State} (h : s.dev.Sound)
    (e : execAqPortIfaceWrite port iface s = .next t) : t.dev.Sound := by
  refine State.onDev_sound ?_ e; exact Device.portIface_sound h

theorem execUpdDoorbell_sound {s : State} {t : State} (h : s.dev.Sound) (e : execUpdDoorbell s = .next t) : t.dev.Sound := by
  refine State.onDev_sound ?_ e; exact Device.updDoorbell_sound h

theorem execUpdDescCistern_sound {part : PartId} {s : State} {t : State} (h : s.dev.Sound)
    (e : execUpdDescCistern part s = .next t) : t.dev.Sound := by
  refine State.onDev_sound ?_ e; exact Device.updServe_sound h

theorem execUpdDescVector_sound {part : PartId} {s : State} {t : State} (h : s.dev.Sound)
    (e : execUpdDescVector part s = .next t) : t.dev.Sound := by
  refine State.onDev_sound ?_ e; exact Device.updServe_sound h

theorem execUpdNormpass_sound {part : PartId} {s : State} {t : State} (h : s.dev.Sound)
    (e : execUpdNormpass part s = .next t) : t.dev.Sound := by
  refine State.onDev_sound ?_ e; exact Device.updServe_sound h

theorem execCisternEngineStart_sound {chiplet : Fin 2} {s : State} {t : State} (h : s.dev.Sound)
    (e : execCisternEngineStart chiplet s = .next t) : t.dev.Sound := by
  refine State.onDev_sound ?_ e; exact Device.engineStart_sound h

theorem execCisternDescComplete_sound {chiplet : Fin 2} {s : State} {t : State} (h : s.dev.Sound)
    (e : execCisternDescComplete chiplet s = .next t) : t.dev.Sound := by
  refine State.onDev_sound ?_ e; exact Device.engineComplete_sound h

theorem execUpdEnable_sound {part : PartId} {s : State} {t : State} (h : s.dev.Sound) (e : execUpdEnable part s = .next t) : t.dev.Sound := by
  refine State.onDev_sound ?_ e; exact Device.updEnable_sound h

theorem execUpdDisable_sound {part : PartId} {s : State} {t : State} (h : s.dev.Sound)
    (e : execUpdDisable part s = .next t) : t.dev.Sound := by
  refine State.onDev_sound ?_ e; exact Device.updDisable_sound h

theorem execUpdDrainEnd_sound {part : PartId} {s : State} {t : State} (h : s.dev.Sound)
    (e : execUpdDrainEnd part s = .next t) : t.dev.Sound := by
  refine State.onDev_sound ?_ e; exact Device.updDrainEnd_sound h

theorem execCkptSliceStart_sound {part : PartId} {s : State} {t : State} (h : s.dev.Sound)
    (e : execCkptSliceStart part s = .next t) : t.dev.Sound := by
  refine State.onDev_sound ?_ e; exact Device.ckptStart_sound h

theorem execCkptCopyAhead_sound {page : Nat} {s : State} {t : State} (h : s.dev.Sound)
    (e : execCkptCopyAhead page s = .next t) : t.dev.Sound := by
  refine State.onDev_sound ?_ e; exact Device.copyAhead_sound h

theorem execCkptValidate_sound {part : PartId} {s : State} {t : State} (h : s.dev.Sound)
    (e : execCkptValidate part s = .next t) : t.dev.Sound := by
  refine State.onDev_sound ?_ e; exact Device.ckptValidate_sound h

theorem execCoreSpareMove_sound {core : CoreId} {s : State} {t : State} (h : s.dev.Sound)
    (e : execCoreSpareMove core s = .next t) : t.dev.Sound := by
  refine State.onDev_sound ?_ e; exact Device.spareMove_sound h

theorem execPageRetire_sound {address : Nat} {s : State} {t : State} (h : s.dev.Sound)
    (e : execPageRetire address s = .next t) : t.dev.Sound := by
  refine State.onDev_sound ?_ e; exact Device.pageRetire_sound h

theorem execCisScrubEnd_sound {chiplet : Fin 2} {s : State} {t : State} (h : s.dev.Sound)
    (e : execCisScrubEnd chiplet s = .next t) : t.dev.Sound := by
  refine State.onDev_sound ?_ e; exact Device.cisScrubEnd_sound h

theorem execShutdownComplete_sound {kind : Fin 3} {index : Fin 16} {s : State} {t : State} (h : s.dev.Sound)
    (e : execShutdownComplete kind index s = .next t) : t.dev.Sound := by
  refine State.onDev_sound ?_ e; exact Device.shutdownRow_sound h

theorem execSqTailWrite_sound {fn : FnId} {ring : Fin 32768} {value : Word} {entries : List Byte} {s : State} {t : State} (h : s.dev.Sound)
    (e : execSqTailWrite fn ring value entries s = .next t) : t.dev.Sound := by
  refine State.onDev_sound ?_ e; exact Device.znPump_sound (Device.sqTail_sound h)

theorem execCqHeadWrite_sound {fn : FnId} {ring : Fin 32768} {value : Word} {s : State} {t : State} (h : s.dev.Sound)
    (e : execCqHeadWrite fn ring value s = .next t) : t.dev.Sound := by
  refine State.onDev_sound ?_ e; exact Device.znPump_sound (Device.cqHeadWrite_sound h)

theorem execZnNop_sound {s : State} {t : State} (h : s.dev.Sound) (e : execZnNop s = .next t) : t.dev.Sound := by
  refine State.onDev_sound ?_ e
  with_reducible
    apply Device.znOp_sound; assumption; intro _; intro _; intro _; intro _; apply Device.complete_sound; assumption

theorem execZnIdentify_sound {s : State} {t : State} (h : s.dev.Sound) (e : execZnIdentify s = .next t) : t.dev.Sound := by
  refine State.onDev_sound ?_ e
  with_reducible
    apply Device.znOp_sound; assumption; intro _; intro _; intro _; intro _; apply Device.doIdentify_sound; assumption

theorem execZnRingCreate_sound {s : State} {t : State} (h : s.dev.Sound) (e : execZnRingCreate s = .next t) : t.dev.Sound := by
  refine State.onDev_sound ?_ e
  with_reducible
    apply Device.znOp_sound; assumption; intro _; intro _; intro _; intro _; apply Device.doRingCreate_sound; assumption

theorem execZnRingDelete_sound {s : State} {t : State} (h : s.dev.Sound) (e : execZnRingDelete s = .next t) : t.dev.Sound := by
  refine State.onDev_sound ?_ e
  with_reducible
    apply Device.znOp_sound; assumption; intro _; intro _; intro _; intro _; apply Device.doRingDelete_sound; assumption

theorem execZnVfConfig_sound {s : State} {t : State} (h : s.dev.Sound) (e : execZnVfConfig s = .next t) : t.dev.Sound := by
  refine State.onDev_sound ?_ e
  with_reducible
    apply Device.znOp_sound; assumption; intro _; intro _; intro _; intro _; apply Device.doVfConfig_sound; assumption

theorem execZnPrepareRemove_sound {s : State} {t : State} (h : s.dev.Sound) (e : execZnPrepareRemove s = .next t) : t.dev.Sound := by
  refine State.onDev_sound ?_ e
  with_reducible
    apply Device.znOp_sound; assumption; intro _; intro _; intro _; intro _; apply Device.doPrepareRemove_sound; assumption

theorem execZnOpQuery_sound {s : State} {t : State} (h : s.dev.Sound) (e : execZnOpQuery s = .next t) : t.dev.Sound := by
  refine State.onDev_sound ?_ e
  with_reducible
    apply Device.znOp_sound; assumption; intro _; intro _; intro _; intro _; apply Device.opQuery_sound; assumption

theorem execZnOpSuspend_sound {s : State} {t : State} (h : s.dev.Sound) (e : execZnOpSuspend s = .next t) : t.dev.Sound := by
  refine State.onDev_sound ?_ e
  with_reducible
    apply Device.znOp_sound; assumption; intro _; intro _; intro _; intro _; apply Device.opControl_sound; assumption

theorem execZnOpResume_sound {s : State} {t : State} (h : s.dev.Sound) (e : execZnOpResume s = .next t) : t.dev.Sound := by
  refine State.onDev_sound ?_ e
  with_reducible
    apply Device.znOp_sound; assumption; intro _; intro _; intro _; intro _; apply Device.opControl_sound; assumption

theorem execZnOpCancel_sound {s : State} {t : State} (h : s.dev.Sound) (e : execZnOpCancel s = .next t) : t.dev.Sound := by
  refine State.onDev_sound ?_ e
  with_reducible
    apply Device.znOp_sound; assumption; intro _; intro _; intro _; intro _; apply Device.opControl_sound; assumption

theorem execLongOpSafePoint_sound {op : Nat} {s : State} {t : State} (h : s.dev.Sound)
    (e : execLongOpSafePoint op s = .next t) : t.dev.Sound := by
  refine State.onDev_sound ?_ e; exact Device.znPump_sound (Device.safePoint_sound h)

theorem execLongOpDone_sound {op : Nat} {s : State} {t : State} (h : s.dev.Sound) (e : execLongOpDone op s = .next t) : t.dev.Sound := by
  refine State.onDev_sound ?_ e; exact Device.znPump_sound (Device.longOpDone_sound h)

theorem execZnPartConfig_sound {s : State} {t : State} (h : s.dev.Sound) (e : execZnPartConfig s = .next t) : t.dev.Sound := by
  refine State.onDev_sound ?_ e
  with_reducible
    apply Device.znOp_sound; assumption; intro _; intro _; intro _; intro _; apply Device.doPartConfig_sound; assumption

theorem execZnPartEnable_sound {s : State} {t : State} (h : s.dev.Sound) (e : execZnPartEnable s = .next t) : t.dev.Sound := by
  refine State.onDev_sound ?_ e
  with_reducible
    apply Device.znOp_sound; assumption; intro _; intro _; intro _; intro _; apply Device.doPartEnable_sound; assumption

theorem execZnPartDisable_sound {s : State} {t : State} (h : s.dev.Sound) (e : execZnPartDisable s = .next t) : t.dev.Sound := by
  refine State.onDev_sound ?_ e
  with_reducible
    apply Device.znOp_sound; assumption; intro _; intro _; intro _; intro _; apply Device.doPartDisable_sound; assumption

theorem execZnGranuleAssign_sound {s : State} {t : State} (h : s.dev.Sound) (e : execZnGranuleAssign s = .next t) : t.dev.Sound := by
  refine State.onDev_sound ?_ e
  with_reducible
    apply Device.znOp_sound; assumption; intro _; intro _; intro _; intro _; apply Device.doGranuleAssign_sound; assumption

theorem execZnGranuleRelease_sound {s : State} {t : State} (h : s.dev.Sound) (e : execZnGranuleRelease s = .next t) : t.dev.Sound := by
  refine State.onDev_sound ?_ e
  with_reducible
    apply Device.znOp_sound; assumption; intro _; intro _; intro _; intro _; apply Device.doGranuleRelease_sound; assumption

theorem execZnPtWrite_sound {s : State} {t : State} (h : s.dev.Sound) (e : execZnPtWrite s = .next t) : t.dev.Sound := by
  refine State.onDev_sound ?_ e
  with_reducible
    apply Device.znOp_sound; assumption; intro _; intro _; intro _; intro _; apply Device.doPtWrite_sound; assumption

theorem execZnPtRoot_sound {s : State} {t : State} (h : s.dev.Sound) (e : execZnPtRoot s = .next t) : t.dev.Sound := by
  refine State.onDev_sound ?_ e
  with_reducible
    apply Device.znOp_sound; assumption; intro _; intro _; intro _; intro _; apply Device.doPtRoot_sound; assumption

theorem execZnXlateInval_sound {s : State} {t : State} (h : s.dev.Sound) (e : execZnXlateInval s = .next t) : t.dev.Sound := by
  refine State.onDev_sound ?_ e
  with_reducible
    apply Device.znOp_sound; assumption; intro _; intro _; intro _; intro _; apply Device.doXlateInval_sound; assumption

theorem execZnScrub_sound {s : State} {t : State} (h : s.dev.Sound) (e : execZnScrub s = .next t) : t.dev.Sound := by
  refine State.onDev_sound ?_ e
  with_reducible
    apply Device.znOp_sound; assumption; intro _; intro _; intro _; intro _; apply Device.doScrub_sound; assumption

theorem execZnImemLoad_sound {s : State} {t : State} (h : s.dev.Sound) (e : execZnImemLoad s = .next t) : t.dev.Sound := by
  refine State.onDev_sound ?_ e
  with_reducible
    apply Device.znOp_sound; assumption; intro _; intro _; intro _; intro _; apply Device.doImemLoad_sound; assumption

theorem execZnCoreReset_sound {s : State} {t : State} (h : s.dev.Sound) (e : execZnCoreReset s = .next t) : t.dev.Sound := by
  refine State.onDev_sound ?_ e
  with_reducible
    apply Device.znOp_sound; assumption; intro _; intro _; intro _; intro _; apply Device.doCoreReset_sound; assumption

theorem execZnTableLoad_sound {s : State} {t : State} (h : s.dev.Sound) (e : execZnTableLoad s = .next t) : t.dev.Sound := by
  refine State.onDev_sound ?_ e; exact Device.tableLoadRow_sound h

theorem execZnTableBuild_sound {s : State} {t : State} (h : s.dev.Sound) (e : execZnTableBuild s = .next t) : t.dev.Sound := by
  refine State.onDev_sound ?_ e
  with_reducible
    apply Device.znOp_sound; assumption; intro _; intro _; intro _; intro _; apply Device.doTableBuild_sound; assumption

theorem execZnCoreSpare_sound {s : State} {t : State} (h : s.dev.Sound) (e : execZnCoreSpare s = .next t) : t.dev.Sound := by
  refine State.onDev_sound ?_ e
  with_reducible
    apply Device.znOp_sound; assumption; intro _; intro _; intro _; intro _; apply Device.doCoreSpare_sound; assumption

theorem execZnFlowOpen_sound {s : State} {t : State} (h : s.dev.Sound) (e : execZnFlowOpen s = .next t) : t.dev.Sound := by
  refine State.onDev_sound ?_ e
  with_reducible
    apply Device.znOp_sound; assumption; intro _; intro _; intro _; intro _; apply Device.doFlowOpen_sound; assumption

theorem execZnFlowClose_sound {s : State} {t : State} (h : s.dev.Sound) (e : execZnFlowClose s = .next t) : t.dev.Sound := by
  refine State.onDev_sound ?_ e
  with_reducible
    apply Device.znOp_sound; assumption; intro _; intro _; intro _; intro _; apply Device.doFlowClose_sound; assumption

theorem execZnFlowQuery_sound {s : State} {t : State} (h : s.dev.Sound) (e : execZnFlowQuery s = .next t) : t.dev.Sound := by
  refine State.onDev_sound ?_ e
  with_reducible
    apply Device.znOp_sound; assumption; intro _; intro _; intro _; intro _; apply Device.doFlowQuery_sound; assumption

theorem execZnKeyInstall_sound {s : State} {t : State} (h : s.dev.Sound) (e : execZnKeyInstall s = .next t) : t.dev.Sound := by
  refine State.onDev_sound ?_ e
  with_reducible
    apply Device.znOp_sound; assumption; intro _; intro _; intro _; intro _; apply Device.doKeyInstall_sound; assumption

theorem execZnKeySwitch_sound {s : State} {t : State} (h : s.dev.Sound) (e : execZnKeySwitch s = .next t) : t.dev.Sound := by
  refine State.onDev_sound ?_ e
  with_reducible
    apply Device.znOp_sound; assumption; intro _; intro _; intro _; intro _; apply Device.doKeySwitch_sound; assumption

theorem execZnKeyClear_sound {s : State} {t : State} (h : s.dev.Sound) (e : execZnKeyClear s = .next t) : t.dev.Sound := by
  refine State.onDev_sound ?_ e
  with_reducible
    apply Device.znOp_sound; assumption; intro _; intro _; intro _; intro _; apply Device.doKeyClear_sound; assumption

theorem execZnPortAdmit_sound {s : State} {t : State} (h : s.dev.Sound) (e : execZnPortAdmit s = .next t) : t.dev.Sound := by
  refine State.onDev_sound ?_ e
  with_reducible
    apply Device.znOp_sound; assumption; intro _; intro _; intro _; intro _; apply Device.doPortAdmit_sound; assumption

theorem execZnPortRecal_sound {s : State} {t : State} (h : s.dev.Sound) (e : execZnPortRecal s = .next t) : t.dev.Sound := by
  refine State.onDev_sound ?_ e
  with_reducible
    apply Device.znOp_sound; assumption; intro _; intro _; intro _; intro _; apply Device.doPortRecal_sound; assumption

theorem execZnRxringSet_sound {s : State} {t : State} (h : s.dev.Sound) (e : execZnRxringSet s = .next t) : t.dev.Sound := by
  refine State.onDev_sound ?_ e
  with_reducible
    apply Device.znOp_sound; assumption; intro _; intro _; intro _; intro _; apply Device.doRxRingSet_sound; assumption

theorem execZnAqEnable_sound {s : State} {t : State} (h : s.dev.Sound) (e : execZnAqEnable s = .next t) : t.dev.Sound := by
  refine State.onDev_sound ?_ e
  with_reducible
    apply Device.znOp_sound; assumption; intro _; intro _; intro _; intro _; apply Device.doAqEnable_sound; assumption

theorem execZnGroupSet_sound {s : State} {t : State} (h : s.dev.Sound) (e : execZnGroupSet s = .next t) : t.dev.Sound := by
  refine State.onDev_sound ?_ e
  with_reducible
    apply Device.znOp_sound; assumption; intro _; intro _; intro _; intro _; apply Device.doGroupSet_sound; assumption

theorem execZnUpdEnable_sound {s : State} {t : State} (h : s.dev.Sound) (e : execZnUpdEnable s = .next t) : t.dev.Sound := by
  refine State.onDev_sound ?_ e
  with_reducible
    apply Device.znOp_sound; assumption; intro _; intro _; intro _; intro _; apply Device.doUpdEnable_sound; assumption

theorem execZnCkpt_sound {s : State} {t : State} (h : s.dev.Sound) (e : execZnCkpt s = .next t) : t.dev.Sound := by
  refine State.onDev_sound ?_ e
  with_reducible
    apply Device.znOp_sound; assumption; intro _; intro _; intro _; intro _; apply Device.doCkpt_sound; assumption

theorem execZnRestore_sound {s : State} {t : State} (h : s.dev.Sound) (e : execZnRestore s = .next t) : t.dev.Sound := by
  refine State.onDev_sound ?_ e
  with_reducible
    apply Device.znOp_sound; assumption; intro _; intro _; intro _; intro _; apply Device.doRestore_sound; assumption

theorem execZnDieEnable_sound {s : State} {t : State} (h : s.dev.Sound) (e : execZnDieEnable s = .next t) : t.dev.Sound := by
  refine State.onDev_sound ?_ e
  with_reducible
    apply Device.znOp_sound; assumption; intro _; intro _; intro _; intro _; apply Device.doDieEnable_sound; assumption

theorem execZnDieDisable_sound {s : State} {t : State} (h : s.dev.Sound) (e : execZnDieDisable s = .next t) : t.dev.Sound := by
  refine State.onDev_sound ?_ e
  with_reducible
    apply Device.znOp_sound; assumption; intro _; intro _; intro _; intro _; apply Device.doDieDisable_sound; assumption

theorem execZnCisEnable_sound {s : State} {t : State} (h : s.dev.Sound) (e : execZnCisEnable s = .next t) : t.dev.Sound := by
  refine State.onDev_sound ?_ e
  with_reducible
    apply Device.znOp_sound; assumption; intro _; intro _; intro _; intro _; apply Device.doCisEnable_sound; assumption

theorem execZnCisDisable_sound {s : State} {t : State} (h : s.dev.Sound) (e : execZnCisDisable s = .next t) : t.dev.Sound := by
  refine State.onDev_sound ?_ e
  with_reducible
    apply Device.znOp_sound; assumption; intro _; intro _; intro _; intro _; apply Device.doCisDisable_sound; assumption

theorem execZnFwStage_sound {image : List Byte} {s : State} {t : State} (h : s.dev.Sound)
    (e : execZnFwStage image s = .next t) : t.dev.Sound := by
  refine State.onDev_sound ?_ e
  with_reducible
    apply Device.znOp_sound; assumption; intro _; intro _; intro _; intro _; apply Device.doFwStage_sound; assumption

theorem execZnFwActivate_sound {s : State} {t : State} (h : s.dev.Sound) (e : execZnFwActivate s = .next t) : t.dev.Sound := by
  refine State.onDev_sound ?_ e; exact Device.fwActivateRow_sound h

theorem execZnFwRollback_sound {s : State} {t : State} (h : s.dev.Sound) (e : execZnFwRollback s = .next t) : t.dev.Sound := by
  refine State.onDev_sound ?_ e
  with_reducible
    apply Device.znOp_sound; assumption; intro _; intro _; intro _; intro _; apply Device.doFwRollback_sound; assumption

theorem execFwFirstStartResult_sound {subsystem : Fin 7} {ok : Bool} {s : State} {t : State} (h : s.dev.Sound)
    (e : execFwFirstStartResult subsystem ok s = .next t) : t.dev.Sound := by
  refine State.onDev_sound ?_ e; exact Device.znPump_sound (Device.firstStart_sound h)

theorem execZnPageRetire_sound {s : State} {t : State} (h : s.dev.Sound) (e : execZnPageRetire s = .next t) : t.dev.Sound := by
  refine State.onDev_sound ?_ e
  with_reducible
    apply Device.znOp_sound; assumption; intro _; intro _; intro _; intro _; apply Device.doPageRetire_sound; assumption

theorem execZnCalibrate_sound {s : State} {t : State} (h : s.dev.Sound) (e : execZnCalibrate s = .next t) : t.dev.Sound := by
  refine State.onDev_sound ?_ e
  with_reducible
    apply Device.znOp_sound; assumption; intro _; intro _; intro _; intro _; apply Device.doCalibrate_sound; assumption

theorem execLifecycleSecured_sound {s : State} {t : State} (h : s.dev.Sound) (e : execLifecycleSecured s = .next t) : t.dev.Sound := by
  refine State.onDev_sound ?_ e
  with_reducible
    apply Device.znRow_sound; assumption; intro _; intro _; intro _; intro _; apply Device.doLifecycle_sound; assumption

theorem execLifecycleService_sound {s : State} {t : State} (h : s.dev.Sound) (e : execLifecycleService s = .next t) : t.dev.Sound := by
  refine State.onDev_sound ?_ e
  with_reducible
    apply Device.znRow_sound; assumption; intro _; intro _; intro _; intro _; apply Device.doLifecycle_sound; assumption

theorem execLifecycleRetired_sound {s : State} {t : State} (h : s.dev.Sound) (e : execLifecycleRetired s = .next t) : t.dev.Sound := by
  refine State.onDev_sound ?_ e
  with_reducible
    apply Device.znRow_sound; assumption; intro _; intro _; intro _; intro _; apply Device.doLifecycle_sound; assumption

theorem execZnDebugOpen_sound {s : State} {t : State} (h : s.dev.Sound) (e : execZnDebugOpen s = .next t) : t.dev.Sound := by
  refine State.onDev_sound ?_ e
  with_reducible
    apply Device.znOp_sound; assumption; intro _; intro _; intro _; intro _; apply Device.doDebugOpen_sound; assumption

theorem execZnDebugClose_sound {s : State} {t : State} (h : s.dev.Sound) (e : execZnDebugClose s = .next t) : t.dev.Sound := by
  refine State.onDev_sound ?_ e
  with_reducible
    apply Device.znOp_sound; assumption; intro _; intro _; intro _; intro _; apply Device.doDebugClose_sound; assumption

theorem execZnZeroise_sound {s : State} {t : State} (h : s.dev.Sound) (e : execZnZeroise s = .next t) : t.dev.Sound := by
  refine State.onDev_sound ?_ e
  with_reducible
    apply Device.znOp_sound; assumption; intro _; intro _; intro _; intro _; apply Device.doZeroise_sound; assumption

theorem execZnCfgFactory_sound {s : State} {t : State} (h : s.dev.Sound) (e : execZnCfgFactory s = .next t) : t.dev.Sound := by
  refine State.onDev_sound ?_ e
  with_reducible
    apply Device.znOp_sound; assumption; intro _; intro _; intro _; intro _; apply Device.doCfgFactory_sound; assumption

theorem execZnPowerLimit_sound {s : State} {t : State} (h : s.dev.Sound) (e : execZnPowerLimit s = .next t) : t.dev.Sound := by
  refine State.onDev_sound ?_ e
  with_reducible
    apply Device.znOp_sound; assumption; intro _; intro _; intro _; intro _; apply Device.doPowerLimit_sound; assumption

theorem execZnPowerState_sound {s : State} {t : State} (h : s.dev.Sound) (e : execZnPowerState s = .next t) : t.dev.Sound := by
  refine State.onDev_sound ?_ e
  with_reducible
    apply Device.znRow_sound; assumption; intro _; intro _; intro _; intro _; apply Device.doPowerState_sound; assumption

theorem execIdleEntry_sound {s : State} {t : State} (h : s.dev.Sound) (e : execIdleEntry s = .next t) : t.dev.Sound := by
  refine State.onDev_sound ?_ e
  with_reducible
    apply Device.znRow_sound; assumption; intro _; intro _; intro _; intro _; apply Device.doIdle_sound; assumption

theorem execStandbyEntry_sound {s : State} {t : State} (h : s.dev.Sound) (e : execStandbyEntry s = .next t) : t.dev.Sound := by
  refine State.onDev_sound ?_ e
  with_reducible
    apply Device.znRow_sound; assumption; intro _; intro _; intro _; intro _; apply Device.doStandby_sound; assumption

theorem execActiveReturn_sound {s : State} {t : State} (h : s.dev.Sound) (e : execActiveReturn s = .next t) : t.dev.Sound := by
  refine State.onDev_sound ?_ e
  with_reducible
    apply Device.znRow_sound; assumption; intro _; intro _; intro _; intro _; apply Device.doActive_sound; assumption

theorem execZnCfgRead_sound {s : State} {t : State} (h : s.dev.Sound) (e : execZnCfgRead s = .next t) : t.dev.Sound := by
  refine State.onDev_sound ?_ e
  with_reducible
    apply Device.znOp_sound; assumption; intro _; intro _; intro _; intro _; apply Device.doCfgRead_sound; assumption

theorem execZnCfgWrite_sound {s : State} {t : State} (h : s.dev.Sound) (e : execZnCfgWrite s = .next t) : t.dev.Sound := by
  refine State.onDev_sound ?_ e
  with_reducible
    apply Device.znOp_sound; assumption; intro _; intro _; intro _; intro _; apply Device.doCfgWrite_sound; assumption

theorem execCfgStoreWriteDone_sound {ok : Bool} {s : State} {t : State} (h : s.dev.Sound)
    (e : execCfgStoreWriteDone ok s = .next t) : t.dev.Sound := by
  refine State.onDev_sound ?_ e; exact Device.znPump_sound (Device.storeWriteDone_sound h)

theorem execZnCtlEnable_sound {fn : FnId} {s : State} {t : State} (h : s.dev.Sound) (e : execZnCtlEnable fn s = .next t) : t.dev.Sound := by
  refine State.onDev_sound ?_ e; exact Device.ctlEnable_sound h

theorem execZnCtlDisable_sound {fn : FnId} {s : State} {t : State} (h : s.dev.Sound) (e : execZnCtlDisable fn s = .next t) : t.dev.Sound := by
  refine State.onDev_sound ?_ e; exact Device.ctlDisable_sound h

theorem execBar4Read_sound {fn : FnId} {offset : Nat} {len : Nat} {s : State} {t : State} (h : s.dev.Sound)
    (e : execBar4Read fn offset len s = .next t) : t.dev.Sound := by
  refine State.onDev_sound ?_ e; exact Device.bar4Read_sound h

theorem execBar4Write_sound {fn : FnId} {offset : Nat} {data : List Byte} {s : State} {t : State} (h : s.dev.Sound)
    (e : execBar4Write fn offset data s = .next t) : t.dev.Sound := by
  refine State.onDev_sound ?_ e; exact Device.bar4Write_sound h

theorem execSurpriseRemoval_sound {s : State} {t : State} (h : s.dev.Sound) (e : execSurpriseRemoval s = .next t) : t.dev.Sound := by
  refine State.onDev_sound ?_ e; exact Device.surpriseRemoval_sound h

theorem execFunctionLevelReset_sound {fn : FnId} {s : State} {t : State} (h : s.dev.Sound)
    (e : execFunctionLevelReset fn s = .next t) : t.dev.Sound := by
  refine State.onDev_sound ?_ e; exact Device.flr_sound h

theorem execMctpControlMessage_sound {endpoint : Option (Fin 256)} {request : List Byte} {s : State} {t : State} (h : s.dev.Sound)
    (e : execMctpControlMessage endpoint request s = .next t) : t.dev.Sound := by
  refine State.onDev_sound ?_ e; exact Device.mctpControl_sound h

theorem execPldmType0_sound {request : List Byte} {s : State} {t : State} (h : s.dev.Sound)
    (e : execPldmType0 request s = .next t) : t.dev.Sound := by
  refine State.onDev_sound ?_ e; exact Device.pldmBase_sound h

theorem execPldmSensorRead_sound {request : List Byte} {s : State} {t : State} (h : s.dev.Sound)
    (e : execPldmSensorRead request s = .next t) : t.dev.Sound := by
  refine State.onDev_sound ?_ e; exact Device.pldmSensor_sound h

theorem execPldmFwUpdate_sound {subsystem : Fin 7} {activate : Bool} {image : List Byte} {s : State} {t : State} (h : s.dev.Sound)
    (e : execPldmFwUpdate subsystem activate image s = .next t) : t.dev.Sound := by
  refine State.onDev_sound ?_ e; exact Device.pldmUpdate_sound h

theorem execMctpZennus_sound {packet : List Byte} {s : State} {t : State} (h : s.dev.Sound)
    (e : execMctpZennus packet s = .next t) : t.dev.Sound := by
  refine State.onDev_sound ?_ e; exact Device.mctpZennus_sound h

theorem execEvtRaise_sound {fn : FnId} {source : Fin 4096} {s : State} {t : State} (h : s.dev.Sound)
    (e : execEvtRaise fn source s = .next t) : t.dev.Sound := by
  refine State.onDev_sound ?_ e; exact Device.evtRaise_sound h

theorem execEvtComplete_sound {fn : FnId} {source : Fin 4096} {s : State} {t : State} (h : s.dev.Sound)
    (e : execEvtComplete fn source s = .next t) : t.dev.Sound := by
  refine State.onDev_sound ?_ e; exact Device.evtDone_sound h

theorem execEventDelivery_sound {s : State} {t : State} (h : s.dev.Sound) (e : execEventDelivery s = .next t) : t.dev.Sound := by
  refine State.onDev_sound ?_ e; exact Device.eventDelivery_sound h

theorem execMgmtEventHandled_sound {s : State} {t : State} (h : s.dev.Sound) (e : execMgmtEventHandled s = .next t) : t.dev.Sound := by
  refine State.onDev_sound ?_ e; exact Device.mgmtHandled_sound h

theorem execEvtFnWinWrite_sound {vf : FnId} {base : Fin 4096} {count : Fin 512} {s : State} {t : State} (h : s.dev.Sound)
    (e : execEvtFnWinWrite vf base count s = .next t) : t.dev.Sound := by
  refine State.onDev_sound ?_ e; exact Device.fnWindow_sound h

theorem execEvtEnable_sound {enable : Bool} {s : State} {t : State} (h : s.dev.Sound)
    (e : execEvtEnable enable s = .next t) : t.dev.Sound := by
  refine State.onDev_sound ?_ e; exact Device.evtEnable_sound h

theorem execPresencePress_sound {fell : Nat} {s : State} {t : State} (h : s.dev.Sound)
    (e : execPresencePress fell s = .next t) : t.dev.Sound := by
  refine State.onDev_sound ?_ e; exact Device.press_sound h

theorem execPresenceTimeout_sound {s : State} {t : State} (h : s.dev.Sound) (e : execPresenceTimeout s = .next t) : t.dev.Sound := by
  refine State.onDev_sound ?_ e; exact Device.presTimeout_sound h

theorem execSealOpen_sound {s : State} {t : State} (h : s.dev.Sound) (e : execSealOpen s = .next t) : t.dev.Sound := by
  refine State.onDev_sound ?_ e; exact Device.znPump_sound (Device.tamper_sound h)

theorem execSvcJumperChange_sound {fitted : Bool} {s : State} {t : State} (h : s.dev.Sound)
    (e : execSvcJumperChange fitted s = .next t) : t.dev.Sound := by
  refine State.onDev_sound ?_ e; exact Device.jumperChange_sound h

theorem execDebugAccess_sound {s : State} {t : State} (h : s.dev.Sound) (e : execDebugAccess s = .next t) : t.dev.Sound := by
  refine State.onDev_sound ?_ e; exact Device.debugAccess_sound h

theorem execIdcode_sound {s : State} {t : State} (h : s.dev.Sound) (e : execIdcode s = .next t) : t.dev.Sound := by
  refine State.onDev_sound ?_ e; exact Device.jtagIdcode_sound h

theorem execBypass_sound {s : State} {t : State} (h : s.dev.Sound) (e : execBypass s = .next t) : t.dev.Sound := by
  refine State.onDev_sound ?_ e; exact Device.jtagBypass_sound h

theorem execSamplePreload_sound {pins : List Bool} {data : List Bool} {s : State} {t : State} (h : s.dev.Sound)
    (e : execSamplePreload pins data s = .next t) : t.dev.Sound := by
  refine State.onDev_sound ?_ e; exact Device.jtagSample_sound h

theorem execExtest_sound {pins : List Bool} {data : List Bool} {s : State} {t : State} (h : s.dev.Sound)
    (e : execExtest pins data s = .next t) : t.dev.Sound := by
  refine State.onDev_sound ?_ e; exact Device.jtagExtest_sound h

theorem execThermalSample_sound {temps : List Int} {s : State} {t : State} (h : s.dev.Sound)
    (e : execThermalSample temps s = .next t) : t.dev.Sound := by
  refine State.onDev_sound ?_ e; exact Device.thermalSample_sound h

theorem execThermalHoldStep_sound {s : State} {t : State} (h : s.dev.Sound) (e : execThermalHoldStep s = .next t) : t.dev.Sound := by
  refine State.onDev_sound ?_ e; exact Device.holdStep_sound h

theorem execThermalShutdown_sound {s : State} {t : State} (h : s.dev.Sound) (e : execThermalShutdown s = .next t) : t.dev.Sound := by
  refine State.onDev_sound ?_ e; exact Device.thermalShutdown_sound h

theorem execThermalRestart_sound {temp : Int} {s : State} {t : State} (h : s.dev.Sound)
    (e : execThermalRestart temp s = .next t) : t.dev.Sound := by
  refine State.onDev_sound ?_ e; exact Device.thermalRestart_sound h

theorem execGovernorDecision_sound {s : State} {t : State} (h : s.dev.Sound) (e : execGovernorDecision s = .next t) : t.dev.Sound := by
  refine State.onDev_sound ?_ e; exact Device.governor_sound h

theorem execPowerSample_sound {mv : Nat} {ca : Nat} {watts : Nat} {s : State} {t : State} (h : s.dev.Sound)
    (e : execPowerSample mv ca watts s = .next t) : t.dev.Sound := by
  refine State.onDev_sound ?_ e; exact Device.powerSample_sound h

theorem execPwrEnRise_sound {s : State} {t : State} (h : s.dev.Sound) (e : execPwrEnRise s = .next t) : t.dev.Sound := by
  refine State.onDev_sound ?_ e; exact Device.pwrEnRise_sound h

theorem execPwrEnFall_sound {s : State} {t : State} (h : s.dev.Sound) (e : execPwrEnFall s = .next t) : t.dev.Sound := by
  refine State.onDev_sound ?_ e; exact Device.pwrEnFall_sound h

theorem execInputExcursion_sound {s : State} {t : State} (h : s.dev.Sound) (e : execInputExcursion s = .next t) : t.dev.Sound := by
  refine State.onDev_sound ?_ e; exact Device.inputExcursion_sound h

theorem execInputLoss_sound {s : State} {t : State} (h : s.dev.Sound) (e : execInputLoss s = .next t) : t.dev.Sound := by
  refine State.onDev_sound ?_ e; exact Device.inputLost_sound h

theorem execInputOvervoltage_sound {s : State} {t : State} (h : s.dev.Sound) (e : execInputOvervoltage s = .next t) : t.dev.Sound := by
  refine State.onDev_sound ?_ e; exact Device.inputOver_sound h

theorem execInputOvercurrent_sound {s : State} {t : State} (h : s.dev.Sound) (e : execInputOvercurrent s = .next t) : t.dev.Sound := by
  refine State.onDev_sound ?_ e; exact Device.inputCurrent_sound h

theorem execInputRestored_sound {s : State} {t : State} (h : s.dev.Sound) (e : execInputRestored s = .next t) : t.dev.Sound := by
  refine State.onDev_sound ?_ e; exact Device.inputRestored_sound h

theorem execRailFault_sound {rail : Nat} {s : State} {t : State} (h : s.dev.Sound) (e : execRailFault rail s = .next t) : t.dev.Sound := by
  refine State.onDev_sound ?_ e; exact Device.railFault_sound h

theorem execPerstAssert_sound {s : State} {t : State} (h : s.dev.Sound) (e : execPerstAssert s = .next t) : t.dev.Sound := by
  refine State.onDev_sound ?_ e; exact Device.perstAssert_sound h

theorem execPerstRelease_sound {s : State} {t : State} (h : s.dev.Sound) (e : execPerstRelease s = .next t) : t.dev.Sound := by
  refine State.onDev_sound ?_ e; exact Device.perstRelease_sound h

theorem execCfgWarmWrite_sound {value : Word} {s : State} {t : State} (h : s.dev.Sound)
    (e : execCfgWarmWrite value s = .next t) : t.dev.Sound := by
  refine State.onDev_sound ?_ e; exact Device.cfgWarm_sound h

theorem execWarmReset_sound {s : State} {t : State} (h : s.dev.Sound) (e : execWarmReset s = .next t) : t.dev.Sound := by
  refine State.onDev_sound ?_ e; exact Device.warmStart_sound h

theorem execColdStart_sound {s : State} {t : State} (h : s.dev.Sound) (e : execColdStart s = .next t) : t.dev.Sound := by
  refine State.onDev_sound ?_ e; exact Device.coldStart_sound h

theorem execBootStageComplete_sound {hbmMask : Fin 256} {chiplets : Fin 4} {s : State} {t : State} (h : s.dev.Sound)
    (e : execBootStageComplete hbmMask chiplets s = .next t) : t.dev.Sound := by
  refine State.onDev_sound ?_ e; exact Device.znPump_sound (Device.bootStage_sound h)

theorem execFaultRecordDelivery_sound {s : State} {t : State} (h : s.dev.Sound) (e : execFaultRecordDelivery s = .next t) : t.dev.Sound := by
  refine State.onDev_sound ?_ e; exact Device.faultDelivery_sound h

theorem execFaultRingEnable_sound {fn : FnId} {s : State} {t : State} (h : s.dev.Sound)
    (e : execFaultRingEnable fn s = .next t) : t.dev.Sound := by
  refine State.onDev_sound ?_ e; exact Device.faultRingEnable_sound h

theorem execTraceEnable_sound {s : State} {t : State} (h : s.dev.Sound) (e : execTraceEnable s = .next t) : t.dev.Sound := by
  refine State.onDev_sound ?_ e; exact Device.traceEnable_sound h

theorem execStallClear_sound {core : CoreId} {s : State} {t : State} (h : s.dev.Sound)
    (e : execStallClear core s = .next t) : t.dev.Sound := by
  refine State.onDev_sound ?_ e; exact Device.stallClear_sound h

theorem execCoreStallLoRead_sound {core : CoreId} {row : Fin 7} {counter : Fin 12} {s : State} {t : State} (h : s.dev.Sound)
    (e : execCoreStallLoRead core row counter s = .next t) : t.dev.Sound := by
  refine State.onDev_sound ?_ e; exact Device.stallLoRead_sound h

theorem execRetireWindowExpire_sound {s : State} {t : State} (h : s.dev.Sound) (e : execRetireWindowExpire s = .next t) : t.dev.Sound := by
  refine State.onDev_sound ?_ e; exact Device.windowExpire_sound h

theorem execPfcPauseExpiry_sound {port : PortId} {prio : Fin 8} {s : State} {t : State} (h : s.dev.Sound)
    (e : execPfcPauseExpiry port prio s = .next t) : t.dev.Sound := by
  refine State.onDev_sound ?_ e; exact Device.pfcExpire_sound h

theorem execIllegalInstruction_sound {core : CoreId} {s : State} {t : State} (h : s.dev.Sound)
    (e : execIllegalInstruction core s = .next t) : t.dev.Sound := by
  refine State.onDev_sound ?_ e; exact Device.illegalOp_sound h

theorem execConfigurationRequest_sound {fn : FnId} {field : Fin 6} {value : Nat} {s : State} {t : State} (h : s.dev.Sound)
    (e : execConfigurationRequest fn field value s = .next t) : t.dev.Sound := by
  refine State.onDev_sound ?_ e; exact Device.cfgRequest_sound h

theorem execLinkRetrain_sound {s : State} {t : State} (h : s.dev.Sound) (e : execLinkRetrain s = .next t) : t.dev.Sound := by
  refine State.onDev_sound ?_ e; exact Device.znPump_sound h

/-! ## The rows that stand for another instruction: a single step (R564), and writes that start one -/

theorem issueWord_sound {core : CoreId} {w : Nat} {s t : State} (h : s.dev.Sound) (e : issueWord core w s = .next t) : t.dev.Sound := by
  unfold issueWord at e
  split at e
  · unfold issueR at e
    split at e
    · exact execAdd_sound h e
    · exact execSub_sound h e
    · exact execMul_sound h e
    · exact execMla_sound h e
    · exact execAnd_sound h e
    · exact execOr_sound h e
    · exact execXor_sound h e
    · exact execShl_sound h e
    · exact execShr_sound h e
    · exact execSra_sound h e
    · exact execMin_sound h e
    · exact execMax_sound h e
    · exact execMinu_sound h e
    · exact execMaxu_sound h e
    · exact execSlt_sound h e
    · exact execSltu_sound h e
    · exact execSeq_sound h e
    · exact execIllegalInstruction_sound h e
  · split at e
    · unfold issueI at e
      split at e
      · exact execAddi_sound h e
      · exact execAndi_sound h e
      · exact execOri_sound h e
      · exact execXori_sound h e
      · exact execShli_sound h e
      · exact execShri_sound h e
      · exact execSrai_sound h e
      · exact execSlti_sound h e
      · exact execMovk_sound h e
      · exact execLui_sound h e
      · exact execLd8u_sound h e
      · exact execLd16u_sound h e
      · exact execLd32u_sound h e
      · exact execLd32s_sound h e
      · exact execLd64_sound h e
      · exact execSt8_sound h e
      · exact execSt16_sound h e
      · exact execSt32_sound h e
      · exact execSt64_sound h e
      · exact execLsld_sound h e
      · exact execLsst_sound h e
      · exact execLscp_sound h e
      · exact execIllegalInstruction_sound h e
    · unfold issueB at e
      split at e
      · exact execBeq_sound h e
      · exact execBne_sound h e
      · exact execBlt_sound h e
      · exact execBge_sound h e
      · exact execBltu_sound h e
      · exact execBgeu_sound h e
      · exact execJal_sound h e
      · exact execJr_sound h e
      · exact execDbnz_sound h e
      · exact execPget_sound h e
      · exact execPset_sound h e
      · exact execRdsr_sound h e
      · exact execFins_sound h e
      · exact execPush_sound h e
      · exact execGate_sound h e
      · exact execSemsig_sound h e
      · exact execSemwait_sound h e
      · exact execSemrd_sound h e
      · exact execNop_sound h e
      · exact execRend_sound h e
      · exact execHalt_sound h e
      · exact execIllegalInstruction_sound h e

theorem stepCore_sound {core : CoreId} {s t : State} (h : s.dev.Sound) (e : stepCore core s = .next t) : t.dev.Sound := by
  unfold stepCore at e
  split at e
  · cases e; exact Device.dbgEnd_sound h
  · split at e
    · cases e; exact Device.stepNothing_sound h
    · split at e
      · rename_i hw
        cases e
        exact Device.stepEnd_sound (issueWord_sound (s := { s with dev := s.dev.stepBegin core }) (Device.stepBegin_sound h) hw)
      · rename_i hn
        exact absurd e (hn t)

theorem execRegisterWrite_sound {fn : FnId} {offset : Fin 67108864} {value : Word} {s t : State} (h : s.dev.Sound)
    (e : execRegisterWrite fn offset value s = .next t) : t.dev.Sound := by
  unfold execRegisterWrite registerWrite at e
  split at e
  · cases e; exact Device.denied_sound h
  · split at e
    · cases e
    · dsimp only at e
      split at e
      · exact stepCore_sound (Device.regWrite_sound h) e
      · cases e; exact Device.regWrite_sound h

theorem execDebugStep_sound {s t : State} (h : s.dev.Sound) (e : execDebugStep s = .next t) : t.dev.Sound := stepCore_sound h e

theorem execDbgport_sound {ctl : Word} {address : Nat} {data : Nat} {s t : State} (h : s.dev.Sound)
    (e : execDbgport ctl address data s = .next t) : t.dev.Sound := by
  unfold execDbgport dbgPortRow at e
  have hj : ((s.dev.jtag .dbgport s.dev.dbgPort).dbgPortLoad ctl address data).Sound :=
    Device.dbgPortLoad_sound (Device.jtag_sound h)
  dsimp only at e
  split at e
  · cases e; exact Device.jtagBypass_sound h
  · split at e
    · cases e; exact Device.debugAccess_sound hj
    · split at e
      · exact stepCore_sound hj e
      · cases e; exact hj

end Machine
end Sys2Proof
end

