-- ==== Sys2Proof/WellFormed.lean ====
section
/-!
DEFINITION. Which commands are well formed: operands that their types do not already bound have the widths and lengths that the manual gives
them. Nothing in the machine rests on it: a command that is not well formed is one that no sender can form.
-/
namespace Sys2Proof

/-- A command whose operands the manual allows. -/
def Instr.wellFormed (i : Instr) : Bool :=
  match i with
  | .registerWrite _ _ _ => true
  | .slotFailure _ _ => true
  | .linkCheckFail _ => true
  | .mxMm _ => true
  | .mxEarlyStart _ => true
  | .mxGangRelease => true
  | .mxWsum _ => true
  | .mxWfin _ => true
  | .spMv _ => true
  | .spGangRelease => true
  | .siphonTakeCommand _ => true
  | .siphonEarlyStart _ => true
  | .engineCommandRetire _ _ => true
  | .gateRelease _ _ => true
  | .vxSetvl _ => true
  | .vxLd _ => true
  | .vxSt _ => true
  | .vxLdcvt _ => true
  | .vxStcvt _ => true
  | .vxLdm _ => true
  | .vxStm _ => true
  | .vxAdd _ => true
  | .vxSub _ => true
  | .vxMul _ => true
  | .vxFma _ => true
  | .vxFms _ => true
  | .vxFnma _ => true
  | .vxMin _ => true
  | .vxMax _ => true
  | .vxAbs _ => true
  | .vxNeg _ => true
  | .vxCopysign _ => true
  | .vxIadd _ => true
  | .vxIsub _ => true
  | .vxImul _ => true
  | .vxIadds _ => true
  | .vxIsubs _ => true
  | .vxImin _ => true
  | .vxImax _ => true
  | .vxIabs _ => true
  | .vxAnd _ => true
  | .vxOr _ => true
  | .vxXor _ => true
  | .vxShl _ => true
  | .vxShra _ => true
  | .vxShrl _ => true
  | .vxIota _ => true
  | .vxCmpEq _ => true
  | .vxCmpNe _ => true
  | .vxCmpLt _ => true
  | .vxCmpLe _ => true
  | .vxCmpGt _ => true
  | .vxCmpGe _ => true
  | .vxCmpUno _ => true
  | .vxSel _ => true
  | .vxCvt _ => true
  | .vxRsum _ => true
  | .vxRmax _ => true
  | .vxRmin _ => true
  | .vxMand _ => true
  | .vxMor _ => true
  | .vxMxor _ => true
  | .vxMandn _ => true
  | .vxMnot _ => true
  | .vxMset _ => true
  | .vxMclr _ => true
  | .vxMcnt _ => true
  | .vxMfirst _ => true
  | .vxMov _ => true
  | .sfExp _ => true
  | .sfExp2 _ => true
  | .sfLog _ => true
  | .sfLog2 _ => true
  | .sfRecip _ => true
  | .sfSqrt _ => true
  | .sfRsqrt _ => true
  | .sfTanh _ => true
  | .sfSigmoid _ => true
  | .sfErf _ => true
  | .sfGelu _ => true
  | .sfGeluTanh _ => true
  | .sfSilu _ => true
  | .sfSoftplus _ => true
  | .sfSin _ => true
  | .sfCos _ => true
  | .sfTab _ => true
  | .vxScanAdd _ => true
  | .vxScanMax _ => true
  | .vxScanMin _ => true
  | .vxScanProd _ => true
  | .vxScanLse _ => true
  | .vxScanAffine _ => true
  | .vxScanAffinePair _ => true
  | .vxBscanAdd _ => true
  | .vxBscanMax _ => true
  | .vxBscanMin _ => true
  | .vxBscanProd _ => true
  | .vxBscanLse _ => true
  | .vxBscanAffine _ => true
  | .vxBscanAffinePair _ => true
  | .vxCget _ => true
  | .vxCset _ => true
  | .vxRstat _ => true
  | .vxRstatc _ => true
  | .vxSmxMax _ => true
  | .vxSmxSum _ => true
  | .add _ => true
  | .sub _ => true
  | .mul _ => true
  | .mla _ => true
  | .and _ => true
  | .or _ => true
  | .xor _ => true
  | .shl _ => true
  | .shr _ => true
  | .sra _ => true
  | .min _ => true
  | .max _ => true
  | .minu _ => true
  | .maxu _ => true
  | .slt _ => true
  | .sltu _ => true
  | .seq _ => true
  | .addi _ => true
  | .andi _ => true
  | .ori _ => true
  | .xori _ => true
  | .shli _ => true
  | .shri _ => true
  | .srai _ => true
  | .slti _ => true
  | .movk _ => true
  | .lui _ => true
  | .ld8u _ => true
  | .ld16u _ => true
  | .ld32u _ => true
  | .ld32s _ => true
  | .ld64 _ => true
  | .st8 _ => true
  | .st16 _ => true
  | .st32 _ => true
  | .st64 _ => true
  | .lsld _ => true
  | .lsst _ => true
  | .lscp _ => true
  | .beq _ => true
  | .bne _ => true
  | .blt _ => true
  | .bge _ => true
  | .bltu _ => true
  | .bgeu _ => true
  | .jal _ => true
  | .jr _ => true
  | .dbnz _ => true
  | .pget _ => true
  | .pset _ => true
  | .rdsr _ => true
  | .fins _ => true
  | .push _ => true
  | .gate _ => true
  | .semsig _ => true
  | .semwait _ => true
  | .semwaitGrant _ => true
  | .semrd _ => true
  | .nop _ => true
  | .rend _ => true
  | .halt _ => true
  | .sySig _ => true
  | .semIncrementArrival _ => true
  | .syWait _ => true
  | .syWaitGrant _ => true
  | .syBar _ => true
  | .barrierRelease _ => true
  | .syTime _ => true
  | .syTimeReached _ => true
  | .coreCtlSwitch _ => true
  | .coreCtlStart _ => true
  | .coreCtlResume _ => true
  | .coreCtlHalt _ => true
  | .replayStart _ _ => true
  | .coreSemWrite _ _ _ => true
  | .corePstageWrite _ _ _ _ => true
  | .corePdirtyWithdraw _ _ _ => true
  | .cpRelease _ _ => true
  | .cpAcquire _ _ => true
  | .requestResponse _ slot => decide (slot < 512)
  | .requestWithdrawalConfirm _ slot => decide (slot < 512)
  | .patrolScrub codeword => decide (codeword < 2 ^ 42)
  | .cpLin _ _ => true
  | .cpNd _ _ => true
  | .cpGather _ _ => true
  | .cpScatterWrite _ _ => true
  | .cpScatterAdd _ _ => true
  | .cpTable _ _ => true
  | .tableLoadStart _ _ => true
  | .tablePublish _ _ => true
  | .timStep => true
  | .timSrcWrite _ => true
  | .timPtpCfgWrite _ => true
  | .timNowRead _ => true
  | .ptpSync _ _ _ sender _ _ _ _ => decide (sender < 2 ^ 80)
  | .ptpFollowUp _ _ _ sender _ _ _ => decide (sender < 2 ^ 80)
  | .ptpAnnounce _ _ _ sender priority1 clockClass accuracy variance priority2 identity steps => decide (sender < 2 ^ 80) && decide (priority1 < 256) && decide (clockClass < 256) && decide (accuracy < 256)
    && decide (variance < 65536) && decide (priority2 < 256) && decide (identity < 2 ^ 64) && decide (steps < 65536)
  | .ptpDelayReq => true
  | .ptpDelayResp _ _ _ sender _ _ _ => decide (sender < 2 ^ 80)
  | .ppsEdge _ => true
  | .timeSourceTimeout => true
  | .stkArm _ => true
  | .stkStop _ => true
  | .stkCommit _ => true
  | .stkStartWrite _ _ _ => true
  | .strokeStart _ => true
  | .gangStart _ _ => true
  | .bucketOpen _ _ => true
  | .bucketClose _ _ => true
  | .checkpoint _ _ => true
  | .event _ _ => true
  | .sluice _ => true
  | .drainComplete _ => true
  | .fillRecordWrite => true
  | .pieceArrival _ => true
  | .settleRecord _ => true
  | .slotSettle _ _ _ _ => true
  | .ownerFinish _ _ _ => true
  | .redSettle _ => true
  | .redWinOpen _ _ => true
  | .redWinClose _ _ => true
  | .frameReceive _ _ => true
  | .arpRequest _ mac ip target => decide (mac < 2 ^ 48) && decide (ip < 2 ^ 32) && decide (target < 2 ^ 32)
  | .neighborSolicitation _ mac ip target => decide (mac < 2 ^ 48) && decide (ip < 2 ^ 128) && decide (target < 2 ^ 128)
  | .pfcFrame _ _ times => times.length == 8 && times.all (fun t => decide (t < 65536))
  | .write _ => true
  | .read _ => true
  | .readResp _ => true
  | .raccSlot _ => true
  | .raccAddress _ => true
  | .atomicFadd _ => true
  | .atomicSwap _ => true
  | .atomicCswp _ => true
  | .atomicResp _ => true
  | .sendRing _ => true
  | .sendReduction _ => true
  | .fence _ => true
  | .ack _ => true
  | .mstat _ => true
  | .hello _ => true
  | .helloAck _ => true
  | .close _ => true
  | .closeAck _ => true
  | .skip _ => true
  | .wqDoorbell => true
  | .aqDescWrite => true
  | .aqDescRead => true
  | .aqDescRacc => true
  | .aqDescAtomic => true
  | .aqDescSend => true
  | .aqDescFence => true
  | .retransmitTimeout _ => true
  | .ackTimer _ => true
  | .helloRetry _ => true
  | .flowOpenTimeout _ => true
  | .flowCloseTimeout _ => true
  | .ratePeriod _ => true
  | .aqPenEnable _ => true
  | .aqPenDisable _ => true
  | .aqPdrainEnd _ => true
  | .portRemove _ => true
  | .portReadmit _ => true
  | .portRecal _ => true
  | .portDrainEnd _ => true
  | .recalEnd _ => true
  | .portLinkDown _ => true
  | .portLinkUp _ => true
  | .aqPortIfaceWrite _ _ => true
  | .updDoorbell => true
  | .updDescCistern _ => true
  | .updDescVector _ => true
  | .updNormpass _ => true
  | .cisternEngineStart _ => true
  | .cisternDescComplete _ => true
  | .updEnable _ => true
  | .updDisable _ => true
  | .updDrainEnd _ => true
  | .ckptSliceStart _ => true
  | .ckptCopyAhead page => decide (page < 2 ^ 32)
  | .ckptValidate _ => true
  | .coreSpareMove _ => true
  | .pageRetire address => decide (address < 2 ^ 48)
  | .cisScrubEnd _ => true
  | .shutdownComplete _ _ => true
  | .sqTailWrite _ _ _ entries => entries.length % 64 == 0
  | .cqHeadWrite _ _ _ => true
  | .znNop => true
  | .znIdentify => true
  | .znRingCreate => true
  | .znRingDelete => true
  | .znVfConfig => true
  | .znPrepareRemove => true
  | .znOpQuery => true
  | .znOpSuspend => true
  | .znOpResume => true
  | .znOpCancel => true
  | .longOpSafePoint _ => true
  | .longOpDone _ => true
  | .znPartConfig => true
  | .znPartEnable => true
  | .znPartDisable => true
  | .znGranuleAssign => true
  | .znGranuleRelease => true
  | .znPtWrite => true
  | .znPtRoot => true
  | .znXlateInval => true
  | .znScrub => true
  | .znImemLoad => true
  | .znCoreReset => true
  | .znTableLoad => true
  | .znTableBuild => true
  | .znCoreSpare => true
  | .znFlowOpen => true
  | .znFlowClose => true
  | .znFlowQuery => true
  | .znKeyInstall => true
  | .znKeySwitch => true
  | .znKeyClear => true
  | .znPortAdmit => true
  | .znPortRecal => true
  | .znRxringSet => true
  | .znAqEnable => true
  | .znGroupSet => true
  | .znUpdEnable => true
  | .znCkpt => true
  | .znRestore => true
  | .znDieEnable => true
  | .znDieDisable => true
  | .znCisEnable => true
  | .znCisDisable => true
  | .znFwStage _ => true
  | .znFwActivate => true
  | .znFwRollback => true
  | .fwFirstStartResult _ _ => true
  | .znPageRetire => true
  | .znCalibrate => true
  | .lifecycleSecured => true
  | .lifecycleService => true
  | .lifecycleRetired => true
  | .znDebugOpen => true
  | .znDebugClose => true
  | .znZeroise => true
  | .znCfgFactory => true
  | .znPowerLimit => true
  | .znPowerState => true
  | .idleEntry => true
  | .standbyEntry => true
  | .activeReturn => true
  | .znCfgRead => true
  | .znCfgWrite => true
  | .cfgStoreWriteDone _ => true
  | .znCtlEnable _ => true
  | .znCtlDisable _ => true
  | .bar4Read _ offset len => decide (1 ≤ len) && decide (offset + len ≤ 2 ^ 41)
  | .bar4Write _ offset data => !data.isEmpty && decide (offset + data.length ≤ 2 ^ 41)
  | .surpriseRemoval => true
  | .functionLevelReset _ => true
  | .mctpControlMessage _ _ => true
  | .pldmType0 _ => true
  | .pldmSensorRead _ => true
  | .pldmFwUpdate _ _ _ => true
  | .mctpZennus packet => packet.length % 64 == 0 && decide (64 ≤ packet.length) && decide (packet.length ≤ 1024)
  | .evtRaise _ _ => true
  | .evtComplete _ _ => true
  | .eventDelivery => true
  | .mgmtEventHandled => true
  | .evtFnWinWrite vf _ _ => vf != 0
  | .evtEnable _ => true
  | .presencePress _ => true
  | .presenceTimeout => true
  | .sealOpen => true
  | .svcJumperChange _ => true
  | .debugAccess => true
  | .debugStep => true
  | .idcode => true
  | .bypass => true
  | .samplePreload pins data => pins.length == data.length
  | .extest pins data => pins.length == data.length
  | .dbgport _ address data => decide (address < 2 ^ 48) && decide (data < 2 ^ 64)
  | .thermalSample temps => temps.length == 19
  | .thermalHoldStep => true
  | .thermalShutdown => true
  | .thermalRestart _ => true
  | .governorDecision => true
  | .powerSample mv ca watts => decide (mv < 65536) && decide (ca < 65536) && decide (watts < 65536)
  | .pwrEnRise => true
  | .pwrEnFall => true
  | .inputExcursion => true
  | .inputLoss => true
  | .inputOvervoltage => true
  | .inputOvercurrent => true
  | .inputRestored => true
  | .railFault _ => true
  | .perstAssert => true
  | .perstRelease => true
  | .cfgWarmWrite _ => true
  | .warmReset => true
  | .coldStart => true
  | .bootStageComplete _ _ => true
  | .faultRecordDelivery => true
  | .faultRingEnable _ => true
  | .traceEnable => true
  | .stallClear _ => true
  | .coreStallLoRead _ _ _ => true
  | .retireWindowExpire => true
  | .pfcPauseExpiry _ _ => true
  | .illegalInstruction _ => true
  | .configurationRequest _ field value => match field with
    | 0 => true
    | 4 | 5 => decide (30 ≤ value) && decide (value ≤ 41)
    | _ => decide (value ≤ 1)
  | .linkRetrain => true

end Sys2Proof
end

