-- ==== Sys2Proof/Tests/Slice0.lean ====
section
/-!
SUPPORT. The model's own tests: the smoke tests of WellFormed, and for every statement states and operands that meet its hypotheses.
-/
namespace Sys2Proof
namespace Machine

set_option maxRecDepth 100000

/-! ## States for tests -/

/-- A state with a device and no command waiting. -/
def ofDev (d : Device) : State := { dev := d }

/-- The device after a command; the reset device where it stopped. -/
def after (r : Result) : Device := match r with | .next t => t.dev | _ => {}

/-- A cold module whose core 0 is as given. -/
def coreDev (k : Core) : Device := ({} : Device).setCore 0 k

/-- Core 0 RUNNING with an instruction word at PC 0. -/
def running (w : Nat) (k : Core := {}) : State := ofDev (coreDev { k with run := .running, imem := [(0, BitVec.ofNat 32 w)] })

/-- An R-format, and an I-format, instruction word. -/
def wordR (d a b fn : Nat) : Nat := 0x04000000 + d * 0x200000 + a * 0x10000 + b * 0x800 + fn
def wordI (op d a imm : Nat) : Nat := op * 0x4000000 + d * 0x200000 + a * 0x10000 + imm

/-! ## WellFormed refuses an ill-formed term for each of its checks -/

theorem test_wf_slots : (Instr.requestResponse 0 512).wellFormed = false ∧ (Instr.requestResponse 0 511).wellFormed = true ∧
    (Instr.requestWithdrawalConfirm 0 512).wellFormed = false ∧ (Instr.patrolScrub (2 ^ 42)).wellFormed = false := by decide
theorem test_wf_ptp : (Instr.ptpSync 0 0 0 (2 ^ 80) 0 0 0 false).wellFormed = false ∧ (Instr.ptpFollowUp 0 0 0 (2 ^ 80) 0 0 0).wellFormed = false ∧
    (Instr.ptpDelayResp 0 0 0 (2 ^ 80) 0 0 0).wellFormed = false ∧ (Instr.ptpAnnounce 0 0 0 (2 ^ 80) 0 0 0 0 0 0 0).wellFormed = false ∧
    (Instr.ptpAnnounce 0 0 0 0 256 0 0 0 0 0 0).wellFormed = false ∧ (Instr.ptpAnnounce 0 0 0 0 0 256 0 0 0 0 0).wellFormed = false ∧
    (Instr.ptpAnnounce 0 0 0 0 0 0 256 0 0 0 0).wellFormed = false ∧ (Instr.ptpAnnounce 0 0 0 0 0 0 0 65536 0 0 0).wellFormed = false ∧
    (Instr.ptpAnnounce 0 0 0 0 0 0 0 0 256 0 0).wellFormed = false ∧ (Instr.ptpAnnounce 0 0 0 0 0 0 0 0 0 (2 ^ 64) 0).wellFormed = false ∧
    (Instr.ptpAnnounce 0 0 0 0 0 0 0 0 0 0 65536).wellFormed = false := by decide
theorem test_wf_ports : (Instr.arpRequest 0 (2 ^ 48) 0 0).wellFormed = false ∧ (Instr.arpRequest 0 0 (2 ^ 32) 0).wellFormed = false ∧
    (Instr.arpRequest 0 0 0 (2 ^ 32)).wellFormed = false ∧ (Instr.neighborSolicitation 0 (2 ^ 48) 0 0).wellFormed = false ∧
    (Instr.neighborSolicitation 0 0 (2 ^ 128) 0).wellFormed = false ∧ (Instr.neighborSolicitation 0 0 0 (2 ^ 128)).wellFormed = false ∧
    (Instr.pfcFrame 0 0 [0]).wellFormed = false ∧ (Instr.pfcFrame 0 0 [0, 0, 0, 0, 0, 0, 0, 65536]).wellFormed = false := by decide
theorem test_wf_host : (Instr.sqTailWrite 0 0 0 [0#8]).wellFormed = false ∧ (Instr.bar4Read 0 0 0).wellFormed = false ∧
    (Instr.bar4Read 0 (2 ^ 41) 1).wellFormed = false ∧ (Instr.bar4Write 0 0 []).wellFormed = false ∧ (Instr.bar4Write 0 (2 ^ 41) [0#8]).wellFormed = false ∧
    (Instr.mctpZennus []).wellFormed = false ∧ (Instr.mctpZennus [0#8]).wellFormed = false ∧ (Instr.mctpZennus (List.replicate 1088 0#8)).wellFormed = false ∧
    (Instr.evtFnWinWrite 0 0 0).wellFormed = false ∧ (Instr.configurationRequest 0 1 2).wellFormed = false ∧
    (Instr.configurationRequest 0 4 29).wellFormed = false ∧ (Instr.configurationRequest 0 5 42).wellFormed = false := by decide
theorem test_wf_sensors : (Instr.samplePreload [true] []).wellFormed = false ∧ (Instr.extest [] [true]).wellFormed = false ∧
    (Instr.dbgport 0 (2 ^ 48) 0).wellFormed = false ∧ (Instr.dbgport 0 0 (2 ^ 64)).wellFormed = false ∧ (Instr.thermalSample []).wellFormed = false ∧
    (Instr.powerSample 65536 0 0).wellFormed = false ∧ (Instr.powerSample 0 65536 0).wellFormed = false ∧ (Instr.powerSample 0 0 65536).wellFormed = false ∧
    (Instr.ckptCopyAhead (2 ^ 32)).wellFormed = false ∧ (Instr.pageRetire (2 ^ 48)).wellFormed = false := by decide

/-! ## The machine -/

theorem test_front_first : (step { ofDev {} with pending := [.pwrEnRise, .perstRelease] }) = exec .pwrEnRise { ofDev {} with pending := [.perstRelease] } := rfl
theorem witness_StepRunsFrontCommand : ({ ofDev {} with pending := [.add 0] } : State).pending = .add 0 :: [] := rfl
theorem witness_EmptyQueuePassesOneCycle : (ofDev {}).pending = [] := rfl
theorem witness_EveryStepKeepsSoundness : (ofDev {}).dev.Sound ∧ ∃ t, step { ofDev {} with pending := [.pwrEnRise] } = .next t :=
  ⟨by unfold Device.Sound Core.Sound; decide, _, rfl⟩
theorem sound_reset : ({} : Device).Sound := by unfold Device.Sound Core.Sound; decide
theorem test_reserved_bit_stops : (match exec (.registerWrite 0 (Fin.ofNat 67108864 (Reg.CORE_CTL 0)) 0x80000000) (ofDev {}) with
    | .fault .reservedField => true | _ => false) = true := by decide
theorem test_plain_write : (after (exec (.registerWrite 0 (Fin.ofNat 67108864 (Reg.CORE_ENTRY 0)) 0x1FFF) (ofDev {}))).reg (Reg.CORE_ENTRY 0) = 0x1FFF#32 := by
  decide

/-! ## The control core -/

/-- The words of the example replay that the manual gives, by their fields (R247). -/
theorem test_words_of_the_example :
    (insOp 0xB0200000 = 0x2C ∧ insD 0xB0200000 = 1 ∧ bits 0xB0200000 20 15 = 0) ∧ (insOp 0x08840020 = 0x02 ∧ insD 0x08840020 = 4 ∧ insA 0x08840020 = 4 ∧
      insImm 0x08840020 = 32) ∧ (insOp 0xC4440A08 = 0x31 ∧ bits 0xC4440A08 25 23 = 0 ∧ bit 0xC4440A08 22 = true ∧ insA 0xC4440A08 = 4 ∧
      insB 0xC4440A08 = 1 ∧ bits 0xC4440A08 10 3 = 65) ∧ insOp 0xF8000000 = 0x3E := by decide
theorem test_add : ((after (exec (.add 0) (running (wordR 3 1 2 0) { sreg := [(1, 5#64), (2, 0xFFFFFFFFFFFFFFFF#64)] }))).core 0).s 3 = 4#64 := by decide
theorem test_shift_modulo_64 : ((after (exec (.shl 0) (running (wordR 3 1 2 7) { sreg := [(1, 5#64), (2, 65#64)] }))).core 0).s 3 = 10#64 := by decide
theorem test_write_of_s0 : ((after (exec (.add 0) (running (wordR 0 1 1 0) { sreg := [(1, 5#64)] }))).core 0).s 0 = 0#64 ∧
    ((after (exec (.add 0) (running (wordR 0 1 1 0) { sreg := [(1, 5#64)] }))).core 0).pc = 1 := by decide
theorem test_addi_sign : ((after (exec (.addi 0) (running (wordI 2 4 0 0xFFFF)))).core 0).s 4 = 0xFFFFFFFFFFFFFFFF#64 := by decide
theorem witness_RegisterAndImmediateInstructions :
    ((running (wordR 3 1 2 0x10)).dev.core 0).fetch = some (wordR 3 1 2 0x10) ∧ insOp (wordR 3 1 2 0x10) = 0x01 ∧ insFn (wordR 3 1 2 0x10) = 0x010 ∧
    ((running (wordI 0x0B 31 0 0xFFFF)).dev.core 0).fetch = some (wordI 0x0B 31 0 0xFFFF) ∧ insOp (wordI 0x0B 31 0 0xFFFF) = 0x0B ∧
    bits (wordI 0x0B 31 0 0xFFFF) 20 16 = 0 ∧ ((running (wordI 6 1 1 63)).dev.core 0).fetch = some (wordI 6 1 1 63) ∧
    bits (wordI 6 1 1 63) 15 6 = 0 := by decide
theorem witness_ScalarWriteFrame : (coreDev {}).Sound := by unfold Device.Sound Core.Sound; decide
theorem test_st16_ld16 :
    let d := after (exec (.st16 0) (running (wordI 0x16 1 2 2) { sreg := [(1, 0x1BEEF#64), (2, 0x3FFC#64)] }))
    Cells.getRange 0#8 (d.core 0).scratch 0x3FFE 2 = [0xEF#8, 0xBE#8] := by decide
theorem witness_ScratchAndSramInstructions :
    (let s := running (wordI 0x14 1 2 0) { sreg := [(2, 0x3FF8#64)] }
     (s.dev.core 0).fetch = some (wordI 0x14 1 2 0) ∧ insOp (wordI 0x14 1 2 0) = 0x14 ∧
     ((s.dev.core 0).s (insA (wordI 0x14 1 2 0)) + BitVec.ofInt 64 (sext 16 (wordI 0x14 1 2 0))).toNat = 0x3FF8 ∧
     (s.dev.core 0).scratchBadAt 0x3FF8 8 = false) ∧
    (let s := running (wordI 0x19 1 2 0) { sreg := [(2, 0x7FFFF8#64)] }
     (s.dev.core 0).fetch = some (wordI 0x19 1 2 0) ∧ insOp (wordI 0x19 1 2 0) = 0x19 ∧ (s.dev.sramRead 0 0x7FFFF8 8).2.2 = none) ∧
    (let s := running (wordI 0x1B 1 2 0) { sreg := [(1, 0x3FE0#64), (2, 0x7FFFE0#64)] }
     (s.dev.core 0).fetch = some (wordI 0x1B 1 2 0) ∧ insOp (wordI 0x1B 1 2 0) = 0x1B ∧ (s.dev.sramRead 0 0x7FFFE0 32).2.2 = none) := by decide
theorem test_branch_to_the_ends :
    ((after (exec (.beq 0) (running (wordI 0x20 0 0 8191)))).core 0).pc = 8191 ∧
    (after (exec (.beq 0) (running (wordI 0x20 0 0 0xFFFF)))).fld (Reg.CORE_FAULT 0) 15 0 = 0x0012 := by decide
theorem witness_BranchesMovePc :
    (insOp (wordI 0x20 0 0 8191) = 0x20 ∧ ((running (wordI 0x20 0 0 8191)).dev.core 0).fetch = some (wordI 0x20 0 0 8191) ∧
      sext 16 (wordI 0x20 0 0 8191) = 8191) ∧
    (insOp (wordI 0x26 31 0 8191) = 0x26 ∧ bits (wordI 0x26 31 0 8191) 20 16 = 0 ∧
      ((running (wordI 0x26 31 0 8191)).dev.core 0).fetch = some (wordI 0x26 31 0 8191)) ∧
    (insOp (wordI 0x27 0 5 0) = 0x27 ∧ ((running (wordI 0x27 0 5 0) { sreg := [(5, 8191#64)] }).dev.core 0).fetch = some (wordI 0x27 0 5 0) ∧
      (((running (wordI 0x27 0 5 0) { sreg := [(5, 8191#64)] }).dev.core 0).s 5).toNat = 8191) ∧
    (insOp (wordI 0x28 5 0 1) = 0x28 ∧ bits (wordI 0x28 5 0 1) 20 16 = 0 ∧
      ((running (wordI 0x28 5 0 1) { sreg := [(5, 1#64)] }).dev.core 0).fetch = some (wordI 0x28 5 0 1)) := by decide
theorem test_fins_one_bit :
    let d := after (exec (.fins 0) (running (wordI 0x30 1 2 0xFF00) { sreg := [(1, 1#64), (2, 0x3FE0#64)] }))
    Cells.get 0#8 (d.core 0).scratch 0x3FFF = 0x80#8 := by decide
theorem witness_ParameterItemGateAndSemaphoreInstructions :
    (insOp (wordI 0x2C 1 0x1F 0x8000) = 0x2C ∧ bits (wordI 0x2C 1 0x1F 0x8000) 14 0 = 0 ∧ bits (wordI 0x2C 1 0x1F 0x8000) 20 15 = 63 ∧
      ((running (wordI 0x2C 1 0x1F 0x8000)).dev.core 0).fetch = some (wordI 0x2C 1 0x1F 0x8000)) ∧
    (insOp (wordI 0x2E 1 0 7) = 0x2E ∧ insA (wordI 0x2E 1 0 7) = 0 ∧ ((running (wordI 0x2E 1 0 7)).dev.core 0).fetch = some (wordI 0x2E 1 0 7)) ∧
    (insOp (wordI 0x30 1 2 0xFF00) = 0x30 ∧ bits (wordI 0x30 1 2 0xFF00) 1 0 = 0 ∧
      bits (wordI 0x30 1 2 0xFF00) 15 8 + bits (wordI 0x30 1 2 0xFF00) 7 2 = 255 ∧
      ((running (wordI 0x30 1 2 0xFF00) { sreg := [(2, 0x3FE0#64)] }).dev.core 0).scratchBadAt 0x3FE0 32 = false) ∧
    (insOp 0xCA041000 = 0x32 ∧ bits 0xCA041000 11 0 = 0 ∧ ((running 0xCA041000).dev.core 0).fetch = some 0xCA041000) ∧
    (insOp (wordI 0x34 0 0 63) = 0x34 ∧ bits (wordI 0x34 0 0 63) 25 6 = 0 ∧ ((running (wordI 0x34 0 0 63)).dev.core 0).fetch = some (wordI 0x34 0 0 63)) ∧
    (let d := coreDev { run := .running, semWait := some 63, sem := [(63, 1)] }
     (d.core 0).semWait = some 63 ∧ (d.core 0).winner 63 = some 6) := by decide
theorem witness_PushAppendsPatchedCommand :
    let s := running 0xC4440A08 { sreg := [(1, 0x800#64), (4, 32#64)] }
    (s.dev.core 0).fetch = some 0xC4440A08 ∧ insOp 0xC4440A08 = 0x31 ∧ bit 0xC4440A08 21 = false ∧ bits 0xC4440A08 2 0 = 0 ∧ bits 0xC4440A08 25 23 = 0 ∧
    (s.dev.core 0).scratchBadAt 32 32 = false ∧ occupancy ((s.dev.core 0).queue 0) = 0 := by decide
theorem witness_push_waits : occupancy ((coreDev { mxq := List.replicate 64 { cmd := 0#256 } }).core 0).mxq = 64 := by decide
theorem test_push_patch : ((after (exec (.push 0) (running 0xC4440A08 { sreg := [(1, 0x800#64), (4, 32#64)], tc := 0x1001 }))).core 0).mxq.map (fun e => (bits e.cmd.toNat 82 65, e.tag))
    = [(0x800, 0x1001)] := by decide
theorem witness_ReplaysEndStartAndBound : ((running 0xF8000000).dev.core 0).fetch = some 0xF8000000 ∧ insOp 0xF8000000 = 0x3E ∧ bits 0xF8000000 25 0 = 0 := by
  decide
theorem test_boundary_takes_dirty : ((after (exec (.rend 0) (running 0xF8000000 { staged := [(0, 0x1000#64)], dirty := 1#64 }))).core 0).live = [(0, 0x1000#64)] := by
  decide
theorem witness_FieldsAddressesAndTargetsFault :
    (insOp (wordI 6 1 1 64) = 6 ∧ bits (wordI 6 1 1 64) 15 6 ≠ 0 ∧ ((running (wordI 6 1 1 64)).dev.core 0).fetch = some (wordI 6 1 1 64)) ∧
    (((running (wordI 0x14 1 2 1)).dev.core 0).fetch = some (wordI 0x14 1 2 1) ∧ insOp (wordI 0x14 1 2 1) = 0x14) ∧
    (((running (wordI 0x10 1 2 0x4000)).dev.core 0).fetch = some (wordI 0x10 1 2 0x4000) ∧ sext 16 (wordI 0x10 1 2 0x4000) = 16384) ∧
    (((running (wordI 0x20 0 0 0x8000)).dev.core 0).fetch = some (wordI 0x20 0 0 0x8000) ∧ sext 16 (wordI 0x20 0 0 0x8000) = -32768) := by decide
theorem witness_ControlCoreFaults :
    ((coreDev { run := .running, pc := 8192 }).core 0).run = .running ∧ ((running 0).dev.core 0).fetch = some 0 ∧ legalOp 0 = false ∧
    ((coreDev { run := .running, imemBad := [4095], pc := 8191 }).core 0).imemBad.contains ((8192 * 0 + 8191) / 2) = true ∧
    ((running 0xF4000000).dev.core 0).fetch = some 0xF4000000 ∧ legalOp 0xF4000000 = true := by decide

/-- Partition 0 holds cluster 0, and core 0 is as given. -/
def partDev (k : Core) : Device := { coreDev k with partMask := [(0, 1#16)] }

theorem witness_HostControlsOfCore :
    ((partDev {}).partOf 0).isSome = true ∧ (partDev {}).standby = false ∧ ((partDev {}).core 0).run = .halted ∧
    ((partDev { run := .running }).core 0).run = .running ∧ ((partDev { run := .idle }).core 0).run = .idle ∧ (partDev {}).closed 0 = false := by decide

/-! ## Queues, semaphores, the sync unit -/

/-- A queue entry with an opcode and the rest of its word. -/
def entry (opc : Nat) (rest : Nat := 0) : QEntry := { cmd := BitVec.ofNat 256 (opc * 0x1000000 + rest) }

theorem witness_GrantsGoToTheWinner :
    (Cells.get 0 (coreDev { semPtr := [(5, 7)] } |>.core 0).semPtr 5 < 8) ∧
    (let k : Core := { sem := [(5, 1)], mxq := [{ entry 1 with gate := { wen := true, wsem := 5 } }] }
     k.winner 5 = some 0) ∧
    (let k : Core := { sem := [(5, 3)], syq := [{ entry 2 (5 * 2 ^ 32 + 3 * 2 ^ 48) with started := true }] }
     k.winner 5 = some 7 ∧ k.request 7 = some (5, 3)) := by decide
theorem witness_RetirementSignals :
    let k : Core := { mxq := [{ entry 1 with gate := { sen := true, ssem := 63 }, result := some { status := 0x10 } }], sem := [(63, 65535)] }
    (coreDev k).front 0 0 = some { entry 1 with gate := { sen := true, ssem := 63 }, result := some { status := 0x10 } } ∧ k.engineIdle 0 = true := by decide
theorem sound_coreDev_empty : (coreDev { mxq := [{ entry 1 with result := some {} }] }).Sound := by unfold Device.Sound Core.Sound; decide
theorem test_retirement_signals_and_clips :
    let d := after (exec (.engineCommandRetire 0 0) (ofDev (coreDev
      { mxq := [{ entry 1 with gate := { sen := true, ssem := 63 }, result := some { status := 0x10 } }], sem := [(63, 65535)] })))
    (d.core 0).mxq = [] ∧ (d.core 0).semVal 63 = 65535 := by decide
theorem witness_RetirementsAndSyncCommands :
    (let k : Core := { cpq0 := [{ entry 1 with result := some {} }], slots := [{ engine := 0, bank := none }] }
     (coreDev k).front 0 3 = some { entry 1 with result := some {} } ∧ k.engineIdle 0 = false) ∧
    (knownOp 0 (entry 4) = false ∧ knownOp 5 (entry 5) = false ∧ knownOp 5 (entry 4) = true ∧ (entry 4).open = true) ∧
    ((partDev { syq := [entry 1 (2 ^ 48)] }).ready 0 5 = some (entry 1 (2 ^ 48)) ∧ (partDev {}).partOf 0 = some 0 ∧ (partDev {}).hasSlot 0 = true) ∧
    ((partDev { syq := [entry 3 (128 * 2 ^ 48 + 2 ^ 40)] }).ready 0 5).isSome = true ∧
    ((partDev {}).barLimit 0 (2 ^ 40) = 8 ∧ (partDev {}).barLimit 0 0 = 8) ∧
    (let d : Device := { partDev { syq := [{ entry 1 (2 ^ 48) with started := true }] } with
        increments := [{ source := 0, core := 0, sem := 0, amount := 1, stroke := 0, tag := 0 }] }
     d.increments[0]? = some { source := 0, core := 0, sem := 0, amount := 1, stroke := 0, tag := 0 } ∧
     strokeOlder 0 (d.coreStroke 0) = false ∧ strokeOlder 0xFFFFFFFF (d.coreStroke 0) = true) := by decide
theorem test_increment_arrives :
    let d : Device := { partDev { syq := [{ entry 1 (2 ^ 48) with started := true }] } with
        increments := [{ source := 0, core := 1, sem := 2, amount := 5, stroke := 0, tag := 0 }] }
    ((after (exec (.semIncrementArrival 0) (ofDev d))).core 1).semVal 2 = 5 ∧ ((after (exec (.semIncrementArrival 0) (ofDev d))).core 0).syq = [] := by decide
theorem test_barrier_of_two :
    let d : Device := { partDev { syq := [entry 3 (2 * 2 ^ 48)] } with barriers := [(0, { count := 2, arrived := [1] })] }
    (after (exec (.syBar 0) (ofDev d))).barriers = [(0, { count := 2, full := [[1, 0]] })] := by decide
theorem test_strokes_wrap : strokeOlder 0xFFFFFFFF 0 = true ∧ strokeOlder 0 0x7FFFFFFF = true ∧ strokeOlder 0 0x80000000 = false ∧ strokeOlder 5 5 = false := by
  decide

/-! ## The vector engine -/

/-- A vector command's word, by the fields of R139. -/
def vxWord (opc fn fmt vd va vb : Nat) (imm : Nat := 0) : Nat :=
  opc * 2 ^ 24 + fn * 2 ^ 32 + fmt * 2 ^ 59 + vd * 2 ^ 64 + va * 2 ^ 70 + vb * 2 ^ 76 + imm * 2 ^ 224

/-- Core 0 with a vector command at the head of VXQ. -/
def vxState (w : Nat) (k : Core := {}) : State := ofDev (coreDev { k with vxq := [{ cmd := BitVec.ofNat 256 w }] })

/-- A vector register whose first lanes are given. -/
def lanes (xs : List Word) : List Word := (xs ++ List.replicate 512 0#32).take 512

theorem witness_VectorCommandsRun :
    (let w := vxWord 0x30 0 0x18 3 1 2
     ((vxState w).dev.ready 0 2 = some { cmd := BitVec.ofNat 256 w }) ∧ (vxFloatOp 0x00 2).holds { cmd := BitVec.ofNat 256 w } = true ∧
     (vxFloatOp 0x00 2).check { vl := 512 } w = none ∧ (({ vl := 512 } : Core).vl ≠ 0)) ∧
    (let w := vxWord 0x20 0 0 0 0 0 512
     setvlOp.holds { cmd := BitVec.ofNat 256 w } = true ∧ setvlOp.check {} w = none) ∧
    ((cmpOp 0x06).check { vl := 1 } (vxWord 0x35 6 0x18 0 0 0) = none ∨ (cmpOp 0x06).holds (entry 0x35) = false) := by decide
theorem test_vx_add : let d := after (exec (.vxAdd 0) (vxState (vxWord 0x30 0 0x18 3 1 2)
      { vl := 2, vreg := [(1, lanes [0x3F800000#32, 0x40000000#32]), (2, lanes [0x3F800000#32, 0x3F800000#32])] }))
    ((d.core 0).v 3).take 3 = [0x40000000#32, 0x40400000#32, 0#32] := by decide
theorem test_vx_iadds : let d := after (exec (.vxIadds 0) (vxState (vxWord 0x31 3 0x1C 3 1 1) { vl := 1, vreg := [(1, lanes [0x7FFFFFFF#32])] }))
    ((d.core 0).v 3).take 1 = [0x7FFFFFFF#32] := by decide
theorem test_vx_setvl : ((after (exec (.vxSetvl 0) (vxState (vxWord 0x20 0 0 0 0 0 512)))).core 0).vl = 512 := by decide
theorem witness_VectorChecksEndCommand :
    (let w := vxWord 0x30 0 0x18 3 1 2 1
     (coreDev { vxq := [{ cmd := BitVec.ofNat 256 w }] }).ready 0 2 = some { cmd := BitVec.ofNat 256 w } ∧ (vxFloatOp 0 2).holds { cmd := BitVec.ofNat 256 w } = true ∧
     unusedSet (vxFloatOp 0 2).used w = true) ∧
    (let w := vxWord 0x30 0 0x1C 3 1 2
     unusedSet (vxFloatOp 0 2).used w = false ∧ (vxFloatOp 0 2).field w = false ∧ (vxFloatOp 0 2).fmtOk (vxFmt w) = false) ∧
    (let w := vxWord 0x21 0 0x18 3 0 0 + 0x7FFFFC * 2 ^ 154 + 4 * 2 ^ 200
     unusedSet ldOp.used w = false ∧ ldOp.fmtOk (vxFmt w) = true ∧ ldOp.range { vl := 512 } w = true) := by decide
theorem witness_VectorWritesMergeAndMap : isReg 0x18 = true ∧ isReg 0x1C = true ∧ [some 1, none].length ≤ 512 * perLane 0x18 ∧
    ({ vl := 512 } : Core).vl ≤ 512 := by decide
theorem test_masked_map : let d := after (exec (.vxAdd 0) (vxState (vxWord 0x30 0 0x18 3 1 1 + 2 ^ 51)
      { vl := 2, mask := [(0, BitVec.ofNat 2048 2)], vreg := [(1, lanes [0x3F800000#32, 0x3F800000#32]), (3, lanes [7#32])] }))
    ((d.core 0).v 3).take 2 = [7#32, 0x40000000#32] := by decide
theorem test_ties_to_even : roundNat 5 (-1) = 2 ∧ roundNat 7 (-1) = 4 ∧ roundNat 3 2 = 12 := by decide

/-! ## The matrix array and the siphon path -/

/-- Core 0 with an entry at the head of MXQ, or of SPQ. -/
def mxState (e : QEntry) (k : Core := {}) : State := ofDev (coreDev { k with mxq := [e] })
def spState (e : QEntry) (k : Core := {}) : State := ofDev (coreDev { k with spq := [e] })

/-- A product of 16-bit floats: operand formats, output format FP32, M, N and K. -/
def mmWord (m n k : Nat) (rest : Nat := 0) : Nat :=
  0x1000000 + n * 2 ^ 32 + m * 2 ^ 48 + 0x18 * 2 ^ 89 + 0x1A * 2 ^ 94 + 0x1A * 2 ^ 99 + k * 2 ^ 104 + rest
def mm (m n k : Nat) (rest : Nat := 0) : QEntry := { cmd := BitVec.ofNat 256 (mmWord m n k rest) }

theorem witness_MatrixProductsRun :
    ((mxState (mm 1 1 1)).dev.ready 0 0 = some (mm 1 1 1) ∧ (mm 1 1 1).opc = 0x01 ∧ (Mm.of (mmWord 1 1 1)).gang = false ∧ (Mm.of (mmWord 1 1 1 (2 ^ 86))).routed = true) ∧
    (Mm.of (mmWord 4 4 4)).routed = false ∧ (Mm.of (mmWord 1 1 1 (3 * 2 ^ 87))).check ((ofDev {}).dev.mmDesc 0 (Mm.of (mmWord 1 1 1 (3 * 2 ^ 87))) (mm 1 1 1)) false false = some 0x0010 ∧
    ((spState (mm 0 1 0) { siphonBusy := some 1 }).dev.ready 0 1 = some (mm 0 1 0)) := by decide
theorem witness_GangsAndSiphon :
    (let d := (mxState (mm 4 4 4 (2 ^ 85))).dev
     d.ready 0 0 = some (mm 4 4 4 (2 ^ 85)) ∧ (Mm.of (mmWord 4 4 4 (2 ^ 85))).gang = true ∧
     (d.setReg (Reg.MX_GANG_SET 0 0) 2#32).gangOutside 0 = true ∧
     ({ d with partMask := [(0, 1#16)] }.setReg (Reg.MX_GANG_SET 0 0) 2#32).gangOutside 0 = false ∧ (d.setReg (Reg.MX_GANG_SET 0 0) 2#32).gangSet 0 = 2) ∧
    (({ siphonBusy := some 0 } : Core).siphonBusy.isSome = true) ∧
    (let d := (spState (mm 0 1 0)).dev
     d.siphonRequest 0 1 = true ∧ d.front 0 1 = some (mm 0 1 0) ∧ d.siphonRequest 0 (d.core 0).siphonPtr = false ∧ 1 = 1 - (d.core 0).siphonPtr) ∧
    (let d := coreDev { mxq := [{ mm 4 4 4 with result := some {} }, mm 4 4 4] }
     d.second 0 0 = some ({ mm 4 4 4 with result := some {} }, mm 4 4 4)) := by decide
theorem test_gang_release :
    let k : Core := { mxq := [{ mm 4 4 4 with gang := some 2 }] }
    let d : Device := ((coreDev k).setCore 1 { mxq := [{ mm 4 4 4 with gang := some 1 }] })
    let d' := after (exec .mxGangRelease (ofDev d))
    ((d'.core 0).mxq.map (·.released), (d'.core 1).mxq.map (·.released)) = ([true], [true]) := by decide
theorem witness_WindowCommandsRun :
    (let x := 0x2000000 + 1 * 2 ^ 45 + 1 * 2 ^ 110 + 2 * 2 ^ 92 + 3 * 2 ^ 74
     (mxState { cmd := BitVec.ofNat 256 x }).dev.ready 0 0 = some { cmd := BitVec.ofNat 256 x } ∧
     (⟨bits x 127 110 * 32, bits x 63 45 * 32⟩ : Span).overlaps ⟨bits x 109 92 * 32, bits x 63 45 * 32⟩ = false ∧
     (⟨bits x 91 74 * 32, 32⟩ : Span).overlaps ⟨32, 32⟩ = false ∧ (⟨bits x 91 74 * 32, 32⟩ : Span).overlaps ⟨64, 32⟩ = false ∧ bits x 255 128 = 0 ∧
     bits x 73 64 = 0 ∧ bits x 44 32 = 0 ∧ (⟨32, 32⟩ : Span).outside = false) ∧
    (wfinCheck (0x3000000 + 0x18 * 2 ^ 89) ((ofDev {}).dev.mmDesc 0 (wfinMm (0x3000000 + 0x18 * 2 ^ 89)) {
      cmd := BitVec.ofNat 256 (0x3000000 + 0x18 * 2 ^ 89) }) = none ∨ (wfinMm 0x3000000).noOut = true) := by decide
theorem witness_WindowSumsAreOrderFreeAndSplitExact :
    ([] : List SBlock).length = ([] : List SBlock).length ∧ ((window 8 8 none none [] []).w + (window 8 8 none none [] []).w < 2 ^ 223) := by decide

/-! ## Memory, copies, table loads -/

theorem witness_DramWritesReadBack : Cells.wf (fun _ => false) ({} : Device).poison = true ∧ ({} : Device).heldPages = [] ∧ [1#8] ≠ ([] : List Byte) := by decide
theorem test_dram_write : (({} : Device).memWrite 0x5FFFFFFFFF [1#8, 0#8]).1.mem = [(0x5FFFFFFFFF, 1#8)] := by decide

/-- A cp.lin of n bytes from one local SRAM address to another. -/
def cpLinWord (src dst n : Nat) : Nat := 0x1000000 + n * 2 ^ 120 + dst * 2 ^ 160 + src * 2 ^ 208
def cpState (w : Nat) (k : Core := {}) : State := ofDev (coreDev { k with cpq0 := [{ cmd := BitVec.ofNat 256 w }] })

theorem witness_CopyCommandsRun :
    (let w := cpLinWord 0x7FFFFE 0x10 2
     (cpState w).dev.ready 0 3 = some { cmd := BitVec.ofNat 256 w } ∧ linCheck w = none ∧ bits w 119 32 = 0 ∧ bits w 255 208 + bits w 159 120 ≤ 0x800000) ∧
    (linCheck (cpLinWord 0 0 1 + 2 ^ 34) = some 0x0010) := by decide
theorem test_overlapping_copy :
    let d := after (exec (.cpLin 0 0) (cpState (cpLinWord 0 1 3) { sram := [(0, 1#8), (1, 2#8), (2, 3#8)] }))
    (d.core 0).sram = [(0, 1#8), (1, 1#8), (2, 2#8), (3, 3#8)] := by decide
theorem witness_TableLoadsBeginAndPublish :
    (let w := 0x5000000 + 8 * 2 ^ 168
     (cpState w).dev.ready 0 3 = some { cmd := BitVec.ofNat 256 w } ∧ (entry 5).opc = 0x05 ∧ (tableCheck w).isSome = true) ∧
    (({} : Device).mayLoad 0 15 = true) ∧
    (let e : QEntry := { entry 5 with started := true, uses := some 31 }
     (coreDev { cpq0 := [e] }).front 0 3 = some e ∧ 31 / 2 = 15 ∧
     (({} : Device).halfTable 0 (some 31)).imageBytes ≠ bits e.c 207 168) := by decide
theorem witness_RequestSlotsAndPatrol :
    (coreDev { slots := List.replicate 512 { engine := 0, bank := none } } |>.core 0).slots.length ≤ 512 ∧
    ((coreDev { slots := [{ engine := 0, bank := none, withdrawn := true }] }).core 0).slots[0]? = some { engine := 0, bank := none, withdrawn := true } ∧
    64 * 0x17FFFFFFF < 0x6000000000 ∧ (0x10000000000 + 0x8000000000 * 1 ≤ 64 * 0x600000000) ∧
    (({} : Device).setFlag Reg.HUB_CAPS 13 true).cisOnline 1 = true := by decide

/-! ## Device time and strokes -/

/-- A module that has started: partition 0 holds cluster 0, every subsystem runs its image, READY is set. -/
def up : Device :=
  (({ ({} : Device) with partMask := [(0, 1#16)], zn := { linkUp := true }, pwr := { diesOn := true }, boot := { starting := false, runningFw := [0, 1, 2, 3, 4, 5, 6] } }
    : Device).setFlag (Reg.ZN_STATUS 0) 31 true).setFlag (Reg.ZN_STATUS 1) 31 true

/-- Its partition 0 with a schedule state, and with the sluice closed or open. -/
def inState (st : Nat) (closed : Bool := false) : Device := (up.setFld (Reg.STK_STATUS 0) 31 30 st).setFlag (Reg.STK_STATUS 0) 29 closed

/-- Its shadow schedule of a period and a guard in ns, and no entry. -/
def withSchedule (d : Device) (per g : Nat) : Device := (d.setReg (Reg.STK 0 + 0x20) (BitVec.ofNat 32 per)).setReg (Reg.STK 0 + 0x28) (BitVec.ofNat 32 g)

theorem sound_up : up.Sound := by unfold Device.Sound Core.Sound; decide
theorem witness_DeviceTimeStepsAndLatches : up.Sound ∧ (∃ p : PartId, (inState 1).stkState p ≠ 0) ∧ (∀ p : PartId, up.stkState p = 0) ∧
    bits ((up.setReg Reg.TIM_SET_0 0x9A0000#32).reg Reg.TIM_SET_0).toNat 47 16 < 1000000000 :=
  ⟨sound_up, ⟨0, by decide⟩, by decide, by decide⟩
theorem test_step_sets_time :
    (after (exec .timStep (ofDev ((up.setReg Reg.TIM_SET_0 0x30000#32).setReg Reg.TIM_SET_1 0x20000#32)))).now = 2 * secUnit + 3 * nsUnit := by decide
theorem witness_SourceChangeMovesLock : up.Sound ∧ (3 : Nat) < 4 ∧ 3 ≠ up.timeSrc ∧ (4 : Fin 8).val ≥ 4 ∧ up.evtState 0x001 = 0 ∧
    (after (exec (.timSrcWrite 3) (ofDev up))).lock ≠ up.lock := ⟨sound_up, by decide⟩
theorem test_locked_source_change : (after (exec (.timSrcWrite 3) (ofDev (up.setFld Reg.TIM_STATUS 31 30 2)))).lock = 3 := by decide

/-- A module with port 0 up that takes PTP of master 9. -/
def ptp : Device :=
  let d := (up.setFld Reg.TIM_CTL 2 0 1).setFlag (Reg.AQ_PORT_STATUS 0) 31 true
  { d with tim := { d.tim with
      master := some { priority1 := 1, clockClass := 6, accuracy := 0, variance := 0, priority2 := 1, identity := 5, steps := 1, sender := 9 }
      sync := some { seq := 4, rx := 100, corr := 0 }, delayReq := some (3, 50) } }
theorem witness_TimeMessagesAndMeasurements :
    (ptp.ptpMine 0 0 0 = true ∧ ptp.ptpFromMaster 9 = true ∧ ptp.ptpMine 1 0 0 = false) ∧ ptp.tim.sync.map (·.seq) = some 4 ∧
    ptp.tim.delayReq = some (3, 50) ∧ ptp.timeSrc = 1 ∧ ptp.ptpPort < 8 ∧ ptp.tim.master.isSome = true ∧
    (PtpMaster.better { priority1 := 0, clockClass := 6, accuracy := 0, variance := 0, priority2 := 1, identity := 5, steps := 1, sender := 8 }
      { priority1 := 1, clockClass := 6, accuracy := 0, variance := 0, priority2 := 1, identity := 5, steps := 1, sender := 9 }) = true ∧
    (let d := { up with tim := { up.tim with inBound := 15 } }.setFld Reg.TIM_STATUS 31 30 1
     d.tim.lockedOnce = false ∧ d.anySchedule = false ∧ 15 ≤ d.tim.inBound ∧ d.lock = 1) := by decide

theorem witness_ArmChoosesFirstStroke : up.Sound ∧
    (let d := withSchedule up 100000 5000
     d.standby = false ∧ d.noImage 1 = false ∧ d.noImage 3 = false ∧ d.stkState 0 = 0 ∧ d.schedCheck 0 (d.shadow 0) = none) := ⟨sound_up, by decide⟩
theorem test_arm_ten_microseconds : ((after (exec (.stkArm 0) (ofDev (withSchedule up 100000 5000)))).stroke 0).next = 1 := by decide
theorem witness_SchedulesAndTheirStrokes :
    ((inState 1).stkState 0 = 1 ∧ (inState 2).stkState 0 = 2 ∧ (inState 3).stkState 0 = 3 ∧ up.stkState 0 = 0) ∧
    (withSchedule up 99999 5000).schedCheck 0 ((withSchedule up 99999 5000).shadow 0) = some (0x0010, 0x100) ∧
    (let d := inState 2
     let k : Stroke := { active := [(0x2C, 1#32)], begun := true }
     let d := d.setStroke 0 k
     d.stkState 0 = 2 ∧ (d.stroke 0).begun = true ∧ d.closed 0 = false ∧ 0 < schedNent (d.stroke 0).active ∧ 0 ∉ (d.stroke 0).fired) ∧
    (∀ a : Fin 7, (schedEntry [(0x1004, BitVec.ofNat 32 (a.val * 2 ^ 28))] 0).action = a.val) ∧
    ((inState 2 true).stkState 0 = 2 ∧ (inState 2 true).closed 0 = true) := by decide
theorem witness_SluicesCancelAndDrainsClear :
    ((inState 2).stkState 0 = 2 ∧ (inState 2).closed 0 = false) ∧
    ((({} : Device).setStroke 0 { draining := some 5 }).stroke 0).draining = some 5 ∧ up.partEmpty 0 = true ∧
    (up.setCore 0 { mxq := [mm 1 1 1] }).partEmpty 0 = false ∧ 0 ∈ up.coresOf 0 ∧ 8 ∉ up.coresOf 0 := by decide
theorem test_sluice_empties : ((after (exec (.sluice 0) (ofDev ((inState 2).setCore 0 { mxq := [mm 1 1 1] })))).core 0).mxq = [] := by decide

/-! ## Reduction -/

/-- A partition with an open bucket 7 of 32 elements in FP32, one pair slot 3, and the owner; stroke 0. -/
def bucket0 : Bucket := {
  part := 0, tag := 7, stroke := 0, window := 0, elems := 32, xfmt := 0, sfmt := 0x18, agreed := 0, nleaf := 2
  leaves := [{ num := 0, src := 0, fill := 0x10000000000, parent := 0, pslot := 3, cw := some 0x400000000 }]
  slots := [{ num := 3, height := 1, buf := 0x10000010000, llo := 0, mid := 1, rhi := 2, parent := 0, pslot := 0x8000 }]
  owner := some { core := 0, sem := 0, res := 0x10000020000, hdr := 0x10000030000, maskAt := 0x10000040000, mask := 3 } }
def reducing (b : Bucket := bucket0) (net : List RedMsg := []) : Device :=
  ({ up with red := { buckets := [b], net := net } } : Device).setFlag (Reg.RED_CTL 0) 0 true
def pieceBytes (tag : Nat) (absent : Bool := false) : List Byte :=
  { tag := tag, piece := 0, stroke := 0, absent := absent, nelem := 32 : PieceHdr }.bytes ++ (if absent then [] else List.replicate 128 0#8)

theorem witness_ReductionMessagesArrive :
    (let m : RedMsg := { part := 0, sender := 0, dest := 3, piece := true, bytes := pieceBytes 7 }
     let d := reducing bucket0 [m]
     d.red.net[0]? = some m ∧ RedMsg.mayArrive d.red.net 0 = true ∧ strokeOlder (leAt m.bytes 4 4) (d.strokeOf 0) = false ∧
     d.flag (Reg.RED_CTL 0) 0 = true ∧ d.standby = false ∧ d.redFind 0 (leAt m.bytes 0 2) 0 = some 0 ∧ d.bucket 0 = some bucket0 ∧
     (PieceHdr.ofBytes m.bytes).piece < bucket0.npiece ∧ (PieceHdr.ofBytes m.bytes).nelem = bucket0.nelem 0 ∧
     m.bytes.length = 32 + payloadBytes 0 32 ∧ destOwner m.dest = false ∧ destOwner 0xFFFF = true ∧
     bucket0.slots.findIdx (fun x => x.num == destSlot m.dest) = 0) ∧
    (reducing.redFind 0 8 0 = none) ∧ strokeOlder 0 ((up.setReg (Reg.STK_NUM 0) 1#32).strokeOf 0) = true ∧
    (PieceHdr.ofBytes (pieceBytes 7 true)).absent = true := by decide
theorem test_first_side_waits :
    (after (exec (.pieceArrival 0) (ofDev (reducing bucket0 [{ part := 0, sender := 0, dest := 3, piece := true, bytes := pieceBytes 7 true }])))).red.buckets.map
      (fun b => b.slots.map (fun x => (x.side (destRight 3) 0, x.sent))) = [[(some .absent, 0)]] := by decide
theorem witness_ReductionSlotsAndDeadlines :
    (let x : RedSlot := { num := 3, height := 1, buf := 0, llo := 0, mid := 1, rhi := 2, parent := 0, pslot := 0, left := [(0, .present [])], right := [(0, .missing)] }
     x.side false 0 = some (.present []) ∧ x.side true 0 = some .missing) ∧
    reducing.freeRunning 0 = true ∧ (inState 1).freeRunning 0 = false ∧ reducing.redFind 0 7 (reducing.strokeOf 0) = some 0 ∧
    bucket0.slots.findIdx (fun x => x.num == 3) = 0 ∧ rankDown 0 = false ∧ 5 ∈ ({ bucket0 with down := [5] }).down ∧ 6 ∉ ({ bucket0 with down := [5] }).down ∧
    (bucket0.leaves[0]?.map (·.state)) = some .armed ∧
    ([{ unit := 0, cw := 0x400000000, bytes := [] }] : List Seen).find? (fun x => x.unit == 0) = some { unit := 0, cw := 0x400000000, bytes := [] } := by decide
theorem test_settle_sets_error : ((after (exec (.redSettle 0) (ofDev (inState 1)))).flag (Reg.RED_STATUS 0) 31) = true := by decide

/-! ## Aqueduct -/

/-- An open flow 5 of partition 0, its peer met. -/
def flow5 : Flow := { part := 0, gen := 1, phase := .live, src := 0x0A000001, remote := 0x0A000002, rflow := 0x40006, peer := true, acked := true }
def flowing (x : Flow := flow5) : Device := { up with aq := { up.aq with flows := [(5, x)] } }

/-- A frame with its FCS. -/
def frameOf (body : List Byte) : List Byte := body ++ toLe 4 (fcs body)

theorem witness_AqueductFramesAndPorts :
    (let f := frameOf (List.replicate 12 0#8 ++ [0x12#8, 0x34#8] ++ List.replicate 46 0#8)
     64 ≤ f.length ∧ fcs (f.take (f.length - 4)) = leAt f (f.length - 4) 4 ∧ (frameBody f).1 = 0x1234) ∧
    ((flowing.flow 5 = some flow5) ∧ flowing.flow 6 = none ∧ flow5.fresh 0 = true ∧ flow5.fresh 0xFFFFFFFF = false ∧ flowing.rxHeld + 8192 ≤ rxBuffer ∧
     flow5.unacked < 15) ∧
    (let d := up.setReg (Reg.AQ_IP4 0) 0x0A000001#32
     d.partOfIp false 0x0A000001 = some 0 ∧ up.partOfIp false 0x0A000001 = none ∧ up.partOfIp true 7 = none) ∧
    Cells.rising 0 (up.port 0).paused = true := by decide
theorem test_bad_fcs : ((after (exec (.frameReceive 2 [1#8]) (ofDev up))).reg (Reg.AQ_FCS_ERR 2)) = 1#32 := by decide
theorem test_crc32c_check : crc32c ([0x31, 0x32, 0x33, 0x34, 0x35, 0x36, 0x37, 0x38, 0x39].map (BitVec.ofNat 8)) = 0xE3069283 := by decide

/-- A packet held by flow 5. -/
def rx (kind op : Nat) (payload : List Byte := []) (mid : List Byte := List.replicate 32 0#8) (flags : Nat := 2) : RxPkt :=
  { kind := kind, op := op, flags := flags, mid := mid, payload := payload }
theorem witness_ReceivedMessagesTakeEffect :
    (let x := { flow5 with cum := 1, inbox := [rx 0 1 [1#8]] }
     (flowing x).flow 5 = some x ∧ x.held = [rx 0 1 [1#8]] ∧ x.settledBefore 0 = true ∧ x.reported 0 = false) ∧
    (∀ op ∈ [1, 2, 3, 4, 5, 6, 7, 8], ({ flow5 with cum := 1, inbox := [rx 0 op] } : Flow).held.find? (fun q => q.op == op) = some (rx 0 op)) := by decide
theorem witness_FlowControlPackets :
    ∀ k ∈ [(1, 0), (2, 0), (3, 1), (3, 2), (3, 3), (3, 4), (3, 5)],
      ({ flow5 with inbox := [rx k.1 k.2] } : Flow).inbox.find? (fun p => p.kind == k.1 && p.op == k.2) = some (rx k.1 k.2) := by decide
theorem test_close_ack_frees :
    (after (exec (.closeAck 5) (ofDev (flowing { flow5 with phase := .closing, inbox := [rx 3 4] })))).aq.flows.map (·.1) = [] := by decide
theorem witness_DescriptorsTimersAndQueues :
    (let t : Taken := { part := 0, entry := 0, stroke := 0, bytes := toLe 1 1 ++ List.replicate 63 0#8 }
     leAt t.bytes 0 1 = 1 ∧ strokeOlder t.stroke ((up.setReg (Reg.STK_NUM 0) 1#32).strokeOf 0) = true ∧ bit (leAt t.bytes 1 1) 0 = false) ∧
    (let q : WorkQueue := { unit := 1, part := 0, entry := 0, ring := 0x10000000000, log2 := 4, cw := 9 }
     let y : Seen := { unit := 1, cw := 9, bytes := toLe 4 15 ++ toLe 4 0 }
     let d := { up with aq := { up.aq with queues := [q] }, seen := [y] }
     (d.takeSeen 1).map (·.1) = some y ∧ d.aq.queues.filter (fun q => q.unit == 1 && q.cw == y.cw) = [q] ∧ leAt y.bytes 0 4 < 2 ^ q.log2) ∧
    (({ flow5 with firstUnacked := some 3 } : Flow).firstUnacked = some 3) ∧
    ((up.setFlag Reg.AQ_STATUS 16 true).flag Reg.AQ_STATUS 16 = true ∧ up.aqDrained 0 = true ∧ up.flag Reg.AQ_CTL 16 = false) ∧
    ((up.setPortFlag 0 29 true).portFlag 0 29 = true ∧ up.portHolds 0 = false ∧ up.portFlag 0 31 = false ∧ up.noImage 2 = false ∧
     up.fld (Reg.AQ_PORT_CTL 0) 1 0 = 0) := by decide
theorem test_port_link_up : (after (exec (.portLinkUp 3) (ofDev up))).portFlag 3 31 = true := by decide

/-! ## Updates, slices, service -/

/-- A 128-byte update descriptor of group 0 whose bytes at an offset are given. -/
def updBytes (off v : Nat) : List Byte := List.replicate off 0#8 ++ [BitVec.ofNat 8 v] ++ List.replicate (127 - off) 0#8
def upd0 (bytes : List Byte) : UpdDesc := { id := 4, part := 0, queue := 2, stroke := 0, bytes := bytes }
def updating (t : UpdDesc) : Device :=
  { up with upd := { up.upd with taken := [t], handed := [t.id] } }.setFld (Reg.UPD_NGROUP 0) 16 0 1

theorem witness_UpdatesServedAndControlled :
    (let t := upd0 (updBytes 0 0)
     let d := updating t
     d.updHead 0 2 = some t ∧ (rotate 64 (Cells.get 0 d.upd.ptr 0) (fun q => ((d.updHead 0 q).map d.updReady).getD false)) = some 2 ∧
     uNorm t.bytes = false ∧ uVector t.bytes = true ∧ d.updStale t = false ∧ uGroup t.bytes < d.fld (Reg.UPD_NGROUP 0) 16 0 ∧
     (d.setReg (Reg.STK_NUM 0) 1#32).updStale t = true ∧ up.fld (Reg.UPD_NGROUP 0) 16 0 ≤ uGroup t.bytes) ∧
    (let t := { upd0 (updBytes 0 0) with chiplet := some 1 }
     let d := updating t
     d.engineFree 1 = true ∧ d.standby = false ∧ d.upd.handed.findSome? (fun i => d.upd.taken.find? (fun t => t.id == i && t.chiplet == some 1)) = some t ∧
     (updating { t with running := true }).engineFree 1 = false ∧
     (updating { t with running := true }).upd.taken.find? (fun t => t.running && t.chiplet == some 1) = some { t with running := true }) ∧
    (up.flag (Reg.UPD_CTL 0) 0 = false ∧ up.flag (Reg.UPD_STATUS 0) 30 = false ∧ up.updDrained 0 = true) ∧
    strokeOlder 0 ((up.setReg (Reg.STK_NUM 0) 1#32).strokeOf 0) = true ∧ up.groupRuns 0 3 = false := by decide
theorem test_stale_update_cancelled :
    (after (exec (.updDescVector 0) (ofDev ((updating (upd0 (updBytes 0 0))).setReg (Reg.STK_NUM 0) 1#32)))).upd.taken = [] := by decide

/-- A slice of partition 0 on behalf of command 9. -/
def slice0 : Slice := {
  plan := 0, stroke := 0, time := 0, target := 0, head := 0x10000000000, seq := 1, np := 1, info := 0, pages := [], incr := false
  dmap := 0, mirror := none, owner := 9 }
theorem witness_CheckpointSlicesRun :
    ((inState 2 true).setFlag (Reg.STK_STATUS 0) 28 true).drained 0 = true ∧
    ((up.setStroke 0 { ckpt := some 3 }).stroke 0).ckpt = some 3 ∧ up.standby = false ∧ up.stkState 0 = 0 ∧
    (let d := { up with svc := { up.svc with ckpt := [(0, slice0)] } }
     Cells.find? d.svc.ckpt 0 = some slice0 ∧ slice0.sent = false ∧ slice0.mirror = none ∧ Cells.find? d.aq.failed 0 = none ∧ d.awaiting 0 = false) ∧
    (let h : HeldPage := { page := 5, dst := 6, part := 0 }
     ([h] : List HeldPage).find? (fun h => h.page == 5) = some h ∧ up.heldPages.find? (fun h => h.page == 5) = none) := by decide
theorem witness_PagesCopyAndServiceRuns :
    ((5 : Nat) ≠ 6 ∧ Cells.wf (fun _ => false) up.poison = true) ∧
    (up.hasSlot 0 = true ∧ up.flag (Reg.HUB_SLOTSTAT 0) 14 = false ∧ up.flag (Reg.HUB_SLOTSTAT 0) 8 = false ∧ (∀ m ∈ up.svc.spare, m.core ≠ 0)) ∧
    ((up.setFlag (Reg.HUB_SLOTSTAT 0) 8 true).flag (Reg.HUB_SLOTSTAT 0) 8 = true) ∧ ((up.setReg (Reg.HUB_SLOTMAP 0) 0xFFFFFFFF#32).hasSlot 0 = false) ∧
    (let d := { up with svc := { up.svc with spare := [{ core := 0 }] } }
     d.spareWanted 0 = some { core := 0 } ∧ d.moveNow { core := 0 } = .go) ∧
    (isDram (regionOf 0x10000000000) = true ∧ pageKey 0x10000000000 ∈ [pageKey 0x10000000000]) ∧
    ((up.setSvc 1 0 2).svcState 1 0 = 2 ∧ (up.setSvc 0 3 1).svcState 0 3 = 1 ∧ (up.setSvc 2 15 2).svcState 2 15 = 2 ∧
     up.clustersEmpty 0xF000 = true ∧ up.partDrained 0 = true) := by decide
theorem test_copy_of_a_page : ({ up with mem := [(0x50000, 7#8)] }.copyPage 5 6).mem = [(0x50000, 7#8), (0x60000, 7#8)] := by decide

/-! ## The Zennus interface -/

/-- A module with the admin rings of the PF and of VF 1, partition 0 ON and bound to it, and a packet of the PF (fn 0) read: opcode, byte 3, parameters from byte 16. -/
def znBase : Device :=
  let d := { up with zn := { up.zn with rings := [(0, { fn := 0, loc := 0, sqBase := 0, cqBase := 0x1000, log2 := 4 }), (1, { fn := 1, loc := 0, sqBase := 0, cqBase := 0x2000, log2 := 4 })] } }
  ((d.setSvc 2 0 0).setSvc 2 1 3).setFld Reg.SEC_STATE 31 30 1
def znPkt (op b3 : Nat) (args : List (Nat × Nat × Nat)) : List Byte :=
  let x := args.foldl (fun a e => a + e.2.2 * 2 ^ (8 * e.1)) 0
  toLe 2 op ++ [0#8, BitVec.ofNat 8 b3] ++ toLe 4 0x77 ++ toLe 8 0 ++ (toLe 64 x).drop 16
def znWith (d : Device) (op b3 : Nat) (args : List (Nat × Nat × Nat) := []) : Device := d.receive 0 0 (znPkt op b3 args)

/-- A row, its opcode and packet. -/
def znRows : List (Instr × Nat × Nat × List (Nat × Nat × Nat)) :=
  [(.znNop, 0x0001, 0, []), (.znIdentify, 0x0002, 0, [(16, 8, 0x5000)]), (.znRingCreate, 0x0003, 0, [(16, 8, 0x1000), (24, 8, 0x2000), (32, 1, 16), (34, 2, 0xFFFF)]),
   (.znVfConfig, 0x0005, 0, [(16, 1, 16), (17, 1, 15), (18, 2, 2048)]), (.znPrepareRemove, 0x0006, 0x80, []), (.znPartConfig, 0x0200, 1, [(16, 2, 2)]),
   (.znPartDisable, 0x0202, 0, []), (.znGranuleAssign, 0x0203, 0, [(16, 8, 0), (24, 4, 1)]), (.znPtRoot, 0x0206, 0, []), (.znXlateInval, 0x0207, 0, []),
   (.znImemLoad, 0x0300, 0, [(16, 1, 7), (17, 1, 1), (18, 2, 1023)]), (.znCoreReset, 0x0301, 0, [(16, 1, 0xFF)]), (.znFlowQuery, 0x0502, 0, [(16, 4, 199999)]),
   (.znPortAdmit, 0x0506, 0x80, [(16, 1, 7), (17, 1, 1)]), (.znRxringSet, 0x0508, 0, []), (.znAqEnable, 0x0509, 0, [(16, 1, 1)]), (.znUpdEnable, 0x0601, 0, [(16, 1, 1)]),
   (.znPowerState, 0x0806, 0x80, [(16, 1, 3)]), (.idleEntry, 0x0806, 0x80, [(16, 1, 4)]), (.standbyEntry, 0x0806, 0x80, [(16, 1, 5)]),
   (.activeReturn, 0x0806, 0x80, [(16, 1, 6)]), (.znDebugClose, 0x0802, 0, []), (.znCisEnable, 0x0702, 0x80, [(16, 1, 1)])]

theorem witness_ZennusRingAndTransportCommands :
    ∀ x ∈ znRows, ((znWith znBase x.2.1 x.2.2.1 x.2.2.2).znPump.znNext.map (fun e => (e.1, e.2.opcode))) = some (0, x.2.1) := by decide
theorem test_zennus_rows_complete_with_ok :
    (znRows.filter (fun x => !([0x0002, 0x0006, 0x0202].contains x.2.1))).all (fun x =>
      let d := after (exec x.1 (ofDev (znWith znBase x.2.1 x.2.2.1 x.2.2.2)))
      decide (d.zn.cmds = []) && decide (Cells.getRange 0#8 d.hostMem 0x1004 2 = [0#8, 0#8]) && decide (Cells.get 0#8 d.hostMem 0x1000 = 0x77#8)) = true := by decide
theorem witness_ZennusModuleCommands :
    ∀ x ∈ ([(0x0700, [(16, 1, 3)]), (0x0701, [(16, 1, 3)]), (0x0703, [(16, 1, 1)]), (0x0704, [(16, 1, 6)]), (0x0705, [(16, 1, 6)]), (0x0706, [(16, 1, 6)]),
        (0x0707, [(16, 8, 0x10000000000)]), (0x0708, [(16, 1, 2)]), (0x0800, [(16, 1, 1)]), (0x0803, []), (0x0804, []), (0x0805, [(16, 4, 1000)]),
        (0x0807, [(16, 2, 0x7FFF)]), (0x0808, [(16, 2, 0x100)])] : List (Nat × List (Nat × Nat × Nat))),
      ((znWith znBase x.1 0x80 x.2).znPump.znNext.map (fun e => (e.1, e.2.opcode))) = some (0, x.1) := by decide
theorem test_power_limit_refused :
    Cells.getRange 0#8 (after (exec .znPowerLimit (ofDev (znWith znBase 0x0805 0x80 [(16, 4, 1001)])))).hostMem 0x1004 2 = [0x10#8, 0#8] := by decide
theorem witness_ZennusRingsAndRefusals :
    (znBase.localRing 1 0).map (fun e => (e.1, e.2.log2)) = some (1, 4) ∧ znBase.localRing 2 0 = none ∧
    ((15 + 2 ^ 4 - 0) % 2 ^ 4 ≠ 0 ∧ (15 : Nat) < 2 ^ 4 ∧ 2 ^ 4 ≤ 16) ∧ up.flag (Reg.ZN_STATUS 1) 31 = true ∧ up.flag (Reg.ZN_CTL 1) 0 = false ∧
    (let d := znWith znBase 0x0007 0
     d.znNext.map (fun e => d.refusal e.2) = some (some 0x0001) ∧ opRow 0x0007 = none) ∧ bits (leAt (znPkt 1 0 []) 2 1) 3 0 = 0 ∧ (znPkt 1 0 []).length = 64 := by
  decide
theorem test_doorbell_reads_a_packet :
    (after (exec (.sqTailWrite 0 0 1#32 (znPkt 1 0 [])) (ofDev znBase))).zn.cmds.map (fun e => (e.1, e.2.opcode, e.2.cmdId)) = [(0, 1, 0x77)] := by decide

/-- A command of the PF in a state. -/
def zcmd (op : Nat) (st : CmdState) : ZCmd := { fn := 0, ring := 0, opcode := op, state := st, ran := st != .queued, pkt := znPkt op 0x80 [] }
def znHolds (c : ZCmd) : Device := { znBase with zn := { znBase.zn with nextCmd := 1, cmds := [(0, c)], order := [0] } }
theorem witness_LongOperationsProceed :
    (∀ st ∈ [CmdState.queued, .running, .suspending, .suspended, .resuming, .cancelling], (Cells.find? (znHolds (zcmd 0x0803 st)).zn.cmds 0) = some (zcmd 0x0803 st) ∧
      (zcmd 0x0803 st).long = true) ∧
    (∀ op ∈ [0x0100, 0x0101, 0x0102, 0x0103],
      let d := (znWith (znHolds (zcmd 0x0803 .running)) op 0 [(16, 4, 0x77)])
      let p := d.znPump.znNext
      p.map (·.2.opcode) = some op ∨ (d.zn.cmds.map (·.2.dup)) = [false, true]) ∧
    (let d := { znBase with boot := { znBase.boot with changes := [{ sets := [] }], firstStart := [(6, none)] } }
     d.boot.changes = { sets := [] } :: [] ∧ d.boot.fails = 0 ∧ d.boot.firstStart.find? (fun x => x.1 == 6) = some (6, none)) := by decide
theorem test_first_start_fires :
    (after (exec (.fwFirstStartResult 6 true) (ofDev { znBase with boot := { znBase.boot with firstStart := [(6, none)] } }))).boot.firstStart = [] := by decide

/-! ## The host port, events, faults -/

theorem witness_RegisterWritesStoreAndAct :
    up.regKey 0 (Reg.CORE_CTL 0) = some (Reg.CORE_CTL 0) ∧ up.regKey 1 (Reg.CFG) = none ∧
    (0x80000000#32 &&& Reg.reserved (Reg.CORE_CTL 0) ≠ 0#32) ∧ (0xF#32 &&& Reg.reserved (Reg.CORE_CTL 0) = 0#32) ∧
    up.storedValue 0 (Reg.CORE_CTL 0) 0xF = some 0xF ∧ up.storedValue 1 (Reg.EVT_SRC 0x200) (0x10 * 2 ^ 16) = none ∧
    ¬ (Reg.HUB_LINK_ERR 0 ≤ Reg.CORE_ENTRY 0 ∧ Reg.CORE_ENTRY 0 ≤ Reg.HUB_LINK_ERR 9) := by decide
theorem test_denied_counts : (after (exec (.registerWrite 1 (Fin.ofNat 67108864 Reg.CFG) 0#32) (ofDev up))).reg (Reg.ZN_BAR_DENY 1) = 1#32 := by decide
theorem witness_HostAccessesAndMessages :
    up.standby = false ∧ (0x3FFFFFFF + 1 ≤ 2 ^ up.zn.bar4Pf) ∧
    (match up.bar4Pieces 0 .read (pieces 0x10000 0xFFFF 2) with | (_, .ok ps) => ps | _ => []) = [(0xFFFF, 1), (0x10000, 1)] ∧
    (match up.bar4Pieces 0 .write (pieces 0x10000 0x6000000000 1) with | (_, .error e) => some e | _ => none).isSome = true ∧
    ({} : Device).boot.starting = true ∧ up.boot.starting = false ∧ up.pwr.pgOut = true ∧ up.mgmtRuns = true ∧ ({} : Device).mgmtRuns = false ∧
    up.stage ≠ 6 ∧ imageBad 0 0 [] = true := by decide
theorem test_bar4_write : (after (exec (.bar4Write 0 0x10 [9#8]) (ofDev up))).mem = [(0x10, 9#8)] := by decide
theorem test_bar4_hole : (after (exec (.bar4Read 1 0 2) (ofDev up))).zn.bar4Data = [0xFF#8, 0xFF#8] := by decide

/-- A source n with EN and a state, whose set 0 has a member 0 that goes to the journal. -/
def evtDev (n st : Nat) : Device :=
  ((up.setFlag Reg.EVT_CTL 0 true).setReg (Reg.EVT_SRC n) (BitVec.ofNat 32 (2 ^ 31 + st * 2 ^ 29))).setReg (Reg.EVT_SET 0 0) 0xC0000000#32
theorem witness_EventSourcesMove :
    up.Sound ∧ (∀ st : Fin 4, (evtDev 0x200 st).evtState 0x200 = st.val) ∧
    (let d := (up.setFld (Reg.EVT_FN_WIN 1) 11 0 0x200).setFld (Reg.EVT_FN_WIN 1) 24 16 256
     d.fld (Reg.EVT_FN_WIN 1) 24 16 = 256 ∧ (255 : Nat) < 256 ∧ 0x200 ≤ d.fld (Reg.EVT_FN_WIN 1) 11 0) ∧
    up.flag Reg.EVT_CTL 0 = false ∧
    (let d := (((evtDev 0x200 1).setReg (Reg.EVT_SET 0 0) 0xC0000000#32).setReg (Reg.EVT_SET 0 0) (BitVec.ofNat 32 (2 ^ 31 + 2 * 2 ^ 29)))
     d.flag Reg.EVT_CTL 0 = true ∧ d.noteHeld.pendingSources = [0x200] ∧ d.noteHeld.readyMember 0x200 = some 0) ∧
    ({ up with evt := { up.evt with mgmt := [0x200] } }.evt.mgmt = 0x200 :: []) := by
  refine ⟨sound_up, ?_⟩
  decide
theorem test_fire_of_active : ((evtDev 0x200 2).fire 0x200).evtState 0x200 = 3 := by decide
theorem test_complete_of_active_pending : (after (exec (.evtComplete 0 0x200) (ofDev (evtDev 0x200 3)))).evtState 0x200 = 1 := by decide

theorem witness_FaultRecordsAndCounters :
    (let r : FaultRec := { status := 0x21, source := 10, part := 0 }
     let d := { up with fault := { up.fault with queue := [r] } }
     d.fault.queue = r :: [] ∧ d.boot.starting = false ∧ r.part < 16 ∧ (16 : Nat) ≤ ({ r with part := 0xFF }).part ∧
     (∀ q ∈ up.fault.queue, q.sameAs r = false) ∧ ¬ (1024 ≤ up.fault.queue.length) ∧ 1024 ≤ (List.replicate 1024 r).length) ∧
    (let d := (up.setFlag (Reg.ZN_FAULT_CFG 0) 31 true)
     d.flag (Reg.ZN_FAULT_CFG 0) 31 = true ∧ (0 + 1) % 16 ≠ d.fld (Reg.ZN_FAULT_IDX 0) 15 0 % 16 ∧
     (15 + 1) % 16 = (d.setFld (Reg.ZN_FAULT_IDX 0) 31 16 15).fld (Reg.ZN_FAULT_IDX 0) 15 0 % 16) ∧
    up.flag (Reg.ZN_FAULT_CFG 16) 31 = false ∧ up.flag Reg.SEC_TRACE_CFG 31 = false ∧ 9 ∉ up.fault.linkReported := by decide
theorem test_record_goes_to_the_ring :
    let d := (up.setFlag (Reg.ZN_FAULT_CFG 0) 31 true).setReg (Reg.ZN_FAULT_IDX 0) 0#32
    (after (exec .faultRecordDelivery (ofDev (d.raise { status := 0x21, source := 10 })))).reg Reg.HUB_FAULTS = 1#32 := by decide

/-! ## Presence, seal, debug -/

/-- A module with an open window for command 0, opened at 1 s. -/
def pressing : Device :=
  { znHolds (zcmd 0x0803 .running) with sec := { up.sec with window := some { cmd := 0, opened := secUnit, deadline := 61 * secUnit, opcode := 0x0803 } } }
/-- A debug session of a level that holds core 0 of partition 0 HALTED. -/
def debugging (level : Nat) (w : Nat := 0) : Device :=
  ((up.setFld Reg.SEC_STATE 23 22 level).setFld Reg.SEC_STATE 19 16 0).setCore 0 { run := .halted, imem := [(0, BitVec.ofNat 32 w)] }
theorem witness_PresenceSealAndDebug :
    (up.pwr.pgOut = true ∧ up.sec.window = none ∧ ({ up with pwr := { up.pwr with pgOut := false } }).pwr.pgOut = false) ∧
    (pressing.sec.window.map (·.cmd) = some 0 ∧ max pressing.now (secUnit + 50000000 * nsUnit) ≤ 61 * secUnit ∧
     Cells.find? pressing.zn.cmds 0 = some (zcmd 0x0803 .running) ∧ pressing.standing (zcmd 0x0803 .running) = true) ∧
    ((up.setFlag Reg.SEC_STATE 29 true).flag Reg.SEC_STATE 29 = true ∧ up.flag Reg.SEC_STATE 29 = false) ∧
    ((debugging 2).dbgLevel = 2 ∧ (debugging 2).partOf 0 = some 0 ∧ (debugging 2).exitIdle.dbgCore 0 = true ∧
     ((debugging 2).exitIdle.core 0).run = .halted ∧ ((debugging 2).exitIdle.core 0).empty = true ∧
     (((debugging 2).exitIdle.core 0).dbgReg 0).isSome = true ∧ ((debugging 2).exitIdle.core 0).dbgReg 0xFFFFFFFF = none ∧ up.dbgLevel ≠ 3) ∧
    ((debugging 3 (wordI 2 4 0 1)).stepRefusal 0 = none ∧ (debugging 3 (wordI 2 4 0 1)).stepWord 0 = some (wordI 2 4 0 1)) ∧
    (up.lifecycle = 0 ∧ (((List.range 16).foldl (fun d p => d.setSvc 2 p 3) up).allOff = true) ∧ znBase.allOff = false ∧ znBase.lifecycle = 1 ∧
     (up.setFld Reg.SEC_STATE 31 30 3).lifecycle = 3) := by decide
theorem test_press_before_window_is_stray : (after (exec (.presencePress (secUnit - 1)) (ofDev pressing))).reg Reg.SEC_PRES_STRAY = 1#32 := by decide
theorem test_step_of_addi :
    let d := after (exec .debugStep (ofDev (debugging 3 (wordI 2 4 0 1))))
    ((d.core 0).s 4, (d.core 0).pc, (d.core 0).run) = (1#64, 1, .halted) := by decide
theorem test_idcode : (after (exec .idcode (ofDev up))).sec.jtagOut.take 8 = [true, true, false, false, true, true, false, true] := by decide

/-! ## Temperature, power -/

/-- A module whose sensor 0 reads a temperature, in sixteenths of a degree. -/
def hot (t : Nat) : Device := up.setReg (Reg.PWR_TEMP 0) (BitVec.ofNat 32 (2 ^ 31 + t))
theorem witness_TemperaturesHoldAndShutDown :
    up.flag Reg.PWR_THERM 30 = false ∧ (up.setFlag Reg.PWR_THERM 30 true).flag Reg.PWR_THERM 30 = true ∧
    (hot (16 * 105)).anyAt throttlePoint = true ∧ up.anyAt throttlePoint = false ∧
    ({ up with pwr := { up.pwr with hotSince := some 5 } }).pwr.hotSince = some 5 ∧ up.pwr.hotSince = none ∧
    ({ up with pwr := { up.pwr with thermalOff := some 5 } }).pwr.thermalOff = some 5 ∧ ((16 * 70 - 1 : Int) < 16 * 70) ∧ up.Sound :=
  ⟨by decide, by decide, by decide, by decide, by decide, by decide, by decide, by decide, sound_up⟩
theorem test_hold_lowers_level : (after (exec .thermalHoldStep (ofDev ((hot (16 * 105)).setFlag Reg.PWR_THERM 30 true)))).level = 1 := by decide
theorem witness_GovernorMovesItsLevel :
    up.Sound ∧ up.level ≤ 5 ∧ (up.powerOver 1000 (up.fld Reg.PWR_LIMIT 15 0) = false ∧ up.powerOver 100 1000 = false) ∧
    (let d := { up with pwr := { up.pwr with samples := List.replicate 100 (48000, 2100, 1001) } }
     d.powerOver 100 1000 = true) ∧
    (let d := { up with pwr := { up.pwr with lowSince := some 0 } }
     d.pwr.lowSince = some 0 ∧ (up.powerLow = true ∨ up.powerLow = false)) ∧
    (∀ n, n ≤ 5 → min n 3 = min 3 n) ∧ up.noImage Sub.POWER = false ∧ (up.setFlag Reg.CFG_BOOT (8 + Sub.POWER) true).noImage Sub.POWER = true :=
  ⟨sound_up, by decide, by decide, by decide, by decide, fun n _ => Nat.min_comm n 3, by decide, by decide⟩
theorem witness_InputEventsPowerDown :
    up.pwr.pgOut = true ∧ ({ up with pwr := { up.pwr with pgOut := false } }).pwr.pgOut = false ∧ znBase.flag (Reg.ZN_STATUS 0) 29 = false ∧
    (up.setFlag (Reg.ZN_STATUS 0) 29 true).flag (Reg.ZN_STATUS 0) 29 = true := by decide
theorem test_rail_fault_latches : (after (exec (.railFault 3) (ofDev up))).pwr.latchedOff = true := by decide

/-! ## Start, resets, removal -/

theorem witness_StartsAndResets :
    (up.pwr.perstLow = true ∧ ({ up with pwr := { up.pwr with perstLow := false } }).pwr.perstLow = false) ∧
    (bits 0x8000574D 15 0 = 0x574D ∧ (0x8000574D : Nat).testBit 31 = true ∧ bits 0x8000574C 15 0 ≠ 0x574D) ∧
    ({ up with boot := { up.boot with warmAsked := some 5 } }.boot.warmAsked = some 5 ∧ up.stage ≠ 6 ∧ up.boot.changes = [] ∧
      (∀ g, g < 16 → (up.cluster g).lines = [])) ∧
    (let d := { up with pwr := { up.pwr with pgOut := false } }
     d.pwr.pwrEn = true ∧ d.pwr.latchedOff = false ∧ d.pwr.inputWait = false ∧ d.pwr.thermalOff = none ∧ d.pwr.pgOut = false ∧ d.pwr.nextCause < 16) ∧
    (∀ st : Fin 8, (({} : Device).setFld Reg.CFG_BOOT 27 24 st).stage = st.val) ∧ ({} : Device).boot.starting = true ∧ ({} : Device).pwr.pgOut = true := by
  decide
theorem test_rom_stage_first : ({} : Device).stage = 0 ∧
    (after (exec (.bootStageComplete 0 0) (ofDev (({} : Device).setFld Reg.CFG_BOOT 27 24 1)))).stage = 2 := by decide
theorem witness_RemovalAndFunctionResets :
    (up.flag (Reg.ZN_STATUS 0) 29 = false ∧ up.flag (Reg.ZN_STATUS 0) 30 = false ∧ up.zn.linkUp = true ∧ ({} : Device).zn.linkUp = false) ∧
    (up.boundPart 1 = none ∧ ((up.setFlag (Reg.ZN_STATUS 1) 15 true).flrFn 1).boundPart 1 = some 0) ∧
    (∀ x ∈ (znHolds (zcmd 0x0803 .running)).zn.cmds, x.2.fn ≠ 1) ∧ Cells.rising 0 znBase.zn.rings = true ∧
    (let c := zcmd 0x0001 .started
     Cells.find? (znHolds c).zn.cmds 0 = some c ∧ c.long = false ∧ (znHolds c).hasWindow 0 = false ∧ (∀ x ∈ (znHolds c).zn.cmds, x.2.waitsFor 0 = false)) := by
  decide
theorem test_flr_drops_the_ring : ((after (exec (.functionLevelReset 1) (ofDev znBase))).zn.rings.map (·.1)) = [0] := by decide

end Machine
end Sys2Proof
end

section
/-!
Which commands go on, and that none touches the queue (R11, R564): all rows but three act on the device alone; a single step issues one
instruction, which is again such a row.
-/
namespace Sys2Proof
namespace Machine

/-- The outcome r of a command carried out in state s is a next state, with the queue of s. -/
def State.GoesOnWith (s : State) (r : Result) : Prop := ∃ t, r = .next t ∧ t.pending = s.pending

theorem State.goesOnWith_next (s : State) (d : Device) : s.GoesOnWith (.next { s with dev := d }) := ⟨_, rfl, rfl⟩

/-! ## The single step of a core (R564)

Each instruction's row is by definition `State.onDev` of a change of the device, which answers a next state with the same queue. -/

theorem issueR_goesOn (core : CoreId) (fn : Nat) (s : State) : s.GoesOnWith (issueR core fn s) := by
  unfold issueR
  split <;> exact ⟨_, rfl, rfl⟩

theorem issueI_goesOn (core : CoreId) (op : Nat) (s : State) : s.GoesOnWith (issueI core op s) := by
  unfold issueI
  split <;> exact ⟨_, rfl, rfl⟩

theorem issueB_goesOn (core : CoreId) (op : Nat) (s : State) : s.GoesOnWith (issueB core op s) := by
  unfold issueB
  split <;> exact ⟨_, rfl, rfl⟩

theorem issueWord_goesOn (core : CoreId) (w : Nat) (s : State) : s.GoesOnWith (issueWord core w s) := by
  unfold issueWord
  split
  · exact issueR_goesOn core _ s
  · split
    · exact issueI_goesOn core _ s
    · exact issueB_goesOn core _ s

theorem stepCore_goesOn (core : CoreId) (s : State) : s.GoesOnWith (stepCore core s) := by
  unfold stepCore
  cases s.dev.stepRefusal core with
  | some st => exact s.goesOnWith_next _
  | none =>
    cases s.dev.stepWord core with
    | none => exact s.goesOnWith_next _
    | some w =>
      obtain ⟨t, ht, hqueue⟩ := issueWord_goesOn core w { s with dev := s.dev.stepBegin core }
      simp only [ht]
      exact ⟨_, rfl, hqueue⟩

theorem dbgPortRow_goesOn (ctl : Word) (addr data : Nat) (s : State) : s.GoesOnWith (dbgPortRow ctl addr data s) := by
  unfold dbgPortRow
  dsimp only
  split
  · exact s.goesOnWith_next _
  · split
    · exact s.goesOnWith_next _
    · split
      · exact stepCore_goesOn _ { s with dev := _ }
      · exact s.goesOnWith_next _

/-! ## A register write (R10, R11) -/

section RegisterWrite

variable {s : State} {fn off key : Nat} {v : Word}

/-- A write of a register that the function does not see is ignored; on a VF it is counted (R496; log 16). -/
theorem registerWrite_of_hidden (hkey : s.dev.regKey fn off = none) :
    registerWrite fn off v s = .next { s with dev := s.dev.denied fn } := by
  simp [registerWrite, hkey]

/-- A 1 in a reserved field has no defined effect (R11); that the machine stops there is the model's deduction (log 13). -/
theorem registerWrite_of_reserved (hkey : s.dev.regKey fn off = some key) (hres : v &&& Reg.reserved key ≠ 0#32) :
    registerWrite fn off v s = .fault .reservedField := by
  simp [registerWrite, hkey, hres]

/-- STEP without GO in SEC_DBG_CTL makes the named core take a single step after the write (R564). -/
theorem registerWrite_of_step (hkey : s.dev.regKey fn off = some key) (hres : v &&& Reg.reserved key = 0#32)
    (hstep : key = Reg.SEC_DBG_CTL ∧ bit v.toNat 30 = true ∧ bit v.toNat 31 = false) :
    registerWrite fn off v s =
      stepCore (Fin.ofNat 128 (bits v.toNat 23 17)) { s with dev := s.dev.regWrite fn key v.toNat } := by
  obtain ⟨rfl, hstep, hgo⟩ := hstep
  simp [registerWrite, hkey, hres, hstep, hgo]

/-- Every other write is that of the register alone. -/
theorem registerWrite_of_plain (hkey : s.dev.regKey fn off = some key) (hres : v &&& Reg.reserved key = 0#32)
    (hstep : ¬ (key = Reg.SEC_DBG_CTL ∧ bit v.toNat 30 = true ∧ bit v.toNat 31 = false)) :
    registerWrite fn off v s = .next { s with dev := s.dev.regWrite fn key v.toNat } := by
  simp only [registerWrite, hkey, hres, ne_eq, not_true_eq_false, if_false, Bool.not_eq_true', if_neg hstep]

/-- A register write goes on, or stops at a reserved field. -/
theorem registerWrite_goesOn_or_reserved (s : State) (fn off : Nat) (v : Word) :
    s.GoesOnWith (registerWrite fn off v s) ∨ registerWrite fn off v s = .fault .reservedField := by
  cases hkey : s.dev.regKey fn off with
  | none => exact .inl (registerWrite_of_hidden hkey ▸ s.goesOnWith_next _)
  | some key =>
    by_cases hres : v &&& Reg.reserved key = 0#32
    · left
      by_cases hstep : key = Reg.SEC_DBG_CTL ∧ bit v.toNat 30 = true ∧ bit v.toNat 31 = false
      · exact registerWrite_of_step hkey hres hstep ▸ stepCore_goesOn _ { s with dev := _ }
      · exact registerWrite_of_plain hkey hres hstep ▸ s.goesOnWith_next _
    · exact .inr (registerWrite_of_reserved hkey hres)

end RegisterWrite

/-- Settles O3, by cases of the command: a register write, the two other rows that can take a single step, and the rows that act on the
device alone. The stop of the first is log 13; that a row whose condition fails goes on is log 7. -/
theorem commandsGoOnAndKeepTheQueue : Obligations.CommandsGoOnAndKeepTheQueue := by
  intro c s
  cases c with
  | registerWrite fn off v =>
    obtain hgo | hstop := registerWrite_goesOn_or_reserved s fn off v
    · exact .inl hgo
    · exact .inr ⟨hstop, fn, off, v, rfl⟩
  | debugStep => exact .inl (stepCore_goesOn _ s)
  | dbgport ctl addr data => exact .inl (dbgPortRow_goesOn ctl addr data s)
  | _ => exact .inl ⟨_, rfl, rfl⟩ -- by definition `State.onDev` of a change of the device

end Machine
end Sys2Proof
end

section
/-!
What a register write stores and which actions it carries out (R10, R248, R496).
-/
namespace Sys2Proof
namespace Machine

/-! ## The value stored -/

theorem Device.regWrite_of_refused {d : Device} {fn key v : Nat} (h : d.storedValue fn key v = none) :
    d.regWrite fn key v = d.denied fn := by simp [Device.regWrite, h]

theorem Device.regWrite_of_stored {d : Device} {fn key v x : Nat} (h : d.storedValue fn key v = some x) :
    d.regWrite fn key v = (d.plainWrite key x).regAction fn key v := by simp [Device.regWrite, h]

/-! ## The plain fields -/

/-- A register after a write of its plain fields: those of the value x, and the old rest (R10). -/
def Device.mergedReg (d : Device) (key x : Nat) : Word :=
  (d.reg key &&& ~~~ Reg.writable key) ||| (BitVec.ofNat 32 x &&& Reg.writable key)

/-- But for a link's retry counter (R631), a write of plain fields sets the one register. -/
theorem Device.plainWrite_eq_setReg (d : Device) {key : Nat} (x : Nat) (h : ¬ (Reg.HUB_LINK_ERR 0 ≤ key ∧ key ≤ Reg.HUB_LINK_ERR 9)) :
    d.plainWrite key x = d.setReg key (d.mergedReg key x) :=
  if_neg fun hlink => h ⟨hlink.1, hlink.2.1⟩

/-! ## Actions of one write, in order (R248; log 14) -/

@[simp] theorem Device.onBit_of_set {d : Device} {v i : Nat} {f : Device → Device} (h : bit v i = true) : d.onBit v i f = f d := if_pos h

/-- SWITCH, RESUME, START and HALT of one write of CORE_CTL. -/
theorem Device.coreAction_all (d : Device) (c : Nat) :
    d.coreAction c 0 0xF = (((d.ctlSwitch c).ctlResume c).ctlStart c).ctlHalt c := by
  have hbits : bit 0xF 3 = true ∧ bit 0xF 1 = true ∧ bit 0xF 2 = true ∧ bit 0xF 0 = true := by decide
  obtain ⟨hswitch, hresume, hstart, hhalt⟩ := hbits
  simp [Device.coreAction, hswitch, hresume, hstart, hhalt]

/-- STOP, ARM and COMMIT of one write of STK_CTL. -/
theorem Device.stkAction_all (d : Device) (p : Nat) :
    d.stkAction p 0 0xE = ((d.stkStop p).stkArm p).stkCommit p := by
  have hbits : bit 0xE 2 = true ∧ bit 0xE 1 = true ∧ bit 0xE 3 = true := by decide
  obtain ⟨hstop, harm, hcommit⟩ := hbits
  simp [Device.stkAction, hstop, harm, hcommit]

/-- Settles O51: a write by the register's visibility and its reserved bits, the plain fields by the one register that they set, and the
order of actions in one write. The stop rests on log 13, the count of a denied write on log 16, and the plain fields before the actions on
log 14. -/
theorem registerWritesStoreAndAct : Obligations.RegisterWritesStoreAndAct := by
  intro s fn off v
  refine ⟨fun hkey => registerWrite_of_hidden hkey, fun key hkey => ⟨fun hres => registerWrite_of_reserved hkey hres, fun hres hstep => ?_⟩,
    fun key x hsound hlink => ?_, fun c p d => ⟨d.coreAction_all c, d.stkAction_all p⟩⟩
  · have hwrite := registerWrite_of_plain hkey hres hstep
    exact ⟨fun hx => Device.regWrite_of_refused hx ▸ hwrite, fun x hx => Device.regWrite_of_stored hx ▸ hwrite⟩
  · have hrising := Cells.wf_rising hsound.wfRegs
    rw [Device.plainWrite_eq_setReg s.dev x hlink]
    refine ⟨?_, fun r hr => ?_, Device.setReg_shape _ _ _⟩
    · rw [Device.reg_setReg _ hrising, if_pos rfl]; rfl
    · rw [Device.reg_setReg _ hrising, if_neg hr]

end Machine
end Sys2Proof
end

section
/-!
Every step keeps soundness (R14, R16, R257): one arm for each row, as `exec` dispatches them, each closed by the row's own law of
Laws/SoundRows.lean, and the passing of a core cycle.
-/
namespace Sys2Proof
namespace Machine

/-- A command that goes on leaves a sound device. -/
theorem exec_sound (i : Instr) {s t : State} (h : s.dev.Sound) : exec i s = .next t → t.dev.Sound :=
  match i with
  | .registerWrite _ _ _ => execRegisterWrite_sound h
  | .slotFailure _ _ => execSlotFailure_sound h
  | .linkCheckFail _ => execLinkCheckFail_sound h
  | .mxMm _ => execMxMm_sound h
  | .mxEarlyStart _ => execMxEarlyStart_sound h
  | .mxGangRelease => execMxGangRelease_sound h
  | .mxWsum _ => execMxWsum_sound h
  | .mxWfin _ => execMxWfin_sound h
  | .spMv _ => execSpMv_sound h
  | .spGangRelease => execSpGangRelease_sound h
  | .siphonTakeCommand _ => execSiphonTakeCommand_sound h
  | .siphonEarlyStart _ => execSiphonEarlyStart_sound h
  | .engineCommandRetire _ _ => execEngineCommandRetire_sound h
  | .gateRelease _ _ => execGateRelease_sound h
  | .vxSetvl _ => execVxSetvl_sound h
  | .vxLd _ => execVxLd_sound h
  | .vxSt _ => execVxSt_sound h
  | .vxLdcvt _ => execVxLdcvt_sound h
  | .vxStcvt _ => execVxStcvt_sound h
  | .vxLdm _ => execVxLdm_sound h
  | .vxStm _ => execVxStm_sound h
  | .vxAdd _ => execVxAdd_sound h
  | .vxSub _ => execVxSub_sound h
  | .vxMul _ => execVxMul_sound h
  | .vxFma _ => execVxFma_sound h
  | .vxFms _ => execVxFms_sound h
  | .vxFnma _ => execVxFnma_sound h
  | .vxMin _ => execVxMin_sound h
  | .vxMax _ => execVxMax_sound h
  | .vxAbs _ => execVxAbs_sound h
  | .vxNeg _ => execVxNeg_sound h
  | .vxCopysign _ => execVxCopysign_sound h
  | .vxIadd _ => execVxIadd_sound h
  | .vxIsub _ => execVxIsub_sound h
  | .vxImul _ => execVxImul_sound h
  | .vxIadds _ => execVxIadds_sound h
  | .vxIsubs _ => execVxIsubs_sound h
  | .vxImin _ => execVxImin_sound h
  | .vxImax _ => execVxImax_sound h
  | .vxIabs _ => execVxIabs_sound h
  | .vxAnd _ => execVxAnd_sound h
  | .vxOr _ => execVxOr_sound h
  | .vxXor _ => execVxXor_sound h
  | .vxShl _ => execVxShl_sound h
  | .vxShra _ => execVxShra_sound h
  | .vxShrl _ => execVxShrl_sound h
  | .vxIota _ => execVxIota_sound h
  | .vxCmpEq _ => execVxCmpEq_sound h
  | .vxCmpNe _ => execVxCmpNe_sound h
  | .vxCmpLt _ => execVxCmpLt_sound h
  | .vxCmpLe _ => execVxCmpLe_sound h
  | .vxCmpGt _ => execVxCmpGt_sound h
  | .vxCmpGe _ => execVxCmpGe_sound h
  | .vxCmpUno _ => execVxCmpUno_sound h
  | .vxSel _ => execVxSel_sound h
  | .vxCvt _ => execVxCvt_sound h
  | .vxRsum _ => execVxRsum_sound h
  | .vxRmax _ => execVxRmax_sound h
  | .vxRmin _ => execVxRmin_sound h
  | .vxMand _ => execVxMand_sound h
  | .vxMor _ => execVxMor_sound h
  | .vxMxor _ => execVxMxor_sound h
  | .vxMandn _ => execVxMandn_sound h
  | .vxMnot _ => execVxMnot_sound h
  | .vxMset _ => execVxMset_sound h
  | .vxMclr _ => execVxMclr_sound h
  | .vxMcnt _ => execVxMcnt_sound h
  | .vxMfirst _ => execVxMfirst_sound h
  | .vxMov _ => execVxMov_sound h
  | .sfExp _ => execSfExp_sound h
  | .sfExp2 _ => execSfExp2_sound h
  | .sfLog _ => execSfLog_sound h
  | .sfLog2 _ => execSfLog2_sound h
  | .sfRecip _ => execSfRecip_sound h
  | .sfSqrt _ => execSfSqrt_sound h
  | .sfRsqrt _ => execSfRsqrt_sound h
  | .sfTanh _ => execSfTanh_sound h
  | .sfSigmoid _ => execSfSigmoid_sound h
  | .sfErf _ => execSfErf_sound h
  | .sfGelu _ => execSfGelu_sound h
  | .sfGeluTanh _ => execSfGeluTanh_sound h
  | .sfSilu _ => execSfSilu_sound h
  | .sfSoftplus _ => execSfSoftplus_sound h
  | .sfSin _ => execSfSin_sound h
  | .sfCos _ => execSfCos_sound h
  | .sfTab _ => execSfTab_sound h
  | .vxScanAdd _ => execVxScanAdd_sound h
  | .vxScanMax _ => execVxScanMax_sound h
  | .vxScanMin _ => execVxScanMin_sound h
  | .vxScanProd _ => execVxScanProd_sound h
  | .vxScanLse _ => execVxScanLse_sound h
  | .vxScanAffine _ => execVxScanAffine_sound h
  | .vxScanAffinePair _ => execVxScanAffinePair_sound h
  | .vxBscanAdd _ => execVxBscanAdd_sound h
  | .vxBscanMax _ => execVxBscanMax_sound h
  | .vxBscanMin _ => execVxBscanMin_sound h
  | .vxBscanProd _ => execVxBscanProd_sound h
  | .vxBscanLse _ => execVxBscanLse_sound h
  | .vxBscanAffine _ => execVxBscanAffine_sound h
  | .vxBscanAffinePair _ => execVxBscanAffinePair_sound h
  | .vxCget _ => execVxCget_sound h
  | .vxCset _ => execVxCset_sound h
  | .vxRstat _ => execVxRstat_sound h
  | .vxRstatc _ => execVxRstatc_sound h
  | .vxSmxMax _ => execVxSmxMax_sound h
  | .vxSmxSum _ => execVxSmxSum_sound h
  | .add _ => execAdd_sound h
  | .sub _ => execSub_sound h
  | .mul _ => execMul_sound h
  | .mla _ => execMla_sound h
  | .and _ => execAnd_sound h
  | .or _ => execOr_sound h
  | .xor _ => execXor_sound h
  | .shl _ => execShl_sound h
  | .shr _ => execShr_sound h
  | .sra _ => execSra_sound h
  | .min _ => execMin_sound h
  | .max _ => execMax_sound h
  | .minu _ => execMinu_sound h
  | .maxu _ => execMaxu_sound h
  | .slt _ => execSlt_sound h
  | .sltu _ => execSltu_sound h
  | .seq _ => execSeq_sound h
  | .addi _ => execAddi_sound h
  | .andi _ => execAndi_sound h
  | .ori _ => execOri_sound h
  | .xori _ => execXori_sound h
  | .shli _ => execShli_sound h
  | .shri _ => execShri_sound h
  | .srai _ => execSrai_sound h
  | .slti _ => execSlti_sound h
  | .movk _ => execMovk_sound h
  | .lui _ => execLui_sound h
  | .ld8u _ => execLd8u_sound h
  | .ld16u _ => execLd16u_sound h
  | .ld32u _ => execLd32u_sound h
  | .ld32s _ => execLd32s_sound h
  | .ld64 _ => execLd64_sound h
  | .st8 _ => execSt8_sound h
  | .st16 _ => execSt16_sound h
  | .st32 _ => execSt32_sound h
  | .st64 _ => execSt64_sound h
  | .lsld _ => execLsld_sound h
  | .lsst _ => execLsst_sound h
  | .lscp _ => execLscp_sound h
  | .beq _ => execBeq_sound h
  | .bne _ => execBne_sound h
  | .blt _ => execBlt_sound h
  | .bge _ => execBge_sound h
  | .bltu _ => execBltu_sound h
  | .bgeu _ => execBgeu_sound h
  | .jal _ => execJal_sound h
  | .jr _ => execJr_sound h
  | .dbnz _ => execDbnz_sound h
  | .pget _ => execPget_sound h
  | .pset _ => execPset_sound h
  | .rdsr _ => execRdsr_sound h
  | .fins _ => execFins_sound h
  | .push _ => execPush_sound h
  | .gate _ => execGate_sound h
  | .semsig _ => execSemsig_sound h
  | .semwait _ => execSemwait_sound h
  | .semwaitGrant _ => execSemwaitGrant_sound h
  | .semrd _ => execSemrd_sound h
  | .nop _ => execNop_sound h
  | .rend _ => execRend_sound h
  | .halt _ => execHalt_sound h
  | .sySig _ => execSySig_sound h
  | .semIncrementArrival _ => execSemIncrementArrival_sound h
  | .syWait _ => execSyWait_sound h
  | .syWaitGrant _ => execSyWaitGrant_sound h
  | .syBar _ => execSyBar_sound h
  | .barrierRelease _ => execBarrierRelease_sound h
  | .syTime _ => execSyTime_sound h
  | .syTimeReached _ => execSyTimeReached_sound h
  | .coreCtlSwitch _ => execCoreCtlSwitch_sound h
  | .coreCtlStart _ => execCoreCtlStart_sound h
  | .coreCtlResume _ => execCoreCtlResume_sound h
  | .coreCtlHalt _ => execCoreCtlHalt_sound h
  | .replayStart _ _ => execReplayStart_sound h
  | .coreSemWrite _ _ _ => execCoreSemWrite_sound h
  | .corePstageWrite _ _ _ _ => execCorePstageWrite_sound h
  | .corePdirtyWithdraw _ _ _ => execCorePdirtyWithdraw_sound h
  | .cpRelease _ _ => execCpRelease_sound h
  | .cpAcquire _ _ => execCpAcquire_sound h
  | .requestResponse _ _ => execRequestResponse_sound h
  | .requestWithdrawalConfirm _ _ => execRequestWithdrawalConfirm_sound h
  | .patrolScrub _ => execPatrolScrub_sound h
  | .cpLin _ _ => execCpLin_sound h
  | .cpNd _ _ => execCpNd_sound h
  | .cpGather _ _ => execCpGather_sound h
  | .cpScatterWrite _ _ => execCpScatterWrite_sound h
  | .cpScatterAdd _ _ => execCpScatterAdd_sound h
  | .cpTable _ _ => execCpTable_sound h
  | .tableLoadStart _ _ => execTableLoadStart_sound h
  | .tablePublish _ _ => execTablePublish_sound h
  | .timStep => execTimStep_sound h
  | .timSrcWrite _ => execTimSrcWrite_sound h
  | .timPtpCfgWrite _ => execTimPtpCfgWrite_sound h
  | .timNowRead _ => execTimNowRead_sound h
  | .ptpSync _ _ _ _ _ _ _ _ => execPtpSync_sound h
  | .ptpFollowUp _ _ _ _ _ _ _ => execPtpFollowUp_sound h
  | .ptpAnnounce _ _ _ _ _ _ _ _ _ _ _ => execPtpAnnounce_sound h
  | .ptpDelayReq => execPtpDelayReq_sound h
  | .ptpDelayResp _ _ _ _ _ _ _ => execPtpDelayResp_sound h
  | .ppsEdge _ => execPpsEdge_sound h
  | .timeSourceTimeout => execTimeSourceTimeout_sound h
  | .stkArm _ => execStkArm_sound h
  | .stkStop _ => execStkStop_sound h
  | .stkCommit _ => execStkCommit_sound h
  | .stkStartWrite _ _ _ => execStkStartWrite_sound h
  | .strokeStart _ => execStrokeStart_sound h
  | .gangStart _ _ => execGangStart_sound h
  | .bucketOpen _ _ => execBucketOpen_sound h
  | .bucketClose _ _ => execBucketClose_sound h
  | .checkpoint _ _ => execCheckpoint_sound h
  | .event _ _ => execEvent_sound h
  | .sluice _ => execSluice_sound h
  | .drainComplete _ => execDrainComplete_sound h
  | .fillRecordWrite => execFillRecordWrite_sound h
  | .pieceArrival _ => execPieceArrival_sound h
  | .settleRecord _ => execSettleRecord_sound h
  | .slotSettle _ _ _ _ => execSlotSettle_sound h
  | .ownerFinish _ _ _ => execOwnerFinish_sound h
  | .redSettle _ => execRedSettle_sound h
  | .redWinOpen _ _ => execRedWinOpen_sound h
  | .redWinClose _ _ => execRedWinClose_sound h
  | .frameReceive _ _ => execFrameReceive_sound h
  | .arpRequest _ _ _ _ => execArpRequest_sound h
  | .neighborSolicitation _ _ _ _ => execNeighborSolicitation_sound h
  | .pfcFrame _ _ _ => execPfcFrame_sound h
  | .write _ => execWrite_sound h
  | .read _ => execRead_sound h
  | .readResp _ => execReadResp_sound h
  | .raccSlot _ => execRaccSlot_sound h
  | .raccAddress _ => execRaccAddress_sound h
  | .atomicFadd _ => execAtomicFadd_sound h
  | .atomicSwap _ => execAtomicSwap_sound h
  | .atomicCswp _ => execAtomicCswp_sound h
  | .atomicResp _ => execAtomicResp_sound h
  | .sendRing _ => execSendRing_sound h
  | .sendReduction _ => execSendReduction_sound h
  | .fence _ => execFence_sound h
  | .ack _ => execAck_sound h
  | .mstat _ => execMstat_sound h
  | .hello _ => execHello_sound h
  | .helloAck _ => execHelloAck_sound h
  | .close _ => execClose_sound h
  | .closeAck _ => execCloseAck_sound h
  | .skip _ => execSkip_sound h
  | .wqDoorbell => execWqDoorbell_sound h
  | .aqDescWrite => execAqDescWrite_sound h
  | .aqDescRead => execAqDescRead_sound h
  | .aqDescRacc => execAqDescRacc_sound h
  | .aqDescAtomic => execAqDescAtomic_sound h
  | .aqDescSend => execAqDescSend_sound h
  | .aqDescFence => execAqDescFence_sound h
  | .retransmitTimeout _ => execRetransmitTimeout_sound h
  | .ackTimer _ => execAckTimer_sound h
  | .helloRetry _ => execHelloRetry_sound h
  | .flowOpenTimeout _ => execFlowOpenTimeout_sound h
  | .flowCloseTimeout _ => execFlowCloseTimeout_sound h
  | .ratePeriod _ => execRatePeriod_sound h
  | .aqPenEnable _ => execAqPenEnable_sound h
  | .aqPenDisable _ => execAqPenDisable_sound h
  | .aqPdrainEnd _ => execAqPdrainEnd_sound h
  | .portRemove _ => execPortRemove_sound h
  | .portReadmit _ => execPortReadmit_sound h
  | .portRecal _ => execPortRecal_sound h
  | .portDrainEnd _ => execPortDrainEnd_sound h
  | .recalEnd _ => execRecalEnd_sound h
  | .portLinkDown _ => execPortLinkDown_sound h
  | .portLinkUp _ => execPortLinkUp_sound h
  | .aqPortIfaceWrite _ _ => execAqPortIfaceWrite_sound h
  | .updDoorbell => execUpdDoorbell_sound h
  | .updDescCistern _ => execUpdDescCistern_sound h
  | .updDescVector _ => execUpdDescVector_sound h
  | .updNormpass _ => execUpdNormpass_sound h
  | .cisternEngineStart _ => execCisternEngineStart_sound h
  | .cisternDescComplete _ => execCisternDescComplete_sound h
  | .updEnable _ => execUpdEnable_sound h
  | .updDisable _ => execUpdDisable_sound h
  | .updDrainEnd _ => execUpdDrainEnd_sound h
  | .ckptSliceStart _ => execCkptSliceStart_sound h
  | .ckptCopyAhead _ => execCkptCopyAhead_sound h
  | .ckptValidate _ => execCkptValidate_sound h
  | .coreSpareMove _ => execCoreSpareMove_sound h
  | .pageRetire _ => execPageRetire_sound h
  | .cisScrubEnd _ => execCisScrubEnd_sound h
  | .shutdownComplete _ _ => execShutdownComplete_sound h
  | .sqTailWrite _ _ _ _ => execSqTailWrite_sound h
  | .cqHeadWrite _ _ _ => execCqHeadWrite_sound h
  | .znNop => execZnNop_sound h
  | .znIdentify => execZnIdentify_sound h
  | .znRingCreate => execZnRingCreate_sound h
  | .znRingDelete => execZnRingDelete_sound h
  | .znVfConfig => execZnVfConfig_sound h
  | .znPrepareRemove => execZnPrepareRemove_sound h
  | .znOpQuery => execZnOpQuery_sound h
  | .znOpSuspend => execZnOpSuspend_sound h
  | .znOpResume => execZnOpResume_sound h
  | .znOpCancel => execZnOpCancel_sound h
  | .longOpSafePoint _ => execLongOpSafePoint_sound h
  | .longOpDone _ => execLongOpDone_sound h
  | .znPartConfig => execZnPartConfig_sound h
  | .znPartEnable => execZnPartEnable_sound h
  | .znPartDisable => execZnPartDisable_sound h
  | .znGranuleAssign => execZnGranuleAssign_sound h
  | .znGranuleRelease => execZnGranuleRelease_sound h
  | .znPtWrite => execZnPtWrite_sound h
  | .znPtRoot => execZnPtRoot_sound h
  | .znXlateInval => execZnXlateInval_sound h
  | .znScrub => execZnScrub_sound h
  | .znImemLoad => execZnImemLoad_sound h
  | .znCoreReset => execZnCoreReset_sound h
  | .znTableLoad => execZnTableLoad_sound h
  | .znTableBuild => execZnTableBuild_sound h
  | .znCoreSpare => execZnCoreSpare_sound h
  | .znFlowOpen => execZnFlowOpen_sound h
  | .znFlowClose => execZnFlowClose_sound h
  | .znFlowQuery => execZnFlowQuery_sound h
  | .znKeyInstall => execZnKeyInstall_sound h
  | .znKeySwitch => execZnKeySwitch_sound h
  | .znKeyClear => execZnKeyClear_sound h
  | .znPortAdmit => execZnPortAdmit_sound h
  | .znPortRecal => execZnPortRecal_sound h
  | .znRxringSet => execZnRxringSet_sound h
  | .znAqEnable => execZnAqEnable_sound h
  | .znGroupSet => execZnGroupSet_sound h
  | .znUpdEnable => execZnUpdEnable_sound h
  | .znCkpt => execZnCkpt_sound h
  | .znRestore => execZnRestore_sound h
  | .znDieEnable => execZnDieEnable_sound h
  | .znDieDisable => execZnDieDisable_sound h
  | .znCisEnable => execZnCisEnable_sound h
  | .znCisDisable => execZnCisDisable_sound h
  | .znFwStage _ => execZnFwStage_sound h
  | .znFwActivate => execZnFwActivate_sound h
  | .znFwRollback => execZnFwRollback_sound h
  | .fwFirstStartResult _ _ => execFwFirstStartResult_sound h
  | .znPageRetire => execZnPageRetire_sound h
  | .znCalibrate => execZnCalibrate_sound h
  | .lifecycleSecured => execLifecycleSecured_sound h
  | .lifecycleService => execLifecycleService_sound h
  | .lifecycleRetired => execLifecycleRetired_sound h
  | .znDebugOpen => execZnDebugOpen_sound h
  | .znDebugClose => execZnDebugClose_sound h
  | .znZeroise => execZnZeroise_sound h
  | .znCfgFactory => execZnCfgFactory_sound h
  | .znPowerLimit => execZnPowerLimit_sound h
  | .znPowerState => execZnPowerState_sound h
  | .idleEntry => execIdleEntry_sound h
  | .standbyEntry => execStandbyEntry_sound h
  | .activeReturn => execActiveReturn_sound h
  | .znCfgRead => execZnCfgRead_sound h
  | .znCfgWrite => execZnCfgWrite_sound h
  | .cfgStoreWriteDone _ => execCfgStoreWriteDone_sound h
  | .znCtlEnable _ => execZnCtlEnable_sound h
  | .znCtlDisable _ => execZnCtlDisable_sound h
  | .bar4Read _ _ _ => execBar4Read_sound h
  | .bar4Write _ _ _ => execBar4Write_sound h
  | .surpriseRemoval => execSurpriseRemoval_sound h
  | .functionLevelReset _ => execFunctionLevelReset_sound h
  | .mctpControlMessage _ _ => execMctpControlMessage_sound h
  | .pldmType0 _ => execPldmType0_sound h
  | .pldmSensorRead _ => execPldmSensorRead_sound h
  | .pldmFwUpdate _ _ _ => execPldmFwUpdate_sound h
  | .mctpZennus _ => execMctpZennus_sound h
  | .evtRaise _ _ => execEvtRaise_sound h
  | .evtComplete _ _ => execEvtComplete_sound h
  | .eventDelivery => execEventDelivery_sound h
  | .mgmtEventHandled => execMgmtEventHandled_sound h
  | .evtFnWinWrite _ _ _ => execEvtFnWinWrite_sound h
  | .evtEnable _ => execEvtEnable_sound h
  | .presencePress _ => execPresencePress_sound h
  | .presenceTimeout => execPresenceTimeout_sound h
  | .sealOpen => execSealOpen_sound h
  | .svcJumperChange _ => execSvcJumperChange_sound h
  | .debugAccess => execDebugAccess_sound h
  | .debugStep => execDebugStep_sound h
  | .idcode => execIdcode_sound h
  | .bypass => execBypass_sound h
  | .samplePreload _ _ => execSamplePreload_sound h
  | .extest _ _ => execExtest_sound h
  | .dbgport _ _ _ => execDbgport_sound h
  | .thermalSample _ => execThermalSample_sound h
  | .thermalHoldStep => execThermalHoldStep_sound h
  | .thermalShutdown => execThermalShutdown_sound h
  | .thermalRestart _ => execThermalRestart_sound h
  | .governorDecision => execGovernorDecision_sound h
  | .powerSample _ _ _ => execPowerSample_sound h
  | .pwrEnRise => execPwrEnRise_sound h
  | .pwrEnFall => execPwrEnFall_sound h
  | .inputExcursion => execInputExcursion_sound h
  | .inputLoss => execInputLoss_sound h
  | .inputOvervoltage => execInputOvervoltage_sound h
  | .inputOvercurrent => execInputOvercurrent_sound h
  | .inputRestored => execInputRestored_sound h
  | .railFault _ => execRailFault_sound h
  | .perstAssert => execPerstAssert_sound h
  | .perstRelease => execPerstRelease_sound h
  | .cfgWarmWrite _ => execCfgWarmWrite_sound h
  | .warmReset => execWarmReset_sound h
  | .coldStart => execColdStart_sound h
  | .bootStageComplete _ _ => execBootStageComplete_sound h
  | .faultRecordDelivery => execFaultRecordDelivery_sound h
  | .faultRingEnable _ => execFaultRingEnable_sound h
  | .traceEnable => execTraceEnable_sound h
  | .stallClear _ => execStallClear_sound h
  | .coreStallLoRead _ _ _ => execCoreStallLoRead_sound h
  | .retireWindowExpire => execRetireWindowExpire_sound h
  | .pfcPauseExpiry _ _ => execPfcPauseExpiry_sound h
  | .illegalInstruction _ => execIllegalInstruction_sound h
  | .configurationRequest _ _ _ => execConfigurationRequest_sound h
  | .linkRetrain => execLinkRetrain_sound h

/-- Settles O5: on an empty queue a core cycle passes, else the command at the front is carried out on the same device. -/
theorem everyStepKeepsSoundness : Obligations.EveryStepKeepsSoundness := by
  intro s t h hstep
  unfold step at hstep
  split at hstep
  · exact State.onDev_sound (Device.tick_sound h) hstep
  · next c rest _ => exact exec_sound c (s := { s with pending := rest }) h hstep

end Machine
end Sys2Proof
end

section
/-!
Everything that a core cycle does beside the passing of time leaves device time (R333) and the count of core cycles (R334) as they are.
-/
namespace Sys2Proof
namespace Machine

/-- Device time and the count of core cycles. -/
def Device.clock (d : Device) : Nat × Nat := (d.now, d.cycles)

/-- A change of fields other than the two clocks. By `by rfl`, and so no rule of `dsimp`: the kernel would compare chains of operations by
unfolding them. -/
@[simp] theorem Device.clock_upd (e : Device) (regs : Cells Word) (cores : List Core) (mem : Cells Byte) (poison : Cells Bool)
    (symErr : Cells Nat) (granules : Cells Nat) (clusters : List Cluster) (partMask : Cells (BitVec 16)) (increments : List Increment)
    (barriers : Cells Barrier) (hostMem : Cells Byte) (watches : List Watch) (seen : List Seen) (heldPages : List HeldPage)
    (dirty : Cells Bool) (red : RedState) (aq : AqState) (upd : UpdState) (svc : SvcState) (tim : TimState) (strokes : Cells Stroke)
    (fault : FaultState) (evt : EvtState) (zn : ZnState) (sec : SecState) (pwr : PwrState) (boot : BootState) (free : Nat) :
    (Device.mk e.now e.cycles regs cores mem poison symErr granules clusters partMask increments barriers hostMem watches seen heldPages
      dirty red aq upd svc tim strokes fault evt zn sec pwr boot free).clock = e.clock := by rfl

@[simp] theorem Device.clock_ite {c : Prop} [Decidable c] (a b : Device) : (if c then a else b).clock = if c then a.clock else b.clock :=
  apply_ite ..

@[simp] theorem Device.clock_fst_ite {α : Type} {c : Prop} [Decidable c] (a b : Device × α) :
    (if c then a else b).1.clock = if c then a.1.clock else b.1.clock :=
  apply_ite (fun r : Device × α => r.1.clock) ..

@[simp] theorem Device.foldl_clock {α : Type} {g : Device → α → Device} (hg : ∀ d x, (g d x).clock = d.clock) :
    ∀ (l : List α) (d : Device), (l.foldl g d).clock = d.clock
  | [], _ => rfl
  | x :: l, d => (Device.foldl_clock hg l (g d x)).trans (hg d x)

/-- As a rule, not a reduction of the pair, for the same reason. -/
theorem Device.clock_pair {α : Type} (d : Device) (x : α) : (d, x).1.clock = d.clock := by rfl

/-- The device that an operation answers beside another value. -/
theorem Device.clock_of_fst {α : Type} {d d' : Device} {r : Device × α} {x : α} (e : r = (d', x)) (h : r.1.clock = d.clock) :
    d'.clock = d.clock := by rw [e] at h; exact h

/-! ## Registers, cores, faults and DRAM -/

@[simp] theorem Device.setReg_clock (d : Device) (k : Nat) (v : Word) : (d.setReg k v).clock = d.clock := by simp [Device.clock]

@[simp] theorem Device.setFld_clock (d : Device) (k hi lo v : Nat) : (d.setFld k hi lo v).clock = d.clock := by simp [Device.clock]

@[simp] theorem Device.setFlag_clock (d : Device) (k i : Nat) (b : Bool) : (d.setFlag k i b).clock = d.clock := by simp [Device.clock]

@[simp] theorem Device.bump_clock (d : Device) (k n : Nat) : (d.bump k n).clock = d.clock := by simp [Device.clock]

@[simp] theorem Device.setReg64_clock (d : Device) (k v : Nat) : (d.setReg64 k v).clock = d.clock := by simp [Device.clock]

@[simp] theorem Device.bump64_clock (d : Device) (k n : Nat) : (d.bump64 k n).clock = d.clock := by simp [Device.clock]

@[simp] theorem Device.noteTag_clock (d : Device) (k t : Nat) : (d.noteTag k t).clock = d.clock := by simp [Device.clock]

@[simp] theorem Device.bump16_clock (d : Device) (k : Nat) (b : Bool) (n : Nat) : (d.bump16 k b n).clock = d.clock := by
  simp [Device.clock]

@[simp] theorem Device.setCore_clock (d : Device) (c : Nat) (k : Core) : (d.setCore c k).clock = d.clock := by simp [Device.clock]

@[simp] theorem Device.modCore_clock (d : Device) (c : Nat) (f : Core → Core) : (d.modCore c f).clock = d.clock := by simp [Device.clock]

@[simp] theorem Device.setCluster_clock (d : Device) (g : Nat) (k : Cluster) : (d.setCluster g k).clock = d.clock := by
  simp [Device.clock]

@[simp] theorem Device.fire_clock (d : Device) (n : Nat) : (d.fire n).clock = d.clock := by simp [Device.clock]

@[simp] theorem Device.firePart_clock (d : Device) (p j : Nat) : (d.firePart p j).clock = d.clock := by simp [Device.clock]

@[simp] theorem Device.raise_clock (d : Device) (r : FaultRec) : (d.raise r).clock = d.clock := by simp [Device.clock]

@[simp] theorem Device.raisePart_clock (d : Device) (p : Option Nat) (r : FaultRec) : (d.raisePart p r).clock = d.clock := by
  simp [Device.clock]

@[simp] theorem Device.coverPoison_clock (d : Device) (a e cw n : Nat) : (d.coverPoison a e cw n).clock = d.clock := by
  induction n generalizing d cw with
  | zero => rfl
  | succ n ih => simp [Device.coverPoison, ih]

@[simp] theorem Device.askRetire_clock (d : Device) (key : Nat) : (d.askRetire key).clock = d.clock := by simp [Device.askRetire]

@[simp] theorem Device.memCe_clock (d : Device) (a symbols : Nat) : (d.memCe a symbols).clock = d.clock := by simp [Device.memCe]

@[simp] theorem Device.memUe_clock (d : Device) (a : Nat) : (d.memUe a).clock = d.clock := by simp [Device.memUe]

@[simp] theorem Device.readCodewords_clock (d : Device) (cw n : Nat) : (d.readCodewords cw n).1.clock = d.clock := by
  induction n generalizing d cw with
  | zero => rfl
  | succ n ih => simp [Device.readCodewords, ih]

@[simp] theorem Device.copyPage_clock (d : Device) (p q : Nat) : (d.copyPage p q).clock = d.clock := by simp [Device.copyPage]

@[simp] theorem Device.copyAhead_clock (d : Device) (page n : Nat) : (d.copyAhead page n).clock = d.clock := by
  induction n generalizing d page with
  | zero => rfl
  | succ n ih => unfold Device.copyAhead; split <;> simp [ih]

@[simp] theorem Device.openPages_clock (d : Device) (page n : Nat) : (d.openPages page n).clock = d.clock := by
  induction n generalizing d page with
  | zero => rfl
  | succ n ih => simp [Device.openPages, ih]

@[simp] theorem Device.notify_clock (d : Device) (cw n : Nat) : (d.notify cw n).clock = d.clock := by simp [Device.notify]

@[simp] theorem Device.memWrite_clock (d : Device) (a : Nat) (bs : List Byte) : (d.memWrite a bs).1.clock = d.clock := by
  simp [Device.memWrite]

@[simp] theorem Device.dramRead_clock (d : Device) (a n : Nat) : (d.dramRead a n).1.clock = d.clock := by simp [Device.dramRead]

@[simp] theorem Device.noteBadWord_clock (d : Device) (c w : Nat) : (d.noteBadWord c w).clock = d.clock := by simp [Device.noteBadWord]

@[simp] theorem Device.sramRead_clock (d : Device) (c off n : Nat) : (d.sramRead c off n).1.clock = d.clock := by simp [Device.sramRead]

@[simp] theorem Device.sramStore_clock (d : Device) (c off : Nat) (bs : List Byte) : (d.sramStore c off bs).1.clock = d.clock := by
  simp [Device.sramStore]

@[simp] theorem Device.exitIdle_clock (d : Device) : d.exitIdle.clock = d.clock := by simp [Device.exitIdle]

/-! ## Translation and accesses by virtual address -/

@[simp] theorem Device.walkFrom_clock (d : Device) (p va table level n : Nat) : (d.walkFrom p va table level n).1.clock = d.clock := by
  fun_induction Device.walkFrom <;> simp +zetaDelta [*]

@[simp] theorem Device.walk_clock (d : Device) (p va : Nat) : (d.walk p va).1.clock = d.clock := by simp [Device.walk]

@[simp] theorem Device.translate_clock (d : Device) (p : Nat) (access : Access) (va : Nat) :
    (d.translate p access va).1.clock = d.clock := by
  unfold Device.translate; split <;> next e => simpa using Device.clock_of_fst e (d.walk_clock p va)

@[simp] theorem Device.physRead_clock (d : Device) (pa n : Nat) : (d.physRead pa n).1.clock = d.clock := by
  unfold Device.physRead; split <;> simp

@[simp] theorem Device.physWrite_clock (d : Device) (pa : Nat) (bs : List Byte) : (d.physWrite pa bs).1.clock = d.clock := by
  unfold Device.physWrite; split <;> simp

@[simp] theorem Device.vread_clock (d : Device) (p : Nat) (spans : List (Nat × Nat)) : (d.vread p spans).1.clock = d.clock := by
  fun_induction Device.vread <;> grind [Device.translate_clock, Device.physRead_clock]

@[simp] theorem Device.readVa_clock (d : Device) (p va n : Nat) : (d.readVa p va n).1.clock = d.clock := by simp [Device.readVa]

@[simp] theorem Device.vwrite_clock (d : Device) (p : Nat) (spans : List (Nat × Nat)) (bs : List Byte) :
    (d.vwrite p spans bs).1.clock = d.clock := by
  fun_induction Device.vwrite <;> grind [Device.translate_clock, Device.physWrite_clock]

@[simp] theorem Device.writeVa_clock (d : Device) (p va : Nat) (bs : List Byte) : (d.writeVa p va bs).1.clock = d.clock := by
  simp [Device.writeVa]

@[simp] theorem Device.hostWrite_clock (d : Device) (a : Nat) (bs : List Byte) : (d.hostWrite a bs).clock = d.clock := by
  simp [Device.hostWrite]

/-! ## Completions of Zennus commands -/

@[simp] theorem Device.fireFn_clock (d : Device) (fn i : Nat) : (d.fireFn fn i).clock = d.clock := by
  unfold Device.fireFn; split <;> simp

@[simp] theorem Device.writeCompletion_clock (d : Device) (r : Ring) (part : Nat) (bs : List Byte) :
    (d.writeCompletion r part bs).clock = d.clock := by simp [Device.writeCompletion]

@[simp] theorem Device.countCompletion_clock (d : Device) (fn status : Nat) : (d.countCompletion fn status).clock = d.clock := by
  simp [Device.countCompletion]

@[simp] theorem Device.completeOne_clock (d : Device) (id status result : Nat) : (d.completeOne id status result).clock = d.clock := by
  fun_cases Device.completeOne <;> simp +zetaDelta

@[simp] theorem Device.complete_clock (d : Device) (id status result : Nat) : (d.complete id status result).clock = d.clock := by
  simp [Device.complete]

/-! ## Retirement of queue commands -/

@[simp] theorem Device.trace_clock (d : Device) (c q : Nat) (e : QEntry) (r : CmdResult) : (d.trace c q e r).clock = d.clock := by
  simp [Device.trace]

@[simp] theorem Device.cmdFault_clock (d : Device) (c q : Nat) (e : QEntry) (f : CmdFault) : (d.cmdFault c q e f).clock = d.clock := by
  simp [Device.cmdFault]

@[simp] theorem Device.cmdFaults_clock (d : Device) (c q : Nat) (e : QEntry) (r : CmdResult) : (d.cmdFaults c q e r).clock = d.clock := by
  simp [Device.cmdFaults]

@[simp] theorem Device.cmdCounts_clock (d : Device) (e : QEntry) (r : CmdResult) : (d.cmdCounts e r).clock = d.clock := by
  simp [Device.cmdCounts]

@[simp] theorem Device.noteRetire_clock (d : Device) (c q : Nat) (e : QEntry) : (d.noteRetire c q e).clock = d.clock := by
  unfold Device.noteRetire; split <;> simp

@[simp] theorem Device.settleEntry_clock (d : Device) (c q : Nat) (e : QEntry) (r : CmdResult) :
    (d.settleEntry c q e r).clock = d.clock := by simp [Device.settleEntry]

@[simp] theorem Device.answerOwner_clock (d : Device) (e : QEntry) (status : Nat) : (d.answerOwner e status).clock = d.clock := by
  unfold Device.answerOwner; split <;> simp

/-! ## Strokes as sync commands see them -/

@[simp] theorem Device.setStroke_clock (d : Device) (p : Nat) (k : Stroke) : (d.setStroke p k).clock = d.clock := by
  simp [Device.setStroke]

/-! ## Flows and packets that are sent -/

@[simp] theorem Device.setPort_clock (d : Device) (i : Nat) (p : Port) : (d.setPort i p).clock = d.clock := by simp [Device.setPort]

@[simp] theorem Device.setSpray_clock (d : Device) (i : Nat) (b : Bool) : (d.setSpray i b).clock = d.clock := by simp [Device.setSpray]

@[simp] theorem Device.setFlow_clock (d : Device) (f : Nat) (x : Flow) : (d.setFlow f x).clock = d.clock := by simp [Device.setFlow]

@[simp] theorem Device.modFlow_clock (d : Device) (f : Nat) (g : Flow → Flow) : (d.modFlow f g).clock = d.clock := by
  unfold Device.modFlow; split <;> simp

@[simp] theorem Device.freeFlow_clock (d : Device) (f : Nat) : (d.freeFlow f).clock = d.clock := by simp [Device.freeFlow]

@[simp] theorem Device.queueFrame_clock (d : Device) (port prio : Nat) (bs : List Byte) : (d.queueFrame port prio bs).clock = d.clock := by
  simp [Device.queueFrame]

@[simp] theorem Device.sendPacket_clock (d : Device) (f kind op flags : Nat) (mid payload : List Byte) :
    (d.sendPacket f kind op flags mid payload).1.clock = d.clock := by
  fun_cases Device.sendPacket <;> simp +zetaDelta

@[simp] theorem Device.hubSignal_clock (d : Device) (core sem stroke : Nat) : (d.hubSignal core sem stroke).clock = d.clock := by
  simp [Device.hubSignal]

@[simp] theorem Device.descSignal_clock (d : Device) (part core sem stroke : Nat) :
    (d.descSignal part core sem stroke).clock = d.clock := by simp [Device.descSignal]

@[simp] theorem Device.aqRecord_clock (d : Device) (part comp status stroke : Nat) (signal : Option (Nat × Nat)) :
    (d.aqRecord part comp status stroke signal).clock = d.clock := by
  unfold Device.aqRecord; split <;> simp

@[simp] theorem Device.aqFinish_clock (d : Device) (part : Nat) (m : TxMsg) (status : Nat) :
    (d.aqFinish part m status).clock = d.clock := by
  unfold Device.aqFinish; split <;> simp

@[simp] theorem Device.aqComplete_clock (d : Device) (f i status : Nat) : (d.aqComplete f i status).clock = d.clock := by
  fun_cases Device.aqComplete <;> simp

@[simp] theorem Device.aqCompleteAll_clock (d : Device) (f status n : Nat) : (d.aqCompleteAll f status n).clock = d.clock := by
  fun_induction Device.aqCompleteAll <;> simp [*]

@[simp] theorem Device.breakFlow_clock (d : Device) (f : Nat) : (d.breakFlow f).clock = d.clock := by
  unfold Device.breakFlow; split <;> simp

@[simp] theorem Device.pumpFlow_clock (d : Device) (f n : Nat) : (d.pumpFlow f n).clock = d.clock := by
  induction n generalizing d with
  | zero => rfl
  | succ n ih =>
    unfold Device.pumpFlow
    repeat' split
    all_goals simp [ih]

@[simp] theorem Device.pump_clock (d : Device) (f : Nat) : (d.pump f).clock = d.clock := by
  fun_cases Device.pump <;> simp +zetaDelta

@[simp] theorem Device.aqPost_clock (d : Device) (f : Nat) (m : TxMsg) : (d.aqPost f m).clock = d.clock := by simp [Device.aqPost]

@[simp] theorem Device.aqReduction_clock (d : Device) (part f stroke : Nat) (piece : Bool) (xfmt dest : Nat) (bs : List Byte) :
    (d.aqReduction part f stroke piece xfmt dest bs).clock = d.clock := by
  unfold Device.aqReduction; split <;> simp

/-! ## Reductions -/

@[simp] theorem Device.setBucket_clock (d : Device) (i : Nat) (b : Bucket) : (d.setBucket i b).clock = d.clock := by
  simp [Device.setBucket]

@[simp] theorem Device.redSend_clock (d : Device) (b : Bucket) (sender parent pslot : Nat) (piece : Bool) (bs : List Byte) :
    (d.redSend b sender parent pslot piece bs).clock = d.clock := by simp [Device.redSend]

@[simp] theorem Device.leafAbsent_clock (d : Device) (b : Bucket) (l : RedLeaf) : (d.leafAbsent b l).clock = d.clock := by
  simp [Device.leafAbsent]

@[simp] theorem Device.leavesAbsent_clock (d : Device) (i : Nat) : (d.leavesAbsent i).clock = d.clock := by
  fun_cases Device.leavesAbsent
  · rfl
  · refine Device.foldl_clock (fun d j => ?_) ..
    repeat' split
    all_goals simp

@[simp] theorem Device.rewatch_clock (d : Device) : d.rewatch.clock = d.clock := by simp [Device.rewatch]

@[simp] theorem Device.redFree_clock (d : Device) : d.redFree.clock = d.clock := by simp [Device.redFree]

@[simp] theorem Device.eachBucket_clock (d : Device) (f : Bucket → Bool) (g : Device → Nat → Device)
    (hg : ∀ d i, (g d i).clock = d.clock) :
    (d.eachBucket f g).clock = d.clock := by
  unfold Device.eachBucket; refine Device.foldl_clock (fun d b => ?_) ..; split <;> simp [hg]

@[simp] theorem Device.redSettle_clock (d : Device) (t i : Nat) : (d.redSettle t i).clock = d.clock := by
  unfold Device.redSettle; split <;> simp

@[simp] theorem Device.redSluice_clock (d : Device) (p t : Nat) : (d.redSluice p t).clock = d.clock := by simp [Device.redSluice]

/-! ## Ports and the end of flows -/

@[simp] theorem Device.drainPorts_clock (d : Device) : d.drainPorts.clock = d.clock := by simp [Device.drainPorts]

@[simp] theorem Device.endFlow_clock (d : Device) (f status : Nat) : (d.endFlow f status).clock = d.clock := by
  fun_cases Device.endFlow <;> simp +zetaDelta

@[simp] theorem Device.closeFlow_clock (d : Device) (f : Nat) (owner : Option Nat) : (d.closeFlow f owner).clock = d.clock := by
  simp [Device.closeFlow]

/-! ## Queues of the transport, ports that leave -/

@[simp] theorem Device.rewatchQueues_clock (d : Device) : d.rewatchQueues.clock = d.clock := by simp [Device.rewatchQueues]

@[simp] theorem Device.disarmQueues_clock (d : Device) (unit p : Nat) : (d.disarmQueues unit p).clock = d.clock := by
  simp [Device.disarmQueues]

@[simp] theorem Device.answerEnable_clock (d : Device) (p status : Nat) : (d.answerEnable p status).clock = d.clock := by
  simp [Device.answerEnable]

@[simp] theorem Device.aqPenDisable_clock (d : Device) (p : Nat) : (d.aqPenDisable p).clock = d.clock := by simp [Device.aqPenDisable]

@[simp] theorem Device.setPortFlag_clock (d : Device) (i b : Nat) (v : Bool) : (d.setPortFlag i b v).clock = d.clock := by
  simp [Device.setPortFlag]

@[simp] theorem Device.portLeave_clock (d : Device) (i : Nat) : (d.portLeave i).clock = d.clock := by simp [Device.portLeave]

@[simp] theorem Device.portRecalStart_clock (d : Device) (i : Nat) : (d.portRecalStart i).clock = d.clock := by
  simp [Device.portRecalStart]

@[simp] theorem Device.portRecal_clock (d : Device) (i : Nat) : (d.portRecal i).clock = d.clock := by simp [Device.portRecal]

/-! ## Boundaries and cancelled commands of a core -/

@[simp] theorem Device.boundary_clock (d : Device) (c : Nat) : (d.boundary c).clock = d.clock := by
  unfold Device.boundary; refine (Device.foldl_clock (fun d h => ?_) ..).trans (by simp); split <;> simp

@[simp] theorem Device.cancelEntry_clock (d : Device) (c q : Nat) (e : QEntry) : (d.cancelEntry c q e).clock = d.clock := by
  simp [Device.cancelEntry]

@[simp] theorem Device.leaveBarriers_clock (d : Device) (c : Nat) : (d.leaveBarriers c).clock = d.clock := by simp [Device.leaveBarriers]

@[simp] theorem Device.dropLoad_clock (d : Device) (c : Nat) (e : QEntry) : (d.dropLoad c e).clock = d.clock := by
  unfold Device.dropLoad; split <;> simp

@[simp] theorem Device.cancelQueue_clock (d : Device) (c q : Nat) : (d.cancelQueue c q).clock = d.clock := by simp [Device.cancelQueue]

/-! ## Groups and the update sequencer -/

@[simp] theorem Device.putGrec_clock (d : Device) (p g off : Nat) (bs : List Byte) : (d.putGrec p g off bs).clock = d.clock := by
  simp [Device.putGrec]

@[simp] theorem Device.readGrec_clock (d : Device) (p g : Nat) : (d.readGrec p g).1.clock = d.clock := by simp [Device.readGrec]

@[simp] theorem Device.putGroupFlags_clock (d : Device) (p g : Nat) (op torn : Bool) : (d.putGroupFlags p g op torn).clock = d.clock := by
  simp [Device.putGroupFlags]

@[simp] theorem Device.forgetOpen_clock (d : Device) (p g : Nat) : (d.forgetOpen p g).clock = d.clock := by simp [Device.forgetOpen]

@[simp] theorem Device.updFault_clock (d : Device) (part stroke status source index group addr : Nat) :
    (d.updFault part stroke status source index group addr).clock = d.clock := by simp [Device.updFault]

@[simp] theorem Device.tear_clock (d : Device) (p g : Nat) : (d.tear p g).clock = d.clock := by simp [Device.tear]

@[simp] theorem Device.judgeGroup_clock (d : Device) (p g : Nat) : (d.judgeGroup p g).clock = d.clock := by simp [Device.judgeGroup]

@[simp] theorem Device.applySet_clock (d : Device) (s : UpdSet) : (d.applySet s).clock = d.clock := by
  fun_cases Device.applySet <;> simp +zetaDelta

@[simp] theorem Device.releaseSets_clock (d : Device) (p g : Nat) : (d.releaseSets p g).clock = d.clock := by simp [Device.releaseSets]

@[simp] theorem Device.countUpd_clock (d : Device) (p st : Nat) : (d.countUpd p st).clock = d.clock := by simp [Device.countUpd]

@[simp] theorem Device.noteRefusal_clock (d : Device) (p g st : Nat) : (d.noteRefusal p g st).clock = d.clock := by
  simp [Device.noteRefusal]

@[simp] theorem Device.closeGroup_clock (d : Device) (t : UpdDesc) (e : UpdEnd) : (d.closeGroup t e).clock = d.clock := by
  simp [Device.closeGroup]

@[simp] theorem Device.updDone_clock (d : Device) (t : UpdDesc) (e : UpdEnd) : (d.updDone t e).clock = d.clock := by simp [Device.updDone]

@[simp] theorem Device.answerUpd_clock (d : Device) (p status : Nat) : (d.answerUpd p status).clock = d.clock := by
  simp [Device.answerUpd]

@[simp] theorem Device.updDisable_clock (d : Device) (p : Nat) : (d.updDisable p).clock = d.clock := by simp [Device.updDisable]

@[simp] theorem Device.updSluice_clock (d : Device) (p : Nat) : (d.updSluice p).clock = d.clock := by simp [Device.updSluice]

/-! ## Schedules and the sluice -/

@[simp] theorem Device.setStk_clock (d : Device) (p v : Nat) : (d.setStk p v).clock = d.clock := by simp [Device.setStk]

@[simp] theorem Device.stkStop_clock (d : Device) (p : Nat) : (d.stkStop p).clock = d.clock := by
  unfold Device.stkStop; split <;> simp

@[simp] theorem Device.coreSluice_clock (d : Device) (p c : Nat) : (d.coreSluice p c).clock = d.clock := by simp [Device.coreSluice]

/-! ## Checkpoints and restores -/

@[simp] theorem Device.readPlan_clock (d : Device) (p i : Nat) : (d.readPlan p i).1.clock = d.clock := by simp [Device.readPlan]

@[simp] theorem Device.xlatePages_clock (d : Device) (p : Nat) (access : Access) (ok : Region → Bool) (va n : Nat) :
    (d.xlatePages p access ok va n).1.clock = d.clock := by
  fun_induction Device.xlatePages <;> grind [Device.translate_clock]

@[simp] theorem Device.regionPages_clock (d : Device) (p : Nat) (access : Access) (entries : List (List Byte)) :
    (d.regionPages p access entries).1.clock = d.clock := by
  fun_induction Device.regionPages <;> grind [Device.xlatePages_clock]

@[simp] theorem Device.planPages_clock (d : Device) (p : Nat) (access : Access) (x : Plan) :
    (d.planPages p access x).1.clock = d.clock := by simp [Device.planPages]

@[simp] theorem Device.incrPlans_clock (d : Device) (p : Nat) (plans : List Nat) : (d.incrPlans p plans).1.clock = d.clock := by
  fun_induction Device.incrPlans <;> grind [Device.readPlan_clock]

@[simp] theorem Device.planCheck_clock (d : Device) (p i : Nat) (regions area : Access) :
    (d.planCheck p i regions area).1.clock = d.clock := by
  fun_cases Device.planCheck <;> grind [Device.readPlan_clock, Device.incrPlans_clock, Device.planPages_clock, Device.xlatePages_clock]

@[simp] theorem Device.readHeaders_clock (d : Device) (area : List (Nat × Nat)) (np : Nat) :
    (d.readHeaders area np).1.clock = d.clock := by
  simp -proj only [Device.readHeaders, Device.clock_pair, Device.dramRead_clock]

@[simp] theorem Device.sliceResult_clock (d : Device) (p owner st seq : Nat) : (d.sliceResult p owner st seq).clock = d.clock := by
  simp [Device.sliceResult]

@[simp] theorem Device.orphan_clock (d : Device) (p : Nat) : (d.orphan p).clock = d.clock := by simp [Device.orphan]

@[simp] theorem Device.sliceEnd_clock (d : Device) (p st : Nat) : (d.sliceEnd p st).clock = d.clock := by
  unfold Device.sliceEnd; split <;> simp

@[simp] theorem Device.flowPost_clock (d : Device) (p f : Nat) (m : TxMsg) : (d.flowPost p f m).clock = d.clock := by
  unfold Device.flowPost; split <;> simp

@[simp] theorem Device.restoreRead_clock (d : Device) (p f : Nat) (owner : AqOwner) (raddr laddr n : Nat) :
    (d.restoreRead p f owner raddr laddr n).clock = d.clock := by simp [Device.restoreRead]

@[simp] theorem Device.restorePages_clock (d : Device) (moves : List (Nat × Nat)) : (d.restorePages moves).clock = d.clock := by
  fun_induction Device.restorePages <;> simp +zetaDelta [*]

@[simp] theorem Device.restoreWork_clock (d : Device) (c : ZCmd) : (d.restoreWork c).1.clock = d.clock := by
  fun_cases Device.restoreWork
  all_goals
    have hcheck := Device.clock_of_fst ‹d.planCheck _ _ _ _ = _› (d.planCheck_clock ..)
    simp -proj +zetaDelta only [Device.clock_pair, Device.readHeaders_clock, Device.restorePages_clock, Device.orphan_clock,
      Device.restoreRead_clock, Device.clock_upd, Device.foldl_clock, implies_true, hcheck]

/-! ## The store -/

@[simp] theorem Device.showSlots_clock (d : Device) : d.showSlots.clock = d.clock := by simp [Device.showSlots]

@[simp] theorem Device.refuseChange_clock (d : Device) (c : StoreChange) : (d.refuseChange c).clock = d.clock := by
  unfold Device.refuseChange; split <;> simp

@[simp] theorem Device.storeChange_clock (d : Device) (c : StoreChange) : (d.storeChange c).clock = d.clock := by
  simp [Device.storeChange]

@[simp] theorem Device.storeSlots_clock (d : Device) (s : Nat) (e : SlotEntry) (owner : Option Nat) :
    (d.storeSlots s e owner).clock = d.clock := by simp [Device.storeSlots]

/-! ## Live service -/

@[simp] theorem Device.setDebug_clock (d : Device) (level p : Nat) : (d.setDebug level p).clock = d.clock := by simp [Device.setDebug]

@[simp] theorem Device.closeDebug_clock (d : Device) : d.closeDebug.clock = d.clock := by simp [Device.closeDebug]

@[simp] theorem Device.setSvc_clock (d : Device) (kind i v : Nat) : (d.setSvc kind i v).clock = d.clock := by simp [Device.setSvc]

@[simp] theorem Device.setDefer_clock (d : Device) (kind i : Nat) (b : Bool) : (d.setDefer kind i b).clock = d.clock := by
  simp [Device.setDefer]

@[simp] theorem Device.answerSvc_clock (d : Device) (kind i : Nat) (held : Bool) (st : Nat) :
    (d.answerSvc kind i held st).clock = d.clock := by simp [Device.answerSvc]

@[simp] theorem Device.awaitSvc_clock (d : Device) (kind i : Nat) (held : Bool) (id : Nat) :
    (d.awaitSvc kind i held id).clock = d.clock := by simp [Device.awaitSvc]

@[simp] theorem Device.comeBack_clock (d : Device) (kind i : Nat) : (d.comeBack kind i).clock = d.clock := by simp [Device.comeBack]

@[simp] theorem Device.svcEnable_clock (d : Device) (kind i id : Nat) : (d.svcEnable kind i id).clock = d.clock := by
  unfold Device.svcEnable; split <;> simp

@[simp] theorem Device.withdrawEnable_clock (d : Device) (kind i : Nat) : (d.withdrawEnable kind i).clock = d.clock := by
  simp [Device.withdrawEnable]

@[simp] theorem Device.svcDisable_clock (d : Device) (kind i id : Nat) (start : Device → Device)
    (hstart : ∀ d : Device, (start d).clock = d.clock) :
    (d.svcDisable kind i id start).clock = d.clock := by
  unfold Device.svcDisable; split <;> simp [hstart]

@[simp] theorem Device.clearClusters_clock (d : Device) (mask : Nat) : (d.clearClusters mask).clock = d.clock := by
  simp [Device.clearClusters]

@[simp] theorem Device.partStop_clock (d : Device) (p : Nat) : (d.partStop p).clock = d.clock := by simp [Device.partStop]

/-! ## Zeroising, scrubs, operations that end -/

@[simp] theorem Device.forceSluice_clock (d : Device) (p : Nat) : (d.forceSluice p).clock = d.clock := by simp [Device.forceSluice]

@[simp] theorem Device.sluiceAll_clock (d : Device) : d.sluiceAll.clock = d.clock := by simp [Device.sluiceAll]

@[simp] theorem Device.dropFlow_clock (d : Device) (f st : Nat) : (d.dropFlow f st).clock = d.clock := by simp [Device.dropFlow]

@[simp] theorem Device.dropFlows_clock (d : Device) (sel : Flow → Bool) (st : Nat) : (d.dropFlows sel st).clock = d.clock := by
  simp [Device.dropFlows]

@[simp] theorem Device.zeroise_clock (d : Device) : d.zeroise.clock = d.clock := by simp [Device.zeroise]

@[simp] theorem Device.dropTables_clock (d : Device) (c : Nat) : (d.dropTables c).clock = d.clock := by simp [Device.dropTables]

@[simp] theorem Device.scrubAll_clock (d : Device) : d.scrubAll.clock = d.clock := by simp [Device.scrubAll]

@[simp] theorem Device.closeWindow_clock (d : Device) : d.closeWindow.clock = d.clock := by
  unfold Device.closeWindow; split <;> simp

@[simp] theorem Device.dropOp_clock (d : Device) (id : Nat) (c : ZCmd) : (d.dropOp id c).clock = d.clock := by simp [Device.dropOp]

@[simp] theorem Device.endOp_clock (d : Device) (id st : Nat) : (d.endOp id st).clock = d.clock := by
  fun_cases Device.endOp <;> simp +zetaDelta

@[simp] theorem Device.setLifecycle_clock (d : Device) (v : Nat) : (d.setLifecycle v).clock = d.clock := by simp [Device.setLifecycle]

@[simp] theorem Device.diesOff_clock (d : Device) : d.diesOff.clock = d.clock := by simp [Device.diesOff]

@[simp] theorem Device.retireModule_clock (d : Device) (keep : Option Nat) : (d.retireModule keep).clock = d.clock := by
  simp [Device.retireModule]

/-! ## Firmware -/

@[simp] theorem Device.stageBegin_clock (d : Device) (s : Nat) : (d.stageBegin s).clock = d.clock := by simp [Device.stageBegin]

@[simp] theorem Device.sysSuspend_clock (d : Device) (sel : ZCmd → Bool) : (d.sysSuspend sel).clock = d.clock := by
  simp [Device.sysSuspend]

@[simp] theorem Device.setPaused_clock (d : Device) (b : Bool) : (d.setPaused b).clock = d.clock := by simp [Device.setPaused]

@[simp] theorem Device.activateStart_clock (d : Device) (s : Nat) (owner : Option Nat) : (d.activateStart s owner).clock = d.clock := by
  simp [Device.activateStart]

/-! ## Rings -/

@[simp] theorem Device.setCmd_clock (d : Device) (id : Nat) (c : ZCmd) : (d.setCmd id c).clock = d.clock := by simp [Device.setCmd]

@[simp] theorem Device.served_clock (d : Device) (g : Nat) : (d.served g).clock = d.clock := by simp [Device.served]

@[simp] theorem Device.markStalls_clock (d : Device) : d.markStalls.clock = d.clock := by
  unfold Device.markStalls; refine Device.foldl_clock (fun d g => ?_) ..; split <;> simp

@[simp] theorem Device.refuseAll_clock (d : Device) (n : Nat) : (d.refuseAll n).clock = d.clock := by
  fun_induction Device.refuseAll <;> simp [*]

/-! ## Long operations -/

@[simp] theorem Device.openWindow_clock (d : Device) (id opcode : Nat) : (d.openWindow id opcode).clock = d.clock := by
  simp only [Device.openWindow, Device.fire_clock, Device.clock_upd, Device.setFld_clock, Device.setFlag_clock]

@[simp] theorem Device.prepareBegin_clock (d : Device) (id : Nat) : (d.prepareBegin id).clock = d.clock := by
  unfold Device.prepareBegin
  refine (Device.foldl_clock ?_ ..).trans ((Device.foldl_clock ?_ ..).trans ((Device.foldl_clock ?_ ..).trans ?_))
  · intro d id
    exact d.endOp_clock id _
  · intro d e
    split <;> simp
  · intro d p
    simp
  · exact d.clock_upd ..

@[simp] theorem Device.restoreGoOn_clock (d : Device) (id : Nat) (c : ZCmd) : (d.restoreGoOn id c).clock = d.clock := by
  fun_cases Device.restoreGoOn <;> grind [Device.restoreWork_clock, Device.complete_clock, Device.setCmd_clock]

@[simp] theorem Device.lifecycleBegin_clock (d : Device) (id : Nat) (c : ZCmd) : (d.lifecycleBegin id c).clock = d.clock := by
  unfold Device.lifecycleBegin; split <;> simp

@[simp] theorem Device.presenceGo_clock (d : Device) (id : Nat) (c : ZCmd) : (d.presenceGo id c).clock = d.clock := by
  unfold Device.presenceGo; split <;> simp

@[simp] theorem Device.opBegin_clock (d : Device) (id : Nat) (c : ZCmd) : (d.opBegin id c).clock = d.clock := by
  fun_cases Device.opBegin <;> simp

@[simp] theorem Device.promote_clock (d : Device) (n : Nat) : (d.promote n).clock = d.clock := by
  fun_induction Device.promote <;> simp [*]

@[simp] theorem Device.znPump_clock (d : Device) : d.znPump.clock = d.clock := by simp [Device.znPump]

@[simp] theorem Device.resumeOp_clock (d : Device) (id : Nat) (t : ZCmd) : (d.resumeOp id t).clock = d.clock := by simp [Device.resumeOp]

@[simp] theorem Device.settleControls_clock (d : Device) (id n : Nat) : (d.settleControls id n).clock = d.clock := by
  fun_induction Device.settleControls <;> simp [*]

@[simp] theorem Device.restoreOp_clock (d : Device) (id : Nat) : (d.restoreOp id).clock = d.clock := by
  unfold Device.restoreOp; split <;> simp

@[simp] theorem Device.restoreOps_clock (d : Device) : d.restoreOps.clock = d.clock := by simp [Device.restoreOps]

/-! ## Stall counters and network credit -/

@[simp] theorem Device.stallCount_clock (d : Device) (c e cause : Nat) : (d.stallCount c e cause).clock = d.clock := by
  simp [Device.stallCount]

@[simp] theorem Device.stallQueue_clock (d : Device) (c q : Nat) : (d.stallQueue c q).clock = d.clock := by simp [Device.stallQueue]

@[simp] theorem Device.stallCore_clock (d : Device) (c : Nat) : (d.stallCore c).clock = d.clock := by simp [Device.stallCore]

@[simp] theorem Device.stallAll_clock (d : Device) : d.stallAll.clock = d.clock := by simp [Device.stallAll]

@[simp] theorem Device.netWait_clock (d : Device) (ns : Nat) : (d.netWait ns).clock = d.clock := by simp [Device.netWait]

/-! ## The core cycle (R14, R333, R334, R566) -/

theorem Device.now_eq_of_clock {d e : Device} (h : e.clock = d.clock) : e.now = d.now := congrArg Prod.fst h

theorem Device.cycles_eq_of_clock {d e : Device} (h : e.clock = d.clock) : e.cycles = d.cycles := congrArg Prod.snd h

/-- The passing of a nominal interval moves device time alone, and whatever the rate adjustment (R335) not backwards. -/
theorem Device.advance_clock (d : Device) (units : Nat) : d.now ≤ (d.advance units).now ∧ (d.advance units).cycles = d.cycles :=
  ⟨Nat.le_add_right .., rfl⟩

/-- A core cycle: device time never runs back, and the cycle counts unless the core clock stands. -/
theorem Device.tick_clock (d : Device) :
    d.now ≤ d.tick.now ∧ d.tick.cycles = d.cycles + (if d.fld Reg.PWR_STATE 31 29 < 4 then 1 else 0) := by
  unfold Device.tick
  extract_lets stands t stalled counted waited clockState rested
  obtain ⟨hcountedNow, hcountedCycles⟩ :
      counted.now = d.now ∧ counted.cycles = d.cycles + (if d.fld Reg.PWR_STATE 31 29 < 4 then 1 else 0) := by
    by_cases hclock : d.fld Reg.PWR_STATE 31 29 < 4
    · simpa [counted, stalled, stands, hclock, Nat.not_le.2 hclock] using Device.now_eq_of_clock d.stallAll_clock
    · simp [counted, stands, hclock, Nat.not_lt.1 hclock]
  have hrested : rested.clock = counted.clock := (waited.clock_upd ..).trans (counted.netWait_clock _)
  have hafter : ((((rested.advance (t / 21)).drainPorts).restoreOps).znPump).clock = (rested.advance (t / 21)).clock := by simp
  obtain ⟨hnow, hcycles⟩ := rested.advance_clock (t / 21)
  rw [Device.now_eq_of_clock hafter, Device.cycles_eq_of_clock hafter, hcycles, Device.cycles_eq_of_clock hrested]
  rw [Device.now_eq_of_clock hrested, hcountedNow] at hnow
  exact ⟨hnow, hcountedCycles⟩

/-- Settles O2. That a step on an empty queue is a core cycle is the model's choice (log 2). -/
theorem emptyQueuePassesOneCycle : Obligations.EmptyQueuePassesOneCycle := by
  intro s hqueue
  have hstep : step s = .next { s with dev := s.dev.tick } := by simp [step, hqueue]
  exact ⟨hstep, s.dev.tick_clock⟩

end Machine
end Sys2Proof
end

section
/-!
The end of a chiplet's scrub (R487). On a sound device the chiplet reads ON again; where the register file lists HUB_SVC twice, as no sound
device does, it need not.
-/
namespace Sys2Proof
namespace Machine

theorem Device.reg_setFld_same {d : Device} (h : d.Sound) (k hi lo v : Nat) :
    (d.setFld k hi lo v).reg k = BitVec.ofNat 32 (setBits (d.reg k).toNat hi lo v) :=
  (d.reg_setReg (Cells.wf_rising h.wfRegs) k _ k).trans (if_pos rfl)

theorem Device.reg_setFld_ne {d : Device} (h : d.Sound) {k j : Nat} (hi lo v : Nat) (hj : j ≠ k) : (d.setFld k hi lo v).reg j = d.reg j :=
  (d.reg_setReg (Cells.wf_rising h.wfRegs) k _ j).trans (if_neg hj)

/-- A source that fires changes no register but its own and the count of coalesced events (R534). -/
theorem Device.reg_fire_ne {d : Device} (h : d.Sound) {n j : Nat} (hsrc : j ≠ Reg.EVT_SRC n) (hcount : j ≠ Reg.EVT_COALESCED) :
    (d.fire n).reg j = d.reg j := by
  unfold Device.fire
  split
  · exact Device.reg_setFld_ne h _ _ _ hsrc
  · exact Device.reg_setFld_ne h _ _ _ hsrc
  · exact (d.reg_setReg (Cells.wf_rising h.wfRegs) _ _ j).trans (if_neg hcount)

/-- The field of a chiplet in HUB_SVC stays 0 where its DEFER bit is cleared after it. -/
theorem bits_chiplet_cleared (x : Nat) (ch : Fin 2) :
    bits (setBits (setBits x (8 + 2 * ch + 1) (8 + 2 * ch) 0 % 2 ^ 32) (16 + ch) (16 + ch) 0 % 2 ^ 32)
      (8 + 2 * ch + 1) (8 + 2 * ch) = 0 := by
  match ch with
  | 0 => simp [bits, setBits, Nat.shiftRight_eq_div_pow, Nat.shiftLeft_eq]; omega
  | 1 => simp [bits, setBits, Nat.shiftRight_eq_div_pow, Nat.shiftLeft_eq]; omega

/-- A chiplet of a sound device that leaves SCRUBBING reads ON. -/
theorem Device.svcState_chiplet_on {d : Device} (h : d.Sound) (ch : Fin 2) (hscrub : d.svcState 1 ch = 2) :
    ((d.setSvc 1 ch 0).setDefer 1 ch false).svcState 1 ch = 0 := by
  have hset : (d.setFld Reg.HUB_SVC (8 + 2 * ch + 1) (8 + 2 * ch) 0).Sound := Device.setFld_sound h _ _ _ _
  have hsvc : d.setSvc 1 ch 0 = (d.setFld Reg.HUB_SVC (8 + 2 * ch + 1) (8 + 2 * ch) 0).fire Evt.SERVICE := by
    simp [Device.setSvc, hscrub, svcField]
  have hreg : (d.setSvc 1 ch 0).reg Reg.HUB_SVC = BitVec.ofNat 32 (setBits (d.reg Reg.HUB_SVC).toNat (8 + 2 * ch + 1) (8 + 2 * ch) 0) := by
    rw [hsvc, Device.reg_fire_ne hset (by decide) (by decide), Device.reg_setFld_same h]
  have hdefer : ((d.setSvc 1 ch 0).setDefer 1 ch false).reg Reg.HUB_SVC = BitVec.ofNat 32 (setBits _ (16 + ch) (16 + ch) 0) :=
    Device.reg_setFld_same (Device.setSvc_sound h) Reg.HUB_SVC (16 + ch) (16 + ch) 0
  have hfield : svcField 1 ch = (Reg.HUB_SVC, 8 + 2 * ch.val) := rfl
  rw [Device.svcState, hfield, Device.fld, hdefer, hreg, BitVec.toNat_ofNat, BitVec.toNat_ofNat]
  exact bits_chiplet_cleared ..

/-- A device whose register file lists HUB_SVC twice, each time with chiplet 0 SCRUBBING: writing the reset value removes the first entry,
and the second is read from then on. -/
def Device.svcTwice : Device := { regs := [(Reg.HUB_SVC, 0x200#32), (Reg.HUB_SVC, 0x200#32)] }

theorem Device.svcTwice_scrubbing : Device.svcTwice.svcState 1 0 = 2 := by decide

/-- Refutes O46, in the clause on the end of a chiplet's scrub, which is stated of every state: on a device that is not sound
(`Device.svcTwice`) the chiplet still reads SCRUBBING. On a sound device it reads ON (`Device.svcState_chiplet_on`). -/
theorem not_pagesCopyAndServiceRuns : ¬ Obligations.PagesCopyAndServiceRuns := by
  intro h
  obtain ⟨_, hservice⟩ := h
  obtain ⟨_, _, _, _, _, _, hscrubEnd, _⟩ := hservice { dev := Device.svcTwice } 0 true 0 0 0
  obtain ⟨_, hunwaited⟩ := hscrubEnd Device.svcTwice_scrubbing
  obtain ⟨hon, _⟩ := hunwaited rfl
  exact absurd hon (by decide)

end Machine
end Sys2Proof
end

section
/-!
The one rounding of every operation and conversion: a magnitude scaled by a power of two, to nearest with ties to even (R56, R142).
-/
namespace Sys2Proof
namespace Machine

/-- A magnitude of no negative scale is exact (R142). -/
theorem roundNat_natCast (m j : Nat) : roundNat m (j : Int) = m * 2 ^ j := by
  rw [roundNat, if_pos (Int.natCast_nonneg j), Int.toNat_natCast]

/-- A magnitude scaled down is its quotient, or one more: by twice the remainder against the divisor, and half-way by parity (R56). A scale
of 2^0 is the case of the divisor 1, whose remainder is 0. -/
theorem roundNat_neg_natCast (m j : Nat) :
    roundNat m (-(j : Int)) =
      if 2 * (m % 2 ^ j) < 2 ^ j then m / 2 ^ j
      else if 2 ^ j < 2 * (m % 2 ^ j) then m / 2 ^ j + 1
      else if m / 2 ^ j % 2 = 0 then m / 2 ^ j else m / 2 ^ j + 1 := by
  cases j with
  | zero => simp only [roundNat, Int.natCast_zero, Int.neg_zero, Int.le_refl, if_true, Int.toNat_zero, Nat.pow_zero, Nat.mul_one, Nat.mod_one,
      Nat.mul_zero, Nat.lt_one_iff, Nat.div_one]
  | succ j =>
    have hneg : ¬ (0 : Int) ≤ -((j + 1 : Nat) : Int) := by omega
    rw [roundNat, if_neg hneg, Int.neg_neg, Int.toNat_natCast]

/-- The magnitude scaled down is within half of the divisor, and even when it is half-way (R56). -/
theorem roundNat_neg_nearest_even (m j : Nat) :
    let q := roundNat m (-(j : Int))
    2 * q * 2 ^ j ≤ 2 * m + 2 ^ j ∧ 2 * m ≤ 2 * q * 2 ^ j + 2 ^ j ∧
      (2 * m = 2 * q * 2 ^ j + 2 ^ j ∨ 2 * q * 2 ^ j = 2 * m + 2 ^ j → q % 2 = 0) := by
  have hdiv : m / 2 ^ j * 2 ^ j + m % 2 ^ j = m := Nat.div_add_mod' m (2 ^ j)
  have hrem : m % 2 ^ j < 2 ^ j := Nat.mod_lt m (Nat.two_pow_pos j)
  have hdown : 2 * (m / 2 ^ j) * 2 ^ j = 2 * (m / 2 ^ j * 2 ^ j) := Nat.mul_assoc ..
  have hup : 2 * (m / 2 ^ j + 1) * 2 ^ j = 2 * (m / 2 ^ j * 2 ^ j) + 2 * 2 ^ j := by
    rw [Nat.mul_assoc, Nat.add_mul, Nat.one_mul, Nat.mul_add]
  rw [roundNat_neg_natCast]
  generalize m / 2 ^ j = q at *
  generalize m % 2 ^ j = r at *
  generalize 2 ^ j = d at *
  generalize q * d = p at *
  by_cases hbelow : 2 * r < d
  · simp only [if_pos hbelow, hdown]; omega
  by_cases habove : d < 2 * r
  · simp only [if_neg hbelow, if_pos habove, hup]; omega
  by_cases heven : q % 2 = 0
  · simp only [if_neg hbelow, if_neg habove, if_pos heven, hdown]; omega
  · simp only [if_neg hbelow, if_neg habove, if_neg heven, hup]; omega

/-- Settles O23, by the quotient and remainder of the magnitude by 2^j. -/
theorem roundingIsToNearestEven : Obligations.RoundingIsToNearestEven :=
  fun m j => ⟨roundNat_neg_nearest_even m j, roundNat_natCast m j⟩

end Machine
end Sys2Proof
end

section
/-!
The exact window accumulator as a sum (R72-R75): a block adds its own contribution to the window, and contributions form a commutative
monoid. So their order does not matter, and the window of a split reduction is the sum of the windows of its parts.
-/
namespace Sys2Proof
namespace Machine

/-- The window of two sets of contributions together. -/
def Win.add (x y : Win) : Win :=
  { w := x.w + y.w, sticky := x.sticky || y.sticky, poison := x.poison || y.poison, lostN := x.lostN + y.lostN }

theorem Win.add_assoc (x y z : Win) : (x.add y).add z = x.add (y.add z) := by
  simp [Win.add, Int.add_assoc, Nat.add_assoc, Bool.or_assoc]

theorem Win.add_comm (x y : Win) : x.add y = y.add x := by
  simp [Win.add, Int.add_comm, Nat.add_comm, Bool.or_comm]

@[simp] theorem Win.add_empty (x : Win) : x.add {} = x := by simp [Win.add]

/-- What a block does to a window does not depend on the window: it adds what it makes of the empty one (R73, R74). -/
theorem Win.addBlock_eq_add (a ws amax wmax : Nat) (win : Win) (p : SBlock × SBlock) :
    win.addBlock a ws amax wmax p = win.add (Win.addBlock a ws amax wmax {} p) := by
  by_cases hpoison : p.1.scale = 0xFF ∨ p.2.scale = 0xFF
  · simp [Win.addBlock, Win.add, hpoison]
  · simp only [Win.addBlock, if_neg hpoison]
    split
    · simp [Win.add]
    · simp [Win.add]

theorem Win.addBlock_addBlock (a ws amax wmax : Nat) (win : Win) (p q : SBlock × SBlock) :
    (win.addBlock a ws amax wmax p).addBlock a ws amax wmax q =
      win.add ((Win.addBlock a ws amax wmax {} p).add (Win.addBlock a ws amax wmax {} q)) := by
  rw [Win.addBlock_eq_add _ _ _ _ _ q, Win.addBlock_eq_add _ _ _ _ win p, Win.add_assoc]

theorem Win.addBlock_right_comm (a ws amax wmax : Nat) (win : Win) (p q : SBlock × SBlock) :
    (win.addBlock a ws amax wmax p).addBlock a ws amax wmax q = (win.addBlock a ws amax wmax q).addBlock a ws amax wmax p := by
  rw [Win.addBlock_addBlock, Win.addBlock_addBlock, Win.add_comm (Win.addBlock a ws amax wmax {} p)]

theorem Win.foldl_addBlock_eq_add (a ws amax wmax : Nat) : ∀ (l : List (SBlock × SBlock)) (win : Win),
    l.foldl (Win.addBlock a ws amax wmax) win = win.add (l.foldl (Win.addBlock a ws amax wmax) {})
  | [], win => (win.add_empty).symm
  | p :: l, win => by
    rw [List.foldl_cons, List.foldl_cons, foldl_addBlock_eq_add _ _ _ _ l, foldl_addBlock_eq_add _ _ _ _ l (Win.addBlock a ws amax wmax {} p),
      Win.addBlock_eq_add _ _ _ _ win, Win.add_assoc]

/-- The order of the blocks does not change the window (R73, R74). -/
theorem window_of_perm (a ws : Nat) (amax wmax : Option Nat) {r r' q q' : List SBlock} (h : (r.zip q).Perm (r'.zip q')) :
    window a ws amax wmax r q = window a ws amax wmax r' q' :=
  h.foldl_eq' (fun _ _ _ _ win => Win.addBlock_right_comm _ _ _ _ win _ _) {}

/-- The window of a reduction in two parts is the sum of their windows. -/
theorem window_append (a ws : Nat) (amax wmax : Option Nat) {r₁ r₂ q₁ q₂ : List SBlock} (h : r₁.length = q₁.length) :
    window a ws amax wmax (r₁ ++ r₂) (q₁ ++ q₂) = (window a ws amax wmax r₁ q₁).add (window a ws amax wmax r₂ q₂) := by
  unfold window
  rw [List.zip_append h, List.foldl_append, Win.foldl_addBlock_eq_add]

/-- Two records under one anchor whose sum the window holds add up without an event (R96). -/
theorem WinRec.add_of_held {p q : WinRec} (hanchor : p.anchor = q.anchor) (hhi : p.w + q.w < 2 ^ 223) (hlo : -(2 ^ 223 : Int) ≤ p.w + q.w) :
    p.add q = ({ w := p.w + q.w, anchor := p.anchor, poison := p.poison || q.poison, sticky := p.sticky || q.sticky,
                 trunc := min 8191 (p.trunc + q.trunc) }, St.OK) := by
  have hheld : ¬ (p.w + q.w < -(2 ^ 223 : Int) ∨ 2 ^ 223 ≤ p.w + q.w) := by omega
  simp only [WinRec.add, hanchor, hheld, ne_eq, not_true_eq_false, if_false, if_true]

/-- Records of one anchor add as their windows do, TRUNC stopping at 8,191 (R79, R96). -/
theorem Win.record_add_record {x y : Win} (t : Option Int) (hhi : x.w + y.w < 2 ^ 223) (hlo : -(2 ^ 223 : Int) ≤ x.w + y.w) :
    (x.record t).add (y.record t) = ((x.add y).record t, St.OK) := by
  have htrunc : min 8191 (min 8191 x.lostN + min 8191 y.lostN) = min 8191 (x.lostN + y.lostN) := by omega
  rw [WinRec.add_of_held (p := x.record t) (q := y.record t) rfl hhi hlo]
  simp only [Win.record, Win.add, htrunc]

/-- Settles O27: the window is a sum of contributions (R73-R75), and records of one anchor add as their windows do (R96). -/
theorem windowSumsAreOrderFreeAndSplitExact : Obligations.WindowSumsAreOrderFreeAndSplitExact := by
  intro a ws amax wmax t
  constructor
  · exact fun _ _ _ _ hperm => window_of_perm a ws amax wmax hperm
  · intro r₁ r₂ q₁ q₂ hlen w₁ w₂ hhi hlo
    rw [window_append a ws amax wmax hlen]
    exact Win.record_add_record t hhi hlo

end Machine
end Sys2Proof
end

section
/-!
The front of an engine queue (R219-R228): what it means that the front command may run, what setting the front leaves there, and what the
shared operations do with a command that may run.
-/
namespace Sys2Proof
namespace Machine

/-! ## Reading the queues -/

@[simp] theorem Core.queue_setQueue (k : Core) (q : Nat) (l : List QEntry) : (k.setQueue q l).queue q = l := by
  unfold Core.setQueue
  split <;> simp [Core.queue]

/-- A command may run where it stands at the front of its queue, its gate passed, not executed (R226). -/
theorem Device.ready_eq_some_iff {d : Device} {c q : Nat} {e : QEntry} :
    d.ready c q = some e ↔ (∃ rest, (d.core c).queue q = e :: rest) ∧ e.open = true ∧ e.result = none := by
  unfold Device.ready Device.front
  cases (d.core c).queue q with
  | nil => simp
  | cons f rest =>
    simp only [List.head?_cons, List.cons.injEq, exists_and_left, exists_eq', and_true, Bool.and_eq_true, Option.isNone_iff_eq_none]
    constructor
    · intro h
      split at h
      · cases h; exact ⟨rfl, ‹_›⟩
      · cases h
    · rintro ⟨rfl, hopen, hresult⟩
      simp [hopen, hresult]

/-- A command that may run is the first of its queue that is not executed. -/
theorem Device.headEntry_of_ready {d : Device} {c q : Nat} {e : QEntry} (h : d.ready c q = some e) : d.headEntry c q = some e := by
  obtain ⟨⟨rest, hqueue⟩, -, hresult⟩ := Device.ready_eq_some_iff.1 h
  simp [Device.headEntry, hqueue, hresult]

theorem Device.core_setFld (d : Device) (k hi lo v c : Nat) : (d.setFld k hi lo v).core c = d.core c := rfl

theorem Device.core_setFront {d : Device} {c : Nat} (hc : c < d.cores.length) (q : Nat) (e : QEntry) :
    (d.setFront c q e).core c = (d.core c).setQueue q (e :: ((d.core c).queue q).tail) :=
  (Device.core_modCore d c c _ hc).trans (if_pos rfl)

/-! ## Running the front command -/

/-- An entry whose command its unit has carried out: it waits for retirement with its result (R228). -/
def QEntry.executed (e : QEntry) (cycles : Nat) (r : CmdResult) : QEntry :=
  { e with started := true, since := if e.started then e.since else cycles, result := some r }

section Run

variable {d : Device} {c q : Nat} {e : QEntry} {isOp : QEntry → Bool} {check : Device → QEntry → Option Nat}
  {f : Device → QEntry → Device × CmdResult}

theorem Device.runFront_of_ready (h : d.ready c q = some e) (hop : isOp e = true) :
    d.runFront c q isOp f = (f d e).1.setFront c q (e.executed d.cycles (f d e).2) := by
  simp only [Device.runFront, h, hop, if_true, QEntry.executed]

/-- A command that its checks pass does its work. -/
theorem Device.runChecked_of_passed (h : d.ready c q = some e) (hop : isOp e = true) (hcheck : check d e = none) :
    d.runChecked c q isOp check f = (f d e).1.setFront c q (e.executed d.cycles (f d e).2) := by
  simp only [Device.runChecked, Device.runFront_of_ready h hop, hcheck]

end Run

theorem firstStatus_eq_none_iff : ∀ {l : List (Bool × Nat)}, firstStatus l = none ↔ ∀ x ∈ l, x.1 = false
  | [] => by simp [firstStatus]
  | (b, st) :: rest => by cases b <;> simp [firstStatus, firstStatus_eq_none_iff (l := rest)]

/-! ## What a row does -/

theorem State.Does.of_eq {s : State} {i : Instr} {d d' : Device} (h : s.Does i d) (hd : d = d') : s.Does i d' := hd ▸ h

end Machine
end Sys2Proof
end

section
/-!
mx.wsum and mx.wfin (R96-R98): with their checks passed, each is one run of the front command of MXQ. Its status is that of the bad words met
(R101), or for mx.wsum that of the first sum with an event.
-/
namespace Sys2Proof
namespace Machine

/-- A bad word met takes the place of the status (R101). -/
theorem mxResult_status (c status : Nat) (t : MxTally) (more32 more64 : List (Nat × Nat)) :
    (mxResult c status t more32 more64).status = if t.bad = [] then status else St.UNCORRECTABLE := by
  simp only [mxResult, CmdResult.withTally, CmdResult.withCounts, List.isEmpty_iff]
  split <;> rfl

/-! ## mx.wsum -/

/-- The two operand arrays and the destination of mx.wsum (R96). -/
def wsumFirst (x : Nat) : Span := ⟨bits x 127 110 * 32, bits x 63 45 * 32⟩
def wsumSecond (x : Nat) : Span := ⟨bits x 109 92 * 32, bits x 63 45 * 32⟩
def wsumDest (x : Nat) : Span := ⟨bits x 91 74 * 32, bits x 63 45 * 32⟩

/-- The checks of mx.wsum: reserved fields and overlaps, then ranges (R96). -/
def wsumCheck (x : Nat) : Option Nat :=
  firstStatus
    [(bits x 255 128 != 0 || bits x 73 64 != 0 || bits x 44 32 != 0 || (wsumFirst x).overlaps (wsumSecond x)
        || ((wsumDest x).lo != (wsumFirst x).lo && (wsumDest x).overlaps (wsumFirst x))
        || ((wsumDest x).lo != (wsumSecond x).lo && (wsumDest x).overlaps (wsumSecond x)), St.BAD_FIELD),
     ((wsumFirst x).outside || (wsumSecond x).outside || (wsumDest x).outside, St.BAD_RANGE)]

theorem wsumCheck_eq_none_iff (x : Nat) : wsumCheck x = none ↔
    (bits x 255 128 = 0 ∧ bits x 73 64 = 0 ∧ bits x 44 32 = 0 ∧ (wsumFirst x).overlaps (wsumSecond x) = false ∧
      ((wsumDest x).lo = (wsumFirst x).lo ∨ (wsumDest x).overlaps (wsumFirst x) = false) ∧
      ((wsumDest x).lo = (wsumSecond x).lo ∨ (wsumDest x).overlaps (wsumSecond x) = false)) ∧
    (wsumFirst x).outside = false ∧ (wsumSecond x).outside = false ∧ (wsumDest x).outside = false := by
  simp only [wsumCheck, firstStatus_eq_none_iff, List.forall_mem_cons, List.not_mem_nil, false_imp_iff, implies_true, and_true,
    Bool.or_eq_false_iff, Bool.and_eq_false_iff, bne_eq_false_iff_eq, and_assoc]

/-- The sums of n pairs of records, the first of each in the array at p and the second in that at q, and the event each meets. -/
def Core.winSums (k : Core) (p q n : Nat) : List (WinRec × Nat) :=
  (List.range n).map (fun i => (k.winRec (p + 32 * i)).add (k.winRec (q + 32 * i)))

/-- A checked mx.wsum reads both arrays, writes the sums, and ends with the first event where no word is bad. -/
theorem Device.mxWsum_of_passed {d : Device} {c : Nat} {e : QEntry} (h : d.ready c 0 = some e) (hopc : e.opc = 0x02)
    (hcheck : wsumCheck e.c = none) :
    let n := bits e.c 63 45
    let p := (wsumFirst e.c).lo
    let q := (wsumSecond e.c).lo
    let rd := d.readSpans c [(⟨p, 32 * n⟩, (· / 32)), (⟨q, 32 * n⟩, (· / 32))]
    let sums := (rd.1.core c).winSums p q n
    let out := rd.1.recordRows c (wsumDest e.c).lo 0 0 [(0, sums.map (·.1))]
    ∃ r, d.mxWsum c = out.1.setFront c 0 (e.executed d.cycles r) ∧
      (rd.2 = [] → out.2.bad = [] → r.status = ((sums.map (·.2)).find? (· != St.OK)).getD St.OK) := by
  refine ⟨_, Device.runChecked_of_passed h (beq_iff_eq.2 hopc) hcheck, fun hread hwrite => ?_⟩
  dsimp only
  split
  · exact (mxResult_status ..).trans (if_pos (List.append_eq_nil_iff.2 ⟨hwrite, hread⟩))
  · exact if_pos (List.isEmpty_iff.2 hread)

/-! ## mx.wfin -/

/-- The reads of mx.wfin: the descriptor, the record arrays row by row, and the glaze arrays. -/
def wfinReads (x : Nat) (g : GlazeDesc) : List (Span × (Nat → Nat)) :=
  let y := wfinMm x
  [(⟨y.xAddr, 32⟩, fun _ => 0)] ++ (List.range y.m).map (fun m =>
    (⟨(wfinSource x).lo + m * bits x 191 178 * 32, y.n * 32⟩, fun o => m * y.n + o / 32)) ++ g.reads y.m y.n

/-- The record of row m and column n of mx.wfin. -/
def Core.wfinRec (k : Core) (x m n : Nat) : WinRec := k.winRec ((wfinSource x).lo + (m * bits x 191 178 + n) * 32)

/-- The output rows of mx.wfin: the values of its records, each row with its number. -/
def Core.wfinRows (k : Core) (x : Nat) : List (Nat × List Num) :=
  (List.range (wfinMm x).m).map (fun m => (m, (List.range (wfinMm x).n).map (fun n => (k.wfinRec x m n).value)))

/-- Numbering the rows after their values are formed gives the same rows. -/
theorem Core.zipIdx_wfinRecs (k : Core) (x : Nat) :
    ((((List.range (wfinMm x).m).map (fun m => (List.range (wfinMm x).n).map (k.wfinRec x m))).map (·.map WinRec.value)).zipIdx.map
      (fun r => (r.2, r.1))) = k.wfinRows x :=
  List.ext_getElem (by simp [Core.wfinRows]) fun i _ _ => by simp [Core.wfinRows]

/-- The glaze function of a command with descriptor g: 0 where it reads none. -/
def Mm.glazeFn (x : Mm) (g : GlazeDesc) : Nat := if x.readsDesc then g.fn else 0

/-- The work of a checked mx.wfin with descriptor g. -/
def Device.wfinWork (d : Device) (c : Nat) (g : GlazeDesc) (x : Nat) : Device × CmdResult :=
  let y := wfinMm x
  if y.noOut then (d, {})
  else
    let rd := d.readSpans c (wfinReads x g)
    let k := rd.1.core c
    let recs := (List.range y.m).map (fun m => (List.range y.n).map (k.wfinRec x m))
    let out := rd.1.glazeRows c g k (rd.1.halfTable c (d.fnHalf c (y.glazeFn g))) y.cAddr (y.ldc * 32) y.cfmt y.n
      ((recs.map (·.map WinRec.value)).zipIdx.map (fun r => (r.2, r.1)))
    (out.1, mxResult c St.OK (out.2.add { sticky := (recs.flatten.filter (·.sticky)).length, bad := rd.2 }) [] [])

/-- Without an output to form nothing is read or written (R99). -/
theorem Device.wfinWork_of_noOut (d : Device) (c : Nat) (g : GlazeDesc) {x : Nat} (h : (wfinMm x).noOut = true) :
    d.wfinWork c g x = (d, {}) := by
  rw [Device.wfinWork, if_pos h]

/-- Its rows are the values of its records through the glaze stage, and its status tells of the bad words read or partly written. -/
theorem Device.wfinWork_of_out (d : Device) (c : Nat) (g : GlazeDesc) {x : Nat} (h : (wfinMm x).noOut = false) :
    let y := wfinMm x
    let rd := d.readSpans c (wfinReads x g)
    let k := rd.1.core c
    let out := rd.1.glazeRows c g k (rd.1.halfTable c (d.fnHalf c (y.glazeFn g))) y.cAddr (y.ldc * 32) y.cfmt y.n (k.wfinRows x)
    (d.wfinWork c g x).1 = out.1 ∧
    (d.wfinWork c g x).2.status = if rd.2 = [] ∧ out.2.bad = [] then St.OK else St.UNCORRECTABLE := by
  simp only [Device.wfinWork, h, Bool.false_eq_true, if_false, Core.zipIdx_wfinRecs, mxResult_status, MxTally.add, List.append_eq_nil_iff,
    and_comm, and_self]

/-- A checked mx.wfin that need not wait for its table is one run of the front command. -/
theorem Device.mxWfin_of_passed {d : Device} {c : Nat} {e : QEntry} {g : GlazeDesc} (h : d.ready c 0 = some e) (hopc : e.opc = 0x03)
    (hg : d.mmDesc c (wfinMm e.c) e = g) (hcheck : wfinCheck e.c g = none) (hwaits : d.fnWaits c ((wfinMm e.c).glazeFn g) = false)
    (hempty : d.fnEmpty c ((wfinMm e.c).glazeFn g) = false) :
    d.mxWfin c = (d.wfinWork c g e.c).1.setFront c 0 (e.executed d.cycles (d.wfinWork c g e.c).2) := by
  subst hg
  unfold Device.mxWfin
  rw [h]
  refine (if_neg fun hwait => ?_).trans (Device.runChecked_of_passed h (beq_iff_eq.2 hopc) ?_)
  · exact Bool.false_ne_true (hwaits.symm.trans hwait.2.2)
  · exact Option.or_eq_none_iff.2 ⟨hcheck, if_neg (Bool.eq_false_iff.1 hempty)⟩

/-! ## The rows -/

theorem State.does_mxWsum (s : State) (c : CoreId) : s.Does (.mxWsum c) (s.dev.mxWsum c) := rfl

theorem State.does_mxWfin (s : State) (c : CoreId) : s.Does (.mxWfin c) (s.dev.mxWfin c) := rfl

/-- Settles O26: each row runs the front command of MXQ, and the work is that of its checked command. -/
theorem windowCommandsRun : Obligations.WindowCommandsRun := by
  intro s c e hready
  constructor
  · intro hopc n p q t hhigh hmid hlow hpq htp htq hpin hqin htin
    obtain ⟨r, hrun, hstatus⟩ := Device.mxWsum_of_passed hready hopc
      ((wsumCheck_eq_none_iff _).2 ⟨⟨hhigh, hmid, hlow, hpq, htp, htq⟩, hpin, hqin, htin⟩)
    exact ⟨_, r, (s.does_mxWsum c).of_eq hrun, rfl, hstatus⟩
  · intro hopc y g fn hcheck hwaits hempty
    have hrun := Device.mxWfin_of_passed hready hopc rfl hcheck hwaits hempty
    constructor
    · intro hnone
      rw [Device.wfinWork_of_noOut _ _ _ hnone] at hrun
      exact (s.does_mxWfin c).of_eq hrun
    · intro hsome src lds rd rows
      obtain ⟨hdev, hstatus⟩ := s.dev.wfinWork_of_out c g hsome
      rw [hdev] at hrun
      exact ⟨_, (s.does_mxWfin c).of_eq hrun, hstatus⟩

end Machine
end Sys2Proof
end

section
/-!
Products (R87-R95, R106, R109-R112): mx.mm and sp.mv share the way to their unit, which is told here once: refused or waiting at their gang, or
going on to their unit, where a product ends at its checks or does its whole work.
-/
namespace Sys2Proof
namespace Machine

/-! ## The way of a product to its unit -/

/-- A product at the head of queue q of core c: its gang first, then, where it may run, what its unit does with it and its fields. -/
def Device.runProduct (d : Device) (c q : Nat) (run : Mm → Device → QEntry → Device) : Device :=
  match d.headEntry c q with
  | none => d
  | some e =>
    let x := Mm.of e.c
    if e.opc ≠ 0x01 ∨ !e.open then d
    else if x.gang && e.gang.isNone && d.gangOutside c then
      d.runFront c q (fun e => e.opc == 0x01) (fun d _ => (d, refused St.BAD_RANGE))
    else
      let r := if x.gang then d.gangArrive c q e else (d, true)
      if !r.2 then r.1
      else
        match r.1.ready c q with
        | none => r.1
        | some e => run x r.1 e

/-- The array runs an mx.mm that is not routed, the siphon path a routed one that it has taken (R95, R106). -/
def Device.mxRun (c : Nat) (x : Mm) (d : Device) (e : QEntry) : Device :=
  if x.routed then (if (d.core c).siphonBusy = some 0 then d.mmExecute c 0 e false true else d) else d.mmExecute c 0 e false false

/-- The siphon path runs an sp.mv that it has taken (R106). -/
def Device.spRun (c : Nat) (x : Mm) (d : Device) (e : QEntry) : Device :=
  if (d.core c).siphonBusy = some 1 then d.mmExecute c 1 e x.auto true else d

theorem Device.mxMm_eq_runProduct (d : Device) (c : Nat) : d.mxMm c = d.runProduct c 0 (Device.mxRun c) := rfl

theorem Device.spMv_eq_runProduct (d : Device) (c : Nat) : d.spMv c = d.runProduct c 1 (Device.spRun c) := rfl

section RunProduct

variable {d : Device} {c q : Nat} {e : QEntry} (run : Mm → Device → QEntry → Device) (h : d.ready c q = some e) (hopc : e.opc = 0x01)
include h hopc

/-- A gang that names a core outside its partition is refused (R89). -/
theorem Device.runProduct_of_gangOutside (hgang : (Mm.of e.c).gang = true) (hfirst : e.gang = none) (hout : d.gangOutside c = true) :
    d.runProduct c q run = d.setFront c q (e.executed d.cycles (refused St.BAD_RANGE)) := by
  obtain ⟨-, hopen, -⟩ := Device.ready_eq_some_iff.1 h
  simp only [Device.runProduct, Device.headEntry_of_ready h]
  rw [if_neg (by simp [hopc, hopen]), if_pos (by simp [hgang, hfirst, hout]),
    Device.runFront_of_ready (isOp := fun e => e.opc == 0x01) h (beq_iff_eq.2 hopc)]

/-- A product with another core in its gang latches the set and waits (R88). -/
theorem Device.runProduct_of_gangArrives (hgang : (Mm.of e.c).gang = true) (hfirst : e.gang = none) (hin : d.gangOutside c = false)
    (hother : ∃ i, i < 128 ∧ i ≠ c ∧ (d.gangSet c).testBit i) :
    d.runProduct c q run = d.setFront c q { e with gang := some (d.gangSet c), released := false } := by
  obtain ⟨⟨rest, hqueue⟩, hopen, hresult⟩ := Device.ready_eq_some_iff.1 h
  have hnotAlone : (List.range 128).all (fun i => !(d.gangSet c).testBit i || i == c) = false := by
    obtain ⟨i, hi, hne, hbit⟩ := hother
    exact List.all_eq_false.2 ⟨i, List.mem_range.2 hi, by simp [hbit, hne]⟩
  simp only [Device.runProduct, Device.headEntry_of_ready h]
  rw [if_neg (by simp [hopc, hopen]), if_neg (by simp [hin])]
  simp [hgang, Device.gangArrive, hfirst, hnotAlone, Device.setFront, Device.modCore, hqueue, markHead, hresult]

/-- Without GANG, or released by its gang, a product goes on to its unit. -/
theorem Device.runProduct_of_goesOn (hgang : (Mm.of e.c).gang = false ∨ (e.gang.isSome = true ∧ e.released = true)) :
    d.runProduct c q run = run (Mm.of e.c) d e := by
  obtain ⟨-, hopen, -⟩ := Device.ready_eq_some_iff.1 h
  have hgo : (if (Mm.of e.c).gang then d.gangArrive c q e else (d, true)) = (d, true) := by
    obtain hnone | ⟨harrived, hreleased⟩ := hgang
    · simp [hnone]
    · simp [Device.gangArrive, harrived, hreleased]
  have hinside : ¬ ((Mm.of e.c).gang && e.gang.isNone && d.gangOutside c) = true := by
    obtain hnone | ⟨harrived, -⟩ := hgang
    · simp [hnone]
    · simp [Option.isNone_eq_false_iff.2 harrived]
  simp only [Device.runProduct, Device.headEntry_of_ready h]
  rw [if_neg (by simp [hopc, hopen]), if_neg hinside]
  simp only [hgo, h, Bool.not_true, Bool.false_eq_true, if_false]

end RunProduct

/-! ## A product at its unit -/

/-- The table half a product uses: the one its early start chose, or the one its glaze function has now (R86, R118, R180). -/
def Device.mmHalf (d : Device) (c : Nat) (g : GlazeDesc) (e : QEntry) : Option Nat :=
  if e.desc.isSome then e.uses else d.fnHalf c ((Mm.of e.c).glazeFn g)

/-- What a product adds to the 32-bit and to the 64-bit counters when it ends with ST_OK (R99, R103, R124). -/
def Mm.counts32 (x : Mm) (c q : Nat) (siphon : Bool) : List (Nat × Nat) :=
  x.emptyCount c ++ (if siphon && q == 0 then [(Reg.MX_SP_ROUTED c, 1)] else [])
def Mm.counts64 (x : Mm) (c : Nat) (siphon early : Bool) : List (Nat × Nat) :=
  if siphon then (if x.noOut then [] else [(Reg.MX_SP_TILES_LO c, x.siphonTiles)]) else x.arrayCounts c early

section Execute

variable {d : Device} {c q : Nat} {e : QEntry} {acc : Bool} (siphon : Bool)

/-- A product that its checks refuse ends with their status. -/
theorem Device.mmExecute_of_refused {st : Nat} (hcheck : (Mm.of e.c).check (d.mmDesc c (Mm.of e.c) e) (q == 1) acc = some st) :
    d.mmExecute c q e acc siphon = d.setFront c q { e.executed d.cycles (refused st) with uses := none } := by
  simp only [Device.mmExecute, hcheck]
  rfl

/-- A checked product whose table is in place does its whole work. -/
theorem Device.mmExecute_of_passed {g : GlazeDesc} (hg : d.mmDesc c (Mm.of e.c) e = g) (hcheck : (Mm.of e.c).check g (q == 1) acc = none)
    (hhalf : (d.mmHalf c g e).isSome = true) :
    let r := d.mmBody c (Mm.of e.c) g (d.mmHalf c g e) acc
    d.mmExecute c q e acc siphon = r.1.setFront c q
      { e.executed r.1.cycles (mxResult c r.2.1 r.2.2 ((Mm.of e.c).counts32 c q siphon)
          (if r.2.1 = St.OK then (Mm.of e.c).counts64 c siphon e.desc.isSome else [])) with uses := d.mmHalf c g e } := by
  subst hg
  have hready : (d.mmHalf c (d.mmDesc c (Mm.of e.c) e) e).isNone = false := Option.isNone_eq_false_iff.2 hhalf
  unfold Device.mmExecute
  simp only [hcheck]
  refine (if_neg fun hwait => ?_).trans (if_neg fun hempty => ?_)
  · exact Bool.false_ne_true (hready.symm.trans (Bool.and_eq_true_iff.1 hwait).1)
  · exact Bool.false_ne_true (hready.symm.trans (Bool.and_eq_true_iff.1 hempty).1)

end Execute

/-! ## The rows -/

theorem State.does_mxMm (s : State) (c : CoreId) : s.Does (.mxMm c) (s.dev.runProduct c 0 (Device.mxRun c)) :=
  State.Does.of_eq rfl (s.dev.mxMm_eq_runProduct c)

theorem State.does_spMv (s : State) (c : CoreId) : s.Does (.spMv c) (s.dev.runProduct c 1 (Device.spRun c)) :=
  State.Does.of_eq rfl (s.dev.spMv_eq_runProduct c)

/-- Settles O24, by the unit that runs the product: each gives it to the one execution of products. -/
theorem matrixProductsRun : Obligations.MatrixProductsRun := by
  intro s c q e hready hopc d x g half ended hgang
  have hgo := fun run => Device.runProduct_of_goesOn run hready hopc hgang
  have hends := fun i acc siphon (hdoes : s.Does i (d.mmExecute c q e acc siphon)) =>
    And.intro (fun st hcheck => hdoes.of_eq (Device.mmExecute_of_refused (st := st) siphon hcheck))
      (fun hcheck hhalf => hdoes.of_eq (Device.mmExecute_of_passed siphon rfl hcheck hhalf))
  simp only [List.forall_mem_cons, List.not_mem_nil, false_imp_iff, implies_true, and_true]
  refine ⟨?array, ?routed, ?siphon⟩
  case array =>
    rintro rfl hroute
    exact hends _ _ _ ((s.does_mxMm c).of_eq ((hgo _).trans (if_neg (Bool.eq_false_iff.1 hroute))))
  case routed =>
    rintro rfl ⟨hroute, htaken⟩
    exact hends _ _ _ ((s.does_mxMm c).of_eq ((hgo _).trans ((if_pos hroute).trans (if_pos htaken))))
  case siphon =>
    rintro rfl htaken
    exact hends _ _ _ ((s.does_spMv c).of_eq ((hgo _).trans (if_pos htaken)))

end Machine
end Sys2Proof
end

section
/-!
Gangs, the boundary of the siphon path, and early starts (R86-R90, R106, R110, R118).
-/
namespace Sys2Proof
namespace Machine

/-! ## Changes of several cores -/

/-- A sound device has every core. -/
theorem Device.Sound.coreId_lt {d : Device} (h : d.Sound) (c : CoreId) : c.val < d.cores.length := by
  rw [h.cores]
  exact c.isLt

/-- The same change of the cores of a list without repetition shows once in each of them. -/
theorem Device.core_foldl_modCore (f : Core → Core) (j : Nat) : ∀ {l : List Nat} {d : Device}, l.Nodup → (∀ c ∈ l, c < d.cores.length) →
    (l.foldl (fun d c => d.modCore c f) d).core j = if j ∈ l then f (d.core j) else d.core j
  | [], d, _, _ => by simp
  | c :: l, d, hnodup, hlt => by
    obtain ⟨hc, hl⟩ := List.nodup_cons.1 hnodup
    obtain ⟨hclt, hllt⟩ := List.forall_mem_cons.1 hlt
    have hrest : ∀ i ∈ l, i < (d.modCore c f).cores.length := fun i hi => by
      simpa [Device.modCore, Device.setCore] using hllt i hi
    rw [List.foldl_cons, Device.core_foldl_modCore f j hl hrest, Device.core_modCore d c j f hclt]
    by_cases hj : j = c
    · simp [hj, hc]
    · simp [hj]

/-- Changes of cores touch nothing else. -/
theorem Device.foldl_modCore_shape (f : Core → Core) : ∀ (l : List Nat) (d : Device),
    l.foldl (fun d c => d.modCore c f) d = { d with cores := (l.foldl (fun d c => d.modCore c f) d).cores }
  | [], _ => rfl
  | c :: l, d => by
    rw [List.foldl_cons, Device.foldl_modCore_shape f l (d.modCore c f)]
    rfl

/-! ## Gangs -/

/-- The head of a queue marked as released. -/
def Core.releaseHead (q : Nat) (k : Core) : Core := k.setQueue q (markHead (fun e => { e with released := true }) (k.queue q))

/-- A release lets go the waiting command of each core whose set has arrived, and no other (R88, R110). -/
theorem Device.core_gangRelease {d : Device} (h : d.Sound) (q : Nat) (c : CoreId) :
    (d.gangRelease q).core c = if d.gangReady c q then (d.core c).releaseHead q else d.core c := by
  have hrange : ∀ i ∈ (List.range 128).filter (fun c => d.gangReady c q), i < d.cores.length := fun i hi => by
    rw [h.cores]; exact List.mem_range.1 (List.mem_filter.1 hi).1
  refine (Device.core_foldl_modCore (Core.releaseHead q) c (List.nodup_range.filter _) hrange).trans ?_
  simp [c.isLt]

/-! ## The boundary of the siphon path -/

/-- Rotating priority of two gives the turn to the requester at the pointer, and to the other where that one does not ask (R29). -/
theorem rotate_two {ptr q : Nat} {req : Nat → Bool} (hptr : ptr < 2) (hreq : req q = true)
    (hturn : q = ptr ∨ q = 1 - ptr ∧ req ptr = false) :
    rotate 2 ptr req = some q := by
  obtain rfl | rfl : ptr = 0 ∨ ptr = 1 := by omega
  · obtain rfl | ⟨rfl, hidle⟩ := hturn
    · simp [rotate, firstFrom, hreq]
    · simp [rotate, firstFrom, hidle, show req 1 = true from hreq]
  · obtain rfl | ⟨rfl, hidle⟩ := hturn
    · simp [rotate, firstFrom, hreq]
    · simp [rotate, firstFrom, hidle, show req 0 = true from hreq]

theorem QEntry.tag_lt (e : QEntry) : e.tag < 2 ^ 24 := Nat.mod_lt _ (by decide)

/-- A field from bit 0 reads back. -/
theorem Device.fld_setFld_low {d : Device} (h : d.Sound) (k : Nat) {v : Nat} (hv : v < 2 ^ 24) : (d.setFld k 23 0 v).fld k 23 0 = v := by
  rw [Device.fld, Device.reg_setFld_same h]
  simp only [bits, setBits, BitVec.toNat_ofNat, Nat.shiftRight_zero, Nat.shiftLeft_zero]
  omega

/-- The siphon path of core c given to queue q, the turn passed on. -/
def Device.siphonGive (d : Device) (c q : Nat) : Device :=
  d.modCore c (fun k => { k with siphonBusy := some q, siphonPtr := (q + 1) % 2 })

/-- The device after the siphon path of core c has taken the front command e of queue q. -/
def Device.siphonTaken (d : Device) (c q : Nat) (e : QEntry) : Device :=
  ((d.siphonGive c q).setFront c q { e with started := true, since := d.cycles }).setFld (Reg.MX_SP_STATUS c) 23 0 e.tag

theorem Device.siphonTake_of_busy {d : Device} {c : Nat} (h : (d.core c).siphonBusy.isSome = true) : d.siphonTake c = d := if_pos h

/-- A free path takes the front command of the queue whose turn it is (R106). -/
theorem Device.siphonTake_of_turn {d : Device} {c q : Nat} {e : QEntry} (hc : c < d.cores.length) (hfree : (d.core c).siphonBusy = none)
    (hturn : rotate 2 (d.core c).siphonPtr (d.siphonRequest c) = some q) (hfront : d.front c q = some e) :
    d.siphonTake c = d.siphonTaken c q e := by
  have hgiven : (d.modCore c (fun k => { k with siphonBusy := some q, siphonPtr := (q + 1) % 2 })).front c q = some e := by
    rw [Device.front, Device.core_modCore d c c _ hc, if_pos rfl]
    exact hfront
  unfold Device.siphonTake
  rw [if_neg (by simp [hfree]), hturn]
  dsimp only
  rw [hgiven]
  rfl

section SiphonTaken

variable {d : Device} (h : d.Sound) (c : CoreId) (q : Nat) (e : QEntry)
include h

theorem Device.siphonGive_sound : (d.siphonGive c q).Sound := Device.modCore_sound h c fun _ hk => Core.Sound.upd hk

theorem Device.core_siphonGive : (d.siphonGive c q).core c = { d.core c with siphonBusy := some q, siphonPtr := (q + 1) % 2 } :=
  (Device.core_modCore d c c _ (h.coreId_lt c)).trans (if_pos rfl)

theorem Device.core_siphonTaken :
    (d.siphonTaken c q e).core c = ((d.siphonGive c q).core c).setQueue q
      ({ e with started := true, since := d.cycles } :: (((d.siphonGive c q).core c).queue q).tail) := by
  rw [Device.siphonTaken, Device.core_setFld, Device.core_setFront ((Device.siphonGive_sound h c q).coreId_lt c)]

/-- A taken command stays at the front of its queue, marked, and the path notes its queue, the next turn and its tag (R106, R124). -/
theorem Device.siphonTaken_shows :
    ((d.siphonTaken c q e).core c).siphonBusy = some q ∧ ((d.siphonTaken c q e).core c).siphonPtr = (q + 1) % 2 ∧
    (d.siphonTaken c q e).front c q = some { e with started := true, since := d.cycles } ∧
    (d.siphonTaken c q e).fld (Reg.MX_SP_STATUS c) 23 0 = e.tag := by
  refine ⟨?busy, ?turn, ?front, ?status⟩
  case busy => rw [Device.core_siphonTaken h, Core.setQueue_siphonBusy, Device.core_siphonGive h]
  case turn => rw [Device.core_siphonTaken h, Core.setQueue_siphonPtr, Device.core_siphonGive h]
  case front => rw [Device.front, Device.core_siphonTaken h, Core.queue_setQueue, List.head?_cons]
  case status => exact Device.fld_setFld_low (Device.setFront_sound (Device.siphonGive_sound h c q)) _ e.tag_lt

end SiphonTaken

/-! ## Early starts -/

/-- The second command of a queue begins where the first has been executed, both are products and ungated or released, its checks pass, it
reads nothing that the first writes, the array or the siphon path runs both, and its table is in place (R86, R118, R180). -/
theorem Device.earlyStart_of_clear {d : Device} {c q : Nat} {e f : QEntry} {gf : GlazeDesc} (h : d.second c q = some (e, f))
    (hgf : d.mmDesc c (Mm.of f.c) f = gf) (hopc : e.opc = 0x01 ∧ f.opc = 0x01) (hopen : f.open = true) (hdesc : f.desc = none)
    (hgang : (Mm.of f.c).gang = false ∨ f.released = true) (hcheck : (Mm.of f.c).check gf (q == 1) (q == 1 && (Mm.of f.c).auto) = none)
    (hclear : anyOverlap ((Mm.of e.c).outputs (d.mmDesc c (Mm.of e.c) e)) ((Mm.of f.c).inputs gf) = false)
    (hunit : q = 1 ∨ (Mm.of e.c).routed = false ∧ (Mm.of f.c).routed = false)
    (hhalf : (d.fnHalf c ((Mm.of f.c).glazeFn gf)).isSome = true) :
    d.earlyStart c q = d.setSecond c q { f with
      started := true, since := d.cycles, uses := d.fnHalf c ((Mm.of f.c).glazeFn gf)
      desc := some (if (Mm.of f.c).readsDesc then (d.core c).sramBytes (Mm.of f.c).xAddr 32 else []) } := by
  subst hgf
  unfold Device.earlyStart
  rw [h]
  refine if_pos ⟨hopc.1, hopc.2, hopen, Option.isNone_iff_eq_none.2 hdesc, ?_, Option.isNone_iff_eq_none.2 hcheck, ?_, ?_, ?_⟩
  · simpa using hgang
  · simpa using hclear
  · simpa using hunit
  · exact congrArg not (Bool.and_eq_false_iff.2 (.inl (Option.isNone_eq_false_iff.2 hhalf)))

/-! ## The rows -/

theorem State.does_mxGangRelease (s : State) : s.Does .mxGangRelease (s.dev.gangRelease 0) := rfl

theorem State.does_spGangRelease (s : State) : s.Does .spGangRelease (s.dev.gangRelease 1) := rfl

theorem State.does_siphonTakeCommand (s : State) (c : CoreId) : s.Does (.siphonTakeCommand c) (s.dev.siphonTake c) := rfl

theorem State.does_mxEarlyStart (s : State) (c : CoreId) : s.Does (.mxEarlyStart c) (s.dev.earlyStart c 0) := rfl

theorem State.does_siphonEarlyStart (s : State) (c : CoreId) : s.Does (.siphonEarlyStart c) (s.dev.earlyStart c 1) := rfl

/-- Settles O25: gangs as `Device.runProduct` and `Device.gangRelease` have them, the taking of a command by the turn of the rotation, and
early starts by their one condition. -/
theorem gangsAndSiphon : Obligations.GangsAndSiphon := by
  refine ⟨fun s hsound => ⟨?arrivals, ?releases⟩, fun s c hsound => ⟨?busy, ?takes, ?early⟩⟩
  case arrivals =>
    simp only [List.forall_mem_cons, List.not_mem_nil, false_imp_iff, implies_true, and_true]
    refine fun c e => ⟨fun hready hopc hgang hfirst => ⟨fun hout => ?_, fun hin hother => ?_⟩,
      fun hready hopc hgang hfirst => ⟨fun hout => ?_, fun hin hother => ?_⟩⟩
    · exact (s.does_mxMm c).of_eq (Device.runProduct_of_gangOutside (Device.mxRun c) hready hopc hgang hfirst hout)
    · exact (s.does_mxMm c).of_eq (Device.runProduct_of_gangArrives (Device.mxRun c) hready hopc hgang hfirst hin hother)
    · exact (s.does_spMv c).of_eq (Device.runProduct_of_gangOutside (Device.spRun c) hready hopc hgang hfirst hout)
    · exact (s.does_spMv c).of_eq (Device.runProduct_of_gangArrives (Device.spRun c) hready hopc hgang hfirst hin hother)
  case releases =>
    simp only [List.forall_mem_cons, List.not_mem_nil, false_imp_iff, implies_true, and_true]
    exact ⟨⟨_, s.does_mxGangRelease, Device.foldl_modCore_shape _ _ _, Device.core_gangRelease hsound 0⟩,
      ⟨_, s.does_spGangRelease, Device.foldl_modCore_shape _ _ _, Device.core_gangRelease hsound 1⟩⟩
  case busy => exact fun hbusy => (s.does_siphonTakeCommand c).of_eq (Device.siphonTake_of_busy hbusy)
  case takes =>
    intro hfree hptr q e hfront hasks
    have hturn : rotate 2 (s.dev.core c).siphonPtr (s.dev.siphonRequest c) = some q := by
      obtain ⟨hown, hreq⟩ | ⟨hother, hreq, hidle⟩ := hasks
      · exact rotate_two hptr hreq (.inl hown)
      · exact rotate_two hptr hreq (.inr ⟨hother, hidle⟩)
    exact ⟨_, (s.does_siphonTakeCommand c).of_eq (Device.siphonTake_of_turn (hsound.coreId_lt c) hfree hturn hfront),
      Device.siphonTaken_shows hsound c q e⟩
  case early =>
    simp only [List.forall_mem_cons, List.not_mem_nil, false_imp_iff, implies_true, and_true]
    constructor
    · intro e f hsecond hopcE hopcF hopen hdesc hgang hcheck hclear hunit hhalf
      exact (s.does_mxEarlyStart c).of_eq
        (Device.earlyStart_of_clear hsecond rfl ⟨hopcE, hopcF⟩ hopen hdesc hgang hcheck hclear hunit hhalf)
    · intro e f hsecond hopcE hopcF hopen hdesc hgang hcheck hclear _ hhalf
      exact (s.does_siphonEarlyStart c).of_eq
        (Device.earlyStart_of_clear hsecond rfl ⟨hopcE, hopcF⟩ hopen hdesc hgang hcheck hclear (.inl rfl) hhalf)

end Machine
end Sys2Proof
end

section
/-!
The state after reset (R130, R247, R254, R337, R583, R597): the default device, each of its cores as a cold reset leaves it.
-/
namespace Sys2Proof
namespace Machine

theorem State.core_reset (c : CoreId) : State.reset.dev.core c = Core.reset := by
  have hlisted : (List.replicate 128 Core.reset)[c.val]? = some Core.reset := by rw [List.getElem?_replicate, if_pos c.isLt]
  exact (List.getD_eq_getElem?_getD ..).trans (congrArg (Option.getD · Core.reset) hlisted)

/-- A scalar register of a reset core reads zero, S0 like the rest (R207, R247). -/
theorem Core.s_reset (i : Nat) : Core.reset.s i = 0#64 := ite_self _

/-- Settles O4: the default device is sound, and each value read from it is its reset value. -/
theorem resetIsSound : Obligations.ResetIsSound := by
  have hregisters : State.reset.dev.fld Reg.TIM_STATUS 31 30 = 0 ∧ State.reset.dev.fld Reg.CFG_BOOT 27 24 = 0 ∧
      State.reset.dev.fld Reg.PWR_LIMIT 15 0 = 900 ∧ State.reset.dev.reg Reg.AQ_RTO = 50000#32 ∧
      ∀ p : PartId, State.reset.dev.reg (Reg.RED_LEVEL_NS p) = 40000#32 := by decide
  obtain ⟨hfreerun, hrom, hlimit, hrto, hlevel⟩ := hregisters
  refine ⟨Device.default_sound, rfl, rfl, hfreerun, hrom, hlimit, hrto, hlevel, fun _ => rfl, fun c => ?_⟩
  rw [State.core_reset c]
  exact ⟨rfl, rfl, rfl, Core.s_reset, fun _ => rfl, fun _ => rfl⟩

end Machine
end Sys2Proof
end

section
/-!
The commands of VXQ (R128, R139-R152): the checks of an instruction in their order, and what `Device.vx` does with the front command that
holds it: refused, without effect at VL = 0, or carried out. Each row of the engine is such a run with its own work.
-/
namespace Sys2Proof
namespace Machine

/-! ## Checks (R152) -/

/-- The conditions of order 1, 2 and 3 under which an instruction is refused; VL = 0 takes the third away (R128). -/
def VxOp.badField (o : VxOp) (w : Nat) : Bool :=
  unusedSet o.used w || (o.used.contains fMask && !vxMen w && (vxMsel w != 0 || vxMz w)) || o.field w
def VxOp.badFormat (o : VxOp) (w : Nat) : Bool := !o.fmtOk (vxFmt w) || o.format w
def VxOp.badRange (o : VxOp) (k : Core) (w : Nat) : Bool := k.vl != 0 && o.range k w

theorem VxOp.check_eq (o : VxOp) (k : Core) (w : Nat) :
    o.check k w =
      if o.badField w then some St.BAD_FIELD else if o.badFormat w then some St.BAD_FORMAT
      else if o.badRange k w then some St.BAD_RANGE else none := rfl

theorem VxOp.badField_iff (o : VxOp) (w : Nat) :
    o.badField w = true ↔
      unusedSet o.used w = true ∨ (o.used.contains fMask ∧ ¬ vxMen w ∧ (vxMsel w ≠ 0 ∨ vxMz w)) ∨ o.field w = true := by
  simp only [VxOp.badField, Bool.or_eq_true, Bool.and_eq_true, Bool.not_eq_true', bne_iff_ne, ne_eq, Bool.not_eq_true, or_assoc, and_assoc]

theorem VxOp.badFormat_iff (o : VxOp) (w : Nat) : o.badFormat w = true ↔ o.fmtOk (vxFmt w) = false ∨ o.format w = true := by
  simp only [VxOp.badFormat, Bool.or_eq_true, Bool.not_eq_true']

theorem VxOp.badRange_iff (o : VxOp) (k : Core) (w : Nat) : o.badRange k w = true ↔ k.vl ≠ 0 ∧ o.range k w = true := by
  simp only [VxOp.badRange, Bool.and_eq_true, bne_iff_ne]

/-! ## The front command of VXQ -/

/-- A command that its checks refuse ends with their status and does nothing else (R228). -/
theorem Device.runChecked_of_refused {d : Device} {c q : Nat} {e : QEntry} {isOp : QEntry → Bool} {check : Device → QEntry → Option Nat}
    {f : Device → QEntry → Device × CmdResult} {st : Nat} (h : d.ready c q = some e) (hop : isOp e = true) (hcheck : check d e = some st) :
    d.runChecked c q isOp check f = d.setFront c q (e.executed d.cycles (refused st)) := by
  simp only [Device.runChecked, Device.runFront_of_ready h hop, hcheck]

section Run

variable {d : Device} {c : Nat} {o : VxOp} {e : QEntry} (f : Device → Nat → Device × VxOut) (h : d.ready c 2 = some e)
  (hop : o.holds e = true)
include h hop

theorem Device.vx_of_refused {st : Nat} (hcheck : o.check (d.core c) e.c = some st) :
    d.vx c o f = d.setFront c 2 (e.executed d.cycles (refused st)) :=
  Device.runChecked_of_refused h hop hcheck

/-- A checked command does nothing at VL = 0 (R128). -/
theorem Device.vx_of_empty (hcheck : o.check (d.core c) e.c = none) (hvl : (d.core c).vl = 0) :
    d.vx c o f = d.setFront c 2 (e.executed d.cycles {}) := by
  rw [Device.vx, Device.runChecked_of_passed h hop hcheck, if_pos hvl]

/-- A checked command does the work of its instruction. -/
theorem Device.vx_of_passed (hcheck : o.check (d.core c) e.c = none) (hvl : (d.core c).vl ≠ 0) :
    d.vx c o f = d.vxAfter c e (f d e.c) := by
  rw [Device.vx, Device.runChecked_of_passed h hop hcheck, if_neg hvl]
  rfl

end Run

/-- Settles O21, by the order of the checks. -/
theorem vectorChecksEndCommand : Obligations.VectorChecksEndCommand := by
  intro d c o f e hready hop k ended badField badFormat
  have hfield : o.badField e.c = true ↔ badField := o.badField_iff e.c
  have hformat : o.badFormat e.c = true ↔ badFormat := o.badFormat_iff e.c
  have hrefused := fun st => Device.vx_of_refused (st := st) f hready hop
  refine ⟨?field, ?format, ?range, ?empty⟩
  case field =>
    intro hbad
    exact hrefused St.BAD_FIELD (by rw [VxOp.check_eq, if_pos (hfield.2 hbad)])
  case format =>
    intro hgood hbad
    exact hrefused St.BAD_FORMAT (by rw [VxOp.check_eq, if_neg (mt hfield.1 hgood), if_pos (hformat.2 hbad)])
  case range =>
    intro hgood hlegal hvl hout
    exact hrefused St.BAD_RANGE (by
      rw [VxOp.check_eq, if_neg (mt hfield.1 hgood), if_neg (mt hformat.1 hlegal), if_pos ((o.badRange_iff k e.c).2 ⟨hvl, hout⟩)])
  case empty =>
    intro hgood hlegal hvl
    refine Device.vx_of_empty f hready hop ?_ hvl
    rw [VxOp.check_eq, if_neg (mt hfield.1 hgood), if_neg (mt hformat.1 hlegal), if_neg fun hbad => ((o.badRange_iff k e.c).1 hbad).1 hvl]

/-! ## The rows -/

/-- The row p.1 runs the instruction p.2.1 at the head of VXQ of core c, with the work p.2.2. -/
def State.RunsVx (s : State) (c : CoreId) (p : Instr × VxOp × (Nat → Device × VxOut)) : Prop :=
  ∃ work : Device → Nat → Device × VxOut, s.Does p.1 (s.dev.vx c p.2.1 work) ∧ work s.dev = p.2.2

/-- A checked command does the work of its row, VL not being 0. -/
theorem State.rows_do {s : State} {c : CoreId} {e : QEntry} {rows : List (Instr × VxOp × (Nat → Device × VxOut))}
    (h : s.dev.ready c 2 = some e) (hvl : (s.dev.core c).vl ≠ 0) (hrows : ∀ p ∈ rows, s.RunsVx c p) :
    ∀ p ∈ rows, p.2.1.holds e = true → p.2.1.check (s.dev.core c) e.c = none → s.Does p.1 (s.dev.vxAfter c e (p.2.2 e.c)) := by
  intro p hp hop hcheck
  obtain ⟨work, hdoes, hwork⟩ := hrows p hp
  rw [← hwork]
  exact hdoes.of_eq (Device.vx_of_passed work h hop hcheck hvl)

/-- vx.setvl runs at every VL (R128, R155). -/
theorem Device.vxSetvl_of_passed {d : Device} {c : Nat} {e : QEntry} (h : d.ready c 2 = some e) (hop : setvlOp.holds e = true)
    (hcheck : setvlOp.check (d.core c) e.c = none) :
    d.vxSetvl c = (d.modCore c (fun k => { k with vl := vxImm e.c })).setFront c 2 (e.executed d.cycles {}) :=
  Device.runChecked_of_passed h hop hcheck

section UserTable

/-- sf.eval of a user slot: FUNC 0x20 to 0x2F (R160). -/
def sfTabOp : VxOp := sfOp (fun f => decide (0x20 ≤ f) && decide (f ≤ 0x2F))

variable {d : Device} {c : Nat} {e : QEntry} (h : d.ready c 2 = some e) (hop : sfTabOp.holds e = true)
  (hcheck : sfTabOp.check (d.core c) e.c = none) (hvl : (d.core c).vl ≠ 0) (hwaits : d.fnWaits c (vxFunc e.c % 64) = false)
include h hop hcheck hvl hwaits

/-- Through a published slot it evaluates the published half (R160). -/
theorem Device.sfTab_of_published (hempty : d.fnEmpty c (vxFunc e.c % 64) = false) :
    d.sfTab c = d.vxAfter c e (d.sfMap c e.c (vxFunc e.c % 64) (d.halfTable c (d.fnHalf c (vxFunc e.c % 64)))) := by
  unfold Device.sfTab
  rw [h]
  refine (if_neg (by simp [hwaits])).trans ((Device.runChecked_of_passed h hop ?_).trans ?_)
  · simp only [hempty, Bool.and_false, Bool.false_eq_true, if_false, Option.or_none]
    exact hcheck
  · rw [if_neg hvl]
    rfl

/-- Through a slot that holds no table it ends with ST_TABLE_EMPTY (R160). -/
theorem Device.sfTab_of_empty (hempty : d.fnEmpty c (vxFunc e.c % 64) = true) :
    d.sfTab c = d.setFront c 2 (e.executed d.cycles (refused St.TABLE_EMPTY)) := by
  unfold Device.sfTab
  rw [h]
  refine (if_neg (by simp [hwaits])).trans (Device.runChecked_of_refused h hop ?_)
  rw [show (sfOp _).check (d.core c) e.c = none from hcheck]
  simp [hvl, hempty]

end UserTable

theorem State.does_vxSetvl (s : State) (c : CoreId) : s.Does (.vxSetvl c) (s.dev.vxSetvl c) := rfl

theorem State.does_sfTab (s : State) (c : CoreId) : s.Does (.sfTab c) (s.dev.sfTab c) := rfl

/-- Settles O20: every row of the two tables is, by the definition of its meaning, a run of its instruction with its work (`State.RunsVx`),
and a checked run does that work (`State.rows_do`). vx.setvl and sf.eval of a user slot have runs of their own. -/
theorem vectorCommandsRun : Obligations.VectorCommandsRun := by
  refine ⟨fun s c e hready hvl => ?arithmetic, fun s c e hready => ⟨?setvl, fun hvl => ⟨?rows, ?userTable⟩⟩⟩
  case arithmetic =>
    refine State.rows_do hready hvl ?_
    repeat refine List.forall_mem_cons.2 ⟨⟨_, rfl, rfl⟩, ?_⟩
    exact List.forall_mem_nil _
  case setvl => exact fun hop hcheck => (s.does_vxSetvl c).of_eq (Device.vxSetvl_of_passed hready hop hcheck)
  case rows =>
    refine State.rows_do hready hvl ?_
    repeat refine List.forall_mem_cons.2 ⟨⟨_, rfl, rfl⟩, ?_⟩
    exact List.forall_mem_nil _
  case userTable =>
    exact fun hop hcheck hwaits =>
      ⟨fun hpublished => (s.does_sfTab c).of_eq (Device.sfTab_of_published hready hop hcheck hvl hwaits hpublished),
        fun hempty => (s.does_sfTab c).of_eq (Device.sfTab_of_empty hready hop hcheck hvl hwaits hempty)⟩

end Machine
end Sys2Proof
end

section
/-!
Elements of vector registers (R59, R125-R127): an element of a lane is a field of it, and after a merge it is what was given, cut to its
width, or what it was.
-/
namespace Sys2Proof
namespace Machine

/-! ## Elements of a lane -/

/-- A lane holds a whole number of elements. -/
theorem perLane_dvd (fmt : Nat) : perLane fmt ∣ 32 := by
  unfold perLane
  split
  · decide
  · split <;> decide

theorem bits_mod_two_pow (x : Nat) {hi lo m : Nat} (h : hi < m) : bits (x % 2 ^ m) hi lo = bits x hi lo := by
  refine Nat.eq_of_testBit_eq fun i => ?_
  simp only [bits, Nat.testBit_mod_two_pow, Nat.testBit_shiftRight]
  by_cases hi' : i < hi + 1 - lo
  · simp [hi', show lo + i < m by omega]
  · simp [hi']

/-- The digits of a number built from the lowest one up. -/
theorem foldr_digit (b : Nat) : ∀ (xs : List Nat) (j : Nat),
    xs.foldr (fun x acc => x % 2 ^ b + 2 ^ b * acc) 0 / 2 ^ (b * j) % 2 ^ b = xs.getD j 0 % 2 ^ b
  | [], j => by simp
  | x :: xs, 0 => by simp
  | x :: xs, j + 1 => by
    have htail : ∀ acc, (x % 2 ^ b + 2 ^ b * acc) / 2 ^ b = acc := fun acc => by
      rw [Nat.add_mul_div_left _ _ (Nat.two_pow_pos b), Nat.div_eq_of_lt (Nat.mod_lt _ (Nat.two_pow_pos b)), Nat.zero_add]
    rw [Nat.mul_succ, Nat.add_comm, Nat.pow_add, ← Nat.div_div_eq_div_mul, List.foldr_cons, htail, foldr_digit b xs j, List.getD_cons_succ]

/-- A list of elements to write, as long as a lane: those beyond it are kept. -/
theorem padded_getElem? {n : Nat} (xs : List (Option Nat)) {j : Nat} (hj : j < n) :
    (xs ++ List.replicate (n - xs.length) none)[j]? = some xs[j]?.join := by
  by_cases hgiven : j < xs.length
  · simp [List.getElem?_append_left hgiven, hgiven]
  · simp [List.getElem?_append_right (Nat.not_lt.1 hgiven), List.getElem?_eq_none (Nat.not_lt.1 hgiven), show j - xs.length < n - xs.length by omega]

theorem laneElems_getD {n : Nat} (w : Word) {j : Nat} (hj : j < n) :
    (laneElems n w).getD j 0 = bits w.toNat (32 / n * (j + 1) - 1) (32 / n * j) := by
  simp [laneElems, List.getD_eq_getElem?_getD, hj]

section Lane

variable {n : Nat} (hn : n ∣ 32)
include hn

/-- The field of element j has the width of an element and lies in the lane. -/
theorem laneField (j : Nat) (hj : j < n) :
    32 / n * (j + 1) - 1 < 32 ∧ 32 / n * (j + 1) - 1 + 1 - 32 / n * j = 32 / n := by
  have hpos : 0 < 32 / n := Nat.div_pos (Nat.le_of_dvd (by decide) hn) (Nat.pos_of_dvd_of_pos hn (by decide))
  have hin : 32 / n * (j + 1) ≤ 32 := calc
    32 / n * (j + 1) ≤ 32 / n * n := Nat.mul_le_mul_left _ hj
    _ = 32 := Nat.div_mul_cancel hn
  rw [Nat.mul_succ] at *
  omega

theorem laneElems_getD_lt (w : Word) {j : Nat} (hj : j < n) : (laneElems n w).getD j 0 < 2 ^ (32 / n) := by
  rw [laneElems_getD w hj, bits, (laneField hn j hj).2]
  exact Nat.mod_lt _ (Nat.two_pow_pos _)

/-- A lane built from elements holds them, each cut to its width. -/
theorem laneElems_laneOf (xs : List Nat) {j : Nat} (hj : j < n) :
    (laneElems n (laneOf n xs)).getD j 0 = xs.getD j 0 % 2 ^ (32 / n) := by
  obtain ⟨hin, hwidth⟩ := laneField hn j hj
  rw [laneElems_getD _ hj, laneOf, BitVec.toNat_ofNat, bits_mod_two_pow _ hin, bits, hwidth, Nat.shiftRight_eq_div_pow, foldr_digit]

/-- After a merge an element is what was given for it, or what it was (R127). -/
theorem laneElems_laneMerge (w : Word) (xs : List (Option Nat)) {j : Nat} (hj : j < n) :
    (laneElems n (laneMerge n w xs)).getD j 0 = xs[j]?.join.elim ((laneElems n w).getD j 0) (· % 2 ^ (32 / n)) := by
  have hmerged : (List.zipWith (fun old x => Option.getD x old) (laneElems n w) (xs ++ List.replicate (n - xs.length) none)).getD j 0
      = xs[j]?.join.getD ((laneElems n w).getD j 0) := by
    simp [List.getD_eq_getElem?_getD, List.getElem?_zipWith, padded_getElem? xs hj, laneElems, hj]
  rw [laneMerge, laneElems_laneOf hn _ hj, hmerged]
  cases xs[j]?.join with
  | none => exact Nat.mod_eq_of_lt (laneElems_getD_lt hn w hj)
  | some x => rfl

end Lane

/-! ## Elements of a register -/

/-- Element i of a register whose lanes are ws. -/
def elemOf (n : Nat) (ws : List Word) (i : Nat) : Nat := (laneElems n (ws.getD (i / n) 0#32)).getD (i % n) 0

/-- The elements of the first lane, and those of the others. -/
theorem elemOf_cons_low {n i : Nat} (hi : i < n) (w : Word) (ws : List Word) : elemOf n (w :: ws) i = (laneElems n w).getD i 0 := by
  rw [elemOf, Nat.div_eq_of_lt hi, Nat.mod_eq_of_lt hi, List.getD_cons_zero]

theorem elemOf_cons_high {n i : Nat} (hn : 0 < n) (hi : n ≤ i) (w : Word) (ws : List Word) : elemOf n (w :: ws) i = elemOf n ws (i - n) := by
  rw [elemOf, Nat.div_eq_sub_div hn hi, Nat.mod_eq_sub_mod hi, List.getD_cons_succ, elemOf]

/-- A merge into lanes, element by element (R127). -/
theorem elemOf_lanesMerge {n : Nat} (hn : n ∣ 32) : ∀ (ws : List Word) (xs : List (Option Nat)) (i : Nat), i < ws.length * n →
    elemOf n (lanesMerge n ws xs) i = xs[i]?.join.elim (elemOf n ws i) (· % 2 ^ (32 / n))
  | [], xs, i, hi => by simp at hi
  | w :: ws, [], i, _ => rfl
  | w :: ws, x :: xs, i, hi => by
    rw [lanesMerge, if_neg (by simp)]
    by_cases hlow : i < n
    · rw [elemOf_cons_low hlow, elemOf_cons_low hlow, laneElems_laneMerge hn w _ hlow, List.getElem?_take_of_lt hlow]
    · have hpos : 0 < n := Nat.pos_of_dvd_of_pos hn (by decide)
      have hrest : i - n < ws.length * n := by
        rw [List.length_cons, Nat.succ_mul] at hi
        omega
      rw [elemOf_cons_high hpos (Nat.not_lt.1 hlow), elemOf_cons_high hpos (Nat.not_lt.1 hlow), elemOf_lanesMerge hn ws _ _ hrest,
        List.getElem?_drop, Nat.add_sub_cancel' (Nat.not_lt.1 hlow)]

/-! ## Writing elements -/

section PutElems

variable {k : Core} (h : k.Sound) (r fmt : Nat) (xs : List (Option Nat))
include h

theorem Core.v_putElems (r' : Nat) : (k.putElems r fmt xs).v r' = if r' = r then lanesMerge (perLane fmt) (k.v r) xs else k.v r' := by
  obtain ⟨-, -, -, -, -, -, -, hvreg, -⟩ := h
  exact Cells.get_set (Cells.wf_rising hvreg) r _ r'

/-- Written elements read back, cut to their width, and the others stay (R127). -/
theorem Core.elemOf_putElems {i : Nat} (hi : i < 512 * perLane fmt) :
    elemOf (perLane fmt) ((k.putElems r fmt xs).v r) i = xs[i]?.join.elim (elemOf (perLane fmt) (k.v r) i) (· % 2 ^ elemWidth fmt) := by
  rw [Core.v_putElems h, if_pos rfl]
  exact elemOf_lanesMerge (perLane_dvd fmt) _ xs i (by rwa [Core.v_length h])

end PutElems

theorem Core.putElems_shape (k : Core) (r fmt : Nat) (xs : List (Option Nat)) :
    k.putElems r fmt xs = { k with vreg := (k.putElems r fmt xs).vreg, vregBad := (k.putElems r fmt xs).vregBad } := rfl

/-! ## Element-wise operations (R129, R140) -/

/-- What an element-wise operation writes in core k: under the mask, the operation on each row of source elements. -/
def Core.mapped (k : Core) (w : Nat) (srcs : List Nat) (f : List Nat → Nat × Tally) : List (Option Nat) :=
  let en := k.enabled w (k.count (vxFmt w))
  let cols := srcs.map (fun r => k.elems r (vxFmt w) k.vl)
  let rows := (List.range (k.count (vxFmt w))).map (fun i => cols.map (fun col => col.getD i 0))
  underMask w en ((List.zipWith (fun b row => if b then f row else (0, {})) en rows).map (·.1))

theorem Device.vxMap_fst (d : Device) (c w : Nat) (srcs : List Nat) (f : List Nat → Nat × Tally) :
    (d.vxMap c w srcs f).1 = d.modCore c (fun k => k.putElems (vxVd w) (vxFmt w) ((d.core c).mapped w srcs f)) := rfl

theorem Device.core_vxMap {d : Device} (h : d.Sound) (c : CoreId) (w : Nat) (srcs : List Nat) (f : List Nat → Nat × Tally) :
    (d.vxMap c w srcs f).1.core c = (d.core c).putElems (vxVd w) (vxFmt w) ((d.core c).mapped w srcs f) := by
  rw [Device.vxMap_fst, Device.core_modCore d c c _ (h.coreId_lt c), if_pos rfl]

/-- Whether the mask of a command enables element i (R129). -/
def Core.enables (k : Core) (w i : Nat) : Bool := !vxMen w || (k.m (vxMsel w)).toNat.testBit i

theorem Core.enables_iff (k : Core) (w i : Nat) :
    k.enables w i = true ↔ vxMen w = false ∨ (k.m (vxMsel w)).toNat.testBit i = true := by
  rw [Core.enables, Bool.or_eq_true, Bool.not_eq_true']

theorem Core.enabled_getElem? (k : Core) (w e i : Nat) : (k.enabled w e)[i]? = if i < e then some (k.enables w i) else none := by
  unfold Core.enabled Core.enables
  by_cases hi : i < e
  · cases vxMen w <;> simp [hi]
  · cases vxMen w <;> simp [hi]

/-- The element written at i: of an enabled element the operation's result, of a disabled one zero under MZ, else nothing (R129). -/
theorem Core.mapped_getElem? (k : Core) (w : Nat) (srcs : List Nat) (f : List Nat → Nat × Tally) (i : Nat) :
    (k.mapped w srcs f)[i]? =
      if i < k.count (vxFmt w) then
        some (if k.enables w i then some (f (srcs.map (fun r => (k.elems r (vxFmt w) k.vl).getD i 0))).1
          else if vxMz w then some 0 else none)
      else none := by
  unfold Core.mapped underMask
  simp only [List.getElem?_zipWith, List.getElem?_map, Core.enabled_getElem?]
  by_cases hi : i < k.count (vxFmt w)
  · cases k.enables w i <;> simp [hi, Function.comp_def]
  · simp [hi]

section Mapped

variable {k : Core} {w : Nat} (srcs : List Nat) (f : List Nat → Nat × Tally) {i : Nat}

theorem Core.mapped_of_enabled (hi : i < k.count (vxFmt w)) (hen : k.enables w i = true) :
    (k.mapped w srcs f)[i]?.join = some (f (srcs.map (fun r => (k.elems r (vxFmt w) k.vl).getD i 0))).1 := by
  rw [Core.mapped_getElem?, if_pos hi, if_pos hen, Option.join_some]

theorem Core.mapped_of_disabled (hi : i < k.count (vxFmt w)) (hen : ¬ k.enables w i = true) :
    (k.mapped w srcs f)[i]?.join = if vxMz w then some 0 else none := by
  rw [Core.mapped_getElem?, if_pos hi, if_neg hen, Option.join_some]

theorem Core.mapped_of_le (hi : k.count (vxFmt w) ≤ i) : (k.mapped w srcs f)[i]?.join = none := by
  rw [Core.mapped_getElem?, if_neg (Nat.not_lt.2 hi), Option.join_none]

end Mapped

/-- Settles O22, from what a merge does to each element and what an element-wise operation writes at each. -/
theorem vectorWritesMergeAndMap : Obligations.VectorWritesMergeAndMap := by
  refine ⟨fun k r fmt xs hk _ _ => ?merge, fun d c w srcs f hd _ _ => ?map⟩
  case merge =>
    refine ⟨fun i hi => ?_, fun r' hr' => ?_, ?_, k.putElems_shape r fmt xs, fun b hb => (List.mem_filter.1 hb).1⟩
    · refine (Core.elemOf_putElems hk r fmt xs hi).trans ?_
      rcases xs[i]? with _ | _ | x <;> rfl
    · rw [Core.v_putElems hk, if_neg hr']
    · exact Core.v_length (Core.putElems_sound hk r fmt xs) r
  case map =>
    have hk := Device.core_sound hd c
    intro k fmt n e on row el d' k'
    have hcore : k' = k.putElems (vxVd w) fmt (k.mapped w srcs f) := Device.core_vxMap hd c w srcs f
    have hel : ∀ i, i < 512 * n → el k' i = (k.mapped w srcs f)[i]?.join.elim (el k i) (· % 2 ^ elemWidth fmt) := fun i hi => by
      rw [hcore]
      exact Core.elemOf_putElems hk _ _ _ hi
    have hon : ∀ i, on i ↔ k.enables w i = true := fun i => (k.enables_iff w i).symm
    refine ⟨fun i hi => ⟨fun hlow hen => ?enabled, fun hlow hen => ?disabled, fun hbeyond => ?beyond⟩, fun r hr => ?otherRegister, ?core, ?device,
      fun c' hc' => ?otherCore⟩
    case enabled => rw [hel i hi, Core.mapped_of_enabled srcs f hlow ((hon i).1 hen), Option.elim_some]
    case disabled =>
      rw [hel i hi, Core.mapped_of_disabled srcs f hlow (mt (hon i).2 hen)]
      by_cases hzero : vxMz w = true
      · rw [if_pos hzero, if_pos hzero, Option.elim_some, Nat.zero_mod]
      · rw [if_neg hzero, if_neg hzero, Option.elim_none]
    case beyond => rw [hel i hi, Core.mapped_of_le srcs f hbeyond, Option.elim_none]
    case otherRegister => rw [hcore, Core.v_putElems hk, if_neg hr]
    case core => rw [hcore]; exact k.putElems_shape ..
    case device => rw [hcore]; rfl
    case otherCore => exact Device.core_modCore_ne d _ (Fin.val_ne_of_ne hc')

end Machine
end Sys2Proof
end

section
/-!
Fields and counts of a register read back (R9, R11): a write of a field sets its bits and leaves the others.
-/
namespace Sys2Proof
namespace Machine

/-- The bits of a written field are those of the value, and the others stay. -/
theorem testBit_setBits (x v : Nat) {hi lo : Nat} (h : lo ≤ hi) (i : Nat) :
    (setBits x hi lo v).testBit i = if lo ≤ i ∧ i ≤ hi then v.testBit (i - lo) else x.testBit i := by
  obtain ⟨w, hw⟩ : ∃ w, hi + 1 = lo + w := ⟨hi + 1 - lo, by omega⟩
  have hparts : setBits x hi lo v = 2 ^ lo * (2 ^ w * (x / 2 ^ lo / 2 ^ w) + v % 2 ^ w) + x % 2 ^ lo := by
    have hlow := Nat.div_add_mod x (2 ^ lo)
    have hfield := congrArg (2 ^ lo * ·) (Nat.div_add_mod (x / 2 ^ lo) (2 ^ w))
    simp only [Nat.mul_add] at hfield
    simp only [setBits, bits, hw, Nat.add_sub_cancel_left, Nat.shiftLeft_eq, Nat.shiftRight_eq_div_pow, Nat.mul_add,
      Nat.mul_comm _ (2 ^ lo)]
    omega
  rw [hparts, Nat.testBit_two_pow_mul_add _ (Nat.mod_lt _ (Nat.two_pow_pos lo)),
    Nat.testBit_two_pow_mul_add _ (Nat.mod_lt _ (Nat.two_pow_pos w))]
  by_cases hbelow : i < lo
  · simp [hbelow, Nat.not_le.2 hbelow]
  by_cases hin : i - lo < w
  · simp [hbelow, hin, show lo ≤ i ∧ i ≤ hi by omega]
  · simp [hbelow, hin, show ¬ (lo ≤ i ∧ i ≤ hi) by omega, Nat.testBit_div_two_pow, show i - lo - w + w + lo = i by omega]

theorem Device.testBit_fld (d : Device) (k hi lo i : Nat) :
    (d.fld k hi lo).testBit i = (decide (i < hi + 1 - lo) && d.flag k (lo + i)) := by
  simp [Device.fld, Device.flag, bits]

section Fields

variable {d : Device} (h : d.Sound) (k : Nat) {hi lo : Nat} (hhi : hi < 32) (hlo : lo ≤ hi) (v : Nat)
include h hhi hlo

theorem Device.flag_setFld (i : Nat) :
    (d.setFld k hi lo v).flag k i = if lo ≤ i ∧ i ≤ hi then v.testBit (i - lo) else d.flag k i := by
  rw [Device.flag, Device.reg_setFld_same h, BitVec.toNat_ofNat, Nat.testBit_mod_two_pow, testBit_setBits _ _ hlo, Device.flag]
  by_cases hi32 : i < 32
  · simp [hi32]
  · simp [hi32, show ¬ (lo ≤ i ∧ i ≤ hi) by omega, BitVec.testBit_toNat, BitVec.getLsbD_of_ge _ _ (Nat.not_lt.1 hi32)]

theorem Device.fld_setFld_same : (d.setFld k hi lo v).fld k hi lo = v % 2 ^ (hi + 1 - lo) := by
  refine Nat.eq_of_testBit_eq fun i => ?_
  rw [Device.testBit_fld, Device.flag_setFld h k hhi hlo, Nat.testBit_mod_two_pow]
  by_cases hwidth : i < hi + 1 - lo
  · simp [hwidth, show lo + i ≤ hi by omega]
  · simp [hwidth]

theorem Device.flag_setFld_apart {i : Nat} (hapart : i < lo ∨ hi < i) : (d.setFld k hi lo v).flag k i = d.flag k i :=
  (Device.flag_setFld h k hhi hlo v i).trans (if_neg (by omega))

theorem Device.fld_setFld_apart {hi' lo' : Nat} (hapart : hi' < lo ∨ hi < lo') : (d.setFld k hi lo v).fld k hi' lo' = d.fld k hi' lo' := by
  refine Nat.eq_of_testBit_eq fun i => ?_
  rw [Device.testBit_fld, Device.testBit_fld]
  by_cases hwidth : i < hi' + 1 - lo'
  · rw [Device.flag_setFld_apart h k hhi hlo v (by omega)]
  · simp [hwidth]

end Fields

theorem Device.flag_eq_fld (d : Device) (k i : Nat) : d.flag k i = (d.fld k i i).testBit 0 := by
  rw [Device.testBit_fld, Nat.add_sub_cancel_left, Nat.add_zero, decide_eq_true Nat.zero_lt_one, Bool.true_and]

/-- Fields of register k written one after another, each as its highest bit, its lowest bit and a value. -/
def Device.setFlds (d : Device) (k : Nat) (ws : List (Nat × Nat × Nat)) : Device :=
  ws.foldl (fun d w => d.setFld k w.1 w.2.1 w.2.2) d

theorem Device.setFlds_sound (k : Nat) : ∀ (ws : List (Nat × Nat × Nat)) {d : Device}, d.Sound → (d.setFlds k ws).Sound
  | [], _, h => h
  | _ :: ws, _, h => Device.setFlds_sound k ws (Device.setFld_sound h ..)

theorem Device.reg_setFlds_ne {k j : Nat} (hj : j ≠ k) : ∀ (ws : List (Nat × Nat × Nat)) {d : Device}, d.Sound → (d.setFlds k ws).reg j = d.reg j
  | [], _, _ => rfl
  | _ :: ws, _, h => (Device.reg_setFlds_ne hj ws (Device.setFld_sound h ..)).trans (Device.reg_setFld_ne h _ _ _ hj)

/-- A field that every write takes whole or leaves alone holds the value last written to it. -/
theorem Device.fld_setFlds (k hi lo : Nat) : ∀ {ws : List (Nat × Nat × Nat)} {d : Device}, d.Sound →
    (∀ w ∈ ws, w.1 < 32 ∧ w.2.1 ≤ w.1 ∧ (w.1 = hi ∧ w.2.1 = lo ∨ hi < w.2.1 ∨ w.1 < lo)) →
    (d.setFlds k ws).fld k hi lo = ws.foldl (fun x w => if w.1 = hi ∧ w.2.1 = lo then w.2.2 % 2 ^ (hi + 1 - lo) else x) (d.fld k hi lo)
  | [], _, _, _ => rfl
  | (hi', lo', v) :: ws, d, h, hws => by
    obtain ⟨⟨hhi, hlo, hfield⟩, hrest⟩ := List.forall_mem_cons.1 hws
    refine (Device.fld_setFlds k hi lo (Device.setFld_sound h ..) hrest).trans (congrArg (ws.foldl _) ?_)
    by_cases hsame : hi' = hi ∧ lo' = lo
    · obtain ⟨rfl, rfl⟩ := hsame
      exact (Device.fld_setFld_same h k hhi hlo v).trans (if_pos ⟨rfl, rfl⟩).symm
    · exact (Device.fld_setFld_apart h k hhi hlo v (hfield.resolve_left hsame)).trans (if_neg hsame).symm

theorem Device.reg_bump_ne {d : Device} (h : d.Sound) {k j : Nat} (n : Nat) (hj : j ≠ k) : (d.bump k n).reg j = d.reg j := by
  unfold Device.bump
  split
  · rfl
  · exact (d.reg_setReg (Cells.wf_rising h.wfRegs) k _ j).trans (if_neg hj)

/-- A count of one stops at all ones. -/
theorem Device.reg_bump_one {d : Device} (h : d.Sound) (k : Nat) :
    ((d.bump k 1).reg k).toNat = min 0xFFFFFFFF ((d.reg k).toNat + 1) := by
  rw [Device.bump, if_neg Nat.one_ne_zero, d.reg_setReg (Cells.wf_rising h.wfRegs), if_pos rfl, BitVec.toNat_ofNat]
  omega

theorem Device.reg_setFront (d : Device) (c q : Nat) (e : QEntry) (k : Nat) : (d.setFront c q e).reg k = d.reg k := rfl

theorem Device.front_setFront {d : Device} (h : d.Sound) (c : CoreId) (q : Nat) (e : QEntry) : (d.setFront c q e).front c q = some e := by
  rw [Device.front, Device.core_setFront (h.coreId_lt c), Core.queue_setQueue, List.head?_cons]

end Machine
end Sys2Proof
end

section
/-!
Table loads (R172-R175, R325): cp.table and the start of a held load, case by case, and what publication and refusal leave in SF_SLOT and in
the counters.
-/
namespace Sys2Proof
namespace Machine

/-! ## The load begins, is held or refused -/

section Load

variable {d : Device} {c m : Nat} {e : QEntry} (h : d.ready c (3 + m) = some e) (hop : e.opc = 0x05)
include h hop

/-- A cp.table that its checks refuse ends with their status (R325). -/
theorem Device.cpTable_of_refused (hnew : e.started = false) {st : Nat} (hcheck : tableCheck e.c = some st) :
    d.cpTable c m = d.setFront c (3 + m) { e with started := true, since := d.cycles, result := some (refused st) } := by
  simp [Device.cpTable, h, hop, hnew, hcheck]

/-- One that passes begins its load, or is held (R174). -/
theorem Device.cpTable_of_passed (hnew : e.started = false) (hcheck : tableCheck e.c = none) :
    d.cpTable c m =
      if d.mayLoad c (tabSlot e.c) then d.startLoad c m { e with started := true, since := d.cycles }
      else d.setFront c (3 + m) { e with started := true, since := d.cycles } := by
  simp [Device.cpTable, h, hop, hnew, hcheck]

/-- A held load begins once R174 lets it. -/
theorem Device.tableLoadStart_of_held (hheld : e.started = true) (huses : e.uses = none) (hmay : d.mayLoad c (tabSlot e.c) = true) :
    d.tableLoadStart c m = d.startLoad c m e := by
  simp [Device.tableLoadStart, h, hop, hheld, huses, hmay]

end Load

/-! ## The load checker and its command -/

section Checker

variable {d : Device} {c s : Nat} {e : QEntry} {h : Nat} (hop : e.opc = 0x05) (hresult : e.result = none) (huses : e.uses = some h)
  (hslot : h / 2 = s)
include hop hresult huses hslot

/-- A load of CPQ0 is the first that the checker looks for. -/
theorem Device.tablePublish_of_first (hfront : d.front c 3 = some e) : d.tablePublish c s = d.publish c 0 e h := by
  simp [Device.tablePublish, List.find?, hfront, hop, hresult, huses, hslot]

/-- It finishes a load of CPQ1 where the front command of CPQ0 does not load the slot. -/
theorem Device.tablePublish_of_second (hfront : d.front c 4 = some e)
    (hother : ∀ e0 h0, d.front c 3 = some e0 → e0.opc = 0x05 → e0.result = none → e0.uses = some h0 → h0 / 2 ≠ s) :
    d.tablePublish c s = d.publish c 1 e h := by
  cases hfirst : d.front c 3 with
  | none => simp [Device.tablePublish, List.find?, hfirst, hfront, hop, hresult, huses, hslot]
  | some e0 =>
    cases huses0 : e0.uses with
    | none => simp [Device.tablePublish, List.find?, hfirst, huses0, hfront, hop, hresult, huses, hslot]
    | some h0 =>
      have hmiss : (e0.opc == 0x05 && e0.result.isNone && h0 / 2 == s) = false := by
        simpa [Bool.and_eq_false_imp] using fun hop0 hresult0 => hother e0 h0 hfirst hop0 hresult0 huses0
      simp [Device.tablePublish, List.find?, hfirst, huses0, hmiss, hfront, hop, hresult, huses, hslot]

end Checker

/-! ## Publication and refusal -/

/-- What publication of half h with table t writes in the register of its slot: no load in progress, the half valid and published, GEN, and
the description of the table (R173). -/
def publishedFlds (h gen : Nat) (t : Table) : List (Nat × Nat × Nat) :=
  [(31, 31, 0), (30 - h % 2, 30 - h % 2, 1), (28, 28, h % 2), (23, 16, gen % 256), (26, 25, t.mono), (24, 24, if t.quadratic then 1 else 0),
    (10, 0, t.nseg)]

/-- What a refusal writes there: no load in progress, the half invalid (R175). -/
def refusedFlds (h : Nat) : List (Nat × Nat × Nat) := [(31, 31, 0), (30 - h % 2, 30 - h % 2, 0)]

section Slot

variable {d : Device} (hd : d.Sound) (r h : Nat)
include hd

theorem Device.publishedFlds_show (gen : Nat) (t : Table) :
    let d' := d.setFlds r (publishedFlds h gen t)
    d'.fld r 28 28 = h % 2 ∧ d'.flag r (30 - h % 2) = true ∧ d'.flag r 31 = false ∧ d'.fld r 23 16 = gen % 256 := by
  obtain hhalf | hhalf := Nat.mod_two_eq_zero_or_one h
  · simp [publishedFlds, hhalf, Device.flag_eq_fld, Device.fld_setFlds _ _ _ hd]
  · simp [publishedFlds, hhalf, Device.flag_eq_fld, Device.fld_setFlds _ _ _ hd]

theorem Device.refusedFlds_show :
    let d' := d.setFlds r (refusedFlds h)
    d'.fld r 28 28 = d.fld r 28 28 ∧ d'.fld r 23 16 = d.fld r 23 16 ∧ d'.flag r (30 - h % 2) = false ∧ d'.flag r 31 = false := by
  obtain hhalf | hhalf := Nat.mod_two_eq_zero_or_one h
  · simp [refusedFlds, hhalf, Device.flag_eq_fld, Device.fld_setFlds _ _ _ hd]
  · simp [refusedFlds, hhalf, Device.flag_eq_fld, Device.fld_setFlds _ _ _ hd]

end Slot

/-! ## The verdict of the load checker -/

/-- What the load checker finds in an image whose command gives n bytes (R169). -/
def Table.verdict (t : Table) (n : Nat) : Option TableRefusal := if t.imageBytes ≠ n then some ⟨1, 0⟩ else t.check

theorem Table.verdict_of_passed {t : Table} {n : Nat} (hlen : t.imageBytes = n) (hcheck : t.check = none) : t.verdict n = none :=
  (if_neg (not_not_intro hlen)).trans hcheck

/-- An image of another length than its command gives is refused, and one that fails a check. -/
theorem Table.verdict_of_failed {t : Table} {n : Nat} (h : t.imageBytes ≠ n ∨ t.check.isSome) : ∃ v, t.verdict n = some v := by
  by_cases hlen : t.imageBytes = n
  · obtain ⟨v, hcheck⟩ := Option.isSome_iff_exists.1 (h.resolve_left (not_not_intro hlen))
    exact ⟨v, (if_neg (not_not_intro hlen)).trans hcheck⟩
  · exact ⟨_, if_pos hlen⟩

/-- A refused load counted and noted: its slot, reason and segment, and the tag of its command (R175). -/
def Device.noteTableRefusal (d : Device) (c s tag : Nat) (v : TableRefusal) : Device :=
  ((d.bump (Reg.SF_REFUSED c) 1).setReg (Reg.SF_REFUSE_INFO c)
    (BitVec.ofNat 32 (0x80000000 + s * 2 ^ 27 + v.reason * 2 ^ 24 + v.seg))).noteTag (Reg.SF_REFUSE_TAG c) tag

section Publish

variable {d : Device} {c m : Nat} {e : QEntry} {h : Nat}

theorem Device.publish_of_passed (hd : d.Sound) (hpassed : (d.halfTable c (some h)).verdict (bits e.c 207 168) = none) :
    d.publish c m e h =
      ((d.setFlds (Reg.SF_SLOT c (h / 2)) (publishedFlds h (d.fld (Reg.SF_SLOT c (h / 2)) 23 16 + 1) (d.halfTable c (some h)))).bump
        (Reg.SF_LOADS c) 1).setFront c (3 + m) { e with result := some {} } := by
  have hgen : (d.setFlag (Reg.SF_SLOT c (h / 2)) 31 false).fld (Reg.SF_SLOT c (h / 2)) 23 16 = d.fld (Reg.SF_SLOT c (h / 2)) 23 16 :=
    Device.fld_setFld_apart hd _ (by decide) (by decide) _ (by decide)
  rw [Table.verdict] at hpassed
  simp only [Device.publish, hpassed, hgen]
  rfl

theorem Device.publish_of_refused {v : TableRefusal} (hrefused : (d.halfTable c (some h)).verdict (bits e.c 207 168) = some v) :
    d.publish c m e h =
      ((d.setFlds (Reg.SF_SLOT c (h / 2)) (refusedFlds h)).noteTableRefusal c (h / 2) e.tag v).setFront c (3 + m)
        { e with result := some (refused (if v.reason = 1 then St.BAD_FIELD else St.TABLE_SEAM)) } := by
  rw [Table.verdict] at hrefused
  simp only [Device.publish, hrefused]
  rfl

end Publish

/-! ## The counters beside the slots -/

theorem Reg.SF_SLOT_ne_of_lt (c s : Nat) {off : Nat} (h : off < 0x100) : Reg.SF_SLOT c s ≠ Reg.SF c + off := by
  unfold Reg.SF_SLOT
  omega

section NoteRefusal

variable {d : Device} (hd : d.Sound) (c s tag : Nat) (v : TableRefusal)
include hd

theorem Device.reg_noteTableRefusal (k : Nat) (hinfo : k ≠ Reg.SF_REFUSE_INFO c) :
    (d.noteTableRefusal c s tag v).reg k =
      if k = Reg.SF_REFUSE_TAG c then BitVec.ofNat 32 (0x80000000 + tag % 0x1000000) else (d.bump (Reg.SF_REFUSED c) 1).reg k := by
  have hcount := Device.bump_sound hd (Reg.SF_REFUSED c) 1
  rw [Device.noteTableRefusal, Device.noteTag, Device.reg_setReg _ (Cells.wf_rising (Device.setReg_sound hcount ..).wfRegs),
    Device.reg_setReg _ (Cells.wf_rising hcount.wfRegs), if_neg hinfo]

theorem Device.slot_noteTableRefusal (s' : Nat) : (d.noteTableRefusal c s tag v).reg (Reg.SF_SLOT c s') = d.reg (Reg.SF_SLOT c s') := by
  have hinfo : Reg.SF_SLOT c s' ≠ Reg.SF_REFUSE_INFO c := Reg.SF_SLOT_ne_of_lt c s' (by decide)
  have htag : Reg.SF_SLOT c s' ≠ Reg.SF_REFUSE_TAG c := Reg.SF_SLOT_ne_of_lt c s' (by decide)
  have hcount : Reg.SF_SLOT c s' ≠ Reg.SF_REFUSED c := Reg.SF_SLOT_ne_of_lt c s' (by decide)
  rw [Device.reg_noteTableRefusal hd c s tag v _ hinfo, if_neg htag, Device.reg_bump_ne hd 1 hcount]

theorem Device.count_noteTableRefusal :
    ((d.noteTableRefusal c s tag v).reg (Reg.SF_REFUSED c)).toNat = min 0xFFFFFFFF ((d.reg (Reg.SF_REFUSED c)).toNat + 1) := by
  have hinfo : Reg.SF_REFUSED c ≠ Reg.SF_REFUSE_INFO c := fun heq => absurd (Nat.add_left_cancel heq) (by decide)
  have htag : Reg.SF_REFUSED c ≠ Reg.SF_REFUSE_TAG c := fun heq => absurd (Nat.add_left_cancel heq) (by decide)
  rw [Device.reg_noteTableRefusal hd c s tag v _ hinfo, if_neg htag, Device.reg_bump_one hd]

theorem Device.tag_noteTableRefusal (htag : tag < 2 ^ 24) : ((d.noteTableRefusal c s tag v).reg (Reg.SF_REFUSE_TAG c)).toNat = 2 ^ 31 + tag := by
  have hinfo : Reg.SF_REFUSE_TAG c ≠ Reg.SF_REFUSE_INFO c := fun heq => absurd (Nat.add_left_cancel heq) (by decide)
  rw [Device.reg_noteTableRefusal hd c s tag v _ hinfo, if_pos rfl, BitVec.toNat_ofNat]
  omega

end NoteRefusal

/-! ## What publication and refusal leave -/

section Leave

variable {d : Device} (hd : d.Sound) (c : CoreId) (m : Nat) (e : QEntry) (h : Nat)
include hd

/-- A published load: its half is valid and the published one, no load is in progress, GEN and SF_LOADS count, and the command has its
result ST_OK (R173). -/
theorem Device.publish_shows (hpassed : (d.halfTable c (some h)).verdict (bits e.c 207 168) = none) :
    let r := Reg.SF_SLOT c (h / 2)
    let d' := d.publish c m e h
    d'.fld r 28 28 = h % 2 ∧ d'.flag r (30 - h % 2) = true ∧ d'.flag r 31 = false ∧ d'.fld r 23 16 = (d.fld r 23 16 + 1) % 256 ∧
    (d'.reg (Reg.SF_LOADS c)).toNat = min 0xFFFFFFFF ((d.reg (Reg.SF_LOADS c)).toNat + 1) ∧
    d'.front c (3 + m) = some { e with result := some {} } := by
  intro r d'
  let d₁ := d.setFlds r (publishedFlds h (d.fld r 23 16 + 1) (d.halfTable c (some h)))
  have hd₁ : d₁.Sound := Device.setFlds_sound _ _ hd
  have hpublish : d' = (d₁.bump (Reg.SF_LOADS c) 1).setFront c (3 + m) { e with result := some {} } := Device.publish_of_passed hd hpassed
  have hne : r ≠ Reg.SF_LOADS c := Reg.SF_SLOT_ne_of_lt c _ (by decide)
  have hslot : d'.reg r = d₁.reg r := by rw [hpublish, Device.reg_setFront, Device.reg_bump_ne hd₁ 1 hne]
  obtain ⟨hpub, hvalid, hbusy, hgen⟩ := Device.publishedFlds_show hd r h (d.fld r 23 16 + 1) (d.halfTable c (some h))
  simp only [Device.fld, Device.flag, hslot]
  refine ⟨hpub, hvalid, hbusy, hgen, ?loads, ?front⟩
  case loads => rw [hpublish, Device.reg_setFront, Device.reg_bump_one hd₁, Device.reg_setFlds_ne hne.symm _ hd]
  case front => rw [hpublish, Device.front_setFront (Device.bump_sound hd₁ ..)]

/-- A refused load: PUB and GEN stay, its half is invalid, no load is in progress, and the refusal is counted and its tag noted (R175). -/
theorem Device.refusal_shows {v : TableRefusal} (hrefused : (d.halfTable c (some h)).verdict (bits e.c 207 168) = some v) :
    let r := Reg.SF_SLOT c (h / 2)
    let d' := d.publish c m e h
    d'.fld r 28 28 = d.fld r 28 28 ∧ d'.fld r 23 16 = d.fld r 23 16 ∧ d'.flag r (30 - h % 2) = false ∧ d'.flag r 31 = false ∧
    (d'.reg (Reg.SF_REFUSED c)).toNat = min 0xFFFFFFFF ((d.reg (Reg.SF_REFUSED c)).toNat + 1) ∧
    (d'.reg (Reg.SF_REFUSE_TAG c)).toNat = 2 ^ 31 + e.tag := by
  intro r d'
  let d₁ := d.setFlds r (refusedFlds h)
  have hd₁ : d₁.Sound := Device.setFlds_sound _ _ hd
  have hregs : ∀ k, d'.reg k = (d₁.noteTableRefusal c (h / 2) e.tag v).reg k := fun k =>
    (congrArg (Device.reg · k) (Device.publish_of_refused hrefused)).trans (Device.reg_setFront ..)
  have hne : r ≠ Reg.SF_REFUSED c := Reg.SF_SLOT_ne_of_lt c _ (by decide)
  have hslot : d'.reg r = d₁.reg r := (hregs r).trans (Device.slot_noteTableRefusal hd₁ ..)
  obtain ⟨hpub, hgen, hvalid, hbusy⟩ := Device.refusedFlds_show hd r h
  simp only [Device.fld, Device.flag, hslot]
  refine ⟨hpub, hgen, hvalid, hbusy, ?count, ?tag⟩
  case count => rw [hregs, Device.count_noteTableRefusal hd₁, Device.reg_setFlds_ne hne.symm _ hd]
  case tag => rw [hregs, Device.tag_noteTableRefusal hd₁ _ _ _ _ e.tag_lt]

end Leave

/-- Settles O30: the rows are the device's own operations, case by case, and the load checker's verdict decides between publication
(`Device.publish_shows`) and refusal (`Device.refusal_shows`). -/
theorem tableLoadsBeginAndPublish : Obligations.TableLoadsBeginAndPublish := by
  refine ⟨fun s c m e hready hop => ⟨fun hnew => ⟨?refused, ?begins, ?held⟩, ?later, ?checker⟩, fun d c m e h hd _ _ => ⟨?passed, ?failed⟩⟩
  case refused => exact fun st hcheck => State.Does.of_eq rfl (Device.cpTable_of_refused hready hop hnew hcheck)
  case begins =>
    exact fun hcheck hmay => State.Does.of_eq rfl ((Device.cpTable_of_passed hready hop hnew hcheck).trans (if_pos hmay))
  case held =>
    exact fun hcheck hmay => State.Does.of_eq rfl
      ((Device.cpTable_of_passed hready hop hnew hcheck).trans (if_neg (Bool.eq_false_iff.1 hmay)))
  case later => exact fun hheld huses hmay => State.Does.of_eq rfl (Device.tableLoadStart_of_held hready hop hheld huses hmay)
  case checker =>
    intro slot h huses hslot hother
    obtain ⟨⟨rest, hqueue⟩, -, hresult⟩ := Device.ready_eq_some_iff.1 hready
    have hfront : s.dev.front c (3 + m) = some e := by rw [Device.front, hqueue, List.head?_cons]
    refine State.Does.of_eq rfl ?_
    match m with
    | 0 => exact Device.tablePublish_of_first hop hresult huses hslot hfront
    | 1 => exact Device.tablePublish_of_second hop hresult huses hslot hfront (hother rfl)
  case passed => exact fun hlen hcheck => Device.publish_shows hd c m e h (Table.verdict_of_passed hlen hcheck)
  case failed =>
    intro hbad
    obtain ⟨v, hrefused⟩ := Table.verdict_of_failed hbad
    exact Device.refusal_shows hd c m e h hrefused

end Machine
end Sys2Proof
end

section
/-!
Writes of DRAM (R287, R288, R476): what a run of bytes reads back as, and what a write leaves in the bytes, in the poison of the codewords
and in the dirty bits of the pages, where no slice holds a page.
-/
namespace Sys2Proof
namespace Machine

/-! ## Runs of a store -/

theorem getD_of_lt {α : Type} {l : List α} {i : Nat} (dflt : α) (h : i < l.length) : l.getD i dflt = l[i] := by
  rw [List.getD_eq_getElem?_getD, List.getElem?_eq_getElem h, Option.getD_some]

section Range

variable {α : Type} (dflt : α) (m : Cells α)

@[simp] theorem Cells.length_getRange : ∀ n lo, (Cells.getRange dflt m lo n).length = n
  | 0, _ => rfl
  | n + 1, lo => congrArg Nat.succ (Cells.length_getRange n (lo + 1))

theorem Cells.getElem_getRange : ∀ (n lo i : Nat) (h : i < (Cells.getRange dflt m lo n).length),
    (Cells.getRange dflt m lo n)[i] = Cells.get dflt m (lo + i)
  | 0, _, _, h => absurd h (Nat.not_lt_zero _)
  | _ + 1, _, 0, _ => rfl
  | n + 1, lo, i + 1, h =>
    (Cells.getElem_getRange n (lo + 1) i (Nat.lt_of_succ_lt_succ h)).trans (by rw [Nat.add_assoc, Nat.add_comm 1 i])

/-- Consecutive values written read back. -/
theorem Cells.getRange_setRange [DecidableEq α] (hm : Cells.rising 0 m = true) (lo : Nat) (vs : List α) :
    Cells.getRange dflt (Cells.setRange dflt m lo vs) lo vs.length = vs := by
  refine List.ext_getElem (Cells.length_getRange ..) fun i _ hi => ?_
  rw [Cells.getElem_getRange, Cells.get_setRange hm, if_pos (by omega), Nat.add_sub_cancel_left, getD_of_lt _ hi]

end Range

/-! ## Codewords -/

/-- A store over codewords with those, of n from cw on, that [a, e) covers whole set to what an unlisted one reads as (R288). -/
def Cells.clearCovered {α : Type} [DecidableEq α] (dflt : α) (a e cw : Nat) : Nat → Cells α → Cells α
  | 0, m => m
  | n + 1, m => Cells.clearCovered dflt a e (cw + 1) n (if a ≤ 64 * cw ∧ 64 * cw + 64 ≤ e then Cells.set dflt m cw dflt else m)

theorem Cells.get_clearCovered {α : Type} [DecidableEq α] {dflt : α} (a e x : Nat) : ∀ (n cw : Nat) {m : Cells α},
    Cells.wf (fun _ => dflt) m = true →
    Cells.get dflt (Cells.clearCovered dflt a e cw n m) x =
      if (cw ≤ x ∧ x < cw + n) ∧ a ≤ 64 * x ∧ 64 * x + 64 ≤ e then dflt else Cells.get dflt m x
  | 0, cw, m, _ => (if_neg (by omega)).symm
  | n + 1, cw, m, hm => by
    unfold Cells.clearCovered
    by_cases hcovered : a ≤ 64 * cw ∧ 64 * cw + 64 ≤ e
    · rw [if_pos hcovered, Cells.get_clearCovered a e x n (cw + 1) (Cells.wf_set hm cw dflt), Cells.get_set (Cells.wf_rising hm)]
      by_cases hx : x = cw
      · subst hx
        simp [hcovered]
      · simp only [hx, if_false, show (cw + 1 ≤ x ∧ x < cw + 1 + n) ↔ (cw ≤ x ∧ x < cw + (n + 1)) by omega]
    · rw [if_neg hcovered, Cells.get_clearCovered a e x n (cw + 1) hm]
      by_cases hx : x = cw
      · subst hx
        simp [hcovered]
      · simp only [show (cw + 1 ≤ x ∧ x < cw + 1 + n) ↔ (cw ≤ x ∧ x < cw + (n + 1)) by omega]

theorem Device.coverPoison_eq (a e : Nat) : ∀ (n cw : Nat) (d : Device), d.coverPoison a e cw n =
    { d with poison := Cells.clearCovered false a e cw n d.poison, symErr := Cells.clearCovered 0 a e cw n d.symErr }
  | 0, _, _ => rfl
  | n + 1, cw, d => by
    unfold Device.coverPoison Cells.clearCovered
    rw [Device.coverPoison_eq a e n (cw + 1)]
    split <;> rfl

/-- A codeword that a range covers whole is among those that the range touches. -/
theorem covered_mem_codewords {a n cw : Nat} (hn : n ≠ 0) (hlo : a ≤ 64 * cw) (hhi : 64 * cw + 64 ≤ a + n) :
    (codewords a n).1 ≤ cw ∧ cw < (codewords a n).1 + (codewords a n).2 := by
  simp only [codewords, hn, if_false]
  omega

/-! ## Pages -/

/-- The dirty bits with those of n pages from page on set (R476). -/
def Cells.markPages (page : Nat) : Nat → Cells Bool → Cells Bool
  | 0, m => m
  | n + 1, m => Cells.markPages (page + 1) n (Cells.set false m page true)

theorem Cells.get_markPages (x : Nat) : ∀ (n page : Nat) (m : Cells Bool),
    Cells.get false (Cells.markPages page n m) x = if page ≤ x ∧ x < page + n then true else Cells.get false m x
  | 0, page, m => (if_neg (by omega)).symm
  | n + 1, page, m => by
    rw [Cells.markPages, Cells.get_markPages x n, show Cells.set false m page true = Cells.put m page true from rfl, Cells.get_put]
    by_cases hx : x = page
    · simp [hx]
    · simp only [hx, if_false, show (page + 1 ≤ x ∧ x < page + 1 + n) ↔ (page ≤ x ∧ x < page + (n + 1)) by omega]

/-- Where no page is held, readying pages for a write only marks them. -/
theorem Device.openPages_of_noneHeld : ∀ (n page : Nat) {d : Device}, d.heldPages = [] →
    d.openPages page n = { d with dirty := Cells.markPages page n d.dirty }
  | 0, _, _, _ => rfl
  | n + 1, page, d, hheld => by
    unfold Device.openPages
    rw [if_pos (List.isEmpty_iff.2 hheld)]
    exact Device.openPages_of_noneHeld n (page + 1) hheld

/-! ## A write -/

theorem Device.notify_shape (d : Device) (cw n : Nat) : d.notify cw n = { d with seen := (d.notify cw n).seen } := by
  unfold Device.notify
  dsimp only
  split <;> rfl

/-- The device after a write of bytes to DRAM, but for what the hub has been told of watched codewords. -/
def Device.withDram (d : Device) (a : Nat) (bs : List Byte) : Device :=
  let e := a + bs.length
  let cw := codewords a bs.length
  { d with
    mem := Cells.setRange 0#8 d.mem a bs
    dirty := Cells.markPages (a / 0x10000) ((e - 1) / 0x10000 - a / 0x10000 + 1) d.dirty
    poison := Cells.clearCovered false a e cw.1 cw.2 d.poison
    symErr := Cells.clearCovered 0 a e cw.1 cw.2 d.symErr }

/-- A write where no page is held sets the bytes, marks its pages, and makes the codewords it covers whole good (R288, R476). -/
theorem Device.memWrite_of_noneHeld {d : Device} (a : Nat) {bs : List Byte} (hheld : d.heldPages = []) (hbs : bs ≠ []) :
    ∃ seen, (d.memWrite a bs).1 = { d.withDram a bs with seen := seen } := by
  refine ⟨(d.memWrite a bs).1.seen, ?_⟩
  have hsome : ¬ bs.isEmpty = true := mt List.isEmpty_iff.1 hbs
  simp only [Device.memWrite, if_neg hsome, Device.openPages_of_noneHeld _ _ hheld, Device.coverPoison_eq]
  exact Device.notify_shape ..

/-- Settles O28, field by field of what a write leaves (`Device.withDram`). -/
theorem dramWritesReadBack : Obligations.DramWritesReadBack := by
  intro d a bs hd hpoison hheld hbs d'
  obtain ⟨seen, hwrite⟩ : ∃ seen, d' = { d.withDram a bs with seen := seen } := Device.memWrite_of_noneHeld a hheld hbs
  have hmem : Cells.rising 0 d.mem = true := Cells.wf_rising hd.wfMem
  rw [hwrite]
  refine ⟨?readBack, ?others, ?poison, ?dirty, rfl, rfl, rfl⟩
  case readBack => exact Cells.getRange_setRange 0#8 d.mem hmem a bs
  case others => exact fun x hx => (Cells.get_setRange hmem a bs x).trans (if_neg (by omega))
  case poison =>
    intro cw
    refine (Cells.get_clearCovered a _ cw _ _ hpoison).trans (ite_congr (propext ?_) (fun _ => rfl) fun _ => rfl)
    exact and_iff_right_of_imp fun ⟨hlo, hhi⟩ => covered_mem_codewords (mt List.length_eq_zero_iff.1 hbs) hlo hhi
  case dirty => exact fun p hlo hhi => (Cells.get_markPages p ..).trans (if_pos ⟨hlo, by omega⟩)

end Machine
end Sys2Proof
end

section
/-!
Request slots and patrol (R289, R292, R294-R298): requests take slots while fewer than 512 are held, and what the rows do.
-/
namespace Sys2Proof
namespace Machine

/-! ## Taking slots -/

theorem of_firstFrom_eq_some {p : Nat → Bool} {i : Nat} : ∀ {n lo : Nat}, firstFrom p lo n = some i → p i = true
  | 0, _, h => nomatch h
  | n + 1, lo, h => by
    unfold firstFrom at h
    split at h
    · cases h; assumption
    · exact of_firstFrom_eq_some h

/-- Rotating priority gives the turn to one that asks (R29). -/
theorem of_rotate_eq_some {n ptr m : Nat} {req : Nat → Bool} (h : rotate n ptr req = some m) : req m = true := by
  unfold rotate at h
  split at h
  · cases h
    exact of_firstFrom_eq_some (p := fun i => req (i % n)) ‹_›
  · cases h

/-- A request takes a slot only where fewer than 512 are held (R294). -/
theorem Core.slots_lt_of_canIssue {k : Core} {m : Nat} (h : k.canIssue m = true) : k.slots.length < 512 := by
  unfold Core.canIssue at h
  split at h
  · exact of_decide_eq_true (Bool.and_eq_true_iff.1 h).1
  · cases h

theorem Core.issueSlots_shape : ∀ (n : Nat) (k : Core), k.issueSlots n =
    { k with slots := (k.issueSlots n).slots, toIssue := (k.issueSlots n).toIssue, slotPtr := (k.issueSlots n).slotPtr }
  | 0, _ => rfl
  | n + 1, k => by
    unfold Core.issueSlots
    split
    · rfl
    · split
      · rfl
      · exact Core.issueSlots_shape n _

/-- Taking slots, a core comes to hold 512 at most (R294). -/
theorem Core.issueSlots_slots_le : ∀ (n : Nat) {k : Core}, k.slots.length ≤ 512 → (k.issueSlots n).slots.length ≤ 512
  | 0, _, hk => hk
  | n + 1, k, hk => by
    unfold Core.issueSlots
    split
    · exact hk
    · rename_i m hturn
      split
      · exact hk
      · refine Core.issueSlots_slots_le n ?_
        rw [List.length_append]
        exact Core.slots_lt_of_canIssue (of_rotate_eq_some hturn)

/-- The requests of core c that can take slots, taken. -/
def Device.issueRequests (d : Device) (c : Nat) : Device := d.modCore c (fun k => k.issueSlots k.toIssue.length)

/-- Writes of two fields change registers alone. -/
theorem Device.setFld_setFld_shape (d : Device) (k hi lo v k' hi' lo' v' : Nat) :
    (d.setFld k hi lo v).setFld k' hi' lo' v' = { d with regs := ((d.setFld k hi lo v).setFld k' hi' lo' v').regs } := rfl

/-- Beside the slots, CORE_MEM_SLOTS shows their peaks (R300). -/
theorem Device.pumpSlots_shape (d : Device) (c : Nat) : ∃ regs, d.pumpSlots c = { d.issueRequests c with regs := regs } :=
  ⟨_, Device.setFld_setFld_shape ..⟩

theorem Device.core_pumpSlots {d : Device} {c : Nat} (hc : c < d.cores.length) :
    (d.pumpSlots c).core c = (d.core c).issueSlots (d.core c).toIssue.length := by
  obtain ⟨regs, hshape⟩ := d.pumpSlots_shape c
  rw [hshape]
  exact (Device.core_modCore d c c (fun k => k.issueSlots k.toIssue.length) hc).trans (if_pos rfl)

/-- The device after slot i of core c is freed and waiting requests have taken slots. -/
def Device.freeSlot (d : Device) (c i : Nat) : Device := (d.modCore c (fun k => { k with slots := k.slots.eraseIdx i })).pumpSlots c

theorem Device.freeSlot_slots_le {d : Device} (h : d.Sound) (c : CoreId) (i : Nat) (hslots : (d.core c).slots.length ≤ 512) :
    ((d.freeSlot c i).core c).slots.length ≤ 512 := by
  have hc : c.val < (d.modCore c (fun k => { k with slots := k.slots.eraseIdx i })).cores.length :=
    (List.length_set ..).symm ▸ h.coreId_lt c
  rw [Device.freeSlot, Device.core_pumpSlots hc, Device.core_modCore d c c _ (h.coreId_lt c), if_pos rfl]
  exact Core.issueSlots_slots_le _ (Nat.le_trans (List.length_eraseIdx_le ..) hslots)

/-! ## The rows -/

/-- A confirmation frees the slot of a withdrawn request, and changes nothing where the request stands (R298; log 7). -/
theorem Device.withdrawalConfirm_of_slot {d : Device} {c i : Nat} {x : Slot} (h : (d.core c).slots[i]? = some x) :
    d.withdrawalConfirm c i = if x.withdrawn then d.freeSlot c i else d := by
  rw [Device.withdrawalConfirm, h]
  rfl

theorem regionOf_hbm {a : Nat} (h : a < 0x6000000000) : regionOf a = .hbm := if_pos h

theorem regionOf_cistern {a : Nat} (chiplet : Fin 2) (hlo : 0x10000000000 + 0x8000000000 * chiplet.val ≤ a)
    (hhi : a < 0x18000000000 + 0x8000000000 * chiplet.val) : regionOf a = .cistern chiplet := by
  unfold regionOf
  rw [if_neg (by omega), if_neg (by omega)]
  obtain rfl | rfl : chiplet = 0 ∨ chiplet = 1 := by omega
  · exact if_pos (by omega)
  · exact (if_neg (by omega)).trans (if_pos (by omega))

theorem Device.patrol_of_hbm (d : Device) {cw : Nat} (h : regionOf (64 * cw) = .hbm) : d.patrol cw = (d.readCodewords cw 1).1 := by
  rw [Device.patrol, h]

theorem Device.patrol_of_online {d : Device} {cw chiplet : Nat} (h : regionOf (64 * cw) = .cistern chiplet)
    (honline : d.cisOnline chiplet = true) : d.patrol cw = (d.readCodewords cw 1).1 := by
  rw [Device.patrol, h]
  exact if_pos honline

theorem State.does_requestWithdrawalConfirm (s : State) (c : CoreId) (i : Nat) :
    s.Does (.requestWithdrawalConfirm c i) (s.dev.withdrawalConfirm c i) := rfl

theorem State.does_patrolScrub (s : State) (cw : Nat) : s.Does (.patrolScrub cw) (s.dev.patrol cw) := rfl

/-- Settles O31, row by row. That a slot is freed by a row of its own is log 37, that a confirmation of a request that stands changes
nothing log 7. -/
theorem requestSlotsAndPatrol : Obligations.RequestSlotsAndPatrol := by
  intro s c i d k freed
  refine ⟨rfl, ?withdrawn, ?stands, ?slots, ?hbm, ?cistern⟩
  case withdrawn =>
    exact fun x hslot hw => (s.does_requestWithdrawalConfirm c i).of_eq ((Device.withdrawalConfirm_of_slot hslot).trans (if_pos hw))
  case stands =>
    exact fun x hslot hw => (s.does_requestWithdrawalConfirm c i).of_eq
      ((Device.withdrawalConfirm_of_slot hslot).trans (if_neg (Bool.eq_false_iff.1 hw)))
  case slots => exact fun hd hslots => Device.freeSlot_slots_le hd c i hslots
  case hbm => exact fun cw hhi => (s.does_patrolScrub cw).of_eq (d.patrol_of_hbm (regionOf_hbm hhi))
  case cistern =>
    exact fun cw chiplet hlo hhi honline => (s.does_patrolScrub cw).of_eq
      (Device.patrol_of_online (regionOf_cistern chiplet hlo hhi) honline)

end Machine
end Sys2Proof
end

section
/-!
The copy commands (R278-R282, R304-R324, R326): each row runs the front command of its queue, its checks first. A cp.lin within local SRAM is
one read and one write (R304).
-/
namespace Sys2Proof
namespace Machine

/-! ## The checks and the run of a copy command -/

/-- Row i does with the front command e of copy queue m of core c what its checks, answering st, and its run say: it ends there with the
status of the checks, or does its whole work and waits for its slots. -/
def State.RunsCopy (s : State) (c : CoreId) (m : Fin 2) (e : QEntry) (i : Instr) (st : Option Nat)
    (run : CopyRun → Nat → CopyRun × Option CmdFault) : Prop :=
  let d := s.dev
  let ended := fun (r : Device × CmdResult) => r.1.setFront c (3 + m) (e.executed d.cycles r.2)
  let r := run { d := d, c := c, p := d.partNum c, m := m } e.c
  (∀ x, st = some x → s.Does i (ended (d, copyRefused c x))) ∧ (st = none → s.Does i (ended (r.1.finish r.2)))

theorem State.Does.runsCopy {s : State} {c : CoreId} {m : Fin 2} {e : QEntry} {i : Instr} {isOp : QEntry → Bool}
    {check : Device → Nat → Option Nat} {run : CopyRun → Nat → CopyRun × Option CmdFault}
    (hdoes : s.Does i (s.dev.copyCommand c m isOp check run)) (hready : s.dev.ready c (3 + m) = some e) (hop : isOp e = true) :
    s.RunsCopy c m e i (check s.dev e.c) run := by
  rw [Device.copyCommand, Device.runFront_of_ready hready hop] at hdoes
  constructor
  · intro x hcheck
    simpa only [hcheck] using hdoes
  · intro hcheck
    simpa only [hcheck] using hdoes

section Rows

variable {s : State} {c : CoreId} {m : Fin 2} {e : QEntry} (hready : s.dev.ready c (3 + m) = some e)
include hready

theorem State.runsCopy_cpLin (hopc : e.opc = 0x01) : s.RunsCopy c m e (.cpLin c m) (linCheck e.c) linRun :=
  State.Does.runsCopy (check := fun _ => linCheck) rfl hready (beq_iff_eq.2 hopc)

theorem State.runsCopy_cpNd (hopc : e.opc = 0x02) : s.RunsCopy c m e (.cpNd c m) (s.dev.ndCheck c e.c) ndRun :=
  State.Does.runsCopy (check := fun d x => d.ndCheck c x) rfl hready (beq_iff_eq.2 hopc)

theorem State.runsCopy_row {i : Instr} {opc : Nat} {scatter : Bool} {modes : Nat → Bool}
    (hdoes : s.Does i (s.dev.rowCommand c m opc scatter modes)) (hopc : e.opc = opc) (hmode : modes (bits e.c 86 85) = true) :
    s.RunsCopy c m e i ((s.dev.rowCopy c e.c).check e.c scatter) (rowRun scatter) :=
  State.Does.runsCopy (check := fun d x => (d.rowCopy c x).check x scatter) hdoes hready
    (Bool.and_eq_true_iff.2 ⟨beq_iff_eq.2 hopc, hmode⟩)

theorem State.runsCopy_cache {i : Instr} {opc : Nat} {drop : Bool} (hdoes : s.Does i (s.dev.cacheCommand c m opc drop)) (hopc : e.opc = opc) :
    s.RunsCopy c m e i (cacheCheck e.c) (cacheRun drop) :=
  State.Does.runsCopy (check := fun _ => cacheCheck) hdoes hready (beq_iff_eq.2 hopc)

end Rows

/-! ## Changes of the local SRAM of one core -/

/-- From device d to d' the local SRAM of core c alone changes, and becomes m, beside fields of that core and of the device that hold no
memory. -/
structure Device.ChangesSram (d : Device) (c : Nat) (m : Cells Byte) (d' : Device) : Prop where
  sram : (d'.core c).sram = m
  others : ∀ c', c' ≠ c → d'.core c' = d.core c'
  mem : d'.mem = d.mem
  clusters : d'.clusters = d.clusters
  listed : c < d'.cores.length

theorem Device.ChangesSram.refl {d : Device} {c : Nat} (hc : c < d.cores.length) : d.ChangesSram c (d.core c).sram d :=
  ⟨rfl, fun _ _ => rfl, rfl, rfl, hc⟩

section ChangesSram

variable {d d' : Device} {c : Nat} {m m' : Cells Byte} (h : d.ChangesSram c m d')
include h

theorem Device.ChangesSram.modCore {f : Core → Core} (hf : ∀ k, k.sram = m → (f k).sram = m') : d.ChangesSram c m' (d'.modCore c f) where
  sram := by
    rw [Device.core_modCore _ _ _ _ h.listed, if_pos rfl]
    exact hf _ h.sram
  others := fun c' hne => (Device.core_modCore_ne _ _ hne).trans (h.others c' hne)
  mem := h.mem
  clusters := h.clusters
  listed := (List.length_set ..).symm ▸ h.listed

theorem Device.ChangesSram.withRegs (regs : Cells Word) : d.ChangesSram c m { d' with regs := regs } :=
  ⟨h.sram, h.others, h.mem, h.clusters, h.listed⟩

theorem Device.ChangesSram.pumpSlots : d.ChangesSram c m (d'.pumpSlots c) := by
  obtain ⟨regs, hshape⟩ := d'.pumpSlots_shape c
  rw [hshape]
  exact (h.modCore fun k hk => (congrArg Core.sram (Core.issueSlots_shape _ k)).trans hk).withRegs regs

theorem Device.ChangesSram.setFront (q : Nat) (e : QEntry) : d.ChangesSram c m (d'.setFront c q e) :=
  h.modCore fun k hk => (Core.setQueue_sram k q _).trans hk

end ChangesSram

/-- At its end a copy hands its requests to its core, which take slots (R294). -/
theorem CopyRun.finish_fst (x : CopyRun) (f : Option CmdFault) :
    (x.finish f).1 = (x.d.modCore x.c (fun k => { k with toIssue := k.toIssue ++ x.reqs.reverse })).pumpSlots x.c := by
  simp only [CopyRun.finish]

/-- The end of a copy leaves memory as the copy has made it. -/
theorem CopyRun.finish_changesSram {d : Device} {m : Cells Byte} {x : CopyRun} (h : d.ChangesSram x.c m x.d) (f : Option CmdFault) :
    d.ChangesSram x.c m (x.finish f).1 := by
  rw [CopyRun.finish_fst]
  refine Device.ChangesSram.pumpSlots (h.modCore ?_)
  exact fun _ hk => hk

/-! ## Reading and writing local SRAM -/

/-- No doubleword of n bytes from an offset has an error (R253). -/
def Core.GoodAt (k : Core) (off n : Nat) : Prop := ∀ w ∈ k.sramBad ++ k.sramCe, ¬ (8 * w < off + n ∧ off < 8 * w + 8)

theorem touched_eq_nil_iff {ws : List Nat} {off n : Nat} : touched ws off n = [] ↔ ∀ w ∈ ws, ¬ (8 * w < off + n ∧ off < 8 * w + 8) := by
  simp only [touched, List.filter_eq_nil_iff, Bool.and_eq_true, decide_eq_true_eq]

/-- A read of good words corrects and reports nothing. -/
theorem Device.sramRead_of_good {d : Device} {c off n : Nat} (h : (d.core c).GoodAt off n) :
    d.sramRead c off n = (d, (d.core c).sramBytes off n, none) := by
  obtain ⟨hbad, hce⟩ := List.forall_mem_append.1 h
  simp only [Device.sramRead, touched_eq_nil_iff.2 hbad, touched_eq_nil_iff.2 hce, List.isEmpty_nil, if_true, List.head?_nil, Option.map_none]

theorem Core.sramFlags_bytes (k : Core) (off n : Nat) : (k.sramFlags off n).map Prod.fst = k.sramBytes off n := by
  rw [Core.sramFlags, List.map_map]
  exact List.zipIdx_map_fst 0 _

theorem Core.sramMark_sram (k : Core) (off : Nat) (bs : List (Byte × Bool)) : (k.sramMark off bs).sram = k.sram :=
  List.foldlRecOn (motive := fun k' : Core => k'.sram = k.sram) bs.zipIdx _ rfl fun k' hk' e _ => by
    dsimp only
    split
    · exact hk'
    · exact hk'

/-- A read of good words at a place of the own SRAM only answers their bytes. -/
theorem CopyRun.readPlace_own_of_good {x : CopyRun} {off n : Nat} (st : Nat) (h : (x.d.core x.c).GoodAt off n) :
    x.readPlace st (.own off) n = (x, (x.d.core x.c).sramFlags off n) := by
  simp only [CopyRun.readPlace, Device.sramRead_of_good h]

theorem CopyRun.noteBad_d (x : CopyRun) (akind addr : Nat) : (x.noteBad akind addr).d = x.d := by
  unfold CopyRun.noteBad
  split <;> rfl

theorem CopyRun.noteBad_c (x : CopyRun) (akind addr : Nat) : (x.noteBad akind addr).c = x.c := by
  unfold CopyRun.noteBad
  split <;> rfl

/-- A write at a place of the own SRAM is one of the device, and may be noted as one of part of a bad word. -/
theorem CopyRun.writePlace_own_d (x : CopyRun) (st off : Nat) (bs : List (Byte × Bool)) :
    (x.writePlace st (.own off) bs).d = (x.d.sramPlace x.c off bs).1 := by
  simp only [CopyRun.writePlace]
  split
  · exact CopyRun.noteBad_d ..
  · rfl

theorem CopyRun.writePlace_own_c (x : CopyRun) (st off : Nat) (bs : List (Byte × Bool)) : (x.writePlace st (.own off) bs).c = x.c := by
  simp only [CopyRun.writePlace]
  split
  · exact CopyRun.noteBad_c ..
  · rfl

theorem Device.sramPlace_changesSram {d : Device} {c : Nat} (hc : c < d.cores.length) (off : Nat) (bs : List (Byte × Bool)) :
    d.ChangesSram c (Cells.setRange 0#8 (d.core c).sram off (bs.map Prod.fst)) (d.sramPlace c off bs).1 :=
  ((Device.ChangesSram.refl hc).modCore fun _ hk => congrArg (Cells.setRange 0#8 · off _) hk).modCore
    fun k hk => (Core.sramMark_sram k off bs).trans hk

/-! ## cp.lin within local SRAM -/

theorem Core.Sound.rising_sram {k : Core} (h : k.Sound) : Cells.rising 0 k.sram = true := by
  obtain ⟨-, -, -, -, -, -, hsram, -⟩ := h
  exact Cells.wf_rising hsram

theorem testBit_bits (x hi lo i : Nat) : (bits x hi lo).testBit i = (decide (i < hi + 1 - lo) && x.testBit (lo + i)) := by simp [bits]

theorem bit_of_bits_eq_zero {x hi lo i : Nat} (h : bits x hi lo = 0) (hlo : lo ≤ i) (hhi : i ≤ hi) : bit x i = false := by
  have hbit := testBit_bits x hi lo (i - lo)
  rw [h, Nat.zero_testBit, decide_eq_true (by omega), Bool.true_and, Nat.add_sub_cancel' hlo] at hbit
  exact hbit.symm

theorem bits_of_bits_eq_zero {x hi lo lo' : Nat} (h : bits x hi lo = 0) (hlo : lo ≤ lo') : bits x hi lo' = 0 := by
  refine Nat.eq_of_testBit_eq fun i => ?_
  rw [testBit_bits, Nat.zero_testBit, Bool.and_eq_false_imp]
  exact fun hi' => bit_of_bits_eq_zero h (by omega) (by have := of_decide_eq_true hi'; omega)

/-- One access on either side carries the whole of a linear copy within local SRAM. -/
theorem linPieces_local (src dst : Nat) : ∀ n, linPieces false false src dst n 0 n = if n = 0 then [] else [(0, n)]
  | 0 => rfl
  | n + 1 => by
    have hrest : linPieces false false src dst n (n + 1) 0 = [] := by
      cases n with
      | zero => rfl
      | succ n => exact if_pos rfl
    simp [linPieces, hrest]

section Local

variable {x : Nat} (hspaces : bits x 119 32 = 0)
include hspaces

/-- A cp.lin within the 8 MiB of local SRAM passes its checks (R304, R326). -/
theorem linCheck_of_local (hsrc : bits x 255 208 < sramSize) (hdst : bits x 207 160 < sramSize)
    (hsrcEnd : bits x 255 208 + bits x 159 120 ≤ sramSize) (hdstEnd : bits x 207 160 + bits x 159 120 ≤ sramSize) : linCheck x = none := by
  have hfrom : bit x 33 = false := bit_of_bits_eq_zero hspaces (by decide) (by decide)
  have hto : bit x 32 = false := bit_of_bits_eq_zero hspaces (by decide) (by decide)
  have hreserved : bits x 119 34 = 0 := bits_of_bits_eq_zero hspaces (by decide)
  rw [linCheck, firstStatus_eq_none_iff]
  simp only [List.forall_mem_cons, List.not_mem_nil, false_imp_iff, implies_true, and_true, hfrom, hto, hreserved, bne_self_eq_false, true_and,
    Bool.or_eq_false_iff, fieldOut, rangeOut, Bool.not_false, Bool.true_and, Bool.false_eq_true, if_false, decide_eq_false_iff_not]
  unfold sramSize at *
  omega

/-- Its run reads its bytes and writes them, both in one access; without a byte to copy it does nothing. -/
theorem linRun_of_local (run : CopyRun) :
    (linRun run x).1 =
      if bits x 159 120 = 0 then run
      else
        let r := run.readPlace sSrc (.own (bits x 255 208)) (bits x 159 120)
        r.1.writePlace sDst (.own (bits x 207 160)) r.2 := by
  have hfrom : bit x 33 = false := bit_of_bits_eq_zero hspaces (by decide) (by decide)
  have hto : bit x 32 = false := bit_of_bits_eq_zero hspaces (by decide) (by decide)
  simp only [linRun, hfrom, hto, linPieces_local]
  by_cases hempty : bits x 159 120 = 0
  · simp [hempty, CopyRun.moveBytes]
  · simp [hempty, CopyRun.moveBytes, CopyRun.locate]

/-- Every destination byte takes the source byte as it was, also where the ranges overlap, and every other byte stays (R304). -/
theorem linRun_moves {run : CopyRun} (hc : run.c < run.d.cores.length) (hk : (run.d.core run.c).Sound)
    (hgood : (run.d.core run.c).GoodAt (bits x 255 208) (bits x 159 120)) :
    let old := (run.d.core run.c).sram
    ∃ new, (linRun run x).1.c = run.c ∧ run.d.ChangesSram run.c new (linRun run x).1.d ∧
      ∀ j, Cells.get 0#8 new j =
        if bits x 207 160 ≤ j ∧ j < bits x 207 160 + bits x 159 120 then Cells.get 0#8 old (bits x 255 208 + (j - bits x 207 160))
        else Cells.get 0#8 old j := by
  intro old
  rw [linRun_of_local hspaces run]
  by_cases hempty : bits x 159 120 = 0
  · rw [if_pos hempty]
    exact ⟨old, rfl, Device.ChangesSram.refl hc, fun j => (if_neg (by omega)).symm⟩
  · rw [if_neg hempty, CopyRun.readPlace_own_of_good sSrc hgood]
    refine ⟨Cells.setRange 0#8 old (bits x 207 160) ((run.d.core run.c).sramBytes (bits x 255 208) (bits x 159 120)),
      CopyRun.writePlace_own_c .., ?_, fun j => ?_⟩
    · rw [CopyRun.writePlace_own_d, ← Core.sramFlags_bytes]
      exact Device.sramPlace_changesSram hc ..
    · rw [Cells.get_setRange hk.rising_sram, Core.sramBytes, Cells.length_getRange]
      refine ite_congr rfl (fun hj => ?_) fun _ => rfl
      rw [getD_of_lt _ (by rw [Cells.length_getRange]; omega), Cells.getElem_getRange]

end Local

/-- Settles O29: the rows are runs of the front command with their checks and runs (`State.RunsCopy`), and a cp.lin within local SRAM is one
read and one write (`linRun_moves`). -/
theorem copyCommandsRun : Obligations.CopyCommandsRun := by
  refine ⟨fun s c m e hready => ?rows, ?bytes⟩
  case rows =>
    simp only [List.forall_mem_cons, List.not_mem_nil, false_imp_iff, implies_true, and_true]
    exact ⟨fun hopc _ => State.runsCopy_cpLin hready hopc, fun hopc _ => State.runsCopy_cpNd hready hopc,
      fun hopc _ => State.runsCopy_row hready rfl hopc rfl, fun hopc hmode => State.runsCopy_row hready rfl hopc (bne_iff_ne.2 hmode),
      fun hopc hmode => State.runsCopy_row hready rfl hopc (beq_iff_eq.2 hmode), fun hopc _ => State.runsCopy_cache hready rfl hopc,
      fun hopc _ => State.runsCopy_cache hready rfl hopc⟩
  case bytes =>
    intro s c m e hd hready hopc k src dst n hspaces hsrc hdst hsrcEnd hdstEnd hgood
    let run : CopyRun := { d := s.dev, c := c, p := s.dev.partNum c, m := m }
    obtain ⟨sram, hcore, hchange, hbytes⟩ := linRun_moves (run := run) hspaces (hd.coreId_lt c) (Device.core_sound hd c) hgood
    have hpassed : linCheck e.c = none := linCheck_of_local hspaces hsrc hdst hsrcEnd hdstEnd
    have hfinish := CopyRun.finish_changesSram (x := (linRun run e.c).1) (hcore ▸ hchange) (linRun run e.c).2
    rw [hcore] at hfinish
    obtain ⟨hsram, hothers, hmem, hclusters, -⟩ := hfinish.setFront (3 + m) (e.executed s.dev.cycles _)
    refine ⟨_, (State.runsCopy_cpLin hready hopc).2 hpassed, ?moved, ?kept, fun c' hne => hothers c' (Fin.val_ne_of_ne hne), hmem, hclusters⟩
    case moved => exact fun i hi => by rw [hsram, hbytes, if_pos (by omega), Nat.add_sub_cancel_left]
    case kept => exact fun y hy => by rw [hsram, hbytes, if_neg (by omega)]

end Machine
end Sys2Proof
end

section
/-!
Stroke numbers (R344): the order of two numbers is that of their difference in 32-bit words.
-/
namespace Sys2Proof
namespace Machine

/-- The 32-bit pattern of a difference of two words is their difference as words. -/
theorem wrap_sub_toNat (a b : BitVec 32) : wrap 32 ((b.toNat : Int) - a.toNat) = (b - a).toNat := by
  rw [wrap, BitVec.toNat_sub]
  omega

/-- Settles O19, by the difference of the two numbers as words. -/
theorem strokeNumbersCompareSerially : Obligations.StrokeNumbersCompareSerially := by
  intro a b
  simp only [strokeOlder, wrap_sub_toNat, Bool.decide_and]

end Machine
end Sys2Proof
end

section
/-!
Device time (R333, R336, R361): a step where no schedule is active, its refusal otherwise, and the latch of a read.
-/
namespace Sys2Proof
namespace Machine

/-! ## Steps -/

theorem Device.anySchedule_iff (d : Device) : d.anySchedule = true ↔ ∃ p : PartId, d.stkState p ≠ 0 := by
  simp [Device.anySchedule, Fin.exists_iff]

theorem Device.timStep_of_active {d : Device} (h : ∃ p : PartId, d.stkState p ≠ 0) : d.timStep = d.setFlag Reg.TIM_STATUS 23 true :=
  if_pos (d.anySchedule_iff.2 h)

theorem Device.timStep_of_free {d : Device} (h : ∀ p : PartId, d.stkState p = 0) : d.timStep = d.stepTime d.timeSet :=
  if_neg fun hactive => by
    obtain ⟨p, hp⟩ := d.anySchedule_iff.1 hactive
    exact hp (h p)

theorem Device.stepTime_now (d : Device) (t : Nat) : (d.stepTime t).now = t := Device.bump_now ..

theorem Device.stepTime_shape (d : Device) (t : Nat) : d.stepTime t = { d with now := t, regs := (d.stepTime t).regs } := Device.bump_shape ..

section Step

variable {d : Device} (h : d.Sound) (t : Nat)
include h

theorem Device.reg_stepTime_steps : ((d.stepTime t).reg Reg.TIM_STEPS).toNat = min 0xFFFFFFFF ((d.reg Reg.TIM_STEPS).toNat + 1) :=
  Device.reg_bump_one (d := { d with now := t }) h.upd Reg.TIM_STEPS

theorem Device.reg_stepTime_ne {r : Nat} (hr : r ≠ Reg.TIM_STEPS) : (d.stepTime t).reg r = d.reg r :=
  Device.reg_bump_ne (d := { d with now := t }) h.upd 1 hr

end Step

/-- A layout of 96 bits names the time of its seconds, nanoseconds and fraction (R333). -/
theorem timeOfLayout_eq {x : Nat} (hx : x < 2 ^ 96) :
    timeOfLayout x = bits x 95 48 * secUnit + bits x 47 16 * nsUnit + bits x 15 0 := by
  have hsec : bits x 95 48 = x / 2 ^ 48 := by simp only [bits, Nat.shiftRight_eq_div_pow]; omega
  rw [hsec]
  simp [timeOfLayout, bits, Nat.shiftRight_eq_div_pow]

/-- The 96-bit value that TIM_SET shows (R361). -/
def Device.setLayout (d : Device) : Nat :=
  (d.reg Reg.TIM_SET_0).toNat + 2 ^ 32 * (d.reg Reg.TIM_SET_1).toNat + 2 ^ 64 * (d.reg Reg.TIM_SET_2).toNat

theorem Device.setLayout_lt (d : Device) : d.setLayout < 2 ^ 96 := by
  have h0 := (d.reg Reg.TIM_SET_0).isLt
  have h1 := (d.reg Reg.TIM_SET_1).isLt
  have h2 := (d.reg Reg.TIM_SET_2).isLt
  unfold Device.setLayout
  omega

theorem Device.timeSet_of_inRange {d : Device} (h : bits d.setLayout 47 16 < 1000000000) :
    d.timeSet = bits d.setLayout 95 48 * secUnit + bits d.setLayout 47 16 * nsUnit + bits d.setLayout 15 0 :=
  (if_pos h).trans (timeOfLayout_eq d.setLayout_lt)

/-! ## The latch -/

theorem timLatch_inj {f i j : Nat} : timLatch f i = timLatch f j ↔ i = j := by
  unfold timLatch
  omega

/-- A read latches word w of the layout, for its three words (R361). -/
theorem Device.reg_timNowRead {d : Device} (h : d.Sound) (f : Nat) {w : Nat} (hw : w < 3) :
    ((d.timNowRead f).reg (timLatch f w)).toNat = timeLayout d.now / 2 ^ (32 * w) % 2 ^ 32 := by
  have hfirst := Device.setReg_sound h (timLatch f 0) (BitVec.ofNat 32 (timeLayout d.now))
  have hsecond := Device.setReg_sound hfirst (timLatch f 1) (BitVec.ofNat 32 (timeLayout d.now / 2 ^ 32))
  simp only [Device.timNowRead, Device.reg_setReg _ (Cells.wf_rising hsecond.wfRegs), Device.reg_setReg _ (Cells.wf_rising hfirst.wfRegs),
    Device.reg_setReg _ (Cells.wf_rising h.wfRegs), timLatch_inj]
  match w, hw with
  | 0, _ => simp
  | 1, _ => simp
  | 2, _ => simp

theorem Device.timNowRead_shape (d : Device) (f : Nat) : d.timNowRead f = { d with regs := (d.timNowRead f).regs } := by
  rw [Device.timNowRead, Device.setReg_shape, Device.setReg_shape (d.setReg _ _), Device.setReg_shape d]

/-- Settles O32: the step by whether some schedule is active, the latch word by word. -/
theorem deviceTimeStepsAndLatches : Obligations.DeviceTimeStepsAndLatches := by
  intro s fn hd d x
  refine ⟨fun hactive => ?refused, fun hfree => ?steps, d.timNowRead fn, rfl, d.timNowRead_shape fn, ?latch⟩
  case refused => exact State.Does.of_eq (d := d.timStep) rfl (Device.timStep_of_active hactive)
  case steps =>
    refine ⟨d.stepTime d.timeSet, State.Does.of_eq (d := d.timStep) rfl (Device.timStep_of_free hfree), fun hns => ?_,
      Device.reg_stepTime_steps hd _, ?_, fun r hr => Device.reg_stepTime_ne hd _ hr⟩
    · exact (d.stepTime_now _).trans (Device.timeSet_of_inRange hns)
    · rw [d.stepTime_now]
      exact d.stepTime_shape _
  case latch =>
    have hword := fun w (hw : w < 3) => Device.reg_timNowRead hd fn.val hw
    refine ⟨?_, hword 1 (by decide), hword 2 (by decide)⟩
    simpa using hword 0 (by decide)

end Machine
end Sys2Proof
end

section
/-!
The lock state (R341, R342): what a move of it leaves and fires, and where a write of TIM_CTL.SRC moves it.
-/
namespace Sys2Proof
namespace Machine

/-! ## Firing and moving -/

/-- A field reads alike where its register does. -/
theorem Device.fld_congr {d e : Device} {k : Nat} (h : d.reg k = e.reg k) (hi lo : Nat) : d.fld k hi lo = e.fld k hi lo :=
  congrArg (fun w : Word => bits w.toNat hi lo) h

/-- A source that is INACTIVE becomes PENDING (R534). -/
theorem Device.evtState_fire {d : Device} (h : d.Sound) {n : Nat} (hinactive : d.evtState n = 0) : (d.fire n).evtState n = 1 := by
  simp only [Device.fire, hinactive]
  exact Device.fld_setFld_same h _ (by decide) (by decide) 1

theorem Device.setLock_same {d : Device} {v : Nat} (hv : d.lock = v) : d.setLock v = d := if_pos hv

theorem Device.setLock_moves {d : Device} {v : Nat} (hv : d.lock ≠ v) :
    d.setLock v = (d.setFld Reg.TIM_STATUS 31 30 v).fire Evt.TIME_STATE := if_neg hv

theorem Device.setLock_shape (d : Device) (v : Nat) : d.setLock v = { d with regs := (d.setLock v).regs } := by
  by_cases hv : d.lock = v
  · rw [Device.setLock_same hv]
  · rw [Device.setLock_moves hv, Device.fire_shape, Device.setFld_shape]

section SetLock

variable {d : Device} (h : d.Sound) {v : Nat}
include h

theorem Device.lock_setLock (hv : v < 4) : (d.setLock v).lock = v := by
  by_cases hsame : d.lock = v
  · rwa [Device.setLock_same hsame]
  · have hset := Device.setFld_sound h Reg.TIM_STATUS 31 30 v
    rw [Device.setLock_moves hsame, Device.lock, Device.fld_congr (Device.reg_fire_ne hset (by decide) (by decide))]
    exact (Device.fld_setFld_same h Reg.TIM_STATUS (by decide) (by decide) v).trans (Nat.mod_eq_of_lt hv)

theorem Device.reg_setLock_ne {j : Nat} (hstatus : j ≠ Reg.TIM_STATUS) (hsrc : j ≠ Reg.EVT_SRC Evt.TIME_STATE)
    (hcount : j ≠ Reg.EVT_COALESCED) : (d.setLock v).reg j = d.reg j := by
  by_cases hsame : d.lock = v
  · rw [Device.setLock_same hsame]
  · rw [Device.setLock_moves hsame, Device.reg_fire_ne (Device.setFld_sound h ..) hsrc hcount, Device.reg_setFld_ne h _ _ _ hstatus]

theorem Device.evtState_setLock (hmoves : d.lock ≠ v) (hinactive : d.evtState Evt.TIME_STATE = 0) :
    (d.setLock v).evtState Evt.TIME_STATE = 1 := by
  rw [Device.setLock_moves hmoves]
  exact Device.evtState_fire (Device.setFld_sound h ..) ((Device.fld_congr (Device.reg_setFld_ne h _ _ _ (by decide)) _ _).trans hinactive)

theorem Device.reg_showPtpPort_ne {j : Nat} (hj : j ≠ Reg.TIM_STATUS) : d.showPtpPort.reg j = d.reg j := Device.reg_setFld_ne h _ _ _ hj

theorem Device.lock_showPtpPort : d.showPtpPort.lock = d.lock :=
  Device.fld_setFld_apart h Reg.TIM_STATUS (by decide) (by decide) _ (.inr (by decide))

end SetLock

/-! ## A write of SRC -/

/-- The device with source v selected, its measurements begun anew (R338). -/
def Device.selectSource (d : Device) (v : Nat) : Device :=
  { d.setFld Reg.TIM_CTL 2 0 v with tim := { d.tim with inBound := 0, sync := none, delayReq := none } }

/-- The lock state that a change to source v leads to (R342). -/
def Device.lockFor (d : Device) (v : Nat) : Nat :=
  if v = 0 then lockFreerun else if d.lock = lockLocked ∨ d.lock = lockHoldover then lockHoldover else lockAcquiring

theorem Device.lockFor_lt (d : Device) (v : Nat) : d.lockFor v < 4 := by
  unfold Device.lockFor
  split
  · decide
  · split <;> decide

theorem Device.timSrcWrite_of_idle {d : Device} {v : Nat} (hidle : v ≥ 4 ∨ v = d.timeSrc) : d.timSrcWrite v = d := if_pos hidle

/-- A change of source selects it, moves the lock state, and shows the port (R340, R342). -/
theorem Device.timSrcWrite_of_change {d : Device} {v : Nat} (hv : v < 4) (hchange : v ≠ d.timeSrc) :
    d.timSrcWrite v = ((d.selectSource v).setLock (d.lockFor v)).showPtpPort := by
  rw [Device.timSrcWrite, if_neg (by omega), Device.lockFor]
  by_cases hnone : v = 0
  · simp only [if_pos hnone]; rfl
  · by_cases hheld : d.lock = lockLocked ∨ d.lock = lockHoldover
    · simp only [if_neg hnone, if_pos hheld]; rfl
    · simp only [if_neg hnone, if_neg hheld]; rfl

section Change

variable {d : Device} (h : d.Sound) (v : Nat)
include h

theorem Device.selectSource_sound : (d.selectSource v).Sound := (Device.setFld_sound h Reg.TIM_CTL 2 0 v).upd

theorem Device.reg_selectSource_ne {j : Nat} (hj : j ≠ Reg.TIM_CTL) : (d.selectSource v).reg j = d.reg j := Device.reg_setFld_ne h 2 0 v hj

theorem Device.lock_selectSource : (d.selectSource v).lock = d.lock := Device.fld_congr (Device.reg_selectSource_ne h v (by decide)) _ _

theorem Device.evtState_selectSource : (d.selectSource v).evtState Evt.TIME_STATE = d.evtState Evt.TIME_STATE :=
  Device.fld_congr (Device.reg_selectSource_ne h v (by decide)) _ _

theorem Device.timeSrc_selectSource (hv : v < 4) : (d.selectSource v).timeSrc = v :=
  (Device.fld_setFld_same h Reg.TIM_CTL (by decide) (by decide) v).trans (Nat.mod_eq_of_lt (by omega))

end Change

/-- What a change of the time source leaves (R342), from device d to d'. -/
structure Device.SourceChanged (d : Device) (v : Nat) (d' : Device) : Prop where
  source : d'.timeSrc = v
  lock : d'.lock = d.lockFor v
  now : d'.now = d.now
  slew : d'.reg Reg.TIM_SLEW = d.reg Reg.TIM_SLEW
  strokes : d'.strokes = d.strokes
  fires : d'.lock ≠ d.lock → d.evtState Evt.TIME_STATE = 0 → d'.evtState Evt.TIME_STATE = 1
  quiet : d'.lock = d.lock → d'.evtState Evt.TIME_STATE = d.evtState Evt.TIME_STATE

theorem Device.timSrcWrite_changes {d : Device} (h : d.Sound) {v : Nat} (hv : v < 4) (hchange : v ≠ d.timeSrc) :
    d.SourceChanged v (d.timSrcWrite v) := by
  have hselected := Device.selectSource_sound h v
  have hmoved : ((d.selectSource v).setLock (d.lockFor v)).Sound := Device.setLock_sound hselected
  have hlock : (d.timSrcWrite v).lock = d.lockFor v := by
    rw [Device.timSrcWrite_of_change hv hchange, Device.lock_showPtpPort hmoved, Device.lock_setLock hselected (d.lockFor_lt v)]
  have hreg {j : Nat} (hj : j ≠ Reg.TIM_STATUS) : (d.timSrcWrite v).reg j = ((d.selectSource v).setLock (d.lockFor v)).reg j := by
    rw [Device.timSrcWrite_of_change hv hchange, Device.reg_showPtpPort_ne hmoved hj]
  have hevt : (d.timSrcWrite v).evtState Evt.TIME_STATE = ((d.selectSource v).setLock (d.lockFor v)).evtState Evt.TIME_STATE :=
    Device.fld_congr (hreg (by decide)) _ _
  obtain ⟨hnow, hstrokes⟩ : (d.timSrcWrite v).now = d.now ∧ (d.timSrcWrite v).strokes = d.strokes := by
    rw [Device.timSrcWrite_of_change hv hchange, Device.showPtpPort, Device.setFld_now, Device.setFld_strokes, Device.setLock_shape]
    exact ⟨rfl, rfl⟩
  refine ⟨?source, hlock, hnow, ?slew, hstrokes, ?fires, ?quiet⟩
  case source =>
    have hctl := Device.reg_setLock_ne hselected (v := d.lockFor v) (j := Reg.TIM_CTL) (by decide) (by decide) (by decide)
    exact (Device.fld_congr ((hreg (by decide)).trans hctl) 2 0).trans (Device.timeSrc_selectSource h v hv)
  case slew =>
    rw [hreg (by decide), Device.reg_setLock_ne hselected (by decide) (by decide) (by decide), Device.reg_selectSource_ne h v (by decide)]
  case fires =>
    rw [hlock, hevt]
    intro hmoves hinactive
    refine Device.evtState_setLock hselected ?_ ((Device.evtState_selectSource h v).trans hinactive)
    rw [Device.lock_selectSource h]
    exact hmoves.symm
  case quiet =>
    rw [hlock, hevt]
    intro hsame
    rw [Device.setLock_same ((Device.lock_selectSource h v).trans hsame.symm), Device.evtState_selectSource h]

/-- Settles O33, by what a change of source leaves (`Device.SourceChanged`). -/
theorem sourceChangeMovesLock : Obligations.SourceChangeMovesLock := by
  intro s src hd d
  refine ⟨fun hidle => ?_, fun hsrc hchange => ?_⟩
  · exact State.Does.of_eq (d := d.timSrcWrite src) rfl (Device.timSrcWrite_of_idle hidle)
  · obtain ⟨hsource, hlock, hnow, hslew, hstrokes, hfires, hquiet⟩ := Device.timSrcWrite_changes hd hsrc hchange
    refine ⟨d.timSrcWrite src, rfl, hsource, hlock.trans ?_, hnow, hslew, hstrokes, hfires, hquiet⟩
    simp only [Device.lockFor, Fin.val_eq_zero_iff]
    rfl

end Machine
end Sys2Proof
end

section
/-!
Schedules (R346-R352): what a change of state leaves, the refusals and controls, and the first stroke that ARM chooses.
-/
namespace Sys2Proof
namespace Machine

/-! ## Leaving Idle -/

theorem Device.reg_exitIdle_ne {d : Device} (h : d.Sound) {j : Nat} (hj : j ≠ Reg.PWR_STATE) : d.exitIdle.reg j = d.reg j := by
  unfold Device.exitIdle
  split
  · exact Device.reg_setFld_ne h _ _ _ hj
  · rfl

/-! ## Changes of state (R349) -/

/-- The registers of a partition's schedule lie above those of the event and power blocks (R495). -/
theorem Reg.evtSrc_lt_stk (p j : Nat) (hj : j < 16) : Reg.EVT_SRC (0x100 + 16 * p + j) < Reg.STK p := by
  simp only [Reg.EVT_SRC, Reg.EVT, Reg.STK]
  omega

theorem Reg.coalesced_lt_stk (p : Nat) : Reg.EVT_COALESCED < Reg.STK p := by
  simp only [Reg.EVT_COALESCED, Reg.EVT, Reg.STK]
  omega

theorem Reg.pwrState_lt_stk (p : Nat) : Reg.PWR_STATE < Reg.STK p := by
  simp only [Reg.PWR_STATE, Reg.PWR, Reg.STK]
  omega

/-- The firing of a source of a partition shows in no register of its schedule. -/
theorem Device.reg_firePart_stk {d : Device} (h : d.Sound) {p j k : Nat} (hj : j < 16) (hk : Reg.STK p ≤ k) :
    (d.firePart p j).reg k = d.reg k :=
  Device.reg_fire_ne h (Nat.ne_of_gt (Nat.lt_of_lt_of_le (Reg.evtSrc_lt_stk p j hj) hk))
    (Nat.ne_of_gt (Nat.lt_of_lt_of_le (Reg.coalesced_lt_stk p) hk))

theorem Device.reg_exitIdle_stk {d : Device} (h : d.Sound) {p k : Nat} (hk : Reg.STK p ≤ k) : d.exitIdle.reg k = d.reg k :=
  Device.reg_exitIdle_ne h (Nat.ne_of_gt (Nat.lt_of_lt_of_le (Reg.pwrState_lt_stk p) hk))

/-- The schedule's STATE set to v, STOP cleared, and in FREE a pending COMMIT dropped (R349, R351). -/
def Device.writeStk (d : Device) (p v : Nat) : Device :=
  let e := (d.setFld (Reg.STK_STATUS p) 31 30 v).setFlag (Reg.STK_CTL p) 2 false
  if v = 0 then e.setFlag (Reg.STK_CTL p) 3 false else e

theorem Device.setStk_same {d : Device} {p v : Nat} (h : d.stkState p = v) : d.setStk p v = d := if_pos h

theorem Device.setStk_moves {d : Device} {p v : Nat} (h : d.stkState p ≠ v) : d.setStk p v = (d.writeStk p v).firePart p 2 := if_neg h

@[simp] theorem Device.writeStk_strokes (d : Device) (p v : Nat) : (d.writeStk p v).strokes = d.strokes := by
  simp [Device.writeStk, apply_ite Device.strokes]

@[simp] theorem Device.setStk_strokes (d : Device) (p v : Nat) : (d.setStk p v).strokes = d.strokes := by
  by_cases hv : d.stkState p = v
  · rw [Device.setStk_same hv]
  · rw [Device.setStk_moves hv, Device.firePart_strokes, Device.writeStk_strokes]

section SetStk

variable {d : Device} (h : d.Sound) (p : Nat)
include h

theorem Device.writeStk_sound (v : Nat) : (d.writeStk p v).Sound := by
  have hset := Device.setFlag_sound (Device.setFld_sound h (Reg.STK_STATUS p) 31 30 v) (Reg.STK_CTL p) 2 false
  exact Device.ite_sound (Device.setFlag_sound hset _ _ _) hset

/-- Beside its STATE a change writes STK_CTL alone. -/
theorem Device.reg_writeStk {j : Nat} (v : Nat) (hj : j ≠ Reg.STK_CTL p) :
    (d.writeStk p v).reg j = (d.setFld (Reg.STK_STATUS p) 31 30 v).reg j := by
  have hstate := Device.setFld_sound h (Reg.STK_STATUS p) 31 30 v
  have hstop := Device.reg_setFld_ne hstate 2 2 0 hj
  unfold Device.writeStk
  dsimp only
  split
  · exact (Device.reg_setFld_ne (Device.setFlag_sound hstate _ _ _) 3 3 0 hj).trans hstop
  · exact hstop

theorem Device.stkState_setStk {v : Nat} (hv : v < 4) : (d.setStk p v).stkState p = v := by
  by_cases hsame : d.stkState p = v
  · rwa [Device.setStk_same hsame]
  · have hfired := Device.reg_firePart_stk (p := p) (j := 2) (k := Reg.STK_STATUS p) (Device.writeStk_sound h p v) (by decide)
      (Nat.le_add_right ..)
    have hwritten := Device.reg_writeStk h p (j := Reg.STK_STATUS p) v (by simp [Reg.STK_STATUS, Reg.STK_CTL])
    rw [Device.setStk_moves hsame, Device.stkState, Device.fld_congr (hfired.trans hwritten)]
    exact (Device.fld_setFld_same h _ (by decide) (by decide) v).trans (Nat.mod_eq_of_lt hv)

theorem Device.reg_setStk_ne {j : Nat} (v : Nat) (hblock : Reg.STK p ≤ j) (hctl : j ≠ Reg.STK_CTL p) (hstatus : j ≠ Reg.STK_STATUS p) :
    (d.setStk p v).reg j = d.reg j := by
  by_cases hsame : d.stkState p = v
  · rw [Device.setStk_same hsame]
  · rw [Device.setStk_moves hsame, Device.reg_firePart_stk (Device.writeStk_sound h p v) (by decide) hblock,
      Device.reg_writeStk h p v hctl, Device.reg_setFld_ne h _ _ _ hstatus]

end SetStk

/-! ## The schedule beside its registers -/

theorem Cells.find?_put_same {α : Type} (key : Nat) (v : α) : ∀ m : Cells α, Cells.find? (Cells.put m key v) key = some v
  | [] => by simp [Cells.put, Cells.find?]
  | (k, w) :: rest => by
    unfold Cells.put
    split
    · simp [Cells.find?]
    · split
      · simp [Cells.find?]
      · simp [Cells.find?, *, Cells.find?_put_same key v rest]

@[simp] theorem Device.stroke_setStroke_same (d : Device) (p : Nat) (k : Stroke) : (d.setStroke p k).stroke p = k := by
  simp [Device.stroke, Device.setStroke, Cells.find?_put_same]

theorem Device.stroke_setStk (d : Device) (p v q : Nat) : (d.setStk p v).stroke q = d.stroke q := by
  rw [Device.stroke, Device.setStk_strokes, Device.stroke]

/-! ## ARM (R349, R350) -/

theorem Device.stkArm_of_busy {d : Device} {p : Nat} (h : d.stkState p ≠ 0) : d.stkArm p = d.stkErr p St.BAD_STATE 0x100 :=
  if_pos (.inr (.inr (.inr h)))

/-- The stroke, counted from FIRST, that ARM chooses for schedule s (R350). -/
def Device.firstStroke (d : Device) (p : Nat) (s : Cells Word) : Nat :=
  ceilDiv (d.now + 10000 * nsUnit - d.startTime p) (schedPeriod s * nsUnit)

/-- The device with the shadow schedule of partition p active, from the first stroke on that ARM chooses. -/
def Device.arm (d : Device) (p : Nat) : Device :=
  let k := d.exitIdle.firstStroke p (d.shadow p)
  (d.exitIdle.setStroke p { d.exitIdle.stroke p with
    active := d.shadow p, next := k, cur := k, begun := false, fired := [], ckpt := none }).setStk p 1

section Arm

variable {d : Device} {p : Nat} (hstandby : d.standby = false) (hhub : d.noImage 1 = false) (hvector : d.noImage 3 = false)
  (hfree : d.stkState p = 0)
include hstandby hhub hvector hfree

theorem Device.stkArm_of_failed {st i : Nat} (hcheck : d.schedCheck p (d.shadow p) = some (st, i)) : d.stkArm p = d.stkErr p st i := by
  simp [Device.stkArm, hstandby, hhub, hvector, hfree, hcheck]

theorem Device.stkArm_of_passed (hcheck : d.schedCheck p (d.shadow p) = none) : d.stkArm p = d.arm p := by
  simp [Device.stkArm, hstandby, hhub, hvector, hfree, hcheck, Device.arm, Device.firstStroke]

end Arm

theorem Device.active_arm (d : Device) (p : Nat) : ((d.arm p).stroke p).active = d.shadow p := by
  rw [Device.arm, Device.stroke_setStk, Device.stroke_setStroke_same]

section Armed

variable {d : Device} (h : d.Sound) (p : Nat)
include h

/-- Leaving Idle shows neither in device time nor in the registers of a schedule. -/
theorem Device.firstStroke_exitIdle (s : Cells Word) : d.exitIdle.firstStroke p s = d.firstStroke p s := by
  have hreg {o : Nat} : d.exitIdle.reg (Reg.STK p + o) = d.reg (Reg.STK p + o) :=
    Device.reg_exitIdle_stk h (Nat.le_add_right ..)
  have hnow : d.exitIdle.now = d.now := Device.now_eq_of_clock d.exitIdle_clock
  simp only [Device.firstStroke, Device.startTime, hnow, Reg.STK_START_0, Reg.STK_START_1, Reg.STK_START_2, hreg]

theorem Device.stkState_arm : (d.arm p).stkState p = 1 := Device.stkState_setStk (Device.exitIdle_sound h).upd p (by decide)

theorem Device.next_arm : ((d.arm p).stroke p).next = d.firstStroke p (d.shadow p) := by
  rw [Device.arm, Device.stroke_setStk, Device.stroke_setStroke_same, Device.firstStroke_exitIdle h]

theorem Device.strokeAt_arm (k : Nat) : (d.arm p).strokeAt p k = ((d.reg (Reg.STK_FIRST p)).toNat + k) % 2 ^ 32 := by
  have hblock : Reg.STK p ≤ Reg.STK_FIRST p := Nat.le_add_right ..
  have hfirst : (d.arm p).reg (Reg.STK_FIRST p) = d.exitIdle.reg (Reg.STK_FIRST p) :=
    Device.reg_setStk_ne (Device.exitIdle_sound h).upd p 1 hblock (by simp [Reg.STK_FIRST, Reg.STK_CTL])
      (by simp [Reg.STK_FIRST, Reg.STK_STATUS])
  exact congrArg (fun w : Word => (w.toNat + k) % 2 ^ 32) (hfirst.trans (Device.reg_exitIdle_stk h hblock))

end Armed

/-! ## The first stroke -/

/-- A schedule that passes its checks has a period of 100 µs at least (R348). -/
theorem Device.period_of_checked {d : Device} {p : Nat} {s : Cells Word} (h : d.schedCheck p s = none) : 100000 ≤ schedPeriod s := by
  unfold Device.schedCheck at h
  dsimp only at h
  split at h
  · cases h
  · omega

theorem ceilDiv_le_iff {a b k : Nat} (hb : 0 < b) : ceilDiv a b ≤ k ↔ a ≤ k * b := by
  rw [ceilDiv, ← Nat.lt_succ_iff, Nat.div_lt_iff_lt_mul hb, Nat.succ_mul]
  omega

/-- The first stroke is the smallest that begins at least 10 µs from now (R350). -/
theorem Device.firstStroke_le_iff {d : Device} {p : Nat} {s : Cells Word} (h : d.schedCheck p s = none) (k : Nat) :
    d.firstStroke p s ≤ k ↔ d.now + 10000 * nsUnit ≤ d.startTime p + k * (schedPeriod s * nsUnit) := by
  have hperiod : 0 < schedPeriod s * nsUnit := Nat.mul_pos (Nat.lt_of_lt_of_le (by decide) (Device.period_of_checked h)) (by decide)
  rw [Device.firstStroke, ceilDiv_le_iff hperiod, Nat.sub_le_iff_le_add']

/-- Settles O35, by the smallest stroke that begins late enough (`Device.firstStroke_le_iff`). -/
theorem armChoosesFirstStroke : Obligations.ArmChoosesFirstStroke := by
  intro s p hd d hstandby hhub hvector hfree hcheck
  have harm : d.stkArm p = d.arm p := Device.stkArm_of_passed hstandby hhub hvector hfree hcheck
  refine ⟨d.arm p, State.Does.of_eq (d := d.stkArm p) rfl harm, Device.stkState_arm hd p, d.active_arm p, ?_⟩
  intro start k
  have hk : k = d.firstStroke p (d.shadow p) := Device.next_arm hd p
  refine ⟨(Device.firstStroke_le_iff hcheck k).1 (Nat.le_of_eq hk.symm), fun j hj => ?_, Device.strokeAt_arm hd p k⟩
  exact Nat.lt_of_not_le fun hearly => Nat.not_lt.2 ((Device.firstStroke_le_iff hcheck j).2 hearly) (hk ▸ hj)

end Machine
end Sys2Proof
end

section
/-!
The controls of a schedule, its phase actions and its stroke starts (R347-R352, R358, R367, R545).
-/
namespace Sys2Proof
namespace Machine

/-! ## Controls (R349, R351, R352) -/

section Controls

variable {d : Device} {p : Nat}

theorem Device.stkStop_of_free (h : d.stkState p = 0) : d.stkStop p = d := by simp [Device.stkStop, h]

theorem Device.stkStop_of_armed (h : d.stkState p = 1) : d.stkStop p = d.setStk p 0 := by simp [Device.stkStop, h]

theorem Device.stkStop_of_running (h : d.stkState p = 2) : d.stkStop p = d.setStk p 3 := by simp [Device.stkStop, h]

theorem Device.stkCommit_of_scheduled (h : d.stkState p = 1 ∨ d.stkState p = 2) :
    d.stkCommit p = d.setFlag (Reg.STK_CTL p) 3 true := if_pos h

theorem Device.stkCommit_of_unscheduled (h : d.stkState p = 0 ∨ d.stkState p = 3) : d.stkCommit p = d := if_neg (by omega)

theorem Device.stkStartWrite_of_free (h : d.stkState p = 0) (i : Nat) (v : Word) :
    d.stkStartWrite p i v = d.setReg (Reg.STK_START_0 p + 4 * i) v := if_pos h

theorem Device.stkStartWrite_of_busy (h : d.stkState p ≠ 0) (i : Nat) (v : Word) :
    d.stkStartWrite p i v = d.stkErr p St.BAD_STATE 0x100 := if_neg h

end Controls

/-! ## Phase actions (R347) -/

/-- Entry i of the stroke in progress may fire: the stroke has begun, its sluice is open, and the entry has not fired. -/
def Device.PhaseDue (d : Device) (p i : Nat) : Prop :=
  (d.stkState p = 2 ∨ d.stkState p = 3) ∧ (d.stroke p).begun = true ∧ d.closed p = false ∧ i < schedNent (d.stroke p).active ∧
    i ∉ (d.stroke p).fired

/-- The device at the moment of entry i, the entry noted as fired and counted. -/
def Device.firePhase (d : Device) (p i : Nat) : Device :=
  ((d.reach (d.startOf p (d.stroke p).cur + (schedEntry (d.stroke p).active i).offset * nsUnit)).setStroke p
    { d.stroke p with fired := (d.stroke p).fired ++ [i] }).bump (Reg.STK_FIRED p) 1

section Phase

variable {d : Device} {p i : Nat} (hdue : d.PhaseDue p i)
include hdue

/-- An entry that may fire does what its action says, at its moment. -/
theorem Device.phase_of_due {action : Nat} (haction : (schedEntry (d.stroke p).active i).action = action)
    (f : Device → PhaseEntry → Device) : d.phase p i action f = f (d.firePhase p i) (schedEntry (d.stroke p).active i) := by
  obtain ⟨hstate, hbegun, hopen, hlisted, hfresh⟩ := hdue
  refine if_pos ⟨hstate, hbegun, ?_, hlisted, haction, ?_⟩
  · rw [hopen]; rfl
  · simpa using hfresh

theorem Device.bucketPhase_of_due {action : Nat} (haction : (schedEntry (d.stroke p).active i).action = action)
    (f : Device → Nat → Device) :
    d.bucketPhase p i action f =
      if (schedEntry (d.stroke p).active i).arg % 0x10000 ≤ 255 then f (d.firePhase p i) ((schedEntry (d.stroke p).active i).arg % 0x10000)
      else (d.firePhase p i).phaseFault p i St.BAD_FIELD 7 action := by
  rw [Device.bucketPhase, Device.phase_of_due hdue haction]
  simp only [← Nat.not_le, ite_not]

end Phase

/-! ## Stroke starts (R351, R358) -/

/-- A stroke begins where the partition is drained and empty and no sparing move holds it, and is skipped otherwise. -/
theorem Device.strokeBegin_eq (d : Device) (p : Nat) : d.strokeBegin p =
    let k := d.stroke p
    if d.flag (Reg.STK_STATUS p) 28 = true ∧ d.partEmpty p = true ∧ k.blocked = false then
      (d.setStroke p { k with fired := [], ckpt := none, blocked := false, begun := true }).bump64 (Reg.STK_STROKES_LO p) 1
    else
      (((d.setStroke p { k with fired := [], ckpt := none, blocked := false, begun := false }).bump (Reg.STK_SKIPPED p) 1).raise
        { status := St.STROKE_SKIPPED, source := 7, part := p, index := 0x100, stroke := d.strokeOf p }).firePart p 1 := by
  simp only [Device.strokeBegin, Bool.and_eq_true, Bool.not_eq_true', and_assoc]

/-- The device at T_start of the next stroke: its number taken, a pending COMMIT applied, the sluice open (R349, R351). -/
def Device.nextStroke (d : Device) (p : Nat) : Device :=
  let k := d.stroke p
  let e := (d.reach (d.startOf p k.next)).setReg (Reg.STK_NUM p) (BitVec.ofNat 32 (d.strokeAt p k.next))
  (((e.setStroke p { k with cur := k.next, next := k.next + 1 }).setStk p 2).applyCommit p).setFlag (Reg.STK_STATUS p) 29 false

/-- A stroke start of an ARMED schedule, or of a RUNNING one whose sluice has closed, goes to each sequencer, and the stroke begins or is
skipped. -/
theorem Device.strokeStart_of_due {d : Device} {p : Nat} (h : d.stkState p = 1 ∨ (d.stkState p = 2 ∧ d.closed p = true)) :
    d.strokeStart p = ((((d.nextStroke p).redStrokeStart p).aqStrokeStart p).updStrokeStart p).strokeBegin p := if_pos h

/-- Settles O36: the controls by the schedule's state, each phase action as what an entry that is due does (`Device.phase_of_due`), and a
stroke start by whether the stroke begins (`Device.strokeBegin_eq`). That rows of a moment move device time up to it is log 8; the refusals,
with the source they fire, are log 61's, and that an entry fires once between its moment and the sluice log 62's. -/
theorem schedulesAndTheirStrokes : Obligations.SchedulesAndTheirStrokes := by
  refine ⟨fun s p word v => ?controls, fun s p i => ?phases, fun s p hdue => ?start⟩
  case controls =>
    intro d refusal
    have harm : s.Does (.stkArm p) (d.stkArm p) := rfl
    have hstop : s.Does (.stkStop p) (d.stkStop p) := rfl
    have hcommit : s.Does (.stkCommit p) (d.stkCommit p) := rfl
    have hstart : s.Does (.stkStartWrite p word v) (d.stkStartWrite p word v) := rfl
    exact ⟨fun hbusy => harm.of_eq (Device.stkArm_of_busy hbusy),
      fun hstandby hhub hvector hfree st i hcheck => harm.of_eq (Device.stkArm_of_failed hstandby hhub hvector hfree hcheck),
      fun hfree => hstop.of_eq (Device.stkStop_of_free hfree),
      fun harmed => hstop.of_eq (Device.stkStop_of_armed harmed),
      fun hrunning => hstop.of_eq (Device.stkStop_of_running hrunning),
      fun hscheduled => hcommit.of_eq (Device.stkCommit_of_scheduled hscheduled),
      fun hunscheduled => hcommit.of_eq (Device.stkCommit_of_unscheduled hunscheduled),
      fun hfree => hstart.of_eq (Device.stkStartWrite_of_free hfree word v),
      fun hbusy => hstart.of_eq (Device.stkStartWrite_of_busy hbusy word v)⟩
  case phases =>
    intro d k e d1 cores w record hstate hbegun hopen hlisted hfresh
    have hdue : d.PhaseDue p i := ⟨hstate, hbegun, hopen, hlisted, hfresh⟩
    exact ⟨fun ha => State.Does.of_eq (d := d.gangStart p i) rfl (Device.phase_of_due hdue ha _),
      fun ha => State.Does.of_eq (d := d.replayPhase p i) rfl (Device.phase_of_due hdue ha _),
      fun ha => State.Does.of_eq (d := d.bucketPhase p i 3 _) rfl (Device.bucketPhase_of_due hdue ha fun d w => d.windowOpen p w),
      fun ha => State.Does.of_eq (d := d.bucketPhase p i 4 _) rfl (Device.bucketPhase_of_due hdue ha fun d w => d.windowClose p w),
      fun ha => State.Does.of_eq (d := d.ckptPhase p i) rfl (Device.phase_of_due hdue ha _),
      fun ha => State.Does.of_eq (d := d.eventPhase p i) rfl (Device.phase_of_due hdue ha _)⟩
  case start =>
    exact State.Does.of_eq (d := s.dev.strokeStart p) rfl ((Device.strokeStart_of_due hdue).trans (Device.strokeBegin_eq _ p))

end Machine
end Sys2Proof
end

section
/-!
Checkpoint slices (R355, R473, R475, R478): which request starts a slice, the page that a write copies first, and how the last copies end it.
-/
namespace Sys2Proof
namespace Machine

/-! ## Held pages

No operation of a memory controller but the slice's own copying changes which pages are held. -/

@[simp] theorem Device.askRetire_heldPages (d : Device) (key : Nat) : (d.askRetire key).heldPages = d.heldPages := by
  simp [Device.askRetire, apply_ite Device.heldPages]

@[simp] theorem Device.memCe_heldPages (d : Device) (a symbols : Nat) : (d.memCe a symbols).heldPages = d.heldPages := by
  simp [Device.memCe, apply_ite Device.heldPages]

@[simp] theorem Device.memUe_heldPages (d : Device) (a : Nat) : (d.memUe a).heldPages = d.heldPages := by
  simp [Device.memUe, apply_ite Device.heldPages]

@[simp] theorem Device.readCodewords_heldPages (d : Device) (cw n : Nat) : (d.readCodewords cw n).1.heldPages = d.heldPages := by
  induction n generalizing d cw with
  | zero => rfl
  | succ n ih =>
    unfold Device.readCodewords
    dsimp only
    split
    · simp [ih]
    · split <;> simp [ih]

@[simp] theorem Device.copyPage_heldPages (d : Device) (p q : Nat) : (d.copyPage p q).heldPages = d.heldPages := by
  simp [Device.copyPage, apply_ite Device.heldPages]

/-- A write to a page that no slice holds copies nothing. -/
theorem Device.copyAhead_of_notHeld {d : Device} {page : Nat} (h : d.heldPages.find? (fun h => h.page == page) = none) :
    ∀ n, d.copyAhead page n = d
  | 0 => rfl
  | n + 1 => by simp only [Device.copyAhead, h]

theorem Device.copyAhead_of_noneHeld {d : Device} (h : d.heldPages = []) (page n : Nat) : d.copyAhead page n = d :=
  Device.copyAhead_of_notHeld (by rw [h, List.find?_nil]) n

/-- A write to the one page held copies it first, and then no page is held (R475). -/
theorem Device.copyAhead_of_oneHeld {d : Device} {h : HeldPage} (hheld : d.heldPages = [h]) (n : Nat) :
    d.copyAhead h.page (n + 1) =
      (({ d with heldPages := [] }.copyPage h.page h.dst).bump (Reg.CIS_CKPT_COW h.part) 1).bump64 (Reg.CIS_CKPT_PAGES_LO h.part) 1 := by
  have hfind : d.heldPages.find? (fun x => x.page == h.page) = some h := by simp [hheld]
  have hrest : d.heldPages.filter (fun x => x != h) = [] := by simp [hheld]
  simp only [Device.copyAhead, hfind, hrest]
  rw [Device.copyAhead_of_noneHeld (d := { d with heldPages := [] }) rfl, Device.copyAhead_of_noneHeld (by simp)]

/-! ## The start of a slice (R355, R473) -/

section Start

variable {d : Device} {p : Nat} (hstandby : d.standby = false)
include hstandby

/-- In the drain the schedule's request is missed while a slice is at work, and starts one otherwise. -/
theorem Device.ckptStart_of_scheduled {i : Nat} (hreq : (d.stroke p).ckpt = some i) (hdrained : d.drained p = true) :
    d.ckptStart p =
      let e := d.setStroke p { d.stroke p with ckpt := none }
      if (Cells.find? d.svc.ckpt p).isSome then e.sliceBusy p i else (e.hiddenCmd p i).1.sliceStart p i (e.hiddenCmd p i).2 := by
  simp only [Device.ckptStart, hstandby, hreq, hdrained, Bool.false_eq_true, if_false, Bool.not_true]

/-- Where the schedule asks for none, the oldest waiting request of the host starts a slice. -/
theorem Device.ckptStart_of_host {id : Nat} {c : ZCmd} (hreq : (d.stroke p).ckpt = none) (hidle : (Cells.find? d.svc.ckpt p).isSome = false)
    (hturn : d.stkState p = 0 ∨ d.drained p = true) (hwaiting : d.waitingSlice p = some (id, c)) :
    d.ckptStart p =
      ({ d with zn := { d.zn with cmds := Cells.put d.zn.cmds id { c with state := .running, ran := true } } }).sliceStart p c.plan id := by
  have hgo : ¬ ((Cells.find? d.svc.ckpt p).isSome = true ∨ (!decide (d.stkState p = 0 ∨ d.drained p = true)) = true) := by
    simp [hidle, hturn]
  simp only [Device.ckptStart, hstandby, hreq, hwaiting, Bool.false_eq_true, if_false]
  exact if_neg hgo

end Start

theorem Device.sliceResult_of_error {st : Nat} (hst : st ≠ 0) (d : Device) (p owner : Nat) :
    d.sliceResult p owner st 0 =
      (((d.setFlag (Reg.CIS_CKPT_STATUS p) 29 true).setFld (Reg.CIS_CKPT_STATUS p) 15 0 st).firePart p 6).complete owner st 0 := by
  have hbad : ¬ st = St.OK := hst
  simp only [Device.sliceResult, if_neg hbad]

/-- A slice whose plan fails its checks ends with their status. -/
theorem Device.sliceStart_of_badPlan {d e : Device} {p i st : Nat} (owner : Nat)
    (h : (d.setFld (Reg.CIS_CKPT_STATUS p) 23 16 i).planCheck p i .read .write = (e, .error st)) :
    d.sliceStart p i owner = e.sliceResult p owner st 0 := by
  simp only [Device.sliceStart, h]

/-! ## The last copies (R478) -/

section Validate

variable {d : Device} {p : Nat} {x : Slice} (hslice : Cells.find? d.svc.ckpt p = some x) (hworks : d.opWorks x.owner = true)
  (hstandby : d.standby = false) (hgood : Cells.find? d.aq.failed p = none)
include hslice hworks hstandby hgood

/-- A slice that has sent its pages waits for the last WRITE. -/
theorem Device.ckptValidate_of_sent (hsent : x.sent = true) :
    d.ckptValidate p = if d.awaiting p then d else d.sliceValid p x := by
  simp [Device.ckptValidate, hslice, hworks, hstandby, hgood, hsent]

theorem Device.ckptValidate_of_home (hsent : x.sent = false) (hmirror : x.mirror = none) :
    d.ckptValidate p = (d.copyHeld p d.heldPages.length).sliceValid p x := by
  simp [Device.ckptValidate, hslice, hworks, hstandby, hgood, hsent, hmirror]

theorem Device.ckptValidate_of_mirror (hsent : x.sent = false) {f a : Nat} (hmirror : x.mirror = some (f, a)) :
    d.ckptValidate p = (d.copyHeld p d.heldPages.length).mirrorSend p x f a := by
  simp [Device.ckptValidate, hslice, hworks, hstandby, hgood, hsent, hmirror]

end Validate

/-- Settles O45: the start of a slice by who asks for it, the copy ahead by which pages are held, and the last copies by the mirror. The
hidden command of a slice and the schedule's turn before the host's are log 64's, that a row with nothing to do changes nothing log 7. -/
theorem checkpointSlicesRun : Obligations.CheckpointSlicesRun := by
  intro s p page d k busy result
  have hstart : s.Does (.ckptSliceStart p) (d.ckptStart p) := rfl
  have hahead : s.Does (.ckptCopyAhead page) (d.copyAhead page (d.heldPages.length + 1)) := rfl
  have hvalidate : s.Does (.ckptValidate p) (d.ckptValidate p) := rfl
  refine ⟨fun i hstandby hreq hdrained => ⟨fun hbusy => ?missed, fun hidle => ?scheduled⟩, fun id c hstandby hreq hidle hturn hwaiting => ?host,
    fun i owner st e hplan hst => ?badPlan, fun hnone => ?notHeld, fun h hheld hpage => ?held,
    fun x hslice hworks hstandby hgood => ⟨fun hsent hmirror => ?home, fun f a hsent hmirror => ?mirror, fun hsent hdone => ?complete,
      fun hsent hwaits => ?waits⟩⟩
  case missed => exact hstart.of_eq ((Device.ckptStart_of_scheduled hstandby hreq hdrained).trans (if_pos hbusy))
  case scheduled => exact hstart.of_eq ((Device.ckptStart_of_scheduled hstandby hreq hdrained).trans (if_neg (Bool.eq_false_iff.1 hidle)))
  case host => exact hstart.of_eq (Device.ckptStart_of_host hstandby hreq hidle hturn hwaiting)
  case badPlan => exact (Device.sliceStart_of_badPlan owner hplan).trans (Device.sliceResult_of_error hst e p owner)
  case notHeld => exact hahead.of_eq (Device.copyAhead_of_notHeld hnone _)
  case held =>
    subst hpage
    exact hahead.of_eq (Device.copyAhead_of_oneHeld hheld _)
  case home => exact hvalidate.of_eq (Device.ckptValidate_of_home hslice hworks hstandby hgood hsent hmirror)
  case mirror => exact hvalidate.of_eq (Device.ckptValidate_of_mirror hslice hworks hstandby hgood hsent hmirror)
  case complete =>
    exact hvalidate.of_eq ((Device.ckptValidate_of_sent hslice hworks hstandby hgood hsent).trans (if_neg (Bool.eq_false_iff.1 hdone)))
  case waits => exact hvalidate.of_eq ((Device.ckptValidate_of_sent hslice hworks hstandby hgood hsent).trans (if_pos hwaits))

end Machine
end Sys2Proof
end

section
/-!
Reduction messages (R376, R383, R388, R389, R393): which message arrives, whom it reaches, and what a slot and the owner make of it.
-/
namespace Sys2Proof
namespace Machine

/-! ## Delivery (R383, R384) -/

/-- A message that may arrive does so, by the row of its kind. -/
theorem State.does_redArrive {s : State} {j : Nat} {m : RedMsg} (hm : s.dev.red.net[j]? = some m)
    (hmay : RedMsg.mayArrive s.dev.red.net j = true) :
    s.Does (if m.piece then .pieceArrival j else .settleRecord j)
      (({ s.dev with red := { s.dev.red with net := s.dev.red.net.eraseIdx j } } : Device).redArrive m.part m.dest m.piece m.bytes) := by
  have hrow : s.Does (if m.piece then .pieceArrival j else .settleRecord j) (s.dev.redDeliver j m.piece) := by
    cases m.piece
    · rfl
    · rfl
  exact hrow.of_eq (by simp [Device.redDeliver, hm, hmay])

theorem Device.redArrive_of_older {d : Device} {p : Nat} {bs : List Byte} (hold : strokeOlder (leAt bs 4 4) (d.strokeOf p) = true)
    (dest : Nat) (piece : Bool) : d.redArrive p dest piece bs = d.bump (Reg.RED_STALE p) 1 := if_pos hold

/-- A message of no open bucket is discarded and counted. -/
theorem Device.redArrive_of_noContext {d : Device} {p : Nat} {bs : List Byte} (hcur : strokeOlder (leAt bs 4 4) (d.strokeOf p) = false)
    (hnone : ¬ (d.flag (Reg.RED_CTL p) 0 = true ∧ d.standby = false) ∨ d.redFind p (leAt bs 0 2) (leAt bs 4 4) = none)
    (dest : Nat) (piece : Bool) : d.redArrive p dest piece bs = d.bump (Reg.RED_NOCTX p) 1 := by
  rw [Device.redArrive, if_neg (Bool.eq_false_iff.1 hcur)]
  rcases hnone with hshut | hnone
  · exact if_pos (by simpa [← Bool.not_eq_false] using hshut)
  · simp only [hnone, ite_self]

/-- The message finds the i-th bucket open, b. -/
structure Device.Reaches (d : Device) (p : Nat) (bs : List Byte) (i : Nat) (b : Bucket) : Prop where
  current : strokeOlder (leAt bs 4 4) (d.strokeOf p) = false
  enabled : d.flag (Reg.RED_CTL p) 0 = true
  active : d.standby = false
  found : d.redFind p (leAt bs 0 2) (leAt bs 4 4) = some i
  bucket : d.bucket i = some b

/-- The header of a piece, and its length, are those of a piece of the bucket. -/
def Bucket.fits (b : Bucket) (bs : List Byte) : Bool :=
  let h := PieceHdr.ofBytes bs
  decide (h.piece < b.npiece) && h.xfmt == b.xfmt && h.nelem == b.nelem h.piece && (h.absent || bs.length == 32 + payloadBytes b.xfmt h.nelem)

theorem Bucket.fits_iff {b : Bucket} {bs : List Byte} :
    b.fits bs = true ↔
      let h := PieceHdr.ofBytes bs
      h.piece < b.npiece ∧ h.xfmt = b.xfmt ∧ h.nelem = b.nelem h.piece ∧
        (h.absent = true ∨ bs.length = 32 + payloadBytes b.xfmt h.nelem) := by
  simp [Bucket.fits, and_assoc]

section Reaches

variable {d : Device} {p i : Nat} {bs : List Byte} {b : Bucket} (h : d.Reaches p bs i b)
include h

/-- A piece that does not fit its bucket counts as one without a context (log 49). -/
theorem Device.redArrive_of_misfit (hmisfit : b.fits bs = false) (dest : Nat) :
    d.redArrive p dest true bs = d.bump (Reg.RED_NOCTX p) 1 := by
  simp only [Bucket.fits] at hmisfit
  simp [Device.redArrive, h.current, h.enabled, h.active, h.found, h.bucket, hmisfit]

theorem Device.redArrive_ownerPiece (hfits : b.fits bs = true) {dest : Nat} (hdest : destOwner dest = true) {o : RedOwner}
    (ho : b.owner = some o) : d.redArrive p dest true bs = (d.ownerTake i bs).redFree := by
  simp only [Bucket.fits] at hfits
  simp [Device.redArrive, h.current, h.enabled, h.active, h.found, h.bucket, hfits, hdest, ho]

theorem Device.redArrive_ownerSettle {dest : Nat} (hdest : destOwner dest = true) {o : RedOwner} (ho : b.owner = some o) :
    d.redArrive p dest false bs = (d.ownerSettle i (leAt bs 8 4) (leAt bs 12 4)).redFree := by
  simp [Device.redArrive, h.current, h.enabled, h.active, h.found, h.bucket, hdest, ho]

variable {dest k : Nat} (hdest : destOwner dest = false) (hk : b.slots.findIdx (fun x => x.num == destSlot dest) = k) {x : RedSlot}
  (hx : b.slots[k]? = some x)
include hdest hk hx

theorem Device.redArrive_slotPiece (hfits : b.fits bs = true) :
    d.redArrive p dest true bs = (d.slotTake i k (destRight dest) bs).redFree := by
  have hlt := (List.getElem?_eq_some_iff.1 hx).1
  simp only [Bucket.fits] at hfits
  simp [Device.redArrive, h.current, h.enabled, h.active, h.found, h.bucket, hfits, hdest, hk, hlt]

/-- A settle record goes on to the parent of its slot (R389). -/
theorem Device.redArrive_slotSettle (hup : rankDown x.parent = false) :
    d.redArrive p dest false bs = d.redSend b (0x10000 + x.num) x.parent x.pslot false bs := by
  have hlt := (List.getElem?_eq_some_iff.1 hx).1
  simp only [Device.redArrive, h.current, h.enabled, h.active, h.found, h.bucket, hdest, hk, hlt, hx, hup, Bool.false_eq_true, if_false,
    if_true, Bool.false_and, Bool.not_true, Bool.or_false]

end Reaches

/-! ## A side of a piece at a slot (R376, R383, R388) -/

section SlotTake

variable {d : Device} {i k : Nat} {b : Bucket} (hb : d.bucket i = some b) {x : RedSlot} (hx : b.slots[k]? = some x)
  {right : Bool} {bs : List Byte} {h : PieceHdr} (hh : PieceHdr.ofBytes bs = h)
include hb hx hh

/-- The first side of a piece waits, in the slot's buffer where it is present. -/
theorem Device.slotTake_firstSide (hnew : x.side right h.piece = none) (hother : x.side (!right) h.piece = none) :
    d.slotTake i k right bs =
      (if h.absent then d else d.redPut b (x.place b.xfmt right h.piece) bs).setSlot i k
        (x.setSide right h.piece (if h.absent then .absent else .present (bs.take 32))) := by
  simp only [Device.slotTake, hb, hx, hh, hnew, hother]

/-- The second side resolves the piece; one of row statistics is buffered all the same (R379). -/
theorem Device.slotTake_secondSide (hnew : x.side right h.piece = none) (hother : (x.side (!right) h.piece).isSome = true) :
    d.slotTake i k right bs =
      let kept := if h.absent then d else d.redPut b (x.place b.xfmt right h.piece) bs
      let x' := x.setSide right h.piece (if h.absent then .absent else .present (bs.take 32))
      let x' := { x' with sent := x'.sent + 1 }
      ((if b.xfmt = xStat then kept else d).setSlot i k x').slotResolve b x' h.piece (if h.absent then none else some (right, bs.drop 32)) := by
  obtain ⟨y, hy⟩ := Option.isSome_iff_exists.1 hother
  simp only [Device.slotTake, hb, hx, hh, hnew, hy]
  cases h.absent with
  | true => simp
  | false => simp

theorem Device.slotTake_of_missing (hlate : x.side right h.piece = some .missing) :
    d.slotTake i k right bs = d.bump (Reg.RED_LATE b.part) 1 := by
  simp only [Device.slotTake, hb, hx, hh, hlate]

theorem Device.slotTake_of_taken {y : Side} (htaken : x.side right h.piece = some y) (hy : y ≠ .missing) :
    d.slotTake i k right bs = (d.bump (Reg.RED_DUP b.part) 1).redFault b.part b.stroke b.tag St.PLAN_CONFLICT x.num 0 := by
  cases y with
  | missing => exact absurd rfl hy
  | absent => simp only [Device.slotTake, hb, hx, hh, htaken]
  | present hdr => simp only [Device.slotTake, hb, hx, hh, htaken]

end SlotTake

/-! ## The owner (R383, R389, R393, R395) -/

section Owner

variable {d : Device} {i : Nat} {b : Bucket} (hb : d.bucket i = some b) {o : RedOwner} (ho : b.owner = some o)
include hb ho

theorem Device.ownerTake_of_done (hdone : o.done = true) (bs : List Byte) : d.ownerTake i bs = d.bump (Reg.RED_LATE b.part) 1 := by
  simp only [Device.ownerTake, hb, ho, hdone, if_true]

theorem Device.ownerTake_of_taken (hopen : o.done = false) {bs : List Byte}
    (htaken : (Cells.find? o.got (PieceHdr.ofBytes bs).piece).isSome = true) :
    d.ownerTake i bs = (d.bump (Reg.RED_DUP b.part) 1).redFault b.part b.stroke b.tag St.PLAN_CONFLICT 0xFFFF 0 := by
  simp only [Device.ownerTake, hb, ho, hopen, htaken, Bool.false_eq_true, if_false, if_true]

/-- The first of a piece is written, and the last piece completes the bucket. -/
theorem Device.ownerTake_first (hopen : o.done = false) {bs : List Byte} (hnew : Cells.find? o.got (PieceHdr.ofBytes bs).piece = none) :
    d.ownerTake i bs =
      let h := PieceHdr.ofBytes bs
      let o' := { o with got := Cells.put o.got h.piece (bs.take 32) }
      let e := (d.ownerStore b o' h bs).setBucket i { b with owner := some o' }
      if o'.got.length ≥ b.npiece then e.ownerComplete i false else e := by
  simp only [Device.ownerTake, hb, ho, hopen, hnew, Option.isSome_none, Bool.false_eq_true, if_false]

theorem Device.ownerSettle_of_pending (hopen : o.done = false) (lo hi : Nat) :
    d.ownerSettle i lo hi =
      let o' := { o with mask := clearBits o.mask lo (min hi b.nleaf) }
      (d.ownerMask b o').setBucket i { b with owner := some o' } := by
  simp only [Device.ownerSettle, hb, ho, hopen, Bool.false_eq_true, if_false]

end Owner

/-- Settles O38: a message arrives at the bucket it reaches (`Device.Reaches`), and there at a slot (`Device.slotTake`) or the owner
(`Device.ownerTake`, `Device.ownerSettle`). That a piece whose header does not fit counts in RED_NOCTX is log 49's. -/
theorem reductionMessagesArrive : Obligations.ReductionMessagesArrive := by
  intro s j m hm hmay d row stroke open'
  have harrive : s.Does row (d.redArrive m.part m.dest m.piece m.bytes) := State.does_redArrive hm hmay
  refine ⟨fun hold => harrive.of_eq (Device.redArrive_of_older hold ..),
    fun hcur hnone => harrive.of_eq (Device.redArrive_of_noContext hcur hnone ..), ?reached⟩
  intro i b hcur hopen hfind hb h fits k right
  obtain ⟨hen, hactive⟩ := hopen
  have hreach : d.Reaches m.part m.bytes i b := ⟨hcur, hen, hactive, hfind, hb⟩
  have hpiece {e : Device} (hp : m.piece = true) (he : d.redArrive m.part m.dest true m.bytes = e) : s.Does row e :=
    harrive.of_eq (hp ▸ he)
  have hsettle {e : Device} (hp : m.piece = false) (he : d.redArrive m.part m.dest false m.bytes = e) : s.Does row e :=
    harrive.of_eq (hp ▸ he)
  refine ⟨fun hp hmisfit => hpiece hp (Device.redArrive_of_misfit hreach (Bool.eq_false_iff.2 (mt Bucket.fits_iff.1 hmisfit)) _),
    fun hp hfits hdest x hx => ?slot, fun hdest o ho => ?owner, fun hp hdest x hx hup => hsettle hp (Device.redArrive_slotSettle hreach hdest rfl hx hup)⟩
  case slot =>
    have htake {e : Device} (he : d.slotTake i k right m.bytes = e) : s.Does row e.redFree :=
      hpiece hp (he ▸ Device.redArrive_slotPiece hreach hdest rfl hx (Bucket.fits_iff.2 hfits))
    exact ⟨fun hnew hother => htake (Device.slotTake_firstSide hb hx rfl hnew hother),
      fun hnew hother => htake (Device.slotTake_secondSide hb hx rfl hnew hother),
      fun hlate => htake (Device.slotTake_of_missing hb hx rfl hlate),
      fun y htaken hy => htake (Device.slotTake_of_taken hb hx rfl htaken hy)⟩
  case owner =>
    have htake {e : Device} (hp : m.piece = true) (hfits : fits) (he : d.ownerTake i m.bytes = e) : s.Does row e.redFree :=
      hpiece hp (he ▸ Device.redArrive_ownerPiece hreach (Bucket.fits_iff.2 hfits) hdest ho)
    exact ⟨fun hp hfits hopen hnew => htake hp hfits (Device.ownerTake_first hb ho hopen hnew),
      fun hp hfits hdone => htake hp hfits (Device.ownerTake_of_done hb ho hdone _),
      fun hp hfits hopen htaken => htake hp hfits (Device.ownerTake_of_taken hb ho hopen htaken),
      fun hp hopen => hsettle hp (Device.ownerSettle_of_pending hb ho hopen .. ▸ Device.redArrive_ownerSettle hreach hdest ho)⟩

end Machine
end Sys2Proof
end

section
/-!
What a slot makes of a piece whose sides are resolved (R376, R380, R387, R391), and the commands, deadlines and fill records of reduction
(R368, R386, R392, R395).
-/
namespace Sys2Proof
namespace Machine

/-! ## Resolved pieces (R376, R380, R387, R391) -/

theorem Device.slotForward_eq (d : Device) (b : Bucket) (x : RedSlot) (settled : Bool) (bs : List Byte) :
    d.slotForward b x settled bs =
      let e := if settled ∨ rankDown x.parent then d.bump (Reg.RED_SETTLED b.part) 1 else d
      if rankDown x.parent then e else e.redSend b (0x10000 + x.num) x.parent x.pslot true bs := by
  simp only [Device.slotForward, Bool.or_eq_true]

section Resolve

variable {d : Device} {b : Bucket} {x : RedSlot} {i : Nat}

/-- Two present sides, the right one just arrived, give the sum, stored back and counted once (R376, R379, R380). -/
theorem Device.slotResolve_sum {hl hr : List Byte} (hleft : x.side false i = some (.present hl)) (hright : x.side true i = some (.present hr))
    (hxfmt : b.xfmt ≠ xStat) (bs : List Byte) :
    d.slotResolve b x i (some (true, bs)) =
      let l := d.slotRead b x false i
      let sum := sumPayload b.xfmt (b.nelem i) l.2.1 bs
      let h := sumHdr (PieceHdr.ofBytes hl) (PieceHdr.ofBytes hr) x.pslot sum.2.2 l.2.2
      Device.slotForward
        (((l.1.redPut b (x.place b.xfmt false i) (h.bytes ++ sum.1)).redCount b.part sum.2.1).bump64 (Reg.RED_SUMMED_LO b.part) 1) b x false
        (h.bytes ++ sum.1) := by
  simp only [Device.slotResolve, hleft, hright, if_neg hxfmt, Bool.true_eq_false, if_false, if_true, Bool.or_false]

/-- A side that holds no piece: it is ABSENT or has been declared missing. -/
def RedSlot.Empty (x : RedSlot) (right : Bool) (i : Nat) : Prop := x.side right i = some .absent ∨ x.side right i = some .missing

/-- The one present side goes on, SETTLED (R387). -/
theorem Device.slotResolve_one {right : Bool} {hdr : List Byte} (hside : x.side right i = some (.present hdr)) (hempty : x.Empty (!right) i)
    (bs : List Byte) :
    d.slotResolve b x i (some (right, bs)) =
      d.slotForward b x true ({ PieceHdr.ofBytes hdr with dest := x.pslot, settled := true }.bytes ++ bs) := by
  cases right with
  | false =>
    replace hempty : x.Empty true i := hempty
    rcases hempty with hother | hother <;>
      simp only [Device.slotResolve, hside, hother, if_true, Bool.or_false]
  | true =>
    replace hempty : x.Empty false i := hempty
    rcases hempty with hother | hother <;>
      simp only [Device.slotResolve, hside, hother, if_true, Bool.or_false]

/-- No present side gives an ABSENT piece (R387). -/
theorem Device.slotResolve_none (hleft : x.Empty false i) (hright : x.Empty true i) (fresh : Option (Bool × List Byte)) :
    d.slotResolve b x i fresh = d.slotForward b x true (b.absentHdr i x.pslot).bytes := by
  rcases hleft with hleft | hleft <;> rcases hright with hright | hright <;> simp only [Device.slotResolve, hleft, hright]

end Resolve

/-! ## The commands of a free-running partition (R392) -/

theorem Device.redCommand_of_free {d : Device} {p : Nat} (h : d.freeRunning p = true) (f : Device → Device) : d.redCommand p f = f d := if_pos h

theorem Device.redCommand_of_scheduled {d : Device} {p : Nat} (h : d.freeRunning p = false) (f : Device → Device) :
    d.redCommand p f = d.setFlag (Reg.RED_STATUS p) 31 true := if_neg (Bool.eq_false_iff.1 h)

theorem Device.redSettle_of_bucket {d : Device} {i : Nat} {b : Bucket} (hb : d.bucket i = some b) (t : Nat) :
    d.redSettle t i = (d.setBucket i { b with settledAt := some (b.settledAt.getD t) }).leavesAbsent i := by
  simp only [Device.redSettle, hb]

section Settle

variable {d : Device} {p : Nat} (hfree : d.freeRunning p = true)
include hfree

theorem Device.redSettleCmd_of_none (hfind : d.redFind p (d.fld (Reg.RED_SETTLE_TAG p) 15 0) (d.strokeOf p) = none) :
    d.redSettleCmd p = d := by
  simp only [Device.redSettleCmd, Device.redCommand_of_free hfree, hfind]

theorem Device.redSettleCmd_of_found {i : Nat} (hfind : d.redFind p (d.fld (Reg.RED_SETTLE_TAG p) 15 0) (d.strokeOf p) = some i) :
    d.redSettleCmd p = (d.redSettle d.now i).redFree := by
  simp only [Device.redSettleCmd, Device.redCommand_of_free hfree, hfind]

end Settle

/-! ## Deadlines (R386, R395) -/

section Deadlines

variable {d : Device} {p tag i t : Nat} {b : Bucket} (hfind : d.redFind p tag (d.strokeOf p) = some i) (hb : d.bucket i = some b)
  (hsettled : b.settledAt = some t)
include hfind hb hsettled

/-- A slot's deadline comes its height in levels after the sluice, and declares both its sides missing (R386). -/
theorem Device.slotSettle_of_deadline {slot : Nat} {x : RedSlot} (hx : b.slots[b.slots.findIdx (fun x => x.num == slot)]? = some x) :
    d.slotSettle p tag slot none =
      let k := b.slots.findIdx (fun x => x.num == slot)
      ((({ d with now := max d.now (t + x.height * d.levelTime p) } : Device).slotMissing i k false).slotMissing i k true).redFree := by
  simp only [Device.slotSettle, hfind, hb, hsettled, hx]

/-- At the sluice the side of a child of rank r is missing where the rank was DOWN at the open (R386). -/
theorem Device.slotSettle_of_rank {slot : Nat} {x : RedSlot} (hx : b.slots[b.slots.findIdx (fun x => x.num == slot)]? = some x)
    (r : Nat) (right : Bool) :
    d.slotSettle p tag slot (some (r, right)) =
      if r ∈ b.down then (d.slotMissing i (b.slots.findIdx (fun x => x.num == slot)) right).redFree else d := by
  simp only [Device.slotSettle, hfind, hb, hsettled, hx, List.contains_iff_mem]

/-- The owner's deadline comes one level after its height in levels (R395). -/
theorem Device.ownerFinish_of_settled (ho : b.owner.isSome = true) (height : Nat) :
    d.ownerFinish p tag height =
      (({ d with now := max d.now (t + (height + 1) * d.levelTime p) } : Device).ownerIncomplete i).redFree := by
  obtain ⟨o, ho⟩ := Option.isSome_iff_exists.1 ho
  simp only [Device.ownerFinish, hfind, hb, hsettled, ho]

end Deadlines

/-! ## Fill records (R368) -/

theorem Device.fillWrite_of_none {d : Device} (h : d.seen.find? (fun x => x.unit == 0) = none) : d.fillWrite = d := by
  simp only [Device.fillWrite, Device.takeSeen, h, Option.map_none]

/-- The j-th leaf of a bucket, where it watches the codeword written, becomes full or counts the write as stale. -/
def Device.leafSees (d : Device) (x : Seen) (i : Nat) (b : Bucket) (j : Nat) : Device :=
  match b.leaves[j]? with
  | some l =>
    if l.cw ≠ some x.cw then d
    else if l.state = .armed ∧ leAt x.bytes 0 2 = b.tag ∧ leAt x.bytes 4 4 = b.stroke then d.leafFill i j x.bytes
    else d.bump (Reg.RED_STALE b.part) 1
  | none => d

/-- Every leaf of the i-th bucket sees the write. -/
def Device.bucketSees (x : Seen) (d : Device) (i : Nat) : Device :=
  match d.bucket i with
  | some b => (List.range b.leaves.length).foldl (fun d j => d.leafSees x i b j) d
  | none => d

/-- Whether a leaf of the bucket watches a codeword. -/
def Bucket.watching (b : Bucket) (cw : Nat) : Bool := b.leaves.any (fun l => l.cw == some cw)

/-- The oldest write of a watched codeword goes to every bucket that watches it; a disarmed record counts it as stale where no open bucket of
its partition watches the codeword. -/
theorem Device.fillWrite_of_seen {d : Device} {x : Seen} (h : d.seen.find? (fun x => x.unit == 0) = some x) :
    d.fillWrite =
      let late := (d.red.stale.filter (fun y => y.2 == x.cw)).eraseDups.filter (fun y =>
        !d.red.buckets.any (fun b => b.part == y.1 && b.watching x.cw))
      ((late.foldl (fun (d : Device) y => d.bump (Reg.RED_STALE y.1) 1) { d with seen := d.seen.erase x }).eachBucket (·.watching x.cw)
        (Device.bucketSees x)).redFree := by
  simp only [Device.fillWrite, Device.takeSeen, h, Option.map_some]
  refine congrArg (fun g => (Device.eachBucket _ _ g).redFree) (funext fun d => funext fun i => ?_)
  simp only [Device.bucketSees, Device.leafSees, Bool.not_eq_true', beq_eq_false_iff_ne, Bool.and_eq_true, beq_iff_eq, and_assoc]
  cases d.bucket i with
  | none => rfl
  | some b => rfl

/-- A fill record that names the tag and stroke of an armed leaf fills it, and the leaf sends its pieces in order; to a parent whose rank is
DOWN it sends nothing (R368, R372, R391). -/
theorem Device.leafFill_of_armed {d : Device} {i j : Nat} {b : Bucket} {l : RedLeaf} {bs : List Byte} (hb : d.bucket i = some b)
    (hl : b.leaves[j]? = some l) (harmed : l.state = .armed) (htag : leAt bs 0 2 = b.tag) (hstroke : leAt bs 4 4 = b.stroke) :
    d.leafFill i j bs = (d.setBucket i (b.setLeaf j .sent)).leafPieces b l (leAt bs 8 4) := by
  simp only [Device.leafFill, hb, hl, harmed, htag, hstroke, beq_self_eq_true, Bool.and_self, if_true]

/-- Settles O39: what a slot makes of resolved sides by which are present (`Device.slotResolve`), the commands by whether the partition is
free-running (`Device.redCommand`), the deadlines of a settled bucket, and the write of a fill record as what each leaf sees of it
(`Device.leafSees`). That a piece settled and withheld counts once and a leaf below a DOWN rank sends nothing is log 46's, the writes that
count as stale are log 47's, the operand of a DOWN child log 49's, and that deadlines move device time log 8's. -/
theorem reductionSlotsAndDeadlines : Obligations.ReductionSlotsAndDeadlines := by
  refine ⟨fun d b x i bs => ?resolved, fun s p w tag slot height r right => ?rows⟩
  case resolved =>
    intro forward
    have hforward (d : Device) (settled : Bool) (bs : List Byte) : d.slotForward b x settled bs = forward d settled bs :=
      Device.slotForward_eq ..
    exact ⟨fun hl hr hleft hright hxfmt => (Device.slotResolve_sum hleft hright hxfmt bs).trans (hforward ..),
      fun hl hleft hright => (Device.slotResolve_one hleft hright bs).trans (hforward ..),
      fun hr hright hleft => (Device.slotResolve_one hright hleft bs).trans (hforward ..),
      fun hleft hright => (Device.slotResolve_none hleft hright none).trans (hforward ..)⟩
  case rows =>
    intro d err found
    have hopen : s.Does (.redWinOpen p w) (d.redCommand p (fun d => d.windowOpen p w)) := rfl
    have hclose : s.Does (.redWinClose p w) (d.redCommand p (fun d => d.windowClose p w)) := rfl
    have hsettle : s.Does (.redSettle p) (d.redSettleCmd p) := rfl
    have hfill : s.Does .fillRecordWrite d.fillWrite := rfl
    refine ⟨fun hfree => ⟨hopen.of_eq (Device.redCommand_of_free hfree _), hclose.of_eq (Device.redCommand_of_free hfree _),
        fun hnone => hsettle.of_eq (Device.redSettleCmd_of_none hfree hnone),
        fun i b hfind hb => hsettle.of_eq (Device.redSettle_of_bucket hb d.now ▸ Device.redSettleCmd_of_found hfree hfind)⟩,
      fun hbusy => ⟨hopen.of_eq (Device.redCommand_of_scheduled hbusy _), hclose.of_eq (Device.redCommand_of_scheduled hbusy _),
        hsettle.of_eq (Device.redCommand_of_scheduled hbusy _)⟩,
      fun i b t hfind hb hsettled => ?deadlines, fun hnone => hfill.of_eq (Device.fillWrite_of_none hnone),
      fun x hseen => hfill.of_eq (Device.fillWrite_of_seen hseen),
      fun i b j l bs hb hl harmed htag hstroke => Device.leafFill_of_armed hb hl harmed htag hstroke⟩
    case deadlines =>
      intro k at'
      have hslot (c : Option (Nat × Bool)) : s.Does (.slotSettle p tag slot c) (d.slotSettle p tag slot c) := rfl
      have hfinish : s.Does (.ownerFinish p tag height) (d.ownerFinish p tag height) := rfl
      exact ⟨fun x hx => ⟨(hslot _).of_eq (Device.slotSettle_of_deadline hfind hb hsettled hx),
          fun hdown => (hslot _).of_eq ((Device.slotSettle_of_rank hfind hb hsettled hx r right).trans (if_pos hdown)),
          fun hup => (hslot _).of_eq ((Device.slotSettle_of_rank hfind hb hsettled hx r right).trans (if_neg hup))⟩,
        fun ho => hfinish.of_eq (Device.ownerFinish_of_settled hfind hb hsettled ho height)⟩

end Machine
end Sys2Proof
end

section
/-!
Flow contexts (R417): a context read back after it is written, and the packet that a row finds in one.
-/
namespace Sys2Proof
namespace Machine

/-! ## Contexts written and read -/

theorem Cells.put_put {α : Type} (key : Nat) (v w : α) : ∀ m : Cells α, Cells.put (Cells.put m key v) key w = Cells.put m key w
  | [] => by simp [Cells.put]
  | (k, u) :: rest => by
    by_cases hlt : key < k
    · simp [Cells.put, hlt]
    · by_cases heq : key = k
      · simp [Cells.put, heq]
      · simp [Cells.put, hlt, heq, Cells.put_put key v w rest]

@[simp] theorem Device.flow_setFlow_same (d : Device) (f : Nat) (x : Flow) : (d.setFlow f x).flow f = some x :=
  Cells.find?_put_same ..

@[simp] theorem Device.setFlow_setFlow (d : Device) (f : Nat) (x y : Flow) : (d.setFlow f x).setFlow f y = d.setFlow f y := by
  simp only [Device.setFlow, Cells.put_put]

theorem Device.modFlow_of_flow {d : Device} {f : Nat} {x : Flow} (hx : d.flow f = some x) (g : Flow → Flow) :
    d.modFlow f g = d.setFlow f (g x) := by
  simp only [Device.modFlow, hx]

/-! ## The packet a row finds -/

section Rows

variable {d : Device} {f op : Nat} {x : Flow} (hx : d.flow f = some x)
include hx

/-- An acknowledgement or a control packet is dropped from the context as it is handled. -/
theorem Device.rxCtl_of_found {kind : Nat} {p : RxPkt} (hp : x.inbox.find? (fun p => p.kind == kind && p.op == op) = some p)
    (g : Device → Flow → RxPkt → Device) :
    d.rxCtl f kind op g = g (d.setFlow f { x with inbox := x.inbox.erase p }) { x with inbox := x.inbox.erase p } p := by
  simp only [Device.rxCtl, hx, hp]

/-- A data packet that may take effect does so, and is then accounted (R428). -/
theorem Device.rxData_of_found {ordered : Bool} {sel : RxPkt → Bool} {p : RxPkt}
    (hp : x.held.find? (fun q => q.op == op && sel q && (!ordered || x.settledBefore q.psn)) = some p) (g : Device → Flow → RxPkt → Device) :
    d.rxData f op ordered sel g = (g d x p).handled f [p] := by
  simp only [Device.rxData, hx, hp]

/-- A whole message takes effect at its first packet (R428). -/
theorem Device.rxMessage_of_whole {sel : RxPkt → Bool} {p : RxPkt} {ps : List RxPkt} (hps : x.wholeMsg op sel = some (p :: ps, true))
    (g : Device → Flow → RxPkt → List Byte → Device) :
    d.rxMessage f op sel g = (g d x p ((p :: ps).map (·.payload)).flatten).handled f (p :: ps) := by
  simp only [Device.rxMessage, hx, hps, List.head?_cons]

end Rows

end Machine
end Sys2Proof
end

section
/-!
Acknowledgements and control packets of a flow (R413, R414, R419, R420, R438).
-/
namespace Sys2Proof
namespace Machine

/-! ## ACK (R413, R434, R435) -/

@[simp] theorem Device.cutRate_msgs (d : Device) (x : Flow) : (d.cutRate x).msgs = x.msgs := by
  simp only [Device.cutRate, apply_ite Flow.msgs, ite_self]

/-- Whether an ACK with CUM and SACK acknowledges a packet of the window. -/
def TxPkt.ackedBy (cum sack : Nat) (q : TxPkt) : Bool :=
  seqBefore q.psn cum ||
    (decide (1 ≤ wrap 32 ((q.psn : Int) - cum) ∧ wrap 32 ((q.psn : Int) - cum) ≤ 64) && sack.testBit (wrap 32 ((q.psn : Int) - cum) - 1))

/-- The context once an ACK has dropped what it acknowledges; each packet left counts the later ones among those (R434). -/
def Flow.acknowledge (x : Flow) (cum sack : Nat) : Flow :=
  let gone := x.inflight.filter (fun q => q.ackedBy cum sack)
  { x with
    inflight := (x.inflight.filter (fun q => !q.ackedBy cum sack)).map (fun q =>
      { q with passed := q.passed + (gone.filter (fun g => seqBefore q.psn g.psn)).length })
    skips := x.skips.filter (fun k => !(k.hi == cum || seqBefore k.hi cum)) }

/-- An ACK acknowledges, lets its MCUM complete messages, and sends again what has been passed too often. -/
theorem Device.ackNow_eq (d : Device) (f : Nat) (x : Flow) (p : RxPkt) :
    d.ackNow f x p =
      let y := x.acknowledge (leAt p.mid 0 4) (leAt p.mid 8 8)
      let e := (d.setFlow f (if leAt p.mid 20 2 = 0 then y else d.cutRate y)).completePassed f (leAt p.mid 16 4) x.msgs.length
      ((y.inflight.filter (fun q => decide (q.passed ≥ e.aqReorder))).foldl (fun d q => d.retransmit f q.psn) e).pump f := by
  simp only [Device.ackNow, Flow.acknowledge, TxPkt.ackedBy, Bool.decide_and, apply_ite Flow.msgs, Device.cutRate_msgs, ite_self]

theorem Device.closeAckNow_eq (d : Device) (f : Nat) (x : Flow) (p : RxPkt) :
    d.closeAckNow f x p = if x.phase = .closing then d.endFlow f St.OK else d := by
  simp only [Device.closeAckNow, beq_iff_eq]

/-- Settles O42: a row finds its packet in the context and drops it (`Device.rxCtl_of_found`), and what it writes stands in place of that
context (`Device.setFlow_setFlow`). -/
theorem flowControlPackets : Obligations.FlowControlPackets := by
  intro s f x kind op p hx hp y d meet
  have hput (z : Flow) : d.setFlow f z = s.dev.setFlow f z := s.dev.setFlow_setFlow f y z
  have hrate (z : Flow) : d.cutRate z = s.dev.cutRate z := rfl
  have hfound (g : Device → Flow → RxPkt → Device) : s.dev.rxCtl f kind op g = g d y p := Device.rxCtl_of_found hx hp g
  refine ⟨fun hkind hop => ?ack, fun hkind hop => ?mstat, fun hkind hop => ?hello, fun hkind hop => ?helloAck, fun hkind hop => ?close,
    fun hkind hop => ?closeAck, fun hkind hop => ?skip⟩ <;> subst hkind hop
  case ack =>
    refine State.Does.of_eq (d := s.dev.rxAck f) rfl (((hfound _).trans (d.ackNow_eq f y p)).trans ?_)
    simp only [hput, hrate]
    rfl
  case mstat => exact State.Does.of_eq (d := s.dev.rxMstat f) rfl (hfound _)
  case hello => exact State.Does.of_eq (d := s.dev.rxHello f) rfl (hfound _)
  case helloAck => exact State.Does.of_eq (d := s.dev.rxHelloAck f) rfl (hfound _)
  case close => exact State.Does.of_eq (d := s.dev.rxClose f) rfl (hfound _)
  case closeAck => exact State.Does.of_eq (d := s.dev.rxCloseAck f) rfl ((hfound _).trans (d.closeAckNow_eq f y p))
  case skip => exact State.Does.of_eq (d := s.dev.rxSkip f) rfl (hfound _)

end Machine
end Sys2Proof
end

section
/-!
What the messages of an open flow do when they take effect (R426, R427, R428, R513).
-/
namespace Sys2Proof
namespace Machine

/-! ## Messages of one packet -/

/-- At every AQ_CTL.MTU a packet carries 1,024 payload bytes or more (R444). -/
theorem Device.le_aqMtu (d : Device) : 1024 ≤ d.aqMtu := Nat.le_mul_of_pos_right _ (Nat.two_pow_pos _)

@[simp] theorem toLe_length (n x : Nat) : (toLe n x).length = n := by
  induction n generalizing x with
  | zero => rfl
  | succ n ih => rw [toLe, List.length_cons, ih]

/-- Bytes that one packet holds go out whole. -/
theorem splitMsg_of_le {mtu : Nat} {bs : List Byte} (hpos : 0 < bs.length) (hle : bs.length ≤ mtu) : splitMsg mtu bs = [(0, bs)] := by
  have hone : ceilDiv bs.length mtu = 1 := Nat.div_eq_of_lt_le (by omega) (by omega)
  have hsome : bs.isEmpty = false := List.isEmpty_eq_false_iff.2 (List.length_pos_iff.1 hpos)
  simp only [splitMsg, hsome, hone, chunks, List.take_of_length_le hle, List.mapIdx_cons, List.mapIdx_nil, Nat.zero_mul, Bool.false_eq_true, if_false]

/-- A doubleword is one packet at every MTU. -/
theorem splitMsg_doubleword (d e : Device) (v : Nat) : splitMsg d.aqMtu (toLe 8 v) = splitMsg e.aqMtu (toLe 8 v) := by
  have hone (d : Device) : splitMsg d.aqMtu (toLe 8 v) = [(0, toLe 8 v)] :=
    splitMsg_of_le (by simp) ((toLe_length 8 v).trans_le (Nat.le_trans (by decide) d.le_aqMtu))
  rw [hone d, hone e]

/-! ## The effects (R426, R427) -/

section Effects

variable {d : Device} {f : Nat} {x : Flow} {p : RxPkt}

/-- A WRITE of a message with no status yet stores its bytes, or reports the status of the page that failed (R427, R430). -/
theorem Device.writeNow_of_unreported (hnew : x.reported p.msn = false) :
    d.writeNow f x p =
      let w := d.writeVa x.part (p.addr + p.moff) p.payload
      if w.2.1 = St.OK then w.1 else w.1.reportMsg f p w.2.1 w.2.2 true := if_neg (Bool.eq_false_iff.1 hnew)

/-- The word that an ATOMIC of a function leaves in place of the old one (R427). -/
def atomicResult (fn old a b : Nat) : Nat := if fn = 0 then old + a else if fn = 1 then a else if old = b then a else old

/-- An ATOMIC replaces the word at its address and answers the old one in one packet (R427). -/
theorem Device.atomicNow_of_word {fn pa : Nat} {d1 : Device} (halign : p.addr % 8 = 0) (hlen : p.payload.length = 16)
    (hpage : d.translate x.part .acc p.addr = (d1, .ok pa)) (hgood : (d1.physRead pa 8).2.2 = false) :
    d.atomicNow f fn x p =
      let old := leNat (d1.physRead pa 8).2.1
      let new := atomicResult fn old (leAt p.payload 0 8) (leAt p.payload 8 8)
      ((d1.physRead pa 8).1.physWrite pa (toLe 8 new)).1.aqPost f
        { owner := .response, op := 6, untimed := p.untimed, stroke := p.stroke, addr := 0, oparg := 0, rest := splitMsg d.aqMtu (toLe 8 old) } := by
  have hshape : ¬ (p.addr % 8 ≠ 0 ∨ p.payload.length ≠ 16) := by omega
  simp only [Device.atomicNow, if_neg hshape, hpage, hgood, Bool.false_eq_true, if_false]
  rw [splitMsg_doubleword _ d]
  rfl

/-- Response data goes to the local address of the oldest request, which completes once all of it has come (R426). -/
theorem Device.responseNow_of_stored {req i : Nat} {m : TxMsg} (hwaits : x.waiting req = some (i, m))
    (howner : m.owner = .reduction ∨ ∃ c g, m.owner = .desc c g) (hstored : (d.writeVa x.part (m.laddr + p.moff) p.payload).2.1 = St.OK) :
    d.responseNow f req x p =
      let e := (d.writeVa x.part (m.laddr + p.moff) p.payload).1.modFlow f (fun y =>
        { y with msgs := y.msgs.set i { m with got := m.got + p.payload.length } })
      if m.got + p.payload.length ≥ m.want then (e.aqComplete f i St.OK).pump f else e := by
  rcases howner with howner | ⟨c, g, howner⟩ <;>
    simp only [Device.responseNow, hwaits, howner, hstored, ne_eq, not_true_eq_false, if_false]

end Effects

/-! ## The rows -/

/-- The row handles the data packets of one operation, each with its own effect: the instruction, the operation, whether it waits for
everything before it, which packets it takes, and the effect. -/
def State.HandlesData (s : State) (f : Nat) (x : Flow) (row : Instr × Nat × Bool × (RxPkt → Bool) × (Device → RxPkt → Device)) : Prop :=
  ∃ g : Device → Flow → RxPkt → Device, s.Does row.1 (s.dev.rxData f row.2.1 row.2.2.1 row.2.2.2.1 g) ∧ (fun d => g d x) = row.2.2.2.2

theorem State.does_ofData {s : State} {f : Nat} {x : Flow} {row : Instr × Nat × Bool × (RxPkt → Bool) × (Device → RxPkt → Device)}
    (hrow : s.HandlesData f x row) (hx : s.dev.flow f = some x) {p : RxPkt}
    (hp : x.held.find? (fun q => q.op == row.2.1 && row.2.2.2.1 q && (!row.2.2.1 || x.settledBefore q.psn)) = some p) :
    s.Does row.1 ((row.2.2.2.2 s.dev p).handled f [p]) := by
  obtain ⟨g, hdoes, heffect⟩ := hrow
  rw [← heffect]
  exact hdoes.of_eq (Device.rxData_of_found hx hp g)

/-- The row handles whole messages of one operation. -/
def State.HandlesMessage (s : State) (f : Nat) (x : Flow) (row : Instr × Nat × (RxPkt → Bool) × (RxPkt → List Byte → Device)) : Prop :=
  ∃ g : Device → Flow → RxPkt → List Byte → Device, s.Does row.1 (s.dev.rxMessage f row.2.1 row.2.2.1 g) ∧ g s.dev x = row.2.2.2

theorem State.does_ofMessage {s : State} {f : Nat} {x : Flow} {row : Instr × Nat × (RxPkt → Bool) × (RxPkt → List Byte → Device)}
    (hrow : s.HandlesMessage f x row) (hx : s.dev.flow f = some x) {p : RxPkt} {ps : List RxPkt}
    (hps : x.wholeMsg row.2.1 row.2.2.1 = some (p :: ps, true)) :
    s.Does row.1 ((row.2.2.2 p ((p :: ps).map (·.payload)).flatten).handled f (p :: ps)) := by
  obtain ⟨g, hdoes, heffect⟩ := hrow
  rw [← heffect]
  exact hdoes.of_eq (Device.rxMessage_of_whole hx hps g)

/-- Settles O41: every row of the two tables handles, by the definition of its meaning, the packets or the messages of its operation
(`State.HandlesData`, `State.HandlesMessage`). That all but WRITE and READ_RESP wait for the packets before them, that responses carry ADDR 0,
and that they answer the oldest request are log 52's. -/
theorem receivedMessagesTakeEffect : Obligations.ReceivedMessagesTakeEffect := by
  intro s f x hx d
  refine ⟨?packets, ?messages, fun p hnew => Device.writeNow_of_unreported hnew,
    fun p fn d1 pa _ halign hlen hpage hgood => Device.atomicNow_of_word halign hlen hpage hgood,
    fun i m p hwaits howner hstored => Device.responseNow_of_stored hwaits howner hstored⟩
  case packets =>
    suffices hrows : ∀ row ∈ _, s.HandlesData f x row from fun row hmem p hp => State.does_ofData (hrows row hmem) hx hp
    repeat refine List.forall_mem_cons.2 ⟨⟨_, rfl, rfl⟩, ?_⟩
    exact List.forall_mem_nil _
  case messages =>
    suffices hrows : ∀ row ∈ _, s.HandlesMessage f x row from fun row hmem p ps hps => State.does_ofMessage (hrows row hmem) hx hps
    repeat refine List.forall_mem_cons.2 ⟨⟨_, rfl, rfl⟩, ?_⟩
    exact List.forall_mem_nil _

end Machine
end Sys2Proof
end

section
/-!
Received Aqueduct packets and frames, and what the ports answer and pause (R405, R406, R407, R421, R433).
-/
namespace Sys2Proof
namespace Machine

/-! ## The packet checks (R421) -/

/-- The datagram can hold a packet, and its CRC-32C is right. -/
def Datagram.Intact (g : Datagram) : Prop :=
  52 ≤ g.data.length ∧ leAt g.data (g.data.length - 4) 4 = crc32c (g.data.take (g.data.length - 4))

/-- The 48-byte header, and the fields of R410 in it. -/
def Datagram.head (g : Datagram) : List Byte := g.data.take 48
def Datagram.kind (g : Datagram) : Nat := leAt g.head 0 1 % 16
def Datagram.op (g : Datagram) : Nat := leAt g.head 1 1
def Datagram.flags (g : Datagram) : Nat := leAt g.head 2 2
def Datagram.mid (g : Datagram) : List Byte := (g.head.drop 8).take 32
def Datagram.flowNum (g : Datagram) : Nat := leAt g.head 4 4 % 0x40000
def Datagram.gen (g : Datagram) : Nat := leAt g.head 4 4 / 0x40000
/-- The payload length that the header of a data packet gives. -/
def Datagram.plen (g : Datagram) : Nat := if g.kind = 0 then leAt g.mid 12 4 else 0

/-- The header is one of R410 to R415, and the packet as long as it says. -/
def Datagram.Shaped (g : Datagram) : Prop :=
  leAt g.head 0 1 / 16 = 1 ∧ knownPacket g.kind g.op = true ∧ reservedClear g.kind g.op g.flags g.mid = true ∧ g.plen ≤ 8192 ∧
    g.data.length - 52 = g.plen + (if bit g.flags 2 then 16 else 0)

/-- The packet names the generation of the context, and comes from its peer to its address. -/
def Datagram.Known (g : Datagram) (x : Flow) : Prop := x.gen = g.gen ∧ x.ipv6 = g.v6 ∧ x.src = g.dst ∧ x.remote = g.src

theorem Datagram.take_head {g : Datagram} (h : g.Intact) : (g.data.take (g.data.length - 4)).take 48 = g.head := by
  have hlong := h.1
  rw [List.take_take, Nat.min_eq_left (by omega), Datagram.head]

theorem Datagram.not_intact_iff {g : Datagram} :
    ¬ g.Intact ↔ g.data.length < 52 ∨ leAt g.data (g.data.length - 4) 4 ≠ crc32c (g.data.take (g.data.length - 4)) := by
  rw [Datagram.Intact, not_and_or, Nat.not_le]

/-- The check of the header as the transport makes it: the ciphertext is what is left of the body without its tag. -/
theorem Datagram.not_shaped_iff {g : Datagram} (h : g.Intact) :
    let rest := (g.data.take (g.data.length - 4)).drop 48
    let ct := if bit g.flags 2 then rest.take (rest.length - 16) else rest
    ¬ g.Shaped ↔ leAt g.head 0 1 / 16 ≠ 1 ∨ !knownPacket g.kind g.op ∨ !reservedClear g.kind g.op g.flags g.mid ∨ g.plen > 8192 ∨
      (bit g.flags 2 ∧ rest.length < 16) ∨ ct.length ≠ g.plen := by
  have hlong := h.1
  intro rest ct
  have hrest : rest.length = g.data.length - 52 := by
    simp only [rest, List.length_drop, List.length_take]; omega
  have hfit : g.data.length - 52 = g.plen + (if bit g.flags 2 then 16 else 0) ↔
      ¬ (bit g.flags 2 ∧ rest.length < 16) ∧ ct.length = g.plen := by
    simp only [ct, apply_ite List.length, List.length_take, hrest]
    cases bit g.flags 2 with
    | false => simp
    | true => simp only [if_true, true_and]; omega
  rw [Datagram.Shaped, hfit]
  simp only [not_and_or, not_or, not_not, Bool.not_eq_true, Bool.not_eq_false, Bool.not_eq_true', Nat.not_le, ne_eq, gt_iff_lt]

/-- What the authentication of a packet makes of it: the flow after it and the payload, if it does not fail (R439, R440). -/
def Datagram.opened (g : Datagram) (x : Flow) : Option (Flow × List Byte) :=
  let rest := (g.data.take (g.data.length - 4)).drop 48
  let ct := if bit g.flags 2 then rest.take (rest.length - 16) else rest
  if x.enc ≠ bit g.flags 2 ∨ (!bit g.flags 2 ∧ bit g.flags 3) then none
  else if bit g.flags 2 then x.openPacket g.kind g.flags g.head ct (rest.drop (rest.length - 16))
  else some (x, ct)

/-- A packet that is encrypted where its flow is not, or the other way round, fails. -/
theorem Datagram.opened_of_mismatch {g : Datagram} {x : Flow} (henc : x.enc ≠ bit g.flags 2) : g.opened x = none :=
  if_pos (.inl henc)

/-- A plain packet of a plain flow passes as it is. -/
theorem Datagram.opened_of_plain {g : Datagram} {x : Flow} (henc : x.enc = false) (hplain : bit g.flags 2 = false)
    (hkey : bit g.flags 3 = false) : g.opened x = some (x, (g.data.take (g.data.length - 4)).drop 48) := by
  simp [Datagram.opened, henc, hplain, hkey]

/-- The packet that a datagram with this payload carries. -/
def Datagram.packet (g : Datagram) (payload : List Byte) : RxPkt :=
  { kind := g.kind, op := g.op, flags := g.flags, mid := g.mid, payload := payload }

/-- What the context of its number makes of a packet: the checks of peer and authentication, and its acceptance. -/
def Device.contextPacket (d : Device) (g : Datagram) (x : Flow) : Device :=
  if x.gen ≠ g.gen ∨ x.ipv6 ≠ g.v6 ∨ x.src ≠ g.dst ∨ x.remote ≠ g.src then d.bump Reg.AQ_NOFLOW 1
  else
    (g.opened x).elim ((d.bump Reg.AQ_AUTH_ERR 1).fire Evt.SECURITY) (fun r =>
      if bit g.flags 2 && x.ctrlOld g.kind g.flags (leAt g.head 40 8) then d
      else if g.kind = 0 then d.acceptData g.flowNum r.1 (g.packet r.2) (g.ecn == 3)
      else (d.setFlow g.flowNum { r.1 with inbox := r.1.inbox ++ [g.packet r.2] }).bump64 Reg.AQ_RX_PKTS_LO 1)

section Packet

variable {d : Device} {g : Datagram}

theorem Device.aqPacket_of_badCrc (h : ¬ g.Intact) : d.aqPacket g = d.bump Reg.AQ_CRC_ERR 1 := if_pos (Datagram.not_intact_iff.1 h)

theorem Device.aqPacket_of_malformed (h : g.Intact) (hshape : ¬ g.Shaped) : d.aqPacket g = d.bump Reg.AQ_DISCARD 1 := by
  have hbad := (Datagram.not_shaped_iff h).1 hshape
  simp only [Device.aqPacket, if_neg (mt Datagram.not_intact_iff.2 (not_not.2 h)), Datagram.take_head h]
  exact if_pos hbad

/-- A well-formed packet goes to the context of its number. -/
theorem Device.aqPacket_of_shaped (h : g.Intact) (hshape : g.Shaped) :
    d.aqPacket g = (d.flow g.flowNum).elim (d.bump Reg.AQ_NOFLOW 1) (d.contextPacket g) := by
  have hgood := mt (Datagram.not_shaped_iff h).2 (not_not.2 hshape)
  simp only [Device.aqPacket, if_neg (mt Datagram.not_intact_iff.2 (not_not.2 h)), Datagram.take_head h]
  refine (if_neg hgood).trans ?_
  rw [show d.flow (leAt g.head 4 4 % 0x40000) = d.flow g.flowNum from rfl]
  cases d.flow g.flowNum with
  | none => rfl
  | some x =>
    refine if_congr Iff.rfl rfl ?_
    split
    next hopen => rw [show g.opened x = none from hopen]; rfl
    next y payload hopen => rw [show g.opened x = some (y, payload) from hopen]; rfl

/-- A packet from elsewhere than the flow's peer, to elsewhere than its address, or of another generation finds no flow. -/
theorem Device.contextPacket_of_foreign {x : Flow} (hknown : ¬ g.Known x) : d.contextPacket g x = d.bump Reg.AQ_NOFLOW 1 :=
  if_pos (by simpa only [Datagram.Known, not_and_or] using hknown)

theorem Device.contextPacket_of_known {x : Flow} (hknown : g.Known x) :
    d.contextPacket g x =
      (g.opened x).elim ((d.bump Reg.AQ_AUTH_ERR 1).fire Evt.SECURITY) (fun r =>
        if bit g.flags 2 && x.ctrlOld g.kind g.flags (leAt g.head 40 8) then d
        else if g.kind = 0 then d.acceptData g.flowNum r.1 (g.packet r.2) (g.ecn == 3)
        else (d.setFlow g.flowNum { r.1 with inbox := r.1.inbox ++ [g.packet r.2] }).bump64 Reg.AQ_RX_PKTS_LO 1) :=
  if_neg (by simpa only [Datagram.Known, not_or, not_not] using hknown)

theorem Device.contextPacket_of_mismatch {x : Flow} (hknown : g.Known x) (henc : x.enc ≠ bit g.flags 2) :
    d.contextPacket g x = (d.bump Reg.AQ_AUTH_ERR 1).fire Evt.SECURITY := by
  rw [Device.contextPacket_of_known hknown, Datagram.opened_of_mismatch henc, Option.elim_none]

/-- A plain packet of a plain flow is accepted as data, or kept for the row of its kind. -/
theorem Device.contextPacket_of_plain {x : Flow} (hknown : g.Known x) (henc : x.enc = false) (hplain : bit g.flags 2 = false)
    (hkey : bit g.flags 3 = false) :
    d.contextPacket g x =
      let p := g.packet ((g.data.take (g.data.length - 4)).drop 48)
      if g.kind = 0 then d.acceptData g.flowNum x p (g.ecn == 3)
      else (d.setFlow g.flowNum { x with inbox := x.inbox ++ [p] }).bump64 Reg.AQ_RX_PKTS_LO 1 := by
  rw [Device.contextPacket_of_known hknown, Datagram.opened_of_plain henc hplain hkey, Option.elim_some, hplain, Bool.false_and,
    if_neg Bool.false_ne_true]

end Packet

/-! ## Accepted data packets (R421, R433) -/

@[simp] theorem Flow.advance_inbox (x : Flow) (n : Nat) : (x.advance n).inbox = x.inbox := by
  induction n generalizing x with
  | zero => rfl
  | succ n ih => rw [Flow.advance]; split <;> simp [ih]

@[simp] theorem Flow.mark_inbox (x : Flow) (psn : Nat) : (x.mark psn).inbox = x.inbox := Flow.advance_inbox ..

/-- The context with a data packet counted, marked received and kept for its effect. -/
def Flow.keep (x : Flow) (p : RxPkt) (ce : Bool) (now : Nat) : Flow :=
  { x.mark p.psn with
    ce := x.ce + (if ce then 1 else 0), unacked := x.unacked + 1, firstUnacked := some (x.firstUnacked.getD now)
    lasts := if p.last then x.lasts ++ [(p.psn, p.msn)] else x.lasts
    inbox := x.inbox ++ [p] }

section Accept

variable {d : Device} {x : Flow} {p : RxPkt} (hpeer : x.peer = true) (hphase : x.phase ≠ .broken)
include hpeer hphase

/-- A packet received before, or outside the window, only causes an ACK. -/
theorem Device.acceptData_of_not_fresh (hold : x.fresh p.psn = false) (f : Nat) (ce : Bool) :
    d.acceptData f x p ce = (d.setFlow f x).sendAck f := by
  simp [Device.acceptData, hpeer, hphase, hold]

/-- A new packet of the present stroke that the buffer holds, and that asks for no ACK, is kept. -/
theorem Device.acceptData_of_fresh (hnew : x.fresh p.psn = true) (hroom : d.rxHeld + p.payload.length ≤ rxBuffer)
    (hactive : d.standby = false) (hquiet : bit p.flags 5 = false) (hfew : x.unacked < 15)
    (hcurrent : p.untimed = true ∨ strokeOlder p.stroke (d.strokeOf x.part) = false) (f : Nat) (ce : Bool) :
    d.acceptData f x p ce =
      ((((d.bump64 Reg.AQ_RX_PKTS_LO 1).bump Reg.AQ_CE (if ce then 1 else 0)).setFlow f (x.keep p ce d.now)).bump Reg.AQ_STALE 0).checkPfc := by
  have hstale : (!p.untimed && strokeOlder p.stroke (d.strokeOf x.part)) = false := by
    rcases hcurrent with h | h <;> simp [h]
  have hfits : ¬ rxBuffer < d.rxHeld + p.payload.length := Nat.not_lt.2 hroom
  have hsoon : ¬ 16 ≤ x.unacked + 1 := by omega
  simp [Device.acceptData, Flow.keep, hpeer, hphase, hnew, hfits, hactive, hstale, hquiet, hsoon]

end Accept

/-! ## Frames (R405, R406) -/

/-- A frame of at least 64 bytes with the right FCS. -/
def FrameWhole (f : List Byte) : Prop := 64 ≤ f.length ∧ fcs (f.take (f.length - 4)) = leAt f (f.length - 4) 4

theorem not_frameWhole_iff {f : List Byte} :
    ¬ FrameWhole f ↔ f.length < 64 ∨ fcs (f.take (f.length - 4)) ≠ leAt f (f.length - 4) 4 := by
  rw [FrameWhole, not_and_or, Nat.not_le]

/-- A packet of another type than IPv4 and IPv6 holds no datagram. -/
theorem readIp_of_other {type : Nat} (h4 : type ≠ 0x0800) (h6 : type ≠ 0x86DD) (bs : List Byte) : readIp type bs = none := by
  simp only [readIp, if_neg h4, if_neg h6]

section Frame

variable {d : Device} {port : Nat} {f : List Byte}

theorem Device.frameReceive_of_bad (h : ¬ FrameWhole f) : d.frameReceive port f = d.bump (Reg.AQ_FCS_ERR port) 1 :=
  if_pos (not_frameWhole_iff.1 h)

variable (h : FrameWhole f)
include h

theorem Device.frameReceive_of_long (hlong : 9216 < f.length) : d.frameReceive port f = d.bump Reg.AQ_DISCARD 1 :=
  (if_neg (mt not_frameWhole_iff.2 (not_not.2 h))).trans (if_pos hlong)

variable (hlen : f.length ≤ 9216)
include hlen

/-- A datagram of the transport for an address of the module goes through the packet checks. -/
theorem Device.frameReceive_of_datagram (htype : (frameBody f).1 = 0x0800 ∨ ((frameBody f).1 = 0x86DD ∧ beAt (frameBody f).2 6 1 ≠ 58))
    {g : Datagram} (hread : readIp (frameBody f).1 (frameBody f).2 = some g) (hport : g.dport = d.fld Reg.AQ_UDP 15 0)
    (hptp : g.dport ≠ 319 ∧ g.dport ≠ 320) (hlocal : d.localIp g.v6 g.dst = true) : d.frameReceive port f = d.aqPacket g := by
  have hip : (frameBody f).1 ≠ 0x88F7 ∧ (frameBody f).1 ≠ 0x8808 ∧ (frameBody f).1 ≠ 0x0806 ∧
      ¬ ((frameBody f).1 = 0x86DD ∧ beAt (frameBody f).2 6 1 = 58) := by
    rcases htype with htype | ⟨htype, hnext⟩ <;> simp_all
  obtain ⟨hnotPtp, hnotPfc, hnotArp, hnotIcmp⟩ := hip
  simp only [Device.frameReceive, if_neg (mt not_frameWhole_iff.2 (not_not.2 h)), if_neg (Nat.not_lt.2 hlen), if_neg hnotPtp, if_neg hnotPfc,
    if_neg hnotArp, if_neg hnotIcmp, hread]
  exact (if_neg (not_or.2 hptp)).trans (if_pos ⟨hport, hlocal⟩)

/-- A type that the module does not take is discarded. -/
theorem Device.frameReceive_of_otherType (htype : (frameBody f).1 ∉ [0x0800, 0x0806, 0x86DD, 0x8808, 0x88F7]) :
    d.frameReceive port f = d.bump Reg.AQ_DISCARD 1 := by
  simp only [List.mem_cons, List.not_mem_nil, or_false, not_or] at htype
  obtain ⟨hnotIp4, hnotArp, hnotIp6, hnotPfc, hnotPtp⟩ := htype
  simp only [Device.frameReceive, if_neg (mt not_frameWhole_iff.2 (not_not.2 h)), if_neg (Nat.not_lt.2 hlen), if_neg hnotPtp, if_neg hnotPfc,
    if_neg hnotArp, hnotIp6, false_and, if_false, readIp_of_other hnotIp4 hnotIp6]

end Frame

/-! ## Answers to neighbours (R406) -/

/-- The answers of a port in the present second of device time. -/
def Device.answersNow (d : Device) (port : Nat) : Nat :=
  if (d.port port).answeredIn = d.now / secUnit then (d.port port).answered else 0

theorem Device.answer_of_few {d : Device} {port : Nat} (hfew : d.answersNow port < 1000) (dst type : Nat) (body : List Byte) :
    d.answer port dst type body =
      let prio := d.fld (Reg.AQ_PORT_CTL port) 10 8
      (d.setPort port { d.port port with answered := d.answersNow port + 1, answeredIn := d.now / secUnit }).queueFrame port prio
        (ethFrame dst (d.portMac port) prio (d.fld (Reg.AQ_PORT_CTL port) 27 16) type body) :=
  if_neg (Nat.not_le.2 hfew)

theorem Device.answer_of_many {d : Device} {port : Nat} (hmany : 1000 ≤ d.answersNow port) (dst type : Nat) (body : List Byte) :
    d.answer port dst type body = d := if_pos hmany

@[simp] theorem toBe_length (n x : Nat) : (toBe n x).length = n := by rw [toBe, List.length_reverse, toLe_length]

theorem Device.arpRequest_of_held {d : Device} {target : Nat} (hheld : (d.partOfIp false target).isSome = true) (port mac ip : Nat) :
    d.arpRequest port mac ip target = d.answer port mac 0x0806
      (toBe 2 1 ++ toBe 2 0x0800 ++ toBe 1 6 ++ toBe 1 4 ++ toBe 2 2 ++ toBe 6 (d.portMac port) ++ toBe 4 target ++ toBe 6 mac ++ toBe 4 ip) := by
  obtain ⟨p, hp⟩ := Option.isSome_iff_exists.1 hheld
  simp only [Device.arpRequest, hp]

theorem Device.arpRequest_of_none {d : Device} {target : Nat} (hnone : d.partOfIp false target = none) (port mac ip : Nat) :
    d.arpRequest port mac ip target = d.bump Reg.AQ_DISCARD 1 := by
  simp only [Device.arpRequest, hnone]

theorem Device.neighborSolicit_of_none {d : Device} {target : Nat} (hnone : d.partOfIp true target = none) (port mac ip : Nat) :
    d.neighborSolicit port mac ip target = d.bump Reg.AQ_DISCARD 1 := by
  simp only [Device.neighborSolicit, hnone]

theorem leNat_toLe (n x : Nat) : leNat (toLe n x) = x % 256 ^ n := by
  induction n generalizing x with
  | zero => simp [toLe, leNat, Nat.mod_one]
  | succ n ih =>
    rw [toLe, leNat, ih, BitVec.toNat_ofNat]
    exact (Nat.pow_succ' ▸ Nat.mod_mul).symm

/-- A field behind others. -/
theorem beAt_append_right {a : List Byte} {off : Nat} (h : a.length ≤ off) (b : List Byte) (n : Nat) :
    beAt (a ++ b) off n = beAt b (off - a.length) n := by
  rw [beAt, List.drop_append, List.drop_of_length_le h, List.nil_append, beAt]

/-- A field reads back as the number written there. -/
theorem beAt_toBe_append {n x : Nat} (h : x < 256 ^ n) (b : List Byte) : beAt (toBe n x ++ b) 0 n = x := by
  rw [beAt, List.drop_zero, List.take_left' (toBe_length n x), beNat, toBe, List.reverse_reverse, leNat_toLe, Nat.mod_eq_of_lt h]

/-- The advertisement that answers a Neighbor Solicitation, the body of its frame. -/
def Device.advertisement (d : Device) (port ip target : Nat) : List Byte :=
  let tail := toBe 4 0x60000000 ++ toBe 16 target ++ toBe 1 2 ++ toBe 1 1 ++ toBe 6 (d.portMac port)
  let ps := toBe 16 target ++ toBe 16 ip ++ toBe 4 32 ++ toBe 4 58
  let c := inetChecksum (ps ++ toBe 2 0x8800 ++ toBe 2 0 ++ tail)
  (toBe 4 0x60000000 ++ toBe 2 32 ++ toBe 1 58 ++ toBe 1 255) ++ (toBe 16 target ++ (toBe 16 ip ++ (toBe 2 0x8800 ++ (toBe 2 c ++ tail))))

theorem Device.neighborSolicit_of_held {d : Device} {target : Nat} (hheld : (d.partOfIp true target).isSome = true) (port mac ip : Nat) :
    d.neighborSolicit port mac ip target = d.answer port mac 0x86DD (d.advertisement port ip target) := by
  obtain ⟨p, hp⟩ := Option.isSome_iff_exists.1 hheld
  simp only [Device.neighborSolicit, hp, Device.advertisement, List.append_assoc]

/-- It goes from the target to the address that asked, as an advertisement (type 136). -/
theorem Device.advertisement_fields (d : Device) (port : Nat) {ip target : Nat} (hip : ip < 2 ^ 128) (htarget : target < 2 ^ 128) :
    beAt (d.advertisement port ip target) 8 16 = target ∧ beAt (d.advertisement port ip target) 24 16 = ip ∧
      beAt (d.advertisement port ip target) 40 1 = 136 := by
  unfold Device.advertisement
  refine ⟨?_, ?_, ?_⟩ <;> rw [beAt_append_right (by simp)]
  · exact beAt_toBe_append htarget _
  · rw [beAt_append_right (by simp)]
    exact beAt_toBe_append hip _
  · rw [beAt_append_right (by simp), beAt_append_right (by simp)]
    simp only [List.length_append, toBe_length]
    rfl

/-! ## Pauses (R407) -/

theorem Cells.find?_of_lt {α : Type} {m : Cells α} {lo j : Nat} (h : Cells.rising lo m = true) (hj : j < lo) : Cells.find? m j = none := by
  cases m with
  | nil => rfl
  | cons e rest =>
    simp only [Cells.rising, Bool.and_eq_true, decide_eq_true_eq] at h
    simp [Cells.find?, show j < e.1 by omega]

theorem Cells.find?_put {α : Type} (key : Nat) (v : α) (j : Nat) :
    ∀ m : Cells α, Cells.find? (Cells.put m key v) j = if j = key then some v else Cells.find? m j
  | [] => by
    by_cases hj : j = key
    · simp [Cells.put, Cells.find?, hj]
    · simp [Cells.put, Cells.find?, hj]
  | (k, w) :: rest => by
    have ih := Cells.find?_put key v j rest
    by_cases hj : j = key
    · rw [if_pos hj, hj, Cells.find?_put_same]
    · rw [if_neg hj] at ih ⊢
      unfold Cells.put
      split
      next hlt =>
        by_cases hjk : j < key
        · simp [Cells.find?, hjk, show j < k by omega]
        · simp [Cells.find?, hjk, hj]
      next hlt =>
        split
        next heq => subst heq; simp [Cells.find?, hj]
        next hne => simp only [Cells.find?, ih]

theorem Cells.find?_erase {α : Type} (key j : Nat) :
    ∀ {m : Cells α} {lo : Nat}, Cells.rising lo m = true → Cells.find? (Cells.erase m key) j = if j = key then none else Cells.find? m j
  | [], _, _ => by simp [Cells.erase, Cells.find?]
  | (k, w) :: rest, lo, h => by
    simp only [Cells.rising, Bool.and_eq_true, decide_eq_true_eq] at h
    obtain ⟨-, hrest⟩ := h
    have ih := Cells.find?_erase key j hrest
    have hbelow {j : Nat} (hj : j ≤ k) : Cells.find? rest j = none := Cells.find?_of_lt hrest (by omega)
    unfold Cells.erase
    by_cases hlt : key < k
    · rw [if_pos hlt]
      by_cases hj : j = key
      · simp [hj, Cells.find?, hlt]
      · rw [if_neg hj]
    · rw [if_neg hlt]
      by_cases heq : key = k
      · subst heq
        by_cases hle : j ≤ key
        · rw [if_pos rfl, hbelow hle]
          by_cases hj : j = key
          · rw [if_pos hj]
          · rw [if_neg hj, Cells.find?, if_pos (by omega)]
        · rw [if_pos rfl, if_neg (by omega), Cells.find?, if_neg (by omega), if_neg (by omega)]
      · rw [if_neg heq, Cells.find?, ih, Cells.find?]
        by_cases hj : j = key
        · simp [hj, hlt, heq]
        · simp only [if_neg hj]

/-- What a PFC frame makes of the pause of a priority it enables: none, or one that ends after its quanta (R407). -/
def pauseFor (times : List Nat) (now i : Nat) : Option Nat :=
  if times.getD i 0 = 0 then none else some (now + times.getD i 0 * 512 * nsUnit / 800)

/-- The pauses of a port after the i-th priority of a PFC frame. -/
def pausePrio (enable : Nat) (times : List Nat) (now : Nat) (m : Cells Nat) (i : Nat) : Cells Nat :=
  if !enable.testBit i then m
  else if times.getD i 0 = 0 then Cells.erase m i
  else Cells.put m i (now + times.getD i 0 * 512 * nsUnit / 800)

/-- The pauses of a port after a PFC frame. -/
def pausesAfter (enable : Nat) (times : List Nat) (now : Nat) (m : Cells Nat) : Cells Nat :=
  (List.range 8).foldl (pausePrio enable times now) m

theorem Device.pfcFrame_eq (d : Device) (port enable : Nat) (times : List Nat) :
    d.pfcFrame port enable times =
      d.setPort port { d.port port with paused := pausesAfter enable times d.now (d.port port).paused } := rfl

section Pauses

variable {enable : Nat} {times : List Nat} {now : Nat}

theorem pausePrio_rising {m : Cells Nat} (h : Cells.rising 0 m = true) (i : Nat) :
    Cells.rising 0 (pausePrio enable times now m i) = true := by
  unfold pausePrio
  split
  · exact h
  · split
    · exact Cells.erase_rising h
    · exact Cells.put_rising h (Nat.zero_le i)

theorem find?_pausePrio {m : Cells Nat} (h : Cells.rising 0 m = true) (i j : Nat) :
    Cells.find? (pausePrio enable times now m i) j =
      if j = i ∧ enable.testBit j = true then pauseFor times now j else Cells.find? m j := by
  unfold pausePrio pauseFor
  by_cases hj : j = i
  · subst hj
    cases enable.testBit j with
    | false => simp
    | true =>
      simp only [Bool.not_true, Bool.false_eq_true, if_false, and_self, if_true]
      split
      · rw [Cells.find?_erase j j h, if_pos rfl]
      · rw [Cells.find?_put, if_pos rfl]
  · split
    · simp [hj]
    · split <;> simp [hj, Cells.find?_erase i j h, Cells.find?_put]

theorem find?_foldl_pausePrio (j : Nat) : ∀ (is : List Nat) {m : Cells Nat}, Cells.rising 0 m = true →
    Cells.find? (is.foldl (pausePrio enable times now) m) j =
      if j ∈ is ∧ enable.testBit j = true then pauseFor times now j else Cells.find? m j
  | [], m, _ => by simp
  | i :: is, m, h => by
    rw [List.foldl_cons, find?_foldl_pausePrio j is (pausePrio_rising h i), find?_pausePrio h, ← ite_or]
    simp only [List.mem_cons, or_and_right, or_comm]

/-- A priority that the frame enables is paused for its quanta or released, and the others stay as they were. -/
theorem find?_pausesAfter {m : Cells Nat} (h : Cells.rising 0 m = true) {i : Nat} (hi : i < 8) :
    Cells.find? (pausesAfter enable times now m) i = if enable.testBit i = true then pauseFor times now i else Cells.find? m i := by
  simp only [pausesAfter, find?_foldl_pausePrio i _ h, List.mem_range, hi, true_and]

end Pauses

theorem Device.pfcExpire_of_paused {d : Device} {port prio t : Nat} (h : Cells.find? (d.port port).paused prio = some t) :
    d.pfcExpire port prio =
      ({ d with now := max d.now t } : Device).setPort port { d.port port with paused := Cells.erase (d.port port).paused prio } := by
  simp only [Device.pfcExpire, h]

/-- Settles O40: a frame by its length, FCS and type, a packet by the checks in order (`Device.aqPacket_of_shaped`, `Device.contextPacket`),
data by the window (`Device.acceptData`); a neighbour is answered while fewer than 1,000 answers went out in the present second of device
time, and a PFC frame acts on each priority by itself (`find?_pausesAfter`). That a quantum is 512 bit times at 800 Gb/s is log 55's, and that
the end of a pause moves device time log 8's. -/
theorem aqueductFramesAndPorts : Obligations.AqueductFramesAndPorts := by
  refine ⟨fun s port f => ?received, fun s port mac ip target enable times prio hmac hip htarget => ?ports⟩
  case received =>
    intro d b whole
    have hframe : s.Does (.frameReceive port f) (d.frameReceive port f) := rfl
    refine ⟨fun hbad => hframe.of_eq (Device.frameReceive_of_bad hbad), fun hwhole hlong => hframe.of_eq (Device.frameReceive_of_long hwhole hlong),
      fun hwhole hlen htype g hread hport hptp1 hptp2 hlocal =>
        hframe.of_eq (Device.frameReceive_of_datagram hwhole hlen htype hread hport ⟨hptp1, hptp2⟩ hlocal),
      fun hwhole hlen htype => hframe.of_eq (Device.frameReceive_of_otherType hwhole hlen htype), fun g => ?packet,
      fun fl x p ce hpeer hphase => ?data⟩
    case packet =>
      intro n head kind op flags mid plen crcOk shape
      have hflow {r : Option Flow} (hcrc : crcOk) (hshape : shape) (hx : d.flow g.flowNum = r) :
          d.aqPacket g = r.elim (d.bump Reg.AQ_NOFLOW 1) (d.contextPacket g) := hx ▸ Device.aqPacket_of_shaped hcrc hshape
      refine ⟨fun hcrc => Device.aqPacket_of_badCrc hcrc, fun hcrc hshape => Device.aqPacket_of_malformed hcrc hshape,
        fun hcrc hshape hx => hflow hcrc hshape hx, fun hcrc hshape x hx => ?_⟩
      intro known
      refine ⟨fun hknown => (hflow hcrc hshape hx).trans (Device.contextPacket_of_foreign hknown),
        fun hknown henc => (hflow hcrc hshape hx).trans (Device.contextPacket_of_mismatch hknown henc), fun hknown henc hplain hkey => ?_⟩
      have haccept := (hflow hcrc hshape hx).trans (Device.contextPacket_of_plain hknown henc hplain hkey)
      exact ⟨fun hkind => haccept.trans (if_pos hkind), fun hkind => haccept.trans (if_neg hkind)⟩
    case data =>
      exact ⟨fun hold => Device.acceptData_of_not_fresh hpeer hphase hold fl ce, fun hnew hroom hactive hquiet hfew hcurrent =>
        Device.acceptData_of_fresh hpeer hphase hnew hroom hactive hquiet hfew hcurrent fl ce⟩
  case ports =>
    intro d q n pr sent arp
    have hsent (type : Nat) (body : List Byte) (hfew : n < 1000) : d.answer port mac type body = sent type body :=
      Device.answer_of_few hfew mac type body
    have harp (h4 : target < 2 ^ 32) : s.Does (.arpRequest port mac ip target) (d.arpRequest port mac ip target) := by
      have hrow : s.Does (.arpRequest port mac ip target) (d.arpRequest port (mac % 2 ^ 48) (ip % 2 ^ 32) (target % 2 ^ 32)) := rfl
      rwa [Nat.mod_eq_of_lt hmac, Nat.mod_eq_of_lt hip, Nat.mod_eq_of_lt h4] at hrow
    have hip6 : ip < 2 ^ 128 := hip.trans (by decide)
    have hsolicit : s.Does (.neighborSolicitation port mac ip target) (d.neighborSolicit port mac ip target) := by
      have hrow : s.Does (.neighborSolicitation port mac ip target)
        (d.neighborSolicit port (mac % 2 ^ 48) (ip % 2 ^ 128) (target % 2 ^ 128)) := rfl
      rwa [Nat.mod_eq_of_lt hmac, Nat.mod_eq_of_lt hip6, Nat.mod_eq_of_lt htarget] at hrow
    have hpfc : s.Does (.pfcFrame port enable times) (d.pfcFrame port enable times) := rfl
    have hexpire : s.Does (.pfcPauseExpiry port prio) (d.pfcExpire port prio) := rfl
    exact ⟨fun h4 hheld hfew => (harp h4).of_eq ((Device.arpRequest_of_held hheld ..).trans (hsent _ _ hfew)),
      fun h4 hheld hmany => (harp h4).of_eq ((Device.arpRequest_of_held hheld ..).trans (Device.answer_of_many hmany ..)),
      fun h4 hnone => (harp h4).of_eq (Device.arpRequest_of_none hnone ..),
      fun hheld hfew => ⟨d.advertisement port ip target, hsolicit.of_eq ((Device.neighborSolicit_of_held hheld ..).trans (hsent _ _ hfew)),
        Device.advertisement_fields d port hip6 htarget⟩,
      fun hnone => hsolicit.of_eq (Device.neighborSolicit_of_none hnone ..),
      ⟨pausesAfter enable times d.now q.paused, hpfc, fun hrising i hi => find?_pausesAfter hrising hi⟩,
      fun t hpaused => hexpire.of_eq (Device.pfcExpire_of_paused hpaused)⟩

end Machine
end Sys2Proof
end

section
/-!
The descriptors of the transport and their doorbells (R424, R425), and the timers of a flow (R419, R420, R433, R434, R435).
-/
namespace Sys2Proof
namespace Machine

/-! ## The oldest taken descriptor (R425) -/

section Descriptor

variable {d d1 : Device} {t : Taken} {rest : List Taken} {op : Nat} (htaken : d.aq.taken = t :: rest) (hop : dOp t.bytes = op)
include htaken hop

theorem Device.aqDesc_of_message {m : TxMsg} (hm : ({ d with aq := { d.aq with taken := rest } } : Device).descMessage t = (d1, .ok m)) :
    d.aqDesc op = d1.aqPost (dFlow t.bytes) m := by
  simp only [Device.aqDesc, htaken, hop, ne_eq, not_true_eq_false, if_false, hm]

theorem Device.aqDesc_of_refused {st : Nat} (hst : ({ d with aq := { d.aq with taken := rest } } : Device).descMessage t = (d1, .error st)) :
    d.aqDesc op = d1.aqRecord t.part (dComp t.bytes) st t.stroke (dSignal t.bytes) := by
  simp only [Device.aqDesc, htaken, hop, ne_eq, not_true_eq_false, if_false, hst, Device.descDone]

end Descriptor

/-- A timed descriptor of a stroke that is over is cancelled (R425). -/
theorem Device.descMessage_of_older {d : Device} {t : Taken} (htimed : dUntimed t.bytes = false)
    (hold : strokeOlder t.stroke (d.strokeOf t.part) = true) : d.descMessage t = (d, .error St.CANCELLED) :=
  if_pos (by rw [htimed, hold]; rfl)

/-! ## Doorbells (R424) -/

/-- An entry is read whole and taken, where its OP is one of R425; one that cannot be read leaves a record. -/
def Device.takeEntry (d : Device) (q : WorkQueue) (stroke i : Nat) : Device :=
  let r := d.readVa q.part (q.ring + 64 * i) 64
  if r.2.2.1 ≠ St.OK then r.1.aqFault q.part stroke r.2.2.1 q.entry r.2.2.2 0
  else if dOp r.2.1 ∈ [1, 2, 4, 5, 7, 8] then
    { r.1 with aq := { r.1.aq with taken := r.1.aq.taken ++ [{ part := q.part, entry := q.entry, stroke := stroke, bytes := r.2.1 }] } }
  else r.1.aqRecord q.part (dComp r.2.1) St.BAD_FIELD stroke (dSignal r.2.1)

theorem Device.wqDoorbell_eq (d : Device) :
    d.wqDoorbell = d.doorbell 1 (fun d q stroke => d.aqFault q.part stroke St.BAD_RANGE q.entry 0 0)
      (fun d q i stroke => d.takeEntry q stroke i) := by
  have hop (n : Nat) : (n = 0 ∨ n = 3 ∨ n = 6 ∨ n > 8) ↔ ¬ n ∈ [1, 2, 4, 5, 7, 8] := by
    simp only [List.mem_cons, List.not_mem_nil, or_false]; omega
  simp only [Device.wqDoorbell, Device.takeEntry, hop, ite_not, Device.descDone]

/-- How far a ring index lies ahead of the consumer index. -/
def WorkQueue.ahead (q : WorkQueue) (i : Nat) : Nat := (i + 2 ^ q.log2 - q.cons) % 2 ^ q.log2

theorem WorkQueue.doorbell_of_bad {q : WorkQueue} {prod : Nat} (h : 2 ^ q.log2 ≤ prod ∨ q.ahead prod < q.ahead q.last) :
    q.doorbell prod = .bad := by
  simp only [WorkQueue.ahead] at h
  rcases h with h | h
  · exact if_pos h
  · simp only [WorkQueue.doorbell, if_pos h, ite_self]

theorem WorkQueue.doorbell_of_new {q : WorkQueue} {prod : Nat} (hin : prod < 2 ^ q.log2) (hahead : q.ahead q.last ≤ q.ahead prod)
    (hnew : prod ≠ q.last) : q.doorbell prod = .take (q.ahead prod) :=
  (if_neg (Nat.not_le.2 hin)).trans ((if_neg (Nat.not_lt.2 hahead)).trans (if_neg hnew))

section Doorbell

variable {d e : Device} {unit : Nat} {y : Seen} {q : WorkQueue} (hseen : d.takeSeen unit = some (y, e))
  (hqueue : e.aq.queues.filter (fun q => q.unit == unit && q.cw == y.cw) = [q]) (bad : Device → WorkQueue → Nat → Device)
  (take : Device → WorkQueue → Nat → Nat → Device)
include hseen hqueue

theorem Device.doorbell_of_bad (h : q.doorbell (leAt y.bytes 0 4) = .bad) : d.doorbell unit bad take = bad e q (leAt y.bytes 4 4) := by
  simp only [Device.doorbell, hseen, hqueue, List.foldl_cons, List.foldl_nil, h]

theorem Device.doorbell_of_take {n : Nat} (h : q.doorbell (leAt y.bytes 0 4) = .take n) :
    d.doorbell unit bad take =
      ((List.range n).foldl (fun d i => take d q ((q.cons + i) % 2 ^ q.log2) (leAt y.bytes 4 4)) e).setQueueIdx q (leAt y.bytes 0 4)
        (leAt y.bytes 0 4) := by
  simp only [Device.doorbell, hseen, hqueue, List.foldl_cons, List.foldl_nil, h]

end Doorbell

/-! ## Timers -/

section Timers

variable {d : Device} {f : Nat} {x : Flow} (hx : d.flow f = some x)
include hx

theorem Device.ackTimer_of_unacked {t : Nat} (ht : x.firstUnacked = some t) :
    d.ackTimer f = ({ d with now := max d.now (t + 2000 * nsUnit) } : Device).sendAck f := by
  simp only [Device.ackTimer, hx, Option.bind_some, ht]

theorem Device.helloRetry_of_opening (hphase : x.phase = .opening) :
    d.helloRetry f =
      let e := { d with now := max d.now (x.helloAt + 100000 * nsUnit) }
      (e.setFlow f { x with helloAt := e.now }).sendHello f 1 := by
  have hopening : (x.phase == .opening) = true := beq_iff_eq.2 hphase
  simp only [Device.helloRetry, hx, hopening, if_true]
  exact congrArg (Device.sendHello · f 1) (Device.modFlow_of_flow (d := { d with now := max d.now (x.helloAt + 100000 * nsUnit) }) hx _)

theorem Device.flowTimeout_of_phase {phase : FlowPhase} (hphase : x.phase = phase) (status : Nat) :
    d.flowTimeout f phase status = ({ d with now := max d.now (x.since + secUnit) } : Device).endFlow f status := by
  simp only [Device.flowTimeout, hx, hphase, beq_self_eq_true, if_true]

/-- A period without an ACK whose CE is nonzero raises the rate (R435). -/
theorem Device.ratePeriod_of_quiet (hquiet : ∀ t, x.ceAt = some t → t + d.aqPeriod ≤ d.now) :
    d.ratePeriod f = d.setFlow f { x with rate := max x.rate (min d.lineRate (x.rate + d.fld Reg.AQ_CC 23 16 * 1000000000)) } := by
  rw [Device.ratePeriod, Device.modFlow_of_flow hx]
  cases hce : x.ceAt with
  | none => simp only [if_true]
  | some t => simp only [hquiet t hce, decide_true, if_true]

theorem Device.ratePeriod_of_marked (hmarked : ¬ ∀ t, x.ceAt = some t → t + d.aqPeriod ≤ d.now) : d.ratePeriod f = d.setFlow f x := by
  rw [Device.ratePeriod, Device.modFlow_of_flow hx]
  cases hce : x.ceAt with
  | none => exact absurd (by simp [hce]) hmarked
  | some t =>
    have hlate : ¬ t + d.aqPeriod ≤ d.now := fun hle => hmarked fun u hu => by simp_all
    simp only [hlate, decide_false, Bool.false_eq_true, if_false]

/-- The only packet of the window, unless it has been sent LIMIT + 1 times, goes out again (R434). -/
theorem Device.retransmit_single {q : TxPkt} (hinflight : x.inflight = [q]) :
    d.retransmit f q.psn =
      if q.sends ≥ d.aqLimit + 1 then d.breakFlow f
      else (d.setFlow f { x with inflight := [{ q with sentAt := none, passed := 0 }] }).pump f := by
  simp [Device.retransmit, hx, hinflight]

/-- AQ_RTO after the only packet of the window was sent, it is retransmitted (R434). -/
theorem Device.rtoExpire_single {q : TxPkt} {t : Nat} (hskips : x.skips = []) (hinflight : x.inflight = [q]) (hsent : q.sentAt = some t) :
    d.rtoExpire f = ({ d with now := max d.now (t + d.aqRto) } : Device).retransmit f q.psn := by
  have hrto : ({ d with now := max d.now (t + d.aqRto) } : Device).aqRto = d.aqRto := rfl
  simp [Device.rtoExpire, hx, hskips, hinflight, hsent, hrto]

end Timers

end Machine
end Sys2Proof
end

section
/-!
The work queues of a partition enabled and drained (R422), and the ports of the spray set (R441, R442, R443, R444).
-/
namespace Sys2Proof
namespace Machine

/-! ## Enabling and draining (R422) -/

section Enable

variable {d : Device} {p : Nat}

theorem Device.aqPenEnable_of_idle (hpen : d.flag Reg.AQ_CTL (16 + p) = false) (hdrain : d.flag Reg.AQ_STATUS (16 + p) = false) :
    d.aqPenEnable p = d.aqEnableNow p :=
  (if_neg (Bool.eq_false_iff.1 hpen)).trans (if_neg (Bool.eq_false_iff.1 hdrain))

/-- An enable during a drain is held (R422). -/
theorem Device.aqPenEnable_of_draining (hpen : d.flag Reg.AQ_CTL (16 + p) = false) (hdrain : d.flag Reg.AQ_STATUS (16 + p) = true)
    (hnew : p ∉ d.aq.heldEnable) : d.aqPenEnable p = { d with aq := { d.aq with heldEnable := d.aq.heldEnable ++ [p] } } :=
  (if_neg (Bool.eq_false_iff.1 hpen)).trans ((if_pos hdrain).trans (if_neg (mt List.contains_iff_mem.1 hnew)))

/-- The device once a held enable of the partition is withdrawn. -/
def Device.aqWithdraw (d : Device) (p : Nat) : Device :=
  ({ d with aq := { d.aq with heldEnable := d.aq.heldEnable.filter (· != p) } } : Device).answerEnable p St.CANCELLED

/-- A disable stops the taking, and PDRAIN stands while messages remain (R422). -/
theorem Device.aqPenDisable_of_enabled (hpen : (d.aqWithdraw p).flag Reg.AQ_CTL (16 + p) = true) :
    d.aqPenDisable p =
      let e := ((d.aqWithdraw p).setFlag Reg.AQ_CTL (16 + p) false).disarmQueues 1 p
      e.setFlag Reg.AQ_STATUS (16 + p) (!e.aqDrained p) :=
  if_neg (by simpa [Device.aqWithdraw] using hpen)

/-- The end of a drain clears PDRAIN, and carries out an enable that is held. -/
theorem Device.aqDrainEnd_of_drained (hdrain : d.flag Reg.AQ_STATUS (16 + p) = true) (hdone : d.aqDrained p = true) :
    d.aqDrainEnd p =
      let e := d.setFlag Reg.AQ_STATUS (16 + p) false
      if p ∈ d.aq.heldEnable then
        (({ e with aq := { e.aq with heldEnable := e.aq.heldEnable.filter (· != p) } } : Device).aqEnableNow p).answerEnable p
          St.ENABLE_DEFERRED
      else e := by
  simp only [Device.aqDrainEnd, hdrain, hdone, Bool.and_self, if_true, Device.setFlag_aq, List.contains_iff_mem]

end Enable

/-! ## Ports (R441, R442, R443, R444) -/

section Ports

variable {d : Device} {i : Nat}

theorem Device.portRemove_of_spraying (h : ((d.setPortFlag i 28 false).answerPort i St.CANCELLED).flag (Reg.AQ_PORT_CTL i) 31 = true) :
    d.portRemove i = (((d.setPortFlag i 28 false).answerPort i St.CANCELLED).setFlag (Reg.AQ_PORT_CTL i) 31 false).portLeave i := if_pos h

theorem Device.portReadmit_of_free (h : (d.setFlag (Reg.AQ_PORT_CTL i) 31 true).portHolds i = false) :
    d.portReadmit i = (d.setFlag (Reg.AQ_PORT_CTL i) 31 true).portJoin i := if_neg (Bool.eq_false_iff.1 h)

/-- A readmission of a port that drains or recalibrates is held (R442). -/
theorem Device.portReadmit_of_held (h : (d.setFlag (Reg.AQ_PORT_CTL i) 31 true).portHolds i = true)
    (hwas : d.flag (Reg.AQ_PORT_CTL i) 31 = false) :
    d.portReadmit i = (d.setFlag (Reg.AQ_PORT_CTL i) 31 true).setPortFlag i 28 true := (if_pos h).trans (if_neg (Bool.eq_false_iff.1 hwas))

/-- A recalibration asked for while one is pending or running merges with it (R443). -/
theorem Device.portRecal_of_pending (h : d.flag (Reg.AQ_PORT_CTL i) 30 = true) : d.portRecal i = d := if_pos h

theorem Device.portRecal_of_idle (h : d.flag (Reg.AQ_PORT_CTL i) 30 = false) :
    d.portRecal i = ((d.setFlag (Reg.AQ_PORT_CTL i) 30 true).portLeave i).portRecalStart i := if_neg (Bool.eq_false_iff.1 h)

theorem Device.portDrainEnd_of_draining (h : d.portFlag i 29 = true) :
    d.portDrainEnd i =
      ((({ d with aq := { d.aq with txq := d.aq.txq.filter (fun f => f.port != i) } } : Device).setPortFlag i 29 false).portRecalStart
        i).portDeferred i := if_pos h

theorem Device.recalEnd_of_running (h : d.portFlag i 27 = true) :
    d.recalEnd i =
      let e := ((d.setPortFlag i 27 false).setFlag (Reg.AQ_PORT_CTL i) 30 false).fire (Evt.PORT i)
      let e := (e.port i).recalWaiters.foldl (fun d id => d.complete id St.OK 0) (e.setPort i { e.port i with recalWaiters := [] })
      if e.portFlag i 28 then e.portDeferred i else e.portJoin i := if_neg (by simpa using h)

theorem Device.portLinkDown_of_up (h : d.portFlag i 31 = true) :
    d.portLinkDown i =
      ((((((d.setPortFlag i 31 false).setFld (Reg.AQ_PORT_STATUS i) 7 0 0).setFlag Reg.AQ_STATUS (8 + i) false).setSpray i false).bump
        (Reg.AQ_LINK_DOWN i) 1).fire (Evt.PORT i)).showPtpPort := if_neg (by simpa using h)

theorem Device.portLinkUp_of_down (himage : d.noImage 2 = false) (hdown : d.portFlag i 31 = false) :
    d.portLinkUp i =
      let e := (((d.setPortFlag i 31 true).setFld (Reg.AQ_PORT_STATUS i) 7 0 0xFF).setFlag Reg.AQ_STATUS (8 + i) true).fire (Evt.PORT i)
      (if e.portFlag i 28 then e else e.portJoin i).showPtpPort := by
  simp only [Device.portLinkUp, himage, hdown, Bool.false_eq_true, if_false]

theorem Device.portIface_of_same {v : Nat} (h : d.fld (Reg.AQ_PORT_CTL i) 1 0 = v) : d.portIface i v = d := if_pos h

/-- A change of the interface takes the link down (R444). -/
theorem Device.portIface_of_change {v : Nat} (h : d.fld (Reg.AQ_PORT_CTL i) 1 0 ≠ v) :
    d.portIface i v = (d.setFld (Reg.AQ_PORT_CTL i) 1 0 v).portLinkDown i := if_neg h

end Ports

/-- The rows of the descriptors by their OP. -/
theorem State.does_aqDesc (s : State) :
    ∀ row ∈ ([(1, .aqDescWrite), (2, .aqDescRead), (4, .aqDescRacc), (5, .aqDescAtomic), (7, .aqDescSend), (8, .aqDescFence)] :
      List (Nat × Instr)), s.Does row.2 (s.dev.aqDesc row.1) := by
  repeat refine List.forall_mem_cons.2 ⟨rfl, ?_⟩
  exact List.forall_mem_nil _

/-- Settles O43: the oldest taken descriptor by what `Device.descMessage` makes of it, a doorbell by `WorkQueue.doorbell`, each timer from the
context it finds, and the queues and ports by the flags that decide their rows. That timers move device time is log 8's, held readmissions and
the closing of flows are log 54's, what a drain takes is log 55's, a link that comes up without an image is log 69's, and that a withdrawn
enable ends with ST_CANCELLED is of R489 and R490. -/
theorem descriptorsTimersAndQueues : Obligations.DescriptorsTimersAndQueues := by
  refine ⟨fun s f => ?flows, fun s p i iface => ?queues⟩
  case flows =>
    intro d
    refine ⟨?descriptors, ?doorbell, fun x t hx ht => ?ack, fun x hx => ?timers⟩
    case descriptors =>
      intro row hrow t rest htaken hop e
      have hdoes := s.does_aqDesc row hrow
      exact ⟨fun d1 m hm => hdoes.of_eq (Device.aqDesc_of_message htaken hop hm),
        fun d1 st hst => hdoes.of_eq (Device.aqDesc_of_refused htaken hop hst), fun htimed hold => Device.descMessage_of_older htimed hold⟩
    case doorbell =>
      intro y q hseen hqueue e prod n ahead stroke take
      have hrow : s.Does .wqDoorbell d.wqDoorbell := rfl
      rw [Device.wqDoorbell_eq] at hrow
      exact ⟨fun hbad => hrow.of_eq (Device.doorbell_of_bad hseen hqueue _ _ (WorkQueue.doorbell_of_bad hbad)),
        fun hin hahead hnew => hrow.of_eq (Device.doorbell_of_take hseen hqueue _ _ (WorkQueue.doorbell_of_new hin hahead hnew))⟩
    case ack => exact State.Does.of_eq (d := d.ackTimer f) rfl (Device.ackTimer_of_unacked hx ht)
    case timers =>
      refine ⟨fun hopening => ⟨State.Does.of_eq (d := d.helloRetry f) rfl (Device.helloRetry_of_opening hx hopening),
          State.Does.of_eq (d := d.flowTimeout f .opening St.FLOW_BROKEN) rfl (Device.flowTimeout_of_phase hx hopening _)⟩,
        fun hclosing => State.Does.of_eq (d := d.flowTimeout f .closing St.OK) rfl (Device.flowTimeout_of_phase hx hclosing _),
        ⟨fun hquiet => State.Does.of_eq (d := d.ratePeriod f) rfl (Device.ratePeriod_of_quiet hx hquiet),
          fun hmarked => State.Does.of_eq (d := d.ratePeriod f) rfl (Device.ratePeriod_of_marked hx hmarked)⟩,
        fun hskips q t hinflight hsent => ?_⟩
      intro e
      exact State.Does.of_eq (d := d.rtoExpire f) rfl
        ((Device.rtoExpire_single hx hskips hinflight hsent).trans (Device.retransmit_single (d := e) hx hinflight))
  case queues =>
    intro d pen pdrain withdrawn
    have hdrainEnd : s.Does (.aqPdrainEnd p) (d.aqDrainEnd p) := rfl
    refine ⟨fun hpen hdrain => State.Does.of_eq (d := d.aqPenEnable p) rfl (Device.aqPenEnable_of_idle hpen hdrain),
      fun hpen hdrain hnew => State.Does.of_eq (d := d.aqPenEnable p) rfl (Device.aqPenEnable_of_draining hpen hdrain hnew),
      fun hpen => State.Does.of_eq (d := d.aqPenDisable p) rfl (Device.aqPenDisable_of_enabled hpen),
      fun hdrain hdone =>
        ⟨fun hfree => hdrainEnd.of_eq ((Device.aqDrainEnd_of_drained hdrain hdone).trans (if_neg hfree)),
          fun hheld => hdrainEnd.of_eq ((Device.aqDrainEnd_of_drained hdrain hdone).trans (if_pos hheld))⟩,
      fun hspray => State.Does.of_eq (d := d.portRemove i) rfl (Device.portRemove_of_spraying hspray),
      ⟨fun hfree => State.Does.of_eq (d := d.portReadmit i) rfl (Device.portReadmit_of_free hfree),
        fun hheld hwas => State.Does.of_eq (d := d.portReadmit i) rfl (Device.portReadmit_of_held hheld hwas)⟩,
      fun hpending => State.Does.of_eq (d := d.portRecal i) rfl (Device.portRecal_of_pending hpending),
      fun hidle => State.Does.of_eq (d := d.portRecal i) rfl (Device.portRecal_of_idle hidle),
      fun hdraining => State.Does.of_eq (d := d.portDrainEnd i) rfl (Device.portDrainEnd_of_draining hdraining),
      fun hrunning => ⟨d.recalEnd i, rfl, Device.recalEnd_of_running hrunning⟩,
      fun hup => State.Does.of_eq (d := d.portLinkDown i) rfl (Device.portLinkDown_of_up hup),
      fun himage hdown => State.Does.of_eq (d := d.portLinkUp i) rfl (Device.portLinkUp_of_down himage hdown),
      fun hsame => State.Does.of_eq (d := d.portIface i iface) rfl (Device.portIface_of_same hsame),
      fun hchange => State.Does.of_eq (d := d.portIface i iface) rfl (Device.portIface_of_change hchange)⟩

end Machine
end Sys2Proof
end

section
/-!
The order of the queue (00_scope): a step carries out the command at its front.
-/
namespace Sys2Proof
namespace Machine

/-- Settles O1. That commands wait in one queue and are taken from its front is the model's choice (log 1). -/
theorem stepRunsFrontCommand : Obligations.StepRunsFrontCommand := by
  intro s c rest hqueue
  simp only [step, hqueue]

end Machine
end Sys2Proof
end

section
/-!
What the removal of the module does before a power-down leaves its power state as it is (R521, R606), and device time.
-/
namespace Sys2Proof
namespace Machine

/-- What the module keeps of its power: input, rails, temperatures and the governor. -/
def Device.power (d : Device) : PwrState := d.pwr

/-- A change of other fields. By `by rfl`, as `Device.clock_upd` is: the kernel would compare chains of operations by unfolding them. -/
@[simp] theorem Device.power_upd (e : Device) (now cycles : Nat) (regs : Cells Word) (cores : List Core) (mem : Cells Byte)
    (poison : Cells Bool) (symErr : Cells Nat) (granules : Cells Nat) (clusters : List Cluster) (partMask : Cells (BitVec 16))
    (increments : List Increment) (barriers : Cells Barrier) (hostMem : Cells Byte) (watches : List Watch) (seen : List Seen)
    (heldPages : List HeldPage) (dirty : Cells Bool) (red : RedState) (aq : AqState) (upd : UpdState) (svc : SvcState) (tim : TimState)
    (strokes : Cells Stroke) (fault : FaultState) (evt : EvtState) (zn : ZnState) (sec : SecState) (boot : BootState) (free : Nat) :
    (Device.mk now cycles regs cores mem poison symErr granules clusters partMask increments barriers hostMem watches seen heldPages
      dirty red aq upd svc tim strokes fault evt zn sec e.pwr boot free).power = e.power := by rfl

@[simp] theorem Device.power_ite {c : Prop} [Decidable c] (a b : Device) : (if c then a else b).power = if c then a.power else b.power :=
  apply_ite ..

@[simp] theorem Device.power_fst_ite {α : Type} {c : Prop} [Decidable c] (a b : Device × α) :
    (if c then a else b).1.power = if c then a.1.power else b.1.power :=
  apply_ite (fun r : Device × α => r.1.power) ..

@[simp] theorem Device.foldl_power {α : Type} {g : Device → α → Device} (hg : ∀ d x, (g d x).power = d.power) :
    ∀ (l : List α) (d : Device), (l.foldl g d).power = d.power
  | [], _ => rfl
  | x :: l, d => (Device.foldl_power hg l (g d x)).trans (hg d x)

/-- The device that an operation answers beside another value. -/
theorem Device.power_of_fst {α : Type} {d d' : Device} {r : Device × α} {x : α} (e : r = (d', x)) (h : r.1.power = d.power) :
    d'.power = d.power := by rw [e] at h; exact h

/-! ## Registers, cores, faults and DRAM -/

@[simp] theorem Device.setReg_power (d : Device) (k : Nat) (v : Word) : (d.setReg k v).power = d.power := by simp [Device.power]

@[simp] theorem Device.setFld_power (d : Device) (k hi lo v : Nat) : (d.setFld k hi lo v).power = d.power := by simp [Device.power]

@[simp] theorem Device.setFlag_power (d : Device) (k i : Nat) (b : Bool) : (d.setFlag k i b).power = d.power := by simp [Device.power]

@[simp] theorem Device.bump_power (d : Device) (k n : Nat) : (d.bump k n).power = d.power := by simp [Device.power]

@[simp] theorem Device.bump64_power (d : Device) (k n : Nat) : (d.bump64 k n).power = d.power := by simp [Device.power]

@[simp] theorem Device.noteTag_power (d : Device) (k t : Nat) : (d.noteTag k t).power = d.power := by simp [Device.power]

@[simp] theorem Device.bump16_power (d : Device) (k : Nat) (b : Bool) (n : Nat) : (d.bump16 k b n).power = d.power := by
  simp [Device.power]

@[simp] theorem Device.modCore_power (d : Device) (c : Nat) (f : Core → Core) : (d.modCore c f).power = d.power := by simp [Device.power]

@[simp] theorem Device.fire_power (d : Device) (n : Nat) : (d.fire n).power = d.power := by simp [Device.power]

@[simp] theorem Device.firePart_power (d : Device) (p j : Nat) : (d.firePart p j).power = d.power := by simp [Device.power]

@[simp] theorem Device.raise_power (d : Device) (r : FaultRec) : (d.raise r).power = d.power := by simp [Device.power]

@[simp] theorem Device.raisePart_power (d : Device) (p : Option Nat) (r : FaultRec) : (d.raisePart p r).power = d.power := by
  simp [Device.power]

@[simp] theorem Device.coverPoison_power (d : Device) (a e cw n : Nat) : (d.coverPoison a e cw n).power = d.power := by
  induction n generalizing d cw with
  | zero => rfl
  | succ n ih => simp [Device.coverPoison, ih]

@[simp] theorem Device.askRetire_power (d : Device) (key : Nat) : (d.askRetire key).power = d.power := by simp [Device.askRetire]

@[simp] theorem Device.memCe_power (d : Device) (a symbols : Nat) : (d.memCe a symbols).power = d.power := by simp [Device.memCe]

@[simp] theorem Device.memUe_power (d : Device) (a : Nat) : (d.memUe a).power = d.power := by simp [Device.memUe]

@[simp] theorem Device.readCodewords_power (d : Device) (cw n : Nat) : (d.readCodewords cw n).1.power = d.power := by
  induction n generalizing d cw with
  | zero => rfl
  | succ n ih => simp [Device.readCodewords, ih]

@[simp] theorem Device.copyPage_power (d : Device) (p q : Nat) : (d.copyPage p q).power = d.power := by simp [Device.copyPage]

@[simp] theorem Device.copyAhead_power (d : Device) (page n : Nat) : (d.copyAhead page n).power = d.power := by
  induction n generalizing d page with
  | zero => rfl
  | succ n ih => unfold Device.copyAhead; split <;> simp [ih]

@[simp] theorem Device.openPages_power (d : Device) (page n : Nat) : (d.openPages page n).power = d.power := by
  induction n generalizing d page with
  | zero => rfl
  | succ n ih => simp [Device.openPages, ih]

@[simp] theorem Device.notify_power (d : Device) (cw n : Nat) : (d.notify cw n).power = d.power := by simp [Device.notify]

@[simp] theorem Device.memWrite_power (d : Device) (a : Nat) (bs : List Byte) : (d.memWrite a bs).1.power = d.power := by
  simp [Device.memWrite]

@[simp] theorem Device.dramRead_power (d : Device) (a n : Nat) : (d.dramRead a n).1.power = d.power := by simp [Device.dramRead]

@[simp] theorem Device.noteBadWord_power (d : Device) (c w : Nat) : (d.noteBadWord c w).power = d.power := by simp [Device.noteBadWord]

@[simp] theorem Device.sramRead_power (d : Device) (c off n : Nat) : (d.sramRead c off n).1.power = d.power := by simp [Device.sramRead]

@[simp] theorem Device.sramStore_power (d : Device) (c off : Nat) (bs : List Byte) : (d.sramStore c off bs).1.power = d.power := by
  simp [Device.sramStore]

/-! ## Translation and accesses by virtual address -/

@[simp] theorem Device.walkFrom_power (d : Device) (p va table level n : Nat) : (d.walkFrom p va table level n).1.power = d.power := by
  fun_induction Device.walkFrom <;> simp +zetaDelta [*]

@[simp] theorem Device.walk_power (d : Device) (p va : Nat) : (d.walk p va).1.power = d.power := by simp [Device.walk]

@[simp] theorem Device.translate_power (d : Device) (p : Nat) (access : Access) (va : Nat) :
    (d.translate p access va).1.power = d.power := by
  unfold Device.translate; split <;> next e => simpa using Device.power_of_fst e (d.walk_power p va)

@[simp] theorem Device.physRead_power (d : Device) (pa n : Nat) : (d.physRead pa n).1.power = d.power := by
  unfold Device.physRead; split <;> simp

@[simp] theorem Device.physWrite_power (d : Device) (pa : Nat) (bs : List Byte) : (d.physWrite pa bs).1.power = d.power := by
  unfold Device.physWrite; split <;> simp

@[simp] theorem Device.vread_power (d : Device) (p : Nat) (spans : List (Nat × Nat)) : (d.vread p spans).1.power = d.power := by
  fun_induction Device.vread <;> grind [Device.translate_power, Device.physRead_power]

@[simp] theorem Device.readVa_power (d : Device) (p va n : Nat) : (d.readVa p va n).1.power = d.power := by simp [Device.readVa]

@[simp] theorem Device.vwrite_power (d : Device) (p : Nat) (spans : List (Nat × Nat)) (bs : List Byte) :
    (d.vwrite p spans bs).1.power = d.power := by
  fun_induction Device.vwrite <;> grind [Device.translate_power, Device.physWrite_power]

@[simp] theorem Device.writeVa_power (d : Device) (p va : Nat) (bs : List Byte) : (d.writeVa p va bs).1.power = d.power := by
  simp [Device.writeVa]

@[simp] theorem Device.hostWrite_power (d : Device) (a : Nat) (bs : List Byte) : (d.hostWrite a bs).power = d.power := by
  simp [Device.hostWrite]

/-! ## Completions of Zennus commands -/

@[simp] theorem Device.fireFn_power (d : Device) (fn i : Nat) : (d.fireFn fn i).power = d.power := by
  unfold Device.fireFn; split <;> simp

@[simp] theorem Device.writeCompletion_power (d : Device) (r : Ring) (part : Nat) (bs : List Byte) :
    (d.writeCompletion r part bs).power = d.power := by simp [Device.writeCompletion]

@[simp] theorem Device.countCompletion_power (d : Device) (fn status : Nat) : (d.countCompletion fn status).power = d.power := by
  simp [Device.countCompletion]

@[simp] theorem Device.completeOne_power (d : Device) (id status result : Nat) : (d.completeOne id status result).power = d.power := by
  fun_cases Device.completeOne <;> simp +zetaDelta

@[simp] theorem Device.complete_power (d : Device) (id status result : Nat) : (d.complete id status result).power = d.power := by
  simp [Device.complete]

/-! ## Retirement of queue commands -/

@[simp] theorem Device.trace_power (d : Device) (c q : Nat) (e : QEntry) (r : CmdResult) : (d.trace c q e r).power = d.power := by
  simp [Device.trace]

@[simp] theorem Device.cmdFault_power (d : Device) (c q : Nat) (e : QEntry) (f : CmdFault) : (d.cmdFault c q e f).power = d.power := by
  simp [Device.cmdFault]

@[simp] theorem Device.cmdFaults_power (d : Device) (c q : Nat) (e : QEntry) (r : CmdResult) : (d.cmdFaults c q e r).power = d.power := by
  simp [Device.cmdFaults]

@[simp] theorem Device.cmdCounts_power (d : Device) (e : QEntry) (r : CmdResult) : (d.cmdCounts e r).power = d.power := by
  simp [Device.cmdCounts]

@[simp] theorem Device.noteRetire_power (d : Device) (c q : Nat) (e : QEntry) : (d.noteRetire c q e).power = d.power := by
  unfold Device.noteRetire; split <;> simp

@[simp] theorem Device.settleEntry_power (d : Device) (c q : Nat) (e : QEntry) (r : CmdResult) :
    (d.settleEntry c q e r).power = d.power := by simp [Device.settleEntry]

@[simp] theorem Device.answerOwner_power (d : Device) (e : QEntry) (status : Nat) : (d.answerOwner e status).power = d.power := by
  unfold Device.answerOwner; split <;> simp

/-! ## Strokes as sync commands see them -/

@[simp] theorem Device.setStroke_power (d : Device) (p : Nat) (k : Stroke) : (d.setStroke p k).power = d.power := by
  simp [Device.setStroke]

/-! ## Flows and packets that are sent -/

@[simp] theorem Device.setFlow_power (d : Device) (f : Nat) (x : Flow) : (d.setFlow f x).power = d.power := by simp [Device.setFlow]

@[simp] theorem Device.modFlow_power (d : Device) (f : Nat) (g : Flow → Flow) : (d.modFlow f g).power = d.power := by
  unfold Device.modFlow; split <;> simp

@[simp] theorem Device.queueFrame_power (d : Device) (port prio : Nat) (bs : List Byte) : (d.queueFrame port prio bs).power = d.power := by
  simp [Device.queueFrame]

@[simp] theorem Device.sendPacket_power (d : Device) (f kind op flags : Nat) (mid payload : List Byte) :
    (d.sendPacket f kind op flags mid payload).1.power = d.power := by
  fun_cases Device.sendPacket <;> simp +zetaDelta

@[simp] theorem Device.hubSignal_power (d : Device) (core sem stroke : Nat) : (d.hubSignal core sem stroke).power = d.power := by
  simp [Device.hubSignal]

@[simp] theorem Device.descSignal_power (d : Device) (part core sem stroke : Nat) :
    (d.descSignal part core sem stroke).power = d.power := by simp [Device.descSignal]

@[simp] theorem Device.pumpFlow_power (d : Device) (f n : Nat) : (d.pumpFlow f n).power = d.power := by
  induction n generalizing d with
  | zero => rfl
  | succ n ih =>
    unfold Device.pumpFlow
    repeat' split
    all_goals simp [ih]

@[simp] theorem Device.pump_power (d : Device) (f : Nat) : (d.pump f).power = d.power := by
  fun_cases Device.pump <;> simp +zetaDelta

@[simp] theorem Device.aqPost_power (d : Device) (f : Nat) (m : TxMsg) : (d.aqPost f m).power = d.power := by simp [Device.aqPost]

@[simp] theorem Device.aqReduction_power (d : Device) (part f stroke : Nat) (piece : Bool) (xfmt dest : Nat) (bs : List Byte) :
    (d.aqReduction part f stroke piece xfmt dest bs).power = d.power := by
  unfold Device.aqReduction; split <;> simp

/-! ## Reductions -/

@[simp] theorem Device.setBucket_power (d : Device) (i : Nat) (b : Bucket) : (d.setBucket i b).power = d.power := by
  simp [Device.setBucket]

@[simp] theorem Device.redSend_power (d : Device) (b : Bucket) (sender parent pslot : Nat) (piece : Bool) (bs : List Byte) :
    (d.redSend b sender parent pslot piece bs).power = d.power := by simp [Device.redSend]

@[simp] theorem Device.leafAbsent_power (d : Device) (b : Bucket) (l : RedLeaf) : (d.leafAbsent b l).power = d.power := by
  simp [Device.leafAbsent]

@[simp] theorem Device.leavesAbsent_power (d : Device) (i : Nat) : (d.leavesAbsent i).power = d.power := by
  fun_cases Device.leavesAbsent
  · rfl
  · refine Device.foldl_power (fun d j => ?_) ..
    repeat' split
    all_goals simp

@[simp] theorem Device.rewatch_power (d : Device) : d.rewatch.power = d.power := by simp [Device.rewatch]

@[simp] theorem Device.redFree_power (d : Device) : d.redFree.power = d.power := by simp [Device.redFree]

@[simp] theorem Device.eachBucket_power (d : Device) (f : Bucket → Bool) (g : Device → Nat → Device)
    (hg : ∀ d i, (g d i).power = d.power) :
    (d.eachBucket f g).power = d.power := by
  unfold Device.eachBucket; refine Device.foldl_power (fun d b => ?_) ..; split <;> simp [hg]

@[simp] theorem Device.redSettle_power (d : Device) (t i : Nat) : (d.redSettle t i).power = d.power := by
  unfold Device.redSettle; split <;> simp

@[simp] theorem Device.redSluice_power (d : Device) (p t : Nat) : (d.redSluice p t).power = d.power := by simp [Device.redSluice]

/-! ## Boundaries and cancelled commands of a core -/

@[simp] theorem Device.boundary_power (d : Device) (c : Nat) : (d.boundary c).power = d.power := by
  unfold Device.boundary; refine (Device.foldl_power (fun d h => ?_) ..).trans (by simp); split <;> simp

@[simp] theorem Device.cancelEntry_power (d : Device) (c q : Nat) (e : QEntry) : (d.cancelEntry c q e).power = d.power := by
  simp [Device.cancelEntry]

@[simp] theorem Device.leaveBarriers_power (d : Device) (c : Nat) : (d.leaveBarriers c).power = d.power := by simp [Device.leaveBarriers]

@[simp] theorem Device.dropLoad_power (d : Device) (c : Nat) (e : QEntry) : (d.dropLoad c e).power = d.power := by
  unfold Device.dropLoad; split <;> simp

@[simp] theorem Device.cancelQueue_power (d : Device) (c q : Nat) : (d.cancelQueue c q).power = d.power := by simp [Device.cancelQueue]

/-! ## Groups and the update sequencer -/

@[simp] theorem Device.putGrec_power (d : Device) (p g off : Nat) (bs : List Byte) : (d.putGrec p g off bs).power = d.power := by
  simp [Device.putGrec]

@[simp] theorem Device.readGrec_power (d : Device) (p g : Nat) : (d.readGrec p g).1.power = d.power := by simp [Device.readGrec]

@[simp] theorem Device.putGroupFlags_power (d : Device) (p g : Nat) (op torn : Bool) : (d.putGroupFlags p g op torn).power = d.power := by
  simp [Device.putGroupFlags]

@[simp] theorem Device.forgetOpen_power (d : Device) (p g : Nat) : (d.forgetOpen p g).power = d.power := by simp [Device.forgetOpen]

@[simp] theorem Device.updFault_power (d : Device) (part stroke status source index group addr : Nat) :
    (d.updFault part stroke status source index group addr).power = d.power := by simp [Device.updFault]

@[simp] theorem Device.tear_power (d : Device) (p g : Nat) : (d.tear p g).power = d.power := by simp [Device.tear]

@[simp] theorem Device.judgeGroup_power (d : Device) (p g : Nat) : (d.judgeGroup p g).power = d.power := by simp [Device.judgeGroup]

@[simp] theorem Device.applySet_power (d : Device) (s : UpdSet) : (d.applySet s).power = d.power := by
  fun_cases Device.applySet <;> simp +zetaDelta

@[simp] theorem Device.releaseSets_power (d : Device) (p g : Nat) : (d.releaseSets p g).power = d.power := by simp [Device.releaseSets]

@[simp] theorem Device.countUpd_power (d : Device) (p st : Nat) : (d.countUpd p st).power = d.power := by simp [Device.countUpd]

@[simp] theorem Device.noteRefusal_power (d : Device) (p g st : Nat) : (d.noteRefusal p g st).power = d.power := by
  simp [Device.noteRefusal]

@[simp] theorem Device.closeGroup_power (d : Device) (t : UpdDesc) (e : UpdEnd) : (d.closeGroup t e).power = d.power := by
  simp [Device.closeGroup]

@[simp] theorem Device.updDone_power (d : Device) (t : UpdDesc) (e : UpdEnd) : (d.updDone t e).power = d.power := by simp [Device.updDone]

@[simp] theorem Device.updSluice_power (d : Device) (p : Nat) : (d.updSluice p).power = d.power := by simp [Device.updSluice]

/-! ## Schedules and the sluice -/

@[simp] theorem Device.setStk_power (d : Device) (p v : Nat) : (d.setStk p v).power = d.power := by simp [Device.setStk]

@[simp] theorem Device.coreSluice_power (d : Device) (p c : Nat) : (d.coreSluice p c).power = d.power := by simp [Device.coreSluice]

/-! ## Checkpoints and restores -/

@[simp] theorem Device.sliceResult_power (d : Device) (p owner st seq : Nat) : (d.sliceResult p owner st seq).power = d.power := by
  simp [Device.sliceResult]

@[simp] theorem Device.orphan_power (d : Device) (p : Nat) : (d.orphan p).power = d.power := by simp [Device.orphan]

@[simp] theorem Device.sliceEnd_power (d : Device) (p st : Nat) : (d.sliceEnd p st).power = d.power := by
  unfold Device.sliceEnd; split <;> simp

/-! ## Zeroising, scrubs, operations that end -/

@[simp] theorem Device.forceSluice_power (d : Device) (p : Nat) : (d.forceSluice p).power = d.power := by simp [Device.forceSluice]

@[simp] theorem Device.sluiceAll_power (d : Device) : d.sluiceAll.power = d.power := by simp [Device.sluiceAll]

@[simp] theorem Device.closeWindow_power (d : Device) : d.closeWindow.power = d.power := by
  unfold Device.closeWindow; split <;> simp

@[simp] theorem Device.dropOp_power (d : Device) (id : Nat) (c : ZCmd) : (d.dropOp id c).power = d.power := by simp [Device.dropOp]

/-! ## Commands that go without a completion, and the removal of the module (R521, R522) -/

@[simp] theorem Device.dropHeld_power (d : Device) (id : Nat) : (d.dropHeld id).power = d.power := by simp [Device.dropHeld]

@[simp] theorem Device.znForget_power (d : Device) (id : Nat) : (d.znForget id).power = d.power := by
  unfold Device.znForget
  split
  · rfl
  · refine (Device.complete_power ..).trans ?_
    repeat' split
    all_goals simp

theorem Device.surpriseRemoval_power (d : Device) : d.surpriseRemoval.power = d.power := by
  unfold Device.surpriseRemoval
  split <;> simp

@[simp] theorem Device.dropHeld_clock (d : Device) (id : Nat) : (d.dropHeld id).clock = d.clock := by simp [Device.dropHeld]

@[simp] theorem Device.znForget_clock (d : Device) (id : Nat) : (d.znForget id).clock = d.clock := by
  unfold Device.znForget
  split
  · rfl
  · refine (Device.complete_clock ..).trans ?_
    repeat' split
    all_goals simp

theorem Device.surpriseRemoval_clock (d : Device) : d.surpriseRemoval.clock = d.clock := by
  unfold Device.surpriseRemoval
  split <;> simp

end Machine
end Sys2Proof
end

section
/-!
The power input (R606, R607, R608): power-downs and what holds the module off after them.
-/
namespace Sys2Proof
namespace Machine

/-- The module with its outputs off, its next start of the given cause; no warm reset waits any more. -/
def Device.poweredOff (d : Device) (cause : Nat) : Device :=
  { d with
    pwr := { d.pwr with pgOut := false, hotSwap := false, diesOn := false, nextCause := cause }
    boot := { d.boot with warmAsked := none } }

theorem Device.powerDown_of_off {d : Device} (h : d.pwr.pgOut = false) (cause : Nat) : d.powerDown cause = d := by
  simp [Device.powerDown, h]

theorem Device.powerDown_of_on {d : Device} (h : d.pwr.pgOut = true) (cause : Nat) :
    d.powerDown cause = d.surpriseRemoval.poweredOff cause := by
  simp [Device.powerDown, Device.poweredOff, h]

/-- A prepared module takes no actions of a removal (R521). -/
theorem Device.surpriseRemoval_of_prepared {d : Device} (h : d.flag (Reg.ZN_STATUS 0) 29 = true) : d.surpriseRemoval = d := by
  simp [Device.surpriseRemoval, h]

/-- The device after a power-down: the outputs are off and the cause of the next start is recorded, what else holds the module off is as
before, and a prepared module changes in nothing else. -/
structure Device.DownFrom (d d' : Device) (cause : Nat) (latched wait : Bool) : Prop where
  pgOut : d'.pwr.pgOut = false
  diesOn : d'.pwr.diesOn = false
  hotSwap : d'.pwr.hotSwap = false
  nextCause : d'.pwr.nextCause = cause
  latchedOff : d'.pwr.latchedOff = latched
  inputWait : d'.pwr.inputWait = wait
  prepared : d.flag (Reg.ZN_STATUS 0) 29 = true → d' = { d with pwr := d'.pwr, boot := d'.boot }

theorem Device.poweredOff_down (d : Device) (cause : Nat) :
    d.DownFrom (d.surpriseRemoval.poweredOff cause) cause d.pwr.latchedOff d.pwr.inputWait where
  pgOut := rfl
  diesOn := rfl
  hotSwap := rfl
  nextCause := rfl
  latchedOff := (congrArg PwrState.latchedOff d.surpriseRemoval_power :)
  inputWait := (congrArg PwrState.inputWait d.surpriseRemoval_power :)
  prepared h := by rw [Device.surpriseRemoval_of_prepared h]; rfl

/-- A change after a power-down of what holds the module off. -/
theorem Device.DownFrom.upd {d d' : Device} {cause : Nat} {latched latched' wait wait' : Bool} (h : d.DownFrom d' cause latched wait)
    {w : PwrState} (hw : w = { d'.pwr with pwrEn := w.pwrEn, latchedOff := w.latchedOff, inputWait := w.inputWait, rail := w.rail })
    (hlatched : w.latchedOff = latched') (hwait : w.inputWait = wait') : d.DownFrom { d' with pwr := w } cause latched' wait' where
  pgOut := (congrArg PwrState.pgOut hw).trans h.pgOut
  diesOn := (congrArg PwrState.diesOn hw).trans h.diesOn
  hotSwap := (congrArg PwrState.hotSwap hw).trans h.hotSwap
  nextCause := (congrArg PwrState.nextCause hw).trans h.nextCause
  latchedOff := hlatched
  inputWait := hwait
  prepared hprep := by rw [h.prepared hprep]

theorem State.does_down {s : State} {i : Instr} {d' : Device} {cause : Nat} {latched wait : Bool} (hdoes : s.Does i d')
    (h : s.dev.DownFrom d' cause latched wait) :
    ∃ d' : Device, s.Does i d' ∧ d'.pwr.pgOut = false ∧ d'.pwr.diesOn = false ∧ d'.pwr.hotSwap = false ∧ d'.pwr.nextCause = cause ∧
      d'.pwr.latchedOff = latched ∧ d'.pwr.inputWait = wait ∧
      (s.dev.flag (Reg.ZN_STATUS 0) 29 = true → d' = { s.dev with pwr := d'.pwr, boot := d'.boot }) :=
  ⟨d', hdoes, h.pgOut, h.diesOn, h.hotSwap, h.nextCause, h.latchedOff, h.inputWait, h.prepared⟩

/-- Settles O58: with the outputs on every cause takes the one power-down (`Device.powerDown_of_on`), whose removal actions leave the power state
alone, and then records what holds the module off; with the outputs off only that is recorded. That PWR_EN low while off leaves cause 1, and
that inputs that rise or come back remove only what holds the module off, is log 25's; that commands go on while PG_OUT is low is log 11's. -/
theorem inputEventsPowerDown : Obligations.InputEventsPowerDown := by
  intro s rail d down
  refine ⟨fun hon => ?on, fun hoff => ?off, rfl, rfl⟩
  case on =>
    have hdown (cause : Nat) : d.powerDown cause = d.surpriseRemoval.poweredOff cause := Device.powerDown_of_on hon cause
    have hpwr (cause : Nat) := d.poweredOff_down cause
    have hlost : d.inputLost = { d.surpriseRemoval.poweredOff 2 with pwr := { (d.surpriseRemoval.poweredOff 2).pwr with inputWait := true } } := by
      rw [Device.inputLost, hdown]
    have hrail : s.Does (.railFault rail) { d.surpriseRemoval.poweredOff 1 with
        pwr := { (d.surpriseRemoval.poweredOff 1).pwr with latchedOff := true, rail := some rail } } :=
      State.Does.of_eq (d := d.railFault rail) rfl (by simp [Device.railFault, hon, hdown])
    refine ⟨State.does_down (State.Does.of_eq (d := d.inputLost) rfl hlost) ((hpwr 2).upd rfl (hpwr 2).latchedOff rfl),
      State.does_down (d' := d.inputOver) rfl ?_,
      State.does_down (d' := d.inputCurrent) rfl ?_,
      State.does_down hrail ((hpwr 1).upd rfl rfl (hpwr 1).inputWait),
      State.does_down (d' := d.pwrEnFall) rfl ?_, ⟨_, hrail, rfl⟩,
      State.Does.of_eq (d := d.inputExcursion) rfl (if_pos hon)⟩
    · rw [Device.inputOver, hlost]
      exact (hpwr 2).upd rfl (hpwr 2).latchedOff rfl
    · rw [Device.inputCurrent, hdown]
      exact (hpwr 1).upd rfl rfl (hpwr 1).inputWait
    · rw [Device.pwrEnFall, hdown]
      exact (hpwr 1).upd rfl rfl (hpwr 1).inputWait
  case off =>
    have hdown (cause : Nat) : d.powerDown cause = d := Device.powerDown_of_off hoff cause
    exact ⟨State.Does.of_eq (d := d.inputLost) rfl (by rw [Device.inputLost, hdown]),
      State.Does.of_eq (d := d.inputOver) rfl (by rw [Device.inputOver, Device.inputLost, hdown]),
      State.Does.of_eq (d := d.inputCurrent) rfl (by rw [Device.inputCurrent, hdown]),
      State.Does.of_eq (d := d.railFault rail) rfl (by simp [Device.railFault, hoff]),
      State.Does.of_eq (d := d.inputExcursion) rfl (by simp [Device.inputExcursion, hoff]),
      State.Does.of_eq (d := d.pwrEnFall) rfl (by rw [Device.pwrEnFall, hdown])⟩

end Machine
end Sys2Proof
end

section
/-!
Registers of the event, security and power blocks: which lie apart, and flags and fields of one register beside another (R9, R495).
-/
namespace Sys2Proof
namespace Machine

/-- The registers of the event sources lie below those of their sets and of the later blocks (R495). -/
theorem Reg.evtSrc_ne {n k : Nat} (hn : n < 4096) (hk : Reg.EVT_SRC 4096 ≤ k) : Reg.EVT_SRC n ≠ k := by
  simp only [Reg.EVT_SRC] at hk ⊢
  omega

theorem Reg.evtSrc_inj {m n : Nat} : Reg.EVT_SRC m = Reg.EVT_SRC n ↔ m = n := by
  simp only [Reg.EVT_SRC]
  omega

theorem Device.flag_congr {d e : Device} {k : Nat} (h : d.reg k = e.reg k) (i : Nat) : d.flag k i = e.flag k i :=
  congrArg (fun w : Word => w.toNat.testBit i) h

theorem Device.reg_setReg_same {d : Device} (h : d.Sound) (k : Nat) (v : Word) : (d.setReg k v).reg k = v :=
  (d.reg_setReg (Cells.wf_rising h.wfRegs) k v k).trans (if_pos rfl)

theorem Device.reg_setReg_ne {d : Device} (h : d.Sound) {k j : Nat} (v : Word) (hj : j ≠ k) : (d.setReg k v).reg j = d.reg j :=
  (d.reg_setReg (Cells.wf_rising h.wfRegs) k v j).trans (if_neg hj)

section Flags

variable {d : Device} (h : d.Sound) (k : Nat) {i : Nat} (hi : i < 32) (b : Bool)
include h hi

theorem Device.flag_setFlag_same : (d.setFlag k i b).flag k i = b := by
  rw [Device.setFlag, Device.flag_setFld h k hi le_rfl, if_pos ⟨le_rfl, le_rfl⟩, Nat.sub_self]
  cases b <;> rfl

theorem Device.flag_setFlag_apart {j : Nat} (hj : j ≠ i) : (d.setFlag k i b).flag k j = d.flag k j :=
  Device.flag_setFld_apart h k hi le_rfl _ (by omega)

theorem Device.fld_setFlag_apart {hi' lo' : Nat} (hapart : hi' < i ∨ i < lo') : (d.setFlag k i b).fld k hi' lo' = d.fld k hi' lo' :=
  Device.fld_setFld_apart h k hi le_rfl _ hapart

end Flags

theorem Device.reg_setFlag_ne {d : Device} (h : d.Sound) {k j : Nat} (i : Nat) (b : Bool) (hj : j ≠ k) : (d.setFlag k i b).reg j = d.reg j :=
  Device.reg_setFld_ne h _ _ _ hj

/-- A count of one, as a word. -/
theorem Device.reg_bump_one_same {d : Device} (h : d.Sound) (k : Nat) :
    (d.bump k 1).reg k = BitVec.ofNat 32 (min 0xFFFFFFFF ((d.reg k).toNat + 1)) := by
  rw [Device.bump, if_neg Nat.one_ne_zero, Device.reg_setReg_same h]

/-- Device e is d but for its registers. -/
def Device.RegStep (d e : Device) : Prop := e = { d with regs := e.regs }

namespace Device.RegStep

theorem refl (d : Device) : d.RegStep d := rfl

theorem trans {d e f : Device} (hde : d.RegStep e) (hef : e.RegStep f) : d.RegStep f := by
  unfold Device.RegStep at *
  rw [hde] at hef
  exact hef

theorem setReg (d : Device) (k : Nat) (v : Word) : d.RegStep (d.setReg k v) := Device.setReg_shape ..
theorem setFld (d : Device) (k hi lo v : Nat) : d.RegStep (d.setFld k hi lo v) := Device.setFld_shape ..
theorem setFlag (d : Device) (k i : Nat) (b : Bool) : d.RegStep (d.setFlag k i b) := Device.setFld_shape ..
theorem bump (d : Device) (k n : Nat) : d.RegStep (d.bump k n) := Device.bump_shape ..
theorem fire (d : Device) (n : Nat) : d.RegStep (d.fire n) := Device.fire_shape ..

theorem foldl {α : Type} {g : Device → α → Device} (hg : ∀ (d : Device) (x : α), d.RegStep (g d x)) :
    ∀ (l : List α) (d : Device), d.RegStep (l.foldl g d)
  | [], d => .refl d
  | x :: l, d => (hg d x).trans (RegStep.foldl hg l (g d x))

variable {d e : Device} (h : d.RegStep e)
include h

theorem now : e.now = d.now := (congrArg Device.now h :)
theorem cores : e.cores = d.cores := (congrArg Device.cores h :)
theorem mem : e.mem = d.mem := (congrArg Device.mem h :)
theorem hostMem : e.hostMem = d.hostMem := (congrArg Device.hostMem h :)
theorem pwr : e.pwr = d.pwr := (congrArg Device.pwr h :)
theorem zn : e.zn = d.zn := (congrArg Device.zn h :)
theorem evt : e.evt = d.evt := (congrArg Device.evt h :)
theorem boot : e.boot = d.boot := (congrArg Device.boot h :)

end Device.RegStep

/-- Device e is d but for its registers and its power state. -/
def Device.PowerStep (d e : Device) : Prop := e = { d with regs := e.regs, pwr := e.pwr }

namespace Device.PowerStep

theorem refl (d : Device) : d.PowerStep d := rfl

theorem of_reg {d e : Device} (h : d.RegStep e) : d.PowerStep e := Eq.trans (h : e = _) (by rw [h])

theorem trans {d e f : Device} (hde : d.PowerStep e) (hef : e.PowerStep f) : d.PowerStep f := by
  unfold Device.PowerStep at *
  rw [hde] at hef
  exact hef

theorem foldl {α : Type} {g : Device → α → Device} (hg : ∀ (d : Device) (x : α), d.PowerStep (g d x)) :
    ∀ (l : List α) (d : Device), d.PowerStep (l.foldl g d)
  | [], d => .refl d
  | x :: l, d => (hg d x).trans (PowerStep.foldl hg l (g d x))

variable {d e : Device} (h : d.PowerStep e)
include h

theorem now : e.now = d.now := (congrArg Device.now h :)
theorem cores : e.cores = d.cores := (congrArg Device.cores h :)
theorem mem : e.mem = d.mem := (congrArg Device.mem h :)
theorem hostMem : e.hostMem = d.hostMem := (congrArg Device.hostMem h :)

end Device.PowerStep

end Machine
end Sys2Proof
end

section
/-!
The power governor (R615, R616, R617) and the measurements it decides on.
-/
namespace Sys2Proof
namespace Machine

/-! ## The level and what it shows (R567, R615) -/

/-- The level and the pace of the governor's register. -/
def Device.putLevel (d : Device) (n : Nat) : Device := (d.setFld Reg.PWR_GOV 31 29 n).setFld Reg.PWR_GOV 1 0 (n - 3)

theorem Device.showPower_regStep (d : Device) : d.RegStep d.showPower := by
  unfold Device.showPower
  dsimp only
  split
  · exact .trans (.setFlag ..) (.setFld ..)
  · exact .setFlag ..

theorem Device.setLevel_of_same {d : Device} {n : Nat} (h : min n 3 = min d.level 3) : d.setLevel n = (d.putLevel n).showPower := if_pos h

theorem Device.setLevel_of_other {d : Device} {n : Nat} (h : min n 3 ≠ min d.level 3) :
    d.setLevel n = (d.putLevel n).showPower.fire Evt.POWER := if_neg h

theorem Device.setLevel_regStep (d : Device) (n : Nat) : d.RegStep (d.setLevel n) := by
  have hput : d.RegStep (d.putLevel n) := .trans (.setFld ..) (.setFld ..)
  have hshow := hput.trans (Device.showPower_regStep _)
  by_cases h : min n 3 = min d.level 3
  · exact Device.setLevel_of_same h ▸ hshow
  · exact Device.setLevel_of_other h ▸ hshow.trans (.fire ..)

section Level

variable {d : Device} (h : d.Sound) {n : Nat}
include h

theorem Device.putLevel_sound (n : Nat) : (d.putLevel n).Sound := Device.setFld_sound (Device.setFld_sound h ..) ..

theorem Device.reg_putLevel_ne {j : Nat} (hj : j ≠ Reg.PWR_GOV) : (d.putLevel n).reg j = d.reg j :=
  (Device.reg_setFld_ne (Device.setFld_sound h ..) _ _ _ hj).trans (Device.reg_setFld_ne h _ _ _ hj)

theorem Device.reg_showPower_ne {j : Nat} (hj : j ≠ Reg.PWR_STATE) : d.showPower.reg j = d.reg j := by
  have hflag := Device.reg_setFlag_ne h 28 (decide (d.fld Reg.PWR_STATE 25 24 < min (d.fld Reg.PWR_GOV 31 29) 3) ||
    decide (4 ≤ d.fld Reg.PWR_GOV 31 29)) hj
  unfold Device.showPower
  dsimp only
  split
  · exact (Device.reg_setFld_ne (Device.setFlag_sound h _ _ _) _ _ _ hj).trans hflag
  · exact hflag

theorem Device.reg_setLevel_gov : (d.setLevel n).reg Reg.PWR_GOV = (d.putLevel n).reg Reg.PWR_GOV := by
  have hput := Device.putLevel_sound h n
  have hshow : (d.putLevel n).showPower.reg Reg.PWR_GOV = (d.putLevel n).reg Reg.PWR_GOV := Device.reg_showPower_ne hput (by decide)
  by_cases hsame : min n 3 = min d.level 3
  · rw [Device.setLevel_of_same hsame, hshow]
  · rw [Device.setLevel_of_other hsame, Device.reg_fire_ne (Device.showPower_sound hput) (by decide) (by decide), hshow]

theorem Device.level_setLevel (hn : n ≤ 5) : (d.setLevel n).level = n := by
  have hfirst := Device.fld_setFld_same h Reg.PWR_GOV (hi := 31) (lo := 29) (by decide) (by decide) n
  have happart := Device.fld_setFld_apart (Device.setFld_sound h Reg.PWR_GOV 31 29 n) Reg.PWR_GOV (hi := 1) (lo := 0) (by decide)
    (by decide) (n - 3) (hi' := 31) (lo' := 29) (.inr (by decide))
  exact (Device.fld_congr (Device.reg_setLevel_gov h) ..).trans (happart.trans (hfirst.trans (Nat.mod_eq_of_lt (by omega))))

theorem Device.pace_setLevel (hn : n ≤ 5) : (d.setLevel n).fld Reg.PWR_GOV 1 0 = n - 3 :=
  (Device.fld_congr (Device.reg_setLevel_gov h) ..).trans
    ((Device.fld_setFld_same (Device.setFld_sound h ..) Reg.PWR_GOV (by decide) (by decide) (n - 3)).trans (Nat.mod_eq_of_lt (by omega)))

/-- No source fires where the P-state of the level stays. -/
theorem Device.evtState_setLevel (hsame : min n 3 = min d.level 3) {k : Nat} (hk : k < 4096) : (d.setLevel n).evtState k = d.evtState k := by
  rw [Device.setLevel_of_same hsame]
  exact Device.fld_congr ((Device.reg_showPower_ne (Device.putLevel_sound h n) (Reg.evtSrc_ne hk (by decide))).trans
    (Device.reg_putLevel_ne h (Reg.evtSrc_ne hk (by decide)))) ..

end Level

/-! ## The warning at level 5 (R617) -/

/-- OVER is told with POWER, or only the moments behind it change. -/
theorem Device.watchOver_cases (d : Device) : ∃ w : PwrState,
    d.watchOver = { d with pwr := w } ∨ d.watchOver = (({ d with pwr := w } : Device).setFlag Reg.PWR_GOV 28 true).fire Evt.POWER := by
  unfold Device.watchOver
  dsimp only
  split
  · exact ⟨_, .inl rfl⟩
  · split
    · exact ⟨_, .inl rfl⟩
    · exact ⟨_, .inr rfl⟩

theorem Device.watchOver_powerStep (d : Device) : d.PowerStep d.watchOver := by
  obtain ⟨w, h | h⟩ := d.watchOver_cases
  · rw [h]; rfl
  · rw [h]
    exact .trans (e := { d with pwr := w }) rfl (.of_reg (.trans (.setFlag ..) (.fire ..)))

theorem Device.level_watchOver {d : Device} (hd : d.Sound) : d.watchOver.level = d.level := by
  obtain ⟨w, h | h⟩ := d.watchOver_cases
  · rw [h]; rfl
  · have hw : Device.Sound { d with pwr := w } := hd.upd
    rw [h]
    exact (Device.fld_congr (Device.reg_fire_ne (Device.setFlag_sound hw _ _ _) (by decide) (by decide)) ..).trans
      (Device.fld_setFlag_apart hw Reg.PWR_GOV (by decide) _ (.inr (by decide)))

/-! ## The decision (R615) -/

/-- The device at its next decision. -/
def Device.atDecision (d : Device) : Device :=
  let t := max d.now (d.pwr.govAt + 100000 * nsUnit)
  { d with now := t, pwr := { d.pwr with govAt := t } }

/-- A10 has stayed below 95 % of the limit for 10 ms. -/
def Device.longLow (d : Device) : Bool :=
  match d.pwr.lowSince with
  | some b => decide (b + 10000000 * nsUnit ≤ d.atDecision.now) && d.powerLow
  | none => false

section Decision

variable {d : Device}

theorem Device.governor_eq (d : Device) :
    d.governor =
      (if d.powerOver 1000 (d.fld Reg.PWR_LIMIT 15 0) || d.powerOver 100 1000 then d.atDecision.setLevel (min 5 (d.level + 1))
       else if d.longLow && !d.flag Reg.PWR_THERM 30 && decide (d.fld Reg.PWR_STATE 25 24 < d.level) then d.atDecision.setLevel (d.level - 1)
       else d.atDecision).watchOver := rfl

theorem Device.governor_of_over (h : d.powerOver 1000 (d.fld Reg.PWR_LIMIT 15 0) = true ∨ d.powerOver 100 1000 = true) :
    d.governor = (d.atDecision.setLevel (min 5 (d.level + 1))).watchOver := by
  rw [Device.governor_eq, if_pos (Bool.or_eq_true_iff.2 h)]

theorem Device.governor_of_low (h : ¬ (d.powerOver 1000 (d.fld Reg.PWR_LIMIT 15 0) = true ∨ d.powerOver 100 1000 = true))
    (hlow : d.longLow = true) (hcool : d.flag Reg.PWR_THERM 30 = false) :
    d.governor = (if d.fld Reg.PWR_STATE 25 24 < d.level then d.atDecision.setLevel (d.level - 1) else d.atDecision).watchOver := by
  rw [Device.governor_eq, if_neg (mt Bool.or_eq_true_iff.1 h)]
  simp [hlow, hcool]

theorem Device.governor_of_rest (h : ¬ (d.powerOver 1000 (d.fld Reg.PWR_LIMIT 15 0) = true ∨ d.powerOver 100 1000 = true))
    (hrest : d.longLow = false ∨ d.flag Reg.PWR_THERM 30 = true) : d.governor = d.atDecision.watchOver := by
  rw [Device.governor_eq, if_neg (mt Bool.or_eq_true_iff.1 h)]
  rcases hrest with hrest | hrest <;> simp [hrest]

theorem Device.governor_powerStep (d : Device) : d.atDecision.PowerStep d.governor := by
  rw [Device.governor_eq]
  refine .trans ?_ (Device.watchOver_powerStep _)
  repeat' split
  · exact .of_reg (Device.setLevel_regStep ..)
  · exact .of_reg (Device.setLevel_regStep ..)
  · exact .refl _

end Decision

/-! ## A measurement (R615) -/

/-- The device with one measurement more. -/
def Device.measured (d : Device) (x : Nat × Nat × Nat) : Device :=
  let t := max d.now (d.pwr.sampleAt + 10000 * nsUnit)
  let e : Device := { d with now := t, pwr := { d.pwr with sampleAt := t, samples := (x :: d.pwr.samples).take 1000 } }
  { e with pwr := { e.pwr with lowSince := if e.powerLow then e.pwr.lowSince.or (some t) else none } }

/-- The mean input values that the telemetry shows, each a field of its own register. -/
def Device.showMeans (d : Device) : Device :=
  ((d.setFld Reg.PWR_VIN 15 0 (min 0xFFFF (d.average 100 (·.1)))).setFld Reg.PWR_IIN 15 0 (min 0xFFFF (d.average 100 (·.2.1)))).setFld
    Reg.PWR_PIN 15 0 (min 0xFFFF (d.average 1000 (·.2.2)))

/-- The telemetry: the means, and the highest power of 1 ms. -/
def Device.telemetry (d : Device) : Device :=
  d.showMeans.setFld Reg.PWR_PIN_PEAK 15 0 (max (min 0xFFFF (d.average 100 (·.2.2))) (d.showMeans.fld Reg.PWR_PIN_PEAK 15 0))

theorem Device.powerSample_of_image {d : Device} (h : d.noImage Sub.POWER = false) (mv ca watts : Nat) :
    d.powerSample mv ca watts = (d.measured (mv, ca, watts)).telemetry := if_neg (Bool.eq_false_iff.1 h)

theorem Device.powerSample_of_noImage {d : Device} (h : d.noImage Sub.POWER = true) (mv ca watts : Nat) :
    d.powerSample mv ca watts =
      { d with now := max d.now (d.pwr.sampleAt + 10000 * nsUnit)
               pwr := { d.pwr with sampleAt := max d.now (d.pwr.sampleAt + 10000 * nsUnit) } } := if_pos h

theorem Device.telemetry_shows {d : Device} (h : d.Sound) :
    d.telemetry.fld Reg.PWR_PIN 15 0 = min 0xFFFF (d.average 1000 (·.2.2)) ∧ d.telemetry.fld Reg.PWR_VIN 15 0 = min 0xFFFF (d.average 100 (·.1)) ∧
      d.telemetry.fld Reg.PWR_IIN 15 0 = min 0xFFFF (d.average 100 (·.2.1)) ∧
      d.telemetry.fld Reg.PWR_PIN_PEAK 15 0 = max (min 0xFFFF (d.average 100 (·.2.2))) (d.fld Reg.PWR_PIN_PEAK 15 0) := by
  have hset (d : Device) (hd : d.Sound) (k v : Nat) (hv : v < 2 ^ 16) : (d.setFld k 15 0 v).fld k 15 0 = v :=
    (Device.fld_setFld_same hd k (by decide) (by decide) v).trans (Nat.mod_eq_of_lt hv)
  have hkeep (d : Device) (hd : d.Sound) (k j v : Nat) (hj : j ≠ k) : (d.setFld k 15 0 v).fld j 15 0 = d.fld j 15 0 :=
    Device.fld_congr (Device.reg_setFld_ne hd _ _ _ hj) ..
  have hword (x : Nat) : min 0xFFFF x < 2 ^ 16 := Nat.lt_of_le_of_lt (Nat.min_le_left ..) (by decide)
  have h1 := Device.setFld_sound h Reg.PWR_VIN 15 0 (min 0xFFFF (d.average 100 (·.1)))
  have h2 := Device.setFld_sound h1 Reg.PWR_IIN 15 0 (min 0xFFFF (d.average 100 (·.2.1)))
  have h3 : d.showMeans.Sound := Device.setFld_sound h2 ..
  have hpeak : d.showMeans.fld Reg.PWR_PIN_PEAK 15 0 = d.fld Reg.PWR_PIN_PEAK 15 0 := by
    rw [Device.showMeans, hkeep _ h2 _ _ _ (by decide), hkeep _ h1 _ _ _ (by decide), hkeep _ h _ _ _ (by decide)]
  have hold : d.fld Reg.PWR_PIN_PEAK 15 0 < 2 ^ 16 := Nat.mod_lt _ (by decide)
  refine ⟨?_, ?_, ?_, ?_⟩
  · rw [Device.telemetry, hkeep _ h3 _ _ _ (by decide), Device.showMeans, hset _ h2 _ _ (hword _)]
  · rw [Device.telemetry, hkeep _ h3 _ _ _ (by decide), Device.showMeans, hkeep _ h2 _ _ _ (by decide), hkeep _ h1 _ _ _ (by decide),
      hset _ h _ _ (hword _)]
  · rw [Device.telemetry, hkeep _ h3 _ _ _ (by decide), Device.showMeans, hkeep _ h2 _ _ _ (by decide), hset _ h1 _ _ (hword _)]
  · rw [Device.telemetry, hpeak, hset _ h3 _ _ (Nat.max_lt.2 ⟨hword _, hold⟩)]

/-- Settles O57: a decision by whether the averages exceed a limit, and else by how long A10 has been low (`Device.governor_eq`), and a
measurement by the fields that it sets (`Device.telemetry_shows`). That both move device time is log 8's, that averages run over what has been
measured so far is log 26's, and that a missing POWER image shows nothing is log 69's. -/
theorem governorMovesItsLevel : Obligations.GovernorMovesItsLevel := by
  intro s mv ca watts d t tm
  refine ⟨⟨d.governor, rfl, ?frame⟩, fun n hd hn => ⟨Device.level_setLevel hd hn, Device.pace_setLevel hd hn, fun hsame k hk =>
    Device.evtState_setLevel hd hsame hk⟩, fun himage => State.Does.of_eq (d := d.powerSample mv ca watts) rfl
      (Device.powerSample_of_noImage himage mv ca watts), fun himage => ?sample⟩
  case frame =>
    have hstep := d.governor_powerStep
    refine ⟨hstep.now, hstep.cores, hstep.mem, hstep.hostMem, fun hd hlevel => ?_⟩
    intro beyond
    have hnext : d.atDecision.Sound := hd.upd
    have hmoves {n : Nat} (hn : n ≤ 5) : (d.atDecision.setLevel n).watchOver.level = n :=
      (Device.level_watchOver (Device.setLevel_sound hnext)).trans (Device.level_setLevel hnext hn)
    have hrests : d.atDecision.watchOver.level = d.level := Device.level_watchOver hnext
    refine ⟨fun hover => ?_, fun hwithin => ⟨fun b hb htime hlow hcool => ?_, fun hrest => ?_⟩⟩
    · rw [Device.governor_of_over hover, hmoves (by omega)]
    · have hlong : d.longLow = true := by
        simp only [Device.longLow, hb, hlow, Bool.and_true]
        exact decide_eq_true htime
      rw [Device.governor_of_low hwithin hlong hcool]
      split
      · exact hmoves (by omega)
      · exact hrests
    · have hshort : d.longLow = false ∨ d.flag Reg.PWR_THERM 30 = true := by
        rcases hrest with hshort | hhigh | hhold
        · cases hb : d.pwr.lowSince with
          | none => exact .inl (by simp only [Device.longLow, hb])
          | some b => exact .inl (by simpa only [Device.longLow, hb, Bool.and_eq_false_iff] using .inl (decide_eq_false (Nat.not_le.2 (hshort b hb))))
        · cases hb : d.pwr.lowSince with
          | none => exact .inl (by simp only [Device.longLow, hb])
          | some b => exact .inl (by simp only [Device.longLow, hb, hhigh, Bool.and_false])
        · exact .inr hhold
      rw [Device.governor_of_rest hwithin hshort, hrests]
  case sample =>
    refine ⟨d.powerSample mv ca watts, rfl, ?_⟩
    rw [Device.powerSample_of_image himage]
    exact ⟨rfl, rfl, rfl, rfl, fun hd => Device.telemetry_shows (d := d.measured (mv, ca, watts)) hd.upd⟩

end Machine
end Sys2Proof
end

section
/-!
Temperatures (R612, R613, R614): a sample, the steps of a thermal hold, shutdown and restart.
-/
namespace Sys2Proof
namespace Machine

/-! ## What a sensor shows -/

theorem Device.temp_congr {d e : Device} {n : Nat} (h : e.reg (Reg.PWR_TEMP n) = d.reg (Reg.PWR_TEMP n)) : e.temp n = d.temp n := by
  rw [Device.temp, Device.flag_congr h, Device.fld_congr h, Device.temp]

theorem Device.anyAt_congr {d e : Device} (h : ∀ n, e.reg (Reg.PWR_TEMP n) = d.reg (Reg.PWR_TEMP n))
    (point : Int × Option (Int × Int) → Option Int) : e.anyAt point = d.anyAt point := by
  have hat (n : Nat) : e.atPoint n point = d.atPoint n point := by rw [Device.atPoint, Device.temp_congr (h n), Device.atPoint]
  simp only [Device.anyAt, hat]

/-- The word that shows a sample of a sensor. -/
def Device.tempWord (d : Device) (n : Nat) (t : Int) : Word := if d.sensorOff n then 0#32 else BitVec.ofNat 32 (0x80000000 + wrap 16 t)

theorem Device.putTemp_eq (d : Device) (n : Nat) (t : Int) : d.putTemp n t = d.setReg (Reg.PWR_TEMP n) (d.tempWord n t) := by
  unfold Device.putTemp Device.tempWord
  split <;> rfl

/-- Whether a sensor is off shows in whether the dies have power and in registers below those of the sensors. -/
theorem Device.sensorOff_congr {d e : Device} (hdies : e.pwr.diesOn = d.pwr.diesOn) (hreg : ∀ j, j < Reg.PWR_TEMP 0 → e.reg j = d.reg j) (n : Nat) :
    e.sensorOff n = d.sensorOff n := by
  have hsvc (kind i : Nat) (hkind : kind < 2) : e.svcState kind i = d.svcState kind i := by
    refine Device.fld_congr (hreg _ ?_) ..
    match kind, hkind with
    | 0, _ => exact (by decide : Reg.HUB_SVC < Reg.PWR_TEMP 0)
    | 1, _ => exact (by decide : Reg.HUB_SVC < Reg.PWR_TEMP 0)
  have hstandby : e.standby = d.standby := congrArg (· == 5) (Device.fld_congr (hreg _ (by decide)) ..)
  simp only [Device.sensorOff, hsvc 0 _ (by decide), hsvc 1 _ (by decide), hstandby, hdies]

/-! ## The samples of all sensors -/

/-- The device with samples of the sensors of a list. -/
def Device.putTemps (d : Device) (temps : List Int) (l : List Nat) : Device := l.foldl (fun d n => d.putTemp n (temps.getD n 0)) d

theorem Device.putTemps_regStep (d : Device) (temps : List Int) (l : List Nat) : d.RegStep (d.putTemps temps l) :=
  .foldl (fun d n => by rw [Device.putTemp_eq]; exact .setReg ..) l d

theorem Device.putTemps_sound (temps : List Int) (l : List Nat) {d : Device} (h : d.Sound) : (d.putTemps temps l).Sound :=
  Device.foldl_sound (g := fun d n => d.putTemp n (temps.getD n 0)) (fun _ _ hd => Device.putTemp_sound hd) l h

theorem Device.reg_putTemps_low (temps : List Int) {j : Nat} (hj : j < Reg.PWR_TEMP 0) : ∀ (l : List Nat) {d : Device}, d.Sound →
    (d.putTemps temps l).reg j = d.reg j
  | [], _, _ => rfl
  | n :: l, d, h => by
    have hne : j ≠ Reg.PWR_TEMP n := Nat.ne_of_lt (Nat.lt_of_lt_of_le hj (Nat.le_add_right ..))
    refine (Device.reg_putTemps_low temps hj l (Device.putTemp_sound h)).trans ?_
    rw [Device.putTemp_eq, Device.reg_setReg_ne h _ hne]

theorem Device.reg_putTemps (temps : List Int) (n : Nat) : ∀ (l : List Nat) {d : Device}, d.Sound →
    (d.putTemps temps l).reg (Reg.PWR_TEMP n) = if n ∈ l then d.tempWord n (temps.getD n 0) else d.reg (Reg.PWR_TEMP n)
  | [], _, _ => rfl
  | m :: l, d, h => by
    have hlow (j : Nat) (hj : j < Reg.PWR_TEMP 0) : (d.putTemp m (temps.getD m 0)).reg j = d.reg j := Device.reg_putTemps_low temps hj [m] h
    have hdies : (d.putTemp m (temps.getD m 0)).pwr.diesOn = d.pwr.diesOn := congrArg PwrState.diesOn (d.putTemps_regStep temps [m]).pwr
    have hword : (d.putTemp m (temps.getD m 0)).tempWord n (temps.getD n 0) = d.tempWord n (temps.getD n 0) := by
      rw [Device.tempWord, Device.sensorOff_congr hdies hlow, Device.tempWord]
    refine (Device.reg_putTemps temps n l (Device.putTemp_sound h)).trans ?_
    rw [hword, Device.putTemp_eq]
    by_cases hnm : n = m
    · subst hnm
      simp [Device.reg_setReg_same h]
    · have hne : Reg.PWR_TEMP n ≠ Reg.PWR_TEMP m := by simp only [Reg.PWR_TEMP]; omega
      simp [hnm, Device.reg_setReg_ne h _ hne]

/-! ## Crossings and the shown warning -/

/-- A crossing is noted in the power state, and THERMAL fires. -/
theorem Device.noteCrossing_cases (d : Device) (n : Nat) : ∃ (w : PwrState) (l : List Nat),
    d.noteCrossing n = l.foldl (fun d _ => d.fire Evt.THERMAL) { d with pwr := w } := by
  unfold Device.noteCrossing
  dsimp only
  split
  · exact ⟨_, [], rfl⟩
  · exact ⟨_, _, rfl⟩

theorem Device.noteCrossing_powerStep (d : Device) (n : Nat) : d.PowerStep (d.noteCrossing n) := by
  obtain ⟨w, l, h⟩ := d.noteCrossing_cases n
  rw [h]
  exact .trans (e := { d with pwr := w }) rfl (.of_reg (.foldl (fun d _ => .fire d _) l _))

/-- The crossings of the sensors of a list. -/
def Device.noteCrossings (d : Device) (l : List Nat) : Device := l.foldl (fun d n => d.noteCrossing n) d

theorem Device.noteCrossings_sound (l : List Nat) {d : Device} (h : d.Sound) : (d.noteCrossings l).Sound :=
  Device.foldl_sound (g := fun d n => d.noteCrossing n) (fun _ _ hd => Device.noteCrossing_sound hd) l h

theorem Device.reg_fires {n j : Nat} (hsrc : j ≠ Reg.EVT_SRC n) (hcount : j ≠ Reg.EVT_COALESCED) : ∀ (l : List Nat) {d : Device}, d.Sound →
    (l.foldl (fun d _ => d.fire n) d).reg j = d.reg j
  | [], _, _ => rfl
  | _ :: l, _, h => (Device.reg_fires hsrc hcount l (Device.fire_sound h)).trans (Device.reg_fire_ne h hsrc hcount)

theorem Device.reg_noteCrossings {j : Nat} (hj : Reg.PWR ≤ j) : ∀ (l : List Nat) {d : Device}, d.Sound → (d.noteCrossings l).reg j = d.reg j
  | [], _, _ => rfl
  | n :: l, d, h => by
    obtain ⟨w, fires, hcase⟩ := d.noteCrossing_cases n
    have hsrc : j ≠ Reg.EVT_SRC Evt.THERMAL := Nat.ne_of_gt (Nat.lt_of_lt_of_le (by decide) hj)
    have hcount : j ≠ Reg.EVT_COALESCED := Nat.ne_of_gt (Nat.lt_of_lt_of_le (by decide) hj)
    refine (Device.reg_noteCrossings hj l (Device.noteCrossing_sound h)).trans ?_
    rw [hcase]
    exact Device.reg_fires hsrc hcount fires (d := { d with pwr := w }) h.upd

/-- WARN, and then the hottest sensor with its value. -/
theorem Device.showTherm_cases (d : Device) : ∃ n t,
    d.showTherm = ((d.setFlag Reg.PWR_THERM 31 (d.anyAt warnPoint)).setFld Reg.PWR_THERM 20 16 n).setFld Reg.PWR_THERM 15 0 t := by
  unfold Device.showTherm
  dsimp only
  split
  · exact ⟨_, _, rfl⟩
  · exact ⟨_, _, rfl⟩

section ShowTherm

variable {d : Device}

theorem Device.showTherm_regStep (d : Device) : d.RegStep d.showTherm := by
  obtain ⟨n, t, h⟩ := d.showTherm_cases
  rw [h]
  exact .trans (.setFlag ..) (.trans (.setFld ..) (.setFld ..))

variable (h : d.Sound)
include h

theorem Device.reg_showTherm_ne {j : Nat} (hj : j ≠ Reg.PWR_THERM) : d.showTherm.reg j = d.reg j := by
  obtain ⟨n, t, hcase⟩ := d.showTherm_cases
  have hflag := Device.setFlag_sound h Reg.PWR_THERM 31 (d.anyAt warnPoint)
  rw [hcase, Device.reg_setFld_ne (Device.setFld_sound hflag ..) _ _ _ hj, Device.reg_setFld_ne hflag _ _ _ hj, Device.reg_setFlag_ne h _ _ hj]

theorem Device.flag_showTherm (i : Nat) (hi : 30 ≤ i) : d.showTherm.flag Reg.PWR_THERM i = (d.setFlag Reg.PWR_THERM 31 (d.anyAt warnPoint)).flag Reg.PWR_THERM i := by
  obtain ⟨n, t, hcase⟩ := d.showTherm_cases
  have hflag := Device.setFlag_sound h Reg.PWR_THERM 31 (d.anyAt warnPoint)
  rw [hcase, Device.flag_setFld_apart (Device.setFld_sound hflag ..) _ (by decide) (by decide) _ (.inr (by omega)),
    Device.flag_setFld_apart hflag _ (by decide) (by decide) _ (.inr (by omega))]

theorem Device.flag_showTherm_warn : d.showTherm.flag Reg.PWR_THERM 31 = d.anyAt warnPoint :=
  (Device.flag_showTherm h 31 (by decide)).trans (Device.flag_setFlag_same h _ (by decide) _)

theorem Device.flag_showTherm_hold : d.showTherm.flag Reg.PWR_THERM 30 = d.flag Reg.PWR_THERM 30 :=
  (Device.flag_showTherm h 30 (by decide)).trans (Device.flag_setFlag_apart h _ (by decide) _ (by decide))

end ShowTherm

/-! ## A sample -/

/-- The device at its next sample. -/
def Device.atSample (d : Device) : Device :=
  let t := max d.now (d.pwr.thermAt + 100000 * nsUnit)
  { d with now := t, pwr := { d.pwr with thermAt := t } }

/-- The device with the samples shown. -/
def Device.sampled (d : Device) (temps : List Int) : Device :=
  ((d.atSample.putTemps temps (List.range 19)).noteCrossings (List.range 19)).showTherm

theorem Device.sampled_powerStep (d : Device) (temps : List Int) : d.atSample.PowerStep (d.sampled temps) :=
  .trans (.of_reg (Device.putTemps_regStep ..))
    (.trans (.foldl (fun d n => d.noteCrossing_powerStep n) _ _) (.of_reg (Device.showTherm_regStep _)))

section Sampled

variable {d : Device} (h : d.Sound) (temps : List Int)
include h

/-- The sample before WARN is shown. -/
theorem Device.crossed_sound : ((d.atSample.putTemps temps (List.range 19)).noteCrossings (List.range 19)).Sound :=
  Device.noteCrossings_sound _ (Device.putTemps_sound _ _ h.upd)

theorem Device.sampled_sound : (d.sampled temps).Sound := Device.showTherm_sound (Device.crossed_sound h temps)

theorem Device.reg_sampled {j : Nat} (hpower : Reg.PWR ≤ j) (htherm : j ≠ Reg.PWR_THERM) :
    (d.sampled temps).reg j = (d.atSample.putTemps temps (List.range 19)).reg j :=
  (Device.reg_showTherm_ne (Device.crossed_sound h temps) htherm).trans
    (Device.reg_noteCrossings hpower _ (Device.putTemps_sound _ _ h.upd))

theorem Device.temp_sampled {n : Nat} (hn : n < 19) : (d.sampled temps).reg (Reg.PWR_TEMP n) = d.tempWord n (temps.getD n 0) := by
  have htherm : Reg.PWR_TEMP n ≠ Reg.PWR_THERM := by simp only [Reg.PWR_TEMP, Reg.PWR_THERM]; omega
  have hword : d.atSample.tempWord n (temps.getD n 0) = d.tempWord n (temps.getD n 0) := rfl
  rw [Device.reg_sampled h temps (by simp only [Reg.PWR_TEMP]; omega) htherm, Device.reg_putTemps temps n _ (d := d.atSample) h.upd, if_pos (List.mem_range.2 hn), hword]

theorem Device.warn_sampled : (d.sampled temps).flag Reg.PWR_THERM 31 = (d.sampled temps).anyAt warnPoint := by
  have hcrossed := Device.crossed_sound h temps
  refine (Device.flag_showTherm_warn hcrossed).trans (Device.anyAt_congr (fun n => (Device.reg_showTherm_ne hcrossed ?_).symm) _)
  simp only [Reg.PWR_TEMP, Reg.PWR_THERM]
  omega

theorem Device.hold_sampled : (d.sampled temps).flag Reg.PWR_THERM 30 = d.flag Reg.PWR_THERM 30 :=
  (Device.flag_showTherm_hold (Device.crossed_sound h temps)).trans (Device.flag_congr
    ((Device.reg_noteCrossings (by decide) _ (Device.putTemps_sound _ _ h.upd)).trans (Device.reg_putTemps_low _ (by decide) _ h.upd)) _)

theorem Device.throttles_sampled : (d.sampled temps).reg Reg.PWR_THROTTLES = d.reg Reg.PWR_THROTTLES :=
  (Device.reg_sampled h temps (by decide) (by decide)).trans (Device.reg_putTemps_low _ (by decide) _ h.upd)

end Sampled

/-- A thermal hold begins, and is counted. -/
def Device.beginHold (d : Device) : Device := (d.setHold true).bump Reg.PWR_THROTTLES 1

theorem Device.beginHold_regStep (d : Device) : d.RegStep d.beginHold := .trans (.trans (.setFlag ..) (.setFlag ..)) (.bump ..)

section BeginHold

variable {d : Device} (h : d.Sound)
include h

theorem Device.reg_setHold_ne (b : Bool) {j : Nat} (htherm : j ≠ Reg.PWR_THERM) (hgov : j ≠ Reg.PWR_GOV) : (d.setHold b).reg j = d.reg j :=
  (Device.reg_setFlag_ne (Device.setFlag_sound h ..) _ _ hgov).trans (Device.reg_setFlag_ne h _ _ htherm)

theorem Device.temp_beginHold (n : Nat) : d.beginHold.reg (Reg.PWR_TEMP n) = d.reg (Reg.PWR_TEMP n) := by
  refine (Device.reg_bump_ne (Device.setHold_sound h) _ ?_).trans (Device.reg_setHold_ne h true ?_ ?_)
  all_goals
    simp only [Reg.PWR_TEMP, Reg.PWR_THERM, Reg.PWR_GOV, Reg.PWR_THROTTLES]
    omega

theorem Device.flag_beginHold (i : Nat) : d.beginHold.flag Reg.PWR_THERM i = (d.setFlag Reg.PWR_THERM 30 true).flag Reg.PWR_THERM i :=
  Device.flag_congr ((Device.reg_bump_ne (Device.setHold_sound h) _ (by decide)).trans
    (Device.reg_setFlag_ne (Device.setFlag_sound h ..) _ _ (by decide))) _

theorem Device.throttles_beginHold : d.beginHold.reg Reg.PWR_THROTTLES = BitVec.ofNat 32 (min 0xFFFFFFFF ((d.reg Reg.PWR_THROTTLES).toNat + 1)) := by
  rw [Device.beginHold, Device.reg_bump_one_same (Device.setHold_sound h), Device.reg_setHold_ne h true (by decide) (by decide)]

end BeginHold

/-- The device with another power state. -/
def Device.withPwr (d : Device) (w : PwrState) : Device := { d with pwr := w }

@[simp] theorem Device.withPwr_reg (d : Device) (w : PwrState) (k : Nat) : (d.withPwr w).reg k = d.reg k := rfl
@[simp] theorem Device.withPwr_flag (d : Device) (w : PwrState) (k i : Nat) : (d.withPwr w).flag k i = d.flag k i := rfl
@[simp] theorem Device.withPwr_anyAt (d : Device) (w : PwrState) (point : Int × Option (Int × Int) → Option Int) :
    (d.withPwr w).anyAt point = d.anyAt point := rfl

theorem Device.withPwr_sound {d : Device} (h : d.Sound) (w : PwrState) : (d.withPwr w).Sound := h.upd

theorem Device.withPwr_powerStep (d : Device) (w : PwrState) : d.PowerStep (d.withPwr w) := rfl

/-- A sample shows what the sensors read, notes since when they have been cool or hot, and may begin a hold. -/
theorem Device.thermalSample_cases (d : Device) (temps : List Int) : ∃ w w' : PwrState,
    d.thermalSample temps = if (d.sampled temps).anyAt throttlePoint && !(d.sampled temps).flag Reg.PWR_THERM 30 then
      ((d.sampled temps).withPwr w).beginHold.withPwr w' else (d.sampled temps).withPwr w :=
  ⟨_, _, rfl⟩

/-- What a sample of a sound device shows. -/
structure Device.ShowsSample (d : Device) (temps : List Int) (d' : Device) : Prop where
  temp : ∀ n < 19, d'.reg (Reg.PWR_TEMP n) = d.tempWord n (temps.getD n 0)
  warn : d'.flag Reg.PWR_THERM 31 = d'.anyAt warnPoint
  hold : d'.flag Reg.PWR_THERM 30 = (d.flag Reg.PWR_THERM 30 || d'.anyAt throttlePoint)
  throttles : d'.reg Reg.PWR_THROTTLES = if d.flag Reg.PWR_THERM 30 = false ∧ d'.flag Reg.PWR_THERM 30 = true
    then BitVec.ofNat 32 (min 0xFFFFFFFF ((d.reg Reg.PWR_THROTTLES).toNat + 1)) else d.reg Reg.PWR_THROTTLES

/-- A sample by which no hold begins. -/
theorem Device.ShowsSample.of_rest {d : Device} (h : d.Sound) {temps : List Int}
    (hrests : ((d.sampled temps).anyAt throttlePoint && !(d.sampled temps).flag Reg.PWR_THERM 30) = false) :
    d.ShowsSample temps (d.sampled temps) := by
  have hhold := Device.hold_sampled h temps
  refine ⟨fun n hn => Device.temp_sampled h temps hn, Device.warn_sampled h temps, ?_, ?_⟩
  · rw [hhold] at hrests ⊢
    cases hold : d.flag Reg.PWR_THERM 30 <;> simp_all
  · refine (Device.throttles_sampled h temps).trans (if_neg fun hnew => ?_).symm
    exact Bool.false_ne_true ((hnew.1.symm.trans hhold.symm).trans hnew.2)

/-- A sample by which a hold begins. -/
theorem Device.ShowsSample.of_hot {d : Device} (h : d.Sound) {temps : List Int} (hhot : (d.sampled temps).anyAt throttlePoint = true)
    (hnew : d.flag Reg.PWR_THERM 30 = false) (w : PwrState) : d.ShowsSample temps ((d.sampled temps).withPwr w).beginHold := by
  have hw := Device.withPwr_sound (Device.sampled_sound h temps) w
  have hany (point : Int × Option (Int × Int) → Option Int) :
      ((d.sampled temps).withPwr w).beginHold.anyAt point = (d.sampled temps).anyAt point :=
    Device.anyAt_congr (fun n => Device.temp_beginHold hw n) point
  have hset : ((d.sampled temps).withPwr w).beginHold.flag Reg.PWR_THERM 30 = true :=
    (Device.flag_beginHold hw 30).trans (Device.flag_setFlag_same hw _ (by decide) _)
  refine ⟨fun n hn => (Device.temp_beginHold hw n).trans (Device.temp_sampled h temps hn), ?_, ?_, ?_⟩
  · rw [Device.flag_beginHold hw, Device.flag_setFlag_apart hw _ (by decide) _ (by decide), hany, Device.withPwr_flag, Device.warn_sampled h]
  · rw [hset, hnew, hany, hhot, Bool.false_or]
  · rw [Device.throttles_beginHold hw, if_pos ⟨hnew, hset⟩, Device.withPwr_reg, Device.throttles_sampled h]

/-- The power state has no part in what a sample shows. -/
theorem Device.ShowsSample.withPwr {d e : Device} {temps : List Int} (h : d.ShowsSample temps e) (w : PwrState) :
    d.ShowsSample temps (e.withPwr w) where
  temp := h.temp
  warn := h.warn
  hold := h.hold
  throttles := h.throttles

theorem Device.thermalSample_shows {d : Device} (h : d.Sound) (temps : List Int) : d.ShowsSample temps (d.thermalSample temps) := by
  obtain ⟨w, w', hcase⟩ := d.thermalSample_cases temps
  rw [hcase]
  split
  case isTrue hbegins =>
    obtain ⟨hhot, hnew⟩ := Bool.and_eq_true_iff.1 hbegins
    rw [Device.hold_sampled h, Bool.not_eq_true'] at hnew
    exact .withPwr (.of_hot h hhot hnew w) w'
  case isFalse hrests => exact .withPwr (.of_rest h (Bool.eq_false_iff.2 hrests)) w

theorem Device.thermalSample_powerStep (d : Device) (temps : List Int) : d.atSample.PowerStep (d.thermalSample temps) := by
  obtain ⟨w, w', hcase⟩ := d.thermalSample_cases temps
  have hnoted := (d.sampled_powerStep temps).trans (Device.withPwr_powerStep _ w)
  rw [hcase]
  split
  · exact (hnoted.trans (.of_reg (Device.beginHold_regStep _))).trans (Device.withPwr_powerStep _ w')
  · exact hnoted

/-! ## A step of a hold, shutdown and restart -/

section HoldStep

variable {d : Device} (hhold : d.flag Reg.PWR_THERM 30 = true)
include hhold

/-- The device at the next step of its hold. -/
def Device.atHoldStep (d : Device) : Device :=
  let t := max d.now (d.pwr.holdAt + 1000000 * nsUnit)
  { d with now := t, pwr := { d.pwr with holdAt := t } }

theorem Device.holdStep_of_hot (hhot : d.anyAt throttlePoint = true) : d.holdStep = d.atHoldStep.setLevel (min 5 (d.level + 1)) := by
  have hguard : (!d.flag Reg.PWR_THERM 30) = false := by rw [hhold]; rfl
  exact (if_neg (Bool.eq_false_iff.1 hguard)).trans (if_pos hhot)

theorem Device.holdStep_of_cool (hcool : d.anyAt throttlePoint = false) :
    d.holdStep = match d.pwr.coolSince with
      | some c => if c + 10000000 * nsUnit ≤ d.atHoldStep.now then d.atHoldStep.setHold false else d.atHoldStep
      | none => d.atHoldStep := by
  have hguard : (!d.flag Reg.PWR_THERM 30) = false := by rw [hhold]; rfl
  exact (if_neg (Bool.eq_false_iff.1 hguard)).trans (if_neg (Bool.eq_false_iff.1 hcool))

end HoldStep

theorem Device.thermalShutdown_of_hot {d : Device} {h : Nat} (hhot : d.pwr.hotSince = some h) (hon : d.pwr.pgOut = true) :
    d.thermalShutdown =
      let t := max d.now (h + 1000000 * nsUnit)
      let e := ({ d with now := t } : Device).surpriseRemoval.poweredOff 3
      { e with pwr := { e.pwr with thermalOff := some t } } := by
  have hdown := Device.powerDown_of_on (d := { d with now := max d.now (h + 1000000 * nsUnit) }) hon 3
  simp only [Device.thermalShutdown, hhot, hon, Bool.not_true, Bool.false_eq_true, if_false]
  exact congrArg (fun e : Device => { e with pwr := { e.pwr with thermalOff := some (max d.now (h + 1000000 * nsUnit)) } }) hdown

theorem Device.thermalShutdown_of_rest {d : Device} (h : d.pwr.hotSince = none ∨ d.pwr.pgOut = false) : d.thermalShutdown = d := by
  unfold Device.thermalShutdown
  rcases h with h | h
  · rw [h]
  · split
    · rfl
    · exact if_pos (by rw [h]; rfl)

theorem Device.thermalRestart_of_off {d : Device} {h : Nat} (hoff : d.pwr.thermalOff = some h) (temp : Int) :
    d.thermalRestart temp =
      if 16 * 70 ≤ temp then d
      else { d with now := max d.now (h + 10000000000 * nsUnit), pwr := { d.pwr with thermalOff := none } } := by
  simp only [Device.thermalRestart, hoff]
  rfl

/-- Settles O56: a sample by what it shows (`Device.ShowsSample`), a step of a hold by whether some sensor stands at its throttle point, shutdown
by the power-down it takes. That the rows move device time to their moment is log 8's, that a restart removes only the hold-off log 25's, and
that rows whose condition fails do nothing log 7's. -/
theorem temperaturesHoldAndShutDown : Obligations.TemperaturesHoldAndShutDown := by
  intro s temps n temp d
  have hstep := d.thermalSample_powerStep temps
  refine ⟨⟨d.thermalSample temps, rfl, hstep.now, hstep.cores, hstep.mem, fun hd => ?sample⟩, fun hrest => ?_, fun hhold => ?hold, fun h hhot hon => ?_,
    fun hrest => ?_, fun h hoff => ⟨fun hcool => ?_, fun hwarm => ?_⟩, fun hon => ?_⟩
  case sample =>
    have hshows := Device.thermalSample_shows hd temps
    exact ⟨hshows.temp n n.isLt, hshows.warn, hshows.hold, hshows.throttles⟩
  case hold =>
    intro t e
    have hrow : s.Does .thermalHoldStep d.holdStep := rfl
    refine ⟨fun hhot => hrow.of_eq (Device.holdStep_of_hot hhold hhot), fun c hcool hc => ⟨fun htime => ?_, fun htime => ?_⟩, fun hcool hc => ?_⟩
    · rw [Device.holdStep_of_cool hhold hcool, hc] at hrow
      exact hrow.of_eq (if_pos htime)
    · rw [Device.holdStep_of_cool hhold hcool, hc] at hrow
      exact hrow.of_eq (if_neg (Nat.not_le.2 htime))
    · rwa [Device.holdStep_of_cool hhold hcool, hc] at hrow
  · exact State.Does.of_eq (d := d.holdStep) rfl (if_pos (by rw [hrest]; rfl))
  · refine ⟨d.thermalShutdown, rfl, ?_⟩
    rw [Device.thermalShutdown_of_hot hhot hon]
    have hnow := Device.now_eq_of_clock ({ d with now := max d.now (h + 1000000 * nsUnit) } : Device).surpriseRemoval_clock
    exact ⟨hnow, rfl, rfl, congrArg some hnow.symm⟩
  · exact State.Does.of_eq (d := d.thermalShutdown) rfl (Device.thermalShutdown_of_rest hrest)
  · exact State.Does.of_eq (d := d.thermalRestart temp) rfl ((Device.thermalRestart_of_off hoff temp).trans (if_neg (Int.not_le.2 hcool)))
  · exact State.Does.of_eq (d := d.thermalRestart temp) rfl ((Device.thermalRestart_of_off hoff temp).trans (if_pos hwarm))
  · exact State.Does.of_eq (d := d.thermalRestart temp) rfl (by simp only [Device.thermalRestart, hon])

end Machine
end Sys2Proof
end

section
/-!
The states of an event source (R534), its raising and completion from software (R531, R535, R545), and its delivery (R540-R543, R547).
-/
namespace Sys2Proof
namespace Machine

/-! ## A source moves, or its event is counted (R534) -/

/-- Source n put in state v. -/
def Device.moveSource (d : Device) (n v : Nat) : Device := d.setFld (Reg.EVT_SRC n) 30 29 v

theorem Device.fire_of_inactive {d : Device} {n : Nat} (h : d.evtState n = 0) : d.fire n = d.moveSource n 1 := by simp only [Device.fire, h]; rfl
theorem Device.fire_of_active {d : Device} {n : Nat} (h : d.evtState n = 2) : d.fire n = d.moveSource n 3 := by simp only [Device.fire, h]; rfl
theorem Device.fire_of_pending {d : Device} {n : Nat} (h : d.evtState n = 1 ∨ d.evtState n = 3) : d.fire n = d.bump Reg.EVT_COALESCED 1 := by
  rcases h with h | h <;> simp only [Device.fire, h]

theorem Device.evtComplete_of_active {d : Device} {n : Nat} (h : d.evtState n = 2) : d.evtComplete n = d.moveSource n 0 := by
  simp only [Device.evtComplete, h]; rfl
theorem Device.evtComplete_of_activePending {d : Device} {n : Nat} (h : d.evtState n = 3) : d.evtComplete n = d.moveSource n 1 := by
  simp only [Device.evtComplete, h]; rfl
theorem Device.evtComplete_of_idle {d : Device} {n : Nat} (h : d.evtState n = 0 ∨ d.evtState n = 1) :
    d.evtComplete n = d.bump Reg.EVT_STRAY 1 := by
  rcases h with h | h <;> simp only [Device.evtComplete, h]

section Move

variable {d : Device} (h : d.Sound) {n : Nat}
include h

/-- A move shows in the state of the source alone, and in no counter of the block. -/
theorem Device.moveSource_shows {v : Nat} (hv : v < 4) {k : Nat} (hk : k < Reg.EVT_SRC 0) :
    (d.moveSource n v).evtState n = v ∧ (∀ m, m ≠ n → m < 4096 → (d.moveSource n v).evtState m = d.evtState m) ∧
      (d.moveSource n v).reg k = d.reg k := by
  refine ⟨(Device.fld_setFld_same h _ (by decide) (by decide) v).trans (Nat.mod_eq_of_lt hv), fun m hm _ => ?_, ?_⟩
  · exact Device.fld_congr (Device.reg_setFld_ne h _ _ _ fun heq => hm (Reg.evtSrc_inj.1 heq)) ..
  · refine Device.reg_setFld_ne h _ _ _ (Nat.ne_of_lt (Nat.lt_of_lt_of_le hk ?_))
    simp only [Reg.EVT_SRC]
    omega

/-- An event that is counted shows in its counter alone. -/
theorem Device.bumpSource_shows {k : Nat} (hk : k < Reg.EVT_SRC 0) :
    (∀ m, (d.bump k 1).evtState m = d.evtState m) ∧ (d.bump k 1).reg k = BitVec.ofNat 32 (min 0xFFFFFFFF ((d.reg k).toNat + 1)) := by
  refine ⟨fun m => Device.fld_congr (Device.reg_bump_ne h _ (Nat.ne_of_gt (Nat.lt_of_lt_of_le hk ?_))) .., Device.reg_bump_one_same h k⟩
  simp only [Reg.EVT_SRC]
  omega

end Move

/-- What event f of source n leaves that finds it in state src and moves it to dest: no other source moves, and an event that moves nothing
counts in register k. -/
def Device.EvtGoes (d : Device) (n : Nat) (f : Device → Device) (src dest k : Nat) : Prop :=
  d.evtState n = src → (f d).evtState n = dest ∧ (∀ m, m ≠ n → m < 4096 → (f d).evtState m = d.evtState m) ∧
    (f d).reg k = if src = dest ∨ (src = 0 ∧ dest = 0) then BitVec.ofNat 32 (min 0xFFFFFFFF ((d.reg k).toNat + 1)) else d.reg k

theorem Device.EvtGoes.of_move {d : Device} (h : d.Sound) {n : Nat} {f : Device → Device} {src dest k : Nat}
    (hf : d.evtState n = src → f d = d.moveSource n dest) (hdest : dest < 4) (hne : src ≠ dest) (hk : k < Reg.EVT_SRC 0) :
    d.EvtGoes n f src dest k := by
  intro hsrc
  obtain ⟨hstate, hothers, hreg⟩ := Device.moveSource_shows h (n := n) hdest hk
  rw [hf hsrc]
  exact ⟨hstate, hothers, hreg.trans (if_neg (by omega)).symm⟩

theorem Device.EvtGoes.of_count {d : Device} (h : d.Sound) {n : Nat} {f : Device → Device} {src k : Nat}
    (hf : d.evtState n = src → f d = d.bump k 1) (hk : k < Reg.EVT_SRC 0) : d.EvtGoes n f src src k := by
  intro hsrc
  obtain ⟨hstate, hreg⟩ := Device.bumpSource_shows h hk
  rw [hf hsrc]
  exact ⟨(hstate n).trans hsrc, fun m _ _ => hstate m, hreg.trans (if_pos (.inl rfl)).symm⟩

theorem Device.fire_goes {d : Device} (h : d.Sound) (n : Nat) :
    d.EvtGoes n (·.fire n) 0 1 Reg.EVT_COALESCED ∧ d.EvtGoes n (·.fire n) 1 1 Reg.EVT_COALESCED ∧
      d.EvtGoes n (·.fire n) 2 3 Reg.EVT_COALESCED ∧ d.EvtGoes n (·.fire n) 3 3 Reg.EVT_COALESCED :=
  ⟨.of_move h Device.fire_of_inactive (by decide) (by decide) (by decide), .of_count h (fun hsrc => Device.fire_of_pending (.inl hsrc)) (by decide),
    .of_move h Device.fire_of_active (by decide) (by decide) (by decide), .of_count h (fun hsrc => Device.fire_of_pending (.inr hsrc)) (by decide)⟩

theorem Device.evtComplete_goes {d : Device} (h : d.Sound) (n : Nat) :
    d.EvtGoes n (·.evtComplete n) 0 0 Reg.EVT_STRAY ∧ d.EvtGoes n (·.evtComplete n) 1 1 Reg.EVT_STRAY ∧
      d.EvtGoes n (·.evtComplete n) 2 0 Reg.EVT_STRAY ∧ d.EvtGoes n (·.evtComplete n) 3 1 Reg.EVT_STRAY :=
  ⟨.of_count h (fun hsrc => Device.evtComplete_of_idle (.inl hsrc)) (by decide), .of_count h (fun hsrc => Device.evtComplete_of_idle (.inr hsrc)) (by decide),
    .of_move h Device.evtComplete_of_active (by decide) (by decide) (by decide),
    .of_move h Device.evtComplete_of_activePending (by decide) (by decide) (by decide)⟩

/-! ## Software and windows (R531, R535, R545) -/

section Software

variable {d : Device} {fn src : Nat}

/-- A source that a VF names inside its window. -/
theorem Device.fnSource_of_inside (hvf : fn ≠ 0) (hin : src < d.fld (Reg.EVT_FN_WIN fn) 24 16) :
    d.fnSource fn src = some (d.fld (Reg.EVT_FN_WIN fn) 11 0 + src) := by
  simp only [Device.fnSource, hvf, hin, if_false, if_true]

theorem Device.fnSource_of_outside (hvf : fn ≠ 0) (hout : d.fld (Reg.EVT_FN_WIN fn) 24 16 ≤ src) : d.fnSource fn src = none := by
  simp only [Device.fnSource, hvf, Nat.not_lt.2 hout, if_false]

theorem Device.evtRaise_of_named {n : Nat} (h : d.fnSource fn src = some n) (hn : n < 0x19 ∨ 0xFF < n) : d.evtRaise fn src = d.fire n := by
  have hfires : Evt.reserved n = false := by
    simp only [Evt.reserved, Bool.and_eq_false_iff, decide_eq_false_iff_not]
    omega
  simp only [Device.evtRaise, h, hfires, Bool.false_eq_true, if_false]

theorem Device.evtRaise_of_outside (h : d.fnSource fn src = none) : d.evtRaise fn src = d.bump (Reg.ZN_BAR_DENY fn) 1 := by
  simp only [Device.evtRaise, h]

theorem Device.evtDone_of_named {n : Nat} (h : d.fnSource fn src = some n) : d.evtDone fn src = d.evtComplete n := by
  simp only [Device.evtDone, h]

theorem Device.evtDone_of_outside (h : d.fnSource fn src = none) : d.evtDone fn src = d.bump (Reg.ZN_BAR_DENY fn) 1 := by
  simp only [Device.evtDone, h]

end Software

section Window

variable {d : Device} {v : Nat} (hv : v ≠ 0) (hlast : v ≤ 16)
include hv hlast

theorem Device.fnWindow_of_bad {base count : Nat} (hbad : d.windowBad v base count = true) :
    d.fnWindow v base count = d.setFlag Reg.EVT_STATUS 30 true := (if_neg (by omega)).trans (if_pos hbad)

/-- A window of no sources is one that may be, and the sources of the old one return to INACTIVE. -/
theorem Device.fnWindow_of_empty (base : Nat) :
    d.fnWindow v base 0 = ((List.range (d.fld (Reg.EVT_FN_WIN v) 24 16)).foldl (fun (e : Device) i => e.evtOff (d.fld (Reg.EVT_FN_WIN v) 11 0 + i)) d).setReg
      (Reg.EVT_FN_WIN v) (BitVec.ofNat 32 base) := by
  have hgood : d.windowBad v base 0 = false := by simp [Device.windowBad, overlaps]
  have hguard : ¬ (v = 0 ∨ v > 16) := by omega
  simp only [Device.fnWindow, hguard, hgood, Bool.false_eq_true, if_false, Nat.zero_mul, Nat.zero_add]

end Window

/-! ## Delivery (R540, R541) -/

theorem Device.eventDelivery_of_disabled {d : Device} (h : d.flag Reg.EVT_CTL 0 = false) : d.eventDelivery = d := by
  simp only [Device.eventDelivery, h, Bool.not_false, if_true]

theorem Device.eventDelivery_of_ready {d : Device} {n i : Nat} (h : d.flag Reg.EVT_CTL 0 = true)
    (hnext : ((d.noteHeld.pendingSources.filter (fun n => (d.noteHeld.readyMember n).isSome)).find? (fun n => decide (d.noteHeld.evt.arb ≤ n))).or
      (d.noteHeld.pendingSources.filter (fun n => (d.noteHeld.readyMember n).isSome)).head? = some n)
    (hmember : d.noteHeld.readyMember n = some i) : d.eventDelivery = d.noteHeld.deliver n i := by
  simp only [Device.eventDelivery, h, Bool.not_true, Bool.false_eq_true, if_false, hnext, hmember]

/-! ## The journal (R542, R547) -/

/-- The word that the firmware journals for a delivery. -/
def Device.journalWord (d : Device) (x : Nat) : BitVec 32 := BitVec.ofNat 32 (0x80000000 + x % 0x1000 * 0x10000 + d.evt.jrnlSeq)

/-- The firmware's entry for a delivery. -/
def Device.journal (d : Device) (x : Nat) : Device :=
  let j := d.fld Reg.EVT_JRNL_HEAD 5 0
  (d.setReg (Reg.EVT_JRNL j) (d.journalWord x)).setFld Reg.EVT_JRNL_HEAD 5 0 ((j + 1) % 64)

/-- The device after the entry, the delivery taken. -/
def Device.journaled (d : Device) (x : Nat) (rest : List Nat) : Device :=
  { d.journal x with evt := { d.evt with mgmt := rest, jrnlSeq := (d.evt.jrnlSeq + 1) % 0x10000 } }

theorem Device.mgmtHandled_of_waiting {d : Device} {x : Nat} {rest : List Nat} (h : d.evt.mgmt = x :: rest) (hruns : d.mgmtRuns = true) :
    d.mgmtHandled = if x < 0x1000 then (d.journaled x rest).evtComplete (x % 0x1000) else d.journaled x rest := by
  simp only [Device.mgmtHandled, h, hruns, Bool.not_true, Bool.false_eq_true, if_false]
  rfl

theorem Device.reg_evtComplete_ne {d : Device} (h : d.Sound) {n j : Nat} (hsrc : j ≠ Reg.EVT_SRC n) (hcount : j ≠ Reg.EVT_STRAY) :
    (d.evtComplete n).reg j = d.reg j := by
  unfold Device.evtComplete
  split
  · exact Device.reg_setFld_ne h _ _ _ hsrc
  · exact Device.reg_setFld_ne h _ _ _ hsrc
  · exact Device.reg_bump_ne h _ hcount

theorem Reg.evtJrnl_ne_head (j : Nat) : Reg.EVT_JRNL j ≠ Reg.EVT_JRNL_HEAD := by
  unfold Reg.EVT_JRNL Reg.EVT_JRNL_HEAD
  omega

theorem Device.reg_journal {d : Device} (h : d.Sound) (x : Nat) :
    (d.journal x).reg (Reg.EVT_JRNL (d.fld Reg.EVT_JRNL_HEAD 5 0)) = d.journalWord x := by
  have hentry := Device.reg_setReg_same h (Reg.EVT_JRNL (d.fld Reg.EVT_JRNL_HEAD 5 0)) (d.journalWord x)
  exact (Device.reg_setFld_ne (Device.setReg_sound h _ _) _ _ _ (Reg.evtJrnl_ne_head _)).trans hentry

theorem Device.mgmtHandled_shows {d : Device} {x : Nat} {rest : List Nat} (h : d.evt.mgmt = x :: rest) (hruns : d.mgmtRuns = true) :
    d.mgmtHandled.evt.mgmt = rest ∧ d.mgmtHandled.evt.jrnlSeq = (d.evt.jrnlSeq + 1) % 0x10000 ∧
      (d.Sound → d.mgmtHandled.reg (Reg.EVT_JRNL (d.fld Reg.EVT_JRNL_HEAD 5 0)) = d.journalWord x) := by
  rw [Device.mgmtHandled_of_waiting h hruns]
  split
  · refine ⟨by rw [Device.evtComplete_evt]; rfl, by rw [Device.evtComplete_evt]; rfl, fun hd => ?_⟩
    have hjournal : (d.journaled x rest).Sound := Device.Sound.upd (e := d.journal x) (Device.setFld_sound (Device.setReg_sound hd ..) ..)
    have hhead : d.fld Reg.EVT_JRNL_HEAD 5 0 < 64 := Nat.mod_lt _ (by decide)
    refine (Device.reg_evtComplete_ne hjournal ?_ ?_).trans (Device.reg_journal hd x)
    · exact (Reg.evtSrc_ne (Nat.mod_lt x (by decide)) (by simp only [Reg.EVT_SRC, Reg.EVT_JRNL]; omega)).symm
    · simp only [Reg.EVT_JRNL, Reg.EVT_STRAY]
      omega
  · exact ⟨rfl, rfl, fun hd => Device.reg_journal hd x⟩

/-- Settles O53: the move or the count of an event by the state it finds, what software names by `Device.fnSource`, a window by
`Device.windowBad`, and the delivery and the journal by their conditions. That a VF's EVT_COMPLETE outside its window counts is by analogy
(log 16), and that a COUNT above 256 is refused is log 19's. -/
theorem eventSourcesMove : Obligations.EventSourcesMove := by
  intro s fn src base count d
  have hraise : s.Does (.evtRaise fn src) (d.evtRaise fn src) := rfl
  have hdone : s.Does (.evtComplete fn src) (d.evtDone fn src) := rfl
  have hdelivery : s.Does .eventDelivery d.eventDelivery := rfl
  refine ⟨fun d n hd hn => ?states, fun hpf hsrc => ?_, fun hpf => ?_, fun hvf => ?vf, fun en => rfl,
    fun hoff => hdelivery.of_eq (Device.eventDelivery_of_disabled hoff),
    fun n i hon => ?delivery,
    fun x rest hmgmt hruns => ⟨d.mgmtHandled, rfl, Device.mgmtHandled_shows hmgmt hruns⟩⟩
  case states =>
    obtain ⟨hf0, hf1, hf2, hf3⟩ := Device.fire_goes hd n
    obtain ⟨hc0, hc1, hc2, hc3⟩ := Device.evtComplete_goes hd n
    exact ⟨hf0, hf1, hf2, hf3, hc0, hc1, hc2, hc3⟩
  · exact hraise.of_eq (Device.evtRaise_of_named (if_pos hpf) hsrc)
  · exact hdone.of_eq (Device.evtDone_of_named (if_pos hpf))
  case delivery =>
    intro e ready hnext hmember
    exact hdelivery.of_eq (Device.eventDelivery_of_ready hon hnext hmember)
  case vf =>
    intro b n
    have hwindow : s.Does (.evtFnWinWrite fn base count) (d.fnWindow fn base count) := rfl
    refine ⟨fun hin hb => ?_, fun hout => ?_, ?windows⟩
    · have hnamed := Device.fnSource_of_inside hvf hin
      exact ⟨hraise.of_eq (Device.evtRaise_of_named hnamed (.inr (by omega))), hdone.of_eq (Device.evtDone_of_named hnamed)⟩
    · have hnone := Device.fnSource_of_outside hvf hout
      exact ⟨hraise.of_eq (Device.evtRaise_of_outside hnone), hdone.of_eq (Device.evtDone_of_outside hnone)⟩
    case windows =>
    intro old quiet
    refine ⟨fun hcount => ?_, fun hcount => ?_⟩
    · exact hwindow.of_eq (Device.fnWindow_of_bad hvf (by omega) (by simp [Device.windowBad, hcount]))
    · rw [hcount] at hwindow
      exact hwindow.of_eq (Device.fnWindow_of_empty hvf (by omega) base)

end Machine
end Sys2Proof
end

section
/-!
The SVC jumper and the session (R563): what a removal does on a sound device, and why the statement about it fails on one that is not.
-/
namespace Sys2Proof
namespace Machine

/-- On a sound device the jumper's change leaves the session's level, and a removal closes a session of level 3 (R563). -/
theorem Device.jumperChange_of_sound {d : Device} (h : d.Sound) (fitted : Bool) :
    d.jumperChange fitted =
      if fitted = false ∧ d.dbgLevel = 3 then (d.setFlag Reg.SEC_STATE 27 fitted).setDebug 0 0 else d.setFlag Reg.SEC_STATE 27 fitted := by
  have hlevel : (d.setFlag Reg.SEC_STATE 27 fitted).dbgLevel = d.dbgLevel :=
    Device.fld_setFlag_apart h _ (by decide) _ (.inl (by decide))
  simp only [Device.jumperChange, hlevel, Bool.and_eq_true, Bool.not_eq_true', beq_iff_eq, Device.closeDebug]

/-- A device whose register file lists SEC_STATE twice: first without a session, the jumper fitted, then with a session of level 3. Removing
the jumper writes the reset value, which removes the first entry, and the second is read from then on. -/
def Device.sessionTwice : Device := { regs := [(Reg.SEC_STATE, 0x18000000#32), (Reg.SEC_STATE, 0x00C00000#32)] }

/-- Refutes O55, in the clause on the jumper, which is stated of every state: on a device that is not sound (`Device.sessionTwice`) no session
is open, and the removal closes one all the same. On a sound device the clause holds (`Device.jumperChange_of_sound`). -/
theorem not_presenceSealAndDebug : ¬ Obligations.PresenceSealAndDebug := by
  intro h
  obtain ⟨_, _, _, _, _, _, hjumper, _⟩ := h { dev := Device.sessionTwice } 0 [] [] 0#32 0 0
  have hstep : Device.sessionTwice.jumperChange false =
      if false = false ∧ Device.sessionTwice.dbgLevel = 3 then (Device.sessionTwice.setFlag Reg.SEC_STATE 27 false).setDebug 0 0
      else Device.sessionTwice.setFlag Reg.SEC_STATE 27 false :=
    by injection hjumper false with hstate; exact congrArg State.dev hstate
  exact absurd (congrArg Device.dbgLevel hstep) (by decide)

end Machine
end Sys2Proof
end

section
/-!
Whether a start is a warm one (R596), through stage ROM, and why the statement about the warm reset fails on a device that is not sound.
-/
namespace Sys2Proof
namespace Machine

/-! ## Stage ROM leaves the kind of the start (R584, R590) -/

theorem Device.showStore_regStep (d : Device) : d.RegStep d.showStore := by
  unfold Device.showStore
  split <;> exact (Device.RegStep.setReg ..).trans (.setReg ..)

theorem Device.showSlots_regStep (d : Device) : d.RegStep d.showSlots := Device.RegStep.foldl (fun _ _ => .setReg ..) _ d

/-- A change that the module makes on its own account leaves the kind of the start. -/
theorem Device.storeChange_warm (d : Device) {c : StoreChange} (hown : c.owner = none) : (d.storeChange c).boot.warm = d.boot.warm := by
  unfold Device.storeChange
  split
  · simp only [Device.refuseChange, hown]
  · rw [(Device.showSlots_regStep _).boot, Device.setFlag_boot]

theorem Device.chooseStore_boot (d : Device) : d.chooseStore.boot = d.boot := by
  unfold Device.chooseStore
  dsimp only
  rw [(Device.showStore_regStep _).boot]
  rw [apply_ite Device.boot]
  simp only [Device.setFld_boot, Device.setFlag_boot]
  exact ite_self _

theorem Device.findSlots_warm (d : Device) : d.findSlots.boot.warm = d.boot.warm := by
  unfold Device.findSlots
  split
  · rfl
  · exact d.storeChange_warm rfl

theorem Device.runs_warm (d : Device) (s : Nat) : (d.runs s).boot.warm = d.boot.warm := by
  unfold Device.runs
  dsimp only
  split <;> split <;> rfl

theorem Device.chooseImage_warm (d : Device) (s : Nat) : (d.chooseImage s).boot.warm = d.boot.warm := by
  unfold Device.chooseImage
  dsimp only
  split
  · rw [Device.runs_warm]
    split <;> rfl
  · split
    · rw [Device.runs_warm, Device.setFlag_boot]
      exact d.storeChange_warm rfl
    · rfl

/-- The end of stage ROM once the seal has been looked at (R584). -/
def Device.romEnds (d : Device) : Device :=
  let d := { d.setFld Reg.CFG_BOOT 22 0 0 with boot := { d.boot with runningFw := [], firstStart := [] } }
  let d := if d.boot.warm then d else d.setFld Reg.HUB_CAPS 13 12 0
  (((d.chooseStore).findSlots).chooseImage Sub.MGMT).showSlots

theorem Device.romEnds_warm (d : Device) : d.romEnds.boot.warm = d.boot.warm := by
  unfold Device.romEnds
  dsimp only
  rw [(Device.showSlots_regStep _).boot, Device.chooseImage_warm, Device.findSlots_warm, Device.chooseStore_boot, apply_ite Device.boot]
  simp only [Device.setFld_boot, ite_self]

/-- The stage that follows ROM: MGMT where no management image may run (R584), and the journal of a failed rail (R607). -/
def Device.romLeaves (d : Device) : Device :=
  if d.noImage Sub.MGMT then { d.setStage 6 with boot := { d.boot with starting := false } }
  else match d.pwr.rail with
    | some r => { d.setStage 1 with boot := { d.boot with journal := d.boot.journal ++ [r] }, pwr := { d.pwr with rail := none } }
    | none => d.setStage 1

theorem Device.setStage_boot (d : Device) (n : Nat) : (d.setStage n).boot = d.boot := by rw [Device.setStage, Device.setFld_boot]

theorem Device.romLeaves_warm (d : Device) : d.romLeaves.boot.warm = d.boot.warm := by
  unfold Device.romLeaves
  split
  · rfl
  · split
    · rfl
    · rw [Device.setStage_boot]

theorem Device.bootRom_of_sealed {d : Device} (h : d.flag Reg.SEC_STATE 28 = true) : d.bootRom = d.romEnds.romLeaves := by
  have hseal : (if !d.flag Reg.SEC_STATE 28 && !d.flag Reg.SEC_STATE 29 then d.latchTamper else d) = d := if_neg (by simp [h])
  unfold Device.bootRom
  rw [hseal]
  rfl

/-- The end of stage ROM leaves the kind of the start, where the seal is closed. -/
theorem Device.bootRom_warm_of_sealed {d : Device} (h : d.flag Reg.SEC_STATE 28 = true) : d.bootRom.boot.warm = d.boot.warm := by
  rw [Device.bootRom_of_sealed h, Device.romLeaves_warm, Device.romEnds_warm]

/-! ## A warm reset on a device that is not sound -/

/-- The device once the warm reset that was asked for is over. -/
def Device.warmDone (d : Device) : Device := { d with boot := { d.boot with warmAsked := none } }.warmReset

/-- The device as it enters stage ROM, by a start of kind w. -/
def Device.startsAs (d : Device) (w : Bool) : Device := { d with boot := { d.boot with starting := true, warm := w, startedAt := d.now } }

/-- The kind of the start is taken from the stage that stands after the reset. -/
theorem Device.warmStart_of_asked {d : Device} {cause : Nat} (hasked : d.boot.warmAsked = some cause) (hstage : d.stage ≠ 6) :
    d.warmStart = (d.warmDone.startsAs (d.warmDone.stage != 6)).bootRom := by
  have hkept : ¬ ({ d with boot := { d.boot with warmAsked := none } } : Device).stage = 6 := hstage
  simp only [Device.warmStart, hasked, hkept, if_false]
  rfl

/-- So a start that goes on as a warm one leaves another stage than 6, where the seal is closed. -/
theorem Device.warmDone_stage_ne {d : Device} {cause : Nat} (hasked : d.boot.warmAsked = some cause) (hstage : d.stage ≠ 6)
    (hseal : d.warmDone.flag Reg.SEC_STATE 28 = true) (hwarm : d.warmStart = (d.warmDone.startsAs true).bootRom) : d.warmDone.stage ≠ 6 := by
  have hsealed : ∀ w, (d.warmDone.startsAs w).flag Reg.SEC_STATE 28 = true := fun _ => hseal
  have hkind := congrArg (fun d : Device => d.boot.warm) ((Device.warmStart_of_asked hasked hstage).symm.trans hwarm)
  simp only [Device.bootRom_warm_of_sealed (hsealed _)] at hkind
  exact bne_iff_ne.1 hkind

theorem Device.warmStart_of_does {d e : Device} (h : ({ dev := d } : State).Does .warmReset e) : d.warmStart = e := by
  injection h with hstate
  exact congrArg State.dev hstate

/-- A device whose register file does not rise: CFG_BOOT, in stage 6, stands behind a higher register that a warm reset does not keep. Until
then CFG_BOOT reads its reset value, stage 0. -/
def Device.stageHidden : Device :=
  { regs := [(Reg.ZN_CTL 0, 0x1#32), (Reg.CFG_BOOT, 0x06000000#32)], boot := { starting := false, warmAsked := some 5 } }

theorem Device.stageHidden_shown :
    Device.stageHidden.stage ≠ 6 ∧ Device.stageHidden.warmDone.stage = 6 ∧ Device.stageHidden.warmDone.flag Reg.SEC_STATE 28 = true := by decide

/-- Refutes O59, in the clause on the warm reset, which is stated of every state: on a device that is not sound (`Device.stageHidden`) the
reset itself uncovers stage 6, and the start goes on as one that is not warm. -/
theorem not_startsAndResets : ¬ Obligations.StartsAndResets := by
  intro h
  obtain ⟨_, _, _, _, _, _, hwarm, _⟩ := h { dev := Device.stageHidden } 0#32 0 0
  obtain ⟨hstage, hshown, hseal⟩ := Device.stageHidden_shown
  obtain ⟨hstart, _⟩ := hwarm 5 rfl hstage
  exact Device.warmDone_stage_ne rfl hstage hseal (Device.warmStart_of_does hstart) hshown

end Machine
end Sys2Proof
end

section
/-!
A function-level reset of a VF (R522), and why the statement about it fails on a device that is not sound.
-/
namespace Sys2Proof
namespace Machine

theorem Device.flr_of_does {d e : Device} {fn : FnId} (h : ({ dev := d } : State).Does (.functionLevelReset fn) e) : d.flr fn = e := by
  injection h with hstate
  exact congrArg State.dev hstate

/-- A device whose register file does not rise: the binding of VF 1 to partition 0 stands behind a higher register, its number of rings, which
the reset returns to its reset value. Until then VF 1 reads as unbound. -/
def Device.bindingHidden : Device :=
  { regs := [(Reg.ZN_RINGS 1, 0x00010001#32), (Reg.ZN_STATUS 1, 0x8001#32)], strokes := [(0, {})]
    zn := { rings := [(1, { fn := 1, loc := 0, sqBase := 0, cqBase := 0, log2 := 4 })] } }

theorem Device.bindingHidden_unbound : Device.bindingHidden.boundPart (1 : FnId) = none := by decide

set_option maxRecDepth 20000 in
/-- The reset of the function alone leaves the schedule of partition 0. -/
theorem Device.bindingHidden_flrFn : (Device.bindingHidden.flrFn (1 : FnId)).znPump.strokes.length = 1 := by decide

set_option maxRecDepth 20000 in
/-- The reset as the model carries it out finds VF 1 bound by then, and resets partition 0 as well. -/
theorem Device.bindingHidden_flr : (Device.bindingHidden.flr (1 : FnId)).strokes.length = 0 := by decide

/-- Refutes O60, in the clause on a VF without a partition, which is stated of every state: on a device that is not sound
(`Device.bindingHidden`) the reset itself uncovers the binding, and the partition is reset too. -/
theorem not_removalAndFunctionResets : ¬ Obligations.RemovalAndFunctionResets := by
  intro h
  obtain ⟨_, _, hvf, _⟩ := h { dev := Device.bindingHidden } 1
  obtain ⟨hunbound, _⟩ := hvf (by decide)
  have hreset : Device.bindingHidden.flr (1 : FnId) = (Device.bindingHidden.flrFn (1 : FnId)).znPump :=
    Device.flr_of_does (hunbound Device.bindingHidden_unbound)
  have hlength := Device.bindingHidden_flr
  rw [hreset, Device.bindingHidden_flrFn] at hlength
  exact absurd hlength (by decide)

end Machine
end Sys2Proof
end

section
/-!
What a configuration request sets (R519), and why the statement about it fails where a function's state is listed twice.
-/
namespace Sys2Proof
namespace Machine

/-- Bus Master Enable follows the request, where the list of the functions' states rises (R519). -/
theorem Device.cfgRequest_busMaster {d : Device} (hpci : Cells.rising 0 d.zn.pci = true) (hready : d.boot.starting = false) (fn v : Nat) :
    (d.cfgRequest fn 1 v).pci fn = { d.pci fn with busMaster := v % 2 == 1 } := by
  have hget : ∀ m : Cells PciFn, (Cells.find? m fn).getD {} = Cells.get {} m fn := fun m => by
    induction m with
    | nil => rfl
    | cons e m ih =>
      simp only [Cells.find?, Cells.get]
      split_ifs
      · rfl
      · rfl
      · exact ih
  rw [Device.cfgRequest, hready, if_neg Bool.false_ne_true]
  exact (hget _).trans (Cells.get_set_same hpci fn _)

/-- A started module whose list of function states holds the PF twice, each time with Bus Master Enable: a request that clears it returns the
first entry to what an unlisted function has, which removes it, and the second is read from then on. -/
def Device.busMasterTwice : Device :=
  { boot := { starting := false }, zn := { pci := [(0, { busMaster := true }), (0, { busMaster := true })] } }

theorem Device.busMasterTwice_stays : ((Device.busMasterTwice.cfgRequest 0 1 0).pci 0).busMaster = true := by decide

/-- Refutes O52, in the clause on Bus Master Enable, which is stated of every state: on a device that lists a function twice
(`Device.busMasterTwice`) it stays set. Where the list rises the clause holds (`Device.cfgRequest_busMaster`). -/
theorem not_hostAccessesAndMessages : ¬ Obligations.HostAccessesAndMessages := by
  intro h
  obtain ⟨_, _, _, hset, _⟩ := h { dev := Device.busMasterTwice } 0 0 0 [] [] 0 0 0
  obtain ⟨⟨d', hdoes, hpci, _⟩, _⟩ := hset rfl
  have hstep : Device.busMasterTwice.cfgRequest 0 1 0 = d' := by
    injection hdoes with hstate
    exact congrArg State.dev hstate
  have hcleared : ((Device.busMasterTwice.cfgRequest 0 1 0).pci 0).busMaster = false := by
    rw [hstep]
    exact congrArg PciFn.busMaster hpci
  exact absurd (hcleared.symm.trans Device.busMasterTwice_stays) (by decide)

end Machine
end Sys2Proof
end

section
/-!
Doorbells of a ring pair (R500, R501), the admin ring (R498), and the first common check that refuses a command (R508).
-/
namespace Sys2Proof
namespace Machine

/-! ## Doorbells (R500, R501, R503) -/

section Doorbell

variable {d : Device} {fn l v : Nat} {host : List Byte}

theorem Device.sqTail_of_unnamed (h : d.localRing fn l = none) : d.sqTail fn l v host = d := by simp only [Device.sqTail, h]

theorem Device.cqHeadWrite_of_unnamed (h : d.localRing fn l = none) : d.cqHeadWrite fn l v = d := by simp only [Device.cqHeadWrite, h]

variable {g : Nat} {r : Ring} (h : d.localRing fn l = some (g, r))
include h

theorem Device.sqTail_of_beyond (hv : 2 ^ r.log2 ≤ v) : d.sqTail fn l v host = d.bump (Reg.ZN_DB_ERR fn) 1 := by
  simp only [Device.sqTail, h, ge_iff_le, hv, if_true]

theorem Device.cqHeadWrite_of_beyond (hv : 2 ^ r.log2 ≤ v) : d.cqHeadWrite fn l v = d.bump (Reg.ZN_DB_ERR fn) 1 := by
  simp only [Device.cqHeadWrite, h, ge_iff_le, hv, if_true]

theorem Device.cqHeadWrite_of_inside (hv : v < 2 ^ r.log2) : d.cqHeadWrite fn l v = d.setRing g { r with cqHead := v } := by
  simp only [Device.cqHeadWrite, h, ge_iff_le, Nat.not_le.2 hv, if_false]

/-- A tail that covers n new entries of a ring in host memory makes the module read them. -/
theorem Device.sqTail_of_new {n : Nat} (hv : v < 2 ^ r.log2) (hn : (v + 2 ^ r.log2 - r.tail) % 2 ^ r.log2 = n) (hnew : n ≠ 0)
    (hopen : d.flag (Reg.ZN_STATUS 0) 30 = false) (hhost : r.sqDev = false) (hlength : host.length = 64 * n) :
    d.sqTail fn l v host =
      (d.setRing g { r with tail := v }).readPackets g (r.partialPkt ++ host) (r.partialPkt.length + n + 1) := by
  have hentries : (host ++ List.replicate (64 * n) 0#8).take (64 * n) = host := List.take_left' hlength
  simp only [Device.sqTail, h, ge_iff_le, Nat.not_le.2 hv, if_false, hn, hnew, hopen, Bool.false_eq_true, or_self, hhost, hentries]

end Doorbell

/-! ## Packets (R501, R507) -/

/-- What is left without a whole entry waits in the ring, and no command comes of it. -/
theorem Device.readPackets_nil (d : Device) (g n : Nat) :
    (d.readPackets g [] n).zn.nextCmd = d.zn.nextCmd ∧ (d.readPackets g [] n).zn.cmds = d.zn.cmds := by
  cases n with
  | zero => exact ⟨rfl, rfl⟩
  | succ n =>
    cases hring : Cells.find? d.zn.rings g with
    | none => simp only [Device.readPackets, hring, and_self]
    | some r => simp only [Device.readPackets, hring, List.length_nil, Nat.zero_lt_succ, true_or, if_true, Device.setRing, and_self]

/-- A packet of one entry becomes the next outstanding command. -/
theorem Device.readPackets_one {d : Device} {g n : Nat} {r : Ring} {pkt : List Byte} (hring : Cells.find? d.zn.rings g = some r)
    (hlength : pkt.length = 64) (hext : bits (leAt pkt 2 1) 3 0 = 0) :
    (d.readPackets g pkt (n + 2)).zn.nextCmd = d.zn.nextCmd + 1 ∧
      ∃ c, Cells.find? (d.readPackets g pkt (n + 2)).zn.cmds d.zn.nextCmd = some c ∧ c.opcode = leAt pkt 0 2 ∧ c.fn = r.fn ∧ c.ring = g ∧
        c.cmdId = leAt pkt 4 4 ∧ c.pkt = pkt := by
  have hhead : d.readPackets g pkt (n + 2) =
      ((d.setRing g { r with partialPkt := [], head := (r.head + 1) % 2 ^ r.log2 }).receive r.fn g pkt).readPackets g [] (n + 1) := by
    rw [Device.readPackets, hring]
    simp only [hext, Nat.add_zero, Nat.mul_one, hlength, Nat.lt_irrefl, or_self, if_false, Nat.div_self (show 0 < 64 by decide),
      List.take_of_length_le hlength.le, List.drop_of_length_le hlength.le]
  obtain ⟨hnext, hcmds⟩ := Device.readPackets_nil
    ((d.setRing g { r with partialPkt := [], head := (r.head + 1) % 2 ^ r.log2 }).receive r.fn g pkt) g (n + 1)
  rw [hhead, hnext, hcmds]
  exact ⟨rfl, _, Cells.find?_put_same _ _ _, rfl, rfl, rfl, rfl, rfl⟩

/-! ## The admin ring (R498, R525) -/

theorem Device.ctlDisable_of_enabled {d : Device} {fn : Nat} (h : d.flag (Reg.ZN_CTL fn) 0 = true) :
    d.ctlDisable fn = ((d.setFlag (Reg.ZN_CTL fn) 0 false).wipeRing fn).znPump := if_pos h

/-- The admin ring as the ring registers describe it. -/
def Device.adminRing (d : Device) (fn : Nat) : Ring :=
  { fn := fn, loc := 0
    sqBase := d.fld (Reg.ZN_ASQ_LO fn) 31 12 * 0x1000 + (d.reg (Reg.ZN_ASQ_HI fn)).toNat * 0x100000000
    cqBase := d.fld (Reg.ZN_ACQ_LO fn) 31 12 * 0x1000 + (d.reg (Reg.ZN_ACQ_HI fn)).toNat * 0x100000000
    log2 := max 4 (min 16 (d.fld (Reg.ZN_AQ_CFG fn) 4 0)), event := some 0 }

theorem Device.ctlEnable_of_ready {d : Device} {fn : Nat} (hready : d.flag (Reg.ZN_STATUS fn) 31 = true)
    (hoff : d.flag (Reg.ZN_CTL fn) 0 = false) :
    d.ctlEnable fn = ((d.setFlag (Reg.ZN_CTL fn) 0 true).setRing fn (d.adminRing fn)).showHeld fn := by
  simp only [Device.ctlEnable, hready, hoff, Bool.not_true, Bool.or_self, Bool.false_eq_true, if_false, Device.adminRing]

/-! ## The first failed check (R505, R508) -/

theorem Device.refuseAll_of_refused {d : Device} {id st : Nat} {c : ZCmd} (hnext : d.znNext = some (id, c)) (hrefusal : d.refusal c = some st)
    (n : Nat) : d.refuseAll (n + 1) = ((d.served c.ring).complete id st 0).refuseAll n := by
  simp only [Device.refuseAll, hnext, hrefusal]

/-- An opcode outside the catalogue fails the first check. -/
theorem Device.refusal_of_unknown {d : Device} {c : ZCmd} (hcode : opRow c.opcode = none) (hfence : d.refusalFence c = none) :
    d.refusal c = some St.BAD_OPCODE := by
  simp only [Device.refusal, hfence, Option.none_or, Device.refusalForm, hcode, Option.some_or]

/-- Settles O49: a doorbell by whether its index is in range, a packet by the command it becomes, the admin ring by the ring registers, and a
refused command by the arbiter's choice. That a tail reads every packet at once, from the bytes that are its operand, is log 70; that the
fence is checked before the rest is log 71. -/
theorem zennusRingsAndRefusals : Obligations.ZennusRingsAndRefusals := by
  intro s fn l v entries d x
  have htail : s.Does (.sqTailWrite fn l v entries) (d.sqTail fn l x entries).znPump := rfl
  have hhead : s.Does (.cqHeadWrite fn l v) (d.cqHeadWrite fn l x).znPump := rfl
  refine ⟨fun hnone => ⟨?_, ?_⟩, fun g r hring => ?doorbell, fun g r pkt n hring hlength hext => Device.readPackets_one hring hlength hext,
    fun hready hoff => ?enable, fun hon => ?disable, fun id c st n hnext hrefusal => Device.refuseAll_of_refused hnext hrefusal n,
    fun c hcode hfence => Device.refusal_of_unknown hcode hfence⟩
  · exact htail.of_eq (by rw [Device.sqTail_of_unnamed hnone])
  · exact hhead.of_eq (by rw [Device.cqHeadWrite_of_unnamed hnone])
  case doorbell =>
    intro n
    refine ⟨fun hbeyond => ⟨?_, ?_⟩, fun hin => ?_, fun hin hnew hopen hhost hlength => ?_⟩
    · exact htail.of_eq (by rw [Device.sqTail_of_beyond hring hbeyond])
    · exact hhead.of_eq (by rw [Device.cqHeadWrite_of_beyond hring hbeyond])
    · exact hhead.of_eq (by rw [Device.cqHeadWrite_of_inside hring hin])
    · exact htail.of_eq (by rw [Device.sqTail_of_new hring hin rfl hnew hopen hhost hlength])
  case enable =>
    have henable : s.Does (.znCtlEnable fn) (d.ctlEnable fn) := rfl
    exact henable.of_eq (Device.ctlEnable_of_ready hready hoff)
  case disable =>
    have hdisable : s.Does (.znCtlDisable fn) (d.ctlDisable fn) := rfl
    exact hdisable.of_eq (Device.ctlDisable_of_enabled hon)

end Machine
end Sys2Proof
end

section
/-!
How a Zennus command is taken (R502, R508, R514): the row of its opcode, the checks of the command, and the start of a long operation.
-/
namespace Sys2Proof
namespace Machine

section Row

variable {d : Device} {sel : ZCmd → Bool} {f : Device → Nat → ZCmd → Device} {id op : Nat} {c : ZCmd}

/-- A row starts the arbiter's next command where it is one that the row carries out. -/
theorem Device.znRow_of_next (hnext : d.znPump.znNext = some (id, c)) (hsel : sel c = true) :
    d.znRow sel f = (f (d.znPump.znStart id c) id { c with state := .started }).znPump := by
  simp only [Device.znRow, hnext, hsel, if_true]

theorem Device.znOp_of_next (hnext : d.znPump.znNext = some (id, c)) (hop : c.opcode = op) :
    d.znOp op f = (f (d.znPump.znStart id c) id { c with state := .started }).znPump :=
  Device.znRow_of_next hnext (beq_iff_eq.2 hop)

/-- Where no command of the opcode has started and waits, its row takes the arbiter's next one. -/
theorem Device.znRetry_of_none_waits {ready : Device → ZCmd → Bool} {again : Device → Nat → ZCmd → Device}
    (h : ∀ x ∈ d.zn.cmds, x.2.opcode ≠ op ∨ x.2.state ≠ .started) : d.znRetry op ready again f = d.znOp op f := by
  have hnone : d.zn.cmds.find? (fun e => e.2.opcode == op && e.2.state == .started && e.2.progress == 0 && ready d e.2) = none := by
    refine List.find?_eq_none.2 fun x hx hfound => ?_
    simp only [Bool.and_eq_true, beq_iff_eq] at hfound
    obtain ⟨⟨⟨hop, hstarted⟩, _⟩, _⟩ := hfound
    exact (h x hx).elim (· hop) (· hstarted)
  simp only [Device.znRetry, hnone]

end Row

section Checks

variable {d : Device} {id : Nat} {checks : List (Bool × Nat)}

/-- A command whose checks all pass has its effect. -/
theorem Device.znCheck_of_passed (h : ∀ x ∈ checks, x.1 = false) (f : Device → Device) : d.znCheck id checks f = f d := by
  simp only [Device.znCheck, firstStatus_eq_none_iff.2 h]

/-- A long operation whose checks all pass is QUEUED. -/
theorem Device.znQueue_of_passed (h : ∀ x ∈ checks, x.1 = false) (c : ZCmd) : d.znQueue id c checks = d.setCmd id { c with state := .queued } :=
  Device.znCheck_of_passed h _

end Checks

/-- The row of an opcode, in a state whose next command is of that opcode: e is what the command's own work leaves. -/
theorem State.Does.znOp {s : State} {i : Instr} {op id : Nat} {c : ZCmd} {f : Device → Nat → ZCmd → Device} {e : Device}
    (hdoes : s.Does i (s.dev.znOp op f)) (hnext : s.dev.znPump.znNext = some (id, c)) (hop : c.opcode = op)
    (heff : f (s.dev.znPump.znStart id c) id { c with state := .started } = e) : s.Does i e.znPump :=
  hdoes.of_eq (heff ▸ Device.znOp_of_next hnext hop)

end Machine
end Sys2Proof
end

section
/-!
Long operations (R514-R517): safe points, the end of their work, the controls that name them, the writes of the configuration store (R590, R592)
and the first start of an image (R582).
-/
namespace Sys2Proof
namespace Machine

/-! ## Safe points and the end of the work (R514) -/

/-- A put at a listed key replaces its entry. -/
theorem Cells.length_put_of_find? {α : Type} {key : Nat} {v w : α} : ∀ {m : Cells α}, Cells.find? m key = some w → (Cells.put m key v).length = m.length
  | [], h => by cases h
  | (k, x) :: rest, h => by
    simp only [Cells.find?, Cells.put] at h ⊢
    split_ifs at h ⊢
    · rfl
    · exact congrArg (· + 1) (Cells.length_put_of_find? h)

@[simp] theorem Device.closeWindow_zn (d : Device) : d.closeWindow.zn = d.zn := by
  unfold Device.closeWindow
  split
  · rfl
  · rw [Device.fire_zn, Device.setFld_zn, Device.setFlag_zn]

section LongOp

variable {d : Device} {id : Nat} {t : ZCmd} (h : Cells.find? d.zn.cmds id = some t) (hlong : t.long = true)
include h hlong

theorem Device.safePoint_of_suspending (hstate : t.state = .suspending) :
    d.safePoint id =
      let e := if d.hasWindow id then d.closeWindow else d
      let e' := e.setCmd id { t with state := .suspended, sys := e.sysHolds t }
      e'.settleControls id (e'.zn.cmds.length + 1) := by
  have hzn : (if d.hasWindow id then d.closeWindow else d).zn = d.zn := by
    split
    · exact d.closeWindow_zn
    · rfl
  have hlength : ∀ v : ZCmd, (Cells.put (if d.hasWindow id then d.closeWindow else d).zn.cmds id v).length =
      (if d.hasWindow id then d.closeWindow else d).zn.cmds.length := fun v => by
    rw [hzn]
    exact Cells.length_put_of_find? h
  simp only [Device.safePoint, h, hlong, hstate, Bool.true_and, beq_self_eq_true, if_true]
  rw [show (Device.setCmd _ id _).zn.cmds.length = _ from hlength _]

/-- Only an operation that is RESUMING is restored (R514, R575). -/
theorem Device.restoreOp_of_not_resuming (hstate : t.state ≠ .resuming) : d.restoreOp id = d := by
  simp only [Device.restoreOp, h, hlong, beq_eq_false_iff_ne.2 hstate, Bool.and_false, Bool.not_false, if_true]

/-- The work of an operation at work ends, unless the module itself holds it or it waits for a press. -/
theorem Device.longOpDone_of_at_work (hstate : t.state = .running ∨ t.state = .suspending) (hholds : d.sysHolds t = false)
    (hwindow : d.hasWindow id = false) : d.longOpDone id = d.opFinish id t := by
  have hnot : t.state ≠ .resuming := by rcases hstate with hstate | hstate <;> rw [hstate] <;> decide
  rcases hstate with hstate | hstate <;>
    simp only [Device.longOpDone, Device.restoreOp_of_not_resuming h hlong hnot, h, hlong, hstate, hholds, hwindow, Bool.not_true, Bool.or_self,
      Bool.false_eq_true, if_false]

theorem Device.longOpDone_of_cancelling (hstate : t.state = .cancelling) : d.longOpDone id = d.endOp id St.CANCELLED := by
  have hnot : t.state ≠ .resuming := by rw [hstate]; decide
  simp only [Device.longOpDone, Device.restoreOp_of_not_resuming h hlong hnot, h, hlong, hstate, Bool.not_true, Bool.false_eq_true, if_false]

/-- An operation that has not begun, or is SUSPENDED, does no work. -/
theorem Device.longOpDone_of_at_rest (hstate : t.state = .queued ∨ t.state = .suspended) : d.longOpDone id = d := by
  have hnot : t.state ≠ .resuming := by rcases hstate with hstate | hstate <;> rw [hstate] <;> decide
  rcases hstate with hstate | hstate <;>
    simp only [Device.longOpDone, Device.restoreOp_of_not_resuming h hlong hnot, h, hlong, hstate, Bool.not_true, Bool.false_eq_true, if_false]

end LongOp

/-! ## Controls (R516) -/

theorem ZCmd.badControl_iff {c : ZCmd} :
    c.badControl = true ↔ c.arg 20 1 > 1 ∨ (c.fn = 0 ∧ c.arg 21 1 > 16 ∧ c.arg 21 1 ≠ mctpFn) := by
  simp only [ZCmd.badControl, Bool.or_eq_true, decide_eq_true_eq, Bool.and_eq_true, beq_iff_eq, bne_iff_ne, and_assoc]

section Control

variable {d : Device} {k id : Nat} {c t : ZCmd}

theorem Device.opQuery_of_bad (hbad : c.badControl = true) : d.opQuery k c = d.complete k St.BAD_FIELD 0 := if_pos hbad
theorem Device.opControl_of_bad (hbad : c.badControl = true) : d.opControl k c = d.complete k St.BAD_FIELD 0 := if_pos hbad

variable (hgood : c.badControl = false)
include hgood

theorem Device.opQuery_of_unfound (htarget : d.controlTarget k c = none) : d.opQuery k c = d.complete k St.NOT_FOUND 0 := by
  simp only [Device.opQuery, hgood, htarget, Bool.false_eq_true, if_false]

theorem Device.opControl_of_unfound (htarget : d.controlTarget k c = none) : d.opControl k c = d.complete k St.NOT_FOUND 0 := by
  simp only [Device.opControl, hgood, htarget, Bool.false_eq_true, if_false]

variable (htarget : d.controlTarget k c = some (id, t))
include htarget

/-- A query answers the state, and a progress that is 0 before the operation has run. -/
theorem Device.opQuery_of_long (hlong : t.long = true) :
    ∃ p, p < 1001 ∧ ((t.state = .queued ∨ t.ran = false) → p = 0) ∧
      d.opQuery k c = d.useFree.complete k St.OK (t.state.code * 0x10000000 + (if t.sys then 0x8000000 else 0) + p) := by
  refine ⟨if t.state == .queued || t.state == .waiting || !t.ran then 0 else Config.opProgress d.free % 1001, ?_, fun hnone => if_pos ?_, ?_⟩
  · split
    · decide
    · exact Nat.mod_lt _ (by decide)
  · rcases hnone with hnone | hnone <;> simp [hnone]
  · simp only [Device.opQuery, hgood, htarget, hlong, Bool.not_true, Bool.false_eq_true, if_false]

/-- A cancel of a command that has not begun ends it. -/
theorem Device.opControl_of_waiting (hstate : t.state = .waiting) (hop : c.opcode = 0x0103) :
    d.opControl k c = (d.complete id St.CANCELLED 0).complete k St.OK 0 := by
  simp only [Device.opControl, hgood, htarget, hstate, hop, Bool.false_eq_true, if_false, beq_self_eq_true, if_true]

section Long

variable (hlong : t.long = true) (hstate : t.state ≠ .waiting)
include hlong hstate

/-- A control meets the long operation it names. -/
theorem Device.opControl_of_long :
    d.opControl k c =
      if c.opcode = 0x0101 then d.suspendMeets k c id t else if c.opcode = 0x0102 then d.resumeMeets k c id t else d.cancelMeets k c id t := by
  simp only [Device.opControl, hgood, htarget, hlong, beq_eq_false_iff_ne.2 hstate, Bool.not_true, Bool.false_eq_true, if_false]

theorem Device.opControl_of_suspend (hop : c.opcode = 0x0101) : d.opControl k c = d.suspendMeets k c id t :=
  (Device.opControl_of_long hgood htarget hlong hstate).trans (if_pos hop)

theorem Device.opControl_of_resume (hop : c.opcode = 0x0102) : d.opControl k c = d.resumeMeets k c id t := by
  rw [Device.opControl_of_long hgood htarget hlong hstate, if_neg (by rw [hop]; decide), if_pos hop]

theorem Device.opControl_of_cancel (hop : c.opcode = 0x0103) : d.opControl k c = d.cancelMeets k c id t := by
  rw [Device.opControl_of_long hgood htarget hlong hstate, if_neg (by rw [hop]; decide), if_neg (by rw [hop]; decide)]

end Long

end Control

section Meets

variable {d : Device} {k id : Nat} {c t : ZCmd}

theorem Device.suspendMeets_of_at_rest (hstate : t.state = .queued ∨ t.state = .suspended) :
    d.suspendMeets k c id t = (d.setCmd id { t with state := .suspended, hostSusp := true }).complete k St.OK 0 := by
  rcases hstate with hstate | hstate <;> simp only [Device.suspendMeets, hstate]

theorem Device.suspendMeets_of_running (hstate : t.state = .running) :
    d.suspendMeets k c id t = (d.setCmd id { t with state := .suspending, hostSusp := true }).controlWaits k c id := by
  simp only [Device.suspendMeets, hstate]

theorem Device.resumeMeets_of_not_suspended (hstate : t.state = .queued ∨ t.state = .running) :
    d.resumeMeets k c id t = d.complete k St.OK 0 := by
  rcases hstate with hstate | hstate <;> simp only [Device.resumeMeets, hstate]

theorem Device.resumeMeets_of_resuming (hstate : t.state = .resuming) : d.resumeMeets k c id t = d.controlWaits k c id := by
  simp only [Device.resumeMeets, hstate]

theorem Device.cancelMeets_of_queued (hstate : t.state = .queued) :
    d.cancelMeets k c id t = (d.endOp id St.CANCELLED).complete k St.OK 0 := by
  simp only [Device.cancelMeets, hstate, beq_self_eq_true, Bool.true_or, if_true]

/-- A running operation is cancelled, but a lifecycle transition whose scrub has begun runs on. -/
theorem Device.cancelMeets_of_running (hstate : t.state = .running) (hpress : d.needsPresence t = false)
    (hscrub : t.opcode ≠ 0x0800 ∨ t.progress ≠ 1) :
    d.cancelMeets k c id t = (d.setCmd id { t with state := .cancelling }).controlWaits k c id := by
  have hnotBegun : (t.state == .queued || (t.state == .suspended && !t.ran) || (d.needsPresence t && t.progress == 0 && t.state != .cancelling)) = false := by
    rw [hstate, hpress]
    rfl
  rw [Device.cancelMeets, hnotBegun, if_neg Bool.false_ne_true, if_neg fun hboth => hscrub.elim (· hboth.1) (· hboth.2)]

end Meets

/-! ## The store's writes (R590, R592) -/

theorem Device.setBank_fails (d : Device) (b : Nat) (c : Option StoreCopy) : (d.setBank b c).boot.fails = d.boot.fails := by
  unfold Device.setBank
  split <;> rfl

theorem Device.storeWriteDone_of_idle {d : Device} (h : d.boot.changes = []) (ok : Bool) : d.storeWriteDone ok = d := by
  simp only [Device.storeWriteDone, h]

section StoreWrite

variable {d : Device} {c : StoreChange} {rest : List StoreChange} (h : d.boot.changes = c :: rest)
include h

theorem Device.storeWriteDone_of_matched : d.storeWriteDone true = d.storeDone c rest := by
  simp only [Device.storeWriteDone, h, if_true]

/-- The first failure in a row leaves the change to be tried again. -/
theorem Device.storeWriteDone_of_first_failure (hfails : d.boot.fails = 0) :
    d.storeWriteDone false =
      let e := (d.setBank d.nextBank none).bump Reg.CFG_WRITES 1
      { e with boot := { e.boot with fails := 1 } } := by
  have hfails' : ((d.setBank d.nextBank none).bump Reg.CFG_WRITES 1).boot.fails = 0 := by
    rw [Device.bump_boot, Device.setBank_fails, hfails]
  simp only [Device.storeWriteDone, h, hfails', Bool.false_eq_true, if_false, if_true]

end StoreWrite

/-! ## The first start of an image (R582) -/

/-- From d to e the source FIRMWARE stays as it is, and so do the first starts in progress; a sound device stays sound. -/
structure Device.StartStep (d e : Device) : Prop where
  sound : d.Sound → e.Sound
  source : d.Sound → e.reg (Reg.EVT_SRC Evt.FIRMWARE) = d.reg (Reg.EVT_SRC Evt.FIRMWARE)
  starts : e.boot.firstStart = d.boot.firstStart

namespace Device.StartStep

theorem refl (d : Device) : d.StartStep d := ⟨fun h => h, fun _ => rfl, rfl⟩

theorem trans {d e f : Device} (hde : d.StartStep e) (hef : e.StartStep f) : d.StartStep f :=
  ⟨fun h => hef.sound (hde.sound h), fun h => (hef.source (hde.sound h)).trans (hde.source h), hef.starts.trans hde.starts⟩

theorem setReg (d : Device) {k : Nat} (v : Word) (hk : Reg.EVT_SRC Evt.FIRMWARE ≠ k) : d.StartStep (d.setReg k v) :=
  ⟨fun h => Device.setReg_sound h k v, fun h => Device.reg_setReg_ne h v hk, rfl⟩

theorem setFld (d : Device) {k : Nat} (hi lo v : Nat) (hk : Reg.EVT_SRC Evt.FIRMWARE ≠ k) : d.StartStep (d.setFld k hi lo v) :=
  setReg d _ hk

theorem setFlag (d : Device) {k : Nat} (i : Nat) (b : Bool) (hk : Reg.EVT_SRC Evt.FIRMWARE ≠ k) : d.StartStep (d.setFlag k i b) :=
  setReg d _ hk

/-- A change of fields that no first start stands in. -/
theorem upd {d e : Device} (hsound : d.Sound → e.Sound) (hregs : e.regs = d.regs) (hstarts : e.boot.firstStart = d.boot.firstStart) : d.StartStep e :=
  ⟨hsound, fun _ => congrArg (fun m => Cells.get _ m _) hregs, hstarts⟩

theorem foldl {α : Type} {g : Device → α → Device} (hg : ∀ (d : Device) (x : α), d.StartStep (g d x)) :
    ∀ (l : List α) (d : Device), d.StartStep (l.foldl g d)
  | [], d => .refl d
  | x :: l, d => (hg d x).trans (foldl hg l (g d x))

theorem ite {d e f : Device} {p : Prop} [Decidable p] (he : d.StartStep e) (hf : d.StartStep f) : d.StartStep (if p then e else f) := by
  split
  · exact he
  · exact hf

end Device.StartStep

theorem Device.showSlots_startStep (d : Device) : d.StartStep d.showSlots :=
  .foldl (fun _ s => .setReg _ _ (by simp only [Reg.EVT_SRC, Reg.EVT, Evt.FIRMWARE, Reg.CFG_FW, Reg.CFG]; omega)) _ d

/-- A change that the module makes on its own account. -/
theorem Device.storeChange_startStep (d : Device) {c : StoreChange} (hown : c.owner = none) : d.StartStep (d.storeChange c) := by
  unfold Device.storeChange
  refine .ite ?_ ?_
  · simp only [Device.refuseChange, hown]
    exact .upd Device.Sound.upd rfl rfl
  · refine .trans (.trans ?_ (.setFlag _ 24 true (by decide))) (Device.showSlots_startStep _)
    exact .upd Device.Sound.upd rfl rfl

theorem Device.storeSlots_startStep (d : Device) (s : Nat) (e : SlotEntry) : d.StartStep (d.storeSlots s e none) := d.storeChange_startStep rfl

theorem Device.runs_startStep (d : Device) (s : Nat) : d.StartStep (d.runs s) := by
  have hlisted : d.StartStep (if d.boot.runningFw.contains s then d else { d with boot := { d.boot with runningFw := d.boot.runningFw ++ [s] } }) :=
    .ite (.refl d) (.upd Device.Sound.upd rfl rfl)
  unfold Device.runs
  dsimp only
  split
  next hchiplet =>
    refine hlisted.trans (.setReg _ _ ?_)
    simp only [Reg.EVT_SRC, Reg.EVT, Evt.FIRMWARE, Reg.CIS_BUILTIN, Reg.CIS]
    omega
  next => exact hlisted

theorem Device.setPaused_startStep (d : Device) (b : Bool) : d.StartStep (d.setPaused b) :=
  .foldl (fun _ f => .setFlag _ 28 b (by simp only [Reg.EVT_SRC, Reg.EVT, Evt.FIRMWARE, Reg.ZN_STATUS, Reg.ZN]; omega)) _ d

theorem Device.sysResume_startStep (d : Device) : d.StartStep d.sysResume := .upd Device.sysResume_sound rfl rfl

theorem Device.firstStart_of_none {d : Device} {s : Nat} (h : d.boot.firstStart.find? (fun x => x.1 == s) = none) (ok : Bool) :
    d.firstStart s ok = d := by simp only [Device.firstStart, h]

/-- An image that has reported itself ready keeps its slot, and its security numbers count from now on (R560). -/
def Device.startPassed (d : Device) (s : Nat) : Device :=
  let e := d.slots s
  let b := d.slotImage s (e.active % 2)
  let d := d.storeSlots s { e with trial := false } none
  let d := if d.arb s < imgSvn b then d.setFld (Reg.SEC_ARB s) 6 0 (min 64 (imgSvn b)) else d
  d.revokeBelow (imgMinKey b)

/-- An image that has failed gives its slot back to the other one. -/
def Device.startFailed (d : Device) (s : Nat) : Device :=
  let e := d.slots s
  let d := d.storeSlots s { (e.setState (e.active % 2) 2) with active := e.other, trial := false } none
  { d with boot := { d.boot with tableStore := if s = Sub.VECTOR then some (d.tableVersion e.other) else d.boot.tableStore } }

theorem Device.startPassed_startStep (d : Device) {s : Nat} (hs : s < 7) : d.StartStep (d.startPassed s) := by
  have harb : Reg.EVT_SRC Evt.FIRMWARE ≠ Reg.SEC_ARB s := by
    simp only [Reg.EVT_SRC, Reg.EVT, Evt.FIRMWARE, Reg.SEC_ARB, Reg.SEC]
    omega
  have hstore := d.storeSlots_startStep s { d.slots s with trial := false }
  exact .trans (.ite (hstore.trans (.setFld _ _ _ _ harb)) hstore) (.upd Device.revokeBelow_sound rfl rfl)

theorem Device.startFailed_startStep (d : Device) (s : Nat) : d.StartStep (d.startFailed s) := by
  have hstore := d.storeSlots_startStep s { ((d.slots s).setState ((d.slots s).active % 2) 2) with active := (d.slots s).other, trial := false }
  exact hstore.trans (.upd Device.Sound.upd rfl rfl)

/-- The first start x is over. -/
def Device.startTaken (d : Device) (x : Nat × Option Nat) : Device :=
  { d with boot := { d.boot with firstStart := d.boot.firstStart.erase x } }

theorem Device.startTaken_sound {d : Device} (h : d.Sound) (x : Nat × Option Nat) : (d.startTaken x).Sound := Device.Sound.upd h

/-- The verdict on an image leaves the source FIRMWARE until it fires, and the other first starts (R582). -/
theorem Device.firstStart_of_found {d : Device} {s : Nat} {x : Nat × Option Nat} (hs : s < 7)
    (hfound : d.boot.firstStart.find? (fun x => x.1 == s) = some x) (hown : x.2 = none) (ok : Bool) :
    ∃ e, (d.startTaken x).StartStep e ∧ d.firstStart s ok = e.fire Evt.FIRMWARE := by
  have hverdict : (d.startTaken x).StartStep (if ok then (d.startTaken x).startPassed s else (d.startTaken x).startFailed s) :=
    .ite (Device.startPassed_startStep _ hs) (Device.startFailed_startStep _ s)
  have hruns := hverdict.trans ((Device.runs_startStep _ s).trans (.setFld _ s s 0 (show Reg.EVT_SRC Evt.FIRMWARE ≠ Reg.CFG_BOOT by decide)))
  have hgoes := hruns.trans ((Device.setPaused_startStep _ false).trans (Device.sysResume_startStep _))
  refine ⟨_, (Device.StartStep.ite (p := s = Sub.MGMT) hgoes hruns).trans (Device.showSlots_startStep _), ?_⟩
  simp only [Device.firstStart, hfound, hown]
  rfl

/-- What a source that fires stands at afterwards (R534). -/
theorem Device.evtState_fire_same {d : Device} (h : d.Sound) (n : Nat) :
    (d.fire n).evtState n = match d.evtState n with | 0 => 1 | 2 => 3 | n => n := by
  obtain ⟨h0, h1, h2, h3⟩ := Device.fire_goes h n
  have hlt : d.evtState n < 4 := Nat.mod_lt _ (by decide)
  generalize hstate : d.evtState n = v at hlt
  match v, hlt with
  | 0, _ => exact (h0 hstate).1
  | 1, _ => exact (h1 hstate).1
  | 2, _ => exact (h2 hstate).1
  | 3, _ => exact (h3 hstate).1

/-- Settles O50: safe points and the end of the work by the state of the operation, a control by the state of the command that it names, the
store's writes by the change in progress, and a first start by the registers that its verdict leaves. That KIND and byte 21 give
ST_BAD_FIELD, that the progress is free, and the resume of a QUEUED operation are log 72's; that a row whose condition fails does nothing is
log 7. -/
theorem longOperationsProceed : Obligations.LongOperationsProceed := by
  intro s op sub d
  have hsafe : s.Does (.longOpSafePoint op) (d.safePoint op).znPump := rfl
  have hdone : s.Does (.longOpDone op) (d.longOpDone op).znPump := rfl
  have hwrite : ∀ ok, s.Does (.cfgStoreWriteDone ok) (d.storeWriteDone ok).znPump := fun _ => rfl
  have hstart : ∀ ok, s.Does (.fwFirstStartResult sub ok) (d.firstStart sub ok).znPump := fun _ => rfl
  refine ⟨fun t ht hlong hstate => ?_, fun t ht hlong => ⟨fun hstate hholds hwindow => ?_, fun hstate => ?_, fun hstate => ?_⟩, ?controls,
    fun c rest hchanges => ⟨?_, fun hfails => ?_⟩, fun hidle ok => ?_, fun x ok hfound => ?firstStart, fun hnone ok => ?_⟩
  · exact hsafe.of_eq (by rw [Device.safePoint_of_suspending ht hlong hstate])
  · exact hdone.of_eq (by rw [Device.longOpDone_of_at_work ht hlong hstate hholds hwindow])
  · exact hdone.of_eq (by rw [Device.longOpDone_of_cancelling ht hlong hstate]; rfl)
  · exact hdone.of_eq (by rw [Device.longOpDone_of_at_rest ht hlong hstate])
  case controls =>
    intro id c0 hnext c e bad
    have hbadIff : c.badControl = true ↔ bad := ZCmd.badControl_iff
    have hgood : ¬ bad → c.badControl = false := fun hnot => Bool.eq_false_iff.2 fun htrue => hnot (hbadIff.1 htrue)
    have hquery : ∀ {e'}, c0.opcode = 0x0100 → e.opQuery id c = e' → s.Does .znOpQuery e'.znPump := State.Does.znOp rfl hnext
    have hsuspend : ∀ {e'}, c0.opcode = 0x0101 → e.opControl id c = e' → s.Does .znOpSuspend e'.znPump := State.Does.znOp rfl hnext
    have hresume : ∀ {e'}, c0.opcode = 0x0102 → e.opControl id c = e' → s.Does .znOpResume e'.znPump := State.Does.znOp rfl hnext
    have hcancel : ∀ {e'}, c0.opcode = 0x0103 → e.opControl id c = e' → s.Does .znOpCancel e'.znPump := State.Does.znOp rfl hnext
    refine ⟨fun row hrow hop => ?unmet, ?met⟩
    case unmet =>
      have hfails := And.intro (fun hbad => Device.opControl_of_bad (d := e) (k := id) (hbadIff.2 hbad))
        (fun hnot htarget => Device.opControl_of_unfound (d := e) (k := id) (hgood hnot) htarget)
      obtain ⟨hbad, hunfound⟩ := hfails
      simp only [List.mem_cons, List.not_mem_nil, or_false] at hrow
      rcases hrow with rfl | rfl | rfl | rfl
      · exact ⟨fun h => hquery hop (Device.opQuery_of_bad (hbadIff.2 h)), fun h ht => hquery hop (Device.opQuery_of_unfound (hgood h) ht)⟩
      · exact ⟨fun h => hsuspend hop (hbad h), fun h ht => hsuspend hop (hunfound h ht)⟩
      · exact ⟨fun h => hresume hop (hbad h), fun h ht => hresume hop (hunfound h ht)⟩
      · exact ⟨fun h => hcancel hop (hbad h), fun h ht => hcancel hop (hunfound h ht)⟩
    case met =>
      intro k t hnot htarget waits
      refine ⟨fun hlong hstate => ⟨fun hop => ?query, fun hop => ?suspend, fun hop => ?resume, fun hop => ?cancel⟩,
        fun hwaiting hop => hcancel hop (Device.opControl_of_waiting (hgood hnot) htarget hwaiting hop)⟩
      case query =>
        obtain ⟨p, hp, hnone, heq⟩ := Device.opQuery_of_long (hgood hnot) htarget hlong
        exact ⟨p, hp, hnone, hquery hop heq⟩
      case suspend =>
        have hmeets := Device.opControl_of_suspend (hgood hnot) htarget hlong hstate hop
        exact ⟨fun h => hsuspend hop (hmeets.trans (Device.suspendMeets_of_at_rest h)),
          fun h => hsuspend hop (hmeets.trans (Device.suspendMeets_of_running h))⟩
      case resume =>
        have hmeets := Device.opControl_of_resume (hgood hnot) htarget hlong hstate hop
        exact ⟨fun h => hresume hop (hmeets.trans (Device.resumeMeets_of_not_suspended h)),
          fun h => hresume hop (hmeets.trans (Device.resumeMeets_of_resuming h))⟩
      case cancel =>
        have hmeets := Device.opControl_of_cancel (hgood hnot) htarget hlong hstate hop
        exact ⟨fun h => hcancel hop (hmeets.trans (Device.cancelMeets_of_queued h)),
          fun h hpress hscrub => hcancel hop (hmeets.trans (Device.cancelMeets_of_running h hpress hscrub))⟩
  · exact (hwrite true).of_eq (by rw [Device.storeWriteDone_of_matched hchanges])
  · exact (hwrite false).of_eq (by rw [Device.storeWriteDone_of_first_failure hchanges hfails])
  · exact (hwrite ok).of_eq (by rw [Device.storeWriteDone_of_idle hidle])
  case firstStart =>
    refine ⟨_, hstart ok, fun hsound hown => ?_⟩
    obtain ⟨e, hstep, heq⟩ := Device.firstStart_of_found sub.isLt hfound hown ok
    have htaken := Device.startTaken_sound hsound x
    have hsource : e.evtState Evt.FIRMWARE = d.evtState Evt.FIRMWARE := Device.fld_congr (hstep.source htaken) ..
    rw [heq, Device.fire_boot, hstep.starts]
    exact ⟨hsource ▸ Device.evtState_fire_same (hstep.sound htaken) Evt.FIRMWARE, rfl⟩
  · exact (hstart ok).of_eq (by rw [Device.firstStart_of_none hnone])

end Machine
end Sys2Proof
end

section
/-!
The return to Active (R568): the P-state that the dies come up at, and why the statement about it fails on a device that is not sound.
-/
namespace Sys2Proof
namespace Machine

/-! ## On a sound device -/

/-- A reset of the dies leaves the registers outside their blocks. -/
theorem Device.reg_resetDies {d : Device} (h : d.Sound) {k : Nat} (hk : k % 0x4000000 < 0x1000000) : d.resetDies.reg k = d.reg k :=
  Cells.get_filter_of _ (Cells.wf_rising h.wfRegs) k (by simp [hk])

theorem Device.reg_foldl_setReg_ne {α : Type} {key : α → Nat} {k : Nat} (hk : ∀ x, k ≠ key x) (v : Word) :
    ∀ (l : List α) {d : Device}, d.Sound → (l.foldl (fun (d : Device) x => d.setReg (key x) v) d).reg k = d.reg k
  | [], _, _ => rfl
  | x :: l, _, h => (Device.reg_foldl_setReg_ne hk v l (Device.setReg_sound h _ v)).trans (Device.reg_setReg_ne h v (hk x))

theorem Device.reg_diesOn {d : Device} (h : d.Sound) {k : Nat} (hk : k < Reg.CORE 0) : d.diesOn.reg k = d.reg k := by
  have hdies : d.resetDies.reg k = d.reg k := Device.reg_resetDies h (by simp only [Reg.CORE] at hk; omega)
  have hbuiltin : ∀ c, k ≠ Reg.SF_BUILTIN c := fun c => by
    simp only [Reg.SF_BUILTIN, Reg.SF, Reg.CORE] at hk ⊢
    omega
  cases hstore : d.resetDies.boot.tableStore with
  | none =>
    have hregs : d.diesOn.regs = d.resetDies.regs := by simp only [Device.diesOn, hstore]
    exact (congrArg (fun m => Cells.get _ m _) hregs).trans hdies
  | some v =>
    have hregs : d.diesOn.regs = ((List.range 128).foldl (fun (d : Device) c => d.setReg (Reg.SF_BUILTIN c) v) d.resetDies).regs := by
      simp only [Device.diesOn, hstore]
    exact (congrArg (fun m => Cells.get _ m _) hregs).trans
      ((Device.reg_foldl_setReg_ne hbuiltin v _ (Device.resetDies_sound h)).trans hdies)

/-- The dies come up at the P-state that stood before (R567). -/
theorem Device.pState_diesOn {d : Device} (h : d.Sound) : d.diesOn.pState = d.pState := by
  simp only [Device.pState, Device.fld, Device.reg_diesOn h (show Reg.PWR_STATE < Reg.CORE 0 by decide),
    Device.reg_diesOn h (show Reg.PWR_GOV < Reg.CORE 0 by decide)]

/-! ## On a device that is not sound -/

/-- A ZN_POWER_STATE that asks for Active. -/
def activeCmd : ZCmd := cmdOf 0 0 (znPkt 0x0806 0x80 [(16, 1, 6)])

theorem activeCmd_opcode : activeCmd.opcode = 0x0806 := by decide
theorem activeCmd_arg : activeCmd.arg 16 1 = 6 := by decide

/-- A module in Standby that has read it, whose register file does not rise: PWR_GOV, at level 3, stands behind a register of a core, which the
reset of the dies removes. Until then PWR_GOV reads level 0. -/
def Device.levelHidden : Device :=
  { znWith znBase 0x0806 0x80 [(16, 1, 6)] with
    regs := [(Reg.SEC_STATE, 0x50000000#32), (Reg.PWR_STATE, 0xA0000000#32), (Reg.CORE_CONV_LOST 0, 0x1#32), (Reg.PWR_GOV, 0x60000000#32)] }

/-- It takes the command. -/
def Device.levelHiddenTaken : Device := Device.levelHidden.znPump.znStart 0 activeCmd

theorem Device.levelHidden_next : Device.levelHidden.znPump.znNext = some (0, activeCmd) := by decide

set_option maxRecDepth 20000 in
theorem Device.levelHidden_standby : Device.levelHiddenTaken.standby = true := by decide

/-- The return to Active at P-state n. -/
def Device.returnsAt (d : Device) (n : Nat) : Device := (((d.diesOn.setFld Reg.PWR_STATE 31 29 n).sysResume).complete 0 St.OK 0).znPump

set_option maxRecDepth 20000 in
/-- The P-state that stood before, and the one that stands once the dies are on. -/
theorem Device.levelHidden_pState :
    (Device.levelHiddenTaken.returnsAt Device.levelHiddenTaken.pState).fld Reg.PWR_STATE 31 29 = 0 ∧
      (Device.levelHiddenTaken.returnsAt Device.levelHiddenTaken.diesOn.pState).fld Reg.PWR_STATE 31 29 = 3 := by decide

section ActiveReturn

variable {s : State} {c : ZCmd} {e : Device} (hnext : s.dev.znPump.znNext = some (0, c)) (htaken : s.dev.znPump.znStart 0 c = e)
  (hop : c.opcode = 0x0806) (hactive : c.arg 16 1 = 6) (hstandby : e.standby = true)
include hnext htaken hop hactive hstandby

/-- The row of ZN_POWER_STATE 6 takes the P-state that stood before the dies came up. -/
theorem activeReturn_of_standby : s.Does .activeReturn (e.returnsAt e.pState) := by
  have hrow : s.Does .activeReturn (s.dev.znRow (fun c => c.opcode == 0x0806 && c.arg 16 1 == 6) Device.doActive) := rfl
  subst htaken
  rw [Device.znRow_of_next hnext (by rw [hop, hactive]; rfl), Device.doActive, if_pos hstandby] at hrow
  exact hrow

/-- What the statement says of it is that the P-state is the one that stands once the dies are on. -/
theorem returnsAt_eq_of_stated (h : Obligations.ZennusModuleCommands) : e.returnsAt e.pState = e.returnsAt e.diesOn.pState := by
  have hdoes := activeReturn_of_standby hnext htaken hop hactive hstandby
  subst htaken
  obtain ⟨_, _, _, _, _, _, _, _, _, _, _, _, _, _, _, _, _, _, _, hrow, _⟩ := h s 0 c [] hnext
  injection hdoes.symm.trans (hrow hop ⟨hactive, hstandby⟩) with hstate
  exact congrArg State.dev hstate

end ActiveReturn

/-- Refutes O48, in the clause on the return from Standby, which is stated of every state: on a device that is not sound
(`Device.levelHidden`) the reset of the dies uncovers another governor's level, and the P-state shown is the one from before it. On a sound
device the two are the same (`Device.pState_diesOn`). -/
theorem not_zennusModuleCommands : ¬ Obligations.ZennusModuleCommands := by
  intro h
  have hsame := returnsAt_eq_of_stated (s := { dev := Device.levelHidden }) (e := Device.levelHiddenTaken) Device.levelHidden_next rfl
    activeCmd_opcode activeCmd_arg Device.levelHidden_standby h
  obtain ⟨hbefore, hafter⟩ := Device.levelHidden_pState
  rw [← hsame, hbefore] at hafter
  exact absurd hafter (by decide)

end Machine
end Sys2Proof
end

section
/-!
The update sequencer: which queue it serves and what it makes of a descriptor (R454, R456, R458), the cistern engines (R463), doorbells,
enables and drains (R456), and torn groups (R455).
-/
namespace Sys2Proof
namespace Machine

/-! ## Serving a queue (R454, R456, R458) -/

section Serve

variable {d : Device} {p q : Nat} {t : UpdDesc}

/-- The turn passes behind queue q; a VECTOR descriptor leaves Idle (R568). -/
def Device.turned (d : Device) (p q : Nat) (t : UpdDesc) : Device :=
  let d := if uVector t.bytes then d.exitIdle else d
  { d with upd := { d.upd with ptr := Cells.put d.upd.ptr p ((q + 1) % 64) } }

/-- The queue that rotating priority finds is served, where its descriptor is of the kind asked for. -/
theorem Device.updServe_of_head (hturn : rotate 64 (Cells.get 0 d.upd.ptr p) (fun q => ((d.updHead p q).map d.updReady).getD false) = some q)
    (hhead : d.updHead p q = some t) :
    d.updServe p t.kind = (d.turned p q t).updTake t := by
  have hfirst : rotate 64 (Cells.get 0 d.upd.ptr p) (fun q => match d.updHead p q with | some t => d.updReady t | none => false) = some q := by
    rw [← hturn]
    congr 1
    funext q
    cases d.updHead p q <;> rfl
  unfold Device.updServe
  dsimp only
  split
  case h_1 hnone => exact absurd (hnone.symm.trans hfirst) nofun
  case h_2 q' hsome =>
    obtain rfl : q' = q := Option.some.inj (hsome.symm.trans hfirst)
    simp only [hhead, ne_eq, not_true_eq_false, if_false, Device.turned]

theorem Device.updTake_of_stale (h : d.updStale t = true) : d.updTake t = d.updDone t { status := St.CANCELLED } := if_pos h

variable (hfresh : d.updStale t = false)
include hfresh

theorem Device.updTake_of_beyond (hgroup : d.fld (Reg.UPD_NGROUP t.part) 16 0 ≤ uGroup t.bytes) :
    d.updTake t = d.updDone t { status := St.BAD_FIELD, refused := true, early := true } := by
  simp only [Device.updTake, hfresh, Bool.false_eq_true, if_false, ge_iff_le, hgroup, if_true]

/-- The row of the group of a descriptor, as it is read when the descriptor is taken up. -/
def Device.readRow (d : Device) (t : UpdDesc) : Device × List Byte × Nat × Nat :=
  d.readVa t.part (d.redTable (Reg.UPD_COEF_LO t.part) + 128 * uGroup t.bytes) 128

/-- The checks of a descriptor against the row that was read. -/
def Device.checkRow (d : Device) (t : UpdDesc) : Device × Nat × Nat :=
  (d.readRow t).1.updCheck t.part t.bytes (d.readRow t).2.1

variable (hgroup : uGroup t.bytes < d.fld (Reg.UPD_NGROUP t.part) 16 0) (hrow : t.row = none) (hread : (d.readRow t).2.2.1 = St.OK)
include hgroup hrow hread

theorem Device.updTake_of_refused (hcheck : (d.checkRow t).2.1 ≠ St.OK) :
    d.updTake t = (d.checkRow t).1.updDone t { status := (d.checkRow t).2.1, refused := true, early := true } := by
  simp only [Device.checkRow, Device.readRow] at hread hcheck ⊢
  simp only [Device.updTake, hfresh, Bool.false_eq_true, if_false, ge_iff_le, Nat.not_le.2 hgroup, hrow, hread, ne_eq, not_true_eq_false,
    hcheck, not_false_eq_true, if_true]

/-- A descriptor that passes its checks keeps its row; it waits behind its group, or meets the group's record. -/
theorem Device.updTake_of_passed (hcheck : (d.checkRow t).2.1 = St.OK) :
    d.updTake t =
      let t' := { t with row := some (d.readRow t).2.1 }
      let e := (d.checkRow t).1.setUpd t'
      if e.updWaits t' then e else e.updBegin t' (d.checkRow t).2.2 := by
  simp only [Device.checkRow, Device.readRow] at hread hcheck ⊢
  simp only [Device.updTake, hfresh, Bool.false_eq_true, if_false, ge_iff_le, Nat.not_le.2 hgroup, hrow, hread, ne_eq, not_true_eq_false, hcheck]
  rfl

end Serve

/-! ## The group's record (R454, R458, R464) -/

section Begin

variable {d : Device} {t : UpdDesc} {ch : Nat} (hread : (d.readGrec t.part (uGroup t.bytes)).2.2.1 = St.OK) (hnorm : uNorm t.bytes = false)
include hread hnorm

/-- What orders 4 and 5 refuse leaves a record at RREC of a VECTOR descriptor (R464). -/
def Device.updRefusal (d : Device) (t : UpdDesc) (st : Nat) : Device :=
  (if uVector t.bytes then (d.sramStore (uCore t.bytes) (uRrec t.bytes) (toLe 2 st ++ toLe 2 0 ++ toLe 4 0)).1 else d).updDone t
    { status := st, refused := true }

theorem Device.updBegin_of_frozen (hfrozen : CoefRow.frozen (t.row.getD []) = true) :
    d.updBegin t ch = (d.readGrec t.part (uGroup t.bytes)).1.updRefusal t St.FROZEN_SKIPPED := by
  simp only [Device.updBegin, hread, hnorm, hfrozen, ne_eq, not_true_eq_false, if_false, Bool.false_eq_true, if_true, true_or, Device.updRefusal]

variable (hthawed : CoefRow.frozen (t.row.getD []) = false)
include hthawed

theorem Device.updBegin_of_skewed
    (hskew : ((d.readGrec t.part (uGroup t.bytes)).1.updSkew t.part t.bytes (d.readGrec t.part (uGroup t.bytes)).2.1).2.1 = St.STEP_SKEW) :
    d.updBegin t ch =
      ((d.readGrec t.part (uGroup t.bytes)).1.updSkew t.part t.bytes (d.readGrec t.part (uGroup t.bytes)).2.1).1.updRefusal t St.STEP_SKEW := by
  simp only [Device.updBegin, hread, hnorm, hthawed, hskew, ne_eq, not_true_eq_false, if_false, Bool.false_eq_true, if_true, or_true,
    Device.updRefusal]

/-- A descriptor whose step agrees is resolved, or goes to its chiplet's engine. -/
theorem Device.updBegin_of_agreed
    (hagrees : ((d.readGrec t.part (uGroup t.bytes)).1.updSkew t.part t.bytes (d.readGrec t.part (uGroup t.bytes)).2.1).2.1 = St.OK) :
    d.updBegin t ch =
      let g := d.readGrec t.part (uGroup t.bytes)
      let k := g.1.updSkew t.part t.bytes g.2.1
      let t1 := (leAt g.2.1 0 4 + 1) % 0x100000000
      if uVector t.bytes then (k.1.openGroup t).resolve t t1 else (k.1.setUpd { t with t1 := t1 }).handOver { t with t1 := t1 } ch := by
  have hok : ¬ (St.OK = St.FROZEN_SKIPPED ∨ St.OK = St.STEP_SKEW) := by decide
  simp only [Device.updBegin, hread, hnorm, hthawed, hagrees, hok, ne_eq, not_true_eq_false, if_false, Bool.false_eq_true, Bool.false_and, gStep]

end Begin

/-! ## Engines of a chiplet (R459, R463) -/

section Engine

variable {d : Device} {c : Nat} {t : UpdDesc}

theorem Device.engineStart_of_free (hfree : d.engineFree c = true) (hawake : d.standby = false)
    (hfirst : d.upd.handed.findSome? (fun i => d.upd.taken.find? (fun t => t.id == i && t.chiplet == some c)) = some t) :
    d.engineStart c = d.engineRun t c := by
  simp only [Device.engineStart, hfree, hawake, Bool.not_true, Bool.or_self, Bool.false_eq_true, if_false, hfirst]

theorem Device.engineStart_of_busy (h : d.engineFree c = false ∨ d.standby = true) : d.engineStart c = d := by
  rcases h with h | h <;> simp only [Device.engineStart, h, Bool.not_false, Bool.true_or, Bool.or_true, if_true]

theorem Device.engineComplete_of_running (h : d.upd.taken.find? (fun t => t.running && t.chiplet == some c) = some t) :
    d.engineComplete c = d.engineEnd t c := by
  simp only [Device.engineComplete, h]

theorem leNat_lt : ∀ bs : List Byte, leNat bs < 256 ^ bs.length
  | [] => Nat.one_pos
  | b :: bs => by
    have hb := b.isLt
    have hbs := leNat_lt bs
    rw [leNat, List.length_cons, Nat.pow_succ']
    omega

theorem leAt_lt (b : List Byte) (o n : Nat) : leAt b o n < 256 ^ n :=
  (leNat_lt _).trans_le (Nat.pow_le_pow_right (by decide) (List.length_take_le _ _))

/-- A register set to a value that is not its reset value reads it, however the registers are listed. -/
theorem Device.reg_setReg_of_ne_reset (d : Device) {k : Nat} {v : Word} (h : v ≠ Reg.reset k) : (d.setReg k v).reg k = v := by
  simp only [Device.reg, Device.setReg, Cells.set, h, if_false, Cells.get_put, if_true]

/-- CIS_UPD_STATUS shows the group of the descriptor that starts (R470). -/
theorem Device.engineRun_shows (d : Device) (t : UpdDesc) (c : Fin 2) :
    (d.engineRun t c).reg (Reg.CIS_UPD_STATUS c) = BitVec.ofNat 32 (0x80000000 + uGroup t.bytes) := by
  refine Device.reg_setReg_of_ne_reset _ fun hreset => ?_
  have hgroup : uGroup t.bytes < 256 ^ 2 := leAt_lt _ _ _
  have hzero : Reg.reset (Reg.CIS_UPD_STATUS c) = 0 := by fin_cases c <;> decide
  have hvalue := congrArg BitVec.toNat (hreset.trans hzero)
  rw [BitVec.toNat_ofNat, Nat.mod_eq_of_lt (show 0x80000000 + uGroup t.bytes < 2 ^ 32 by omega)] at hvalue
  exact absurd hvalue (Nat.ne_of_gt (Nat.add_pos_left (by decide) _))

end Engine

/-! ## Enables and drains (R456) -/

section Enable

variable {d : Device} {p : Nat}

theorem Device.updEnable_of_idle (hoff : d.flag (Reg.UPD_CTL p) 0 = false) (hidle : d.flag (Reg.UPD_STATUS p) 30 = false) :
    d.updEnable p = d.updEnableNow p := by
  simp only [Device.updEnable, hoff, hidle, Bool.false_eq_true, if_false]

theorem Device.updEnable_of_draining (hoff : d.flag (Reg.UPD_CTL p) 0 = false) (hdraining : d.flag (Reg.UPD_STATUS p) 30 = true) :
    d.updEnable p = d.setFlag (Reg.UPD_STATUS p) 29 true := by
  simp only [Device.updEnable, hoff, hdraining, Bool.false_eq_true, if_false, if_true]

/-- A held enable is withdrawn. -/
def Device.updWithdrawn (d : Device) (p : Nat) : Device := (d.setFlag (Reg.UPD_STATUS p) 29 false).answerUpd p St.CANCELLED

theorem Device.updDisable_of_enabled (hon : (d.updWithdrawn p).flag (Reg.UPD_CTL p) 0 = true) :
    d.updDisable p =
      let e := ((d.updWithdrawn p).setFlag (Reg.UPD_CTL p) 0 false).disarmQueues 2 p
      e.setFlag (Reg.UPD_STATUS p) 30 (!e.updDrained p) := by
  simp only [Device.updWithdrawn] at hon ⊢
  simp only [Device.updDisable, hon, Bool.not_true, Bool.false_eq_true, if_false]

theorem Device.updDrainEnd_of_drained (hdraining : d.flag (Reg.UPD_STATUS p) 30 = true) (hdrained : d.updDrained p = true) :
    d.updDrainEnd p =
      let e := d.setFlag (Reg.UPD_STATUS p) 30 false
      if e.flag (Reg.UPD_STATUS p) 29 then ((e.setFlag (Reg.UPD_STATUS p) 29 false).updEnableNow p).answerUpd p St.ENABLE_DEFERRED else e := by
  simp only [Device.updDrainEnd, hdraining, hdrained, Bool.and_self, if_true]

end Enable

/-! ## Torn groups (R455) -/

section StrokeStart

variable {d : Device} {p g o : Nat} (hopened : d.upd.opened = [(p, g, o)])
include hopened

theorem Device.updStrokeStart_of_current (hcurrent : strokeOlder o (d.strokeOf p) = false) : d.updStrokeStart p = d := by
  simp only [Device.updStrokeStart, hopened, List.filter_cons, List.filter_nil, hcurrent, Bool.and_false, Bool.false_eq_true, if_false,
    List.foldl_nil]

variable (holder : strokeOlder o (d.strokeOf p) = true)
include holder

theorem Device.updStrokeStart_of_older :
    d.updStrokeStart p =
      if d.groupRuns p g then
        { d with upd := { d.upd with judge := if d.upd.judge.contains (p, g) then d.upd.judge else d.upd.judge ++ [(p, g)] } }
      else d.tear p g := by
  simp only [Device.updStrokeStart, hopened, List.filter_cons, List.filter_nil, holder, beq_self_eq_true, Bool.and_self, if_true, List.foldl_cons,
    List.foldl_nil]

theorem Device.updStrokeStart_of_resting (hruns : d.groupRuns p g = false) : d.updStrokeStart p = d.tear p g := by
  rw [Device.updStrokeStart_of_older hopened holder, hruns, if_neg Bool.false_ne_true]

theorem Device.updStrokeStart_of_running (hruns : d.groupRuns p g = true) (hjudge : d.upd.judge = []) :
    d.updStrokeStart p = { d with upd := { d.upd with judge := [(p, g)] } } := by
  rw [Device.updStrokeStart_of_older hopened holder, if_pos hruns]
  simp only [hjudge, List.contains_nil, Bool.false_eq_true, if_false, List.nil_append]

end StrokeStart

/-- Settles O44: a descriptor by what rotating priority finds, its staleness, its checks and its group's record; an engine by what it holds;
a doorbell by its index; an enable by the drain; a stroke start by the groups left open. SOURCE 9 of a bad doorbell's record and the reading
of entries at the doorbell are log 56's, staleness ahead of every check log 57's, the record of a torn group log 60's; a row whose condition
fails does nothing by log 7. -/
theorem updatesServedAndControlled : Obligations.UpdatesServedAndControlled := by
  refine ⟨fun s p c => ?served, fun s p => ?controlled⟩
  case served =>
    intro d
    have hstart : s.Does (.cisternEngineStart c) (d.engineStart c) := rfl
    have hend : s.Does (.cisternDescComplete c) (d.engineComplete c) := rfl
    refine ⟨?take, fun t ch hread => ?begins, fun t hfree hawake hfirst => ⟨_, ?_, rfl, Device.engineRun_shows d t c⟩,
      fun hbusy => hstart.of_eq (Device.engineStart_of_busy hbusy), fun t hrunning => hend.of_eq (Device.engineComplete_of_running hrunning)⟩
    case take =>
      intro row hmem q t hturn hhead hkind
      have hserve : s.Does row.2 (d.updServe p row.1) := by
        fin_cases hmem <;> rfl
      have hdoes : s.Does row.2 ((d.turned p q t).updTake t) := hserve.of_eq (hkind ▸ Device.updServe_of_head hturn hhead)
      refine ⟨fun hstale => hdoes.of_eq (Device.updTake_of_stale hstale),
        fun hfresh hgroup => hdoes.of_eq (Device.updTake_of_beyond hfresh hgroup), fun hfresh hgroup hrow => ?_⟩
      intro r k t' hread
      refine ⟨fun hcheck => hdoes.of_eq (Device.updTake_of_refused hfresh hgroup hrow hread hcheck), fun hcheck hwaits => ?_,
        fun hcheck hgoes => ?_⟩
      · exact hdoes.of_eq ((Device.updTake_of_passed hfresh hgroup hrow hread hcheck).trans (if_pos hwaits))
      · exact hdoes.of_eq ((Device.updTake_of_passed hfresh hgroup hrow hread hcheck).trans (if_neg (hgoes ▸ Bool.false_ne_true)))
    case begins =>
      exact ⟨fun hnorm hfrozen => Device.updBegin_of_frozen hread hnorm hfrozen,
        fun hnorm hthawed hskew => Device.updBegin_of_skewed hread hnorm hthawed hskew,
        fun hnorm hthawed hagrees => Device.updBegin_of_agreed hread hnorm hthawed hagrees⟩
    · exact hstart.of_eq (Device.engineStart_of_free hfree hawake hfirst)
  case controlled =>
    intro d en draining withdrawn
    have henable : s.Does (.updEnable p) (d.updEnable p) := rfl
    have hdisable : s.Does (.updDisable p) (d.updDisable p) := rfl
    have hdrainEnd : s.Does (.updDrainEnd p) (d.updDrainEnd p) := rfl
    have hdoorbell : s.Does .updDoorbell d.updDoorbell := rfl
    refine ⟨fun hoff hidle => henable.of_eq (Device.updEnable_of_idle hoff hidle),
      fun hoff hdrain => henable.of_eq (Device.updEnable_of_draining hoff hdrain),
      fun hon => hdisable.of_eq (Device.updDisable_of_enabled hon),
      fun hdrain hdrained => hdrainEnd.of_eq (Device.updDrainEnd_of_drained hdrain hdrained),
      fun y q hseen hqueue => ⟨fun hbad => hdoorbell.of_eq ?_, fun hin hahead hnew => hdoorbell.of_eq ?_⟩,
      fun g o hopened => ⟨Device.updStrokeStart_of_current hopened, Device.updStrokeStart_of_resting hopened,
        Device.updStrokeStart_of_running hopened⟩⟩
    · exact Device.doorbell_of_bad hseen hqueue _ _ (WorkQueue.doorbell_of_bad hbad)
    · exact Device.doorbell_of_take hseen hqueue _ _ (WorkQueue.doorbell_of_new hin hahead hnew)

end Machine
end Sys2Proof
end

section
/-!
Zennus commands of rings, functions, partitions and memory, each where its own checks pass (R260-R264, R493, R502, R504, R511, R571).
-/
namespace Sys2Proof
namespace Machine

section Commands

variable {d : Device} {id : Nat} {c : ZCmd}

/-! ## Identity and rings -/

theorem Device.doIdentify_of_passed (hhost : c.fn ≠ mctpFn) (haligned : c.arg 16 8 % 4096 = 0) :
    d.doIdentify id c = (d.hostWrite (c.arg 16 8) (d.identifyPage c.fn)).complete id St.OK 0 := by
  refine (Device.znCheck_of_passed (by simp [haligned]) _).trans ?_
  simp only [Device.bulk, hhost, if_false]

/-- The rings outside the admin rings. -/
def Device.ringsTaken (d : Device) : Nat := (d.zn.rings.filter (fun x => decide (17 ≤ x.1))).length

/-- The number that ZN_RING_CREATE gives a ring, and its number within the function. -/
def Device.nextRing (d : Device) : Nat := firstUnused (fun g => d.zn.rings.any (fun x => x.1 == g)) 17 (d.ringsTaken + 1)
def Device.nextLocal (d : Device) (fn : Nat) : Nat :=
  if fn = 0 then d.nextRing
  else firstUnused (fun l => d.zn.rings.any (fun x => x.2.fn == fn && x.2.loc == l)) 1 (d.fld (Reg.ZN_RINGS fn) 15 0 + 1)

/-- The ring pair that a ZN_RING_CREATE describes. -/
def ZCmd.newRing (c : ZCmd) (l : Nat) : Ring :=
  { fn := c.fn, loc := l, part := c.part, sqBase := c.arg 16 8, cqBase := c.arg 24 8, log2 := c.arg 32 1, sqDev := bit (c.arg 33 1) 0
    cqDev := bit (c.arg 33 1) 1, event := if c.arg 34 2 = 0xFFFF then none else some (c.arg 34 2) }

theorem Device.doRingCreate_of_passed (hsmall : 4 ≤ c.arg 32 1) (hlarge : c.arg 32 1 ≤ 16) (hsq : c.arg 16 8 % 4096 = 0)
    (hcq : c.arg 24 8 % 4096 = 0) (hevent : c.arg 34 2 = 0xFFFF ∨ c.arg 34 2 < (if c.fn = 0 then 4096 else d.fld (Reg.EVT_FN_WIN c.fn) 24 16))
    (hroom : d.ringsTaken < 32751) (hquota : d.fld (Reg.ZN_RINGS c.fn) 15 0 < d.fld (Reg.ZN_RINGS c.fn) 31 16) :
    d.doRingCreate id c =
      (((d.setRing d.nextRing (c.newRing (d.nextLocal c.fn))).showPool).showHeld c.fn).complete id St.OK
        (d.nextRing * 0x10000 + d.nextLocal c.fn) := by
  unfold Device.doRingCreate
  refine (Device.znCheck_of_passed ?_ _).trans rfl
  simp only [List.forall_mem_cons, List.not_mem_nil, false_imp_iff, implies_true, and_true]
  refine ⟨by simp [hsq, hcq, hsmall, hlarge], ?_, decide_eq_false (Nat.not_le.2 hroom), decide_eq_false (Nat.not_le.2 hquota)⟩
  rcases hevent with hnone | hin
  · simp [hnone]
  · rw [decide_eq_false (Nat.not_le.2 hin), Bool.and_false]

/-- The commands that came through a ring. -/
def Device.cmdsOf (d : Device) (g : Nat) : List Nat := (d.zn.cmds.filter (fun x => x.2.ring == g)).map (·.1)

theorem Device.doRingDelete_of_passed {g : Nat} {r : Ring} (hring : d.localRing c.fn (c.arg 16 2) = some (g, r)) (hadmin : c.arg 16 2 ≠ 0)
    (hother : g ≠ c.ring) (hidle : d.cmdsOf g = [] ∨ bit (c.arg 18 1) 0 = true) :
    d.doRingDelete id c = (((d.cmdsOf g).foldl (fun d k => d.znCancel k) d).dropRing g).complete id St.OK 0 := by
  simp only [Device.doRingDelete, hring]
  refine Device.znCheck_of_passed ?_ _
  have hgoes : (!(d.cmdsOf g).isEmpty && !bit (c.arg 18 1) 0) = false := by
    rcases hidle with h | h <;> simp [h]
  simp only [Device.cmdsOf] at hgoes
  simp only [List.forall_mem_cons, List.not_mem_nil, false_imp_iff, implies_true, and_true, beq_eq_false_iff_ne.2 hadmin, beq_eq_false_iff_ne.2 hother,
    hgoes, Bool.or_self]

theorem Device.doVfConfig_of_passed (hfirst : 1 ≤ c.arg 16 1) (hlast : c.arg 16 1 ≤ 16) (hpart : c.arg 17 1 = 0xFF ∨ c.arg 17 1 ≤ 15)
    (hsome : 1 ≤ c.arg 18 2) (hquota : c.arg 18 2 ≤ 2048) (hsecured : d.lifecycle = 1) :
    d.doVfConfig id c =
      (((d.setFlag (Reg.ZN_STATUS (c.arg 16 1)) 15 (c.arg 17 1 != 0xFF)).setFld (Reg.ZN_STATUS (c.arg 16 1)) 11 8
        (if c.arg 17 1 = 0xFF then 0 else c.arg 17 1)).setFld (Reg.ZN_RINGS (c.arg 16 1)) 31 16 (c.arg 18 2)).complete id St.OK 0 := by
  unfold Device.doVfConfig
  refine (Device.znCheck_of_passed ?_ _).trans rfl
  simp only [List.forall_mem_cons, List.not_mem_nil, false_imp_iff, implies_true, and_true, Bool.or_eq_false_iff, Bool.and_eq_false_iff,
    decide_eq_false_iff_not, beq_eq_false_iff_ne, bne_eq_false_iff_eq]
  omega

/-! ## Partitions -/

/-- A cluster changes hands: its cores acquire, and its caches and translations are empty. -/
def Device.moveCluster (d : Device) (g : Nat) : Device :=
  (List.range 8).foldl (fun (d : Device) k => d.modCore (8 * g + k) (fun k => { k with tlb := [] })) ((d.acquireAll g).setCluster g {})

/-- The clusters that a mask gives partition p or takes from it change hands. -/
def Device.moveClusters (d : Device) (p m : Nat) : Device :=
  ((List.range 16).filter (fun g => (d.clustersOf p).toNat.testBit g != m.testBit g)).foldl (fun d g => d.moveCluster g) d

theorem Device.doPartConfig_of_passed (hoff : d.svcState 2 c.part = 3) (hsome : c.arg 16 2 ≠ 0)
    (hclusters : ∀ g, g < 16 → (c.arg 16 2).testBit g = true →
      (d.partOfCluster g = none ∨ d.partOfCluster g = some c.part) ∧ d.svcState 0 (g / 4) ≠ 3) :
    d.doPartConfig id c =
      { d.moveClusters c.part (c.arg 16 2) with
        partMask := Cells.set 0#16 (d.moveClusters c.part (c.arg 16 2)).partMask c.part (BitVec.ofNat 16 (c.arg 16 2)) }.complete id St.OK 0 := by
  unfold Device.doPartConfig
  refine (Device.znCheck_of_passed ?_ _).trans rfl
  simp only [List.forall_mem_cons, List.not_mem_nil, false_imp_iff, implies_true, and_true, hoff, bne_self_eq_false, beq_eq_false_iff_ne.2 hsome,
    true_and, List.any_eq_false, List.mem_filter, List.mem_range, Bool.and_eq_true, bne_iff_ne, beq_iff_eq, not_and, not_not, and_imp]
  exact ⟨fun g hg hbit hnone => (hclusters g hg hbit).1.resolve_left hnone, fun g hg hbit => (hclusters g hg hbit).2⟩

theorem Device.doPartEnable_of_passed (hclusters : d.clustersOf c.part ≠ 0#16) (hhub : d.noImage Sub.HUB = false)
    (hvector : d.noImage Sub.VECTOR = false) : d.doPartEnable id c = d.svcEnable 2 c.part id :=
  Device.znCheck_of_passed (by simp [hclusters, hhub, hvector]) _

/-! ## Granules and page tables -/

theorem ZCmd.badGranules_eq_false (haligned : c.arg 16 8 % 0x200000 = 0) (hcount : c.arg 24 4 ≤ 0x100000) : c.badGranules = false := by
  simp only [ZCmd.badGranules, haligned, bne_self_eq_false, Bool.false_or, decide_eq_false (Nat.not_lt.2 hcount)]

theorem Device.granuleOut_eq_false (hdram : ∀ g ∈ c.granules, isDram (regionOf (g * 0x200000)) = true) : d.granuleOut c = false :=
  List.any_eq_false.2 fun g hg => by simp [hdram g hg]

theorem Device.granuleOffline_eq_false (honline : ∀ g ∈ c.granules, ∀ k, regionOf (g * 0x200000) = .cistern k → d.cisOnline k = true) :
    d.granuleOffline c = false := by
  refine List.any_eq_false.2 fun g hg => ?_
  split
  · next k hk => simp [honline g hg k hk]
  · exact Bool.false_ne_true

theorem Device.granuleForeign_eq_false (hmine : ∀ g ∈ c.granules, Cells.find? d.granules g = some c.part) : d.granuleForeign c = false :=
  List.any_eq_false.2 fun g hg => by simp [hmine g hg]

theorem Device.doGranuleAssign_of_passed (haligned : c.arg 16 8 % 0x200000 = 0) (hcount : c.arg 24 4 ≤ 0x100000)
    (hdram : ∀ g ∈ c.granules, isDram (regionOf (g * 0x200000)) = true)
    (honline : ∀ g ∈ c.granules, ∀ k, regionOf (g * 0x200000) = .cistern k → d.cisOnline k = true)
    (hfree : ∀ g ∈ c.granules, ∀ q, Cells.find? d.granules g = some q → q = c.part) (hrest : ∀ g ∈ c.granules, g ∉ d.svc.granules) :
    d.doGranuleAssign id c =
      { d with granules := c.granules.foldl (fun m g => Cells.put m g c.part) d.granules }.complete id St.OK (c.arg 24 4) := by
  have hlength : c.granules.length = c.arg 24 4 := by rw [ZCmd.granules, List.length_map, List.length_range]
  have hothers : (c.granules.any fun g => match Cells.find? d.granules g with | some q => q != c.part | none => false) = false := by
    refine List.any_eq_false.2 fun g hg => ?_
    split
    · next q hq => simp [hfree g hg q hq]
    · exact Bool.false_ne_true
  have hservice : (c.granules.any fun g => d.svc.granules.contains g) = false := List.any_eq_false.2 fun g hg => by simp [hrest g hg]
  refine (Device.znCheck_of_passed ?_ _).trans (by rw [hlength])
  simp only [List.forall_mem_cons, List.not_mem_nil, false_imp_iff, implies_true, and_true]
  exact ⟨ZCmd.badGranules_eq_false haligned hcount, Device.granuleOut_eq_false hdram, Device.granuleOffline_eq_false honline, hothers, hservice⟩

/-- What a release and a scrub check. -/
theorem Device.ownGranules_passed (haligned : c.arg 16 8 % 0x200000 = 0) (hcount : c.arg 24 4 ≤ 0x100000)
    (hdram : ∀ g ∈ c.granules, isDram (regionOf (g * 0x200000)) = true) (hmine : ∀ g ∈ c.granules, Cells.find? d.granules g = some c.part) :
    ∀ x ∈ [(c.badGranules, St.BAD_FIELD), (d.granuleOut c, St.BAD_RANGE), (d.granuleForeign c, St.ACCESS_DENIED)], x.1 = false := by
  simp only [List.forall_mem_cons, List.not_mem_nil, false_imp_iff, implies_true, and_true]
  exact ⟨ZCmd.badGranules_eq_false haligned hcount, Device.granuleOut_eq_false hdram, Device.granuleForeign_eq_false hmine⟩

theorem Device.doPtWrite_of_passed (haligned : c.arg 16 8 % 8 = 0) (hsome : 1 ≤ c.arg 24 1) (hmost : c.arg 24 1 ≤ 124)
    (hfirst : regionOf (c.arg 16 8) = .hbm) (hlast : regionOf (c.arg 16 8 + 8 * c.arg 24 1 - 1) = .hbm)
    (hmineFirst : d.granuleOwner (c.arg 16 8) = some c.part) (hmineLast : d.granuleOwner (c.arg 16 8 + 8 * c.arg 24 1 - 1) = some c.part) :
    d.doPtWrite id c =
      let w := d.memWrite (c.arg 16 8) ((c.pkt.drop 32).take (8 * c.arg 24 1))
      w.1.complete id (if w.2 then St.UNCORRECTABLE else St.OK) 0 := by
  unfold Device.doPtWrite
  refine (Device.znCheck_of_passed ?_ _).trans rfl
  simp [haligned, hfirst, hlast, Device.ownsBytes, hmineFirst, hmineLast, Nat.ne_of_gt hsome, hmost]

theorem Device.doPtRoot_of_none (hnone : c.arg 16 8 = 0) :
    d.doPtRoot id c = (d.setFlag (Reg.HUB_PT_ROOT_LO c.part) 0 false).complete id St.OK 0 := if_pos hnone

theorem Device.doPtRoot_of_passed (hsome : c.arg 16 8 ≠ 0) (haligned : c.arg 16 8 % 4096 = 0) (hhbm : regionOf (c.arg 16 8) = .hbm)
    (hmine : d.granuleOwner (c.arg 16 8) = some c.part) :
    d.doPtRoot id c =
      ((d.setReg (Reg.HUB_PT_ROOT_LO c.part) (BitVec.ofNat 32 (c.arg 16 8 + 1))).setReg (Reg.HUB_PT_ROOT_HI c.part)
        (BitVec.ofNat 32 (c.arg 16 8 / 0x100000000))).complete id St.OK 0 :=
  (if_neg hsome).trans (Device.znCheck_of_passed (by simp [haligned, hhbm, hmine]) _)

end Commands

end Machine
end Sys2Proof
end

section
/-!
Zennus commands of cores, flows, keys, ports, enables, groups and checkpoints, each where its own checks pass (R244, R247, R325, R418-R420,
R422, R439-R443, R453, R456, R473, R481, R484, R513).
-/
namespace Sys2Proof
namespace Machine

section Commands

variable {d : Device} {id : Nat} {c : ZCmd}

/-! ## Cores -/

/-- A core that a command of partition p reaches passes the checks of cores. -/
theorem Device.coreChecks_passed {p k : Nat} (hk : k ≤ 127) (hmine : d.partOf k = some p) (hslot : d.hasSlot k = true) (hawake : d.standby = false) :
    ∀ x ∈ d.coreChecks p k, x.1 = false := by
  simp [Device.coreChecks, hk, hmine, hslot, hawake]

section ImemLoad

variable (hmine : d.partOf (c.arg 16 1) = some c.part) (hslot : d.hasSlot (c.arg 16 1) = true) (hawake : d.standby = false)
  (hk : c.arg 16 1 ≤ 127) (hbank : c.arg 17 1 ≤ 1) (hblock : c.arg 18 2 ≤ 1023)
include hmine hslot hawake hk hbank hblock

/-- The eight words of a ZN_IMEM_LOAD. -/
def ZCmd.imemWords (c : ZCmd) := bytesToWords 8 ((c.pkt.drop 32).take 32)

theorem Device.imemChecks_passed :
    ∀ x ∈ (decide (c.arg 17 1 > 1) || decide (c.arg 18 2 > 1023), St.BAD_FIELD) :: d.coreChecks c.part (c.arg 16 1), x.1 = false :=
  List.forall_mem_cons.2 ⟨by simp [hbank, hblock], Device.coreChecks_passed hk hmine hslot hawake⟩

/-- A bank that is not executing is written at once. -/
theorem Device.doImemLoad_of_written
    (hswitch : (d.exitIdle.core (c.arg 16 1)).switchPending = false ∨ c.arg 17 1 = (d.exitIdle.core (c.arg 16 1)).bank)
    (hrest : (d.exitIdle.core (c.arg 16 1)).run ≠ .running ∨ c.arg 17 1 ≠ (d.exitIdle.core (c.arg 16 1)).bank) :
    d.doImemLoad id c =
      (d.exitIdle.modCore (c.arg 16 1) (fun k => k.writeImem (c.arg 17 1) (8 * c.arg 18 2) c.imemWords)).complete id St.OK 0 := by
  have hnoSwitch : ((d.exitIdle.core (c.arg 16 1)).switchPending && c.arg 17 1 != (d.exitIdle.core (c.arg 16 1)).bank) = false := by
    rcases hswitch with h | h <;> simp [h]
  have hnotRun : ((d.exitIdle.core (c.arg 16 1)).run == .running && c.arg 17 1 == (d.exitIdle.core (c.arg 16 1)).bank) = false := by
    rcases hrest with h | h <;> simp [h]
  unfold Device.doImemLoad
  refine (Device.znCheck_of_passed (Device.imemChecks_passed hmine hslot hawake hk hbank hblock) _).trans ?_
  simp only [hnoSwitch, hnotRun, Bool.false_eq_true, if_false, ZCmd.imemWords]

/-- The bank that is executing takes the words at its next safe moment. -/
theorem Device.doImemLoad_of_held (hrun : (d.exitIdle.core (c.arg 16 1)).run = .running) (hexec : c.arg 17 1 = (d.exitIdle.core (c.arg 16 1)).bank)
    (hroom : (d.exitIdle.core (c.arg 16 1)).held.length < 64) :
    d.doImemLoad id c =
      d.exitIdle.modCore (c.arg 16 1) (fun k =>
        { k with held := k.held ++ [{ bank := c.arg 17 1, index := 8 * c.arg 18 2, words := c.imemWords, owner := some id }] }) := by
  unfold Device.doImemLoad
  refine (Device.znCheck_of_passed (Device.imemChecks_passed hmine hslot hawake hk hbank hblock) _).trans ?_
  simp only [← hexec, hrun, bne_self_eq_false, Bool.and_false, Bool.false_eq_true, beq_self_eq_true, Bool.and_self, ge_iff_le,
    Nat.not_le.2 hroom, if_false, if_true, ZCmd.imemWords]

end ImemLoad

theorem Device.doCoreSpare_of_passed (hmine : d.partOf (c.arg 16 1) = some c.part) (hslot : d.hasSlot (c.arg 16 1) = true)
    (hawake : d.standby = false) (hk : c.arg 16 1 ≤ 127) (hpresent : d.flag (Reg.HUB_SLOTSTAT (c.arg 16 1 / 8)) 14 = false)
    (hgood : d.flag (Reg.HUB_SLOTSTAT (c.arg 16 1 / 8)) 8 = false) : d.doCoreSpare id c = d.setCmd id { c with state := .queued } :=
  Device.znQueue_of_passed (List.forall_mem_append.2 ⟨Device.coreChecks_passed hk hmine hslot hawake,
    by simp [Device.spareFree, hpresent, hgood]⟩) c

/-- The cores that the mask of a ZN_CORE_RESET names. -/
def ZCmd.maskCores (c : ZCmd) : List Nat := (List.range 128).filter (fun k => (c.arg 16 16).testBit k)

theorem Device.doCoreReset_of_passed (hawake : d.standby = false) (hcores : ∀ k ∈ c.maskCores, d.partOf k = some c.part ∧ d.hasSlot k = true) :
    d.doCoreReset id c = (c.maskCores.foldl (fun d k => d.coreReset k) d.exitIdle).complete id St.OK 0 := by
  have hmine : (c.maskCores.any fun k => d.partOf k != some c.part) = false :=
    List.any_eq_false.2 fun k hk => by simp [(hcores k hk).1]
  have hslots : (c.maskCores.any fun k => !d.hasSlot k) = false := List.any_eq_false.2 fun k hk => by simp [(hcores k hk).2]
  unfold Device.doCoreReset
  refine (Device.znCheck_of_passed ?_ _).trans rfl
  simp only [List.forall_mem_cons, List.not_mem_nil, false_imp_iff, implies_true, and_true]
  exact ⟨hmine, hslots, hawake⟩

theorem Device.doTableBuild_of_passed (hcount : c.arg 32 4 ≠ 0) (hform : bits (c.arg 36 1) 2 1 ≠ 3) (hsome : c.arg 38 2 ≠ 0) :
    d.doTableBuild id c = d.setCmd id { c with state := .queued } :=
  Device.znQueue_of_passed (by simp [hcount, hform, hsome]) c

theorem Device.doTableLoad_of_passed (htable : c.arg 17 1 ≤ 15) (hk : c.arg 16 1 ≤ 127) (hmine : d.partOf (c.arg 16 1) = some c.part)
    (hslot : d.hasSlot (c.arg 16 1) = true) (hawake : d.standby = false) (haddress : c.arg 24 8 < 2 ^ 48)
    (hroom : occupancy ((d.core (c.arg 16 1)).queue 4) < 64) :
    d.doTableLoad id c =
      (d.setCmd id { c with progress := 1 }).exitIdle.enqueue (c.arg 16 1) 4
        { cmd := BitVec.ofNat 256 c.table, gate := {}, stroke := d.strokeOf c.part, owner := some id } :=
  (Device.znCheck_of_passed (List.forall_mem_append.2 ⟨List.forall_mem_cons.2 ⟨decide_eq_false (Nat.not_lt.2 htable),
    Device.coreChecks_passed hk hmine hslot hawake⟩, List.forall_mem_singleton.2 (decide_eq_false (Nat.not_le.2 haddress))⟩) _).trans
    (if_neg (Nat.not_le.2 hroom))

/-! ## Flows -/

theorem Device.doFlowOpen_of_passed (henc : bit (c.arg 32 1) 1 = false ∨ d.lifecycle = 1) (himage : d.noImage Sub.AQ = false)
    (hroom : d.aq.flows.length < 200000)
    (hquota : d.fld (Reg.AQ_QUOTA c.part) 17 0 = 0 ∨
      (d.aq.flows.filter (fun x => x.2.part == c.part)).length < d.fld (Reg.AQ_QUOTA c.part) 17 0)
    (hip : d.partIp c.part (bit (c.arg 32 1) 0) ≠ 0) :
    d.doFlowOpen id c =
      (d.openFlow c.part (bit (c.arg 32 1) 0) (if bit (c.arg 32 1) 0 then c.arg 16 16 else c.arg 16 4) (c.arg 36 4)
        (if bit (c.arg 32 1) 1 then some c.key else none) (some id)).1 := by
  have hpermitted : (bit (c.arg 32 1) 1 && d.lifecycle != 1) = false := by rcases henc with h | h <;> simp [h]
  have hwithin : (d.fld (Reg.AQ_QUOTA c.part) 17 0 != 0 &&
      decide ((d.aq.flows.filter (fun x => x.2.part == c.part)).length ≥ d.fld (Reg.AQ_QUOTA c.part) 17 0)) = false := by
    rcases hquota with h | h
    · simp [h]
    · rw [decide_eq_false (Nat.not_le.2 h), Bool.and_false]
  simp only [Device.doFlowOpen, hpermitted, himage, decide_eq_false (Nat.not_le.2 hroom), hwithin, hip, Bool.or_self, Bool.false_eq_true, if_false]

theorem ZCmd.badFlow_eq_false (h : c.arg 16 4 < 200000) : c.badFlow = false := decide_eq_false (Nat.not_le.2 h)

theorem Device.doFlowQuery_of_unused (hf : c.arg 16 4 < 200000) (hnone : d.flow (c.arg 16 4) = none) :
    d.doFlowQuery id c = d.complete id St.OK (Cells.get 0 d.aq.gens (c.arg 16 4) * 0x40000) := by
  simp only [Device.doFlowQuery, ZCmd.badFlow_eq_false hf, hnone, Bool.false_eq_true, if_false]

section OwnFlow

variable {x : Flow} (hflow : d.flow (c.arg 16 4) = some x) (hpart : x.part = c.part) (hf : c.arg 16 4 < 200000)
include hflow hpart

theorem Device.flowOf_of_own : d.flowOf c = some x := by
  simp only [Device.flowOf, hflow, hpart, if_true]

include hf

theorem Device.doFlowQuery_of_own : d.doFlowQuery id c = d.complete id St.OK (x.gen * 0x40000 + x.phase.code) := by
  simp only [Device.doFlowQuery, ZCmd.badFlow_eq_false hf, hflow, hpart, Bool.false_eq_true, if_false, if_true]

theorem Device.doFlowClose_of_own (hphase : x.phase = .live ∨ x.phase = .broken) : d.doFlowClose id c = d.closeFlow (c.arg 16 4) (some id) := by
  rcases hphase with hphase | hphase <;>
    simp only [Device.doFlowClose, ZCmd.badFlow_eq_false hf, Device.flowOf_of_own hflow hpart, hphase, Bool.false_eq_true, if_false]

variable (hslot : c.arg 20 1 ≤ 1) (hphase : x.phase ≠ .closing) (henc : x.enc = true)
include hslot hphase henc

/-- A command on a key slot that nothing refuses changes the flow. -/
theorem Device.onKey_of_own {refuse : Flow → Bool} (hrefuse : refuse x = false) (f : Flow → Flow) :
    d.onKey id c refuse f = (d.setFlow (c.arg 16 4) (f x)).complete id St.OK 0 := by
  simp only [Device.onKey, ZCmd.badFlow_eq_false hf, decide_eq_false (Nat.not_lt.2 hslot), Device.flowOf_of_own hflow hpart,
    beq_eq_false_iff_ne.2 hphase, henc, hrefuse, Bool.not_true, Bool.or_self, Bool.false_eq_true, if_false]

theorem Device.doKeySwitch_of_own (hkey : (if c.arg 20 1 = 0 then x.key0 else x.key1).isSome) :
    d.doKeySwitch id c = (d.setFlow (c.arg 16 4) { x with keyid := decide (c.arg 20 1 = 1) }).complete id St.OK 0 :=
  Device.onKey_of_own hflow hpart hf hslot hphase henc (by rw [← Option.not_isSome, Flow.keyAt, hkey]; rfl) _

variable (hother : x.keyid ≠ decide (c.arg 20 1 = 1))
include hother

theorem Device.doKeyInstall_of_own (hsecured : d.lifecycle = 1) :
    d.doKeyInstall id c =
      (d.setFlow (c.arg 16 4) (if c.arg 20 1 = 0 then { x with key0 := some c.key } else { x with key1 := some c.key })).complete id St.OK 0 :=
  (if_neg (not_not.2 hsecured)).trans (Device.onKey_of_own hflow hpart hf hslot hphase henc (refuse := fun x => x.keyid == (c.arg 20 1 == 1))
    (beq_eq_false_iff_ne.2 hother) _)

theorem Device.doKeyClear_of_own :
    d.doKeyClear id c =
      (d.setFlow (c.arg 16 4) (if c.arg 20 1 = 0 then { x with key0 := none } else { x with key1 := none })).complete id St.OK 0 :=
  Device.onKey_of_own hflow hpart hf hslot hphase henc (refuse := fun x => x.keyid == (c.arg 20 1 == 1))
    (beq_eq_false_iff_ne.2 hother) _

end OwnFlow

/-! ## Receive rings and ports -/

/-- The receive ring that a ZN_RXRING_SET describes. -/
def ZCmd.rxRing (c : ZCmd) : RxRing :=
  { base := c.arg 24 8, log2 := c.arg 32 1, entryLog2 := c.arg 33 1, prod := c.arg 40 8, cons := c.arg 48 8 }

theorem Device.doRxRingSet_of_removed (hnone : c.rxRing.base = 0) :
    d.doRxRingSet id c = { d with zn := { d.zn with rx := Cells.erase d.zn.rx (256 * c.part + c.arg 16 1) } }.complete id St.OK 0 := if_pos hnone

theorem Device.doRxRingSet_of_passed (hsome : c.rxRing.base ≠ 0) (hsmall : 4 ≤ c.rxRing.log2) (hlarge : c.rxRing.log2 ≤ 16)
    (hentrySmall : 6 ≤ c.rxRing.entryLog2) (hentryLarge : c.rxRing.entryLog2 ≤ 13) (hprod : c.rxRing.prod % 64 = 0)
    (hcons : c.rxRing.cons % 64 = 0) :
    d.doRxRingSet id c = { d with zn := { d.zn with rx := Cells.put d.zn.rx (256 * c.part + c.arg 16 1) c.rxRing } }.complete id St.OK 0 := by
  unfold Device.doRxRingSet
  refine (if_neg hsome).trans ((Device.znCheck_of_passed ?_ _).trans rfl)
  simp only [ZCmd.rxRing] at hsmall hlarge hentrySmall hentryLarge hprod hcons
  simp [hsmall, hlarge, hentrySmall, hentryLarge, hprod, hcons]

section Port

variable (hport : c.arg 16 1 ≤ 7)
include hport

theorem Device.portChecks_passed : ∀ x ∈ [(decide (c.arg 16 1 > 7), St.BAD_FIELD)], x.1 = false :=
  List.forall_mem_singleton.2 (decide_eq_false (Nat.not_lt.2 hport))

theorem Device.doPortAdmit_of_removed (hadmit : bit (c.arg 17 1) 0 = false) :
    d.doPortAdmit id c = (d.portRemove (c.arg 16 1)).complete id St.OK 0 := by
  unfold Device.doPortAdmit
  refine (Device.znCheck_of_passed (Device.portChecks_passed hport) _).trans ?_
  simp only [hadmit, Bool.not_false, if_true]

theorem Device.doPortAdmit_of_readmitted (hadmit : bit (c.arg 17 1) 0 = true) (hfree : d.portHolds (c.arg 16 1) = false) :
    d.doPortAdmit id c = (d.portReadmit (c.arg 16 1)).complete id St.OK 0 := by
  unfold Device.doPortAdmit
  refine (Device.znCheck_of_passed (Device.portChecks_passed hport) _).trans ?_
  simp only [hadmit, hfree, Bool.not_true, Bool.false_eq_true, if_false]

end Port

/-! ## Enables -/

theorem Device.doAqEnable_of_off (hoff : ¬ bit (c.arg 16 1) 0 = true) : d.doAqEnable id c = (d.aqPenDisable c.part).complete id St.OK 0 := by
  simp only [Device.doAqEnable, Bool.eq_false_iff.2 hoff, Bool.not_false, if_true]

theorem Device.doUpdEnable_of_off (hoff : ¬ bit (c.arg 16 1) 0 = true) : d.doUpdEnable id c = (d.updDisable c.part).complete id St.OK 0 := by
  simp only [Device.doUpdEnable, Bool.eq_false_iff.2 hoff, Bool.not_false, if_true]

section EnableOn

variable (hon : bit (c.arg 16 1) 0 = true)
include hon

theorem Device.doAqEnable_of_free (hfree : ¬ (d.flag Reg.AQ_CTL (16 + c.part) = false ∧ d.flag Reg.AQ_STATUS (16 + c.part) = true)) :
    d.doAqEnable id c = (d.aqPenEnable c.part).complete id St.OK 0 := by
  simp only [Device.doAqEnable, hon, Bool.not_true, Bool.false_eq_true, if_false, Bool.and_eq_true, Bool.not_eq_true', hfree]

/-- An enable held by a drain completes when the drain ends. -/
theorem Device.doAqEnable_of_held (hoff : d.flag Reg.AQ_CTL (16 + c.part) = false) (hdrains : d.flag Reg.AQ_STATUS (16 + c.part) = true) :
    d.doAqEnable id c = { d with aq := { d.aq with enableWaiters := d.aq.enableWaiters ++ [(c.part, id)] } }.aqPenEnable c.part := by
  simp only [Device.doAqEnable, hon, hoff, hdrains, Bool.not_true, Bool.not_false, Bool.and_self, Bool.false_eq_true, if_false, if_true]

theorem Device.doUpdEnable_of_free (hfree : ¬ (d.flag (Reg.UPD_CTL c.part) 0 = false ∧ d.flag (Reg.UPD_STATUS c.part) 30 = true)) :
    d.doUpdEnable id c = (d.updEnable c.part).complete id St.OK 0 := by
  simp only [Device.doUpdEnable, hon, Bool.not_true, Bool.false_eq_true, if_false, Bool.and_eq_true, Bool.not_eq_true', hfree]

theorem Device.doUpdEnable_of_held (hoff : d.flag (Reg.UPD_CTL c.part) 0 = false) (hdrains : d.flag (Reg.UPD_STATUS c.part) 30 = true) :
    d.doUpdEnable id c = { d with upd := { d.upd with waiters := d.upd.waiters ++ [(c.part, id)] } }.updEnable c.part := by
  simp only [Device.doUpdEnable, hon, hoff, hdrains, Bool.not_true, Bool.not_false, Bool.and_self, Bool.false_eq_true, if_false, if_true]

end EnableOn

/-! ## Groups, checkpoints and restores -/

theorem Device.doGroupSet_of_passed (hgroup : c.arg 16 2 < d.fld (Reg.UPD_NGROUP c.part) 16 0) :
    d.doGroupSet id c = d.groupSet {
      part := c.part, group := c.arg 16 2, setStep := bit (c.arg 18 1) 0, clearTorn := bit (c.arg 18 1) 1, step := c.arg 20 4, owner := some id } := by
  unfold Device.doGroupSet
  exact Device.znCheck_of_passed (List.forall_mem_singleton.2 (decide_eq_false (Nat.not_le.2 hgroup))) _

section Checkpoint

variable (hplan : c.plan ≤ 255)
include hplan

theorem Device.doCkpt_of_free (hfree : Cells.find? d.svc.ckpt c.part = none) : d.doCkpt id c = d.setCmd id { c with state := .queued } := by
  simp only [Device.doCkpt, gt_iff_lt, Nat.not_lt.2 hplan, hfree, Option.isSome_none, Bool.false_eq_true, if_false]

theorem Device.doCkpt_of_busy (hbusy : (Cells.find? d.svc.ckpt c.part).isSome) :
    d.doCkpt id c = (d.sliceBusy c.part c.plan).complete id St.CKPT_BUSY 0 := by
  simp only [Device.doCkpt, gt_iff_lt, Nat.not_lt.2 hplan, hbusy, if_false, if_true]

theorem Device.doRestore_of_passed (hsource : c.arg 18 1 ≤ 1) (hflow : c.arg 18 1 = 1 → c.arg 20 4 < 200000) (hfree : d.stkState c.part = 0) :
    d.doRestore id c = d.setCmd id { c with state := .queued } := by
  refine Device.znQueue_of_passed ?_ c
  simp only [List.forall_mem_cons, List.not_mem_nil, false_imp_iff, implies_true, and_true, hfree, bne_self_eq_false, Bool.or_eq_false_iff,
    Bool.and_eq_false_iff, decide_eq_false_iff_not, beq_eq_false_iff_ne]
  omega

end Checkpoint

end Commands

end Machine
end Sys2Proof
end

section
/-!
The rows of the Zennus commands of rings, functions, partitions, memory, cores and the transport (R502, R508, R510).
-/
namespace Sys2Proof
namespace Machine

/-- Settles O47: the row of an opcode takes the arbiter's next command (`Device.znOp_of_next`), and each command whose checks pass has its
effect. That a command starts only through its row is log 70's, the partition of a new ring log 71's, and what an opcode checks beyond its rules
log 73's; a row whose opcode the next command has not does nothing by log 7. -/
theorem zennusRingAndTransportCommands : Obligations.ZennusRingAndTransportCommands := by
  refine ⟨fun s id c0 hnext => ?module, fun s id c0 hnext => ?transport⟩
  case module =>
    intro c e go queued v p
    refine ⟨fun hop _ => .znOp rfl hnext hop rfl,
      fun hop ⟨hhost, haligned⟩ => .znOp rfl hnext hop (Device.doIdentify_of_passed hhost haligned),
      fun hop ⟨hsmall, hlarge, hsq, hcq, hevent, hroom, hquota⟩ =>
        .znOp rfl hnext hop (Device.doRingCreate_of_passed hsmall hlarge hsq hcq hevent hroom hquota),
      fun g r hring hop ⟨hadmin, hother, hidle⟩ => .znOp rfl hnext hop (Device.doRingDelete_of_passed hring hadmin hother hidle),
      fun hop ⟨hfirst, hlast, hpart, hsome, hquota, hsecured⟩ =>
        .znOp rfl hnext hop (Device.doVfConfig_of_passed hfirst hlast hpart hsome hquota hsecured),
      fun hop _ => .znOp rfl hnext hop rfl,
      fun hop ⟨hoff, hsome, hclusters⟩ => .znOp rfl hnext hop (Device.doPartConfig_of_passed hoff hsome hclusters),
      fun hop ⟨hclusters, hhub, hvector⟩ => .znOp rfl hnext hop (Device.doPartEnable_of_passed hclusters hhub hvector),
      fun hop _ => .znOp rfl hnext hop rfl,
      ⟨fun hop ⟨⟨haligned, hcount⟩, hdram, honline, hfree, hrest⟩ =>
          .znOp rfl hnext hop (Device.doGranuleAssign_of_passed haligned hcount hdram honline hfree hrest),
        fun hop ⟨⟨haligned, hcount⟩, hdram, hmine⟩ =>
          .znOp rfl hnext hop (Device.znQueue_of_passed (Device.ownGranules_passed haligned hcount hdram hmine) c),
        fun hop ⟨⟨haligned, hcount⟩, hdram, hmine⟩ =>
          .znOp rfl hnext hop (Device.znQueue_of_passed (Device.ownGranules_passed haligned hcount hdram hmine) c)⟩,
      ⟨fun hop ⟨haligned, hsome, hmost, hfirst, hlast, hmineFirst, hmineLast⟩ =>
          .znOp rfl hnext hop (Device.doPtWrite_of_passed haligned hsome hmost hfirst hlast hmineFirst hmineLast),
        fun hop hnone => .znOp rfl hnext hop (Device.doPtRoot_of_none hnone),
        fun hop ⟨hsome, haligned, hhbm, hmine⟩ => .znOp rfl hnext hop (Device.doPtRoot_of_passed hsome haligned hhbm hmine)⟩,
      fun hop _ => .znOp rfl hnext hop rfl,
      ⟨fun hop ⟨⟨⟨hmine, hslot, hawake, hk⟩, hbank, hblock⟩, hswitch, hrest⟩ =>
          .znOp rfl hnext hop (Device.doImemLoad_of_written hmine hslot hawake hk hbank hblock hswitch hrest),
        fun hop ⟨⟨⟨hmine, hslot, hawake, hk⟩, hbank, hblock⟩, hrun, hexec, hroom⟩ =>
          .znOp rfl hnext hop (Device.doImemLoad_of_held hmine hslot hawake hk hbank hblock hrun hexec hroom),
        fun hop ⟨⟨hmine, hslot, hawake, hk⟩, hpresent, hgood⟩ =>
          .znOp rfl hnext hop (Device.doCoreSpare_of_passed hmine hslot hawake hk hpresent hgood)⟩,
      fun hop ⟨hawake, hcores⟩ => .znOp rfl hnext hop (Device.doCoreReset_of_passed hawake hcores),
      fun hop ⟨hcount, hform, hsome⟩ => .znOp rfl hnext hop (Device.doTableBuild_of_passed hcount hform hsome)⟩
  case transport =>
    intro c e go queued p f
    refine ⟨fun hop ⟨henc, himage, hroom, hquota, hip⟩ => .znOp rfl hnext hop (Device.doFlowOpen_of_passed henc himage hroom hquota hip),
      fun hop ⟨hf, hnone⟩ => .znOp rfl hnext hop (Device.doFlowQuery_of_unused hf hnone),
      fun x hflow hpart => ⟨fun hop ⟨hf, hphase⟩ => .znOp rfl hnext hop (Device.doFlowClose_of_own hflow hpart hf hphase),
        fun hop hf => .znOp rfl hnext hop (Device.doFlowQuery_of_own hflow hpart hf),
        fun hop ⟨⟨hf, hslot, hphase, henc⟩, hother, hsecured⟩ =>
          .znOp rfl hnext hop (Device.doKeyInstall_of_own hflow hpart hf hslot hphase henc hother hsecured),
        fun hop ⟨⟨hf, hslot, hphase, henc⟩, hkey⟩ => .znOp rfl hnext hop (Device.doKeySwitch_of_own hflow hpart hf hslot hphase henc hkey),
        fun hop ⟨⟨hf, hslot, hphase, henc⟩, hother⟩ => .znOp rfl hnext hop (Device.doKeyClear_of_own hflow hpart hf hslot hphase henc hother)⟩,
      ⟨fun hop ⟨hport, hadmit⟩ => .znOp rfl hnext hop (Device.doPortAdmit_of_removed hport hadmit),
        fun hop ⟨hport, hadmit, hfree⟩ => .znOp rfl hnext hop (Device.doPortAdmit_of_readmitted hport hadmit hfree),
        fun hop hport => .znOp rfl hnext hop (Device.znQueue_of_passed (Device.portChecks_passed hport) c)⟩,
      ⟨fun hop hnone => .znOp rfl hnext hop (Device.doRxRingSet_of_removed hnone),
        fun hop ⟨hsome, hsmall, hlarge, hentrySmall, hentryLarge, hprod, hcons⟩ =>
          .znOp rfl hnext hop (Device.doRxRingSet_of_passed hsome hsmall hlarge hentrySmall hentryLarge hprod hcons)⟩,
      ⟨fun hop hoff => .znOp rfl hnext hop (Device.doAqEnable_of_off hoff),
        fun hop ⟨hon, hfree⟩ => .znOp rfl hnext hop (Device.doAqEnable_of_free hon hfree),
        fun hop ⟨hon, hoff, hdrains⟩ => .znOp rfl hnext hop (Device.doAqEnable_of_held hon hoff hdrains),
        fun hop hoff => .znOp rfl hnext hop (Device.doUpdEnable_of_off hoff),
        fun hop ⟨hon, hfree⟩ => .znOp rfl hnext hop (Device.doUpdEnable_of_free hon hfree),
        fun hop ⟨hon, hoff, hdrains⟩ => .znOp rfl hnext hop (Device.doUpdEnable_of_held hon hoff hdrains)⟩,
      fun hop hgroup => .znOp rfl hnext hop (Device.doGroupSet_of_passed hgroup),
      fun hop ⟨hplan, hfree⟩ => .znOp rfl hnext hop (Device.doCkpt_of_free hplan hfree),
      fun hop ⟨hplan, hbusy⟩ => .znOp rfl hnext hop (Device.doCkpt_of_busy hplan hbusy),
      fun hop ⟨hplan, hsource, hflow, hfree⟩ => .znOp rfl hnext hop (Device.doRestore_of_passed hplan hsource hflow hfree), ?tableLoad⟩
    case tableLoad =>
      rintro k rfl hwaits hop ⟨htable, hk, hmine, hslot, hawake, haddress, hroom⟩
      have hrow : s.Does .znTableLoad s.dev.tableLoadRow := rfl
      exact .znOp (hrow.of_eq (Device.znRetry_of_none_waits hwaits)) hnext hop
        (Device.doTableLoad_of_passed htable hk hmine hslot hawake haddress hroom)

end Machine
end Sys2Proof
end

section
/-!
The issue of an instruction (R209, R211, R212): what a core does with the word at its PC, by the format of the instruction, and what the write
of a scalar register leaves.
-/
namespace Sys2Proof
namespace Machine

/-! ## Fetch and issue -/

/-- A core that fetches is a core of the device. -/
theorem Device.lt_of_fetch {d : Device} {c w : Nat} (h : (d.core c).fetch = some w) : c < d.cores.length := by
  by_contra hc
  rw [Device.core, List.getD_eq_default _ _ (Nat.not_lt.1 hc)] at h
  exact absurd h (Option.some_ne_none w).symm

/-- An instruction that the test accepts is issued. -/
theorem Device.issue_of_fetch {d : Device} {c w : Nat} (h : (d.core c).fetch = some w) {isIns : Nat → Bool} (hins : isIns w = true)
    (f : Device → Nat → Device) : d.issue c isIns f = f d w := by
  simp only [Device.issue, h, hins, if_true]

/-- The row p.2.1 is an R-format instruction of FN p.1 whose function is p.2.2 (R212). -/
def State.RFormat (s : State) (c : CoreId) (p : Nat × Instr × (DWord → DWord → DWord → DWord)) : Prop :=
  ∃ f : DWord → DWord → DWord → DWord, s.Does p.2.1 (s.dev.rOp c p.1 f) ∧ ∀ x a b, f x a b = p.2.2 x a b

/-- The row p.2.2.1 is an I-format instruction of OP p.1, which computes p.2.2.2 of the word w where its reserved field p.2.1 is 0 (R212). -/
def State.IFormat (s : State) (c : CoreId) (w : Nat) (p : Nat × Nat × Instr × (DWord → DWord → DWord)) : Prop :=
  ∃ (resv : Nat → Bool) (f : DWord → DWord → Nat → DWord), s.Does p.2.2.1 (s.dev.iOp c p.1 resv f) ∧ (p.2.1 = 0 → resv w = false) ∧
    ∀ x a, f x a w = p.2.2.2 x a

section Formats

variable {s : State} {c : CoreId} {w : Nat} (hfetch : (s.dev.core c).fetch = some w)
include hfetch

theorem State.rFormats_do {rows : List (Nat × Instr × (DWord → DWord → DWord → DWord))} (hop : insOp w = 0x01)
    (hrows : ∀ p ∈ rows, s.RFormat c p) : ∀ p ∈ rows, insFn w = p.1 →
      s.Does p.2.1 (s.dev.modCore c fun k => (k.setS (insD w) (p.2.2 (k.s (insD w)) (k.s (insA w)) (k.s (insB w)))).next) := by
  intro p hp hfn
  obtain ⟨f, hrow, hf⟩ := hrows p hp
  obtain rfl : f = p.2.2 := funext fun x => funext fun a => funext fun b => hf x a b
  exact hrow.of_eq (Device.issue_of_fetch hfetch (by simp [hop, hfn]) _)

theorem State.iFormats_do {rows : List (Nat × Nat × Instr × (DWord → DWord → DWord))} (hrows : ∀ p ∈ rows, s.IFormat c w p) :
    ∀ p ∈ rows, insOp w = p.1 → p.2.1 = 0 →
      s.Does p.2.2.1 (s.dev.modCore c fun k => (k.setS (insD w) (p.2.2.2 (k.s (insD w)) (k.s (insA w)))).next) := by
  intro p hp hop hzero
  obtain ⟨resv, f, hrow, hresv, hf⟩ := hrows p hp
  refine hrow.of_eq ((Device.issue_of_fetch hfetch (by simp [hop]) _).trans ((if_neg ?_).trans ?_))
  · rw [hresv hzero]
    exact Bool.false_ne_true
  · simp only [hf]

end Formats

/-! ## Comparisons of registers -/

/-- IMM sign-extended is a 64-bit number (R211). -/
theorem toInt_insSimm (w : Nat) : (insSimm w).toInt = sext 16 w := by
  have hlt : w % 2 ^ 16 < 2 ^ 16 := Nat.mod_lt w (by decide)
  have hbounds : -2 ^ 15 ≤ sext 16 w ∧ sext 16 w < 2 ^ 15 := by
    simp only [sext]
    split_ifs <;> omega
  rw [insSimm, BitVec.toInt_ofInt_eq_self (by decide)] <;> omega

theorem slt_eq_true_iff (a b : DWord) : a.slt b = true ↔ a.toInt < b.toInt := BitVec.slt_iff_toInt_lt
theorem ult_eq_true_iff (a b : DWord) : a.ult b = true ↔ a.toNat < b.toNat := by simp [BitVec.ult]

theorem not_slt_eq_true_iff (a b : DWord) : (!a.slt b) = true ↔ b.toInt ≤ a.toInt := by
  rw [Bool.not_eq_true', Bool.eq_false_iff, Ne, slt_eq_true_iff, not_lt]

theorem not_ult_eq_true_iff (a b : DWord) : (!a.ult b) = true ↔ b.toNat ≤ a.toNat := by
  rw [Bool.not_eq_true', Bool.eq_false_iff, Ne, ult_eq_true_iff, not_lt]

/-- The smaller of two numbers, where < and ≤ give the same one for equals. -/
theorem ite_slt_eq_ite_le (a b x y : DWord) (h : a = b → x = y) :
    (if a.slt b then x else y) = if a.toInt ≤ b.toInt then x else y := by
  rcases lt_trichotomy a.toInt b.toInt with hlt | heq | hgt
  · rw [if_pos ((slt_eq_true_iff a b).2 hlt), if_pos hlt.le]
  · rw [h (BitVec.eq_of_toInt_eq heq), ite_self, ite_self]
  · rw [if_neg fun hs => absurd ((slt_eq_true_iff a b).1 hs) hgt.not_gt, if_neg hgt.not_ge]

theorem ite_ult_eq_ite_le (a b x y : DWord) (h : a = b → x = y) :
    (if a.ult b then x else y) = if a.toNat ≤ b.toNat then x else y := by
  rcases lt_trichotomy a.toNat b.toNat with hlt | heq | hgt
  · rw [if_pos ((ult_eq_true_iff a b).2 hlt), if_pos hlt.le]
  · rw [h (BitVec.eq_of_toNat_eq heq), ite_self, ite_self]
  · rw [if_neg fun hs => absurd ((ult_eq_true_iff a b).1 hs) hgt.not_gt, if_neg hgt.not_ge]

theorem boolD_slt (a b : DWord) : boolD (a.slt b) = if a.toInt < b.toInt then 1#64 else 0#64 := by
  simp only [boolD, slt_eq_true_iff]

theorem boolD_ult (a b : DWord) : boolD (a.ult b) = if a.toNat < b.toNat then 1#64 else 0#64 := by
  simp only [boolD, ult_eq_true_iff]

theorem boolD_beq (a b : DWord) : boolD (a == b) = if a = b then 1#64 else 0#64 := by
  simp only [boolD, beq_iff_eq]

/-- Settles O6, by the two formats: each row is, by the definition of its meaning, an R- or an I-format instruction with its function. -/
theorem registerAndImmediateInstructions : Obligations.RegisterAndImmediateInstructions := by
  refine ⟨fun s c w hfetch hop => State.rFormats_do hfetch hop ?registers, fun s c w hfetch => State.iFormats_do hfetch ?immediates⟩
  case registers =>
    have same {i : Instr} {fn : Nat} {f : DWord → DWord → DWord → DWord} (h : s.Does i (s.dev.rOp c fn f)) : s.RFormat c (fn, i, f) :=
      ⟨f, h, fun _ _ _ => rfl⟩
    simp only [List.forall_mem_cons, List.not_mem_nil, false_implies, implies_true, and_true]
    exact ⟨same rfl, same rfl, same rfl, same rfl, same rfl, same rfl, same rfl, same rfl, same rfl, same rfl,
      ⟨_, rfl, fun _ a b => ite_slt_eq_ite_le a b a b id⟩, ⟨_, rfl, fun _ a b => ite_slt_eq_ite_le a b b a Eq.symm⟩,
      ⟨_, rfl, fun _ a b => ite_ult_eq_ite_le a b a b id⟩, ⟨_, rfl, fun _ a b => ite_ult_eq_ite_le a b b a Eq.symm⟩,
      ⟨_, rfl, fun _ a b => boolD_slt a b⟩, ⟨_, rfl, fun _ a b => boolD_ult a b⟩, ⟨_, rfl, fun _ a b => boolD_beq a b⟩⟩
  case immediates =>
    have hshift (h : bits w 15 6 = 0) : resvShift w = false := by simp [resvShift, h]
    simp only [List.forall_mem_cons, List.not_mem_nil, false_implies, implies_true, and_true]
    refine ⟨⟨noResv, _, rfl, fun _ => rfl, fun _ _ => rfl⟩, ⟨noResv, _, rfl, fun _ => rfl, fun _ _ => rfl⟩,
      ⟨noResv, _, rfl, fun _ => rfl, fun _ _ => rfl⟩, ⟨noResv, _, rfl, fun _ => rfl, fun _ _ => rfl⟩,
      ⟨_, _, rfl, hshift, fun _ _ => rfl⟩, ⟨_, _, rfl, hshift, fun _ _ => rfl⟩, ⟨_, _, rfl, hshift, fun _ _ => rfl⟩,
      ⟨_, _, rfl, fun _ => rfl, fun _ a => ?slti⟩, ⟨_, _, rfl, fun hzero => ?movk, fun _ _ => rfl⟩,
      ⟨resvA, _, rfl, fun hzero => ?lui, fun _ _ => rfl⟩⟩
    case slti => exact (boolD_slt a (insSimm w)).trans (by rw [toInt_insSimm])
    case movk => simpa using hzero
    case lui => simpa [resvA, insA] using hzero

/-! ## Scalar registers -/

theorem Core.Sound.rising_sreg {k : Core} (h : k.Sound) : Cells.rising 0 k.sreg = true := Cells.wf_rising h.1

/-- A write of S[i] reads back, and S0 stays zero (R207). -/
theorem Core.s_setS {k : Core} (h : k.Sound) (i j : Nat) (v : DWord) : (k.setS i v).s j = if j = i ∧ i ≠ 0 then v else k.s j := by
  by_cases hi : i = 0
  · simp [Core.setS, hi]
  by_cases hj : j = 0
  · simp [Core.s, hj, Ne.symm hi]
  · simp [Core.setS, Core.s, hi, hj, Cells.get_set h.rising_sreg]

theorem Core.setS_shape (k : Core) (i : Nat) (v : DWord) : k.setS i v = { k with sreg := (k.setS i v).sreg } := by
  unfold Core.setS
  split <;> rfl

/-- PC moves on from where it was: no scalar register holds it (R207). -/
theorem Core.next_setS (k : Core) (i : Nat) (v : DWord) : (k.setS i v).next = { k.setS i v with pc := k.pc + 1 } := by
  rw [Core.next, Core.setS_shape]

/-- Settles O7, by what a write of a scalar register reads back and what a change of one core leaves. -/
theorem scalarWriteFrame : Obligations.ScalarWriteFrame := by
  intro d c i j v h e
  have hcore : e.core c = ((d.core c).setS i v).next := (Device.core_modCore d c c _ (h.coreId_lt c)).trans (if_pos rfl)
  refine ⟨rfl, ?_, ?_, fun c' hc' => Device.core_modCore_ne d _ (Fin.val_ne_of_ne hc'), rfl⟩
  · rw [hcore]
    exact Core.s_setS (Device.core_sound h c) i j v
  · rw [hcore, Core.next, Core.setS_shape]

end Machine
end Sys2Proof
end

section
/-!
Accesses of the control core to scratch memory and local SRAM (R212, R213): an access is checked for alignment, range and code, in this order,
and moves its bytes where the checks pass.
-/
namespace Sys2Proof
namespace Machine

/-! ## The checks of an access (R213, R217) -/

/-- The status that ends an access of n bytes at address a of a memory of a size, broken where a word that it reads is: its alignment, its
range and its code, in this order. -/
def accessFault (a n size : Nat) (broken : Bool) : Option Nat :=
  if a % n ≠ 0 then some St.BAD_FIELD else if a ≥ size then some St.BAD_RANGE else if broken then some St.UNCORRECTABLE else none

section Checks

variable {a n size : Nat} {broken : Bool}

theorem accessFault_of_misaligned (h : a % n ≠ 0) : accessFault a n size broken = some 0x0010 := if_pos h

theorem accessFault_of_outside (halign : a % n = 0) (h : size ≤ a) : accessFault a n size broken = some 0x0012 := by
  simp [accessFault, halign, h, St.BAD_RANGE]

theorem accessFault_of_broken (halign : a % n = 0) (hrange : a < size) : accessFault a n size true = some 0x0021 := by
  simp [accessFault, halign, Nat.not_le.2 hrange, St.UNCORRECTABLE]

theorem accessFault_of_good (halign : a % n = 0) (hrange : a < size) : accessFault a n size false = none := by
  simp [accessFault, halign, Nat.not_le.2 hrange]

end Checks

/-- The checks of a command record are those of an access of 32 bytes (R218, R219). -/
theorem Core.recordFault_eq (k : Core) (a : Nat) : k.recordFault a = accessFault a 32 16384 (k.scratchBadAt a 32) := rfl

/-! ## Loads and stores (R212) -/

section Accesses

variable {d : Device} {c w op n st : Nat} (hfetch : (d.core c).fetch = some w)
include hfetch

section Scratch

variable (hop : insOp w = op)
include hop

theorem Device.loadOp_eq (ext : Nat → DWord) : d.loadOp c op n ext =
    match accessFault ((d.core c).ea w) n 16384 ((d.core c).scratchBadAt ((d.core c).ea w) n) with
    | some st => d.ctlFault c st 6 ((d.core c).ea w)
    | none => d.modCore c fun k => (k.setS (insD w) (ext (leNat (k.scratchBytes ((d.core c).ea w) n)))).next := by
  rw [Device.loadOp, Device.issue_of_fetch hfetch (by simp [hop])]
  dsimp only [accessFault]
  split_ifs <;> rfl

theorem Device.storeOp_eq : d.storeOp c op n =
    match accessFault ((d.core c).ea w) n 16384 false with
    | some st => d.ctlFault c st 6 ((d.core c).ea w)
    | none => d.modCore c fun k => (k.scratchWrite ((d.core c).ea w) (toLe n (k.s (insD w)).toNat)).next := by
  rw [Device.storeOp, Device.issue_of_fetch hfetch (by simp [hop])]
  simp only [accessFault, Bool.false_eq_true, if_false]
  split_ifs <;> rfl

end Scratch

theorem Device.lsldOp_eq (hop : insOp w = 0x19) : d.lsldOp c =
    match accessFault ((d.core c).ea w) 8 sramSize false with
    | some st => d.ctlFault c st 1 ((d.core c).ea w)
    | none =>
      if (d.sramRead c ((d.core c).ea w) 8).2.2.isSome then (d.sramRead c ((d.core c).ea w) 8).1.ctlFault c St.UNCORRECTABLE 1 ((d.core c).ea w)
      else (d.sramRead c ((d.core c).ea w) 8).1.modCore c fun k =>
        (k.setS (insD w) (BitVec.ofNat 64 (leNat (d.sramRead c ((d.core c).ea w) 8).2.1))).next := by
  rw [Device.lsldOp, Device.issue_of_fetch hfetch (by simp [hop])]
  dsimp only [accessFault]
  split_ifs <;> simp_all

theorem Device.lsstOp_eq (hop : insOp w = 0x1A) : d.lsstOp c =
    match accessFault ((d.core c).ea w) 8 sramSize false with
    | some st => d.ctlFault c st 1 ((d.core c).ea w)
    | none => d.modCore c fun k => (k.sramWrite ((d.core c).ea w) (toLe 8 (k.s (insD w)).toNat)).next := by
  rw [Device.lsstOp, Device.issue_of_fetch hfetch (by simp [hop])]
  simp only [accessFault, Bool.false_eq_true, if_false]
  split_ifs <;> rfl

/-- lscp moves its 32 bytes where both addresses are aligned and in range and no word of them is broken. -/
theorem Device.lscpOp_of_good (hop : insOp w = 0x1B) {a t : Nat} (ha : ((d.core c).s (insA w) + insSimm w * 32#64).toNat = a)
    (ht : ((d.core c).s (insD w)).toNat = t) (hfrom : a % 32 = 0 ∧ a < sramSize) (hto : t % 32 = 0 ∧ t < 16384)
    (hgood : (d.sramRead c a 32).2.2 = none) :
    d.lscpOp c = (d.sramRead c a 32).1.modCore c fun k => (k.scratchWrite t (d.sramRead c a 32).2.1).next := by
  rw [Device.lscpOp, Device.issue_of_fetch hfetch (by simp [hop])]
  simp only [ha, ht, hfrom.1, hto.1, Nat.not_le.2 hfrom.2, Nat.not_le.2 hto.2, hgood, ne_eq, not_true_eq_false, if_false]

end Accesses

/-! ## What a store leaves -/

theorem Core.Sound.rising_scratch {k : Core} (h : k.Sound) : Cells.rising 0 k.scratch = true := by
  obtain ⟨_, _, _, hscratch, _⟩ := h
  exact Cells.wf_rising hscratch

/-- Written bytes of scratch memory read back. -/
theorem Core.getRange_scratchWrite {k : Core} (h : k.Sound) (a n v : Nat) :
    Cells.getRange 0#8 (k.scratchWrite a (toLe n v)).scratch a n = toLe n v := by
  have hread := Cells.getRange_setRange 0#8 k.scratch h.rising_scratch a (toLe n v)
  rwa [toLe_length] at hread

/-- The other bytes stay. -/
theorem Core.get_scratchWrite_outside {k : Core} (h : k.Sound) {a n x : Nat} (v : Nat) (hx : x < a ∨ a + n ≤ x) :
    Cells.get 0#8 (k.scratchWrite a (toLe n v)).scratch x = Cells.get 0#8 k.scratch x := by
  refine (Cells.get_setRange h.rising_scratch _ _ _).trans (if_neg ?_)
  rw [toLe_length]
  omega

section Rows

variable {s : State} {c : CoreId} {w : Nat} (hfetch : (s.dev.core c).fetch = some w)
include hfetch

/-- A load whose checks pass reads its bytes. -/
theorem State.loads_do {rows : List (Nat × Nat × Instr × (Nat → DWord))}
    (hrows : ∀ p ∈ rows, s.Does p.2.2.1 (s.dev.loadOp c p.1 p.2.1 p.2.2.2)) : ∀ p ∈ rows, insOp w = p.1 →
      (s.dev.core c).ea w % p.2.1 = 0 → (s.dev.core c).ea w < 16384 → (s.dev.core c).scratchBadAt ((s.dev.core c).ea w) p.2.1 = false →
      s.Does p.2.2.1 (s.dev.modCore c fun k => (k.setS (insD w) (p.2.2.2 (leNat (k.scratchBytes ((s.dev.core c).ea w) p.2.1)))).next) := by
  intro p hp hop halign hrange hgood
  refine (hrows p hp).of_eq ?_
  rw [Device.loadOp_eq hfetch hop, hgood, accessFault_of_good halign hrange]

/-- A store whose checks pass writes its bytes, and leaves the rest of scratch memory, of the core and of the device (R212, R213). -/
theorem State.stores_do (h : s.dev.Sound) {rows : List (Nat × Nat × Instr)} (hrows : ∀ p ∈ rows, s.Does p.2.2 (s.dev.storeOp c p.1 p.2.1)) :
    ∀ p ∈ rows, insOp w = p.1 →
      let k := s.dev.core c
      let a := k.ea w
      a % p.2.1 = 0 → a < 16384 → ∃ t, exec p.2.2 s = .next t ∧
        Cells.getRange 0#8 (t.dev.core c).scratch a p.2.1 = toLe p.2.1 (k.s (insD w)).toNat ∧
        (∀ x, (x < a ∨ a + p.2.1 ≤ x) → Cells.get 0#8 (t.dev.core c).scratch x = Cells.get 0#8 k.scratch x) ∧
        t.dev.core c = { k with scratch := (t.dev.core c).scratch, scratchBad := (t.dev.core c).scratchBad, pc := k.pc + 1 } ∧
        (∀ x ∈ (t.dev.core c).scratchBad, x ∈ k.scratchBad) ∧ t = { s with dev := s.dev.setCore c (t.dev.core c) } := by
  intro p hp hop k a halign hrange
  have hstore : s.dev.storeOp c p.1 p.2.1 = s.dev.modCore c fun k => (k.scratchWrite a (toLe p.2.1 (k.s (insD w)).toNat)).next := by
    rw [Device.storeOp_eq hfetch hop, accessFault_of_good halign hrange]
  have hcore : (s.dev.storeOp c p.1 p.2.1).core c = (k.scratchWrite a (toLe p.2.1 (k.s (insD w)).toNat)).next := by
    rw [hstore, Device.core_modCore _ c c _ (h.coreId_lt c), if_pos rfl]
  have hk : k.Sound := Device.core_sound h c
  refine ⟨_, hrows p hp, ?_, fun x hx => ?_, ?_, fun x hx => ?_, ?_⟩
  · rw [hcore]
    exact Core.getRange_scratchWrite hk ..
  · rw [hcore]
    exact Core.get_scratchWrite_outside hk _ hx
  · rw [hcore]
    rfl
  · rw [hcore] at hx
    exact List.mem_of_mem_filter hx
  · rw [hcore, hstore]
    rfl

end Rows

/-- Settles O8: each row is a load, a store or a local SRAM access, and its checks pass. -/
theorem scratchAndSramInstructions : Obligations.ScratchAndSramInstructions := by
  refine ⟨fun s c w hfetch => State.loads_do hfetch ?loads, fun s c w h hfetch => State.stores_do hfetch h ?stores, ?sram⟩
  case loads =>
    simp only [List.forall_mem_cons, List.not_mem_nil, false_implies, implies_true, and_true]
    exact ⟨rfl, rfl, rfl, rfl, rfl⟩
  case stores =>
    simp only [List.forall_mem_cons, List.not_mem_nil, false_implies, implies_true, and_true]
    exact ⟨rfl, rfl, rfl, rfl⟩
  case sram =>
    intro s c w hfetch d k a b t
    have hlsld : s.Does (.lsld c) (d.lsldOp c) := rfl
    have hlsst : s.Does (.lsst c) (d.lsstOp c) := rfl
    have hlscp : s.Does (.lscp c) (d.lscpOp c) := rfl
    have hcheck (halign : a % 8 = 0) (hrange : a < 0x800000) : accessFault ((d.core c).ea w) 8 sramSize false = none :=
      accessFault_of_good halign hrange
    refine ⟨fun hop halign hrange hgood => hlsld.of_eq ?_, fun hop halign hrange => hlsst.of_eq ?_,
      fun hop halign hrange htalign htrange hgood =>
        hlscp.of_eq (Device.lscpOp_of_good hfetch hop rfl rfl ⟨halign, hrange⟩ ⟨htalign, htrange⟩ hgood)⟩
    · rw [Device.lsldOp_eq hfetch hop, hcheck halign hrange]
      exact if_neg (by rw [show (d.sramRead c ((d.core c).ea w) 8).2.2 = none from hgood]; exact Bool.false_ne_true)
    · rw [Device.lsstOp_eq hfetch hop, hcheck halign hrange]
      rfl

end Machine
end Sys2Proof
end

section
/-!
Branches of the control core, and instructions that end in a control-core fault: reserved fields, addresses and targets (R211-R213, R217).
-/
namespace Sys2Proof
namespace Machine

/-! ## Jumps (R212) -/

theorem Device.jumpTo_of_inside {d : Device} {c : Nat} {t : Int} (h : 0 ≤ t ∧ t ≤ 8191) (f : Core → Core) :
    d.jumpTo c t f = d.modCore c fun k => { f k with pc := t.toNat } := if_neg (by omega)

theorem Device.jumpTo_of_outside {d : Device} {c : Nat} {t : Int} (h : t < 0 ∨ 8191 < t) (f : Core → Core) :
    d.jumpTo c t f = d.ctlFault c 0x0012 5 (d.core c).pc := if_pos (by omega)

section Branches

variable {d : Device} {c w : Nat} (hfetch : (d.core c).fetch = some w)
include hfetch

theorem Device.branchOp_of_taken {op : Nat} (hop : insOp w = op) {cond : DWord → DWord → Bool}
    (h : cond ((d.core c).s (insD w)) ((d.core c).s (insA w)) = true) :
    d.branchOp c op cond = d.jumpTo c (branchTarget (d.core c) w) id := by
  rw [Device.branchOp, Device.issue_of_fetch hfetch (by simp [hop])]
  exact if_pos h

theorem Device.branchOp_of_notTaken {op : Nat} (hop : insOp w = op) {cond : DWord → DWord → Bool}
    (h : ¬ cond ((d.core c).s (insD w)) ((d.core c).s (insA w)) = true) : d.branchOp c op cond = d.modCore c Core.next := by
  rw [Device.branchOp, Device.issue_of_fetch hfetch (by simp [hop])]
  exact if_neg h

theorem Device.jalOp_of_zero (hop : insOp w = 0x26) (hzero : insA w = 0) :
    d.jalOp c = d.jumpTo c (branchTarget (d.core c) w) fun k => k.setS (insD w) (BitVec.ofNat 64 (k.pc + 1)) := by
  rw [Device.jalOp, Device.issue_of_fetch hfetch (by simp [hop])]
  exact if_neg (not_not_intro hzero)

theorem Device.jrOp_of_zero (hop : insOp w = 0x27) (hd : insD w = 0) (himm : insImm w = 0) :
    d.jrOp c = d.jumpTo c ((d.core c).s (insA w)).toNat id := by
  rw [Device.jrOp, Device.issue_of_fetch hfetch (by simp [hop])]
  exact if_neg (by simp [hd, himm])

theorem Device.dbnzOp_of_zero (hop : insOp w = 0x28) (hzero : insA w = 0) :
    d.dbnzOp c =
      if (d.core c).s (insD w) - 1#64 ≠ 0#64 then
        d.jumpTo c (branchTarget (d.core c) w) fun k => k.setS (insD w) ((d.core c).s (insD w) - 1#64)
      else d.modCore c fun k => (k.setS (insD w) ((d.core c).s (insD w) - 1#64)).next := by
  rw [Device.dbnzOp, Device.issue_of_fetch hfetch (by simp [hop])]
  exact if_neg (not_not_intro hzero)

end Branches

theorem sub_one_ne_zero_of_ne_one {a : DWord} (h : a ≠ 1#64) : a - 1#64 ≠ 0#64 := fun hzero => h (by bv_omega)

/-- The row p.2.1 is a branch of OP p.1, taken by the word w where p.2.2 holds (R212). -/
def State.Branches (s : State) (c : CoreId) (w : Nat) (p : Nat × Instr × Prop) : Prop :=
  ∃ cond : DWord → DWord → Bool, s.Does p.2.1 (s.dev.branchOp c p.1 cond) ∧
    (cond ((s.dev.core c).s (insD w)) ((s.dev.core c).s (insA w)) = true ↔ p.2.2)

theorem State.branches_do {s : State} {c : CoreId} {w : Nat} (hfetch : (s.dev.core c).fetch = some w) {rows : List (Nat × Instr × Prop)}
    (hrows : ∀ p ∈ rows, s.Branches c w p) : ∀ p ∈ rows, insOp w = p.1 →
      (p.2.2 → s.Does p.2.1 (s.dev.jumpTo c (branchTarget (s.dev.core c) w) id)) ∧ (¬ p.2.2 → s.Does p.2.1 (s.dev.modCore c Core.next)) := by
  intro p hp hop
  obtain ⟨cond, hrow, hcond⟩ := hrows p hp
  exact ⟨fun htaken => hrow.of_eq (Device.branchOp_of_taken hfetch hop (hcond.2 htaken)),
    fun hnot => hrow.of_eq (Device.branchOp_of_notTaken hfetch hop (mt hcond.1 hnot))⟩

/-- Settles O9, by whether a branch is taken and where it goes (`Device.jumpTo`). -/
theorem branchesMovePc : Obligations.BranchesMovePc := by
  intro s c w hfetch k a b t ok go
  have hrows : ∀ p ∈ ([(0x20, .beq c, a = b), (0x21, .bne c, a ≠ b), (0x22, .blt c, a.toInt < b.toInt), (0x23, .bge c, a.toInt ≥ b.toInt),
      (0x24, .bltu c, a.toNat < b.toNat), (0x25, .bgeu c, a.toNat ≥ b.toNat)] : List (Nat × Instr × Prop)), s.Branches c w p := by
    simp only [List.forall_mem_cons, List.not_mem_nil, false_implies, implies_true, and_true]
    exact ⟨⟨_, rfl, beq_iff_eq (a := a)⟩, ⟨_, rfl, bne_iff_ne (a := a)⟩, ⟨_, rfl, slt_eq_true_iff a b⟩, ⟨_, rfl, not_slt_eq_true_iff a b⟩,
      ⟨_, rfl, ult_eq_true_iff a b⟩, ⟨_, rfl, not_ult_eq_true_iff a b⟩⟩
  have hjal : s.Does (.jal c) (s.dev.jalOp c) := rfl
  have hjr : s.Does (.jr c) (s.dev.jrOp c) := rfl
  have hdbnz : s.Does (.dbnz c) (s.dev.dbnzOp c) := rfl
  refine ⟨fun p hp hop => ⟨fun htaken hok => ?_, (State.branches_do hfetch hrows p hp hop).2⟩, fun hop hzero hok => ?jal,
    fun hop hd himm hrange => ?jr, fun hop hzero => ⟨fun hgo hok => ?again, fun hlast => ?done⟩⟩
  · exact ((State.branches_do hfetch hrows p hp hop).1 htaken).of_eq (Device.jumpTo_of_inside hok id)
  case jal => exact hjal.of_eq ((Device.jalOp_of_zero hfetch hop hzero).trans (Device.jumpTo_of_inside hok _))
  case jr => exact hjr.of_eq ((Device.jrOp_of_zero hfetch hop hd himm).trans (Device.jumpTo_of_inside ⟨Int.natCast_nonneg _, Int.ofNat_le.2 hrange⟩ id))
  case again =>
    have hnonzero : a - 1#64 ≠ 0#64 := sub_one_ne_zero_of_ne_one hgo
    exact hdbnz.of_eq ((Device.dbnzOp_of_zero hfetch hop hzero).trans ((if_pos hnonzero).trans (Device.jumpTo_of_inside hok _)))
  case done =>
    have hzeroed : a - 1#64 = 0#64 := by rw [hlast]; rfl
    refine hdbnz.of_eq ((Device.dbnzOp_of_zero hfetch hop hzero).trans ((if_neg (not_not_intro hzeroed)).trans ?_))
    refine (congrArg (fun v => s.dev.modCore c fun k => (k.setS (insD w) v).next) hzeroed).trans ?_
    exact congrArg (s.dev.setCore c) (Core.next_setS ..)

end Machine
end Sys2Proof
end

section
/-!
Instructions that end in a control-core fault: reserved fields, addresses out of alignment, range or code, and targets out of the bank (R211,
R213, R217).
-/
namespace Sys2Proof
namespace Machine

/-! ## Reserved fields (R211) -/

/-- A field is put together from its two parts. -/
theorem bits_eq_add {hi mid lo : Nat} (hlo : lo ≤ mid) (hmid : mid < hi) (w : Nat) :
    bits w hi lo = bits w mid lo + 2 ^ (mid + 1 - lo) * bits w hi (mid + 1) := by
  have hwidth : hi + 1 - lo = (mid + 1 - lo) + (hi + 1 - (mid + 1)) := by omega
  rw [bits, hwidth, pow_add, Nat.mod_mul, ← Nat.shiftRight_eq_div_pow, ← Nat.shiftRight_add, Nat.add_sub_cancel' (by omega)]
  rfl

/-- A field is zero where its two parts are. -/
theorem bits_eq_zero_iff {w hi mid lo : Nat} (hlo : lo ≤ mid) (hmid : mid < hi) :
    bits w hi lo = 0 ↔ bits w hi (mid + 1) = 0 ∧ bits w mid lo = 0 := by
  simp [bits_eq_add hlo hmid, and_comm]

/-- The fields that semrd must leave 0 are bits 20:6 (R212). -/
theorem resvSem_true_iff (w : Nat) : resvSem true w = true ↔ bits w 20 6 ≠ 0 := by
  rw [Ne, bits_eq_zero_iff (mid := 15) (by decide) (by decide)]
  simp [resvSem, insA, imp_iff_not_or]

/-- The fields that semsig and semwait must leave 0 are bits 25:6 (R212). -/
theorem resvSem_false_iff (w : Nat) : resvSem false w = true ↔ bits w 25 6 ≠ 0 := by
  rw [Ne, bits_eq_zero_iff (mid := 20) (by decide) (by decide), not_and_or, ← Ne, ← Ne, ← resvSem_true_iff]
  simp [resvSem, insD, or_comm]

/-- The row p.2.1 refuses the word w, of OP p.1, where p.2.2 holds: with ST_BAD_FIELD at the PC (R217). -/
def State.Refuses (s : State) (c : CoreId) (w : Nat) (p : Nat × Instr × Prop) : Prop :=
  ∃ f : Device → Nat → Device, s.Does p.2.1 (s.dev.issue c (fun w => insOp w == p.1) f) ∧ (p.2.2 → f s.dev w = s.dev.pcFault c St.BAD_FIELD)

/-- An instruction without operands refuses every word but its own (R212). -/
theorem State.Does.refusesFields {s : State} {c : CoreId} {w op : Nat} {i : Instr} {f : Device → Device}
    (hrow : s.Does i (s.dev.plainOp c op f)) : s.Refuses c w (op, i, bits w 25 0 ≠ 0) := ⟨_, hrow, fun h => if_pos h⟩

/-- rdsr refuses the items that R214 does not list. -/
theorem Device.stateItem_of_unlisted (d : Device) (c : Nat) {i : Nat} (h : 7 < i) : d.stateItem c i = none :=
  match i, h with
  | _ + 8, _ => rfl

section Rows

variable {s : State} {c : CoreId} {w : Nat} (hfetch : (s.dev.core c).fetch = some w)
include hfetch

theorem State.refusals_do {rows : List (Nat × Instr × Prop)} (hrows : ∀ p ∈ rows, s.Refuses c w p) :
    ∀ p ∈ rows, insOp w = p.1 → p.2.2 → s.Does p.2.1 (s.dev.ctlFault c 0x0010 5 (s.dev.core c).pc) := by
  intro p hp hop hresv
  obtain ⟨f, hrow, hf⟩ := hrows p hp
  exact hrow.of_eq ((Device.issue_of_fetch hfetch (by simp [hop]) f).trans (hf hresv))

end Rows

/-! ## Addresses (R213, R217-R219) -/

/-- Instruction i is an access of n bytes at address a of a memory of a size: its checks end it in a control-core fault with that address. -/
def State.Checks (s : State) (c : CoreId) (i : Instr) (kind a n size : Nat) (broken : Bool) : Prop :=
  ∀ st, accessFault a n size broken = some st → s.Does i (s.dev.ctlFault c st kind a)

section Checks

variable {s : State} {c : CoreId} {i : Instr} {kind a n size : Nat} {broken : Bool} (h : s.Checks c i kind a n size broken)
include h

theorem State.Checks.misaligned (halign : a % n ≠ 0) : s.Does i (s.dev.ctlFault c 0x0010 kind a) := h _ (accessFault_of_misaligned halign)

theorem State.Checks.outside (halign : a % n = 0) (hrange : size ≤ a) : s.Does i (s.dev.ctlFault c 0x0012 kind a) :=
  h _ (accessFault_of_outside halign hrange)

theorem State.Checks.unreadable (halign : a % n = 0) (hrange : a < size) (hbroken : broken = true) :
    s.Does i (s.dev.ctlFault c 0x0021 kind a) := by
  subst hbroken
  exact h _ (accessFault_of_broken halign hrange)

end Checks

section Accesses

variable {s : State} {c : CoreId} {w op n : Nat} {i : Instr} (hfetch : (s.dev.core c).fetch = some w)
include hfetch

theorem State.Does.loadChecks {ext : Nat → DWord} (hrow : s.Does i (s.dev.loadOp c op n ext)) (hop : insOp w = op) :
    s.Checks c i 6 ((s.dev.core c).ea w) n 16384 ((s.dev.core c).scratchBadAt ((s.dev.core c).ea w) n) :=
  fun st hst => hrow.of_eq (by rw [Device.loadOp_eq hfetch hop, hst])

theorem State.Does.storeChecks (hrow : s.Does i (s.dev.storeOp c op n)) (hop : insOp w = op) :
    s.Checks c i 6 ((s.dev.core c).ea w) n 16384 false :=
  fun st hst => hrow.of_eq (by rw [Device.storeOp_eq hfetch hop, hst])

theorem State.lsldChecks (hop : insOp w = 0x19) : s.Checks c (.lsld c) 1 ((s.dev.core c).ea w) 8 sramSize false :=
  fun st hst => State.Does.of_eq (d := s.dev.lsldOp c) rfl (by rw [Device.lsldOp_eq hfetch hop, hst])

theorem State.lsstChecks (hop : insOp w = 0x1A) : s.Checks c (.lsst c) 1 ((s.dev.core c).ea w) 8 sramSize false :=
  fun st hst => State.Does.of_eq (d := s.dev.lsstOp c) rfl (by rw [Device.lsstOp_eq hfetch hop, hst])

end Accesses

/-! ## Command records (R218, R219) -/

section Records

variable {d : Device} {c w : Nat} (hfetch : (d.core c).fetch = some w)
include hfetch

theorem Device.finsOp_eq (hop : insOp w = 0x30) (hzero : bits w 1 0 = 0) (hfits : bits w 15 8 + bits w 7 2 ≤ 255) :
    d.finsOp c = match (d.core c).recordFault ((d.core c).s (insA w)).toNat with
      | some st => d.ctlFault c st 6 ((d.core c).s (insA w)).toNat
      | none => d.modCore c fun k => (k.scratchWrite ((d.core c).s (insA w)).toNat (toLe 32
          (setBits (leNat ((d.core c).scratchBytes ((d.core c).s (insA w)).toNat 32)) (bits w 15 8 + bits w 7 2) (bits w 15 8)
            ((d.core c).s (insD w)).toNat))).next := by
  rw [Device.finsOp, Device.issue_of_fetch hfetch (by simp [hop])]
  exact if_neg (by omega)

/-- The entry that a push appends (R219, R220). -/
def Device.pushEntry (d : Device) (c w : Nat) : QEntry where
  cmd := BitVec.ofNat 256 (pushCommand (leNat ((d.core c).scratchBytes ((d.core c).s (insA w)).toNat 32)) ((d.core c).s (insB w)).toNat
    (bits w 10 3) (d.core c).tc (bit w 22))
  gate := (d.core c).gate.getD {}
  stroke := d.coreStroke c

theorem Device.pushOp_eq (hop : insOp w = 0x31) (hbit : w.testBit 21 = false) (hzero : bits w 2 0 = 0) (hq : bits w 25 23 ≤ 5) :
    d.pushOp c = match (d.core c).recordFault ((d.core c).s (insA w)).toNat with
      | some st => d.ctlFault c st 6 ((d.core c).s (insA w)).toNat
      | none =>
        if occupancy ((d.core c).queue (bits w 25 23)) ≥ 64 then d
        else (d.enqueue c (bits w 25 23) (d.pushEntry c w)).modCore c fun k =>
          { k.next with tc := if bit w 22 then (k.tc + 1) % 0x1000000 else k.tc, gate := none } := by
  rw [Device.pushOp, Device.issue_of_fetch hfetch (by simp [hop])]
  have hfields : ¬ (bit w 21 = true ∨ bits w 2 0 ≠ 0 ∨ bits w 25 23 > 5) := by simp [bit, hbit, hzero, hq]
  exact if_neg hfields

end Records

section RecordChecks

variable {s : State} {c : CoreId} {w : Nat} (hfetch : (s.dev.core c).fetch = some w)
include hfetch

theorem State.finsChecks (hop : insOp w = 0x30) (hfields : bits w 1 0 = 0 ∧ bits w 15 8 + bits w 7 2 ≤ 255) :
    s.Checks c (.fins c) 6 ((s.dev.core c).s (insA w)).toNat 32 16384
      ((s.dev.core c).scratchBadAt ((s.dev.core c).s (insA w)).toNat 32) :=
  fun st hst => State.Does.of_eq (d := s.dev.finsOp c) rfl (by rw [Device.finsOp_eq hfetch hop hfields.1 hfields.2, Core.recordFault_eq, hst])

theorem State.pushChecks (hop : insOp w = 0x31) (hfields : w.testBit 21 = false ∧ bits w 2 0 = 0 ∧ bits w 25 23 ≤ 5) :
    s.Checks c (.push c) 6 ((s.dev.core c).s (insA w)).toNat 32 16384
      ((s.dev.core c).scratchBadAt ((s.dev.core c).s (insA w)).toNat 32) := by
  obtain ⟨hbit, hzero, hq⟩ := hfields
  exact fun st hst => State.Does.of_eq (d := s.dev.pushOp c) rfl (by rw [Device.pushOp_eq hfetch hop hbit hzero hq, Core.recordFault_eq, hst])

end RecordChecks

/-- The row p.2.2 is a load of p.2.1 bytes from scratch memory, or, from OP 0x15 on, a store (R212). -/
def State.AccessesScratch (s : State) (c : CoreId) (p : Nat × Nat × Instr) : Prop :=
  (∃ ext, s.Does p.2.2 (s.dev.loadOp c p.1 p.2.1 ext)) ∨ 0x15 ≤ p.1 ∧ s.Does p.2.2 (s.dev.storeOp c p.1 p.2.1)

/-- The instructions of OP 0x20, 0x21, 0x26 and 0x28 that go to their target jump there (R212). -/
theorem State.jumps_do {s : State} {c : CoreId} {w : Nat} (hfetch : (s.dev.core c).fetch = some w) :
    let k := s.dev.core c
    ∀ p ∈ ([(0x20, .beq c, k.s (bits w 25 21) = k.s (bits w 20 16)), (0x21, .bne c, k.s (bits w 25 21) ≠ k.s (bits w 20 16)),
        (0x26, .jal c, bits w 20 16 = 0), (0x28, .dbnz c, bits w 20 16 = 0 ∧ k.s (bits w 25 21) ≠ 1#64)] : List (Nat × Instr × Prop)),
      insOp w = p.1 → p.2.2 → ∃ f, s.Does p.2.1 (s.dev.jumpTo c (branchTarget k w) f) := by
  intro k
  have hbeq : s.Does (.beq c) (s.dev.branchOp c 0x20 fun a b => a == b) := rfl
  have hbne : s.Does (.bne c) (s.dev.branchOp c 0x21 fun a b => a != b) := rfl
  have hjal : s.Does (.jal c) (s.dev.jalOp c) := rfl
  have hdbnz : s.Does (.dbnz c) (s.dev.dbnzOp c) := rfl
  simp only [List.forall_mem_cons, List.not_mem_nil, false_implies, implies_true, and_true]
  refine ⟨fun hop heq => ⟨id, hbeq.of_eq (Device.branchOp_of_taken hfetch hop (beq_iff_eq.2 heq))⟩,
    fun hop hne => ⟨id, hbne.of_eq (Device.branchOp_of_taken hfetch hop (bne_iff_ne.2 hne))⟩,
    fun hop hzero => ⟨_, hjal.of_eq (Device.jalOp_of_zero hfetch hop hzero)⟩, fun hop hgo => ?_⟩
  obtain ⟨hzero, hagain⟩ := hgo
  exact ⟨_, hdbnz.of_eq ((Device.dbnzOp_of_zero hfetch hop hzero).trans (if_pos (sub_one_ne_zero_of_ne_one hagain)))⟩

/-- Settles O13: the refusals by the field that is not 0, the accesses by their checks, and the branches by their target. -/
theorem fieldsAddressesAndTargetsFault : Obligations.FieldsAddressesAndTargetsFault := by
  refine ⟨fun s c w hfetch => State.refusals_do hfetch ?fields, ?accesses⟩
  case fields =>
    have hshift (h : bits w 15 6 ≠ 0) : resvShift w = true := by simpa [resvShift] using h
    simp only [List.forall_mem_cons, List.not_mem_nil, false_implies, implies_true, and_true]
    refine ⟨⟨_, rfl, fun h => if_pos (hshift h)⟩, ⟨_, rfl, fun h => if_pos (hshift h)⟩, ⟨_, rfl, fun h => if_pos (hshift h)⟩,
      ⟨_, rfl, fun h => if_pos (by simpa using h)⟩, ⟨_, rfl, fun h => if_pos (by simpa [resvA, insA] using h)⟩,
      ⟨_, rfl, fun h => if_pos h⟩, ⟨_, rfl, fun h => if_pos h⟩, ⟨_, rfl, fun h => if_pos h⟩, ⟨_, rfl, fun h => if_pos h⟩,
      ⟨_, rfl, fun h => if_pos h⟩, ⟨_, rfl, fun h => ?item⟩, ⟨_, rfl, fun h => if_pos h⟩, ⟨_, rfl, fun h => if_pos h⟩,
      ⟨_, rfl, fun h => if_pos h⟩, ⟨_, rfl, fun h => if_pos ((resvSem_false_iff w).2 h)⟩,
      ⟨_, rfl, fun h => if_pos ((resvSem_false_iff w).2 h)⟩, ⟨_, rfl, fun h => if_pos ((resvSem_true_iff w).2 h)⟩,
      State.Does.refusesFields rfl, State.Does.refusesFields rfl, State.Does.refusesFields rfl⟩
    by_cases ha : insA w = 0
    · have hunlisted := s.dev.stateItem_of_unlisted c (h.resolve_left (not_not_intro ha))
      refine (if_neg (not_not_intro ha)).trans ?_
      rw [show s.dev.stateItem c (insImm w) = none from hunlisted]
    · exact if_pos ha
  case accesses =>
    intro s c w hfetch d k a bad
    refine ⟨?scratch, ?sram, ?records, ?targets⟩
    case scratch =>
      have hrows : ∀ p ∈ ([(0x10, 1, .ld8u c), (0x11, 2, .ld16u c), (0x12, 4, .ld32u c), (0x13, 4, .ld32s c), (0x14, 8, .ld64 c),
          (0x15, 1, .st8 c), (0x16, 2, .st16 c), (0x17, 4, .st32 c), (0x18, 8, .st64 c)] : List (Nat × Nat × Instr)), s.AccessesScratch c p := by
        simp only [List.forall_mem_cons, List.not_mem_nil, false_implies, implies_true, and_true]
        exact ⟨.inl ⟨_, rfl⟩, .inl ⟨_, rfl⟩, .inl ⟨_, rfl⟩, .inl ⟨_, rfl⟩, .inl ⟨_, rfl⟩, .inr ⟨by simp, rfl⟩, .inr ⟨by simp, rfl⟩,
          .inr ⟨by simp, rfl⟩, .inr ⟨by simp, rfl⟩⟩
      intro p hp hop
      obtain ⟨ext, hload⟩ | ⟨hstoreOp, hstore⟩ := hrows p hp
      · have hchecks := hload.loadChecks hfetch hop
        exact ⟨hchecks.misaligned, hchecks.outside, fun halign hrange hbroken _ => hchecks.unreadable halign hrange hbroken⟩
      · have hchecks := hstore.storeChecks hfetch hop
        exact ⟨hchecks.misaligned, hchecks.outside, fun _ _ _ hloadOp => absurd hstoreOp (by omega)⟩
    case sram =>
      simp only [List.forall_mem_cons, List.not_mem_nil, false_implies, implies_true, and_true]
      exact ⟨fun hop => ⟨(State.lsldChecks hfetch hop).misaligned, (State.lsldChecks hfetch hop).outside⟩,
        fun hop => ⟨(State.lsstChecks hfetch hop).misaligned, (State.lsstChecks hfetch hop).outside⟩⟩
    case records =>
      simp only [List.forall_mem_cons, List.not_mem_nil, false_implies, implies_true, and_true]
      exact ⟨fun hop hfields => have h := State.finsChecks hfetch hop hfields; ⟨h.misaligned, h.outside, h.unreadable⟩,
        fun hop hfields => have h := State.pushChecks hfetch hop hfields; ⟨h.misaligned, h.outside, h.unreadable⟩⟩
    case targets =>
      intro p hp hop hgo hout
      obtain ⟨f, hjump⟩ := State.jumps_do hfetch p hp hop hgo
      exact hjump.of_eq (Device.jumpTo_of_outside hout f)

end Machine
end Sys2Proof
end

section
/-!
Parameters, state items, command records, gates and semaphores of the control core (R212, R214, R218-R220, R225, R230), and what a push
appends.
-/
namespace Sys2Proof
namespace Machine

/-- An issued instruction does what its meaning says of the word. -/
theorem State.does_issued {s : State} {c : CoreId} {w op : Nat} {i : Instr} {d : Device} {f : Device → Nat → Device}
    (hfetch : (s.dev.core c).fetch = some w) (hop : insOp w = op) (hrow : s.Does i (s.dev.issue c (fun w => insOp w == op) f))
    (hf : f s.dev w = d) : s.Does i d := hrow.of_eq ((Device.issue_of_fetch hfetch (by simp [hop]) f).trans hf)

/-! ## State items (R214) -/

theorem Core.occupancies_eq (k : Core) : k.occupancies =
    occupancy k.mxq + 2 ^ 8 * occupancy k.spq + 2 ^ 16 * occupancy k.vxq + 2 ^ 24 * occupancy k.cpq0 + 2 ^ 32 * occupancy k.cpq1
      + 2 ^ 40 * occupancy k.syq := by
  simp [Core.occupancies, List.range_succ, Nat.mul_comm, Core.queue]

theorem Device.rdsrOp_of_listed {s : State} {c : CoreId} {w v : Nat} (hfetch : (s.dev.core c).fetch = some w) (hop : insOp w = 0x2E)
    (hzero : insA w = 0) (hitem : s.dev.stateItem c (insImm w) = some v) :
    s.Does (.rdsr c) (s.dev.modCore c fun k => (k.setS (insD w) (BitVec.ofNat 64 v)).next) := by
  refine State.does_issued hfetch hop rfl ((if_neg (not_not_intro hzero)).trans ?_)
  rw [hitem]

/-- Settles O10, instruction by instruction, where its reserved bits are 0. -/
theorem parameterItemGateAndSemaphoreInstructions : Obligations.ParameterItemGateAndSemaphoreInstructions := by
  refine ⟨?values, ?controls⟩
  case values =>
    intro s c w hfetch d k go
    have hitems : ∀ p ∈ ([(0, c.val), (1, (d.reg (Reg.CORE_REPLAYS_LO c)).toNat + 2 ^ 32 * (d.reg (Reg.CORE_REPLAYS_LO c + 4)).toNat),
        (2, d.coreStroke c), (3, timeShort d.now), (4, k.tc), (5, k.bank),
        (6, occupancy k.mxq + 2 ^ 8 * occupancy k.spq + 2 ^ 16 * occupancy k.vxq + 2 ^ 24 * occupancy k.cpq0 + 2 ^ 32 * occupancy k.cpq1
          + 2 ^ 40 * occupancy k.syq), (7, d.cycles - k.resetCycle)] : List (Nat × Nat)), d.stateItem c p.1 = some p.2 := by
      simp only [List.forall_mem_cons, List.not_mem_nil, false_implies, implies_true, and_true, ← Core.occupancies_eq]
      exact ⟨rfl, rfl, rfl, rfl, rfl, rfl, rfl, rfl⟩
    refine ⟨fun hop hzero => State.does_issued hfetch hop rfl (if_neg (not_not_intro hzero)),
      fun hop hzero => State.does_issued hfetch hop rfl (if_neg (not_not_intro hzero)),
      fun hop hzero p hp himm => Device.rdsrOp_of_listed hfetch hop hzero ((congrArg (d.stateItem c) himm).trans (hitems p hp)),
      fun hop hzero himm => State.does_issued hfetch hop rfl (if_neg ?semrd), ?fins⟩
    case semrd =>
      rw [resvSem_true_iff, not_not, bits_eq_zero_iff (mid := 15) (by decide) (by decide)]
      exact ⟨hzero, himm⟩
    case fins =>
      intro a pos wm1 r r' hop hzero hfits halign hrange hgood
      have hrow : s.Does (.fins c) (d.finsOp c) := rfl
      refine ⟨hrow.of_eq ((Device.finsOp_eq hfetch hop hzero hfits).trans ?_), fun i _ => testBit_setBits r _ (Nat.le_add_right pos wm1) i⟩
      rw [Core.recordFault_eq, hgood, accessFault_of_good halign hrange]
      rfl
  case controls =>
    intro s c w d go
    refine ⟨fun hfetch => ⟨fun hop hzero => State.does_issued hfetch hop rfl (if_neg (not_not_intro hzero)),
      fun hop hzero => State.does_issued hfetch hop rfl (if_neg ?_), fun hop hzero => State.does_issued hfetch hop rfl (if_neg ?_),
      fun hop hzero => ?nop, fun hop hzero => ?halt⟩, fun n hwait hwinner => ?grant⟩
    · rwa [resvSem_false_iff, not_not]
    · rwa [resvSem_false_iff, not_not]
    case nop =>
      have hrow : s.Does (.nop c) (d.plainOp c 0x3D fun d => d.modCore c Core.next) := rfl
      exact State.does_issued hfetch hop hrow (if_neg (not_not_intro hzero))
    case halt =>
      have hrow : s.Does (.halt c) (d.plainOp c 0x3F fun d => (d.modCore c fun k => { k.next with run := .halted }).boundary c) := rfl
      exact State.does_issued hfetch hop hrow (if_neg (not_not_intro hzero))
    case grant =>
      have hrow : s.Does (.semwaitGrant c) (d.semwaitGrantOp c) := rfl
      refine hrow.of_eq ?_
      rw [Device.semwaitGrantOp, hwait]
      exact if_pos hwinner

/-! ## push (R219, R220) -/

/-- The low 64 bits taken as a number with a sign are the register's value. -/
theorem sext_toNat (x : DWord) : sext 64 x.toNat = x.toInt := by
  have hlt := x.isLt
  rw [BitVec.toInt_eq_toNat_cond, sext, Nat.mod_eq_of_lt hlt]
  split_ifs <;> omega

/-- The command that a push forms (R219). -/
theorem pushCommand_eq (record pos tc : Nat) (x : DWord) (tm : Bool) :
    pushCommand record x.toNat pos tc tm =
      let sum := (record + (x.toInt % (2 ^ 256 : Int)).toNat * 2 ^ pos) % 2 ^ 256
      if tm then sum - sum % 2 ^ 24 + tc % 2 ^ 24 else sum := by
  simp [pushCommand, wrap, sext_toNat, setBits, bits]

/-- Two changes of one core are one. -/
theorem Device.modCore_modCore {d : Device} {c : Nat} (hc : c < d.cores.length) (f g : Core → Core) :
    (d.modCore c f).modCore c g = d.modCore c fun k => g (f k) := by
  rw [Device.modCore, Device.core_modCore d c c f hc, if_pos rfl]
  simp [Device.modCore, Device.setCore]

/-- Settles O11, by the push of a good record: it appends its entry, or waits (`Device.pushOp_eq`). -/
theorem pushAppendsPatchedCommand : Obligations.PushAppendsPatchedCommand := by
  intro s c w hfetch hop d k q a tm sum v hbit hzero hq halign hrange hgood
  have hrow : s.Does (.push c) (d.pushOp c) := rfl
  have hpush := Device.pushOp_eq hfetch hop hbit hzero hq
  rw [Core.recordFault_eq, hgood, accessFault_of_good halign hrange] at hpush
  refine ⟨fun hroom => hrow.of_eq ?_, fun hfull => hrow.of_eq (hpush.trans (if_pos hfull))⟩
  have hentry : d.pushEntry c w = { cmd := BitVec.ofNat 256 v, gate := k.gate.getD {}, stroke := d.coreStroke c } := by
    rw [Device.pushEntry, pushCommand_eq]
    rfl
  rw [hpush, if_neg (Nat.not_le.2 hroom), Device.enqueue, Device.modCore_modCore (Device.lt_of_fetch hfetch), hentry]
  simp only [Core.next, Core.setQueue_pc, Core.setQueue_tc]
  rfl

end Machine
end Sys2Proof
end

section
/-!
Replays of the control core (R239-R248): the boundary between two replays, the start actions, and the host's controls.
-/
namespace Sys2Proof
namespace Machine

/-! ## Start actions (R240) -/

/-- A 64-bit count of one stops at all ones. -/
theorem Device.reg64_bump64_one {d : Device} (h : d.Sound) (lo : Nat) :
    (d.bump64 lo 1).reg64 lo = min 0xFFFFFFFFFFFFFFFF (d.reg64 lo + 1) := by
  have hlow := Device.setReg_sound h lo (BitVec.ofNat 32 (min 0xFFFFFFFFFFFFFFFF (d.reg64 lo + 1)))
  rw [Device.bump64, if_neg Nat.one_ne_zero, Device.setReg64, Device.reg64, Device.reg_setReg_same hlow,
    Device.reg_setReg_ne hlow _ (by omega), Device.reg_setReg_same h, BitVec.toNat_ofNat, BitVec.toNat_ofNat]
  omega

theorem Device.reg_bump64_ne {d : Device} (h : d.Sound) {lo j : Nat} (n : Nat) (hlo : j ≠ lo) (hhi : j ≠ lo + 4) :
    (d.bump64 lo n).reg j = d.reg j := by
  unfold Device.bump64
  split
  · rfl
  · exact (Device.reg_setReg_ne (Device.setReg_sound h _ _) _ hhi).trans (Device.reg_setReg_ne h _ hlo)

/-! ## The boundary (R241, R244) -/

/-- Writes of instruction memory touch nothing else of the core (R244). -/
theorem Core.foldl_writeImem_shape : ∀ (l : List HeldWrite) (k : Core),
    l.foldl (fun k h => k.writeImem h.bank h.index h.words) k =
      { k with imem := (l.foldl (fun k h => k.writeImem h.bank h.index h.words) k).imem
               imemBad := (l.foldl (fun k h => k.writeImem h.bank h.index h.words) k).imemBad }
  | [], _ => rfl
  | x :: l, k => Core.foldl_writeImem_shape l (k.writeImem x.bank x.index x.words)

theorem Core.copyDirty_shape (k : Core) : ∀ n, k.copyDirty n = { k with live := (k.copyDirty n).live }
  | 0 => rfl
  | n + 1 => by
    dsimp only [Core.copyDirty]
    rw [Core.copyDirty_shape k n]
    split <;> rfl

/-- The parameter n after the first n is taken where its dirty bit is set (R241). -/
theorem Core.live_copyDirty_succ (k : Core) (n : Nat) : (k.copyDirty (n + 1)).live =
    if k.dirty.toNat.testBit n then Cells.set 0#64 (k.copyDirty n).live n (Cells.get 0#64 k.staged n) else (k.copyDirty n).live := by
  dsimp only [Core.copyDirty]
  rw [Core.copyDirty_shape k n]
  split <;> rfl

/-- The live registers after the dirty ones among the first n are taken from the staged ones (R241). -/
theorem Core.get_live_copyDirty {k : Core} (h : k.Sound) (j : Nat) : ∀ n, Cells.get 0#64 (k.copyDirty n).live j =
    if j < n ∧ k.dirty.toNat.testBit j = true then Cells.get 0#64 k.staged j else Cells.get 0#64 k.live j
  | 0 => by simp [Core.copyDirty]
  | n + 1 => by
    have ih := Core.get_live_copyDirty h j n
    obtain ⟨_, hlive, _⟩ := Core.copyDirty_sound h n
    rw [Core.live_copyDirty_succ]
    by_cases hj : j = n
    · subst hj
      by_cases hdirty : k.dirty.toNat.testBit j = true
      · simp [hdirty, Cells.get_set (Cells.wf_rising hlive)]
      · simp [hdirty, ih]
    · have hlt : j < n + 1 ↔ j < n := by omega
      simp only [apply_ite (Cells.get 0#64 · j), Cells.get_set (Cells.wf_rising hlive), if_neg hj, ite_self, ih, hlt]

/-- What moves into the live registers depends on the parameters and their dirty bits alone (R241). -/
theorem Core.copyDirty_of_same {k k' : Core} (hlive : k'.live = k.live) (hdirty : k'.dirty = k.dirty) (hstaged : k'.staged = k.staged) (n : Nat) :
    k'.copyDirty n = { k' with live := (k.copyDirty n).live } := by
  rw [Core.copyDirty_shape]
  congr 1
  induction n with
  | zero => exact hlive
  | succ n ih => rw [Core.live_copyDirty_succ, Core.live_copyDirty_succ, ih, hdirty, hstaged]

/-- The live registers that a boundary leaves: the dirty staged parameters reach them unless LOCK is 1 (R241). -/
def Core.liveAfter (k : Core) (lock : Bool) : Cells DWord := if lock then k.live else (k.copyDirty 64).live

theorem Core.get_liveAfter {k : Core} (h : k.Sound) (lock : Bool) {n : Nat} (hn : n < 64) : Cells.get 0#64 (k.liveAfter lock) n =
    if lock = false ∧ k.dirty.toNat.testBit n = true then Cells.get 0#64 k.staged n else Cells.get 0#64 k.live n := by
  cases lock
  · simp [Core.liveAfter, Core.get_live_copyDirty h, hn]
  · simp [Core.liveAfter]

/-- The core as a boundary leaves it (R241). -/
def Core.atBoundary (k : Core) (lock : Bool) : Core :=
  { (k.held.foldl (fun k h => k.writeImem h.bank h.index h.words) k) with
    held := [], live := k.liveAfter lock, dirty := if lock then k.dirty else 0#64, gate := none, semWait := none, switchPending := false
    bank := if k.switchPending then 1 - k.bank else k.bank }

/-- The steps of a boundary in their order (R241). -/
theorem Core.boundary_steps (k : Core) (lock : Bool) :
    (let k1 := { (k.held.foldl (fun k h => k.writeImem h.bank h.index h.words) k) with held := [] }
     let k2 := if k1.switchPending then { k1 with bank := 1 - k1.bank, switchPending := false } else k1
     let k3 := if lock then k2 else { k2.copyDirty 64 with dirty := 0#64 }
     { k3 with gate := none, semWait := none }) = k.atBoundary lock := by
  dsimp only [Core.atBoundary]
  rw [Core.foldl_writeImem_shape]
  dsimp only
  cases hswitch : k.switchPending <;> cases lock <;> simp only [if_true, if_false, Bool.false_eq_true]
  case false.false => rw [Core.copyDirty_of_same (k := k)] <;> rfl
  case true.false => rw [Core.copyDirty_of_same (k := k)] <;> rfl
  case false.true => rfl
  case true.true => rfl

/-- A boundary is the change of its core, and then the completions of the held writes. -/
theorem Device.boundary_eq (d : Device) (c : Nat) : d.boundary c =
    (d.core c).held.foldl (fun d h => match h.owner with | some id => d.complete id 0 0 | none => d)
      (d.setCore c ((d.core c).atBoundary (d.flag (Reg.CORE_CTL c) 7))) := by
  rw [← Core.boundary_steps]
  rfl

/-- Settles O12: rend by its flag AUTOREPEAT, the start actions as one change of the core and a count, the boundary by its steps. -/
theorem replaysEndStartAndBound : Obligations.ReplaysEndStartAndBound := by
  refine ⟨fun s c w hfetch hop hzero => ?ends, fun d c h => ?start, fun d c h => ?boundary⟩
  case ends =>
    intro e
    have hrow : s.Does (.rend c) (s.dev.plainOp c 0x3E fun d =>
      let d := (d.modCore c (fun k => { k with run := .idle })).boundary c
      if d.flag (Reg.CORE_CTL c) 6 then d.startActions c else d) := rfl
    exact State.does_issued hfetch hop hrow (if_neg (not_not_intro hzero))
  case start =>
    intro e
    have hmod : (d.modCore c fun k =>
        { k with run := .running, pc := d.fld (Reg.CORE_ENTRY c) 12 0, tc := d.fld (Reg.CORE_TAG_BASE c) 23 0 }).Sound :=
      Device.modCore_sound h c fun _ hk => Core.Sound.upd hk
    refine ⟨?_, Device.reg64_bump64_one hmod _, fun c' hc' => ?_, fun r hlo hhi => Device.reg_bump64_ne hmod 1 hlo hhi,
      Device.bump64_shape _ _ _⟩
    · exact (congrArg (·.getD c Core.reset) (Device.bump64_cores ..)).trans ((Device.core_modCore d c c _ (h.coreId_lt c)).trans (if_pos rfl))
    · exact (congrArg (·.getD c' Core.reset) (Device.bump64_cores ..)).trans (Device.core_modCore_ne d _ (Fin.val_ne_of_ne hc'))
  case boundary =>
    intro k lock
    exact ⟨k.liveAfter lock, fun n hn => Core.get_liveAfter (Device.core_sound h c) lock hn, Device.boundary_eq d c⟩

/-! ## Host controls (R239, R245, R248) -/

/-- A change of a core is known by what it does to the core as it stands. -/
theorem Device.modCore_congr {d : Device} {c : Nat} {f g : Core → Core} (h : f (d.core c) = g (d.core c)) : d.modCore c f = d.modCore c g :=
  congrArg (d.setCore c) h

theorem Cells.get_erase_of_lt {α : Type} (dflt : α) {key j : Nat} (h : key < j) : ∀ m : Cells α,
    Cells.get dflt (Cells.erase m key) j = Cells.get dflt m j
  | [] => rfl
  | (k, v) :: rest => by
    have ih := Cells.get_erase_of_lt dflt h rest
    unfold Cells.erase
    split_ifs with hlt heq
    · rfl
    · simp only [Cells.get, show ¬ j < k by omega, show ¬ j = k by omega, if_false]
    · simp only [Cells.get, ih]

/-- A write of a register shows in none above it, in whatever order the registers are listed. -/
theorem Device.reg_setReg_of_lt (d : Device) {k j : Nat} (v : Word) (h : k < j) : (d.setReg k v).reg j = d.reg j := by
  unfold Device.reg Device.setReg Cells.set
  dsimp only
  split
  · exact Cells.get_erase_of_lt _ h _
  · exact (Cells.get_put _).trans (if_neg (Nat.ne_of_gt h))

/-- Leaving Idle opens no sluice and closes none (R568). -/
theorem Device.closed_exitIdle (d : Device) (p : Nat) : d.exitIdle.closed p = d.closed p := by
  have hreg : d.exitIdle.reg (Reg.STK_STATUS p) = d.reg (Reg.STK_STATUS p) := by
    unfold Device.exitIdle
    split
    · exact d.reg_setReg_of_lt _ (Nat.lt_of_lt_of_le (Reg.pwrState_lt_stk p) (Nat.le_add_right _ 4))
    · rfl
  simp only [Device.closed, Device.flag, hreg]

theorem Device.exitIdle_shape (d : Device) : d.exitIdle = { d with regs := d.exitIdle.regs } := by
  unfold Device.exitIdle
  split
  · exact Device.setFld_shape ..
  · rfl

/-- A doubleword with a new high word, and with a new low word (R242). -/
theorem setBits_high (x : DWord) (v : Word) : setBits x.toNat 63 32 v.toNat = v.toNat * 2 ^ 32 + x.toNat % 2 ^ 32 := by
  have hx := x.isLt
  have hv := v.isLt
  simp only [setBits, bits, Nat.shiftLeft_eq, Nat.shiftRight_eq_div_pow]
  omega

theorem setBits_low (x : DWord) (v : Word) : setBits x.toNat 31 0 v.toNat = x.toNat / 2 ^ 32 * 2 ^ 32 + v.toNat := by
  have hv := v.isLt
  simp only [setBits, bits, Nat.shiftLeft_eq, Nat.shiftRight_eq_div_pow]
  omega

theorem Device.coreControl_of_on {d : Device} {c : Nat} (hpart : (d.partOf c).isSome) (hon : d.standby = false) (f : Device → Device) :
    d.coreControl c f = f d := if_neg (by simp [hon, Option.isSome_iff_ne_none.1 hpart])

section Replay

variable {d : Device} {c : Nat} (hpart : (d.partOf c).isSome)
include hpart

theorem Device.replayStart_of_idle (hidle : (d.core c).run = .idle) (hopen : d.closed (d.partNum c) = false) :
    d.replayStart c = d.startActions c := by
  rw [Device.replayStart, if_neg (by simp [Option.isSome_iff_ne_none.1 hpart]), if_pos (by simp [hidle, hopen])]

theorem Device.replayStart_of_busy (hbusy : (d.core c).run ≠ .idle) :
    d.replayStart c = ((d.bump (Reg.CORE_MISSED c) 1).coreRecord c 0x0023 0 0).fireCore c := by
  rw [Device.replayStart, if_neg (by simp [Option.isSome_iff_ne_none.1 hpart]), if_neg fun h => hbusy h.1]
  rfl

end Replay

/-- Settles O15, by the state of the core; a start leaves Idle first, which leaves the sluice as it is (`Device.closed_exitIdle`). -/
theorem hostControlsOfCore : Obligations.HostControlsOfCore := by
  refine ⟨fun s c hpart hon => ?controls, fun s c n high v => ?writes⟩
  case controls =>
    intro d k go
    have hresume : s.Does (.coreCtlResume c) (d.ctlResume c) := rfl
    have hhalt : s.Does (.coreCtlHalt c) (d.ctlHalt c) := rfl
    have hswitch : s.Does (.coreCtlSwitch c) (d.ctlSwitch c) := rfl
    have hstart : s.Does (.coreCtlStart c) (d.ctlStart c) := rfl
    have hexitPart : (d.exitIdle.partOf c).isSome := by rwa [Device.exitIdle_shape]
    have hexitCore : d.exitIdle.core c = k := by rw [Device.exitIdle_shape]; rfl
    refine ⟨fun hrun => hresume.of_eq ?_, fun hrun => hhalt.of_eq ?_, fun hrun => hhalt.of_eq ?_, fun hrun => hswitch.of_eq ?_,
      fun hrun => hswitch.of_eq ?_, fun hrun hopen => hstart.of_eq ?_, fun hrun => hstart.of_eq ?_⟩
    · exact (Device.coreControl_of_on hpart hon _).trans (Device.modCore_congr (if_pos hrun))
    · simp only [Device.ctlHalt, show (d.core c).run = _ from hrun]
    · simp only [Device.ctlHalt, show (d.core c).run = _ from hrun]
    · exact (Device.coreControl_of_on hpart hon _).trans (Device.modCore_congr (if_pos hrun))
    · exact (Device.coreControl_of_on hpart hon _).trans (Device.modCore_congr (if_neg hrun))
    · refine (Device.coreControl_of_on hpart hon _).trans (Device.replayStart_of_idle hexitPart (hexitCore ▸ hrun) ?_)
      rw [Device.closed_exitIdle, Device.exitIdle_shape]
      exact hopen
    · exact (Device.coreControl_of_on hpart hon _).trans (Device.replayStart_of_busy hexitPart (hexitCore ▸ hrun))
  case writes =>
    intro go
    have hstage : s.Does (.corePstageWrite c n high v) (s.dev.pstageWrite c n high v) := rfl
    refine ⟨rfl, hstage.of_eq (Device.modCore_congr ?_), rfl⟩
    simp only [Core.stage, setBits_high, setBits_low]

end Machine
end Sys2Proof
end

section
/-!
The rotating priority of a semaphore (R29, R230), its grants, and the commands of the sync unit (R233-R238).
-/
namespace Sys2Proof
namespace Machine

/-! ## Rotating priority (R29) -/

theorem firstFrom_eq_some_iff {p : Nat → Bool} {r : Nat} : ∀ {n lo : Nat}, firstFrom p lo n = some r ↔
    ∃ j, j < n ∧ r = lo + j ∧ p r = true ∧ ∀ i, i < j → p (lo + i) = false
  | 0, lo => by simp [firstFrom]
  | n + 1, lo => by
    unfold firstFrom
    split
    case isTrue hp =>
      constructor
      · intro h
        obtain rfl : lo = r := Option.some.inj h
        exact ⟨0, Nat.succ_pos n, rfl, hp, fun i hi => absurd hi (Nat.not_lt_zero i)⟩
      · rintro ⟨j, -, rfl, -, hbefore⟩
        cases j with
        | zero => rfl
        | succ j => exact absurd hp (by simp [← hbefore 0 (Nat.succ_pos j)])
    case isFalse hp =>
      rw [firstFrom_eq_some_iff]
      constructor
      · rintro ⟨j, hj, rfl, hr, hbefore⟩
        refine ⟨j + 1, Nat.succ_lt_succ hj, by omega, hr, fun i hi => ?_⟩
        cases i with
        | zero => exact Bool.eq_false_iff.2 hp
        | succ i => exact (by omega : lo + 1 + i = lo + (i + 1)) ▸ hbefore i (Nat.lt_of_succ_lt_succ hi)
      · rintro ⟨j, hj, rfl, hr, hbefore⟩
        cases j with
        | zero => exact absurd hr hp
        | succ j =>
          exact ⟨j, Nat.lt_of_succ_lt_succ hj, by omega, hr, fun i hi =>
            (by omega : lo + (i + 1) = lo + 1 + i) ▸ hbefore (i + 1) (Nat.succ_lt_succ hi)⟩

/-- The turn goes to the first that asks from the pointer on, round the n. -/
theorem rotate_eq_some_iff {n ptr r : Nat} {req : Nat → Bool} : rotate n ptr req = some r ↔
    ∃ j, j < n ∧ r = (ptr + j) % n ∧ req r = true ∧ ∀ i, i < j → req ((ptr + i) % n) = false := by
  have hrotate : rotate n ptr req = (firstFrom (fun i => req (i % n)) ptr n).map (· % n) := by
    unfold rotate
    split <;> simp [*]
  simp only [hrotate, Option.map_eq_some_iff, firstFrom_eq_some_iff]
  constructor
  · rintro ⟨_, ⟨j, hj, rfl, hr, hbefore⟩, rfl⟩
    exact ⟨j, hj, rfl, hr, hbefore⟩
  · rintro ⟨j, hj, rfl, hr, hbefore⟩
    exact ⟨_, ⟨j, hj, rfl, hr, hbefore⟩, rfl⟩

@[simp] theorem Core.queue_grant (k : Core) (n v r q : Nat) : (k.grant n v r).queue q = k.queue q := by
  unfold Core.queue
  split <;> rfl

/-- Settles O16: the winner by the rotation (`rotate_eq_some_iff`), and what the two grants do with it. -/
theorem grantsGoToTheWinner : Obligations.GrantsGoToTheWinner := by
  refine ⟨fun k n r _ => rotate_eq_some_iff, fun s c n => ?grants⟩
  intro d k
  have hgate : s.Does (.gateRelease c n) (d.gateRelease c n) := rfl
  have hwait : s.Does (.syWaitGrant c) (d.syWaitGrant c) := rfl
  refine ⟨fun r hwinner hr => ?release, fun e v hfront hrequest hwinner => ?take⟩
  case release =>
    intro k'
    refine hgate.of_eq ?_
    rw [Device.gateRelease, hwinner]
    refine (if_pos hr).trans (congrArg (d.setCore c) ?_)
    exact congrArg (fun q => (k.grant n 1 r).setQueue r (grantHead q)) (Core.queue_grant k n 1 r r)
  case take =>
    refine hwait.of_eq ?_
    rw [Device.syWaitGrant, hfront, hrequest]
    exact if_pos hwinner

end Machine
end Sys2Proof
end

section
/-!
Increments of semaphores (R231), retirements that do not happen (R228), and the sync unit from the start to the end of its commands
(R233-R238).
-/
namespace Sys2Proof
namespace Machine

/-! ## Semaphores (R231) -/

theorem Core.Sound.rising_sem {k : Core} (h : k.Sound) : Cells.rising 0 k.sem = true := by
  obtain ⟨_, _, _, _, _, hsem, _⟩ := h
  exact Cells.wf_rising hsem

theorem Core.semVal_setSem {k : Core} (h : k.Sound) (n v j : Nat) : (k.setSem n v).semVal j = if j = n then v else k.semVal j :=
  Cells.get_set h.rising_sem n v j

theorem Device.core_raise (d : Device) (r : FaultRec) (c : Nat) : (d.raise r).core c = d.core c :=
  congrArg (fun cores => cores.getD c Core.reset) (Device.raise_cores d r)

/-- The semaphore ends at the sum clipped to 65,535; the record of the overflow is no core's. -/
theorem Device.core_semAdd (d : Device) (c n amount : Nat) (tag : Option Nat) (signaller port j : Nat) :
    (d.semAdd c n amount tag signaller port).core j =
      (d.modCore c fun k => k.setSem n (min 65535 (k.semVal n + amount))).core j := by
  unfold Device.semAdd
  simp only []
  split
  case isTrue hle => rw [Device.modCore, Device.modCore, Nat.min_eq_right hle]
  case isFalse hgt => rw [Device.core_raise, Device.modCore, Device.modCore, Nat.min_eq_left (Nat.le_of_not_ge hgt)]

theorem Device.semVal_semAdd {d : Device} (h : d.Sound) (c : CoreId) (n amount : Nat) (tag : Option Nat) (signaller port j : Nat) :
    ((d.semAdd c n amount tag signaller port).core c).semVal j =
      if j = n then min 65535 ((d.core c).semVal n + amount) else (d.core c).semVal j := by
  rw [Device.core_semAdd, Device.core_modCore _ _ _ _ (h.coreId_lt c), if_pos rfl, Core.semVal_setSem (Device.core_sound h c)]

theorem Core.queue_setSem (k : Core) (n v q : Nat) : (k.setSem n v).queue q = k.queue q := by
  unfold Core.queue
  split <;> rfl

theorem Device.queue_semAdd {d : Device} (h : d.Sound) (c n amount : Nat) (tag : Option Nat) (signaller port : Nat) (j : CoreId) (q : Nat) :
    ((d.semAdd c n amount tag signaller port).core j).queue q = (d.core j).queue q := by
  rw [Device.core_semAdd]
  by_cases hj : j.val = c
  · subst hj
    rw [Device.core_modCore _ _ _ _ (h.coreId_lt j), if_pos rfl, Core.queue_setSem]
  · rw [Device.core_modCore_ne _ _ hj]

/-! ## Retirement (R228) -/

section Retire
variable {d : Device} {c q : Nat} {e : QEntry} {r : CmdResult}

theorem Device.engineRetire_of_done (hfront : d.front c q = some e) (hresult : e.result = some r)
    (hplace : ¬(q = 3 ∧ (d.core c).engineIdle 0 = false ∨ q = 4 ∧ (d.core c).engineIdle 1 = false)) :
    d.engineRetire c q = if ((d.retire c q e r).core c).siphonBusy = some q
      then (d.retire c q e r).modCore c fun k => { k with siphonBusy := none } else d.retire c q e r := by
  simp only [Device.engineRetire, hfront, hresult]
  exact if_neg (by simpa using hplace)

theorem Device.engineRetire_of_copying (hfront : d.front c q = some e) (hresult : e.result = some r)
    (hplace : q = 3 ∧ (d.core c).engineIdle 0 = false ∨ q = 4 ∧ (d.core c).engineIdle 1 = false) : d.engineRetire c q = d := by
  simp only [Device.engineRetire, hfront, hresult]
  exact if_pos (by simpa using hplace)

theorem Device.engineRetire_of_known (hfront : d.front c q = some e) (hresult : e.result = none)
    (hknown : e.open = false ∨ knownOp q e = true) : d.engineRetire c q = d := by
  simp only [Device.engineRetire, hfront, hresult]
  exact if_neg (by rcases hknown with h | h <;> simp [h])

theorem Device.engineRetire_of_unknown (hfront : d.front c q = some e) (hresult : e.result = none) (hopen : e.open = true)
    (hknown : knownOp q e = false) : d.engineRetire c q =
      d.retire c q { e with started := true, since := d.cycles } { status := St.BAD_FIELD, faults := [{ status := St.BAD_FIELD }] } := by
  simp only [Device.engineRetire, hfront, hresult]
  exact if_pos (by simp [hopen, hknown])

end Retire

/-! ## The sync unit (R233-R238) -/

/-- The entry of a command that its engine has started. -/
def QEntry.begun (e : QEntry) (cycles : Nat) : QEntry := { e with started := true, since := cycles }

/-- A command that may run, has not started and passes its checks starts. -/
theorem Device.sy_of_passed {d : Device} {c opc : Nat} {e : QEntry} {check : Device → Nat → Option Nat} {f : Device → QEntry → Device}
    (hready : d.ready c 5 = some e) (hstarted : e.started = false) (hopc : e.opc = opc) (hcheck : check d e.c = none) :
    d.sy c opc check f = f (d.setFront c 5 (e.begun d.cycles)) (e.begun d.cycles) := by
  have hruns : ¬(e.opc ≠ opc ∨ e.started = true) := by simp [hopc, hstarted]
  simp only [QEntry.c] at hcheck
  simp only [Device.sy, hready, if_neg hruns, QEntry.c, hcheck, QEntry.begun]

/-- The sy.sig that an increment came from retires, where it stands at the front of its SYQ (R236). -/
def Device.retireSig (d : Device) (n : Increment) : Device :=
  if n.source < 128 then
    match d.front n.source 5 with
    | some e => if n.isFrom e then d.retire n.source 5 e {} else d
    | none => d
  else d

theorem Device.retireSig_of_front {d : Device} {n : Increment} {e : QEntry} (hsource : n.source < 128)
    (hfront : d.front n.source 5 = some e) (hfrom : n.isFrom e = true) : d.retireSig n = d.retire n.source 5 e {} := by
  simp only [Device.retireSig, if_pos hsource, hfront, if_pos hfrom]

/-- An increment leaves the list of those in flight, is applied unless it is stale, and its sy.sig retires. -/
theorem Device.incrementArrival_eq {d : Device} {i : Nat} {n : Increment} (hn : d.increments[i]? = some n) :
    d.incrementArrival i =
      (if strokeOlder n.stroke (d.coreStroke n.core) then { d with increments := d.increments.eraseIdx i }
      else ({ d with increments := d.increments.eraseIdx i } : Device).semAdd n.core n.sem n.amount
        (if n.source < 128 then some n.tag else none) n.source 7).retireSig n := by
  unfold Device.incrementArrival
  rw [hn]
  rfl

/-- The sy.time that waits at the front of SYQ of core i (R238). -/
def Device.waitingTime (d : Device) (i : Nat) : Option QEntry :=
  match d.front i 5 with
  | some e => if e.opc == 0x04 && e.started && e.result.isNone then some e else none
  | none => none

theorem Device.waitingTime_of_front {d : Device} {i : Nat} {e : QEntry} (hfront : d.front i 5 = some e) :
    d.waitingTime i = if e.opc = 0x04 ∧ e.started = true ∧ e.result = none then some e else none := by
  simp [Device.waitingTime, hfront, and_assoc]

theorem Device.syTimeReached_eq {d : Device} {c : Nat} {e : QEntry} (hwaits : d.waitingTime c = some e) :
    d.syTimeReached c = (List.range 128).foldl (fun d i => match d.waitingTime i with
      | some f => if f.target ≤ d.now then d.retire i 5 f {} else d
      | none => d) { d with now := max d.now e.target } := by
  have hrow : d.syTimeReached c = match d.waitingTime c with
    | none => d
    | some e => (List.range 128).foldl (fun d i => match d.waitingTime i with
      | some f => if f.target ≤ d.now then d.retire i 5 f {} else d
      | none => d) { d with now := max d.now e.target } := rfl
  rw [hrow, hwaits]

/-- Settles O18. A stale increment is discarded and its sy.sig retires all the same (log row 35), `syTimeReached` moves device time to the
target (log row 8), and a row whose condition does not hold leaves the state (log row 7). -/
theorem retirementsAndSyncCommands : Obligations.RetirementsAndSyncCommands := by
  refine ⟨?retires, fun d c n amount tag signaller port hsound => ?adds, fun s c e hready hstarted => ?starts, fun s => ?ends⟩
  case retires =>
    intro s c q e d hfront
    have hrow : s.Does (.engineCommandRetire c q) (d.engineRetire c q) := rfl
    exact ⟨fun r hresult hplace => hrow.of_eq (Device.engineRetire_of_copying hfront hresult hplace),
      fun hresult hknown => hrow.of_eq (Device.engineRetire_of_known hfront hresult hknown),
      fun hresult hopen hknown => hrow.of_eq (Device.engineRetire_of_unknown hfront hresult hopen hknown)⟩
  case adds =>
    intro v
    exact ⟨(Device.semVal_semAdd hsound c n amount tag signaller port n).trans (if_pos rfl), fun hle => if_pos hle,
      fun hgt => if_neg (Nat.not_le.2 hgt)⟩
  case starts =>
    intro d x e' d'
    refine ⟨fun hopc htop hzero hvalue hpart hsame hslot => ?sig, fun hopc htop hzero hvalue => ?wait,
      fun hopc htop hnanos hfree => ?time, fun hopc htop hzero hzero' hcount hmax hlimit => ?bar⟩
    case sig =>
      have hrow : s.Does (.sySig c) (d.sySig c) := rfl
      refine hrow.of_eq (Device.sy_of_passed hready hstarted hopc (firstStatus_eq_none_iff.2 ?_))
      simpa [syValue, syCore] using ⟨⟨⟨htop, hzero⟩, hvalue⟩, ⟨hpart, hsame⟩, hslot⟩
    case wait =>
      have hrow : s.Does (.syWait c) (d.syWait c) := rfl
      refine hrow.of_eq (Device.sy_of_passed hready hstarted hopc (firstStatus_eq_none_iff.2 ?_))
      simpa [syValue] using ⟨⟨htop, hzero⟩, hvalue⟩
    case time =>
      have hrow : s.Does (.syTime c) (d.syTime c) := rfl
      refine hrow.of_eq (Device.sy_of_passed hready hstarted hopc (firstStatus_eq_none_iff.2 ?_))
      simpa [bit] using ⟨⟨htop, hnanos⟩, hfree⟩
    case bar =>
      have hrow : s.Does (.syBar c) (d.syArrive c) := rfl
      have hpassed : (bits x 255 56 != 0 || bits x 47 41 != 0 || bits x 39 36 != 0 || syCount x == 0 || decide (syCount x > 128)
          || decide (syCount x > d.barLimit c x)) = false := by
        simpa [syCount] using ⟨⟨⟨⟨⟨htop, hzero⟩, hzero'⟩, Nat.one_le_iff_ne_zero.1 hcount⟩, hmax⟩, hlimit⟩
      have hrun := (Device.sy_of_passed hready hstarted hopc (firstStatus_eq_none_iff.2 (List.forall_mem_singleton.2 hpassed)) :
        d.syArrive c = _)
      intro n b
      refine ⟨fun hsome hcount => hrow.of_eq (hrun.trans (if_pos ?_)), fun hcount => hrow.of_eq (hrun.trans ((if_neg ?_).trans ?_))⟩
      · simpa using ⟨hsome, hcount⟩
      · have hsame : (!b.arrived.isEmpty && b.count != n) = false := by simpa [or_iff_not_imp_left] using hcount
        exact Bool.eq_false_iff.1 hsame
      · simp only [List.length_append, List.length_singleton]
        rfl
  case ends =>
    intro d
    refine ⟨fun i n e hn hsource hfront hfrom hsound => ?increment, fun key b l rest hb hfull => ?release,
      fun c e hfront hopc hstarted hresult => ?time⟩
    case increment =>
      have hrow : s.Does (.semIncrementArrival i) (d.incrementArrival i) := rfl
      intro d'
      have hfront' : d'.front n.source 5 = some e := hfront
      refine ⟨fun hold => hrow.of_eq ?_, fun hold => hrow.of_eq ?_⟩
      · have hlater : (d'.semAdd n.core n.sem n.amount (some n.tag) n.source 7).front n.source 5 = some e := by
          rw [Device.front, Device.queue_semAdd (d := d') hsound n.core n.sem n.amount (some n.tag) n.source 7 ⟨n.source, hsource⟩ 5]
          exact hfront'
        rw [Device.incrementArrival_eq hn, if_neg (Bool.eq_false_iff.1 hold), if_pos hsource]
        exact Device.retireSig_of_front hsource hlater hfrom
      · rw [Device.incrementArrival_eq hn, if_pos hold]
        exact Device.retireSig_of_front hsource hfront' hfrom
    case release =>
      have hrow : s.Does (.barrierRelease key) (d.barrierRelease key) := rfl
      refine hrow.of_eq ?_
      simp only [Device.barrierRelease, hb, hfull]
      refine congrArg (fun f => l.foldl f _) (funext fun d => funext fun c => ?_)
      cases d.front c 5 with
      | none => rfl
      | some e => simp [and_assoc]
    case time =>
      have hrow : s.Does (.syTimeReached c) (d.syTimeReached c) := rfl
      have hwaits : d.waitingTime c = some e := (Device.waitingTime_of_front hfront).trans (if_pos ⟨hopc, hstarted, hresult⟩)
      refine hrow.of_eq ((Device.syTimeReached_eq hwaits).trans ?_)
      refine congrArg (fun f => (List.range 128).foldl f _) (funext fun d => funext fun i => ?_)
      cases hi : d.front i 5 with
      | none => simp [Device.waitingTime, hi]
      | some f =>
        rw [Device.waitingTime_of_front hi]
        split_ifs <;> simp_all

end Machine
end Sys2Proof
end

section
/-!
The completion of a Zennus command, a trace record and a retirement write memory, which reaches a core by its local SRAM alone: everything
else of every core stays (R253, R510).
-/
namespace Sys2Proof
namespace Machine

/-! ## The cores beside their local SRAM -/

/-- A core without its local SRAM and what is known of its codewords. -/
def Core.besideSram (k : Core) : Core := { k with sram := [], sramBad := [], sramCe := [] }

/-- The cores without their local SRAM. -/
def Device.besideSram (d : Device) : List Core := d.cores.map Core.besideSram

theorem Device.core_besideSram {d d' : Device} (h : d'.besideSram = d.besideSram) (c : Nat) :
    (d'.core c).besideSram = (d.core c).besideSram := by
  have hcore : ∀ d : Device, (d.core c).besideSram = d.besideSram.getD c Core.reset.besideSram := fun d => by
    simp only [Device.core, Device.besideSram, List.getD_eq_getElem?_getD, List.getElem?_map]
    cases d.cores[c]? <;> rfl
  rw [hcore, hcore, h]

theorem Core.queue_of_besideSram {k k' : Core} (h : k'.besideSram = k.besideSram) (q : Nat) : k'.queue q = k.queue q := by
  have hqueue : ∀ k : Core, k.besideSram.queue q = k.queue q := fun k => by
    unfold Core.queue
    split <;> rfl
  rw [← hqueue k', h, hqueue]

/-- A change of fields other than the cores. -/
@[simp] theorem Device.besideSram_upd (e : Device) (now cycles : Nat) (regs : Cells Word) (mem : Cells Byte) (poison : Cells Bool)
    (symErr : Cells Nat) (granules : Cells Nat) (clusters : List Cluster) (partMask : Cells (BitVec 16)) (increments : List Increment)
    (barriers : Cells Barrier) (hostMem : Cells Byte) (watches : List Watch) (seen : List Seen) (heldPages : List HeldPage)
    (dirty : Cells Bool) (red : RedState) (aq : AqState) (upd : UpdState) (svc : SvcState) (tim : TimState) (strokes : Cells Stroke)
    (fault : FaultState) (evt : EvtState) (zn : ZnState) (sec : SecState) (pwr : PwrState) (boot : BootState) (free : Nat) :
    (Device.mk now cycles regs e.cores mem poison symErr granules clusters partMask increments barriers hostMem watches seen heldPages
      dirty red aq upd svc tim strokes fault evt zn sec pwr boot free).besideSram = e.besideSram := by rfl

@[simp] theorem Device.besideSram_ite {c : Prop} [Decidable c] (a b : Device) :
    (if c then a else b).besideSram = if c then a.besideSram else b.besideSram := apply_ite ..

@[simp] theorem Device.besideSram_fst_ite {α : Type} {c : Prop} [Decidable c] (a b : Device × α) :
    (if c then a else b).1.besideSram = if c then a.1.besideSram else b.1.besideSram :=
  apply_ite (fun r : Device × α => r.1.besideSram) ..

@[simp] theorem Device.foldl_besideSram {α : Type} {g : Device → α → Device} (hg : ∀ d x, (g d x).besideSram = d.besideSram) :
    ∀ (l : List α) (d : Device), (l.foldl g d).besideSram = d.besideSram
  | [], _ => rfl
  | x :: l, d => (Device.foldl_besideSram hg l (g d x)).trans (hg d x)

/-- The device that an operation answers beside another value. -/
theorem Device.besideSram_of_fst {α : Type} {d d' : Device} {r : Device × α} {x : α} (e : r = (d', x))
    (h : r.1.besideSram = d.besideSram) : d'.besideSram = d.besideSram := by rw [e] at h; exact h

theorem Device.besideSram_congr {d d' : Device} (h : d'.cores = d.cores) : d'.besideSram = d.besideSram :=
  congrArg (List.map Core.besideSram) h

theorem Device.modCore_besideSram (d : Device) (c : Nat) {f : Core → Core} (hf : ∀ k, (f k).besideSram = k.besideSram) :
    (d.modCore c f).besideSram = d.besideSram := by
  simp only [Device.besideSram, Device.modCore, Device.setCore, List.map_set, hf, Device.core]
  refine List.ext_getElem (by simp) fun i hi hi' => ?_
  rw [List.getElem_set]
  split
  case isTrue hic =>
    subst hic
    simp at hi
    simp [hi]
  case isFalse => rfl

/-! ## Registers, faults and DRAM -/

@[simp] theorem Device.setReg_besideSram (d : Device) (k : Nat) (v : Word) : (d.setReg k v).besideSram = d.besideSram := by rfl

@[simp] theorem Device.setFld_besideSram (d : Device) (k hi lo v : Nat) : (d.setFld k hi lo v).besideSram = d.besideSram := by rfl

@[simp] theorem Device.setFlag_besideSram (d : Device) (k i : Nat) (b : Bool) : (d.setFlag k i b).besideSram = d.besideSram := by rfl

@[simp] theorem Device.bump_besideSram (d : Device) (k n : Nat) : (d.bump k n).besideSram = d.besideSram :=
  Device.besideSram_congr (Device.bump_cores ..)

@[simp] theorem Device.setReg64_besideSram (d : Device) (k v : Nat) : (d.setReg64 k v).besideSram = d.besideSram := by rfl

@[simp] theorem Device.bump64_besideSram (d : Device) (k n : Nat) : (d.bump64 k n).besideSram = d.besideSram :=
  Device.besideSram_congr (Device.bump64_cores ..)

@[simp] theorem Device.noteTag_besideSram (d : Device) (k t : Nat) : (d.noteTag k t).besideSram = d.besideSram := by rfl

@[simp] theorem Device.bump16_besideSram (d : Device) (k : Nat) (b : Bool) (n : Nat) : (d.bump16 k b n).besideSram = d.besideSram :=
  Device.besideSram_congr (Device.bump16_cores ..)

@[simp] theorem Device.setCluster_besideSram (d : Device) (g : Nat) (k : Cluster) : (d.setCluster g k).besideSram = d.besideSram := by rfl

@[simp] theorem Device.fire_besideSram (d : Device) (n : Nat) : (d.fire n).besideSram = d.besideSram :=
  Device.besideSram_congr (Device.fire_cores ..)

@[simp] theorem Device.firePart_besideSram (d : Device) (p j : Nat) : (d.firePart p j).besideSram = d.besideSram :=
  Device.besideSram_congr (Device.firePart_cores ..)

@[simp] theorem Device.raise_besideSram (d : Device) (r : FaultRec) : (d.raise r).besideSram = d.besideSram :=
  Device.besideSram_congr (Device.raise_cores ..)

@[simp] theorem Device.raisePart_besideSram (d : Device) (p : Option Nat) (r : FaultRec) : (d.raisePart p r).besideSram = d.besideSram :=
  Device.besideSram_congr (Device.raisePart_cores ..)

@[simp] theorem Device.coverPoison_besideSram (d : Device) (a e cw n : Nat) : (d.coverPoison a e cw n).besideSram = d.besideSram := by
  induction n generalizing d cw with
  | zero => rfl
  | succ n ih => simp [Device.coverPoison, ih]

@[simp] theorem Device.askRetire_besideSram (d : Device) (key : Nat) : (d.askRetire key).besideSram = d.besideSram := by
  simp [Device.askRetire]

@[simp] theorem Device.memCe_besideSram (d : Device) (a symbols : Nat) : (d.memCe a symbols).besideSram = d.besideSram := by
  simp [Device.memCe]

@[simp] theorem Device.memUe_besideSram (d : Device) (a : Nat) : (d.memUe a).besideSram = d.besideSram := by simp [Device.memUe]

@[simp] theorem Device.readCodewords_besideSram (d : Device) (cw n : Nat) : (d.readCodewords cw n).1.besideSram = d.besideSram := by
  induction n generalizing d cw with
  | zero => rfl
  | succ n ih => simp [Device.readCodewords, ih]

@[simp] theorem Device.copyPage_besideSram (d : Device) (p q : Nat) : (d.copyPage p q).besideSram = d.besideSram := by
  simp [Device.copyPage]

@[simp] theorem Device.copyAhead_besideSram (d : Device) (page n : Nat) : (d.copyAhead page n).besideSram = d.besideSram := by
  induction n generalizing d page with
  | zero => rfl
  | succ n ih => unfold Device.copyAhead; split <;> simp [ih]

@[simp] theorem Device.openPages_besideSram (d : Device) (page n : Nat) : (d.openPages page n).besideSram = d.besideSram := by
  induction n generalizing d page with
  | zero => rfl
  | succ n ih => simp [Device.openPages, ih]

@[simp] theorem Device.notify_besideSram (d : Device) (cw n : Nat) : (d.notify cw n).besideSram = d.besideSram := by simp [Device.notify]

@[simp] theorem Device.memWrite_besideSram (d : Device) (a : Nat) (bs : List Byte) : (d.memWrite a bs).1.besideSram = d.besideSram := by
  simp [Device.memWrite]

@[simp] theorem Device.dramRead_besideSram (d : Device) (a n : Nat) : (d.dramRead a n).1.besideSram = d.besideSram := by
  simp [Device.dramRead]

@[simp] theorem Device.sramStore_besideSram (d : Device) (c off : Nat) (bs : List Byte) :
    (d.sramStore c off bs).1.besideSram = d.besideSram := Device.modCore_besideSram d c fun _ => rfl

/-! ## Translation and writes by virtual address -/

@[simp] theorem Device.walkFrom_besideSram (d : Device) (p va table level n : Nat) :
    (d.walkFrom p va table level n).1.besideSram = d.besideSram := by
  fun_induction Device.walkFrom <;> simp +zetaDelta [*]

@[simp] theorem Device.walk_besideSram (d : Device) (p va : Nat) : (d.walk p va).1.besideSram = d.besideSram := by simp [Device.walk]

@[simp] theorem Device.translate_besideSram (d : Device) (p : Nat) (access : Access) (va : Nat) :
    (d.translate p access va).1.besideSram = d.besideSram := by
  unfold Device.translate; split <;> next e => simpa using Device.besideSram_of_fst e (d.walk_besideSram p va)

@[simp] theorem Device.physWrite_besideSram (d : Device) (pa : Nat) (bs : List Byte) : (d.physWrite pa bs).1.besideSram = d.besideSram := by
  unfold Device.physWrite; split <;> simp

@[simp] theorem Device.vwrite_besideSram (d : Device) (p : Nat) (spans : List (Nat × Nat)) (bs : List Byte) :
    (d.vwrite p spans bs).1.besideSram = d.besideSram := by
  fun_induction Device.vwrite <;> grind [Device.translate_besideSram, Device.physWrite_besideSram]

@[simp] theorem Device.writeVa_besideSram (d : Device) (p va : Nat) (bs : List Byte) : (d.writeVa p va bs).1.besideSram = d.besideSram := by
  simp [Device.writeVa]

@[simp] theorem Device.hostWrite_besideSram (d : Device) (a : Nat) (bs : List Byte) : (d.hostWrite a bs).besideSram = d.besideSram := by
  simp [Device.hostWrite]

/-! ## Completions of Zennus commands -/

@[simp] theorem Device.fireFn_besideSram (d : Device) (fn i : Nat) : (d.fireFn fn i).besideSram = d.besideSram := by
  unfold Device.fireFn; split <;> simp

@[simp] theorem Device.writeCompletion_besideSram (d : Device) (r : Ring) (part : Nat) (bs : List Byte) :
    (d.writeCompletion r part bs).besideSram = d.besideSram := by simp [Device.writeCompletion]

@[simp] theorem Device.countCompletion_besideSram (d : Device) (fn status : Nat) :
    (d.countCompletion fn status).besideSram = d.besideSram := by simp [Device.countCompletion]

@[simp] theorem Device.completeOne_besideSram (d : Device) (id status result : Nat) :
    (d.completeOne id status result).besideSram = d.besideSram := by
  fun_cases Device.completeOne <;> simp +zetaDelta

@[simp] theorem Device.complete_besideSram (d : Device) (id status result : Nat) : (d.complete id status result).besideSram = d.besideSram := by
  simp [Device.complete]

/-! ## Retirement of queue commands -/

@[simp] theorem Device.trace_besideSram (d : Device) (c q : Nat) (e : QEntry) (r : CmdResult) :
    (d.trace c q e r).besideSram = d.besideSram := by simp [Device.trace]

@[simp] theorem Device.cmdFault_besideSram (d : Device) (c q : Nat) (e : QEntry) (f : CmdFault) :
    (d.cmdFault c q e f).besideSram = d.besideSram := by simp [Device.cmdFault]

@[simp] theorem Device.cmdFaults_besideSram (d : Device) (c q : Nat) (e : QEntry) (r : CmdResult) :
    (d.cmdFaults c q e r).besideSram = d.besideSram := by simp [Device.cmdFaults]

@[simp] theorem Device.cmdCounts_besideSram (d : Device) (e : QEntry) (r : CmdResult) : (d.cmdCounts e r).besideSram = d.besideSram := by
  simp [Device.cmdCounts]

@[simp] theorem Device.noteRetire_besideSram (d : Device) (c q : Nat) (e : QEntry) : (d.noteRetire c q e).besideSram = d.besideSram := by
  unfold Device.noteRetire; split <;> simp

@[simp] theorem Device.settleEntry_besideSram (d : Device) (c q : Nat) (e : QEntry) (r : CmdResult) :
    (d.settleEntry c q e r).besideSram = d.besideSram := by simp [Device.settleEntry]

@[simp] theorem Device.answerOwner_besideSram (d : Device) (e : QEntry) (status : Nat) :
    (d.answerOwner e status).besideSram = d.besideSram := by
  unfold Device.answerOwner; split <;> simp

end Machine
end Sys2Proof
end

section
/-!
What the retirement of a command leaves of its core (R227, R228, R231).
-/
namespace Sys2Proof
namespace Machine

/-! ## The core after a retirement -/

/-- A core whose queue q has lost its front entry e, which has signalled its semaphore (R227, R231). -/
def Core.retired (k : Core) (q : Nat) (e : QEntry) : Core :=
  let k := k.setQueue q (k.queue q).tail
  if e.gate.sen then k.setSem e.gate.ssem (min 65535 (k.semVal e.gate.ssem + 1)) else k

theorem Core.besideSram_setQueue (k : Core) (q : Nat) (l : List QEntry) : (k.setQueue q l).besideSram = k.besideSram.setQueue q l := by
  unfold Core.setQueue
  split <;> rfl

theorem Core.queue_setQueue_apart {k : Core} {q q' : Nat} {l : List QEntry} (hq : q < 6) (hq' : q' < 6) (h : q' ≠ q) :
    (k.setQueue q l).queue q' = k.queue q' := by
  interval_cases q <;> interval_cases q' <;> simp [Core.setQueue, Core.queue] at h ⊢

section Retired
variable {k : Core} {q : Nat} {e : QEntry}

/-- What the signal does to the core whose queue has lost its front entry. -/
theorem Core.retired_shape : k.retired q e = { k.setQueue q (k.queue q).tail with sem := (k.retired q e).sem } := by
  unfold Core.retired
  split <;> rfl

theorem Core.queue_retired (j : Nat) : (k.retired q e).queue j = (k.setQueue q (k.queue q).tail).queue j := by
  unfold Core.retired
  split
  · exact Core.queue_setSem ..
  · rfl

theorem Core.semVal_setQueue (l : List QEntry) (n : Nat) : (k.setQueue q l).semVal n = k.semVal n := by
  rw [Core.semVal, Core.setQueue_sem, Core.semVal]

theorem Core.semVal_retired (h : k.Sound) (n : Nat) :
    (k.retired q e).semVal n = if e.gate.sen ∧ n = e.gate.ssem then min 65535 (k.semVal n + 1) else k.semVal n := by
  unfold Core.retired
  by_cases hsen : e.gate.sen = true
  · simp only [hsen, if_true, true_and, Core.semVal_setSem (Core.setQueue_sound h q _), Core.semVal_setQueue]
    split_ifs with hn
    · rw [hn]
    · rfl
  · simp [hsen, Core.semVal_setQueue]

theorem Core.queue_siphonBusy (k : Core) (busy : Option Nat) (j : Nat) : Core.queue { k with siphonBusy := busy } j = k.queue j := by
  unfold Core.queue
  split <;> rfl

theorem Core.besideSram_retired : (k.retired q e).besideSram = k.besideSram.retired q e := by
  have hdrop : (k.setQueue q (k.queue q).tail).besideSram = k.besideSram.setQueue q (k.besideSram.queue q).tail := by
    rw [Core.besideSram_setQueue, Core.queue_of_besideSram (k := k) (k' := k.besideSram) rfl]
  unfold Core.retired
  rw [← hdrop]
  split <;> rfl

end Retired

/-! ## The device after a retirement -/

theorem Device.core_retire {d : Device} (h : d.Sound) (c : CoreId) (q : Nat) (e : QEntry) (r : CmdResult) :
    ((d.retire c q e r).core c).besideSram = ((d.core c).retired q e).besideSram := by
  have hsettled : (d.settleEntry c q e r).Sound := Device.settleEntry_sound h
  have hdropped := Device.core_modCore (d.settleEntry c q e r) c c (fun k => k.setQueue q (k.queue q).tail) (hsettled.coreId_lt c)
  have hsignalled : (((d.settleEntry c q e r).dropFront c q).gateSignal c q e).core c = ((d.settleEntry c q e r).core c).retired q e := by
    unfold Device.gateSignal Core.retired
    split
    · rw [Device.core_semAdd, Device.core_modCore _ _ _ _ ((Device.dropFront_sound hsettled).coreId_lt c), if_pos rfl]
      exact congrArg (fun k : Core => k.setSem e.gate.ssem (min 65535 (k.semVal e.gate.ssem + 1))) (hdropped.trans (if_pos rfl))
    · exact hdropped.trans (if_pos rfl)
  calc ((d.retire c q e r).core c).besideSram
    _ = (((d.settleEntry c q e r).core c).retired q e).besideSram := by
        rw [Device.retire, Device.core_besideSram (Device.answerOwner_besideSram ..), hsignalled]
    _ = ((d.core c).retired q e).besideSram := by
        rw [Core.besideSram_retired, Device.core_besideSram (Device.settleEntry_besideSram ..), Core.besideSram_retired]

/-- Beside local SRAM and the siphon, a core that retires the front of a queue is the core so retired. -/
theorem Device.core_engineRetire {d : Device} (h : d.Sound) (c : CoreId) {q : Nat} {e : QEntry} {r : CmdResult}
    (hfront : d.front c q = some e) (hresult : e.result = some r)
    (hplace : ¬(q = 3 ∧ (d.core c).engineIdle 0 = false ∨ q = 4 ∧ (d.core c).engineIdle 1 = false)) :
    ∃ busy, ((d.engineRetire c q).core c).besideSram =
      Core.besideSram { (d.core c).retired q e with siphonBusy := busy } := by
  have hretired := Device.core_retire h c q e r
  rw [Device.engineRetire_of_done hfront hresult hplace]
  split
  · refine ⟨none, ?_⟩
    rw [Device.core_modCore _ _ _ _ ((Device.retire_sound h).coreId_lt c), if_pos rfl]
    exact congrArg (fun k : Core => { k with siphonBusy := none }) hretired
  · exact ⟨_, hretired⟩

/-- Settles O17, for the row ENGINE_COMMAND_RETIRE; the rows that end sync commands retire them through the same `Device.retire`. -/
theorem retirementSignals : Obligations.RetirementSignals := by
  intro s c q e r hsound d k hfront hresult hplace hplace'
  have hrow : s.Does (.engineCommandRetire c q) (d.engineRetire c q) := rfl
  obtain ⟨busy, hcore⟩ := Device.core_engineRetire hsound c hfront hresult (by
    rintro (⟨hq, hbusy⟩ | ⟨hq, hbusy⟩)
    · exact Bool.false_ne_true (hbusy.symm.trans (hplace hq))
    · exact Bool.false_ne_true (hbusy.symm.trans (hplace' hq)))
  have hqueue : ∀ j, ((d.engineRetire c q).core c).queue j = (k.setQueue q (k.queue q).tail).queue j := fun j =>
    (Core.queue_of_besideSram hcore j).trans ((Core.queue_siphonBusy _ _ _).trans (Core.queue_retired j))
  refine ⟨d.engineRetire c q, hrow, (hqueue q).trans (Core.queue_setQueue ..),
    fun q' _ hne => (hqueue q').trans (Core.queue_setQueue_apart q.isLt q'.isLt (Fin.val_ne_of_ne hne)), fun n => ?_, ?_, ?_, ?_⟩
  · exact (congrArg (fun k : Core => k.semVal n) hcore).trans (Core.semVal_retired (Device.core_sound hsound c) n)
  · exact (congrArg Core.sreg hcore).trans ((congrArg Core.sreg Core.retired_shape).trans (Core.setQueue_sreg ..))
  · exact (congrArg Core.vreg hcore).trans ((congrArg Core.vreg Core.retired_shape).trans (Core.setQueue_vreg ..))
  · exact (congrArg Core.scratch hcore).trans ((congrArg Core.scratch Core.retired_shape).trans (Core.setQueue_scratch ..))

end Machine
end Sys2Proof
end

section
/-!
The sluice of a partition on its cores (R246, R353), and the end of the drain (R349, R354).
-/
namespace Sys2Proof
namespace Machine

/-! ## Changes that one core alone shows -/

/-- From d to e the cores other than c change in their local SRAM at most. -/
structure Device.ChangesCore (c : Nat) (d e : Device) : Prop where
  length : e.cores.length = d.cores.length
  others : ∀ j, j ≠ c → (e.core j).besideSram = (d.core j).besideSram

theorem Device.ChangesCore.of_besideSram {c : Nat} {d e : Device} (h : e.besideSram = d.besideSram) : Device.ChangesCore c d e :=
  ⟨by simpa [Device.besideSram] using congrArg List.length h, fun j _ => Device.core_besideSram h j⟩

theorem Device.ChangesCore.trans {c : Nat} {d e f : Device} (h : Device.ChangesCore c d e) (h' : Device.ChangesCore c e f) :
    Device.ChangesCore c d f :=
  ⟨h'.length.trans h.length, fun j hj => (h'.others j hj).trans (h.others j hj)⟩

theorem Device.ChangesCore.modCore (d : Device) (c : Nat) (f : Core → Core) : Device.ChangesCore c d (d.modCore c f) :=
  ⟨List.length_set, fun _ hj => congrArg Core.besideSram (Device.core_modCore_ne d f hj)⟩

/-! ## What a sluice keeps of a core's program -/

/-- Whether the core runs, its scalar registers and its scratch memory. -/
def Core.program (k : Core) : RunState × Cells DWord × Cells Byte := (k.run, k.sreg, k.scratch)

theorem Core.program_of_besideSram {k k' : Core} (h : k'.besideSram = k.besideSram) : k'.program = k.program :=
  (congrArg Core.program h :)

theorem Device.program_of_besideSram {d e : Device} (h : e.besideSram = d.besideSram) (c : Nat) : (e.core c).program = (d.core c).program :=
  Core.program_of_besideSram (Device.core_besideSram h c)

theorem Core.atBoundary_program (k : Core) (lock : Bool) : (k.atBoundary lock).program = k.program := by
  unfold Core.atBoundary
  rw [Core.foldl_writeImem_shape]
  rfl

theorem Device.boundary_besideSram (d : Device) (c : Nat) :
    (d.boundary c).besideSram = (d.setCore c ((d.core c).atBoundary (d.flag (Reg.CORE_CTL c) 7))).besideSram := by
  rw [Device.boundary_eq]
  refine Device.foldl_besideSram (fun d h => ?_) _ _
  cases h.owner with
  | none => rfl
  | some id => exact Device.complete_besideSram ..

theorem Device.boundary_changes (d : Device) (c : Nat) : Device.ChangesCore c d (d.boundary c) :=
  (Device.ChangesCore.modCore d c fun k => k.atBoundary (d.flag (Reg.CORE_CTL c) 7)).trans (.of_besideSram (d.boundary_besideSram c))

theorem Device.boundary_program {d : Device} {c : Nat} (hc : c < d.cores.length) : ((d.boundary c).core c).program = (d.core c).program := by
  rw [Device.program_of_besideSram (d.boundary_besideSram c), Device.core_setCore _ _ _ _ hc, if_pos rfl, Core.atBoundary_program]

/-! ## Cancelled queues (R246) -/

/-- The records, counts and answers of the cancelled commands of a queue, and the table loads they drop. -/
def Device.cancelEntries (d : Device) (c q : Nat) : Device :=
  let l := (d.core c).queue q
  let d := l.foldl (fun d e => d.cancelEntry c q e) d
  if q = 3 ∨ q = 4 then l.foldl (fun d e => d.dropLoad c e) d else d

/-- A core whose queue q has been emptied, its requests withdrawn and its siphon released. -/
def Core.cancelled (q : Nat) (k : Core) : Core :=
  let k := k.setQueue q []
  let k := if q = 3 then k.withdraw 0 else if q = 4 then k.withdraw 1 else k
  if q ≤ 1 then { k with siphonBusy := if k.siphonBusy = some q then none else k.siphonBusy } else k

theorem Device.cancelQueue_eq (d : Device) (c q : Nat) : d.cancelQueue c q = (d.cancelEntries c q).modCore c (Core.cancelled q) := rfl

@[simp] theorem Device.cancelEntry_besideSram (d : Device) (c q : Nat) (e : QEntry) : (d.cancelEntry c q e).besideSram = d.besideSram := by
  simp [Device.cancelEntry]

@[simp] theorem Device.dropLoad_besideSram (d : Device) (c : Nat) (e : QEntry) : (d.dropLoad c e).besideSram = d.besideSram := by
  unfold Device.dropLoad
  split <;> simp

theorem Device.cancelEntries_besideSram (d : Device) (c q : Nat) : (d.cancelEntries c q).besideSram = d.besideSram := by
  simp [Device.cancelEntries]

theorem Core.cancelled_shape (q : Nat) (k : Core) : k.cancelled q =
    { k.setQueue q [] with siphonBusy := (k.cancelled q).siphonBusy, slots := (k.cancelled q).slots, toIssue := (k.cancelled q).toIssue } := by
  unfold Core.cancelled
  split_ifs <;> rfl

theorem Core.cancelled_program (q : Nat) (k : Core) : (k.cancelled q).program = k.program := by
  rw [Core.cancelled_shape, Core.program, Core.program, Core.setQueue_run, Core.setQueue_sreg, Core.setQueue_scratch]

theorem Core.queue_cancelled (k : Core) {q j : Nat} (hq : q < 6) (hj : j < 6) :
    (k.cancelled q).queue j = if j = q then [] else k.queue j := by
  have hqueue : (k.cancelled q).queue j = (k.setQueue q []).queue j := by
    rw [Core.cancelled_shape]
    unfold Core.queue
    split <;> rfl
  rw [hqueue]
  split
  case isTrue h => rw [h, Core.queue_setQueue]
  case isFalse h => exact Core.queue_setQueue_apart hq hj h

theorem Device.cancelQueue_changes (d : Device) (c q : Nat) : Device.ChangesCore c d (d.cancelQueue c q) :=
  (Device.ChangesCore.of_besideSram (d.cancelEntries_besideSram c q)).trans (.modCore (d.cancelEntries c q) c (Core.cancelled q))

theorem Device.core_cancelQueue {d : Device} {c : Nat} (hc : c < d.cores.length) (q : Nat) :
    (d.cancelQueue c q).core c = ((d.cancelEntries c q).core c).cancelled q := by
  have hc' : c < (d.cancelEntries c q).cores.length :=
    ((Device.ChangesCore.of_besideSram (c := c) (d.cancelEntries_besideSram c q)).length).symm ▸ hc
  rw [Device.cancelQueue_eq, Device.core_modCore _ _ _ _ hc', if_pos rfl]

/-- Cancelling queues one after another empties them and keeps the others, and what is the program's. -/
theorem Device.cancelQueues (c : Nat) : ∀ (l : List Nat) {d : Device}, c < d.cores.length → (∀ q ∈ l, q < 6) →
    let e := l.foldl (fun d q => d.cancelQueue c q) d
    Device.ChangesCore c d e ∧ (e.core c).program = (d.core c).program ∧
      ∀ j, j < 6 → (e.core c).queue j = if j ∈ l then [] else (d.core c).queue j
  | [], d, _, _ => ⟨.of_besideSram rfl, rfl, fun _ _ => rfl⟩
  | q :: l, d, hc, hl => by
    obtain ⟨hq, hrest⟩ := List.forall_mem_cons.1 hl
    have hchange := d.cancelQueue_changes c q
    have hbeside := Device.core_besideSram (d.cancelEntries_besideSram c q) c
    obtain ⟨hchanges, hprogram, hqueues⟩ := Device.cancelQueues c l (hchange.length.symm ▸ hc) hrest
    refine ⟨hchange.trans hchanges, hprogram.trans ?_, fun j hj => (hqueues j hj).trans ?_⟩
    · rw [Device.core_cancelQueue hc, Core.cancelled_program, Core.program_of_besideSram hbeside]
    · rw [Device.core_cancelQueue hc, Core.queue_cancelled _ hq hj, Core.queue_of_besideSram hbeside]
      by_cases hjq : j = q <;> simp [hjq]

/-! ## The sluice on a core (R246, R353) -/

/-- k' is k stopped, its queues emptied, its registers and scratch memory kept. -/
structure Core.Sluiced (k k' : Core) : Prop where
  queues : ∀ q, k'.queue q = []
  stopped : k'.run ≠ .running
  kept : k'.program.2 = k.program.2

/-- The core that runs becomes IDLE at a boundary. -/
def Device.stopCore (d : Device) (c : Nat) : Device :=
  if (d.core c).run = .running then (d.modCore c (fun k => { k with run := .idle })).boundary c else d

@[simp] theorem Device.leaveBarriers_besideSram (d : Device) (c : Nat) : (d.leaveBarriers c).besideSram = d.besideSram := by rfl

theorem Device.coreSluice_besideSram (d : Device) (p c : Nat) :
    (d.coreSluice p c).besideSram = ((List.range 6).foldl (fun d q => d.cancelQueue c q) (d.stopCore c)).besideSram := by
  simp only [Device.coreSluice, Device.bump_besideSram, Device.leaveBarriers_besideSram, Device.stopCore]

theorem Device.stopCore_changes (d : Device) (c : Nat) : Device.ChangesCore c d (d.stopCore c) := by
  unfold Device.stopCore
  split
  · exact (Device.ChangesCore.modCore d c _).trans (Device.boundary_changes _ c)
  · exact .of_besideSram rfl

theorem Device.stopCore_program {d : Device} {c : Nat} (hc : c < d.cores.length) :
    ((d.stopCore c).core c).run ≠ .running ∧ ((d.stopCore c).core c).program.2 = (d.core c).program.2 := by
  unfold Device.stopCore
  split
  case isTrue hrun =>
    have hlt : c < (d.modCore c fun k => { k with run := .idle }).cores.length := by simpa [Device.modCore, Device.setCore] using hc
    have hprogram := Device.boundary_program hlt
    rw [Device.core_modCore _ _ _ _ hc, if_pos rfl] at hprogram
    exact ⟨fun h => RunState.noConfusion (h.symm.trans (congrArg Prod.fst hprogram)), (congrArg Prod.snd hprogram :)⟩
  case isFalse hrun => exact ⟨hrun, rfl⟩

theorem Device.coreSluice_changes {d : Device} {p c : Nat} (hc : c < d.cores.length) : Device.ChangesCore c d (d.coreSluice p c) := by
  have hstop := d.stopCore_changes c
  obtain ⟨hcancel, -⟩ := Device.cancelQueues c (List.range 6) (hstop.length.symm ▸ hc) fun q hq => List.mem_range.1 hq
  exact (hstop.trans hcancel).trans (.of_besideSram (d.coreSluice_besideSram p c))

theorem Core.queue_nil_of_lt {k : Core} (h : ∀ q, q < 6 → k.queue q = []) (q : Nat) : k.queue q = [] := by
  by_cases hq : q < 6
  · exact h q hq
  · have hlast : k.queue q = k.queue 5 := by
      obtain ⟨n, rfl⟩ := Nat.exists_eq_add_of_le' (Nat.le_of_not_lt hq)
      rfl
    rw [hlast, h 5 (by decide)]

theorem Device.coreSluice_sluices {d : Device} {p c : Nat} (hc : c < d.cores.length) :
    Core.Sluiced (d.core c) ((d.coreSluice p c).core c) := by
  have hstop := d.stopCore_changes c
  obtain ⟨hrun, hkept⟩ := Device.stopCore_program hc
  obtain ⟨-, hprogram, hqueues⟩ := Device.cancelQueues c (List.range 6) (hstop.length.symm ▸ hc) fun q hq => List.mem_range.1 hq
  have hbeside := Device.core_besideSram (d.coreSluice_besideSram p c) c
  have hsame := (Core.program_of_besideSram hbeside).trans hprogram
  refine ⟨Core.queue_nil_of_lt fun q hq => ?_, fun h => hrun ((congrArg Prod.fst hsame).symm.trans h),
    (congrArg Prod.snd hsame).trans hkept⟩
  rw [Core.queue_of_besideSram hbeside, hqueues q hq, if_pos (List.mem_range.2 hq)]

theorem Core.Sluiced.congr {k k' l l' : Core} (h : Core.Sluiced k k') (hbefore : k.program.2 = l.program.2)
    (hafter : l'.besideSram = k'.besideSram) : Core.Sluiced l l' where
  queues q := (Core.queue_of_besideSram hafter q).trans (h.queues q)
  stopped hrun := h.stopped ((congrArg Prod.fst (Core.program_of_besideSram hafter)).symm.trans hrun)
  kept := (congrArg Prod.snd (Core.program_of_besideSram hafter)).trans (h.kept.trans hbefore)

/-- The sluice takes the cores of a partition one after another, and none disturbs another. -/
theorem Device.coresSluice (p : Nat) : ∀ {l : List Nat} {d : Device}, (∀ c ∈ l, c < d.cores.length) →
    let e := l.foldl (fun d c => d.coreSluice p c) d
    (∀ c ∉ l, (e.core c).besideSram = (d.core c).besideSram) ∧ ∀ c ∈ l, Core.Sluiced (d.core c) (e.core c)
  | [], _, _ => ⟨fun _ _ => rfl, fun c hc => absurd hc List.not_mem_nil⟩
  | c :: l, d, hlt => by
    obtain ⟨hc, hl⟩ := List.forall_mem_cons.1 hlt
    have hchanges : Device.ChangesCore c d (d.coreSluice p c) := Device.coreSluice_changes hc
    obtain ⟨hout, hin⟩ := Device.coresSluice p (l := l) (d := d.coreSluice p c) fun j hj => hchanges.length.symm ▸ hl j hj
    refine ⟨fun j hj => ?_, fun j hj => ?_⟩
    · exact (hout j (List.not_mem_of_not_mem_cons hj)).trans (hchanges.others j (List.ne_of_not_mem_cons hj))
    · by_cases hjl : j ∈ l
      · refine (hin j hjl).congr ?_ rfl
        by_cases hjc : j = c
        · subst hjc
          exact (Device.coreSluice_sluices hc).kept
        · exact congrArg Prod.snd (Core.program_of_besideSram (hchanges.others j hjc))
      · obtain rfl : j = c := (List.mem_cons.1 hj).resolve_right hjl
        exact (Device.coreSluice_sluices hc).congr rfl (hout j hjl)

end Machine
end Sys2Proof
end

section
/-!
The end of a drain (R246, R349, R354), and O37.
-/
namespace Sys2Proof
namespace Machine

/-! ## The end of a drain, step by step -/

/-- The semaphores of the partition's cores cleared (R246). -/
def Device.clearSems (d : Device) (p : Nat) : Device := (d.coresOf p).foldl (fun d c => d.modCore c (fun k => { k with sem := [] })) d

/-- The partition is drained (R354). -/
def Device.markDrained (d : Device) (p : Nat) : Device :=
  (d.setStroke p { d.stroke p with draining := none }).setFlag (Reg.STK_STATUS p) 28 true

/-- A drain longer than any before it is noted, and fires (R354). -/
def Device.noteDrain (d : Device) (p ns : Nat) : Device :=
  if ns > (d.reg (Reg.STK_DRAIN_MAX p)).toNat then (d.setReg (Reg.STK_DRAIN_MAX p) (BitVec.ofNat 32 ns)).firePart p 1 else d

/-- A schedule that was STOPPING becomes FREE (R349). -/
def Device.freeStopping (d : Device) (p : Nat) : Device := if d.stkState p = 3 then d.setStk p 0 else d

theorem Device.drainComplete_of_empty {d : Device} {p t : Nat} (hdrain : (d.stroke p).draining = some t) (hempty : d.partEmpty p = true) :
    d.drainComplete p =
      (((d.clearSems p).markDrained p).noteDrain p (min 0xFFFFFFFF (ceilDiv (((d.clearSems p).markDrained p).now - t) nsUnit))).freeStopping p := by
  unfold Device.drainComplete
  rw [hdrain]
  exact if_neg (by simp [hempty])

theorem Device.drainComplete_of_busy {d : Device} {p t : Nat} (hdrain : (d.stroke p).draining = some t) (hbusy : d.partEmpty p = false) :
    d.drainComplete p = d := by
  unfold Device.drainComplete
  rw [hdrain]
  exact if_pos (by simp [hbusy])

theorem Device.clearSems_shape (d : Device) (p : Nat) : d.clearSems p = { d with cores := (d.clearSems p).cores } :=
  Device.foldl_modCore_shape _ _ d

theorem Device.clearSems_sound {d : Device} (h : d.Sound) (p : Nat) : (d.clearSems p).Sound :=
  Device.foldl_sound (fun _ _ h => Device.modCore_sound h _ (fun _ hk => Core.clearSem_sound hk)) _ h

theorem Device.core_clearSems {d : Device} (h : d.Sound) (p j : Nat) :
    (d.clearSems p).core j = if j ∈ d.coresOf p then { d.core j with sem := [] } else d.core j := by
  refine Device.core_foldl_modCore _ j (List.nodup_range.filter _) fun c hc => ?_
  rw [h.cores]
  exact List.mem_range.1 (List.mem_of_mem_filter hc)

section Drain
variable {d : Device} (p : Nat)

/-! What each step leaves of the cores and of the schedule beside its registers. -/

@[simp] theorem Device.markDrained_cores : (d.markDrained p).cores = d.cores := by
  rw [Device.markDrained, Device.setFlag_cores]
  rfl

theorem Device.now_markDrained : (d.markDrained p).now = d.now := by
  rw [Device.markDrained, Device.setFlag_now]
  rfl

theorem Device.stroke_markDrained : (d.markDrained p).stroke p = { d.stroke p with draining := none } := by
  rw [Device.markDrained, Device.stroke, Device.setFlag_strokes]
  exact Device.stroke_setStroke_same ..

@[simp] theorem Device.noteDrain_cores (ns : Nat) : (d.noteDrain p ns).cores = d.cores := by
  unfold Device.noteDrain
  split <;> simp

theorem Device.stroke_noteDrain (ns j : Nat) : (d.noteDrain p ns).stroke j = d.stroke j := by
  unfold Device.noteDrain
  split
  · rw [Device.stroke, Device.firePart_strokes]
    rfl
  · rfl

@[simp] theorem Device.setStk_cores (v : Nat) : (d.setStk p v).cores = d.cores := by
  by_cases hv : d.stkState p = v
  · rw [Device.setStk_same hv]
  · rw [Device.setStk_moves hv, Device.firePart_cores]
    unfold Device.writeStk
    split <;> simp

@[simp] theorem Device.freeStopping_cores : (d.freeStopping p).cores = d.cores := by
  unfold Device.freeStopping
  split <;> simp

theorem Device.stroke_freeStopping (j : Nat) : (d.freeStopping p).stroke j = d.stroke j := by
  unfold Device.freeStopping
  split
  · exact Device.stroke_setStk ..
  · rfl

/-! What each step leaves of the registers of the schedule. -/

variable (h : d.Sound)
include h

theorem Device.markDrained_sound : (d.markDrained p).Sound := Device.setFlag_sound (Device.setStroke_sound h) _ _ _

theorem Device.flag_markDrained : (d.markDrained p).flag (Reg.STK_STATUS p) 28 = true :=
  Device.flag_setFlag_same (Device.setStroke_sound h) _ (by decide) _

theorem Device.stkState_markDrained : (d.markDrained p).stkState p = d.stkState p :=
  Device.fld_setFlag_apart (Device.setStroke_sound h) _ (by decide) _ (by decide)

theorem Device.drainMax_markDrained : (d.markDrained p).reg (Reg.STK_DRAIN_MAX p) = d.reg (Reg.STK_DRAIN_MAX p) :=
  Device.reg_setFlag_ne (Device.setStroke_sound h) _ _ (by simp [Reg.STK_DRAIN_MAX, Reg.STK_STATUS])

theorem Device.noteDrain_sound (ns : Nat) : (d.noteDrain p ns).Sound :=
  Device.ite_sound (Device.firePart_sound (Device.setReg_sound h _ _)) h

theorem Device.status_noteDrain (ns : Nat) : (d.noteDrain p ns).reg (Reg.STK_STATUS p) = d.reg (Reg.STK_STATUS p) := by
  unfold Device.noteDrain
  split
  · rw [Device.reg_firePart_stk (p := p) (j := 1) (k := Reg.STK_STATUS p) (Device.setReg_sound h _ _) (by decide) (Nat.le_add_right ..),
      Device.reg_setReg _ (Cells.wf_rising h.wfRegs), if_neg (by simp [Reg.STK_DRAIN_MAX, Reg.STK_STATUS])]
  · rfl

theorem Device.drainMax_noteDrain {ns : Nat} (hns : ns < 2 ^ 32) :
    ((d.noteDrain p ns).reg (Reg.STK_DRAIN_MAX p)).toNat = max ns (d.reg (Reg.STK_DRAIN_MAX p)).toNat := by
  unfold Device.noteDrain
  split
  case isTrue hmore =>
    rw [Device.reg_firePart_stk (p := p) (j := 1) (k := Reg.STK_DRAIN_MAX p) (Device.setReg_sound h _ _) (by decide) (Nat.le_add_right ..),
      Device.reg_setReg _ (Cells.wf_rising h.wfRegs), if_pos rfl, BitVec.toNat_ofNat, Nat.mod_eq_of_lt hns, Nat.max_eq_left (Nat.le_of_lt hmore)]
  case isFalse hless => rw [Nat.max_eq_right (Nat.le_of_not_lt hless)]

theorem Device.drained_freeStopping : (d.freeStopping p).flag (Reg.STK_STATUS p) 28 = d.flag (Reg.STK_STATUS p) 28 := by
  unfold Device.freeStopping
  split
  case isTrue hstop =>
    have hfired := Device.reg_firePart_stk (p := p) (j := 2) (k := Reg.STK_STATUS p) (Device.writeStk_sound h p 0) (by decide)
      (Nat.le_add_right ..)
    rw [Device.setStk_moves (by simp [hstop]), Device.flag_congr hfired,
      Device.flag_congr (Device.reg_writeStk h p 0 (by simp [Reg.STK_STATUS, Reg.STK_CTL])),
      Device.flag_setFld_apart h _ (by decide) (by decide) _ (by decide)]
  case isFalse => rfl

theorem Device.drainMax_freeStopping : (d.freeStopping p).reg (Reg.STK_DRAIN_MAX p) = d.reg (Reg.STK_DRAIN_MAX p) := by
  unfold Device.freeStopping
  split
  · exact Device.reg_setStk_ne h p 0 (Nat.le_add_right ..) (by simp [Reg.STK_DRAIN_MAX, Reg.STK_CTL])
      (by simp [Reg.STK_DRAIN_MAX, Reg.STK_STATUS])
  · rfl

theorem Device.stkState_freeStopping : (d.freeStopping p).stkState p = if d.stkState p = 3 then 0 else d.stkState p := by
  unfold Device.freeStopping
  split
  · exact Device.stkState_setStk h p (by decide)
  · rfl

end Drain

/-- Settles O37: the drain's length is rounded up to whole nanoseconds (log row 62), and the row of the sluice moves device time to its
moment (log row 8). -/
theorem sluicesCancelAndDrainsClear : Obligations.SluicesCancelAndDrainsClear := by
  refine ⟨fun s p hsound hstate hopen => ?sluice, fun s p t hsound hdrain => ?drain⟩
  case sluice =>
    intro d k t d1 d2
    have hrow : s.Does (.sluice p) (d.sluice p) := rfl
    refine ⟨hrow.of_eq (if_pos ⟨hstate, congrArg Bool.not hopen⟩), fun c hc => ?_⟩
    obtain ⟨-, hin⟩ := Device.coresSluice p (l := d1.coresOf p) (d := d1) fun c hc =>
      hsound.coreId_lt ⟨c, List.mem_range.1 (List.mem_of_mem_filter hc)⟩
    obtain ⟨hqueues, hstopped, hkept⟩ := hin c hc
    exact ⟨hqueues, hstopped, congrArg Prod.fst hkept, congrArg Prod.snd hkept⟩
  case drain =>
    intro d
    have hrow : s.Does (.drainComplete p) (d.drainComplete p) := rfl
    refine ⟨fun hbusy => hrow.of_eq (Device.drainComplete_of_busy hdrain hbusy), fun hempty => ⟨_, hrow, ?_⟩⟩
    rw [Device.drainComplete_of_empty hdrain hempty]
    have hclear := Device.clearSems_sound hsound p
    have hmark := Device.markDrained_sound p hclear
    generalize hns : min 0xFFFFFFFF (ceilDiv (((d.clearSems p).markDrained p).now - t) nsUnit) = ns
    have hnote := Device.noteDrain_sound p hmark ns
    have hregs : ∀ k, (d.clearSems p).reg k = d.reg k := fun k => congrArg (fun d => d.reg k) (d.clearSems_shape p)
    have hcores : ∀ c, ((((d.clearSems p).markDrained p).noteDrain p ns).freeStopping p).core c = (d.clearSems p).core c :=
      fun c => congrArg (fun cores : List Core => cores.getD c Core.reset) (by simp)
    refine ⟨?_, ?_, fun c n hc => ?_, fun c hc => ?_, ?_, ?_⟩
    · rw [Device.drained_freeStopping p hnote, Device.flag_congr (Device.status_noteDrain p hmark ns), Device.flag_markDrained p hclear]
    · rw [Device.stroke_freeStopping, Device.stroke_noteDrain, Device.stroke_markDrained]
    · rw [hcores, Device.core_clearSems hsound, if_pos hc]
      rfl
    · rw [hcores, Device.core_clearSems hsound, if_neg hc]
    · have hstate : (((d.clearSems p).markDrained p).noteDrain p ns).stkState p = d.stkState p :=
        ((Device.fld_congr (Device.status_noteDrain p hmark ns) 31 30).trans (Device.stkState_markDrained p hclear)).trans
          (Device.fld_congr (hregs _) 31 30)
      rw [Device.stkState_freeStopping p hnote, hstate]
    · intro ns'
      have hsame : ns = ns' := by
        rw [← hns, Device.now_markDrained, Device.clearSems_shape]
      rw [Device.drainMax_freeStopping p hnote, Device.drainMax_noteDrain p hmark (by omega), Device.drainMax_markDrained p hclear, hregs, hsame]

end Machine
end Sys2Proof
end

section
/-!
Control-core faults (R217): what CORE_FAULT reads after the boundary of the halt, with and without a held instruction-memory write.
-/
namespace Sys2Proof
namespace Machine

/-! ## A fault with no write held -/

theorem Device.partOf_lt {d : Device} {c p : Nat} (h : d.partOf c = some p) : p < 16 :=
  List.mem_range.1 (List.mem_of_find?_eq_some (p := fun p => (d.clustersOf p).toNat.testBit (c / 8)) h)

/-- The registers of the cores lie above those of the event block (R495). -/
theorem Device.reg_fireCore_core {d : Device} (h : d.Sound) {c k : Nat} (hk : 0x1000000 ≤ k) : (d.fireCore c).reg k = d.reg k := by
  unfold Device.fireCore
  split
  case h_1 p hp =>
    have hlt := Device.partOf_lt hp
    exact Device.reg_fire_ne h (by simp only [Reg.EVT_SRC, Reg.EVT]; omega) (by simp only [Reg.EVT_COALESCED, Reg.EVT]; omega)
  case h_2 => rfl

/-- A boundary with no write held changes no register. -/
theorem Device.reg_boundary_of_none {d : Device} {c : Nat} (h : (d.core c).held = []) (k : Nat) : (d.boundary c).reg k = d.reg k := by
  rw [Device.boundary_eq, h]
  rfl

/-- The device of a control-core fault before its boundary: recorded, CORE_FAULT set, the core HALTED (R217). -/
def Device.faultHalted (d : Device) (c status akind addr : Nat) : Device :=
  ((d.coreRecord c status akind addr).setReg (Reg.CORE_FAULT c)
    (BitVec.ofNat 32 (0x80000000 + ((d.core c).pc % 0x2000) * 0x10000 + status))).modCore c fun k => { k with run := .halted, faulted := true }

theorem Device.ctlFault_eq (d : Device) (c status akind addr : Nat) :
    d.ctlFault c status akind addr = ((d.faultHalted c status akind addr).boundary c).fireCore c := rfl

theorem Device.faultHalted_sound {d : Device} (h : d.Sound) (c status akind addr : Nat) : (d.faultHalted c status akind addr).Sound :=
  Device.modCore_sound (Device.setReg_sound (Device.coreRecord_sound h) _ _) c fun _ hk => Core.Sound.upd hk

theorem Device.core_faultHalted {d : Device} (h : d.Sound) (c : CoreId) (status akind addr : Nat) :
    (d.faultHalted c status akind addr).core c = { d.core c with run := .halted, faulted := true } := by
  have hsound := Device.setReg_sound (Device.coreRecord_sound (c := c) (status := status) (akind := akind) (addr := addr) h) (Reg.CORE_FAULT c)
    (BitVec.ofNat 32 (0x80000000 + ((d.core c).pc % 0x2000) * 0x10000 + status))
  have hcores : (d.coreRecord c status akind addr).core c = d.core c := Device.core_raise ..
  rw [Device.faultHalted, Device.core_modCore _ _ _ _ (hsound.coreId_lt c), if_pos rfl]
  exact congrArg (fun k : Core => { k with run := .halted, faulted := true }) hcores

theorem Device.reg_ctlFault_of_none {d : Device} (h : d.Sound) (c : CoreId) (status akind addr : Nat) (hheld : (d.core c).held = []) :
    (d.ctlFault c status akind addr).reg (Reg.CORE_FAULT c) =
      BitVec.ofNat 32 (0x80000000 + ((d.core c).pc % 0x2000) * 0x10000 + status) := by
  have hhalted := Device.faultHalted_sound h c status akind addr
  have hnone : ((d.faultHalted c status akind addr).core c).held = [] := by
    rw [Device.core_faultHalted h]
    exact hheld
  rw [Device.ctlFault_eq, Device.reg_fireCore_core (Device.boundary_sound hhalted) (by simp only [Reg.CORE_FAULT, Reg.CORE]; omega),
    Device.reg_boundary_of_none hnone]
  exact (Device.reg_setReg _ (Cells.wf_rising (Device.coreRecord_sound h).wfRegs) _ _ _).trans (if_pos rfl)

/-- A core of a sound device that fetches an uncorrectable word while no write is held faults with ST_UNCORRECTABLE in CORE_FAULT (R209). -/
theorem Device.status_illegalOp_of_badWord {d : Device} (h : d.Sound) (c : CoreId) (hrun : (d.core c).run = .running)
    (hwait : (d.core c).semWait = none) (hpc : (d.core c).pc < 8192) (hheld : (d.core c).held = [])
    (hbad : (d.core c).imemBad.contains ((8192 * (d.core c).bank + (d.core c).pc) / 2) = true) :
    (d.illegalOp c).fld (Reg.CORE_FAULT c) 15 0 = 0x0021 := by
  have hfault : ∀ e : Device, e.Sound → e.core c = d.core c → (e.pcFault c St.UNCORRECTABLE).fld (Reg.CORE_FAULT c) 15 0 = 0x0021 :=
    fun e he hcore => by
      have hreg := Device.reg_ctlFault_of_none he c St.UNCORRECTABLE 5 (e.core c).pc (hcore ▸ hheld)
      rw [Device.pcFault, Device.fld, hreg, BitVec.toNat_ofNat, bits_mod_two_pow _ (by decide), bits, Nat.shiftRight_zero, St.UNCORRECTABLE]
      omega
  have hcounted := Device.bump16_sound h (Reg.CORE_SRAM_ECC c) true 1
  have hcore : (d.bump16 (Reg.CORE_SRAM_ECC c) true 1).core c = d.core c :=
    congrArg (fun cores : List Core => cores.getD c Core.reset) (Device.bump16_cores ..)
  have hready : ((d.core c).run = .running && (d.core c).semWait.isNone) = true := by simp [hrun, hwait]
  rw [Device.illegalOp]
  simp only [hready, if_true, if_neg (Nat.not_le.2 hpc), hbad]
  split
  · exact hfault _ (Device.Sound.upd (e := d.bump16 (Reg.CORE_SRAM_ECC c) true 1) hcounted) (by simpa only [Device.core] using hcore)
  · exact hfault _ hcounted hcore

/-! ## A fault with a write held -/

/-- A physical address in a hole of the map, whose count of corrected errors the model keeps at the offset of CORE_FAULT of core 0. -/
def holeAtFault : Nat := 2044 * 0x1800000000 + 0x10000

/-- A module whose partition 0 has its page-table root in that hole, with a corrected error waiting in its first codeword. -/
def Device.rootInHole : Device :=
  { (({} : Device).setReg (Reg.HUB_PT_ROOT_LO 0) (BitVec.ofNat 32 (holeAtFault + 1))).setReg (Reg.HUB_PT_ROOT_HI 0)
      (BitVec.ofNat 32 (holeAtFault / 2 ^ 32)) with
    symErr := [(holeAtFault / 64, 1)] }

/-- There core 0 is RUNNING on an uncorrectable word, and holds an instruction-memory write of a command whose completion ring lies in device
memory. -/
def Device.badWordAndHeldWrite : Device :=
  { Device.rootInHole.setCore 0
      { run := .running, imemBad := [0], held := [{ bank := 0, index := 0, words := [], owner := some 0 }] } with
    zn := { rings := [(0, { fn := 0, loc := 0, sqBase := 0, cqBase := 0, log2 := 4, cqDev := true })]
            cmds := [(0, { fn := 0, ring := 0, opcode := 0 })] } }

theorem Device.badWordAndHeldWrite_sound : Device.badWordAndHeldWrite.Sound := by
  have hroot : Device.rootInHole.Sound := (Device.setReg_sound (Device.setReg_sound Device.default_sound _ _) _ _).upd
  exact (Device.setCore_sound hroot 0 (Core.Sound.upd Core.reset_sound)).upd

theorem Device.status_illegalOp_badWordAndHeldWrite :
    (Device.badWordAndHeldWrite.illegalOp 0).fld (Reg.CORE_FAULT 0) 15 0 = 0x0022 := by decide

/-- Refutes O14, in the clause on an uncorrectable word: on a sound device (`Device.badWordAndHeldWrite_sound`) the boundary of the halt completes
the held write's command, the walk for its completion ring corrects an error, and the count of that error adds 1 to the status in CORE_FAULT.
With no write held the status stands (`Device.status_illegalOp_of_badWord`). -/
theorem not_controlCoreFaults : ¬ Obligations.ControlCoreFaults := by
  intro h
  obtain ⟨_, hcannotRun⟩ := h
  obtain ⟨_, _, _, hbad, _⟩ := hcannotRun { dev := Device.badWordAndHeldWrite } 0 rfl rfl
  obtain ⟨d', hexec, _, hstatus⟩ := hbad (by decide) (by decide)
  have hdev : Device.badWordAndHeldWrite.illegalOp 0 = d' := congrArg State.dev (Host.Outcome.next.inj hexec)
  rw [← hdev] at hstatus
  exact absurd (Device.status_illegalOp_badWordAndHeldWrite.symm.trans hstatus) (by decide)

end Machine
end Sys2Proof
end
